-- ==== Sys2Proof/Word.lean ====
section
/-!
DEFINITION. The words of the machine: bytes, 64-bit words and the sparse table in which every numbered family
of units or bytes is held.
-/

namespace Sys2Proof

/-- One byte. -/
abbrev Byte := BitVec 8

/-- A 64-bit register or address. -/
abbrev Word := BitVec 64

/-- A numbered family held sparsely: pairs of a number and a value, numbers rising, no entry equal to what an
unlisted number reads as. -/
abbrev Tab (α : Type) := List (Nat × α)

/-- A byte-addressed memory in the same form (the host's cells); an unlisted address reads as zero. -/
abbrev Mem := Tab Byte

end Sys2Proof
end

