-- ==== Sys2Proof/Syntax.lean ====
section
/-!
DEFINITION. The commands of the block: one constructor for every row of the spec's opcode table, with the operands a
step of that kind needs from outside (log entry 3 says what an operand is and what it is not).
-/

namespace Sys2Proof

/-- How a read of host memory by the package ended (14:R435, 18:R553): the bytes; an error with its cause (0 completion
timeout, 1 UR, 2 CA); abandoned at a reset of the link, with the bytes that had come. -/
inductive DmaRes where
  | ok (b : List Byte)
  | error (cause : Nat)
  | abandoned (got : List Byte)
deriving DecidableEq, Repr, Inhabited

/-- The messages of one PTP sync and of the delay exchange after it, with the timestamps taken at the management port (03:R81; their
meaning is IEEE 1588-2019's, log entry 73). Times are in ns, corrections in 1/65536 ns. -/
structure PtpExchange where
  /-- domain number of the messages -/
  domain : Nat := 0
  /-- a two-step master: the precise origin time comes in a Follow_Up -/
  twoStep : Bool := false
  /-- origin time of the Sync -/
  origin : Nat := 0
  /-- precise origin time of the Follow_Up -/
  precise : Nat := 0
  /-- correction of the Sync, of the Follow_Up and of the Delay_Resp -/
  corrSync : Int := 0
  corrFollow : Int := 0
  corrResp : Int := 0
  /-- ns of Tempo from the Sync's arrival, and from the Delay_Req's departure, to the Delay_Resp's arrival, which is the row's moment -/
  ago2 : Nat := 0
  ago3 : Nat := 0
  /-- the master's time as the Delay_Req arrives, from the Delay_Resp -/
  t4 : Nat := 0
  /-- seconds by which the master's time is ahead of UTC -/
  utcAhead : Int := 0
deriving DecidableEq, Repr, Inhabited

/-- What a cold start finds: straps, supply, what the self-test of the part gives (17:R522, log entry 12). A site is C-die × 144 +
rank × 9 + file. -/
structure ColdObs where
  /-- SLOT straps (18:R541) -/
  slot : Nat := 0
  /-- VIN in mV at the release (17:R522) -/
  vin : Nat := 48000
  /-- ns of Tempo from the first PLL's lock to the last's (03:R109) -/
  pllSpan : Nat := 0
  /-- sites that fail the self-test -/
  failed : List Nat := []
  /-- highest step in MHz that a site passes; 1,750 where none is given (15:R462) -/
  passing : List (Nat × Nat) := []
  /-- dies found dead, by die code -/
  dead : List Nat := []
  /-- engine lanes found failed, one entry each: site × 2 + engine (0 matrix, 1 vector) -/
  lanes : List Nat := []
  /-- solver lanes found failed, one entry each: solver engine number -/
  solver : List Nat := []
  /-- P-die cores found failed -/
  cores : List Nat := []
  /-- S-die banks found failed: C-die × 256 + group × 8 + bank -/
  banks : List Nat := []
  /-- sensors found failed: die code × 64 + sensor -/
  sensors : List Nat := []
  /-- mesh lanes found failed: die codes of the two ends, a × 256 + b, one entry each -/
  mesh : List Nat := []
  /-- copies of N0 whose digest does not check though they were written whole: 2 × area + copy (17:R512, R524) -/
  badCopies : List Nat := []
deriving DecidableEq, Repr, Inhabited

/-- What came on the lanes of a port: the bytes, where no symbol of their codewords was wrong; or the codewords as received, the first
codeword of every lane first, with the payload bits of each lane that come before the bytes and the lane of the first byte (10:R302, R304,
11:R328, log entry 71). -/
structure LRecv where
  bytes : List Byte
  words : List (List Nat) := []
  skip : Nat := 0
  first : Nat := 0
deriving DecidableEq, Repr, Inhabited

/-- What a read of a line finds (09:R263): 0 no error, 1 one the check bits correct, 2 one they only find; the line, where it is an
access that reads it and not the patrol. -/
structure ScrubFound where
  ecc : Nat := 0
  line : Option Nat := none
  /-- a bank of its group whose line of the same row is unreadable too -/
  also : Option Nat := none
deriving DecidableEq, Repr, Inhabited

/-- A value written to one entry by a session (16:R489). -/
structure EntryWrite where
  session : Nat
  value : Nat
deriving DecidableEq, Repr, Inhabited

/-- A problem on a solver engine (07:R227): the engine number, and the place among the resident problems, oldest first. -/
structure SolverAt where
  engine : Nat
  place : Nat := 0
deriving DecidableEq, Repr, Inhabited

/-- The end of a solver problem (07:R215): where it runs, and the single-bit errors corrected in its working store meanwhile (07:R228). -/
structure SolverEnd where
  engine : Nat
  corrected : Nat := 0
  place : Nat := 0
deriving DecidableEq, Repr, Inhabited

/-- A PAP message on the management port: its UDP payload, where it came from and where it was sent (16:R489). -/
structure Datagram where
  bytes : List Byte
  /-- IPv6 address and UDP port of the sender -/
  addr : List Byte := []
  port : Nat := 0
  /-- IPv6 address and UDP port that it was sent to -/
  dst : List Byte
  dport : Nat := 29417
deriving DecidableEq, Repr, Inhabited


/-- A key exchange as root firmware sees it: the KEY_EXCHANGE message, and the export master secret that both sides hold after it
(17:R525, R526). -/
structure KeyExch where
  secret : List Byte
  request : List Byte := []
deriving DecidableEq, Repr, Inhabited

/-- A command: one row of the opcode table. -/
inductive Instr where
  /-- COLD_START, R522: Release of RESET_N with VAUX good and VIN in range starts the cold-start sequence: ROM, fuses, N0 reads, regulators, service firmware, self-test, castling, port training and the dictionary. -/
  | coldStart (o : ColdObs)
  /-- BOOT_EPOCH_TIMEOUT, R523: The boot-epoch commit cannot start within 20 s of t0, so a random epoch with bit 31 set is used. -/
  | bootEpochTimeout
  /-- CDC_FIFO_RELEASE, R109: At the first multiple of 4,096 ns at least 4,096 ns after the last PLL lock, every clock-domain-crossing FIFO is released at a fixed depth. -/
  | cdcFifoRelease
  /-- RESET_N_ASSERT, R541: RESET_N held low for 1 µs or more resets the package. -/
  | resetNAssert (ns : Nat)
  /-- VAUX_FAIL, R539: Loss of VAUX shuts the package down; the management domain continues on VHOLD only to finish an allowed commit. -/
  | vauxFail
  /-- REFCLK_LOSS, R544: REFCLK_MAIN stopped for more than 1 µs causes a shutdown with cause supply. -/
  | refclkLoss (ns : Nat)
  /-- ROOT_ANNOUNCE_TIMER, R76: Every 1 ms the acting root sends a root announcement on TC3 from every Atnik port. -/
  | rootAnnounceTimer
  /-- ROOT_ANNOUNCE, R367: A received root announcement updates the parent-port choice, ends a standalone or root role if it is better, and is forwarded if it arrived on the parent port. -/
  | rootAnnounce (n : Nat)
  /-- ROOT_TAKEOVER, R76: A candidate that has heard no announcement from a lower rank for 3 ms becomes the acting root, without stepping its counter. -/
  | rootTakeover
  /-- STANDALONE_ROOT, R76: A package with no root candidates that has heard no announcement for 3 ms becomes a standalone root and is LOCKED. -/
  | standaloneRoot
  /-- SYNC_EXCHANGE_TIMER, R77: Every 1 ms a non-root package sends SYNC_REQ on its parent port. -/
  | syncExchangeTimer
  /-- SYNC_REQ, R366: A received SYNC_REQ is answered with SYNC_RSP carrying t2 and t3. -/
  | syncReq (n : Nat)
  /-- SYNC_RSP, R77: A received SYNC_RSP yields an offset and delay sample that is rejected, gathered, used to step or used to adjust the counter rate. -/
  | syncRsp (n : Nat) (rFwd : Int)
  /-- TEMPO_HOLDOVER, R79: No accepted sample for 3 ms moves a LOCKED package to HOLDOVER. -/
  | tempoHoldover
  /-- TEMPO_DEGRADED, R79: After 10 ms of holdover the Y100 raises TEMPO_DEGRADED. -/
  | tempoDegraded
  /-- PTP_SYNC, R82: A PTP sync updates the UTC offset added to Tempo. -/
  | ptpSync (x : PtpExchange)
  /-- PTP_UNSYNCED, R120: Loss of PTP synchronisation marks timestamps unsynchronised and raises PTP_UNSYNCED. -/
  | ptpUnsynced
  /-- TICK_FIRE, R84: Tempo reaches the due time of tick n under the schedule in force. -/
  | tickFire (p : Nat)
  /-- RECORD_RING_ROOM, R115: Room returns in the record ring; a gap entry is written or a held member may proceed. -/
  | recordRingRoom (p : Nat) (off : Nat) (data : List Byte)
  /-- FRAME_START, R87: A member begins frame n at the latest of the tick, its tiles' frame-end commits, the arrival of report n−1 and the ring condition. -/
  | frameStart (p : Nat)
  /-- TICK_REPORT, R86: A combined tick report delivered to a member is checked for step and drives schedule moves and change or launch decisions. -/
  | tickReport (p : Nat) (idx : Nat)
  /-- TICK_REPORT_STALLED, R89: A tick report not delivered 50 ms after contribution puts the member in holding. -/
  | tickReportStalled (p : Nat)
  /-- LAUNCH_REPORT_STALLED, R85: Report −1 not delivered within 50 ms cancels the launch at that member with cause report stalled. -/
  | launchReportStalled (p : Nat)
  /-- RAMP_SLOT, R90: A tile's ramp slot arrives and the tile begins its frame work. -/
  | rampSlot (t : Nat)
  /-- TILE_INSTRUCTION, R121: The tile core executes an RV64IMC instruction, or raises illegal-instruction for an unimplemented one. -/
  | tileInstruction (t : Nat)
  /-- TILE_CSR_ACCESS, R123: A CSR instruction reads or writes a standard or vendor CSR, or raises illegal-instruction. -/
  | tileCsrAccess (t : Nat)
  /-- FENCE, R122: FENCE executes as a no-op on the tile core. -/
  | fence (t : Nat)
  /-- WFI, R122: WFI executes as a no-op on the tile core. -/
  | wfi (t : Nat)
  /-- FENCE_I, R122: FENCE.I raises an illegal-instruction exception. -/
  | fenceI (t : Nat)
  /-- ECALL, R122: ECALL on the tile core raises its standard exception. -/
  | ecall (t : Nat)
  /-- EBREAK, R122: EBREAK on the tile core raises its standard exception. -/
  | ebreak (t : Nat)
  /-- MRET, R125: MRET returns from a trap and clears trap-active. -/
  | mret (t : Nat)
  /-- SPECULATION_REGION_OPEN, R140: A conditional branch with an unavailable operand is predicted, registers are saved and a speculation region opens. -/
  | speculationRegionOpen (t : Nat)
  /-- BRANCH_RESOLVE, R142: The branch operand becomes available; a confirmed region closes and merges staging, a mispredicted one is squashed. -/
  | branchResolve (t : Nat)
  /-- MOVE_DSTORE_TO_LOCAL, R135: Move kind 0x01 copies from any package die store into the operand cache or data SRAM, with optional conversion. -/
  | moveDstoreToLocal (t : Nat)
  /-- MOVE_LOCAL_TO_DSTORE, R135: Move kind 0x02 is held and writes local data to a package die store at commit. -/
  | moveLocalToDstore (t : Nat)
  /-- MOVE_ACCUMULATE_INTO, R183: Move kind 0x03 is held and adds FP32 addends to die-store words at commit. -/
  | moveAccumulateInto (t : Nat)
  /-- MOVE_TIER_TO_DSTORE, R291: Move kind 0x06 is checked against the region and held, then copies packets of a sealed region into a landing area after commit. -/
  | moveTierToDstore (t : Nat)
  /-- MOVE_LOCAL_TO_REMOTE, R135: Move kind 0x07 is held and sends local data to another node's die store over the fabric after commit. -/
  | moveLocalToRemote (t : Nat)
  /-- MOVE_REMOTE_TO_LOCAL, R135: Move kind 0x08 reads another node's die store over the fabric into local memory. -/
  | moveRemoteToLocal (t : Nat)
  /-- MOVE_LOCAL_TO_LOCAL, R135: Move kind 0x09 copies between local ranges with optional conversion. -/
  | moveLocalToLocal (t : Nat)
  /-- ENGINE_OP_COMPLETE, R133: An immediate move finishes and its ticket takes its status. -/
  | engineOpComplete (t : Nat) (ticket : Nat)
  /-- VADD, R193: Vector operation a + b. -/
  | vadd (t : Nat)
  /-- VSUB, R193: Vector operation a − b. -/
  | vsub (t : Nat)
  /-- VMUL, R193: Vector operation a × b. -/
  | vmul (t : Nat)
  /-- VFMA, R193: Vector fused a × b + c. -/
  | vfma (t : Nat)
  /-- VFNMA, R193: Vector fused −(a × b) + c. -/
  | vfnma (t : Nat)
  /-- VMIN, R194: Vector IEEE minimum. -/
  | vmin (t : Nat)
  /-- VMAX, R194: Vector IEEE maximum. -/
  | vmax (t : Nat)
  /-- VABS, R193: Vector absolute value. -/
  | vabs (t : Nat)
  /-- VNEG, R193: Vector negation. -/
  | vneg (t : Nat)
  /-- VSQRT, R194: Vector square root at quarter rate. -/
  | vsqrt (t : Nat)
  /-- VRECIP, R195: Vector reciprocal; zero gives infinity with overflow. -/
  | vrecip (t : Nat)
  /-- VRSQRT, R195: Vector reciprocal square root. -/
  | vrsqrt (t : Nat)
  /-- VEXP, R193: Vector exponential, correctly rounded. -/
  | vexp (t : Nat)
  /-- VTANH, R193: Vector hyperbolic tangent, correctly rounded. -/
  | vtanh (t : Nat)
  /-- VSEGSUM, R195: One group sum per segment of p elements. -/
  | vsegsum (t : Nat)
  /-- VSEGMAX, R195: Maximum over each segment of p elements. -/
  | vsegmax (t : Nat)
  /-- VCVT, R196: Conversion between any two formats, with optional stochastic rounding and block scaling. -/
  | vcvt (t : Nat)
  /-- VFILL, R193: Fills dst with imm converted to the destination format. -/
  | vfill (t : Nat)
  /-- VSCAN, R193: Reads src0 and produces a summary only. -/
  | vscan (t : Nat)
  /-- VECTOR_OP_COMPLETE, R190: A vector operation completes in issue order; its results, flags and summary take effect. -/
  | vectorOpComplete (t : Nat)
  /-- YK_MXPB, R171: Copies micro-operations into a program-buffer bank, rejecting the active bank. -/
  | ykMxpb (t : Nat)
  /-- YK_MXRUN, R175: Issues a matrix run from its run descriptor. -/
  | ykMxrun (t : Nat)
  /-- MATRIX_RUN_START, R176: Once earlier runs and swaps are done the run is walked and then executed, or fails with DESC_INVALID. -/
  | matrixRunStart (t : Nat)
  /-- NOP, R167: Micro-operation that does nothing. -/
  | mNop (t : Nat)
  /-- SETR, R167: Micro-operation setting an address register or loop counter. -/
  | mSetr (t : Nat)
  /-- ADDR, R167: Micro-operation adding an immediate to an address register. -/
  | mAddr (t : Nat)
  /-- ZACC, R167: Micro-operation zeroing a set, giving it a kind and making it live. -/
  | mZacc (t : Nat)
  /-- LDACC, R167: Micro-operation loading a set from the operand cache. -/
  | mLdacc (t : Nat)
  /-- MMA, R168: Micro-operation accumulating A × B into a set in fixed groups. -/
  | mMma (t : Nat)
  /-- MMA_COMPLETE, R181: An MMA completes 126 cycles after its last input cycle. -/
  | mMmaComplete (t : Nat)
  /-- STACC, R167: Micro-operation storing a set, converted, to the operand cache, optionally clearing it. -/
  | mStacc (t : Nat)
  /-- LOOP, R167: Micro-operation decrementing a counter and branching. -/
  | mLoop (t : Nat)
  /-- END, R167: Micro-operation ending the run. -/
  | mEnd (t : Nat)
  /-- MATRIX_RUN_COMPLETE, R178: The run's ticket completes when END has executed and every STACC byte has arrived. -/
  | matrixRunComplete (t : Nat)
  /-- YK_MXSWAP, R172: Requests a program-buffer bank swap. -/
  | ykMxswap (t : Nat)
  /-- BANK_SWAP, R172: The swap is performed once earlier runs reach END and earlier YK.MXPB complete. -/
  | bankSwap (t : Nat)
  /-- YK_SOLVE, R210: Checks and holds a solver batch submission for commit. -/
  | ykSolve (t : Nat)
  /-- YK_COLL, R377: Checks an all-reduce descriptor and holds the contribution for commit. -/
  | ykColl (t : Nat)
  /-- YK_ELOAD, R153: Appends an entry-load entry for the next ply. -/
  | ykEload (t : Nat)
  /-- YK_WAIT, R129: Waits for one ticket and returns its status. -/
  | ykWait (t : Nat)
  /-- YK_WAITALL, R129: Waits for all tickets and returns the first non-DONE status. -/
  | ykWaitall (t : Nat)
  /-- YK_PLY, R154: Ply mark: waits for the region and engines, then commits the ply. -/
  | ykPly (t : Nat)
  /-- YK_FEND, R155: Frame end: commits the ply, marks the frame complete and may start a gambit ply. -/
  | ykFend (t : Nat)
  /-- YK_RELW, R138: Holds a release write of a 64-bit value to a die-store word. -/
  | ykRelw (t : Nat)
  /-- YK_WAITW, R139: Waits until a committed die-store word reaches a value. -/
  | ykWaitw (t : Nat)
  /-- WAITW_WAKE, R139: The awaited word reaches the value and its value is written to rd. -/
  | waitwWake (t : Nat)
  /-- WAITW_TIMEOUT, R139: A YK.WAITW that has waited 50 ms stops the tile with TILE_STOP cause 3. -/
  | waitwTimeout (t : Nat)
  /-- PLY_COMMIT, R94: The drained ply buffer reaches its commit point: die-store writes apply, the next record is written and queued sends, contributions and submissions are released. -/
  | plyCommit (t : Nat)
  /-- PLY_WATCHDOG, R96: A ply's active cycle count reaches the cap; the ply is discarded, the tile stopped and the member held. -/
  | plyWatchdog (t : Nat)
  /-- REPLAY, R95: An uncommitted ply is replayed: instruction SRAM reloaded, state restored from the record, entry loads performed. -/
  | replay (t : Nat)
  /-- OCACHE_SCRUB, R203: Scrub rewrites a corrected operand-cache line when its bank is idle. -/
  | ocacheScrub (t : Nat) (line : Nat) (meets : Bool)
  /-- OCACHE_UNCORRECTABLE, R203: An uncorrectable word in cache, staging or buffer ends the ply as a fault and replays it in place. -/
  | ocacheUncorrectable (t : Nat)
  /-- SOLVER_BATCH_START, R214: The engine takes a batch from its queue, reads and validates the header. -/
  | solverBatchStart (e : Nat)
  /-- SOLVER_PROBLEM_START, R227: A problem takes its slots and its input area is loaded. -/
  | solverProblemStart (e : Nat)
  /-- SOLVER_PROBLEM_COMPLETE, R217: A problem's output area and status record are written. -/
  | solverProblemComplete (e : SolverEnd)
  /-- SOLVER_BATCH_COMPLETE, R215: After all outputs and the header result, the done word is incremented. -/
  | solverBatchComplete (e : Nat)
  /-- SOLVER_STEP_REPEAT, R228: A residue mismatch substitutes a spare lane and repeats the step. -/
  | solverStepRepeat (e : SolverAt) (lane : Nat)
  /-- SOLVER_PROBLEM_RESTART, R228: An uncorrectable working-store error restarts the affected problem from its inputs. -/
  | solverProblemRestart (e : SolverAt)
  /-- SOLVER_ENGINE_REMAP, R229: An engine out of spare lanes is remapped to the adjacent rank's engine. -/
  | solverEngineRemap (e : Nat)
  /-- HART_INSTRUCTION, R233: A P-die hart executes an RVA23U64 instruction, including loads, stores and vector accesses through the shared cache. -/
  | hartInstruction (h : Nat)
  /-- THREAD_SWITCH, R242: A core switches to the next ready hart on a long access or after 256 cycles. -/
  | threadSwitch (c : Nat)
  /-- HART_ACCESS_COMPLETE, R242: A switched-out hart's access completes and the hart becomes ready. -/
  | hartAccessComplete (h : Nat)
  /-- YKV_SADU_VV, R239: Unsigned sum of absolute differences between two vectors. -/
  | ykvSaduVv (h : Nat)
  /-- YKV_SADS_VV, R239: Signed sum of absolute differences between two vectors. -/
  | ykvSadsVv (h : Nat)
  /-- YKV_SADU_VX, R239: Unsigned sum of absolute differences from a scalar. -/
  | ykvSaduVx (h : Nat)
  /-- YKV_SADS_VX, R239: Signed sum of absolute differences from a scalar. -/
  | ykvSadsVx (h : Nat)
  /-- YKV_SUMM, R240: Writes a tile-style summary of a vector's active elements. -/
  | ykvSumm (h : Nat)
  /-- YKV_SUMH, R241: Writes a handoff record as its own hart ply, handoff word last. -/
  | ykvSumh (h : Nat)
  /-- YK_HPLY, R244: Hart ply mark. -/
  | ykHply (h : Nat)
  /-- HART_PLY_CAP, R244: A hart ply reaching 40 µs of Tempo time receives a mark. -/
  | hartPlyCap (h : Nat)
  /-- HART_PLY_COMMIT, R245: The hart's buffer drains, its record and vector image are written and the commit point is made. -/
  | hartPlyCommit (h : Nat)
  /-- AMOADD, R254: Commutative atomic add at the home slice. -/
  | amoadd (h : Nat)
  /-- AMOAND, R254: Commutative atomic AND at the home slice. -/
  | amoand (h : Nat)
  /-- AMOOR, R254: Commutative atomic OR at the home slice. -/
  | amoor (h : Nat)
  /-- AMOXOR, R254: Commutative atomic XOR at the home slice. -/
  | amoxor (h : Nat)
  /-- AMOMIN, R254: Commutative atomic signed minimum. -/
  | amomin (h : Nat)
  /-- AMOMAX, R254: Commutative atomic signed maximum. -/
  | amomax (h : Nat)
  /-- AMOMINU, R254: Commutative atomic unsigned minimum. -/
  | amominu (h : Nat)
  /-- AMOMAXU, R254: Commutative atomic unsigned maximum. -/
  | amomaxu (h : Nat)
  /-- AMOSWAP, R254: Atomic swap, compare-and-swap class. -/
  | amoswap (h : Nat)
  /-- AMOCAS_W, R254: 32-bit atomic compare-and-swap. -/
  | amocasW (h : Nat)
  /-- AMOCAS_D, R254: 64-bit atomic compare-and-swap. -/
  | amocasD (h : Nat)
  /-- AMOCAS_Q, R254: 128-bit atomic compare-and-swap. -/
  | amocasQ (h : Nat)
  /-- LR, R256: Load-reserved at the home slice places a reservation. -/
  | lr (h : Nat)
  /-- SC, R256: Store-conditional as its own hart ply succeeds only with a reservation. -/
  | sc (h : Nat)
  /-- LR_RESERVATION_TIMEOUT, R256: A reservation is lost 4,096 core cycles after the LR. -/
  | lrReservationTimeout (h : Nat)
  /-- HART_TIMER_INTERRUPT, R235: A timer interrupt is taken at the first hart ply mark at or after the tick whose nominal time reaches stimecmp. -/
  | hartTimerInterrupt (h : Nat)
  /-- SCACHE_INVALIDATION, R252: An S-die invalidation makes the home slice drop its copy and every level-1 copy, then acknowledge. -/
  | scacheInvalidation (line : Nat)
  /-- SCACHE_ECC_ERROR, R253: A shared-cache error is corrected, or invalidates the way and serves a miss. -/
  | scacheEccError (slice : Nat) (set : Nat) (way : Nat) (kind : Nat)
  /-- CORE_FAILURE, R247: A failed core's uncommitted hart plies are discarded and its harts resume on a spare core. -/
  | coreFailure (c : Nat)
  /-- SBI_BASE, R531: SBI Base extension calls. -/
  | sbiBase (h : Nat)
  /-- SBI_SET_TIMER, R531: Writes stimecmp in nominal time. -/
  | sbiSetTimer (h : Nat)
  /-- SBI_SEND_IPI, R531: Sends an IPI to harts of the caller's partition. -/
  | sbiSendIpi (h : Nat)
  /-- SBI_REMOTE_FENCE, R531: Remote fences within the partition. -/
  | sbiRemoteFence (h : Nat)
  /-- SBI_HART_GET_STATUS, R531: Returns a hart's status. -/
  | sbiHartGetStatus (h : Nat)
  /-- SBI_HART_SUSPEND, R531: Retentive hart suspend. -/
  | sbiHartSuspend (h : Nat)
  /-- SBI_HART_START_STOP, R531: hart_start and hart_stop return SBI_ERR_NOT_SUPPORTED. -/
  | sbiHartStartStop (h : Nat)
  /-- SBI_SYSTEM_RESET, R531: SRST calls return SBI_ERR_DENIED. -/
  | sbiSystemReset (h : Nat)
  /-- SBI_FABRIC_ERROR, R531: Returns the Atnik code and node of the hart's last fabric access fault. -/
  | sbiFabricError (h : Nat)
  /-- SBI_MEMBER_RANK, R531: Returns the member rank. -/
  | sbiMemberRank (h : Nat)
  /-- SBI_HART_INDEX, R531: Returns the hart index. -/
  | sbiHartIndex (h : Nat)
  /-- DSTORE_WRITE_APPLY, R265: An S-die applies an arriving write, once, with parity, in tie order. -/
  | dstoreWriteApply (die : Nat) (n : Nat)
  /-- DSTORE_PATROL_SCRUB, R263: The patrol scrub reads every line once per period. -/
  | dstorePatrolScrub (die : Nat) (found : ScrubFound)
  /-- DSTORE_BANK_FAIL, R263: A failed bank is read by reconstruction and rebuilt into a spare bank. -/
  | dstoreBankFail (die : Nat) (bank : Nat)
  /-- DSTORE_BANK_REBUILD_DONE, R263: The rebuild completes and root firmware commits the bank map. -/
  | dstoreBankRebuildDone (die : Nat) (bank : Nat)
  /-- DSTORE_CLEAR_DONE, R266: An S-die finishes zeroing its window after assignment. -/
  | dstoreClearDone (die : Nat)
  /-- REGION_CLOSE_DONE, R274: A closing region's last reference ends and it becomes free or loading. -/
  | regionCloseDone (r : Nat)
  /-- TIER_PACKET_LANDED, R293: A packet read from the bricks lands as a panel; after the last one the completion word is incremented. -/
  | tierPacketLanded (job : Nat)
  /-- HART_TIER_LOAD, R294: A hart load from a sealed region decodes the whole packet. -/
  | hartTierLoad (h : Nat)
  /-- LENPEL_REBUILD_DONE, R323: The rebuild of every touched stripe onto a new brick completes. -/
  | lenpelRebuildDone (q : Nat)
  /-- LENPEL_PRESENCE_ASSERT, R313: A brick's presence asserts and the port enters DETECT. -/
  | lenpelPresenceAssert (q : Nat)
  /-- LENPEL_DETECT_TIMER, R314: Presence steady for 10 ms releases reset and enters TRAIN. -/
  | lenpelDetectTimer (q : Nat)
  /-- LENPEL_TRAIN_DONE, R313: Every lane adapted and codeword-locked moves the port to ALIGN. -/
  | lenpelTrainDone (q : Nat)
  /-- LENPEL_TRAIN_TIMEOUT, R313: Training not done in 500 ms fails the port. -/
  | lenpelTrainTimeout (q : Nat)
  /-- LENPEL_ALIGN_DONE, R313: Lanes deskewed move the port to DISCOVER. -/
  | lenpelAlignDone (q : Nat) (rtt : Nat)
  /-- LENPEL_ALIGN_TIMEOUT, R313: Alignment not done in 1 ms fails the port. -/
  | lenpelAlignTimeout (q : Nat)
  /-- DISCOVERY, R316: A DISCOVERY frame is checked; the brick is accepted with PORT_RECORD or refused. -/
  | discovery (q : Nat) (f : LRecv)
  /-- READ_DATA, R318: A READ_DATA frame delivers units of a tag's read. -/
  | readData (q : Nat) (f : LRecv)
  /-- WRITE_ACK, R319: A WRITE_ACK frees the tag of an acknowledged write. -/
  | writeAck (q : Nat) (f : LRecv)
  /-- LENPEL_NAK, R310: A NAK causes every sequenced frame after ack to be resent, possibly triggering a retrain. -/
  | lenpelNak (q : Nat) (f : LRecv)
  /-- LENPEL_IDLE, R308: An IDLE frame carries an acknowledgement and may be discarded. -/
  | lenpelIdle (q : Nat) (f : LRecv)
  /-- LENPEL_RETRAIN_TIMEOUT, R322: A retrain not back to ACTIVE in 2 ms enters TRAIN and makes the brick stale. -/
  | lenpelRetrainTimeout (q : Nat)
  /-- LENPEL_PRESENCE_LOST, R313: Presence lost takes the port DOWN, loses reads in flight and makes the brick stale. -/
  | lenpelPresenceLost (q : Nat)
  /-- LENPEL_READ_LOST, R320: A read not completed within its time limit is lost and rebuilt; three in 1 ms fail the port. -/
  | lenpelReadLost (q : Nat) (tag : Nat)
  /-- LENPEL_WRITE_ACK_TIMEOUT, R320: A write unacknowledged for 100 µs fails the port. -/
  | lenpelWriteAckTimeout (q : Nat) (tag : Nat)
  /-- LENPEL_ENABLE_WRITE, R324: Writing lenpel.enable takes a port down for service, refused if the group is degraded. -/
  | lenpelEnableWrite (q : Nat) (w : EntryWrite)
  /-- ATNIK_SIGNAL_DETECT, R335: An enabled port detecting signal enters TRAIN. -/
  | atnikSignalDetect (n : Nat)
  /-- ATNIK_TRAIN_DONE, R335: Lanes adapted and aligned move the port to IDENTIFY. -/
  | atnikTrainDone (n : Nat) (bad : Nat)
  /-- ATNIK_TRAIN_TIMEOUT, R335: Training not done in 500 ms fails the port. -/
  | atnikTrainTimeout (n : Nat)
  /-- TRAIN_ID, R337: A TRAIN_ID record is checked; the partner is accepted, returned or new, or refused. -/
  | trainId (n : Nat) (record : LRecv)
  /-- ATNIK_IDENTIFY_TIMEOUT, R335: No accepted TRAIN_ID exchange in 1 ms returns the port to TRAIN. -/
  | atnikIdentifyTimeout (n : Nat)
  /-- ATNIK_LOSS, R335: Loss of codeword lock or 1 µs without a good envelope puts the port in ABSENT and resends affected requests elsewhere. -/
  | atnikLoss (n : Nat)
  /-- ATNIK_RETRAIN_TIMEOUT, R335: A retrain not aligned within 2 ms goes to ABSENT. -/
  | atnikRetrainTimeout (n : Nat)
  /-- RETURN_WINDOW_EXPIRY, R364: The return window ends without return, making the partner new and the port TRAIN. -/
  | returnWindowExpiry (n : Nat)
  /-- ATNIK_LANE_FAIL, R330: A failed lane retrains the port at half width. -/
  | atnikLaneFail (n : Nat) (lane : Nat)
  /-- ATNIK_ENABLE_WRITE, R335: Writing atnik.enable takes a port down or restarts training. -/
  | atnikEnableWrite (n : Nat) (w : EntryWrite)
  /-- ATNIK_DATA_ENVELOPE, R332: A DATA envelope is checked by CRC, tag and link sequence, acknowledged and its packet dispatched. -/
  | atnikDataEnvelope (n : Nat) (link : LRecv) (body : List Byte)
  /-- ATNIK_NAK, R332: A received NAK resends unacknowledged envelopes, possibly entering RETRAIN. -/
  | atnikNak (n : Nat) (link : LRecv)
  /-- ATNIK_IDLE, R332: An IDLE envelope carries acknowledgement and credits. -/
  | atnikIdle (n : Nat) (link : LRecv)
  /-- RD, R347: A remote 64 B read request is checked and answered with RSP. -/
  | rd (n : Nat)
  /-- WR, R351: A remote 64 B write is checked, applied once in sequence and acknowledged. -/
  | wr (n : Nat)
  /-- RD_BULK, R339: A bulk read request is answered with 64–256 B. -/
  | rdBulk (n : Nat)
  /-- WR_BULK, R352: A bulk write is applied once within its window and acknowledged. -/
  | wrBulk (n : Nat)
  /-- ATOMIC, R357: A remote atomic is passed to its home F-die, applied once through the once-table and answered. -/
  | atomic (n : Nat)
  /-- RSP, R349: A response completes its request; a non-OK code reaches software or holds the member. -/
  | rsp (n : Nat)
  /-- ACK, R351: An ACK completes writes or names the expected sequence for resending. -/
  | ack (n : Nat)
  /-- RETRY, R358: A RETRY from a full once-table makes the source resend after 1 µs. -/
  | retry (n : Nat)
  /-- ONCE_RELEASE, R358: The home F-die frees the once-table entry. -/
  | onceRelease (n : Nat)
  /-- ONCE_ENTRY_EXPIRY, R358: An entry is freed after twice the return window since its result was last sent. -/
  | onceEntryExpiry (f : Nat)
  /-- E2E_RETRY_TIMER, R351: An unacknowledged request is resent after atnik.e2e_retry_us, or completes DEST_UNREACHABLE. -/
  | e2eRetryTimer (r : Nat)
  /-- CONTEXT_IDLE_TIMER, R350: An idle pair context is freed and CLOSE is sent. -/
  | contextIdleTimer (node : Nat)
  /-- CLOSE, R366: A received CLOSE makes both ends forget the pair context. -/
  | close (n : Nat)
  /-- LINK_NOTICE, R344: A LINK_NOTICE removes or restores a port for a node range and resends affected requests. -/
  | linkNotice (n : Nat)
  /-- CANCEL, R361: A cancel removes ungranted packets of a message; granted ones stand. -/
  | cancel (msg : Nat)
  /-- LINK_REKEY, R371: Link keys are replaced every 2^32 envelopes or 60 s. -/
  | linkRekey (n : Nat) (secret : List Byte)
  /-- LINK_SESSION_SETUP, R527: Root firmware forms an SPDM session with a link peer and derives the link key. -/
  | linkSessionSetup (n : Nat) (secret : List Byte) (identity : Nat)
  /-- COLL_ADMIT, R393: The first local contribution, or a waiting one when a base slot frees, admits the collective and checks the member list. -/
  | collAdmit (p : Nat)
  /-- WINDOW_SLOT_GRANT, R394: At a segment boundary free window slots go to the lowest sequence number ready. -/
  | windowSlotGrant (p : Nat) (f : Nat)
  /-- GRANT, R395: A GRANT allows a child to send segments up. -/
  | grant (n : Nat)
  /-- HDR_UP, R396: A child's header is checked and combined. -/
  | hdrUp (n : Nat)
  /-- HDR_DOWN, R399: The root's header gives lateness fields for the record. -/
  | hdrDown (n : Nat)
  /-- EXP_UP, R388: Pass-1 values from a child are combined. -/
  | expUp (n : Nat)
  /-- EXP_DOWN, R388: The root's pass-1 values arrive and pass 2 may begin. -/
  | expDown (n : Nat)
  /-- DATA_UP, R386: A child's working-form values are combined into the running value. -/
  | dataUp (n : Nat)
  /-- DATA_DOWN, R391: Result bits are written, forwarded to children and chunks flagged. -/
  | dataDown (n : Nat)
  /-- RESEND, R395: A parent asks a child to resend segments. -/
  | resend (n : Nat)
  /-- ABORT, R398: A received ABORT aborts the collective locally. -/
  | abort (n : Nat)
  /-- COLL_STALEMATE, R397: 50 ms without progress aborts the collective with STALEMATE. -/
  | collStalemate (p : Nat) (seq : Nat)
  /-- REDUCTION_ECC_ERROR, R400: An uncorrectable reduction-memory error causes RESEND and rereading. -/
  | reductionEccError (p : Nat) (seq : Nat) (chunk : Nat) (corrected : Bool)
  /-- SITE_HEARTBEAT_TIMEOUT, R407: 700 ns without a site beat declares the site failed. -/
  | siteHeartbeatTimeout (t : Nat)
  /-- TILE_CORE_CHECKER, R407: Parity or PC checker error declares the site failed. -/
  | tileCoreChecker (t : Nat)
  /-- MATRIX_RESIDUE_MISMATCH, R407: A matrix residue mismatch declares a column event. -/
  | matrixResidueMismatch (t : Nat) (lane : Nat)
  /-- VECTOR_RESIDUE_MISMATCH, R407: A vector residue mismatch declares a lane event. -/
  | vectorResidueMismatch (t : Nat) (lane : Nat)
  /-- CASTLING_COMMIT, R409: Root firmware validates and commits the site-map entry, then the spare is clocked, released and set up for replay. -/
  | castlingCommit (t : Nat)
  /-- CORE_CHECKER, R407: Core checker or 1 µs heartbeat miss declares a P-die core failed. -/
  | coreChecker (c : Nat)
  /-- MESH_LANE_FAIL, R413: A mesh edge lane fails; a spare is substituted and in-flight transfers resent. -/
  | meshLaneFail (a : Nat) (b : Nat)
  /-- THERMAL_SENSOR_CHECK, R407: Every 100 µs sensors are checked for plausibility and failed ones excluded. -/
  | thermalSensorCheck (d : Nat)
  /-- FAULT_MAP_COMMIT, R417: Root firmware commits the fault map to N0 under hold-up rules. -/
  | faultMapCommit
  /-- GUARANTEE_YIELDED, R423: At an episode's end or 1 s mark, a yielded guarantee is reported. -/
  | guaranteeYielded (p : Nat)
  /-- CMDQ_TAIL_WRITE, R433: The command doorbell makes the Y100 read and start queued commands, or stop the queue on a bad tail. -/
  | cmdqTailWrite (k : Nat) (p : Nat) (tail : Nat) (read : DmaRes)
  /-- CPLQ_HEAD_WRITE, R433: The host frees completion slots. -/
  | cplqHeadWrite (k : Nat) (p : Nat) (head : Nat)
  /-- QUEUE_CFG_WRITE, R433: Enabling or disabling a queue, stopping it on a bad size or clearing a stop. -/
  | queueCfgWrite (k : Nat) (p : Nat) (off : Nat) (v : Nat)
  /-- INPUT_DB_WRITE, R436: An input doorbell value is queued for application at the next tick. -/
  | inputDbWrite (k : Nat) (p : Nat) (w : Nat) (v : Nat)
  /-- COMPLETION_POST, R433: A completion is posted into a free slot, waiting while the queue is full. -/
  | completionPost (p : Nat)
  /-- LOAD_BEGIN, R426: Checks composition, assigns harts and starts the die-store clear. -/
  | loadBegin (p : Nat)
  /-- DSTORE_WRITE, R434: Writes host data into the partition's die store. -/
  | dstoreWrite (p : Nat) (data : DmaRes)
  /-- DSTORE_READ, R434: Reads committed die-store contents to the host. -/
  | dstoreRead (p : Nat)
  /-- LOAD_COMMIT, R439: Checks the load image and writes records, making the partition ready. -/
  | loadCommit (p : Nat)
  /-- LAUNCH, R440: Accepts or refuses a launch record and contributes tick report −1. -/
  | launch (p : Nat) (rec_ : DmaRes)
  /-- STAGE, R105: Accepts a change record for frame N or refuses it. -/
  | stage (p : Nat)
  /-- INPUT_WRITE, R436: Host input bytes written to the die store at a tick, or refused late. -/
  | inputWrite (p : Nat) (data : DmaRes)
  /-- REGION_CREATE, R277: Creates a region, evicting borrowed regions or refusing with POOL_FULL. -/
  | regionCreate (p : Nat)
  /-- REGION_SEAL, R273: Seals a loading region, at a tick while running. -/
  | regionSeal (p : Nat)
  /-- REGION_UNSEAL, R273: Unseals a sealed region via closing to loading. -/
  | regionUnseal (p : Nat)
  /-- REGION_DESTROY, R273: Destroys a region via closing to free. -/
  | regionDestroy (p : Nat)
  /-- REGION_PIN, R434: Pins or unpins a region under the pool invariant. -/
  | regionPin (p : Nat)
  /-- PACKET_WRITE, R295: Host writes whole packets into a loading region. -/
  | packetWrite (p : Nat) (data : DmaRes)
  /-- PACKET_READ, R295: Host reads whole packets from a sealed region. -/
  | packetRead (p : Nat)
  /-- PREEMPT, R447: Stages a pre-emption checkpoint stop with a deadline. -/
  | preempt (p : Nat)
  /-- RESTORE, R452: Reads and checks checkpoint streams and writes them back. -/
  | restore (p : Nat) (list : DmaRes)
  /-- ROLLBACK, R431: Stops, cancels and clears the partition, leaving it loading. -/
  | rollback (p : Nat)
  /-- RESUME, R430: Resumes a member held by TICK_REPORT_STALLED. -/
  | resume (p : Nat)
  /-- UNLOAD, R431: Stops the partition, frees its regions and releases its composition. -/
  | unload (p : Nat)
  /-- CUT_REPORT_CONTRIBUTE, R448: Once drains finish the member contributes its cut report. -/
  | cutReportContribute (p : Nat)
  /-- CUT_REPORT, R448: The combined cut report arrives and stream writing begins. -/
  | cutReport (p : Nat) (n : Nat)
  /-- CHECKPOINT_DONE, R448: The stream is written, regions sealed and the partition continues or holds. -/
  | checkpointDone (p : Nat)
  /-- CAPTURE_LIMIT_TIMEOUT, R448: Capture exceeding ckpt.capture_limit_ms fails and holds the partition. -/
  | captureLimitTimeout (p : Nat)
  /-- CHECKPOINT_LATE, R447: A pre-emption checkpoint not captured by its deadline. -/
  | checkpointLate (p : Nat)
  /-- VIN_SAMPLE, R460: Every 1 µs VIN is monitored and energy integrated. -/
  | vinSample (mv : Nat) (ma : Nat) (auxMw : Nat)
  /-- FAST_LOOP_SAMPLE, R465: Every 1 µs currents are compared with limits and issue duty is halved or raised. -/
  | fastLoopSample (mas : List Nat)
  /-- POWER_CAP_LOOP, R464: Every 1 ms the package frequency target and slope are updated. -/
  | powerCapLoop (debt : Nat)
  /-- FREQUENCY_STEP, R461: A frequency change reaches tiles one step per 1 µs. -/
  | frequencyStep (t : Nat)
  /-- BRAKE_ASSERTED, R466: PWR_BRAKE_N low for 1 µs activates the brake cap. -/
  | brakeAsserted
  /-- BRAKE_RELEASED, R466: PWR_BRAKE_N high for 1 µs releases the brake. -/
  | brakeReleased
  /-- DROOP_DETECT, R468: A rail below 95 % stretches clock cycles of its ranks. -/
  | droopDetect (die : Nat) (det : Nat)
  /-- DROOP_RELEASE, R468: A rail above 97 % for 32 cycles ends stretching. -/
  | droopRelease (die : Nat) (det : Nat)
  /-- THERMAL_SAMPLE, R469: Every 10 µs die temperatures are read and throttling or a trip acted on. -/
  | thermalSample (die : Nat) (codes : List Nat)
  /-- THERMAL_STEP, R469: A throttled die's ceiling falls every 100 µs or rises every 1 ms. -/
  | thermalStep (die : Nat)
  /-- REGULATOR_PHASE_LOST, R460: A failed phase is shed and the regulator's limit lowered. -/
  | regulatorPhaseLost (reg : Nat)
  /-- DICTIONARY_CYCLE, R483: Every 100 µs renewals, reads, writes, safety actions, releases, expiries and claims are decided in order. -/
  | dictionaryCycle
  /-- READ, R493: A PAP READ returns values or descriptions of entries. -/
  | read (d : Datagram)
  /-- WRITE, R494: A PAP WRITE checks all items and applies them in order, or none. -/
  | write (d : Datagram)
  /-- DICT_ENTRY_WRITE, R478: Write of a dictionary entry with no behaviour of its own. -/
  | dictEntryWrite (sess : Nat) (idx : Nat) (sub : Nat) (val : List Byte)
  /-- CLAIM, R484: A CLAIM makes the session's principal owner if there is none. -/
  | claim (d : Datagram)
  /-- RENEW, R485: A RENEW extends the lease, or opens an I3C session. -/
  | renew (d : Datagram)
  /-- HANDOVER, R486: Makes the target session's principal owner. -/
  | handover (d : Datagram)
  /-- RELEASE, R486: Leaves the package without an owner. -/
  | release (d : Datagram)
  /-- SUBSCRIBE, R503: Sets a session's subject mask and telemetry. -/
  | subscribe (d : Datagram)
  /-- OWNER_LEASE_EXPIRED, R485: The lease ends, ownership lapses and ALERT_N bit 3 is set. -/
  | ownerLeaseExpired
  /-- SESSION_TIMEOUT, R482: A session silent for 60 s ends. -/
  | sessionTimeout (sess : Nat)
  /-- BLOB_FRAGMENT_TIMEOUT, R494: An unfinished BLOB write expires after 1 s. -/
  | blobFragmentTimeout (sess : Nat)
  /-- TELEMETRY, R503: Each telemetry period a TELEMETRY event carries mirror values. -/
  | telemetry (sess : Nat)
  /-- SAVED_ENTRY_COMMIT, R480: Pending saved entries are committed within 2 s of the first pending write. -/
  | savedEntryCommit
  /-- PERSIST_COMMIT, R480: Writing 1 to persist.commit commits pending entries at once. -/
  | persistCommit (sess : Nat) (v : Nat)
  /-- PERSIST_DEFAULTS, R480: Writing persist.defaults makes saved entries take defaults at the next reset. -/
  | persistDefaults (sess : Nat) (v : Nat)
  /-- OWN_EXPERT_GRANT, R479: Grants expert access to a session. -/
  | ownExpertGrant (sess : Nat) (target : Nat)
  /-- OWN_EXPERT_REVOKE, R479: Revokes a session's expert grant. -/
  | ownExpertRevoke (sess : Nat) (target : Nat)
  /-- OWN_DELEGATE, R487: Delegates or revokes a partition to a session. -/
  | ownDelegate (sess : Nat) (p : Nat) (target : Nat)
  /-- MGMT_ALERT_CLEAR, R506: Clears ALERT_N cause bits. -/
  | mgmtAlertClear (sess : Nat) (v : Nat)
  /-- POWER_CAP_W_WRITE, R463: A new power cap applies from the next 1 ms boundary. -/
  | powerCapWWrite (sess : Nat) (w : Nat)
  /-- TIER_FLOOR_EXTENTS_WRITE, R275: Sets a partition's floor, refused if invariants break. -/
  | tierFloorExtentsWrite (sess : Nat) (p : Nat) (v : Nat)
  /-- PARTITION_PORT_WRITE, R549: Binds an empty partition to a PCIe port. -/
  | partitionPortWrite (sess : Nat) (mask : Nat)
  /-- MB_GO, R499: Writing go sends the mailbox request and a response becomes ready. -/
  | mbGo (k : Nat) (ctrl : Nat) (len : Nat) (req : List Byte)
  /-- MB_STATUS_CLEAR, R498: W1C clear of mailbox status bits. -/
  | mbStatusClear (k : Nat) (v : Nat)
  /-- EVT_POP, R498: Discards the head event of the mailbox queue. -/
  | evtPop (k : Nat)
  /-- I3C_PRIVATE_WRITE, R501: An I3C private write carries one PAP request. -/
  | i3cPrivateWrite (msg : List Byte)
  /-- I3C_PRIVATE_READ, R501: Returns the pending response, the head event, or a NACK. -/
  | i3cPrivateRead
  /-- ENTDAA, R500: I3C dynamic address assignment. -/
  | entdaa (addr : Nat)
  /-- SETDASA, R500: Assigns a dynamic address from the static address. -/
  | setdasa (static : Nat) (addr : Nat)
  /-- RSTDAA, R500: Resets the dynamic address. -/
  | rstdaa
  /-- ENEC, R500: Enables in-band interrupts. -/
  | enec (ev : Nat)
  /-- DISEC, R500: Disables in-band interrupts. -/
  | disec (ev : Nat)
  /-- SETMWL, R500: Sets the maximum write length. -/
  | setmwl (v : Nat)
  /-- SETMRL, R500: Sets the maximum read length. -/
  | setmrl (v : Nat)
  /-- GETMWL, R500: Returns the maximum write length. -/
  | getmwl
  /-- GETMRL, R500: Returns the maximum read length. -/
  | getmrl
  /-- GETPID, R500: Returns the provisional ID. -/
  | getpid
  /-- GETBCR, R500: Returns BCR 0x06. -/
  | getbcr
  /-- GETDCR, R500: Returns DCR 0x00. -/
  | getdcr
  /-- GETSTATUS, R500: Returns target status. -/
  | getstatus
  /-- RSTACT, R500: Sets the target reset action. -/
  | rstact (v : Nat)
  /-- NEIGHBOR_DISCOVERY, R489: Answers IPv6 Neighbor Discovery on the management port. -/
  | neighborDiscovery (frame : List Byte)
  /-- ICMPV6_ECHO, R489: Answers ICMPv6 echo on the management port. -/
  | icmpv6Echo (frame : List Byte)
  /-- SERVICE_REQUEST, R509: Root firmware checks and applies or refuses a service-firmware request. -/
  | serviceRequest (kind : Nat) (a : Nat) (b : Nat) (data : List Byte)
  /-- SERVICE_HEARTBEAT_TIMEOUT, R511: 1 s without heartbeat restarts service firmware, extending leases. -/
  | serviceHeartbeatTimeout
  /-- HOLDUP_ESTIMATE, R514: Every 1 ms the voltage and charge estimates of the hold-up bank are formed and checked for conflict. -/
  | holdupEstimate (mv : Nat) (ma : Int)
  /-- HOLDUP_DEFERRED, R515: A commit waiting more than 100 ms raises HOLDUP_DEFERRED once. -/
  | holdupDeferred
  /-- N0_COMMIT, R512: A commit to N0 starts once hold-up energy suffices, writing the older copy and its trailer. -/
  | n0Commit
  /-- FW_UPDATE_SLOT, R520: Selects the target slot for an update. -/
  | fwUpdateSlot (sess : Nat) (v : Nat)
  /-- FW_UPDATE_OFFSET, R520: Sets the update offset. -/
  | fwUpdateOffset (sess : Nat) (v : Nat)
  /-- FW_UPDATE_CHUNK, R520: Places a 4,096-byte chunk and advances the offset. -/
  | fwUpdateChunk (sess : Nat) (data : List Byte)
  /-- FW_UPDATE_COMMIT, R520: Verifies the slot and commits its header or rejects it. -/
  | fwUpdateCommit (sess : Nat) (v : Nat)
  /-- SEC_UNLOCK, R528: An unlock record is verified and applies an RWL value or is refused. -/
  | secUnlock (sess : Nat) (record : List Byte)
  /-- GET_CERTIFICATE, R525: SPDM request returning the slot 0 chain. -/
  | getCertificate (ch : Nat) (slot : Nat) (off : Nat) (len : Nat)
  /-- CHALLENGE, R525: SPDM challenge signed by the alias key. -/
  | challenge (ch : Nat) (slot : Nat) (nonce : List Byte)
  /-- GET_MEASUREMENTS, R525: Returns M1–M4. -/
  | getMeasurements (ch : Nat) (idx : Nat) (sign : Bool) (nonce : List Byte)
  /-- KEY_EXCHANGE, R526: Establishes an SPDM session and derives PAP keys. -/
  | keyExchange (ch : Nat) (sid : Nat) (leaf : List Byte) (ca : List Byte) (mutual_ : Bool) (kx : KeyExch)
  /-- KEY_UPDATE, R525: Updates SPDM session keys. -/
  | keyUpdate (sid : Nat)
  /-- HEARTBEAT, R525: SPDM session heartbeat. -/
  | heartbeat (sid : Nat)
  /-- PERST_N, R553: PERST_N low resets a PCIe port's functions and its mailbox sessions, partitions unaffected. -/
  | perstN (k : Nat) (low : Bool)
  /-- PCIE_HOT_RESET, R553: A hot reset, link disable or link loss resets a port's registers. -/
  | pcieHotReset (k : Nat) (cause : Nat)
  /-- PCIE_FLR, R553: A function-level reset of a PF or VF resets its registers and queues. -/
  | pcieFlr (k : Nat) (fn : Nat)
  /-- PCIE_CONFIG_REQUEST, R552: Configuration requests answered with retry status until service firmware starts. -/
  | pcieConfigRequest (k : Nat) (off : Nat) (vfs : Option Nat)
  /-- EXTEST, R556: Boundary-scan EXTEST, enabling SerDes regulators while in reset. -/
  | extest (cells : Nat) (dc : Nat) (ac : Nat)
  /-- SAMPLE, R554: Boundary-scan SAMPLE. -/
  | sample (dc : Nat) (ac : Nat)
  /-- PRELOAD, R554: Boundary-scan PRELOAD. -/
  | preload (cells : Nat)
  /-- IDCODE, R554: Returns id.jtag_idcode. -/
  | idcode
  /-- CLAMP, R554: Boundary-scan CLAMP. -/
  | clamp
  /-- HIGHZ, R554: Boundary-scan HIGHZ. -/
  | highz
  /-- EXTEST_PULSE, R556: IEEE 1149.6 EXTEST_PULSE on AC lanes. -/
  | extestPulse (cells : Nat) (dc : Nat) (ac : Nat)
  /-- EXTEST_TRAIN, R556: IEEE 1149.6 EXTEST_TRAIN on AC lanes. -/
  | extestTrain (cells : Nat) (dc : Nat) (ac : Nat)
  /-- BYPASS, R554: Boundary-scan BYPASS, also for unknown codes. -/
  | bypass
  /-- PCIE_LINK_UP, R552: A PCIe port completes link training, raising PCIE_LINK_UP and letting waiting completion postings resume. -/
  | pcieLinkUp (k : Nat) (rate : Nat) (width : Nat) (flit : Bool)
  /-- DIE_FAILURE, R415: Loss of a whole C-, S-, P-, F-, T-, M- or N-die faults every partition, stops the package or disables fault-map commits. -/
  | dieFailure (d : Nat)
  /-- SERVICE_RESTARTED, R511: Service firmware finishes its restart; waiting host queues and PAP requests are served and leases are extended by the restart's length. -/
  | serviceRestarted
  /-- N0_COMMIT_COMPLETE, R512: A commit to N0 finishes writing its trailer, clearing pending entries, setting persist.last_commit and making a slot bootable. -/
  | n0CommitComplete
  /-- END_SESSION, R482: An SPDM END_SESSION ends the PAP session together with its expert grant and delegations. -/
  | endSession (sid : Nat)
  /-- TRST_N, R554: TRST_N low resets the test access port, dropping any EXTEST instruction and disabling the regulators it enabled. -/
  | trstN
deriving DecidableEq, Repr

end Sys2Proof
end

