-- ==== Sys2Proof/Decode.lean ====
section
/-!
DEFINITION. Decoding by the table's bits: no row of the spec's opcode table gives any.
-/

namespace Sys2Proof

/-- The command that a word spells: none, since the table gives no row bits (log entry 7). -/
def decodeTableWord (_nbits _w : Nat) : Option Instr := none

end Sys2Proof
end

