-- ==== Sys2Proof/Config.lean ====
section
/-!
DEFINITION. What one part fixes and what the spec leaves open. Every constant without a body is a free value: no
proof can see what it is, so a statement about it holds for every value (log entry 5).
-/

namespace Sys2Proof.Config

open Sys2Proof

/-- SHA-384 of a byte string (17:R517); the standard's function, left uninterpreted (log entry 6). -/
opaque sha384 : List Byte → List Byte

/-- HMAC-SHA-384 of a key and a message (16:R492), uninterpreted (log entry 6). -/
opaque hmacSha384 : List Byte → List Byte → List Byte

/-- HKDF-SHA-384 expansion of a secret, a label and a length (17:R526, R527, 16:R502), uninterpreted. -/
opaque hkdf : List Byte → List Byte → Nat → List Byte

/-- ECDSA P-384 verification of public key, hash and signature (17:R519, R528), uninterpreted. -/
opaque ecdsaVerify : List Byte → List Byte → List Byte → Bool

/-- ECDSA P-384 verification of hash and signature by the key whose hash is given (17:R528), uninterpreted. -/
opaque ecdsaByHash : List Byte → List Byte → List Byte → Bool

/-- ECDSA P-384 signature by the alias key, which is derived from M1–M2, over a hash (17:R525), uninterpreted. -/
opaque aliasSign : List Byte → List Byte → List Byte

/-- The alias certificate of M1–M2 (17:R525), uninterpreted. -/
opaque aliasCert : List Byte → List Byte

/-- AES-256-GCM tag of key, nonce, header and packet (11:R371), uninterpreted. -/
opaque gcmTag : List Byte → List Byte → List Byte → List Byte → List Byte

/-- AES-256-GCM keystream combination: encryption of key, nonce and packet (11:R371), uninterpreted. -/
opaque gcmCrypt : List Byte → List Byte → List Byte → List Byte

/-- The fixed depth at which the clock-domain-crossing FIFOs are released (03:R109, no value given). -/
opaque cdcDepth : Nat

/-- The device's serial number, 32 bytes (16:R507, no default given). -/
opaque serial : List Byte

/-- The hash of the serial (16:R507). -/
opaque serialHash : Nat

/-- The management MAC address (16:R507). -/
opaque macAddress : Nat

/-- Root firmware version of the mask ROM (16:R507). -/
opaque rootFwVersion : Nat

/-- PCI vendor ID (18:R557, no value given). -/
opaque pciVendorId : Nat

/-- The Serlys manufacturer code in id.jtag_idcode [11:1] (18:R554, no value given). -/
opaque jtagManufacturer : Nat

/-- SHA-384 of M0's ROM, extended into M1 (17:R521). -/
opaque romDigest : List Byte

/-- The device-identity seed in the fuses (17:R517); never leaves M0. -/
opaque identitySeed : List Byte

/-- The root, intermediate and device-identity certificates written at manufacture (17:R512, R525). -/
opaque certificateChain : List Byte

/-- The fused key hash k, 0 to 3 (17:R517). -/
opaque fusedKeyHash : Nat → List Byte

/-- The fused maximum of a site at the factory, in MHz, by C-die × 144 + rank × 9 + file (15:R462). -/
opaque factoryFmax : Nat → Nat

/-- The buffer of an Atnik virtual channel that TRAIN_ID advertises, in 64 B units (11:R336, no value given). -/
opaque rxCredits : Nat → Nat

/-- M0's random-number generator: the value of its n-th draw (17:R523). -/
opaque random : Nat → Nat

/-- The range check of a thermal sensor, in 0.01 °C (13:R407, no range given). -/
opaque sensorInRange : Int → Bool

/-- SBI specification version and implementation version that the Base extension gives (17:R531, no value given). -/
opaque sbiSpecVersion : Nat
opaque sbiImplVersion : Nat

/-- The right-hand side's element that a permutation entry outside the matrix reads, by entry and column (07:R221, no result
stated). -/
opaque permOutside : Nat → Nat → Nat

/-- A value the spec calls undefined: by the place that asks and the count of values drawn so far. -/
opaque freeValue : Nat → Nat

/-- FREE VALUE (log entry 69): the byte that a read of an address gives where its line holds no data (09:R263). -/
opaque lostByte : Nat → BitVec 8

/-- Index and subindex, as index × 256 + subindex, under which an unlock record names the revocation bits of the image keys: the spec gives
none (17:R517, R528; log entry 102). -/
opaque revokeEntry : Nat

/-- FREE VALUES (log entry 31): the messages of SPDM version, capabilities and algorithms of a channel, the hash of the root CA, the
Diffie-Hellman public value of a private number, the application secrets of a session, by its export master secret and direction, and the
responder's verify data by that secret and the hash of the transcript (17:R525). -/
opaque spdmVca : Nat → List Byte
opaque rootCaHash : List Byte
opaque dhePublic : Nat → List Byte
opaque spdmData : List Byte → Nat → List Byte
opaque spdmVerify : List Byte → List Byte → List Byte

end Sys2Proof.Config
end

