-- ==== Sys2Proof/Machine/Tab.lean ====
section
/-!
DEFINITION. Operations on sparse tables and byte memories: reading, writing, multi-byte values in little-endian
order (00:R14), bit fields (00:R12).
-/

namespace Sys2Proof

/-- What number `k` holds; `d` when it is not listed. -/
def Tab.get {α : Type} (d : α) : Tab α → Nat → α
  | [], _ => d
  | (i, v) :: t, k => if i = k then v else Tab.get d t k

/-- Place a value at `k`, keeping the numbers rising. -/
def Tab.insert {α : Type} : Tab α → Nat → α → Tab α
  | [], k, v => [(k, v)]
  | (i, w) :: t, k, v =>
    if k < i then (k, v) :: (i, w) :: t
    else if i = k then (k, v) :: t
    else (i, w) :: Tab.insert t k v

/-- Remove number `k`. -/
def Tab.erase {α : Type} : Tab α → Nat → Tab α
  | [], _ => []
  | (i, w) :: t, k => if i = k then Tab.erase t k else (i, w) :: Tab.erase t k

/-- Write `v` at `k`; a value equal to the default leaves no entry. -/
def Tab.set {α : Type} [DecidableEq α] (d : α) (t : Tab α) (k : Nat) (v : α) : Tab α :=
  if v = d then Tab.erase t k else Tab.insert t k v

/-- Change what `k` holds. -/
def Tab.modify {α : Type} [DecidableEq α] (d : α) (t : Tab α) (k : Nat) (f : α → α) : Tab α :=
  Tab.set d t k (f (Tab.get d t k))

/-- An entry of a table of things that may be absent. -/
def Tab.find {α : Type} : Tab α → Nat → Option α
  | [], _ => none
  | (i, v) :: t, k => if i = k then some v else Tab.find t k

/-- The numbers rise strictly from above `lo`, and no entry equals the default. -/
def Tab.wfFrom {α : Type} [DecidableEq α] (d : α) : Option Nat → Tab α → Bool
  | _, [] => true
  | lo, (i, v) :: t =>
    (match lo with | none => true | some l => decide (l < i)) && decide (v ≠ d) && Tab.wfFrom d (some i) t

/-- The canonical form of a table. -/
def Tab.wf {α : Type} [DecidableEq α] (d : α) (t : Tab α) : Bool := Tab.wfFrom d none t

/-- The canonical form of a memory. -/
abbrev Memory.wf (m : Mem) : Bool := Tab.wf (0 : Byte) m

/-- One byte of memory. -/
def Mem.read (m : Mem) (a : Nat) : Byte := Tab.get 0 m a

/-- Write one byte. -/
def Mem.write (m : Mem) (a : Nat) (b : Byte) : Mem := Tab.set 0 m a b

/-- `n` bytes from `a` upward. -/
def Mem.readN (m : Mem) (a : Nat) : Nat → List Byte
  | 0 => []
  | n + 1 => Mem.read m a :: Mem.readN m (a + 1) n

/-- Write bytes from `a` upward. -/
def Mem.writeN (m : Mem) (a : Nat) : List Byte → Mem
  | [] => m
  | b :: bs => Mem.writeN (Mem.write m a b) (a + 1) bs

/-- The unsigned value of bytes, lowest first (00:R14). -/
def leNat : List Byte → Nat
  | [] => 0
  | b :: bs => b.toNat + 256 * leNat bs

/-- `n` bytes of a value, lowest first. -/
def natLe : Nat → Nat → List Byte
  | 0, _ => []
  | n + 1, v => BitVec.ofNat 8 v :: natLe n (v / 256)

/-- The unsigned value of bytes, highest first (16:R490). -/
def beNat (bs : List Byte) : Nat := leNat bs.reverse

/-- `n` bytes of a value, highest first. -/
def natBe (n v : Nat) : List Byte := (natLe n v).reverse

/-- An `n`-byte little-endian value at `a`. -/
def Mem.rd (m : Mem) (a n : Nat) : Nat := leNat (m.readN a n)

/-- Store an `n`-byte little-endian value at `a`. -/
def Mem.wr (m : Mem) (a n v : Nat) : Mem := m.writeN a (natLe n v)

/-- Set `n` bytes from `a` to zero. -/
def Mem.clear (m : Mem) (a n : Nat) : Mem := m.filter (fun c => c.1 < a || a + n ≤ c.1)

/-- Bits [hi:lo] of a value (00:R12). -/
def bits (v hi lo : Nat) : Nat := (v >>> lo) % 2 ^ (hi + 1 - lo)

/-- Bit `i` of a value. -/
def bit (v i : Nat) : Bool := (v >>> i) % 2 = 1

/-- A flag as a number. -/
def b2n (b : Bool) : Nat := if b then 1 else 0

/-- A slice of a byte string: `n` bytes from `i`. -/
def slice (bs : List Byte) (i n : Nat) : List Byte := (bs.drop i).take n

/-- An `n`-byte little-endian field of a byte string. -/
def fld (bs : List Byte) (i n : Nat) : Nat := leNat (slice bs i n)

/-- Byte `i` of a byte string, zero beyond its end. -/
def byteAt (bs : List Byte) (i : Nat) : Nat := (bs.getD i 0).toNat

/-- Whether every byte from `i` for `n` is zero: a reserved field (00:R15). -/
def zeroAt (bs : List Byte) (i n : Nat) : Bool := (slice bs i n).all (· == 0)

/-- A byte string padded with zeros, or cut, to `n` bytes. -/
def padTo (n : Nat) (bs : List Byte) : List Byte := bs.take n ++ List.replicate (n - bs.length) 0

/-- The signed value of an `n`-bit pattern. -/
def toSigned (n v : Nat) : Int := if v % 2 ^ n < 2 ^ (n - 1) then (v % 2 ^ n : Nat) else (v % 2 ^ n : Nat) - (2 ^ n : Nat)

/-- The `n`-bit pattern of a signed value. -/
def ofSigned (n : Nat) (v : Int) : Nat := (v % (2 ^ n : Nat)).toNat

/-- Rounded-up quotient. -/
def ceilDiv (a b : Nat) : Nat := (a + b - 1) / b

/-- Two ranges of bytes meet. -/
def overlap (a n b m : Nat) : Bool := decide (a < b + m) && decide (b < a + n) && decide (0 < n) && decide (0 < m)

/-- Replace or add an element of a list of keyed things. -/
def upsert {α : Type} (p : α → Bool) (v : α) (l : List α) : List α :=
  if l.any p then l.map (fun x => if p x then v else x) else l ++ [v]

/-- Insert before the first element that does not go first, and the stable sort it gives. -/
def insertBy {α : Type} (le : α → α → Bool) (x : α) : List α → List α
  | [] => [x]
  | y :: t => if le x y then x :: y :: t else y :: insertBy le x t
def sortBy {α : Type} (le : α → α → Bool) : List α → List α
  | [] => []
  | x :: t => insertBy le x (sortBy le t)

/-- Change every element that satisfies `p`. -/
def mapIf {α : Type} (p : α → Bool) (f : α → α) (l : List α) : List α := l.map (fun x => if p x then f x else x)

/-- CRC-32C (Castagnoli): one byte, bit by bit, reflected form (09:R282, 10:R305, 11:R331). -/
def crcBits : Nat → Nat → Nat
  | 0, c => c
  | n + 1, c => crcBits n (if c % 2 = 1 then (c / 2) ^^^ 0x82F63B78 else c / 2)

/-- CRC-32C running value over bytes. The match has the value computed at each byte when Lean's kernel evaluates it. -/
def crcStep : Nat → List Byte → Nat
  | c, [] => c
  | c, b :: bs => match crcBits 8 (c ^^^ b.toNat) with
    | 0 => crcStep 0 bs
    | n + 1 => crcStep (n + 1) bs

/-- CRC-32C of a byte string. -/
def crc32c (bs : List Byte) : Nat := crcStep 0xFFFFFFFF bs ^^^ 0xFFFFFFFF

end Sys2Proof
end

