-- ==== Sys2Proof/Machine/DictTable.lean ====
section
/-!
DEFINITION. The rows of the parameter dictionary, one for each line of the spec's entry tables: index, size of the block,
subindices, type, length, access, default, level, store and partition tag (16:R475 to R480). A BLOB or STR32 value is
held as the little-endian number of its bytes.
-/

namespace Sys2Proof

/-- One line of an entry table (16:R475). -/
structure DRow where
  /-- first index and number of indices -/
  idx : Nat
  n : Nat
  /-- first and last subindex -/
  lo : Nat
  hi : Nat
  name : String
  /-- type code (16:R476), length in bytes, access code (16:R478) -/
  ty : Nat
  len : Nat
  acc : Nat
  dflt : Nat
  /-- level 1 expert (16:R479), store 1 saved (16:R480) -/
  lvl : Nat
  sto : Nat
  /-- partition tag: 0 none, 1 block +p, 2 array at subindex p + 1 (16:R475) -/
  tag : Nat
deriving DecidableEq, Repr, Inhabited

/-- Entry tables, part 0. -/
def dictRows0 : List DRow :=
  [ ⟨0x1000, 1, 0x01, 0x01, "id.part_number", 12, 32, 0, 78887965672150312009945683, 0, 0, 0⟩
  , ⟨0x1000, 1, 0x02, 0x02, "id.serial", 12, 32, 0, 0, 0, 0, 0⟩
  , ⟨0x1000, 1, 0x03, 0x03, "id.serial_hash", 4, 8, 0, 0, 0, 0, 0⟩
  , ⟨0x1000, 1, 0x04, 0x04, "id.mac_address", 4, 8, 0, 0, 0, 0, 0⟩
  , ⟨0x1000, 1, 0x05, 0x05, "id.root_fw_version", 3, 4, 0, 0, 0, 0, 0⟩
  , ⟨0x1000, 1, 0x06, 0x06, "id.service_fw_version", 3, 4, 0, 0, 0, 0, 0⟩
  , ⟨0x1000, 1, 0x07, 0x07, "id.dict_version", 2, 2, 0, 1, 0, 0, 0⟩
  , ⟨0x1010, 1, 0x01, 0x01, "pcie.partition_port", 11, 4, 1, 0, 0, 1, 0⟩
  , ⟨0x1010, 1, 0x02, 0x02, "pcie.refclk_mode", 10, 1, 1, 0, 1, 1, 0⟩
  , ⟨0x1010, 1, 0x03, 0x03, "pcie.max_rate", 10, 1, 1, 6, 1, 1, 0⟩
  , ⟨0x1010, 1, 0x04, 0x04, "id.jtag_idcode", 3, 4, 0, 0, 0, 0, 0⟩
  , ⟨0x1010, 1, 0x05, 0x05, "id.pci_vendor_id", 2, 2, 0, 0, 0, 0, 0⟩
  , ⟨0x1011, 2, 0x01, 0x01, "pcie.link_up", 9, 1, 0, 0, 0, 0, 0⟩
  , ⟨0x1011, 2, 0x02, 0x02, "pcie.rate", 10, 1, 0, 0, 0, 0, 0⟩
  , ⟨0x1011, 2, 0x03, 0x03, "pcie.width", 1, 1, 0, 0, 0, 0, 0⟩
  , ⟨0x1011, 2, 0x04, 0x04, "pcie.flit", 9, 1, 0, 0, 0, 0, 0⟩
  , ⟨0x1011, 2, 0x05, 0x05, "pcie.vfs_enabled", 1, 1, 0, 0, 0, 0, 0⟩
  , ⟨0x1011, 2, 0x06, 0x06, "pcie.resets", 3, 4, 0, 0, 0, 0, 0⟩
  , ⟨0x1011, 2, 0x07, 0x07, "pcie.aer_correctable", 4, 8, 0, 0, 1, 0, 0⟩
  , ⟨0x1011, 2, 0x08, 0x08, "pcie.aer_uncorrectable", 3, 4, 0, 0, 0, 0, 0⟩
  , ⟨0x1011, 2, 0x09, 0x09, "pcie.dma_errors", 3, 4, 0, 0, 0, 0, 0⟩
  , ⟨0x1100, 1, 0x01, 0x01, "own.owner_session", 3, 4, 0, 0, 0, 0, 0⟩
  , ⟨0x1100, 1, 0x02, 0x02, "own.owner_class", 10, 1, 0, 255, 0, 0, 0⟩
  , ⟨0x1100, 1, 0x03, 0x03, "own.lease_ms", 3, 4, 1, 6000, 0, 1, 0⟩ ]

/-- Entry tables, part 1. -/
def dictRows1 : List DRow :=
  [ ⟨0x1100, 1, 0x04, 0x04, "own.lease_remaining_ms", 3, 4, 0, 0, 0, 0, 0⟩
  , ⟨0x1100, 1, 0x05, 0x05, "own.claim_classes", 11, 4, 1, 7, 1, 1, 0⟩
  , ⟨0x1100, 1, 0x06, 0x06, "own.expert_grant", 3, 4, 3, 0, 0, 0, 0⟩
  , ⟨0x1100, 1, 0x07, 0x07, "own.expert_revoke", 3, 4, 3, 0, 0, 0, 0⟩
  , ⟨0x1100, 1, 0x08, 0x08, "own.changes", 3, 4, 0, 0, 0, 0, 0⟩
  , ⟨0x1110, 16, 0x01, 0x01, "own.delegate", 3, 4, 1, 0, 0, 0, 1⟩
  , ⟨0x1120, 1, 0x01, 0x20, "mgmt.session", 13, 32, 0, 0, 0, 0, 0⟩
  , ⟨0x1130, 1, 0x01, 0x01, "mgmt.ipv6_addr", 13, 16, 1, 0, 0, 1, 0⟩
  , ⟨0x1130, 1, 0x02, 0x02, "mgmt.ipv6_prefix", 1, 1, 1, 64, 0, 1, 0⟩
  , ⟨0x1130, 1, 0x03, 0x03, "mgmt.slaac", 9, 1, 1, 0, 0, 1, 0⟩
  , ⟨0x1130, 1, 0x04, 0x04, "mgmt.i3c_key", 13, 48, 3, 0, 1, 1, 0⟩
  , ⟨0x1130, 1, 0x05, 0x05, "mgmt.auth_failures", 4, 8, 0, 0, 0, 0, 0⟩
  , ⟨0x1130, 1, 0x06, 0x06, "mgmt.alert_status", 11, 4, 0, 0, 0, 0, 0⟩
  , ⟨0x1130, 1, 0x07, 0x07, "mgmt.alert_mask", 11, 4, 1, 252, 0, 1, 0⟩
  , ⟨0x1130, 1, 0x08, 0x08, "mgmt.alert_clear", 11, 4, 3, 0, 0, 0, 0⟩
  , ⟨0x1140, 1, 0x01, 0x01, "events.next_seq", 4, 8, 0, 0, 0, 0, 0⟩
  , ⟨0x1180, 8, 0x01, 0x80, "events.log", 13, 104, 0, 0, 0, 0, 0⟩
  , ⟨0x1200, 1, 0x01, 0x01, "persist.pending", 2, 2, 0, 0, 0, 0, 0⟩
  , ⟨0x1200, 1, 0x02, 0x02, "persist.commit", 9, 1, 3, 0, 0, 0, 0⟩
  , ⟨0x1200, 1, 0x03, 0x03, "persist.last_commit", 14, 8, 0, 0, 0, 0, 0⟩
  , ⟨0x1200, 1, 0x04, 0x04, "persist.failures", 3, 4, 0, 0, 0, 0, 0⟩
  , ⟨0x1200, 1, 0x05, 0x05, "persist.defaults", 9, 1, 3, 0, 1, 0, 0⟩
  , ⟨0x2000, 16, 0x01, 0x01, "partition.state", 10, 1, 0, 0, 0, 0, 1⟩
  , ⟨0x2000, 16, 0x02, 0x02, "partition.cdies", 4, 8, 1, 0, 0, 0, 1⟩
  , ⟨0x2000, 16, 0x03, 0x03, "partition.harts", 2, 2, 1, 0, 0, 0, 1⟩ ]

/-- Entry tables, part 2. -/
def dictRows2 : List DRow :=
  [ ⟨0x2000, 16, 0x04, 0x04, "partition.coll_share_kib", 3, 4, 1, 4096, 0, 0, 1⟩
  , ⟨0x2000, 16, 0x05, 0x05, "partition.job_id", 3, 4, 1, 0, 0, 0, 1⟩
  , ⟨0x2000, 16, 0x06, 0x06, "partition.privileged", 9, 1, 1, 0, 0, 0, 1⟩
  , ⟨0x2000, 16, 0x07, 0x07, "partition.hold_cause", 2, 2, 0, 0, 0, 0, 1⟩
  , ⟨0x2000, 16, 0x08, 0x08, "partition.member_rank", 3, 4, 0, 0, 0, 0, 1⟩
  , ⟨0x2000, 16, 0x09, 0x09, "partition.layout", 1, 1, 0, 0, 0, 0, 1⟩
  , ⟨0x2000, 16, 0x0A, 0x0A, "partition.last_status", 2, 2, 0, 0, 0, 0, 1⟩
  , ⟨0x2200, 1, 0x01, 0x01, "tempo.now", 14, 8, 0, 0, 0, 0, 0⟩
  , ⟨0x2200, 1, 0x02, 0x02, "tempo.state", 10, 1, 0, 0, 0, 0, 0⟩
  , ⟨0x2200, 1, 0x03, 0x03, "tempo.offset_ns", 6, 8, 0, 0, 0, 0, 0⟩
  , ⟨0x2200, 1, 0x04, 0x04, "tempo.delay_ns", 6, 8, 0, 0, 0, 0, 0⟩
  , ⟨0x2200, 1, 0x05, 0x05, "tempo.freq_ppb", 5, 4, 0, 0, 1, 0, 0⟩
  , ⟨0x2200, 1, 0x06, 0x06, "tempo.parent_port", 1, 1, 0, 255, 0, 0, 0⟩
  , ⟨0x2200, 1, 0x07, 0x07, "tempo.acting_root", 3, 4, 0, 4294967295, 0, 0, 0⟩
  , ⟨0x2200, 1, 0x08, 0x08, "tempo.samples_rejected", 4, 8, 0, 0, 1, 0, 0⟩
  , ⟨0x2201, 1, 0x01, 0x04, "tempo.root_candidate", 3, 4, 1, 4294967295, 0, 1, 0⟩
  , ⟨0x2202, 1, 0x01, 0x18, "tempo.port_asym_ps", 5, 4, 1, 0, 1, 1, 0⟩
  , ⟨0x2204, 1, 0x01, 0x01, "ptp.enable", 9, 1, 1, 1, 0, 1, 0⟩
  , ⟨0x2204, 1, 0x02, 0x02, "ptp.domain", 1, 1, 1, 0, 0, 1, 0⟩
  , ⟨0x2204, 1, 0x03, 0x03, "ptp.state", 10, 1, 0, 0, 0, 0, 0⟩
  , ⟨0x2204, 1, 0x04, 0x04, "ptp.utc_offset_ns", 6, 8, 0, 0, 0, 0, 0⟩
  , ⟨0x2210, 16, 0x01, 0x01, "frames.state", 10, 1, 0, 0, 0, 0, 1⟩
  , ⟨0x2210, 16, 0x02, 0x02, "frames.index", 4, 8, 0, 0, 0, 0, 1⟩
  , ⟨0x2210, 16, 0x03, 0x03, "frames.length_ns", 14, 8, 0, 0, 0, 0, 1⟩ ]

/-- Entry tables, part 3. -/
def dictRows3 : List DRow :=
  [ ⟨0x2210, 16, 0x04, 0x04, "frames.next_tick", 14, 8, 0, 0, 0, 0, 1⟩
  , ⟨0x2210, 16, 0x05, 0x05, "frames.work_bound_ns", 14, 8, 0, 0, 0, 0, 1⟩
  , ⟨0x2210, 16, 0x06, 0x06, "frames.ramp_ns", 3, 4, 0, 1600, 0, 0, 1⟩
  , ⟨0x2210, 16, 0x07, 0x07, "frames.ply_cap_us", 1, 1, 0, 40, 0, 0, 1⟩
  , ⟨0x2210, 16, 0x08, 0x08, "frames.gambit_enable", 9, 1, 0, 0, 0, 0, 1⟩
  , ⟨0x2210, 16, 0x09, 0x09, "frames.flag_falls", 4, 8, 0, 0, 0, 0, 1⟩
  , ⟨0x2210, 16, 0x0A, 0x0A, "frames.hold_ns", 4, 8, 0, 0, 0, 0, 1⟩
  , ⟨0x2210, 16, 0x0B, 0x0B, "frames.last_lateness_ns", 4, 8, 0, 0, 0, 0, 1⟩
  , ⟨0x2210, 16, 0x0C, 0x0C, "plies.committed", 4, 8, 0, 0, 0, 0, 1⟩
  , ⟨0x2210, 16, 0x0D, 0x0D, "plies.replayed", 4, 8, 0, 0, 0, 0, 1⟩
  , ⟨0x2210, 16, 0x0E, 0x0E, "gambits.committed", 4, 8, 0, 0, 1, 0, 1⟩
  , ⟨0x2210, 16, 0x0F, 0x0F, "gambits.discarded", 4, 8, 0, 0, 1, 0, 1⟩
  , ⟨0x2210, 16, 0x10, 0x10, "frames.changes_applied", 3, 4, 0, 0, 0, 0, 1⟩
  , ⟨0x2210, 16, 0x11, 0x11, "frames.changes_cancelled", 3, 4, 0, 0, 0, 0, 1⟩
  , ⟨0x2210, 16, 0x12, 0x12, "plies.span_peak", 3, 4, 0, 0, 1, 0, 1⟩
  , ⟨0x3000, 1, 0x01, 0x01, "fault.count", 4, 8, 0, 0, 0, 0, 0⟩
  , ⟨0x3000, 1, 0x02, 0x02, "fault.recovered_late", 3, 4, 0, 0, 0, 0, 0⟩
  , ⟨0x3000, 1, 0x03, 0x03, "fault.out_of_scope", 3, 4, 0, 0, 0, 0, 0⟩
  , ⟨0x3000, 1, 0x04, 0x04, "fault.last_delay_ns", 3, 4, 0, 0, 0, 0, 0⟩
  , ⟨0x3000, 1, 0x05, 0x05, "fault.max_delay_ns", 3, 4, 0, 0, 0, 0, 0⟩
  , ⟨0x3000, 1, 0x06, 0x06, "fault.expert_events", 9, 1, 1, 0, 1, 1, 0⟩
  , ⟨0x3000, 1, 0x07, 0x07, "fault.records_written", 4, 8, 0, 0, 0, 0, 0⟩
  , ⟨0x3000, 1, 0x08, 0x0A, "fault.dies_failed", 11, 4, 0, 0, 0, 0, 0⟩
  , ⟨0x3001, 1, 0x01, 0x0C, "fault.class_count", 3, 4, 0, 0, 0, 0, 0⟩ ]

/-- Entry tables, part 4. -/
def dictRows4 : List DRow :=
  [ ⟨0x3002, 1, 0x01, 0x30, "fault.spare_sites_free", 1, 1, 0, 16, 0, 0, 0⟩
  , ⟨0x3003, 1, 0x02, 0x06, "guarantee.yields", 3, 4, 0, 0, 0, 0, 0⟩
  , ⟨0x3010, 1, 0x01, 0x40, "fault.record", 13, 32, 0, 0, 0, 0, 0⟩
  , ⟨0x3020, 16, 0x01, 0x01, "tiles.engine_ops", 4, 8, 0, 0, 0, 0, 1⟩
  , ⟨0x3020, 16, 0x02, 0x02, "tiles.squashes", 4, 8, 0, 0, 1, 0, 1⟩
  , ⟨0x3020, 16, 0x03, 0x03, "tiles.move_errors", 4, 8, 0, 0, 0, 0, 1⟩
  , ⟨0x3020, 16, 0x04, 0x04, "tiles.traps", 4, 8, 0, 0, 0, 0, 1⟩
  , ⟨0x3020, 16, 0x05, 0x05, "tiles.stops", 3, 4, 0, 0, 0, 0, 1⟩
  , ⟨0x3020, 16, 0x06, 0x06, "tiles.active_cycles", 4, 8, 0, 0, 1, 0, 1⟩
  , ⟨0x3020, 16, 0x07, 0x07, "tiles.wait_cycles", 4, 8, 0, 0, 1, 0, 1⟩
  , ⟨0x3040, 16, 0x01, 0x01, "addr.errors", 4, 8, 0, 0, 0, 0, 1⟩
  , ⟨0x3040, 16, 0x02, 0x02, "addr.control_refused", 3, 4, 0, 0, 0, 0, 1⟩
  , ⟨0x3100, 48, 0x01, 0x80, "fault.tile_events", 3, 4, 0, 0, 0, 0, 0⟩
  , ⟨0x3800, 16, 0x01, 0x01, "solver.batches", 4, 8, 0, 0, 0, 0, 1⟩
  , ⟨0x3800, 16, 0x02, 0x02, "solver.problems", 4, 8, 0, 0, 0, 0, 1⟩
  , ⟨0x3800, 16, 0x03, 0x03, "solver.busy_cycles", 4, 8, 0, 0, 1, 0, 1⟩
  , ⟨0x3800, 16, 0x04, 0x04, "solver.batches_refused", 3, 4, 0, 0, 0, 0, 1⟩
  , ⟨0x3800, 16, 0x05, 0x05, "solver.batches_discarded", 3, 4, 0, 0, 0, 0, 1⟩
  , ⟨0x3800, 16, 0x06, 0x06, "solver.problem_errors", 3, 4, 0, 0, 0, 0, 1⟩
  , ⟨0x3800, 16, 0x07, 0x07, "solver.tiny_pivots", 4, 8, 0, 0, 0, 0, 1⟩
  , ⟨0x3800, 16, 0x08, 0x08, "solver.steps_repeated", 4, 8, 0, 0, 1, 0, 1⟩
  , ⟨0x3800, 16, 0x09, 0x09, "solver.restarts", 3, 4, 0, 0, 0, 0, 1⟩
  , ⟨0x3800, 16, 0x0A, 0x0A, "solver.ws_ecc_corrected", 4, 8, 0, 0, 1, 0, 1⟩
  , ⟨0x3800, 16, 0x0B, 0x0B, "solver.queue_peak", 1, 1, 0, 0, 1, 0, 1⟩ ]

/-- Entry tables, part 5. -/
def dictRows5 : List DRow :=
  [ ⟨0x3840, 16, 0x01, 0x01, "matrix.runs", 4, 8, 0, 0, 0, 0, 1⟩
  , ⟨0x3840, 16, 0x02, 0x02, "matrix.macs", 4, 8, 0, 0, 0, 0, 1⟩
  , ⟨0x3840, 16, 0x03, 0x03, "matrix.busy_cycles", 4, 8, 0, 0, 1, 0, 1⟩
  , ⟨0x3840, 16, 0x04, 0x04, "matrix.walk_failures", 4, 8, 0, 0, 0, 0, 1⟩
  , ⟨0x3840, 16, 0x05, 0x05, "matrix.pb_rejects", 4, 8, 0, 0, 0, 0, 1⟩
  , ⟨0x3840, 16, 0x06, 0x06, "matrix.runs_squashed", 4, 8, 0, 0, 1, 0, 1⟩
  , ⟨0x3840, 16, 0x07, 0x07, "matrix.accum_words", 4, 8, 0, 0, 0, 0, 1⟩
  , ⟨0x3840, 16, 0x08, 0x08, "matrix.accum_invalid", 4, 8, 0, 0, 0, 0, 1⟩
  , ⟨0x3840, 16, 0x09, 0x09, "matrix.accum_overflow", 4, 8, 0, 0, 0, 0, 1⟩
  , ⟨0x3840, 16, 0x0A, 0x0A, "matrix.accum_underflow", 4, 8, 0, 0, 1, 0, 1⟩
  , ⟨0x3860, 16, 0x01, 0x01, "vector.ops", 4, 8, 0, 0, 0, 0, 1⟩
  , ⟨0x3860, 16, 0x02, 0x02, "vector.stream_cycles", 4, 8, 0, 0, 1, 0, 1⟩
  , ⟨0x3860, 16, 0x03, 0x03, "vector.desc_invalid", 4, 8, 0, 0, 0, 0, 1⟩
  , ⟨0x3860, 16, 0x04, 0x04, "vector.vanished", 4, 8, 0, 0, 0, 0, 1⟩
  , ⟨0x3860, 16, 0x05, 0x05, "ocache.conflict_cycles", 4, 8, 0, 0, 1, 0, 1⟩
  , ⟨0x3860, 16, 0x06, 0x06, "ocache.ecc_corrected", 4, 8, 0, 0, 0, 0, 1⟩
  , ⟨0x3860, 16, 0x07, 0x07, "ocache.ecc_uncorrected", 3, 4, 0, 0, 0, 0, 1⟩
  , ⟨0x3860, 16, 0x08, 0x08, "plybuf.ecc_corrected", 4, 8, 0, 0, 1, 0, 1⟩
  , ⟨0x3860, 16, 0x09, 0x09, "plybuf.peak_units", 2, 2, 0, 0, 1, 0, 1⟩
  , ⟨0x3860, 16, 0x0A, 0x0A, "plybuf.full_stops", 3, 4, 0, 0, 0, 0, 1⟩
  , ⟨0x3880, 1, 0x01, 0x01, "engines.arith_generation", 1, 1, 0, 1, 0, 0, 0⟩
  , ⟨0x3881, 1, 0x00, 0x00, "engines.ftz_daz.count", 1, 1, 0, 16, 0, 0, 0⟩
  , ⟨0x3881, 1, 0x01, 0x10, "engines.ftz_daz", 9, 1, 2, 0, 1, 0, 2⟩
  , ⟨0x3882, 1, 0x00, 0x00, "engines.nan_on_overflow.count", 1, 1, 0, 16, 0, 0, 0⟩ ]

/-- Entry tables, part 6. -/
def dictRows6 : List DRow :=
  [ ⟨0x3882, 1, 0x01, 0x10, "engines.nan_on_overflow", 11, 4, 2, 0, 1, 0, 2⟩
  , ⟨0x38A0, 16, 0x01, 0x01, "harts.assigned", 2, 2, 0, 0, 0, 0, 1⟩
  , ⟨0x38A0, 16, 0x02, 0x02, "harts.instret", 4, 8, 0, 0, 0, 0, 1⟩
  , ⟨0x38A0, 16, 0x03, 0x03, "harts.switches", 4, 8, 0, 0, 1, 0, 1⟩
  , ⟨0x38A0, 16, 0x04, 0x04, "harts.plies", 4, 8, 0, 0, 0, 0, 1⟩
  , ⟨0x38A0, 16, 0x05, 0x05, "harts.plies_replayed", 4, 8, 0, 0, 0, 0, 1⟩
  , ⟨0x38A0, 16, 0x06, 0x06, "harts.marks_buffer_full", 4, 8, 0, 0, 1, 0, 1⟩
  , ⟨0x38A0, 16, 0x07, 0x07, "harts.marks_cap", 4, 8, 0, 0, 1, 0, 1⟩
  , ⟨0x38A0, 16, 0x08, 0x08, "atomics.executed", 4, 8, 0, 0, 0, 0, 1⟩
  , ⟨0x38A0, 16, 0x09, 0x09, "atomics.replay_answered", 3, 4, 0, 0, 0, 0, 1⟩
  , ⟨0x38A0, 16, 0x0A, 0x0A, "atomics.retried", 4, 8, 0, 0, 1, 0, 1⟩
  , ⟨0x38C0, 1, 0x01, 0x01, "scache.hits", 4, 8, 0, 0, 1, 0, 0⟩
  , ⟨0x38C0, 1, 0x02, 0x02, "scache.misses", 4, 8, 0, 0, 1, 0, 0⟩
  , ⟨0x38C0, 1, 0x03, 0x03, "scache.streaming_fills", 4, 8, 0, 0, 1, 0, 0⟩
  , ⟨0x38C0, 1, 0x04, 0x04, "scache.invalidations", 4, 8, 0, 0, 1, 0, 0⟩
  , ⟨0x38C0, 1, 0x05, 0x05, "scache.ecc_corrected", 4, 8, 0, 0, 0, 0, 0⟩
  , ⟨0x38C0, 1, 0x06, 0x06, "scache.ecc_invalidated", 3, 4, 0, 0, 0, 0, 0⟩
  , ⟨0x38C0, 1, 0x07, 0x07, "scache.tag_parity", 3, 4, 0, 0, 0, 0, 0⟩
  , ⟨0x38C0, 1, 0x08, 0x08, "scache.ways_retired", 2, 2, 0, 0, 0, 0, 0⟩
  , ⟨0x4000, 1, 0x01, 0x01, "dstore.scrub_period_h", 1, 1, 1, 4, 1, 1, 0⟩
  , ⟨0x4010, 16, 0x01, 0x01, "dstore.read_bytes", 4, 8, 0, 0, 0, 0, 1⟩
  , ⟨0x4010, 16, 0x02, 0x02, "dstore.write_bytes", 4, 8, 0, 0, 0, 0, 1⟩
  , ⟨0x4010, 16, 0x03, 0x03, "dstore.remote_bytes", 4, 8, 0, 0, 1, 0, 1⟩
  , ⟨0x4040, 48, 0x01, 0x01, "dstore.ecc_corrected", 4, 8, 0, 0, 0, 0, 0⟩ ]

/-- Entry tables, part 7. -/
def dictRows7 : List DRow :=
  [ ⟨0x4040, 48, 0x02, 0x02, "dstore.reconstructed", 4, 8, 0, 0, 0, 0, 0⟩
  , ⟨0x4040, 48, 0x03, 0x03, "dstore.banks_rebuilt", 1, 1, 0, 0, 0, 0, 0⟩
  , ⟨0x4040, 48, 0x04, 0x04, "dstore.spare_banks", 1, 1, 0, 4, 0, 0, 0⟩
  , ⟨0x4100, 1, 0x01, 0x01, "tier.groups_formed", 11, 4, 0, 0, 0, 0, 0⟩
  , ⟨0x4100, 1, 0x02, 0x02, "tier.groups_degraded", 11, 4, 0, 0, 0, 0, 0⟩
  , ⟨0x4100, 1, 0x03, 0x03, "tier.brick_gib", 3, 4, 0, 0, 0, 0, 0⟩
  , ⟨0x4100, 1, 0x04, 0x04, "tier.extents_total", 3, 4, 0, 0, 0, 0, 0⟩
  , ⟨0x4100, 1, 0x05, 0x05, "tier.extents_free", 3, 4, 0, 0, 0, 0, 0⟩
  , ⟨0x4100, 1, 0x06, 0x06, "tier.regions_used", 2, 2, 0, 0, 0, 0, 0⟩
  , ⟨0x4100, 1, 0x07, 0x07, "tier.evictions", 3, 4, 0, 0, 0, 0, 0⟩
  , ⟨0x4100, 1, 0x08, 0x08, "tier.slots_rebuilt", 4, 8, 0, 0, 1, 0, 0⟩
  , ⟨0x4100, 1, 0x09, 0x09, "tier.compress_enable", 9, 1, 1, 1, 1, 1, 0⟩
  , ⟨0x4110, 16, 0x01, 0x01, "tier.floor_extents", 3, 4, 1, 0, 0, 0, 1⟩
  , ⟨0x4110, 16, 0x02, 0x02, "tier.used_extents", 3, 4, 0, 0, 0, 0, 1⟩
  , ⟨0x4110, 16, 0x03, 0x03, "tier.borrowed_extents", 3, 4, 0, 0, 0, 0, 1⟩
  , ⟨0x4110, 16, 0x04, 0x04, "tier.pinned_extents", 3, 4, 0, 0, 0, 0, 1⟩
  , ⟨0x4110, 16, 0x05, 0x05, "tier.moves", 4, 8, 0, 0, 0, 0, 1⟩
  , ⟨0x4110, 16, 0x06, 0x06, "tier.packets_read", 4, 8, 0, 0, 0, 0, 1⟩
  , ⟨0x4110, 16, 0x07, 0x07, "tier.stored_units_read", 4, 8, 0, 0, 1, 0, 1⟩
  , ⟨0x4110, 16, 0x08, 0x08, "tier.stall_degraded_ns", 4, 8, 0, 0, 0, 0, 1⟩
  , ⟨0x4110, 16, 0x09, 0x09, "tier.stall_link_retry_ns", 4, 8, 0, 0, 0, 0, 1⟩
  , ⟨0x4110, 16, 0x0A, 0x0A, "tier.stall_brick_ns", 4, 8, 0, 0, 0, 0, 1⟩
  , ⟨0x4110, 16, 0x0B, 0x0B, "tier.stall_decompress_ns", 4, 8, 0, 0, 0, 0, 1⟩
  , ⟨0x4110, 16, 0x0C, 0x0C, "tier.stall_bandwidth_ns", 4, 8, 0, 0, 0, 0, 1⟩ ]

/-- Entry tables, part 8. -/
def dictRows8 : List DRow :=
  [ ⟨0x4110, 16, 0x0D, 0x0D, "tier.refused", 3, 4, 0, 0, 0, 0, 1⟩
  , ⟨0x4110, 16, 0x0E, 0x0E, "tier.regions_evicted", 3, 4, 0, 0, 0, 0, 1⟩
  , ⟨0x4110, 16, 0x0F, 0x0F, "tier.pool_full", 3, 4, 0, 0, 0, 0, 1⟩
  , ⟨0x4110, 16, 0x10, 0x10, "tier.moves_discarded", 3, 4, 0, 0, 1, 0, 1⟩
  , ⟨0x4200, 48, 0x01, 0x01, "lenpel.state", 10, 1, 0, 0, 0, 0, 0⟩
  , ⟨0x4200, 48, 0x02, 0x02, "lenpel.enable", 9, 1, 1, 1, 0, 1, 0⟩
  , ⟨0x4200, 48, 0x03, 0x03, "lenpel.class", 10, 1, 1, 0, 1, 1, 0⟩
  , ⟨0x4200, 48, 0x04, 0x04, "lenpel.tx_eq", 3, 4, 1, 0, 1, 1, 0⟩
  , ⟨0x4200, 48, 0x05, 0x05, "lenpel.brick_gib", 3, 4, 0, 0, 0, 0, 0⟩
  , ⟨0x4200, 48, 0x06, 0x06, "lenpel.brick_serial", 4, 8, 0, 0, 0, 0, 0⟩
  , ⟨0x4200, 48, 0x07, 0x07, "lenpel.brick_latency_ns", 3, 4, 0, 0, 0, 0, 0⟩
  , ⟨0x4200, 48, 0x08, 0x08, "lenpel.round_trip_ns", 3, 4, 0, 0, 1, 0, 0⟩
  , ⟨0x4200, 48, 0x09, 0x09, "lenpel.stale", 9, 1, 0, 0, 0, 0, 0⟩
  , ⟨0x4200, 48, 0x0A, 0x0A, "lenpel.rebuild_permille", 2, 2, 0, 0, 0, 0, 0⟩
  , ⟨0x4200, 48, 0x0B, 0x0B, "lenpel.fec_corrected", 4, 8, 0, 0, 1, 0, 0⟩
  , ⟨0x4200, 48, 0x0C, 0x0C, "lenpel.fec_uncorrected", 4, 8, 0, 0, 0, 0, 0⟩
  , ⟨0x4200, 48, 0x0D, 0x0D, "lenpel.naks", 4, 8, 0, 0, 0, 0, 0⟩
  , ⟨0x4200, 48, 0x0E, 0x0E, "lenpel.retrains", 3, 4, 0, 0, 0, 0, 0⟩
  , ⟨0x4200, 48, 0x0F, 0x0F, "lenpel.reads_lost", 3, 4, 0, 0, 0, 0, 0⟩
  , ⟨0x4200, 48, 0x10, 0x10, "lenpel.late_reads", 4, 8, 0, 0, 1, 0, 0⟩
  , ⟨0x4400, 1024, 0x01, 0x01, "region.state", 10, 1, 0, 0, 0, 0, 0⟩
  , ⟨0x4400, 1024, 0x02, 0x02, "region.partition", 1, 1, 0, 255, 0, 0, 0⟩
  , ⟨0x4400, 1024, 0x03, 0x03, "region.format", 1, 1, 0, 0, 0, 0, 0⟩
  , ⟨0x4400, 1024, 0x04, 0x04, "region.packets", 3, 4, 0, 0, 0, 0, 0⟩ ]

/-- Entry tables, part 9. -/
def dictRows9 : List DRow :=
  [ ⟨0x4400, 1024, 0x05, 0x05, "region.class", 10, 1, 0, 0, 0, 0, 0⟩
  , ⟨0x4400, 1024, 0x06, 0x06, "region.pinned", 9, 1, 0, 0, 0, 0, 0⟩
  , ⟨0x4400, 1024, 0x07, 0x07, "region.last_ref", 14, 8, 0, 0, 0, 0, 0⟩
  , ⟨0x4400, 1024, 0x08, 0x08, "region.generation", 3, 4, 0, 0, 1, 0, 0⟩
  , ⟨0x5000, 1, 0x01, 0x01, "atnik.node_id", 3, 4, 1, 4294967295, 0, 1, 0⟩
  , ⟨0x5000, 1, 0x02, 0x02, "atnik.tray_slot", 1, 1, 0, 0, 0, 0, 0⟩
  , ⟨0x5000, 1, 0x03, 0x03, "atnik.boot_epoch", 3, 4, 0, 0, 0, 0, 0⟩
  , ⟨0x5000, 1, 0x04, 0x04, "atnik.identity", 4, 8, 0, 0, 0, 0, 0⟩
  , ⟨0x5000, 1, 0x05, 0x05, "atnik.return_window_ms", 3, 4, 1, 500, 0, 1, 0⟩
  , ⟨0x5000, 1, 0x06, 0x06, "atnik.e2e_retry_us", 2, 2, 1, 16, 1, 1, 0⟩
  , ⟨0x5000, 1, 0x07, 0x07, "atnik.tc_weights", 3, 4, 1, 131330, 1, 1, 0⟩
  , ⟨0x5000, 1, 0x08, 0x08, "atnik.contexts_in_use", 2, 2, 0, 0, 1, 0, 0⟩
  , ⟨0x5000, 1, 0x09, 0x09, "atnik.job_mismatch_in", 4, 8, 0, 0, 0, 0, 0⟩
  , ⟨0x5000, 1, 0x0A, 0x0A, "atnik.addr_refused_in", 4, 8, 0, 0, 0, 0, 0⟩
  , ⟨0x5000, 1, 0x0B, 0x0B, "atnik.once_entries", 2, 2, 0, 0, 1, 0, 0⟩
  , ⟨0x5000, 1, 0x0C, 0x0C, "atnik.once_busy", 4, 8, 0, 0, 1, 0, 0⟩
  , ⟨0x5000, 1, 0x0D, 0x0D, "atnik.once_answered", 4, 8, 0, 0, 0, 0, 0⟩
  , ⟨0x5010, 16, 0x01, 0x01, "atnik.job_id", 3, 4, 0, 0, 0, 0, 1⟩
  , ⟨0x5010, 16, 0x02, 0x02, "atnik.mode", 10, 1, 2, 0, 0, 0, 1⟩
  , ⟨0x5010, 16, 0x03, 0x03, "atnik.requests", 4, 8, 0, 0, 0, 0, 1⟩
  , ⟨0x5010, 16, 0x04, 0x04, "atnik.bytes_sent", 4, 8, 0, 0, 0, 0, 1⟩
  , ⟨0x5010, 16, 0x05, 0x05, "atnik.errors", 3, 4, 0, 0, 0, 0, 1⟩
  , ⟨0x5010, 16, 0x06, 0x06, "atnik.partner_lost", 3, 4, 0, 0, 0, 0, 1⟩
  , ⟨0x5010, 16, 0x07, 0x07, "atnik.indeterminate", 3, 4, 0, 0, 0, 0, 1⟩ ]

/-- Entry tables, part 10. -/
def dictRows10 : List DRow :=
  [ ⟨0x5010, 16, 0x08, 0x08, "atnik.e2e_resends", 4, 8, 0, 0, 1, 0, 1⟩
  , ⟨0x5010, 16, 0x09, 0x09, "atnik.duplicates", 4, 8, 0, 0, 1, 0, 1⟩
  , ⟨0x5010, 16, 0x0A, 0x0A, "atnik.cancels", 3, 4, 0, 0, 0, 0, 1⟩
  , ⟨0x5040, 24, 0x01, 0x01, "atnik.state", 10, 1, 0, 0, 0, 0, 0⟩
  , ⟨0x5040, 24, 0x02, 0x02, "atnik.enable", 9, 1, 1, 1, 0, 1, 0⟩
  , ⟨0x5040, 24, 0x03, 0x03, "atnik.class", 10, 1, 1, 0, 1, 1, 0⟩
  , ⟨0x5040, 24, 0x04, 0x04, "atnik.tx_eq", 3, 4, 1, 0, 1, 1, 0⟩
  , ⟨0x5040, 24, 0x05, 0x05, "atnik.width", 1, 1, 0, 0, 0, 0, 0⟩
  , ⟨0x5040, 24, 0x06, 0x06, "atnik.version", 1, 1, 0, 0, 0, 0, 0⟩
  , ⟨0x5040, 24, 0x07, 0x07, "atnik.partner_kind", 10, 1, 0, 255, 0, 0, 0⟩
  , ⟨0x5040, 24, 0x08, 0x08, "atnik.partner_identity", 4, 8, 0, 0, 0, 0, 0⟩
  , ⟨0x5040, 24, 0x09, 0x09, "atnik.partner_epoch", 3, 4, 0, 0, 1, 0, 0⟩
  , ⟨0x5040, 24, 0x0A, 0x0A, "atnik.partner_node", 3, 4, 0, 4294967295, 0, 0, 0⟩
  , ⟨0x5040, 24, 0x0B, 0x0B, "atnik.protect", 10, 1, 1, 0, 1, 1, 0⟩
  , ⟨0x5040, 24, 0x0C, 0x0C, "atnik.crc_errors", 4, 8, 0, 0, 1, 0, 0⟩
  , ⟨0x5040, 24, 0x0D, 0x0D, "atnik.naks", 4, 8, 0, 0, 1, 0, 0⟩
  , ⟨0x5040, 24, 0x0E, 0x0E, "atnik.retrains", 3, 4, 0, 0, 0, 0, 0⟩
  , ⟨0x5040, 24, 0x0F, 0x0F, "atnik.returns", 3, 4, 0, 0, 0, 0, 0⟩
  , ⟨0x5040, 24, 0x10, 0x10, "atnik.partners_new", 3, 4, 0, 0, 0, 0, 0⟩
  , ⟨0x5040, 24, 0x11, 0x11, "atnik.auth_failures", 4, 8, 0, 0, 0, 0, 0⟩
  , ⟨0x5100, 256, 0x01, 0x10, "atnik.route", 4, 8, 1, 0, 0, 1, 0⟩
  , ⟨0x5200, 256, 0x01, 0x10, "atnik.remap", 3, 4, 1, 0, 0, 1, 0⟩
  , ⟨0x5800, 1, 0x01, 0x01, "coll.reduction_mib", 3, 4, 0, 768, 0, 0, 0⟩
  , ⟨0x5800, 1, 0x02, 0x02, "coll.stalemate_ms", 3, 4, 0, 50, 0, 0, 0⟩ ]

/-- Entry tables, part 11. -/
def dictRows11 : List DRow :=
  [ ⟨0x5800, 1, 0x03, 0x03, "coll.ecc_corrected", 4, 8, 0, 0, 1, 0, 0⟩
  , ⟨0x5800, 1, 0x04, 0x04, "coll.segments_recomputed", 3, 4, 0, 0, 0, 0, 0⟩
  , ⟨0x5810, 16, 0x01, 0x01, "coll.share_kib", 3, 4, 0, 0, 0, 0, 1⟩
  , ⟨0x5810, 16, 0x02, 0x02, "coll.outstanding", 1, 1, 0, 0, 0, 0, 1⟩
  , ⟨0x5810, 16, 0x03, 0x03, "coll.completed", 4, 8, 0, 0, 0, 0, 1⟩
  , ⟨0x5810, 16, 0x04, 0x04, "coll.aborted", 3, 4, 0, 0, 0, 0, 1⟩
  , ⟨0x5810, 16, 0x05, 0x05, "coll.stalemates", 3, 4, 0, 0, 0, 0, 1⟩
  , ⟨0x5810, 16, 0x06, 0x06, "coll.mismatches", 3, 4, 0, 0, 0, 0, 1⟩
  , ⟨0x5810, 16, 0x07, 0x07, "coll.bytes_sent", 4, 8, 0, 0, 0, 0, 1⟩
  , ⟨0x5810, 16, 0x08, 0x08, "coll.window_slots_peak", 2, 2, 0, 0, 1, 0, 1⟩
  , ⟨0x5810, 16, 0x09, 0x09, "coll.admission_waits", 4, 8, 0, 0, 1, 0, 1⟩
  , ⟨0x5810, 16, 0x0A, 0x0A, "coll.named_last", 3, 4, 0, 0, 0, 0, 1⟩
  , ⟨0x5810, 16, 0x0B, 0x0B, "coll.last_seq", 3, 4, 0, 0, 0, 0, 1⟩
  , ⟨0x5810, 16, 0x0C, 0x0C, "coll.last_lateness_ns", 4, 8, 0, 0, 0, 0, 1⟩
  , ⟨0x5810, 16, 0x0D, 0x0D, "coll.result_invalid", 4, 8, 0, 0, 0, 0, 1⟩
  , ⟨0x5810, 16, 0x0E, 0x0E, "coll.result_overflow", 4, 8, 0, 0, 0, 0, 1⟩
  , ⟨0x5810, 16, 0x0F, 0x0F, "coll.result_underflow", 4, 8, 0, 0, 1, 0, 1⟩
  , ⟨0x5810, 16, 0x10, 0x10, "coll.vanished", 4, 8, 0, 0, 0, 0, 1⟩
  , ⟨0x5830, 16, 0x01, 0x10, "coll.lateness_hist", 4, 8, 0, 0, 0, 0, 1⟩
  , ⟨0x6000, 1, 0x01, 0x01, "power.cap_w", 3, 4, 1, 22000, 0, 1, 0⟩
  , ⟨0x6000, 1, 0x02, 0x02, "power.brake_cap_w", 3, 4, 1, 6000, 0, 1, 0⟩
  , ⟨0x6000, 1, 0x03, 0x03, "power.freq_ceiling_mhz", 2, 2, 1, 1500, 1, 1, 0⟩
  , ⟨0x6000, 1, 0x04, 0x04, "power.input_limit_a", 2, 2, 1, 550, 1, 1, 0⟩
  , ⟨0x6000, 1, 0x05, 0x05, "power.input_w", 3, 4, 0, 0, 0, 0, 0⟩ ]

/-- Entry tables, part 12. -/
def dictRows12 : List DRow :=
  [ ⟨0x6000, 1, 0x06, 0x06, "power.vin_mv", 3, 4, 0, 0, 0, 0, 0⟩
  , ⟨0x6000, 1, 0x07, 0x07, "power.energy_mj", 4, 8, 0, 0, 0, 0, 0⟩
  , ⟨0x6000, 1, 0x08, 0x08, "power.aux_energy_mj", 4, 8, 0, 0, 0, 0, 0⟩
  , ⟨0x6000, 1, 0x09, 0x09, "power.energy_sample", 13, 16, 0, 0, 0, 0, 0⟩
  , ⟨0x6000, 1, 0x0A, 0x0A, "power.target_mhz", 2, 2, 0, 1500, 0, 0, 0⟩
  , ⟨0x6000, 1, 0x0B, 0x0B, "power.duty_16ths", 1, 1, 0, 16, 0, 0, 0⟩
  , ⟨0x6000, 1, 0x0C, 0x0C, "power.throttle_now", 11, 4, 0, 0, 0, 0, 0⟩
  , ⟨0x6000, 1, 0x0D, 0x0D, "power.binding_reason", 10, 1, 0, 0, 0, 0, 0⟩
  , ⟨0x6000, 1, 0x0E, 0x0E, "power.slope_w", 3, 4, 0, 300, 1, 0, 0⟩
  , ⟨0x6000, 1, 0x0F, 0x0F, "power.brake_active", 9, 1, 0, 0, 0, 0, 0⟩
  , ⟨0x6000, 1, 0x10, 0x10, "thermal.throttle_c", 1, 1, 1, 100, 1, 1, 0⟩
  , ⟨0x6000, 1, 0x11, 0x11, "thermal.trip_c", 1, 1, 0, 115, 0, 0, 0⟩
  , ⟨0x6000, 1, 0x12, 0x12, "thermal.max_temp", 5, 4, 0, 0, 0, 0, 0⟩
  , ⟨0x6000, 1, 0x13, 0x13, "thermal.trips", 3, 4, 0, 0, 0, 1, 0⟩
  , ⟨0x6010, 1, 0x01, 0x05, "throttle.duration_ns", 4, 8, 0, 0, 0, 0, 0⟩
  , ⟨0x6011, 1, 0x01, 0x05, "throttle.events", 4, 8, 0, 0, 0, 0, 0⟩
  , ⟨0x6020, 1, 0x01, 0x30, "droop.stretches", 4, 8, 0, 0, 1, 0, 0⟩
  , ⟨0x6100, 48, 0x01, 0x80, "power.tile_fmax_mhz", 2, 2, 0, 0, 0, 0, 0⟩
  , ⟨0x6200, 1, 0x01, 0x44, "thermal.die_temp", 5, 4, 0, 0, 0, 0, 0⟩
  , ⟨0x6300, 1, 0x01, 0x42, "power.reg_phases_good", 1, 1, 0, 0, 0, 0, 0⟩
  , ⟨0x7000, 1, 0x01, 0x01, "fw.state", 10, 1, 0, 0, 0, 0, 0⟩
  , ⟨0x7000, 1, 0x02, 0x02, "fw.boot_ms", 3, 4, 0, 0, 0, 0, 0⟩
  , ⟨0x7000, 1, 0x03, 0x03, "fw.active_slot", 1, 1, 0, 0, 0, 0, 0⟩
  , ⟨0x7000, 1, 0x04, 0x04, "fw.security_version_min", 4, 8, 4, 0, 0, 1, 0⟩ ]

/-- Entry tables, part 13. -/
def dictRows13 : List DRow :=
  [ ⟨0x7001, 1, 0x01, 0x02, "fw.slot_version", 3, 4, 0, 0, 0, 0, 0⟩
  , ⟨0x7002, 1, 0x01, 0x01, "fw.update_slot", 1, 1, 1, 0, 1, 0, 0⟩
  , ⟨0x7002, 1, 0x02, 0x02, "fw.update_offset", 3, 4, 1, 0, 1, 0, 0⟩
  , ⟨0x7002, 1, 0x03, 0x03, "fw.update_chunk", 13, 4096, 3, 0, 1, 0, 0⟩
  , ⟨0x7002, 1, 0x04, 0x04, "fw.update_commit", 9, 1, 3, 0, 1, 0, 0⟩
  , ⟨0x7002, 1, 0x05, 0x05, "fw.service_restarts", 3, 4, 0, 0, 0, 0, 0⟩
  , ⟨0x7010, 1, 0x01, 0x01, "holdup.estimate_mj", 3, 4, 0, 0, 0, 0, 0⟩
  , ⟨0x7010, 1, 0x02, 0x02, "holdup.voltage_mj", 3, 4, 0, 0, 1, 0, 0⟩
  , ⟨0x7010, 1, 0x03, 0x03, "holdup.charge_mj", 3, 4, 0, 0, 1, 0, 0⟩
  , ⟨0x7010, 1, 0x04, 0x04, "holdup.vhold_mv", 3, 4, 0, 0, 0, 0, 0⟩
  , ⟨0x7010, 1, 0x05, 0x05, "holdup.calibrated", 9, 1, 0, 0, 0, 0, 0⟩
  , ⟨0x7010, 1, 0x06, 0x06, "holdup.conflicts", 3, 4, 0, 0, 0, 0, 0⟩
  , ⟨0x7010, 1, 0x07, 0x07, "holdup.commits_deferred", 3, 4, 0, 0, 0, 0, 0⟩
  , ⟨0x7010, 1, 0x08, 0x08, "holdup.capacitance_uf", 3, 4, 4, 47000, 1, 1, 0⟩
  , ⟨0x7010, 1, 0x09, 0x09, "holdup.v_full_mv", 2, 2, 4, 12000, 1, 1, 0⟩
  , ⟨0x7010, 1, 0x0A, 0x0A, "holdup.v_floor_mv", 2, 2, 4, 6000, 1, 1, 0⟩
  , ⟨0x7020, 1, 0x01, 0x01, "sec.unlock", 13, 256, 3, 0, 1, 0, 0⟩
  , ⟨0x7020, 1, 0x02, 0x02, "sec.unlock_nonce", 13, 48, 0, 0, 1, 0, 0⟩
  , ⟨0x7020, 1, 0x03, 0x03, "sec.platform_key_hash", 13, 48, 0, 0, 0, 0, 0⟩
  , ⟨0x7020, 1, 0x04, 0x04, "sec.service_refused", 3, 4, 0, 0, 0, 0, 0⟩
  , ⟨0x7021, 1, 0x01, 0x04, "sec.requester_anchor", 13, 48, 1, 0, 1, 1, 0⟩
  , ⟨0x7022, 1, 0x01, 0x04, "sec.measurement", 13, 48, 0, 0, 0, 0, 0⟩
  , ⟨0x7030, 1, 0x01, 0x18, "sec.link_peer", 13, 16, 1, 0, 1, 1, 0⟩
  , ⟨0x8000, 16, 0x01, 0x01, "ckpt.every_frames", 3, 4, 2, 0, 0, 0, 1⟩ ]

/-- Entry tables, part 14. -/
def dictRows14 : List DRow :=
  [ ⟨0x8000, 16, 0x02, 0x02, "ckpt.every_ms", 3, 4, 2, 0, 0, 0, 1⟩
  , ⟨0x8000, 16, 0x03, 0x03, "ckpt.type", 10, 1, 2, 0, 0, 0, 1⟩
  , ⟨0x8000, 16, 0x04, 0x07, "ckpt.auto_region", 2, 2, 2, 65535, 0, 0, 1⟩
  , ⟨0x8000, 16, 0x08, 0x08, "ckpt.data_position", 13, 256, 2, 0, 0, 0, 1⟩
  , ⟨0x8000, 16, 0x09, 0x09, "ckpt.capture_limit_ms", 3, 4, 2, 1000, 1, 0, 1⟩
  , ⟨0x8000, 16, 0x0A, 0x0A, "ckpt.count", 3, 4, 0, 0, 0, 0, 1⟩
  , ⟨0x8000, 16, 0x0B, 0x0B, "ckpt.last_frame", 4, 8, 0, 0, 0, 0, 1⟩
  , ⟨0x8000, 16, 0x0C, 0x0C, "ckpt.last_bytes", 4, 8, 0, 0, 0, 0, 1⟩
  , ⟨0x8000, 16, 0x0D, 0x0D, "ckpt.last_capture_ns", 4, 8, 0, 0, 0, 0, 1⟩
  , ⟨0x8400, 16, 0x01, 0x01, "record.ring_base", 4, 8, 2, 0, 0, 0, 1⟩
  , ⟨0x8400, 16, 0x02, 0x02, "record.ring_size", 3, 4, 2, 0, 0, 0, 1⟩
  , ⟨0x8400, 16, 0x03, 0x03, "record.full_policy", 10, 1, 2, 0, 0, 0, 1⟩
  , ⟨0x8400, 16, 0x04, 0x04, "record.mode", 10, 1, 0, 0, 0, 0, 1⟩
  , ⟨0x8400, 16, 0x05, 0x05, "record.entries", 4, 8, 0, 0, 0, 0, 1⟩
  , ⟨0x8400, 16, 0x06, 0x06, "record.dropped", 4, 8, 0, 0, 0, 0, 1⟩
  , ⟨0x8400, 16, 0x07, 0x07, "record.live_ignored", 4, 8, 0, 0, 0, 0, 1⟩
  , ⟨0x8410, 16, 0x01, 0x01, "digest.enable", 9, 1, 0, 0, 0, 0, 1⟩
  , ⟨0x8410, 16, 0x02, 0x02, "digest.ring_addr", 4, 8, 2, 0, 0, 0, 1⟩
  , ⟨0x8410, 16, 0x03, 0x03, "digest.depth", 2, 2, 2, 16, 0, 0, 1⟩
  , ⟨0x8410, 16, 0x04, 0x04, "digest.last_partition", 4, 8, 0, 0, 0, 0, 1⟩
  , ⟨0xA000, 8192, 0x01, 0x01, "mirror.target", 3, 4, 1, 0, 1, 0, 0⟩
  , ⟨0xA000, 8192, 0x02, 0x02, "mirror.value", 0, 0, 1, 0, 1, 0, 0⟩ ]

/-- Every line. -/
def dictRows : List DRow :=
  dictRows0 ++ dictRows1 ++ dictRows2 ++ dictRows3 ++ dictRows4 ++ dictRows5 ++ dictRows6 ++ dictRows7 ++ dictRows8 ++ dictRows9 ++ dictRows10 ++ dictRows11 ++ dictRows12 ++ dictRows13 ++ dictRows14

/-- The line that holds an entry, where one does (16:R475). -/
def dictRow (idx sub : Nat) : Option DRow :=
  dictRows.find? (fun r => r.idx ≤ idx && decide (idx < r.idx + r.n) && r.lo ≤ sub && sub ≤ r.hi)

/-- The default of an entry. -/
def dictDefault (idx sub : Nat) : Nat :=
  match dictRow idx sub with
  | some r => r.dflt
  | none => 0

/-- Key of an entry in the table of values. -/
def dkey (idx sub : Nat) : Nat := idx * 256 + sub

end Sys2Proof
end

