-- ==== Sys2Proof/Machine/Num.lean ====
section
/-!
DEFINITION. The nine number formats, exact values, rounding, conversion, block scaling, group sums, stochastic
rounding and the transcendental functions (02). Every value is exact until it is rounded once.
-/

namespace Sys2Proof

/-- An exact value: a NaN (signalling or not), an infinity, or ± m · 2^e. -/
inductive FVal where
  | nan (signalling : Bool)
  | inf (neg : Bool)
  | fin (neg : Bool) (m : Nat) (e : Int)
deriving DecidableEq, Repr, Inhabited

/-- The sticky exception flags of a tile (02:R68). -/
structure Flags where
  /-- invalid -/
  inv : Bool := false
  /-- overflow -/
  ovf : Bool := false
  /-- underflow -/
  unf : Bool := false
deriving DecidableEq, Repr, Inhabited

/-- Both sets of flags raised. -/
def Flags.or (a b : Flags) : Flags := { inv := a.inv || b.inv, ovf := a.ovf || b.ovf, unf := a.unf || b.unf }

/-- The numeric settings of a partition (02:R73). -/
structure NumCfg where
  /-- engines.ftz_daz: deviation 3 -/
  ftz : Bool := false
  /-- NaN-on-overflow for F8A -/
  nanF8A : Bool := false
  /-- NaN-on-overflow for F4 -/
  nanF4 : Bool := false
deriving DecidableEq, Repr, Inhabited

/-- A delivered code with the flags it raised and whether it vanished (02:R70). -/
structure NumRes where
  raw : Nat
  fl : Flags := {}
  van : Nat := 0
deriving DecidableEq, Repr, Inhabited

/-- How a value is rounded: to nearest even (02:R60), stochastically with the 24-bit number r (02:R67), or by the
directed modes the P-die cores also have (08:R237). -/
inductive Rm where
  | rne | rtz | rdn | rup | rmm
  | stoch (r : Nat)
deriving DecidableEq, Repr, Inhabited

/-- Format codes (02:R47). -/
def fpFP64 : Nat := 0
def fpFP32 : Nat := 1
def fpFP16 : Nat := 2
def fpBF16 : Nat := 3
def fpF8A : Nat := 4
def fpF8B : Nat := 5
def fpF6 : Nat := 6
def fpF4 : Nat := 7
def fpI8 : Nat := 8

/-- Width in bits of an element (02:R47). -/
def fmtWidth : Nat → Nat
  | 0 => 64 | 1 => 32 | 2 => 16 | 3 => 16 | 4 => 8 | 5 => 8 | 6 => 6 | 7 => 4 | 8 => 8 | _ => 0

/-- Significand field width (02:R48). -/
def fmtMant : Nat → Nat
  | 0 => 52 | 1 => 23 | 2 => 10 | 3 => 7 | 4 => 3 | 5 => 2 | 6 => 2 | 7 => 1 | _ => 0

/-- Exponent field width (02:R48). -/
def fmtExp : Nat → Nat
  | 0 => 11 | 1 => 8 | 2 => 5 | 3 => 8 | 4 => 4 | 5 => 5 | 6 => 3 | 7 => 2 | _ => 0

/-- Exponent bias (02:R48). -/
def fmtBias : Nat → Nat
  | 0 => 1023 | 1 => 127 | 2 => 15 | 3 => 127 | 4 => 7 | 5 => 15 | 6 => 3 | 7 => 1 | _ => 0

/-- A code of the table of R47 that is not reserved. -/
def fmtOk (c : Nat) : Bool := c ≤ 8

/-- Formats that have infinities and NaNs in the top exponent (02:R50). -/
def fmtIeee (c : Nat) : Bool := c ≤ 3 || c = 5

/-- Formats that are always block-scaled (02:R53). -/
def fmtAlwaysScaled (c : Nat) : Bool := c = 6 || c = 7 || c = 8

/-- Formats that may be block-scaled (02:R53). -/
def fmtMayScale (c : Nat) : Bool := 4 ≤ c && c ≤ 8

/-- The scaled attribute agrees with R53. -/
def scaledOk (c : Nat) (scaled : Bool) : Bool :=
  if fmtAlwaysScaled c then scaled else if fmtMayScale c then true else !scaled

/-- The code of the largest finite magnitude (02:R48, R50). -/
def fmtMaxRaw : Nat → Nat
  | 0 => 0x7FEFFFFFFFFFFFFF | 1 => 0x7F7FFFFF | 2 => 0x7BFF | 3 => 0x7F7F | 4 => 0x7E | 5 => 0x7B | 6 => 0x1F
  | 7 => 0x7 | 8 => 0x7F | _ => 0

/-- The canonical NaN (02:R50, R51); 0 where the format has none. -/
def fmtNan : Nat → Nat
  | 0 => 0x7FF8000000000000 | 1 => 0x7FC00000 | 2 => 0x7E00 | 3 => 0x7FC0 | 4 => 0x7F | 5 => 0x7E | 7 => 0x8 | _ => 0

/-- The value of a code (02:R49, R50, R52). -/
def decodeFmt (c raw : Nat) : FVal :=
  if c = 8 then
    let v := toSigned 8 raw
    .fin (decide (v < 0)) v.natAbs 0
  else
    let w := fmtWidth c
    let mb := fmtMant c
    let neg := bit raw (w - 1)
    let e := bits raw (w - 2) mb
    let m := raw % 2 ^ mb
    if fmtIeee c && decide (e = 2 ^ fmtExp c - 1) then
      if m = 0 then .inf neg else .nan (!(bit m (mb - 1)))
    else if c = 4 && decide (raw % 128 = 127) then .nan false
    else if c = 7 && decide (raw % 16 = 8) then .nan false
    else if e = 0 then .fin neg m (1 - (fmtBias c : Int) - mb)
    else .fin neg (2 ^ mb + m) ((e : Int) - fmtBias c - mb)

/-- Compare m₁·2^e₁ with m₂·2^e₂. -/
def magLt (m₁ : Nat) (e₁ : Int) (m₂ : Nat) (e₂ : Int) : Bool :=
  if e₁ ≤ e₂ then decide (m₁ < m₂ <<< (e₂ - e₁).toNat) else decide (m₁ <<< (e₁ - e₂).toNat < m₂)

/-- A magnitude on the grid of 2^q: t units, and whether anything was discarded. -/
structure Grid where
  t : Nat
  q : Int
  inexact : Bool
deriving DecidableEq, Repr, Inhabited

/-- Round m·2^e, with `st` set when the exact magnitude lies strictly between m and m + 1 units, onto multiples
of 2^q (02:R60, R67). -/
def roundGrid (mode : Rm) (neg : Bool) (m : Nat) (e : Int) (st : Bool) (q : Int) : Grid :=
  if q ≤ e then { t := m <<< (e - q).toNat, q := q, inexact := st }
  else
    let sh := (q - e).toNat
    let t := m >>> sh
    let r := m - t <<< sh
    let h := 1 <<< (sh - 1)
    let inex := decide (r ≠ 0) || st
    let up := match mode with
      | .rne => decide (h < r) || (decide (r = h) && (st || decide (t % 2 = 1)))
      | .rtz => false
      | .rdn => neg && inex
      | .rup => !neg && inex
      | .rmm => decide (h ≤ r)
      | .stoch ρ => decide (ρ < (r <<< 24) >>> sh)
    { t := if up then t + 1 else t, q := q, inexact := inex }

/-- The exponent of the grid a nonzero magnitude is rounded on: its own binade, or the subnormal grid (02:R60). -/
def gridOf (c : Nat) (m : Nat) (e : Int) : Int :=
  let q := e + (Nat.log2 m : Int) - fmtMant c
  let qmin := 1 - (fmtBias c : Int) - fmtMant c
  if c = 8 then 0 else if q < qmin then qmin else q

/-- The code of t·2^q, t at most one unit above the significand's range. -/
def packMag (c : Nat) (t : Nat) (q : Int) : Nat :=
  if c = 8 then t
  else
    let mb := fmtMant c
    let (t, q) := if 2 ^ (mb + 1) ≤ t then (t / 2, q + 1) else (t, q)
    if t < 2 ^ mb then t else ((q + mb + fmtBias c).toNat <<< mb) + (t - 2 ^ mb)

/-- Put a sign on a magnitude's code; I8 is two's complement (02:R52), F4 has no negative zero (02:R50). -/
def packSign (c : Nat) (neg : Bool) (raw : Nat) : Nat :=
  if neg = false then raw
  else if c = 8 then (256 - raw) % 256
  else if c = 7 && raw = 0 then 0
  else raw + 2 ^ (fmtWidth c - 1)

/-- The result of an overflow (02:R61). -/
def overflowRaw (cfg : NumCfg) (c : Nat) (neg : Bool) : Nat :=
  if fmtIeee c then packSign c neg ((2 ^ fmtExp c - 1) <<< fmtMant c)
  else if c = 4 && cfg.nanF8A then fmtNan 4
  else if c = 7 && cfg.nanF4 then fmtNan 7
  else packSign c neg (fmtMaxRaw c)

/-- A format whose results below the smallest normal are delivered as zero: BF16, and FP32 under the setting
(02:R74, deviations 2 and 3). -/
def flushes (cfg : NumCfg) (c : Nat) : Bool := c = 3 || (c = 1 && cfg.ftz)

/-- Deliver a finite magnitude (with a sticky part) into a format (02:R60, R61, R69, R70). -/
def deliverFin (cfg : NumCfg) (c : Nat) (mode : Rm) (neg : Bool) (m : Nat) (e : Int) (st : Bool) : NumRes :=
  if m = 0 && !st then { raw := packSign c neg 0 }
  else if m = 0 then { raw := packSign c neg 0, fl := { unf := true }, van := 1 }
  else
    let g := roundGrid mode neg m e st (gridOf c m e)
    let (mm, me) := match decodeFmt c (fmtMaxRaw c) with
      | .fin _ mm me => (mm, me)
      | _ => (0, 0)
    if magLt mm me g.t g.q then
      { raw := overflowRaw cfg c neg, fl := { ovf := true } }
    else
      let low : Int := if c = 8 then 0 else 1 - (fmtBias c : Int)
      let tiny := magLt m e 1 low
      let fl := flushes cfg c && magLt g.t g.q 1 low
      let zero := fl || decide (g.t = 0)
      { raw := packSign c neg (if zero then 0 else packMag c g.t g.q)
        fl := { unf := tiny && (g.inexact || (fl && decide (g.t ≠ 0))) }
        van := if zero then 1 else 0 }

/-- Deliver any value into a format (02:R62). A NaN into F6 or I8 is a block matter and only raises invalid here. -/
def deliver (cfg : NumCfg) (c : Nat) (mode : Rm) (v : FVal) : NumRes :=
  match v with
  | .fin neg m e => deliverFin cfg c mode neg m e false
  | .inf neg =>
    if fmtIeee c then { raw := overflowRaw cfg c neg }
    else if c = 8 then { raw := packSign 8 neg 127, fl := { inv := true } }
    else { raw := overflowRaw cfg c neg, fl := { ovf := true } }
  | .nan sig =>
    if c = 6 || c = 8 then { raw := 0, fl := { inv := true } }
    else { raw := fmtNan c, fl := { inv := sig } }

/-- An exact value times 2^k. -/
def FVal.scale (v : FVal) (k : Int) : FVal :=
  match v with
  | .fin n m e => .fin n m (e + k)
  | v => v

/-- A NaN. -/
def FVal.isNan : FVal → Bool
  | .nan _ => true
  | _ => false

/-- A signalling NaN. -/
def FVal.isSig : FVal → Bool
  | .nan s => s
  | _ => false

/-- The value without its sign. -/
def FVal.abs : FVal → FVal
  | .fin _ m e => .fin false m e
  | .inf _ => .inf false
  | v => v

/-- The value with its sign turned. -/
def FVal.neg : FVal → FVal
  | .fin n m e => .fin (!n) m e
  | .inf n => .inf (!n)
  | v => v

/-- A zero of either sign. -/
def FVal.isZero : FVal → Bool
  | .fin _ m _ => m == 0
  | _ => false

/-- The sign. -/
def FVal.sign : FVal → Bool
  | .fin n _ _ => n
  | .inf n => n
  | _ => false

/-- Element i of a block under its scale; of a block whose E8 is 0xFF it is a quiet NaN (02:R54, log entry 74). -/
def decodeScaled (c e8 raw : Nat) : FVal :=
  if e8 = 0xFF then .nan false else (decodeFmt c raw).scale ((e8 : Int) - 127)

/-- Least k with m₁·2^e₁ ≤ m₂·2^(e₂ + k), both nonzero: the rounded-up binary logarithm of the ratio (02:R55). -/
def ceilLog2Ratio (m₁ : Nat) (e₁ : Int) (m₂ : Nat) (e₂ : Int) : Int :=
  let k := (e₁ + (Nat.log2 m₁ : Int)) - (e₂ + (Nat.log2 m₂ : Int))
  if magLt m₂ (e₂ + k) m₁ e₁ then k + 1
  else if magLt m₂ (e₂ + (k - 1)) m₁ e₁ then k else k - 1

/-- The largest finite magnitude of a list of values, as m·2^e; (0, 0) if none is nonzero (02:R55). -/
def amaxOf : List FVal → Nat × Int
  | [] => (0, 0)
  | .fin _ m e :: vs =>
    let (am, ae) := amaxOf vs
    if m = 0 then (am, ae) else if am = 0 || magLt am ae m e then (m, e) else (am, ae)
  | _ :: vs => amaxOf vs

/-- The block scale of 32 source values (02:R55, R56). -/
def blockScale (c : Nat) (vs : List FVal) : Nat :=
  let (am, ae) := amaxOf vs
  if am = 0 then 0
  else
    let (mm, me) := match decodeFmt c (fmtMaxRaw c) with
      | .fin _ mm me => (mm, me)
      | _ => (1, 0)
    let k := 127 + ceilLog2Ratio am ae mm me
    if k < 0 then 0 else if 254 < k then 254 else k.toNat

/-- A block's scale, element codes, flags and vanished count (02:R55 to R57). `modes` gives each element's
rounding. -/
def encodeBlock (cfg : NumCfg) (c : Nat) (modes : List Rm) (vs : List FVal) : Nat × List Nat × Flags × Nat :=
  if (c = 6 || c = 8) && vs.any FVal.isNan then (0xFF, vs.map (fun _ => 0), { inv := true }, 0)
  else
    let e8 := blockScale c vs
    let rs := (vs.zip modes).map (fun p => deliver cfg c p.2 (p.1.scale (127 - (e8 : Int))))
    (e8, rs.map (·.raw), rs.foldl (fun f r => f.or r.fl) {}, rs.foldl (fun n r => n + r.van) 0)

/-- Sum of two exact finite values as a signed integer times 2^e. -/
def dyAdd (a : Int) (ea : Int) (b : Int) (eb : Int) : Int × Int :=
  if ea ≤ eb then (a + b * (2 ^ (eb - ea).toNat : Nat), ea) else (a * (2 ^ (ea - eb).toNat : Nat) + b, eb)

/-- The exact sum of the finite values of a list. -/
def dySum : List FVal → Int × Int
  | [] => (0, 0)
  | .fin n m e :: vs =>
    let (s, k) := dySum vs
    if m = 0 then (s, k)
    else if s = 0 then ((if n then -(m : Int) else m), e)
    else dyAdd s k (if n then -(m : Int) else m) e
  | _ :: vs => dySum vs

/-- The exact value of a group sum and whether it raises invalid; the first row of R65's table that holds applies (02:R64, R65, log entry
74). The accumulator is one of the values. -/
def groupSum (vs : List FVal) : FVal × Bool :=
  let sig := vs.any FVal.isSig
  if vs.any FVal.isNan then (.nan false, sig)
  else
    let pos := vs.any (fun v => v == .inf false)
    let neg := vs.any (fun v => v == .inf true)
    if pos && neg then (.nan false, true)
    else if pos then (.inf false, false)
    else if neg then (.inf true, false)
    else
      let (s, k) := dySum vs
      if s = 0 then (.fin (vs.all (fun v => v.isZero && v.sign)) 0 0, false)
      else (.fin (decide (s < 0)) s.natAbs k, false)

/-- The exact product and whether it raises invalid (02:R64, R65). -/
def fmulX (a b : FVal) : FVal × Bool :=
  match a, b with
  | .nan s, .nan t => (.nan false, s || t)
  | .nan s, _ => (.nan false, s)
  | _, .nan t => (.nan false, t)
  | .inf m, .inf n => (.inf (m != n), false)
  | .inf m, .fin n k _ => if k = 0 then (.nan false, true) else (.inf (m != n), false)
  | .fin n k _, .inf m => if k = 0 then (.nan false, true) else (.inf (m != n), false)
  | .fin m a ea, .fin n b eb => (.fin (m != n) (a * b) (ea + eb), false)

/-- Deliver the group sum of values, adding the flags of the terms already raised (02:R64, R65). -/
def deliverSum (cfg : NumCfg) (c : Nat) (mode : Rm) (vs : List FVal) (inv : Bool) : NumRes :=
  let (v, i) := groupSum vs
  let r := deliver cfg c mode v
  { r with fl := r.fl.or { inv := i || inv } }

/-- The value of an FP code. -/
def rawVal (c raw : Nat) : FVal := decodeFmt c raw

/-- Integer square root by bits, highest first: n more bits below those of r. -/
def isqrtAux (x : Nat) : Nat → Nat → Nat
  | 0, r => r
  | n + 1, r => isqrtAux x n (if (r + 2 ^ n) * (r + 2 ^ n) ≤ x then r + 2 ^ n else r)

/-- Integer square root. -/
def isqrt (x : Nat) : Nat := isqrtAux x (Nat.log2 x / 2 + 1) 0

/-- The quotient of two nonzero magnitudes to at least 70 bits: magnitude, exponent, sticky. -/
def divMag (m₁ : Nat) (e₁ : Int) (m₂ : Nat) (e₂ : Int) : Nat × Int × Bool :=
  let k := 70 + Nat.log2 m₂
  let x := m₁ <<< k
  (x / m₂, e₁ - e₂ - k, decide (x % m₂ ≠ 0))

/-- The square root of a nonzero magnitude to at least 70 bits. -/
def sqrtMag (m : Nat) (e : Int) : Nat × Int × Bool :=
  let (m, e) := if e % 2 = 0 then (m, e) else (2 * m, e - 1)
  let x := m <<< 140
  let r := isqrt x
  (r, (e - 140) / 2, decide (r * r ≠ x))

/-- The reciprocal square root of a nonzero magnitude. -/
def rsqrtMag (m : Nat) (e : Int) : Nat × Int × Bool :=
  let (m, e) := if e % 2 = 0 then (m, e) else (2 * m, e - 1)
  let k := 80 + Nat.log2 m
  let r := isqrt (2 ^ (2 * k) / m)
  (r, -(e / 2) - k, decide (r * r * m ≠ 2 ^ (2 * k)))

/-- Working precision of the transcendental functions, in bits below the point: more than twice the exponent range
of FP64, so that no delivered rounding can depend on what is left (log entry 9). -/
def transBits : Nat := 2400

/-- Taylor terms of e^y in fixed point: `n` more terms after term k, whose value is `t`. -/
def expTaylor (y : Nat) : Nat → Nat → Nat → Nat
  | 0, _, _ => 0
  | n + 1, k, t => t + expTaylor y n (k + 1) (((t * y) >>> transBits) / (k + 1))

/-- Square a fixed-point number n times. -/
def sqrRep : Nat → Nat → Nat
  | 0, x => x
  | n + 1, x => sqrRep n ((x * x) >>> transBits)

/-- e^(m·2^e) in fixed point, for a magnitude below 2^11. -/
def expFixed (m : Nat) (e : Int) : Nat :=
  let s : Nat := 20
  let k : Int := (transBits : Int) + e - (s : Int)
  let y := if 0 ≤ k then m <<< k.toNat else m >>> (-k).toNat
  sqrRep s (expTaylor y 260 0 (2 ^ transBits))

/-- e^v, exact for zero, otherwise a magnitude with a sticky part: its m, e, sticky (02:R194). -/
def expMag (neg : Bool) (m : Nat) (e : Int) : Nat × Int × Bool :=
  if m = 0 then (1, 0, false)
  else if magLt m e 1 11 then
    let x := expFixed m e
    if neg then (2 ^ (3 * transBits) / x, -(2 * transBits : Int), true) else (x, -(transBits : Int), true)
  else if neg then (1, -5000, true) else (1, 5000, true)

/-- tanh of a nonzero magnitude (02:R194). -/
def tanhMag (m : Nat) (e : Int) : Nat × Int × Bool :=
  if magLt m e 1 (-100) then ((m <<< 400) - 1, e - 400, true)
  else if magLt m e 1 9 then
    let x := expFixed m (e + 1)
    let o := 2 ^ transBits
    (((x - o) <<< transBits) / (x + o), -(transBits : Int), true)
  else (2 ^ transBits - 1, -(transBits : Int), true)

/-- Constants of the hashes (02:R66). -/
def hashM1 : Nat := 0x8F3A5C71D2E496B5
def hashM2 : Nat := 0x6D2B79F5C83EA147

/-- The 64-bit product. -/
def mul64 (a b : Nat) : Nat := (a * b) % 2 ^ 64

/-- The 24-bit stochastic number of an element (02:R66). -/
def stochR (seed frame e : Nat) : Nat :=
  let h := (seed % 2 ^ 64) ^^^ mul64 (frame % 2 ^ 64) hashM1
  let h := h ^^^ mul64 (e % 2 ^ 64) hashM2
  let h := h ^^^ (h >>> 31)
  let h := mul64 h hashM1
  let h := h ^^^ (h >>> 29)
  let h := mul64 h hashM2
  let h := h ^^^ (h >>> 32)
  bits h 63 40

/-- Fold of the change hash over words (03:R104). -/
def hashFold : Nat → List Nat → Nat
  | h, [] => h
  | h, w :: ws =>
    let h := mul64 (h ^^^ (w % 2 ^ 64)) hashM1
    hashFold (h ^^^ (h >>> 29)) ws

/-- The change hash of words (03:R104, 12:R378, 14:R440, R451). -/
def changeHash (ws : List Nat) : Nat :=
  let h := mul64 (hashFold 0 ws) hashM2
  if h = 0 then 1 else h

/-- A byte string cut into 64-bit words. -/
def wordsOf : Nat → List Byte → List Nat
  | 0, _ => []
  | n + 1, bs => leNat (bs.take 8) :: wordsOf n (bs.drop 8)

/-- Minimum or maximum by IEEE 754-2019: NaN wins, −0 below +0 (06:R194). -/
def fLess (a b : FVal) : Bool :=
  match a, b with
  | .inf true, .inf true => false
  | .inf true, _ => true
  | _, .inf true => false
  | .inf false, _ => false
  | _, .inf false => true
  | .fin s m e, .fin t n k =>
    if m = 0 && n = 0 then s && !t
    else if m = 0 then !t
    else if n = 0 then s
    else if s && !t then true
    else if !s && t then false
    else if s then magLt n k m e else magLt m e n k
  | _, _ => false

/-- The IEEE 754-2019 maximum, with the invalid flag of a signalling operand. -/
def fMax (a b : FVal) : FVal × Bool :=
  if a.isNan || b.isNan then (.nan false, a.isSig || b.isSig) else (if fLess a b then b else a, false)

/-- The IEEE 754-2019 minimum. -/
def fMin (a b : FVal) : FVal × Bool :=
  if a.isNan || b.isNan then (.nan false, a.isSig || b.isSig) else (if fLess a b then a else b, false)

/-- A number of a list, as fixed panel geometry: lines of a panel (05:R163). -/
def panelLines (c : Nat) : Nat := if c = 0 then 32 else 64

/-- Line size of a panel in bytes (05:R163). -/
def panelL (c : Nat) : Nat := 64 * fmtWidth c / 8

/-- Panel size in bytes (05:R163). -/
def panelP (c : Nat) (scaled : Bool) : Nat := panelLines c * panelL c + (if scaled then 128 else 0)

/-- The 32 codes of a packed block of width w (02:R58). -/
def unpackN (w : Nat) : Nat → Nat → List Nat
  | 0, _ => []
  | n + 1, v => v % 2 ^ w :: unpackN w n (v / 2 ^ w)

/-- Pack codes of width w into a number (02:R58). -/
def packN (w : Nat) : List Nat → Nat
  | [] => 0
  | x :: xs => x % 2 ^ w + 2 ^ w * packN w xs

end Sys2Proof
end

