-- ==== Sys2Proof/Machine/TypesBase.lean ====
section
/-!
DEFINITION. Package-wide pieces of state: the Tempo counter and UTC, events and their log, what the package sends to the
outside, the store dies (03, 09, 16).
-/

namespace Sys2Proof

/-- Tempo state (03:R79). -/
inductive TempoState where
  | unsynced | acquiring | locked | holdover
deriving DecidableEq, Repr, Inhabited

/-- Code of a Tempo state (03:R119). -/
def TempoState.code : TempoState → Nat
  | .unsynced => 0 | .acquiring => 1 | .locked => 2 | .holdover => 3

/-- Role in the Tempo tree (03:R76). -/
inductive TempoRole where
  | follower
  /-- acting root, with its candidate number -/
  | root (k : Nat)
  | standalone
deriving DecidableEq, Repr, Inhabited

/-- One two-way exchange sample: delay and offset in 1/64000 ns (03:R77, log entry 16). -/
structure Sample where
  delay : Int := 0
  offset : Int := 0
deriving DecidableEq, Repr, Inhabited

/-- The Tempo counter and its discipline (03). -/
structure Tempo where
  /-- tempo.now: 64 bits, ns; 03:R75; reset 0 (R109) -/
  now : Nat := 0
  /-- fraction of a nanosecond gathered, in 1/(64000 × 10⁹) ns; 03:R77; reset 0 -/
  acc : Nat := 0
  /-- local time since reset in ns of the reference clock, for limits that Tempo does not carry; reset 0 -/
  local_ : Nat := 0
  /-- tempo.state; 03:R79; reset UNSYNCED -/
  st : TempoState := .unsynced
  /-- role; 03:R76; reset follower -/
  role : TempoRole := .follower
  /-- tempo.offset_ns: I64, in 1/64000 ns; 03:R119; reset 0 -/
  offset : Int := 0
  /-- tempo.delay_ns: I64, in 1/64000 ns; 03:R119; reset 0 -/
  delay : Int := 0
  /-- tempo.freq_ppb: I32, in 1/64000 ppb; 03:R77; reset 0 -/
  freq : Int := 0
  /-- rate correction: I32, in 1/64000 ppb; 03:R77; reset 0 -/
  rate : Int := 0
  /-- tempo.parent_port plus 1, 0 none; 03:R119; reset none -/
  parent : Nat := 0
  /-- tempo.acting_root: 32 bits; 03:R119; reset 0xFFFF_FFFF -/
  root : Nat := 0xFFFFFFFF
  /-- acting root's rank; 03:R76; reset 0xFF DESIGN CHOICE 1 -/
  rank : Nat := 0xFF
  /-- best announcement heard on each port: (rank, hops, local time); 03:R76; reset none -/
  heard : Tab (Option (Nat × Nat × Nat)) := []
  /-- last accepted announcement count per rank and root: (rank, root, count); 11:R367; reset none -/
  counts : List (Nat × Nat × Nat) := []
  /-- own announcements sent: 64 bits; 11:R366; reset 0 -/
  annCount : Nat := 0
  /-- local time of the last announcement of a lower rank than the package's own, or of any where it is no candidate; 03:R76; reset 0 -/
  lastAnn : Nat := 0
  /-- delay history, newest last, at most 8; 03:R77, R78; reset empty -/
  hist : List Int := []
  /-- gathering: samples taken so far, where gathering; 03:R78; reset gathering, empty -/
  gather : Option (List Sample) := some []
  /-- consecutive rejected samples; 03:R78; reset 0 -/
  rejRun : Nat := 0
  /-- consecutive accepted samples within the limit; 03:R79; reset 0 -/
  accRun : Nat := 0
  /-- local time of the last accepted sample; 03:R79; reset 0 -/
  lastAcc : Nat := 0
  /-- local time at which HOLDOVER was entered; 03:R79; reset 0 -/
  holdSince : Nat := 0
  /-- TEMPO_DEGRADED raised in this holdover; 03:R79; reset false -/
  degraded : Bool := false
  /-- outstanding exchange: ID and t1 in 1/256 ns; 03:R77; reset none -/
  sent : Option (Nat × Nat) := none
  /-- local time of the last exchange, and of the last own announcement; 03:R76, R77; reset 0 -/
  syncAt : Nat := 0
  annAt : Nat := 0
  /-- Tempo of the last PTP sync; 03:R82; reset 0 -/
  ptpAt : Nat := 0
  /-- next exchange ID: 16 bits; 11:R366; reset 0 -/
  xid : Nat := 0
  /-- clock-domain-crossing FIFOs released; 03:R109; reset false -/
  cdc : Bool := false
  /-- how far each of these FIFOs' read pointer stands behind its write pointer since the release, and the Tempo of the release; 03:R109;
  reset 0 -/
  cdcBehind : Nat := 0
  cdcAt : Nat := 0
  /-- Tempo of the last PLL lock; 03:R109; reset 0 -/
  pllLock : Nat := 0
deriving DecidableEq, Repr, Inhabited

/-- Tempo in 1/256 ns, the unit of the exchange timestamps (11:R366). -/
def Tempo.fine (t : Tempo) : Nat := t.now * 256 + t.acc * 256 / 64000000000000

/-- An event as logged (16:R504, R505). -/
structure Event where
  seq : Nat := 0
  code : Nat := 0
  /-- partition, 0xFF none -/
  part : Nat := 0xFF
  flags : Nat := 0
  frame : Nat := 0
  tempo : Nat := 0
  utc : Nat := 0
  /-- contents: fields of 8 bytes each -/
  items : List Nat := []
  /-- contents: a record item of its own length -/
  raw : List Byte := []
deriving DecidableEq, Repr, Inhabited

/-- Where a request on the management port came from: IPv6 address and UDP port (16:R489). -/
structure Peer where
  addr : List Byte := []
  port : Nat := 0
deriving DecidableEq, Repr, Inhabited

/-- What the package shows the outside, in the order in which it does. -/
inductive Out where
  /-- A DMA write to host memory of partition p's function (14:R432). -/
  | hostWrite (p : Nat) (addr : Nat) (data : List Byte)
  /-- A completion written to slot `slot` of partition p's completion queue (14:R433), with an MSI-X on vector 0 or not. -/
  | completion (p : Nat) (slot : Nat) (data : List Byte) (msix : Bool)
  /-- A packet on an Atnik port, with its virtual channel (11:R332, R338). -/
  | envelope (port : Nat) (vc : Nat) (link : List Byte) (packet : List Byte)
  /-- Codewords on the lanes of an Atnik port, or of Lenpel port q as 24 + q: two of each lane, lane 0 first (10:R302, R304, 11:R328). -/
  | codewords (port : Nat) (words : List (List Nat))
  /-- A frame on a Lenpel port (10:R305). -/
  | frame (q : Nat) (ftype : Nat) (body : List Byte)
  /-- A member's record entering the reduction on TC3 (03:R86): a tick report, or a cut report (14:R448). -/
  | report (p : Nat) (cut : Bool) (record : List Byte)
  /-- A PAP message on the management port, from UDP port 29417 to an address and port (16:R489, R490): session, receiver, bytes. -/
  | pap (session : Nat) (peer : Peer) (bytes : List Byte)
  /-- An SPDM message (17:R525): requester channel, bytes. -/
  | spdm (channel : Nat) (bytes : List Byte)
  /-- A frame on the management Ethernet port (16:R489). -/
  | ethernet (bytes : List Byte)
  /-- A PTP Delay_Req on the management Ethernet port: its domain, and the Tempo of its departure (03:R81). -/
  | delayReq (domain : Nat) (at_ : Nat)
  /-- Bytes given to an I3C read (16:R501); none is a NACK. -/
  | i3c (bytes : Option (List Byte))
  /-- An in-band interrupt with its mandatory byte (16:R501). -/
  | ibi (mdb : Nat)
  /-- A PCIe completion status to a configuration request (18:R552). -/
  | config (port : Nat) (retry : Bool) (data : Nat)
  /-- MSI-X of a mailbox (16:R499): port, vector. -/
  | msix (port : Nat) (vector : Nat)
  /-- Bits shifted out by the test access port (18:R554). -/
  | tdo (bits : Nat) (n : Nat)
  /-- What the boundary register captured: 1149.1 cells, 1149.6 cells (18:R555). -/
  | scan (dc : Nat) (ac : Nat)
  /-- A pin driven: LP_RST_N of port q, and so on (18:R541). -/
  | pin (name : String) (n : Nat) (level : Bool)
deriving DecidableEq, Repr, Inhabited

/-- A die-store write on its way to, or waiting at, its S-die (03:R94, 09:R265). -/
structure DWrite where
  /-- who writes: 0 tile commit, 1 hart write-through, 2 tier landing, 3 solver output, 4 fabric (09:R265) -/
  src : Nat := 0
  /-- number of the source within its kind: tile, hart, tier move, solver engine; tile, or 6,144 + node of a fabric write -/
  unit : Nat := 0
  part : Nat := 0
  /-- ply sequence number and index in the buffer; else the order in which the source sent it -/
  seq : Nat := 0
  idx : Nat := 0
  addr : Nat := 0
  data : List Byte := []
  /-- accumulate-into (05:R183) -/
  acc : Bool := false
  /-- a completion word: add 1 (07:R215, 09:R293) -/
  inc : Bool := false
  /-- bytes it writes, by bit; none: all (11:R339) -/
  mask : Option Nat := none
  /-- header of the request that this fabric write answers once it is applied, and the next number expected of its source (11:R351) -/
  reply : Option (List Byte × Nat) := none
deriving DecidableEq, Repr, Inhabited

/-- One store die (09). -/
structure SDie where
  /-- writes that have arrived and are not applied, in order of arrival; 09:R265; reset empty -/
  arriving : List DWrite := []
  /-- banks failed, by group × 8 + bank: 1 failed and read by reconstruction, 2 rebuilt into a spare; 09:R263; reset none -/
  banks : Tab Nat := []
  /-- Tempo at which each bank being rebuilt was declared failed; 13:R418; reset none -/
  failedAt : Tab Nat := []
  /-- times of reconstructions in each bank within the last second; 09:R263; reset none -/
  recon : Tab (List Nat) := []
  /-- spare banks left: 4; 09:R259; reset 4 -/
  spares : Nat := 4
  /-- lines that two errors of a row made unreadable, by bank × 93,696 + row, beside those of two dead banks of a group; 09:R263; reset none -/
  lost : List Nat := []
  /-- next line the patrol scrub reads, by bank × 93,696 + row; 09:R263; reset 0 -/
  scrub : Nat := 0
  /-- the window is being cleared; 09:R266; reset false -/
  clearing : Bool := false
deriving DecidableEq, Repr, Inhabited

end Sys2Proof
end

