-- ==== Sys2Proof/Machine/TypesNet.lean ====
section
/-!
DEFINITION. The Atnik fabric: ports, link sequencing, pair contexts, outstanding requests, once-tables, route and remap
tables (11).
-/

namespace Sys2Proof

/-- Port states (11:R335), with their codes of atnik.state (11:R374). -/
inductive APortState where
  | down | train | identify | active | retrain | absent | failed
deriving DecidableEq, Repr, Inhabited

/-- Code of a port state (11:R374). -/
def APortState.code : APortState → Nat
  | .down => 0 | .train => 1 | .identify => 2 | .active => 3 | .retrain => 4 | .absent => 5 | .failed => 6

/-- What a partner's TRAIN_ID said (11:R336). -/
structure Partner where
  /-- kind: 0 package, 1 switch -/
  kind : Nat := 0
  slot : Nat := 0
  port : Nat := 0
  identity : Nat := 0
  epoch : Nat := 0
  node : Nat := 0
  protect : Nat := 0
  credits : List Nat := []
deriving DecidableEq, Repr, Inhabited

/-- An unacknowledged DATA envelope (11:R332). -/
structure Env where
  seq : Nat := 0
  vc : Nat := 0
  packet : List Byte := []
  resends : Nat := 0
deriving DecidableEq, Repr, Inhabited

/-- A packet waiting in a port's queue (11:R334), with the message it belongs to: 0 none, else a message number a
cancel can name (11:R361). -/
structure QPkt where
  vc : Nat := 0
  packet : List Byte := []
  msg : Nat := 0
  /-- the request it carries plus 1, 0 none: its sequence number is given at its first grant -/
  req : Nat := 0
deriving DecidableEq, Repr, Inhabited

/-- A packet received and not yet acted on: its bytes, and its arrival in 1/256 ns (11:R366). -/
structure RxPkt where
  vc : Nat := 0
  packet : List Byte := []
  at_ : Nat := 0
deriving DecidableEq, Repr, Inhabited

/-- One Atnik port (11). -/
structure APort where
  /-- atnik.state; 11:R335; reset DOWN -/
  st : APortState := .down
  /-- Tempo of entry to the state; 11:R335; reset 0 -/
  since : Nat := 0
  /-- width negotiated: 0, 4 or 8; 11:R374; reset 0 -/
  width : Nat := 0
  /-- version negotiated: 8 bits; 11:R374; reset 0 -/
  version : Nat := 0
  /-- lanes found failed, one bit each; 11:R330; reset none -/
  badLanes : Nat := 0
  /-- node ID, protection, class and transmitter setting taken at the entry to TRAIN; 11:R374; reset 0xFFFF_FFFF, 0, 0, 0 -/
  node : Nat := 0xFFFFFFFF
  protect : Nat := 0
  cls : Nat := 0
  txEq : Nat := 0
  /-- partner identified, kept through ABSENT; 11:R336; reset none -/
  partner : Option Partner := none
  /-- its replay buffer and link sequence state stand since ACTIVE, through RETRAIN and ABSENT; 11:R362; reset false -/
  kept : Bool := false
  /-- next transmit sequence: 12 bits; 11:R332; reset 0 -/
  txSeq : Nat := 0
  /-- bytes sent that wait for the rest of their codewords; 10:R302, 11:R328; reset none -/
  line : List Byte := []
  /-- unacknowledged DATA envelopes, oldest first; 11:R332; reset empty -/
  unacked : List Env := []
  /-- sequence expected next from the partner: 12 bits; 11:R331; reset 0 -/
  rxNext : Nat := 0
  /-- a NAK has been sent for the sequence expected; 11:R332; reset false -/
  nakSent : Bool := false
  /-- Tempo of NAKs exchanged in the last 1 ms; 11:R332; reset none -/
  naks : List Nat := []
  /-- envelopes other than IDLE since the last IDLE; 11:R332; reset 0 -/
  nonIdle : Nat := 0
  /-- credits held for sending, per virtual channel, in 64 B units; 11:R333; reset 0 -/
  credits : Tab Nat := []
  /-- credits owed to the partner, per virtual channel; 11:R333; reset 0 -/
  owed : Tab Nat := []
  /-- deficit counters of TC0–TC2 (11:R334); reset 0 -/
  deficit : Tab Nat := []
  /-- packets queued and not granted, in the order queued; 11:R334; reset empty -/
  queue : List QPkt := []
  /-- packets received whose effect is a command of its own still to come; reset empty -/
  rx : List RxPkt := []
  /-- node ranges a notice excludes: first, last; 11:R344; reset none -/
  notices : List (Nat × Nat) := []
  /-- consecutive tag failures; 11:R372; reset 0 -/
  tagRun : Nat := 0
  /-- link key in use, behind its salt; 11:R371; reset none -/
  key : Option (List Byte) := none
  /-- export master secret from which the next link key is derived; 17:R527; reset none -/
  secret : Option (List Byte) := none
  /-- the partner has confirmed the next key in a TRAIN_ID, this side not yet; 11:R371; reset false -/
  rekeyGot : Bool := false
  /-- identity of the peer with which a session for this port stands, plus 1; 17:R527; reset none (0) -/
  peer : Nat := 0
  /-- packets discarded under R339: 64 bits, which no entry shows; 11:R339; reset 0 -/
  discards : Nat := 0
  /-- DATA envelopes sent under the key: 64 bits; 11:R371; reset 0 -/
  keyCount : Nat := 0
  /-- DATA envelopes received under the key: 64 bits; 11:R371; reset 0 -/
  keyRx : Nat := 0
  /-- Tempo at which the key was set; 11:R371; reset 0 -/
  keySince : Nat := 0
deriving DecidableEq, Repr, Inhabited

/-- Who waits for a remote request (11:R349). -/
inductive ReqSrc where
  /-- Kind 0x08 move of a tile: ticket, ply sequence, packet number. -/
  | move (t : Nat) (seq : Nat) (ticket : Nat) (k : Nat)
  /-- Committed kind 0x07 packet of a tile, with its ply sequence. -/
  | send (t : Nat) (seq : Nat)
  /-- A hart's access. -/
  | hart (h : Nat)
  /-- A packet of a collective: partition, sequence number. -/
  | coll (p : Nat) (seq : Nat)
deriving DecidableEq, Repr, Inhabited

/-- An outstanding request of this package (11:R351, R352). -/
structure Req where
  id : Nat := 0
  src : ReqSrc := .hart 0
  part : Nat := 0
  node : Nat := 0
  op : Nat := 0
  tc : Nat := 0
  seq : Nat := 0
  packet : List Byte := []
  /-- message a cancel can name (11:R361) -/
  msg : Nat := 0
  /-- granted once, its sequence number given -/
  sent : Bool := false
  /-- port it last left through -/
  port : Nat := 0
  /-- Tempo of the last sending -/
  sentAt : Nat := 0
  /-- Tempo plus 1 at which a RETRY came, 0 none (11:R358) -/
  retryAt : Nat := 0
  /-- Tempo since which no route has existed, plus 1; 0 while one does (11:R351) -/
  noRoute : Nat := 0
  /-- it waits for its slot's tray ports to return, nothing sent yet (11:R346) -/
  waiting : Bool := false
deriving DecidableEq, Repr, Inhabited

/-- A pair context: both directions with one node (11:R350 to R352). -/
structure Ctx where
  /-- next TC0 and TC1 sequence to send -/
  tx0 : Nat := 0
  tx1 : Nat := 0
  /-- next TC0 sequence expected -/
  rx0 : Nat := 0
  /-- oldest TC1 sequence not applied, and later ones applied -/
  rx1 : Nat := 0
  rx1set : List Nat := []
  /-- the same for the TC2 space of COLL packets (12:R395) -/
  tx2 : Nat := 0
  rx2 : Nat := 0
  rx2set : List Nat := []
  /-- Tempo of last use -/
  used : Nat := 0
  live : Bool := false
deriving DecidableEq, Repr, Inhabited

/-- An entry of a once-table (11:R357). -/
structure Once where
  src : Nat := 0
  agent : Nat := 0
  key : Nat := 0
  /-- the stored result; empty while the atomic waits for its frame tick (03:R112) -/
  result : List Byte := []
  sentAt : Nat := 0
  epoch : Nat := 0
deriving DecidableEq, Repr, Inhabited

/-- A committed send that waits in a C-die commit queue (11:R354). -/
structure Send where
  tile : Nat := 0
  part : Nat := 0
  seq : Nat := 0
  node : Nat := 0
  packet : List Byte := []
  msg : Nat := 0
deriving DecidableEq, Repr, Inhabited

/-- The fabric side of the package (11). -/
structure Fabric where
  /-- ports 0–23; 11:R328 -/
  ports : Tab APort := []
  /-- tray slot: 0–3; 01:R37, 11:R374; reset 0 DESIGN CHOICE 1 (read at reset release) -/
  slot : Nat := 0
  /-- boot epoch: 32 bits; 11:R336; reset 0 DESIGN CHOICE 1 (incremented at every cold start) -/
  epoch : Nat := 0
  /-- known boot epoch of each node, plus 1; 11:R338; reset unknown (0) -/
  epochs : Tab Nat := []
  /-- node of each tray slot's peer since reset, plus 1; 11:R346; reset none -/
  peers : Tab Nat := []
  /-- pair contexts by node, at most 8,192; 11:R350; reset none -/
  ctxs : Tab Ctx := []
  /-- outstanding requests, oldest first; 11:R351; reset empty -/
  reqs : List Req := []
  /-- next request number; reset 0 -/
  nextReq : Nat := 0
  /-- committed sends waiting in commit queues, in order; 11:R354; reset empty -/
  sends : List Send := []
  /-- once-table entries of the 8 F-dies, by F-die; 11:R357; reset empty -/
  once : Tab (List Once) := []
  /-- ONCE_RELEASE and CLOSE packets that wait for a usable port: node and packet; 11:R350, R358; reset none -/
  owedRel : List (Nat × List Byte) := []
  /-- requests of a capturing partition held at their F-die: port and packet; 14:R448; reset empty -/
  held : List (Nat × List Byte) := []
  /-- contributions to the report of a job that the package is the report root of: node and record, by job; 03:R86; reset none -/
  gathered : Tab (List (Nat × List Byte)) := []
  /-- job mismatches not yet reported and Tempo of the last ATNIK_JOB_MISMATCH event plus 1; 11:R373; reset 0 -/
  mism : Nat := 0
  mismAt : Nat := 0
  /-- next message number for cancels; 11:R361; reset 1 -/
  nextMsg : Nat := 1
  /-- packets of each message granted so far; 11:R361; reset 0 -/
  granted : Tab Nat := []
  /-- how the last cancel of service firmware completed: code and packets sent; 11:R361; reset 0, 0 -/
  lastCancel : Nat × Nat := (0, 0)
deriving DecidableEq, Repr, Inhabited

end Sys2Proof
end

