-- ==== Sys2Proof/Machine/TypesPart.lean ====
section
/-!
DEFINITION. What one partition holds: the partition record, the member's schedule and staged changes, the host queues,
the capture of a checkpoint, recording and replay (03, 14).
-/

namespace Sys2Proof

/-- Lifecycle (14:R429). -/
inductive PState where
  | empty | loading | ready | running | holding | checkpointing | faulted
deriving DecidableEq, Repr, Inhabited

/-- The code of a state in STATUS and partition.state (14:R429). -/
def PState.code : PState → Nat
  | .empty => 0 | .loading => 1 | .ready => 2 | .running => 3 | .holding => 4 | .checkpointing => 5 | .faulted => 6

/-- The load image's part of the partition record (14:R437 to R439). -/
structure Image where
  /-- layout_count: 8 bits; 14:R437 -/
  layoutCount : Nat := 0
  /-- flags: bit 0 gambit, bit 1 digests; 14:R437 -/
  flags : Nat := 0
  /-- job_seed: 64 bits; 14:R437 -/
  seed : Nat := 0
  /-- frame_len_us; 14:R437 -/
  fUs : Nat := 0
  /-- ramp_ns; 14:R437 -/
  w : Nat := 0
  /-- work_bound_ns; 14:R437 -/
  b : Nat := 0
  /-- ply_cap_us; 14:R437 -/
  cap : Nat := 0
  /-- record_area_off; 14:R437 -/
  recOff : Nat := 0
  /-- hart_record_base; 14:R437 -/
  hartRec : Nat := 0
  /-- hart_entry_pc; 14:R437 -/
  hartPc : Nat := 0
  /-- coord_off; 14:R437 -/
  coordOff : Nat := 0
  /-- member_list address; 14:R437 -/
  memberAddr : Nat := 0
  /-- doorbell_word × 8; 14:R437 -/
  doors : List Nat := []
  /-- tile table entries, 32 bytes each; 14:R438 -/
  tiles : List (List Byte) := []
  /-- layout records, 32 bytes each; 14:R441 -/
  layouts : List (List Byte) := []
  /-- sorted member list; 14:R437 -/
  members : List Nat := []
  /-- save-set ranges: address, length; 14:R437 -/
  saves : List (Nat × Nat) := []
  /-- numeric settings copied at load; 02:R73 -/
  num : NumCfg := {}
deriving DecidableEq, Repr, Inhabited

/-- A staged change in its slot (03:R104 to R107). -/
structure Change where
  /-- the 32-byte record -/
  bytes : List Byte := []
  kind : Nat := 0
  id : Nat := 0
  frame : Nat := 0
  /-- Tempo of acceptance (R106) -/
  arrived : Nat := 0
  /-- where it came from: 0 STAGE, 1 automatic (14:R445), 2 PREEMPT; its command ID; the deadline -/
  origin : Nat := 0
  cmd : Nat := 0
  deadline : Nat := 0
deriving DecidableEq, Repr, Inhabited

/-- An external input or tick command waiting for its tick (03:R112, 14:R434, R436). -/
structure Pend where
  /-- 1 host input write, 2 doorbell, 3 fabric message, 4 DSTORE_READ, 5 region seal, 6 unseal, 7 destroy -/
  kind : Nat := 0
  target : Option Nat := none
  /-- Tempo of arrival -/
  arrived : Nat := 0
  /-- it carried a target frame index -/
  targeted : Bool := false
  /-- the command's ID, and opcode for its completion -/
  cmd : Nat := 0
  op : Nat := 0
  addr : Nat := 0
  host : Nat := 0
  len : Nat := 0
  data : List Byte := []
deriving DecidableEq, Repr, Inhabited

/-- The schedule and frame state of a member (03). -/
structure Member where
  /-- frames.state: 0 not launched, 1 launch armed, 2 on schedule, 3 held; 03:R119; reset 0 -/
  state : Nat := 0
  /-- frame index n: 64 bits; 03:R119; reset 0 -/
  n : Nat := 0
  /-- frame n has begun (03:R87); reset false -/
  begun : Bool := false
  /-- schedule S: Tempo; 03:R84; reset 0 -/
  s : Nat := 0
  /-- schedule m: 64 bits; 03:R84; reset 0 -/
  m : Nat := 0
  /-- frame length F in ns; 03:R119; reset 0 -/
  f : Nat := 0
  /-- ramp window W in ns; 03:R119; reset 1,600 -/
  w : Nat := 1600
  /-- work bound B in ns; 03:R119; reset 0 -/
  b : Nat := 0
  /-- ply cap in µs; 03:R119; reset 40 -/
  cap : Nat := 40
  /-- gambit enable; 03:R119; reset FALSE -/
  gambit : Bool := false
  /-- last fired tick plus 1; 03:R84; reset none (0) -/
  fired : Nat := 0
  /-- Tempo at which each tick fired that no earlier frame has ended, by tick; 03:R84; reset none -/
  fires : Tab Nat := []
  /-- Tempo at which the schedule in force was set; 03:R84; reset 0 -/
  schedAt : Nat := 0
  /-- index plus 1 of the last report delivered; 03:R86; reset 0 -/
  repDone : Nat := 0
  /-- Tempo at which it came; 03:R87; reset 0 -/
  repAt : Nat := 0
  /-- the report awaited, index plus 1, and when it was contributed (report −1 is index 0); 03:R89; reset none -/
  awaiting : Option (Nat × Nat) := none
  /-- the member's tiles have all made their frame-end commit: Tempo of the last one, and the tile; 03:R87; reset none -/
  ended : Option (Nat × Nat) := none
  /-- start time of the frame in progress, S_n; 03:R87; reset 0 -/
  start : Nat := 0
  /-- pending changes by slot 0–3; 03:R104; reset none -/
  slots : Tab (Option Change) := []
  /-- launch record armed (64 bytes) and its command ID; 03:R85; reset none -/
  launch : Option (List Byte × Nat) := none
  /-- launch hash contributed; 03:R85; reset 0 -/
  launchHash : Nat := 0
  /-- pending external inputs in order of arrival; 03:R112; reset empty -/
  inputs : List Pend := []
  /-- digest.enable; 03:R119; reset FALSE -/
  digest : Bool := false
  /-- changes decided to apply, until their frame begins; 03:R107; reset none -/
  applying : List Change := []
  /-- the launch is decided: frame m begins at L; 03:R85; reset false -/
  go : Bool := false
  /-- the combined record delivered and not yet acted on; 03:R86; reset none -/
  combined : Option (List Byte) := none
  /-- Tempo at which the capture at the next frame's tick ended, plus 1; 14:R449; reset 0 -/
  cutEnd : Nat := 0
  /-- last tile whose frame-end commit came, and its Tempo; 03:R87; reset 0xFFFF -/
  lateTile : Nat := 0xFFFF
  lateAt : Nat := 0
deriving DecidableEq, Repr, Inhabited

/-- Recording and replay of external inputs (03:R113 to R116). -/
structure Recording where
  /-- record.mode: 0 off, 1 recording, 2 replaying; 03:R119; reset 0 -/
  mode : Nat := 0
  /-- producer offset; 03:R113; reset 0 -/
  prod : Nat := 0
  /-- consumer offset; 03:R113; reset 0 -/
  cons : Nat := 0
  /-- a gap of dropped entries is open: its count and its first frame; 03:R115; reset 0 -/
  gap : Nat := 0
  gapFrame : Nat := 0
  /-- entries that wait for room while the member holds (policy 1), with their payload; 03:R115; reset empty -/
  wait : List (List Byte) := []
  /-- Tempo at which room returned or the awaited entries came; 03:R87; reset 0 -/
  roomAt : Nat := 0
  /-- replay: entries read from the ring and not yet applied; 03:R116; reset empty -/
  entries : List (List Byte) := []
  /-- replay: consumer offset that goes with the entries; 03:R113, R116; reset 64 -/
  loaded : Nat := 64
  /-- the ring read for a replay that has not begun holds a gap entry; 03:R116; reset false -/
  refused : Bool := false
deriving DecidableEq, Repr, Inhabited

/-- One virtual function's queues (14:R432, R433). -/
structure Queue where
  /-- CMDQ_BASE: 64 bits; 14:R432; reset 0 -/
  cmdBase : Nat := 0
  /-- CMDQ_CFG log2_entries: 4 bits; 14:R432; reset 0 -/
  cmdLog : Nat := 0
  /-- CMDQ_CFG enable: 1 bit; 14:R432; reset 0 -/
  cmdEn : Bool := false
  /-- CPLQ_BASE: 64 bits; 14:R432; reset 0 -/
  cplBase : Nat := 0
  /-- CPLQ_CFG log2_entries: 4 bits; 14:R432; reset 0 -/
  cplLog : Nat := 0
  /-- CPLQ_CFG enable: 1 bit; 14:R432; reset 0 -/
  cplEn : Bool := false
  /-- CMDQ_TAIL: 16 bits; 14:R432; reset 0 -/
  tail : Nat := 0
  /-- CMDQ_HEAD: 16 bits; 14:R432; reset 0 -/
  head : Nat := 0
  /-- CPLQ_HEAD: 16 bits; 14:R432; reset 0 -/
  cplHead : Nat := 0
  /-- next completion slot; 14:R433; reset 0 -/
  cplTail : Nat := 0
  /-- phase bit of the present pass; 14:R433; reset 1 -/
  phase : Bool := true
  /-- STATUS cmdq_error: 1 bit; 14:R432; reset 0 -/
  error : Bool := false
  /-- the command queue has stopped, until it is disabled and enabled; 14:R433; reset false -/
  stopped : Bool := false
  /-- IRQ_CFG cpl_msix: 1 bit; 14:R432; reset 0 -/
  irq : Bool := false
  /-- INPUT_DB0–7: 64 bits each; 14:R432; reset 0 -/
  doors : Tab Nat := []
  /-- resets of the queue registers so far, by which a command read before one is known: the model's own; 18:R553; reset 0 -/
  gen : Nat := 0
  /-- command entries read and not yet started, in queue order, each behind its 64 bytes the count of resets at its reading; 14:R433; reset
  empty -/
  read : List (List Byte) := []
  /-- completions that wait to be posted, 16 bytes each; 14:R433; reset empty -/
  wait : List (List Byte) := []
deriving DecidableEq, Repr, Inhabited

/-- A checkpoint capture in progress (14:R448). -/
structure Capture where
  bytes : List Byte := []
  origin : Nat := 0
  cmd : Nat := 0
  deadline : Nat := 0
  /-- Tempo at which the stop applied (tick N), at which step 2 began, and at which the cut report went out -/
  since : Nat := 0
  begun : Nat := 0
  sent : Nat := 0
  /-- ckpt.data_position at tick N (14:R444) -/
  dataPos : Nat := 0
  /-- 1 drains, 2 cut report contributed, 3 combined report received, stream being written -/
  step : Nat := 1
  /-- the yield of its missed deadline is under way already: its 1 s mark came (13:R423) -/
  yielded : Bool := false
  /-- the stream, once written -/
  stream : List Byte := []
deriving DecidableEq, Repr, Inhabited

/-- A restore that reads its streams (14:R452). -/
structure Restore where
  cmd : Nat := 0
  regions : List Nat := []
  /-- the member list given, where one is -/
  given : Option (List Nat) := none
  /-- packets wanted: 1 for the header, then the whole stream; and those that came -/
  want : Nat := 1
  got : Tab (List Byte) := []
deriving DecidableEq, Repr, Inhabited

/-- An episode in which a guarantee of the partition yielded (13:R423). -/
structure Yield where
  /-- level that prevails, level that yields -/
  prevails : Nat := 0
  level : Nat := 0
  /-- throttle reason; or 2^32 + castling record number, 2^33 + partition of a checkpoint, 3 × 2^32 + fault class -/
  cause : Nat := 0
  /-- Tempo of start and, once it has ended, of its end -/
  start : Nat := 0
  stop : Option Nat := none
  /-- told at its 1 s mark -/
  told : Bool := false
deriving DecidableEq, Repr, Inhabited

/-- A pre-emption checkpoint that ended after its deadline (14:R447). -/
structure LateCap where
  id : Nat := 0
  deadline : Nat := 0
  /-- Tempo at the end of the capture -/
  ended : Nat := 0
  /-- 1 + number of the castling record of the recovery that is the cause; 0 none -/
  recovery : Nat := 0
deriving DecidableEq, Repr, Inhabited

/-- One partition. -/
structure Part where
  /-- partition.state: 3 bits; 14:R429; reset empty -/
  st : PState := .empty
  /-- partition record, load image part; 14:R426, R437; reset none (all 0) -/
  img : Image := {}
  /-- assigned package harts in ascending order; 14:R427; reset none -/
  harts : List Nat := []
  /-- S-die clears of LOAD_BEGIN or ROLLBACK still running, and the command they complete; 14:R426; reset none -/
  clearing : List Nat := []
  clearCmd : Option (Nat × Nat) := none
  /-- C-dies of the composition, ascending; 14:R426; reset none -/
  dies : List Nat := []
  /-- current layout: 8 bits; 14:R455; reset 0 -/
  layout : Nat := 0
  /-- member rank: 32 bits; 14:R428; reset 0 -/
  rank : Nat := 0
  /-- hold cause event code: 16 bits; 14:R455; reset 0 -/
  holdCause : Nat := 0
  /-- Tempo at which the partition began to hold or to checkpoint; 12:R397, 14:R429; reset 0 -/
  heldAt : Nat := 0
  /-- frame index of the restore the next launch starts from; 14:R452; reset 0 -/
  startFrame : Nat := 0
  /-- schedule and changes; 03 -/
  mem : Member := {}
  /-- recording; 03:R113 -/
  recd : Recording := {}
  /-- host queues; 14:R432 -/
  q : Queue := {}
  /-- checkpoint capture in progress; 14:R448; reset none -/
  cap : Option Capture := none
  /-- restore in progress; 14:R452; reset none -/
  rst : Option Restore := none
  /-- base tick of the automatic checkpoint trigger, and whether a stop has been tried for it; 14:R445; reset 0 -/
  ckptBase : Nat := 0
  ckptTried : Bool := false
  /-- pre-emption checkpoints that ended after their deadline, to be told (14:R447); Tempo + 1 at which the last one ended (13:R424); reset none -/
  lateCaps : List LateCap := []
  preemptEnd : Nat := 0
  /-- episodes of yielded guarantees not yet told; 13:R423; reset none -/
  yields : List Yield := []
deriving DecidableEq, Repr, Inhabited

end Sys2Proof
end

