-- ==== Sys2Proof/Machine/TypesSys.lean ====
section
/-!
DEFINITION. The package's own services: firmware, the persistent store and hold-up (17), ownership, sessions, the mailbox
and I3C (16), the host links and the test access port (18), power and heat (15).
-/

namespace Sys2Proof

/-- A commit to N0 that waits or runs (17:R512, R514). -/
structure Commit where
  /-- 0 boot record, 1 patch area, 2 saved entries, 3 fault map, 4 trip, guarantee or security record, 5 service slot A, 6 slot B,
  7 an unlocked value -/
  kind : Nat := 0
  bytes : Nat := 0
  /-- local time since which it waits -/
  since : Nat := 0
  /-- HOLDUP_DEFERRED raised -/
  told : Bool := false
  started : Bool := false
  /-- what it writes: the boot epoch, a record, an entry's key and value -/
  key : Nat := 0
  value : Nat := 0
  data : List Byte := []
  /-- saved entries it writes: key, value -/
  vals : Tab Nat := []
deriving DecidableEq, Repr, Inhabited

/-- One copy of an area of N0 that has two: its contents, and the trailer that ends it (17:R512, log entry 101). -/
structure AreaCopy where
  /-- boot record: boot epoch, boot count, whether the coulomb counter is calibrated, its Q; other areas: none; 17:R512, R523; reset none
  DESIGN CHOICE 1 -/
  nums : List Nat := []
  /-- saved dictionary entries by key; fault map by place; 16:R480, 13:R417; reset none DESIGN CHOICE 1 -/
  vals : Tab Nat := []
  /-- root patch: header and image; 17:R518; reset empty DESIGN CHOICE 1 -/
  data : List Byte := []
  /-- trailer: commit count, 64 bits; 0 as made; 17:R512; reset 0 DESIGN CHOICE 1 -/
  count : Nat := 0
  /-- trailer: the area's length, and the SHA-384 over the copy; 17:R512; reset 0, none DESIGN CHOICE 1 -/
  len : Nat := 0
  digest : List Byte := []
  /-- a commit into it was cut short, or a bit of it is lost: its digest does not check; 17:R512; reset false DESIGN CHOICE 1 -/
  spoilt : Bool := false
deriving DecidableEq, Repr, Inhabited

/-- The persistent store N0 (17:R512). -/
structure N0 where
  /-- copies A and B of the areas 0 boot record, 1 root patch, 2 saved entries, 3 fault map, by 2 × area + copy; 17:R512; reset empty
  DESIGN CHOICE 1 -/
  copies : Tab AreaCopy := []
  /-- a write of persist.defaults before the reset; 16:R480; reset false -/
  defaults : Bool := false
  /-- trip, guarantee and security records, newest first, at most 4,096 of 256 bytes; 17:R512; reset none DESIGN CHOICE 1 -/
  records : List (List Byte) := []
  /-- the N-die is lost: no commit to it succeeds; 13:R415; reset false DESIGN CHOICE 1 -/
  lost : Bool := false
  /-- service firmware slots A and B: header and image; 17:R512; reset empty DESIGN CHOICE 1 -/
  slots : Tab (List Byte) := []
deriving DecidableEq, Repr, Inhabited

/-- The fuses of M0 that an unlocked write may blow (17:R517). -/
structure Fuses where
  /-- revocation bits of keys 0–3; 17:R517; reset 0 DESIGN CHOICE 1 -/
  revoked : Nat := 0
  /-- minimum security version: 64 bits of thermometer code, as a count; 17:R517; reset 0 DESIGN CHOICE 1 -/
  minVersion : Nat := 0
  /-- sec.platform_key_hash: 48 bytes, once; 17:R517; reset none DESIGN CHOICE 1 -/
  platformKey : List Byte := []
deriving DecidableEq, Repr, Inhabited

/-- The hold-up bank as measured (17:R513 to R516). -/
structure Holdup where
  /-- VHOLD in mV; 17:R514; reset 0 -/
  mv : Nat := 0
  /-- coulomb counter Q in nC above V_floor; 17:R514; reset 0 -/
  q : Int := 0
  /-- calibrated; 17:R515; reset uncalibrated -/
  calibrated : Bool := false
  /-- E_v, E_q in nJ; 17:R514; reset 0 -/
  ev : Nat := 0
  eq : Nat := 0
  /-- since VHOLD has stood within 1 % of V_full with a bank current below 10 mA: local time of the first sample, and the samples of the
  last second, time and mV, newest first; 17:R515; reset none -/
  full : Option (Nat × List (Nat × Nat)) := none
  /-- local time of the last estimate; 17:R514; reset 0 -/
  at_ : Nat := 0
deriving DecidableEq, Repr, Inhabited

/-- What a channel of the SPDM responder keeps for its next signature (17:R525). -/
structure SpdmChan where
  /-- certificate requests and answers since the last challenge or key exchange; 17:R525; reset none -/
  certs : List Byte := []
  /-- measurement requests and answers since the last signature or other request; 17:R525; reset none -/
  meas : List Byte := []
deriving DecidableEq, Repr, Inhabited

/-- Firmware state (17). -/
structure Fw where
  /-- fw.state: 0 booting, 1 ready, 2 recovery; 17:R532; reset 0 -/
  st : Nat := 0
  /-- the dictionary is online; 17:R522; reset false -/
  dict : Bool := false
  /-- partitions are loadable; 17:R522; reset false -/
  loadable : Bool := false
  /-- service firmware has started, and runs now; 17:R511, R522; reset false -/
  started : Bool := false
  up : Bool := false
  /-- the image in P0's 32 MiB service memory, control block 48; 17:R522, 01:R34; reset empty -/
  service : List Byte := []
  /-- local time at which the restart under way began; 17:R511; reset 0 -/
  restart : Nat := 0
  /-- the package is off: 1 thermal, 2 supply (15:R469), 3 the M-die is lost (13:R415), 4 held in reset (18:R541); reset running (0) -/
  off : Nat := 0
  /-- VAUX is good; 18:R539; reset true -/
  vaux : Bool := true
  /-- local time of t₀, boot epoch formed; 17:R522, R523; reset 0, false -/
  t0 : Nat := 0
  epochSet : Bool := false
  /-- what the start under way found, until its boot epoch is formed; 17:R522; reset none -/
  cold : Option ColdObs := none
  /-- the boot-epoch commit has started; 17:R523; reset false -/
  epochCommit : Bool := false
  /-- commits that wait or run, oldest first; 17:R514; reset none -/
  commits : List Commit := []
  /-- saved entries written and not committed, by key, and the local time of the first; 16:R480; reset none -/
  pending : List Nat := []
  pendingSince : Nat := 0
  /-- local time of the first write of a saved entry since the commit under way took its values; 16:R480; reset none -/
  nextSince : Option Nat := none
  /-- pending entries that no session wrote, but a request of service firmware; 17:R509; reset none -/
  byRequest : List Nat := []
  /-- PERSIST_FAILED raised for the pending set; 16:R480; reset false -/
  failedTold : Bool := false
  /-- local time at which the ports of the start under way had trained; tiles that this start serves from spares; 17:R522; reset none, 0 -/
  settled : Option Nat := none
  castled : Nat := 0
  /-- active slot 0 A, 1 B; 17:R519; reset 0 -/
  slot : Nat := 0
  /-- M1–M4: 48 bytes each; 17:R521; reset zero -/
  meas : Tab (List Byte) := []
  /-- boot count of this start: 32 bits; 17:R512; reset 0 DESIGN CHOICE 1 -/
  boots : Nat := 0
  /-- an update in progress: the target slot's bytes; 17:R520; reset empty -/
  update : List Byte := []
  /-- count of draws of the unlock nonce and of M0's random numbers; 17:R528; reset 0 -/
  nonce : Nat := 0
  draws : Nat := 0
  /-- the SPDM responder's channels; 17:R525; reset none -/
  spdm : Tab SpdmChan := []
  n0 : N0 := {}
  fuses : Fuses := {}
  holdup : Holdup := {}
deriving DecidableEq, Repr, Inhabited

/-- The path of a session (16:R482, R484). -/
inductive Path where
  | ethernet
  | mailbox (k : Nat)
  | i3c
deriving DecidableEq, Repr, Inhabited

/-- Class of a path (16:R484, R507). -/
def Path.cls : Path → Nat
  | .ethernet => 0 | .mailbox _ => 1 | .i3c => 2

/-- A PAP session (16:R482). -/
structure Session where
  id : Nat := 0
  path : Path := .ethernet
  /-- where its last request on the management port came from; 16:R489; reset none -/
  peer : Peer := {}
  /-- the identity that authenticated it: its hash -/
  principal : List Byte := []
  /-- mutually authenticated (17:R526) -/
  mutual_ : Bool := true
  /-- keys of requests and of responses (16:R492) -/
  keyReq : List Byte := []
  keyRsp : List Byte := []
  /-- local time of its last authenticated message -/
  last : Nat := 0
  /-- highest sequence number accepted, and the lower ones seen within 64 -/
  high : Nat := 0
  seen : List Nat := []
  /-- stored responses: sequence number and message (16:R492) -/
  stored : List (Nat × List Byte) := []
  /-- expert grant held (16:R479) -/
  grant : Bool := false
  /-- subject mask, first mirror slot, mirror count, telemetry period in ms (16:R503); none: not subscribed -/
  sub : Option (Nat × Nat × Nat × Nat) := none
  /-- local time of the last telemetry -/
  teleAt : Nat := 0
  /-- EVENT messages sent (16:R492) -/
  events : Nat := 0
  /-- unfinished BLOB: index and subindex key, bytes so far, local time of its start (16:R494) -/
  blob : Option (Nat × List Byte × Nat) := none
  /-- SPDM application secrets of the requester's and the responder's direction, and the secured responses sent under the second
  (17:R525) -/
  dataReq : List Byte := []
  dataRsp : List Byte := []
  secured : Nat := 0
deriving DecidableEq, Repr, Inhabited

/-- An authenticated request that waits for its dictionary cycle (16:R483). -/
structure Request where
  session : Nat := 0
  seq : Nat := 0
  type : Nat := 0
  body : List Byte := []
  /-- where it came from; 16:R489 -/
  peer : Peer := {}
deriving DecidableEq, Repr, Inhabited

/-- The PCIe mailbox of a physical function (16:R498). -/
structure Mailbox where
  /-- MB_CTRL go, irq_rsp, irq_evt: 1 bit each; 16:R498; reset 0 -/
  go : Bool := false
  irqRsp : Bool := false
  irqEvt : Bool := false
  /-- MB_REQ_LEN: 11 bits; 16:R498; reset 0 -/
  reqLen : Nat := 0
  /-- MB_STATUS done, bad_len, dropped: 1 bit each; 16:R498; reset 0 -/
  done : Bool := false
  badLen : Bool := false
  dropped : Bool := false
  /-- MB_RSP_LEN: 11 bits; 16:R498; reset 0 -/
  rspLen : Nat := 0
  /-- MB_REQ, MB_RSP: 1,232 bytes each; 16:R498; reset 0 -/
  req : Mem := []
  rsp : Mem := []
  /-- the request has been given to the dictionary engine; 18:R552; reset false -/
  sent : Bool := false
  /-- event queue: at most 64 messages, oldest first; 16:R499; reset empty -/
  events : List (List Byte) := []
deriving DecidableEq, Repr, Inhabited

/-- The I3C target (16:R500, R501). -/
structure I3C where
  /-- dynamic address plus 1; 16:R500; reset none (0) -/
  addr : Nat := 0
  /-- in-band interrupts enabled; 16:R500; reset true PRESUMED 24 -/
  ibi : Bool := true
  /-- maximum write and read lengths: 1,232; 16:R500; reset 1,232 -/
  mwl : Nat := 1232
  mrl : Nat := 1232
  /-- target reset action; 16:R500; reset 0 PRESUMED 24 -/
  rst : Nat := 0
  /-- pending response; 16:R501; reset none -/
  rsp : Option (List Byte) := none
  /-- event queue: at most 16 messages, oldest first; 16:R501; reset empty -/
  events : List (List Byte) := []
deriving DecidableEq, Repr, Inhabited

/-- Ownership and sessions (16). -/
structure Mgmt where
  /-- sessions, in order of formation; 16:R482; reset none -/
  sessions : List Session := []
  /-- requests of the present cycle, in order of authentication; 16:R483; reset empty -/
  reqs : List Request := []
  /-- owner's principal and class; 16:R484; reset none -/
  owner : Option (List Byte × Nat) := none
  /-- session that claimed or took over; 16:R507; reset none (0) -/
  ownerSession : Nat := 0
  /-- local time of the last renewal, and its Tempo; 16:R485, R508; reset 0 -/
  renewed : Nat := 0
  renewedAt : Nat := 0
  /-- addresses formed by SLAAC, with the local time at which each expires, 0 never; 16:R489; reset none -/
  slaac : List (List Byte × Nat) := []
  /-- authentication failures since the last event by path class, and its local time plus 1; 16:R508; reset 0 -/
  fails : Tab Nat := []
  failAt : Nat := 0
  /-- mailboxes of functions 0 and 1; 16:R498 -/
  boxes : Tab Mailbox := []
  /-- the I3C target; 16:R500 -/
  i3c : I3C := {}
  /-- next I3C session number; 16:R502; reset 1 -/
  nextI3c : Nat := 1
  /-- local time of the last dictionary cycle; 16:R483; reset 0 -/
  cycleAt : Nat := 0
  /-- ALERT_N causes that occurred in this cycle, by bit; 16:R506; reset none -/
  fresh : Nat := 0
  /-- writes of RWL entries refused; 00:R18 names the count and no entry; reset 0 -/
  lockedWrites : Nat := 0
deriving DecidableEq, Repr, Inhabited

/-- A PCIe port (18:R547, R552). -/
structure Pcie where
  /-- pcie.link_up; 18:R557; reset FALSE -/
  up : Bool := false
  /-- pcie.rate, pcie.width, pcie.flit; 18:R557; reset 0 -/
  rate : Nat := 0
  width : Nat := 0
  flit : Bool := false
  /-- pcie.vfs_enabled; 18:R557; reset 0 -/
  vfs : Nat := 0
  /-- PERST_N is low; 18:R541; reset true DESIGN CHOICE 1 -/
  perst : Bool := true
  /-- refclk mode and highest rate in force since the last conventional reset; 18:R543, R557; reset 0, 6 -/
  refclk : Nat := 0
  maxRate : Nat := 6
deriving DecidableEq, Repr, Inhabited

/-- The test access port (18:R554, R556). -/
structure Tap where
  /-- instruction register: 8 bits; 18:R554; reset IDCODE 0x02 is the standard's; here 0x03 by R554's code; PRESUMED 25 -/
  ir : Nat := 3
  /-- boundary-scan cells: the pattern held; 18:R554; reset 0 DESIGN CHOICE 1 -/
  cells : Nat := 0
  /-- SerDes regulators enabled for the test; 18:R556; reset false -/
  regs : Bool := false
deriving DecidableEq, Repr, Inhabited

/-- Pins that the package samples (18:R541). -/
structure Pins where
  /-- RESET_N is low; 18:R541; reset false: just released -/
  resetLow : Bool := false
  /-- VIN in mV as last sampled; 15:R460; reset 0 DESIGN CHOICE 1 -/
  vin : Nat := 0
deriving DecidableEq, Repr, Inhabited

/-- Power and heat (15). -/
structure Power where
  /-- input power of the last sample, W; 15:R473; reset 0 -/
  inputW : Nat := 0
  /-- input current of the last sample, mA; 15:R465; reset 0 -/
  ma : Nat := 0
  /-- energy of VIN and of VAUX in pJ; 15:R467; reset 0 -/
  energy : Nat := 0
  aux : Nat := 0
  /-- samples of VIN out of range in a row; 15:R460; reset 0 -/
  badVin : Nat := 0
  /-- package target in MHz; 15:R461; reset 1,500 -/
  target : Nat := 1500
  /-- clock of each tile in MHz; 15:R461; reset 1,500 -/
  clocks : Tab Nat := []
  /-- fused maximum in MHz of the site that serves each tile, and that site's rank plus 1 where it is not the tile's own: root
  firmware's copy of what the site map says, written with it; 15:R461, R462, 13:R411; reset 0 DESIGN CHOICE 1 (measured at a cold start) -/
  siteFmax : Tab Nat := []
  siteRank : Tab Nat := []
  /-- cycles of each P-die's cores in kHz × ns up to `coreAt`, in local time; 15:R461, 08:R235; reset 0 -/
  coreCyc : Tab Nat := []
  coreAt : Nat := 0
  /-- local time of the last step of each tile's clock; 15:R461; reset 0 -/
  clockAt : Tab Nat := []
  /-- duty in sixteenths of each die, by die code; 15:R465; reset 16 -/
  duty : Tab Nat := []
  /-- reasons that hold a die's duty below 16/16: one bit for each of R471's codes; 15:R465; reset none -/
  gate : Tab Nat := []
  /-- samples below 0.95 × every limit in a row, by die code; 15:R465; reset 0 -/
  calm : Tab Nat := []
  /-- slope estimate in W per step; 15:R464; reset 300 -/
  slope : Nat := 300
  /-- energy in the period so far in pJ and its samples; mean power of the period before in µW; 15:R464; reset 0 -/
  periodPj : Nat := 0
  periodN : Nat := 0
  lastP : Nat := 0
  /-- duty was 16/16 throughout this period, and the one before; 15:R464; reset true -/
  full : Bool := true
  fullBefore : Bool := true
  /-- duty was 0 for the whole period on every die; 15:R465; reset true -/
  zero : Bool := true
  /-- steps the target moved in the period before; 15:R464; reset 0 -/
  moved : Int := 0
  /-- power.cap_w in force since the last boundary; 15:R463; reset 22,000 -/
  cap : Nat := 22000
  /-- brake asserted; 15:R466; reset false -/
  brake : Bool := false
  /-- it has been released in this period; the cap returns at the boundary; 15:R466; reset false -/
  release : Bool := false
  /-- local time of its assertion; 15:R466; reset 0 -/
  brakeAt : Nat := 0
  /-- die ceilings of heat in 25 MHz steps below the top, by die code; 15:R469; reset 0 -/
  heat : Tab Nat := []
  /-- die ceilings of droop in steps, by C-die; 15:R468; reset 0 -/
  droop : Tab Nat := []
  /-- detectors that stretch now, by C-die × 8 + i: local time since which they count, plus 1; stretched time of the period in ns by
  C-die, over its 8 detectors; 15:R468; reset none -/
  stretch : Tab Nat := []
  stretched : Tab Nat := []
  /-- temperatures in 0.01 °C by sensor: die code × 64 + sensor; 15:R469; reset 0 DESIGN CHOICE 1 -/
  temps : Tab Nat := []
  /-- sensors excluded; 13:R413; reset none -/
  badSensor : Tab Nat := []
  /-- regulator phases lost, by regulator; 15:R460; reset 0 -/
  phases : Tab Nat := []
  /-- reasons active: local time of their start plus 1, by code 1–5; 15:R471; reset inactive -/
  active : Tab Nat := []
  /-- Tempo plus 1 at which each reason was last active; 13:R424; reset none -/
  lastEnd : Tab Nat := []
  /-- local time plus 1 of the last THROTTLE_START, and THROTTLE_END, of each reason; 15:R474; reset none -/
  startAt : Tab Nat := []
  endAt : Tab Nat := []
  /-- local time of the last sample of VIN and Tempo then, local time of the last fast-loop sample, and Tempo of the last period boundary;
  15:R460, R464, R465, R467; reset 0 -/
  sampleAt : Nat := 0
  sampleNow : Nat := 0
  fastAt : Nat := 0
  loopAt : Nat := 0
  /-- local time of the last ceiling step of each die; 15:R469; reset 0 -/
  stepAt : Tab Nat := []
deriving DecidableEq, Repr, Inhabited

end Sys2Proof
end

