-- ==== Sys2Proof/Machine/TypesTile.lean ====
section
/-!
DEFINITION. What one logical tile holds: its core, its engine tickets and outstanding operations, its ply write
buffer, its summary slots, its matrix engine and its three local memories (03, 04, 05, 06).
-/

namespace Sys2Proof

/-- Where a tile stands between load and the end of a frame (03:R91 to R101, 04:R125, R155). -/
inductive TileMode where
  /-- No load image has reached it. -/
  | unloaded
  /-- It waits for its ramp slot (03:R90, R91). -/
  | rampWait
  /-- Its core executes. -/
  | running
  /-- At a ply mark, its buffer draining (03:R94). -/
  | draining
  /-- A gambit ply has ended and is held (03:R99, R101). -/
  | gambitHeld
  /-- Its frame is committed complete (03:R87). -/
  | frameDone
  /-- Stopped: PLY_WATCHDOG, PLY_BUFFER_FULL or TILE_STOP (03:R96, 04:R125). -/
  | stopped
  /-- A fault ended its ply; it waits for its replay (03:R95). -/
  | faulted
deriving DecidableEq, Repr, Inhabited

/-- One summary slot (04:R146). -/
structure Summ where
  /-- ykmax: 64 bits; 04:R146; reset 0 -/
  maxabs : Nat := 0
  /-- yksum: 64 bits; 04:R146; reset 0 -/
  sum : Nat := 0
  /-- ykcnta, nan and inf counts: 64 bits; 04:R146; reset 0 -/
  cnta : Nat := 0
  /-- ykcntb, nonzero and vanished counts: 64 bits; 04:R146; reset 0 -/
  cntb : Nat := 0
  /-- ykarg, index and valid: 64 bits; 04:R146; reset 0 -/
  arg : Nat := 0
  /-- yktkt: 16 bits; 04:R146; reset 0 -/
  tkt : Nat := 0
deriving DecidableEq, Repr, Inhabited

/-- The kind of an outstanding engine operation (04:R132). -/
inductive OpKind where
  | move | vop | mxpb | mxrun | mxswap
  /-- YK.SOLVE, YK.COLL and YK.RELW -/
  | held
deriving DecidableEq, Repr, Inhabited

/-- What a completed speculative operation left in the staging area (04:R141). -/
structure Staged where
  /-- Bytes written, by local address, in order. -/
  writes : List (Nat × Byte) := []
  /-- Flags it raised. -/
  fl : Flags := {}
  /-- Its summary, with the slot. -/
  summ : Option (Nat × Summ) := none
  /-- Elements that vanished (06:R208), MACs of a run (05:R188). -/
  van : Nat := 0
  /-- Its ticket status and detail. -/
  status : Nat := 0
  detail : Nat := 0
deriving DecidableEq, Repr, Inhabited

/-- One outstanding engine operation (04:R129, R130). -/
structure EngOp where
  ticket : Nat := 0
  kind : OpKind := .move
  /-- Move kind or vector operation code. -/
  code : Nat := 0
  /-- The descriptor as read at issue (04:R127). -/
  desc : List Byte := []
  /-- rs1 and rs2 as read at issue. -/
  r1 : Nat := 0
  r2 : Nat := 0
  /-- The descriptor address was misaligned or outside the data SRAM (04:R127). -/
  badDesc : Bool := false
  /-- Declared read ranges, declared write range (04:R130). -/
  reads : List (Nat × Nat) := []
  writes : List (Nat × Nat) := []
  /-- Begun under an open speculation region (04:R140, R141). -/
  spec : Bool := false
  /-- Completed under the region, its results staged. -/
  staged : Option Staged := none
  /-- yksibase and ykframe at issue (06:R197). -/
  sibase : Nat := 0
  frame : Nat := 0
  /-- Kind 0x08: packets of data received so far, by packet number, and the first bad completion code (11:R349). -/
  got : Tab (List Byte) := []
  code8 : Nat := 0
  sent : Bool := false
deriving DecidableEq, Repr, Inhabited

/-- An open speculation region (04:R140). -/
structure Region where
  /-- x1–x31 saved. -/
  x : Tab Word := []
  pend : Tab Nat := []
  /-- Loads in flight and the active count at entry, which a squash returns to (03:R96). -/
  ready : Tab Nat := []
  active : Nat := 0
  /-- The branch's fields: its address, its instruction and length. -/
  pc : Word := 0
  instr : Nat := 0
  len : Nat := 4
  /-- The prediction. -/
  taken : Bool := false
  /-- The ticket count at entry, and the operations then awaited into each slot. -/
  ticket : Nat := 0
  slotTkt : Tab Nat := []
deriving DecidableEq, Repr, Inhabited

/-- One operation held in the ply write buffer (06:R205). -/
inductive Held where
  /-- Kind 0x02 or 0x03: die-store address, bytes, accumulate-into. -/
  | store (addr : Nat) (data : List Byte) (acc : Bool)
  /-- A release write (04:R138). -/
  | rel (addr : Nat) (v : Nat)
  /-- Kind 0x06: the whole descriptor (09:R293). -/
  | tier (desc : List Byte)
  /-- Kind 0x07: node, far address, data. -/
  | send (node : Nat) (addr : Nat) (data : List Byte)
  /-- YK.SOLVE: batch header address and problem count (07:R210). -/
  | solve (hdr : Nat) (n : Nat)
  /-- YK.COLL: the descriptor (12:R377). -/
  | coll (desc : List Byte)
deriving DecidableEq, Repr, Inhabited

/-- One accumulator set (05:R159, R177). -/
structure AccSet where
  /-- live: 1 bit; 05:R177; reset not live -/
  live : Bool := false
  /-- kind: 0 K64, 1 K32, 2 KW; 05:R159; reset 0 DESIGN CHOICE 1 -/
  kind : Nat := 0
  /-- elements, codes of the accumulator format by row × columns + column; 05:R158; reset +0 -/
  el : Tab Nat := []
deriving DecidableEq, Repr, Inhabited

/-- A matrix run in progress (05:R175). -/
structure MxRun where
  ticket : Nat := 0
  /-- The bank it started from (05:R174). -/
  bank : Nat := 0
  /-- Next entry. -/
  entry : Nat := 0
  /-- The self-contained attribute. -/
  self : Bool := false
  spec : Bool := false
  /-- MMAs in flight: set and kind, oldest first (05:R181). -/
  inflight : List (Nat × Nat) := []
  /-- Flags raised and MACs done so far (05:R178, R188). -/
  fl : Flags := {}
  macs : Nat := 0
  /-- STACC bytes while the run is speculative (05:R178). -/
  out : List (Nat × Byte) := []
  ended : Bool := false
deriving DecidableEq, Repr, Inhabited

/-- The matrix engine (05). -/
structure Matrix where
  /-- program buffer, valid entries of bank 0 at 0–255 and bank 1 at 256–511: 2 × 256 × 128 bits; 05:R170; reset invalid -/
  pbuf : Tab Nat := []
  /-- active bank: 1 bit; 05:R170; reset 0 -/
  active : Nat := 0
  /-- accumulator set 0; 05:R159; reset +0, not live (R170) -/
  set0 : AccSet := {}
  /-- accumulator set 1; 05:R159; reset +0, not live (R170) -/
  set1 : AccSet := {}
  /-- a0–a7: 32 bits each; 05:R167; reset 0 DESIGN CHOICE 1 -/
  a : Tab Nat := []
  /-- c0–c3: 16 bits each; 05:R167; reset 0 DESIGN CHOICE 1 -/
  c : Tab Nat := []
  /-- the run in progress; 05:R175; reset none -/
  run : Option MxRun := none
  /-- physical columns bypassed by substitution (05:R186); reset none -/
  badCols : Nat := 0
deriving DecidableEq, Repr, Inhabited

/-- The core of a tile (04). -/
structure Core where
  /-- x1–x31 (x0 reads 0): 64 bits each; 04:R121, R149; reset 0 DESIGN CHOICE 1 -/
  x : Tab Word := []
  /-- pc: 64 bits; 04:R152; reset 0x0010_0000 DESIGN CHOICE 1 -/
  pc : Word := 0x100000
  /-- mtvec: 64 bits; 04:R123; reset 0 -/
  mtvec : Word := 0
  /-- mscratch: 64 bits; 04:R123; reset 0 DESIGN CHOICE 1 -/
  mscratch : Word := 0
  /-- mepc: 64 bits; 04:R123; reset 0 DESIGN CHOICE 1 -/
  mepc : Word := 0
  /-- mcause: 64 bits; 04:R123; reset 0 DESIGN CHOICE 1 -/
  mcause : Word := 0
  /-- mtval: 64 bits; 04:R123; reset 0 DESIGN CHOICE 1 -/
  mtval : Word := 0
  /-- ykflags: 3 bits; 04:R148; reset 0 -/
  flags : Flags := {}
  /-- yksibase: 64 bits; 04:R148; reset 0 -/
  sibase : Word := 0
  /-- ykeng trap_active: 1 bit; 04:R148; reset 0 -/
  trapActive : Bool := false
  /-- ykeng pb_reject: 1 bit; 04:R148; reset 0 -/
  pbReject : Bool := false
  /-- ykeng move_err: 1 bit; 04:R148; reset 0 -/
  moveErr : Bool := false
  /-- ykmoverr ticket: 16 bits; 04:R148; reset 0 -/
  errTicket : Nat := 0
  /-- ykmoverr status: 4 bits; 04:R148; reset 0 -/
  errStatus : Nat := 0
  /-- ykmoverr detail: 32 bits; 04:R148; reset 0 -/
  errDetail : Nat := 0
  /-- summary slots 0–3; 04:R146; reset 0 -/
  slots : Tab Summ := []
  /-- registers that wait for the operation of a ticket into a slot: register → ticket × 32 + CSR offset + 1; 04:R145; reset none -/
  pend : Tab Nat := []
  /-- active cycle at which a loaded register is ready; 03:R96, 06:R201; reset none -/
  ready : Tab Nat := []
  /-- branch predictor, 512 counters of 2 bits; 04:R122; reset 1 -/
  pred : Tab Nat := []
  /-- open speculation region; 04:R140; reset none -/
  region : Option Region := none
deriving DecidableEq, Repr, Inhabited

/-- One logical tile. -/
structure Tile where
  /-- run mode; 03:R91, 04:R125; reset unloaded -/
  mode : TileMode := .unloaded
  /-- the core -/
  core : Core := {}
  /-- the matrix engine -/
  mx : Matrix := {}
  /-- partition it belongs to, plus 1: yktile partition, 4 bits; 04:R148; reset none -/
  part : Nat := 0
  /-- yktile index: 16 bits; 04:R148; reset 0 DESIGN CHOICE 1 -/
  index : Nat := 0
  /-- ykplyseq: 64 bits; 04:R148; reset 0 -/
  seq : Nat := 0
  /-- ykframe: 64 bits; 04:R148; reset 0 -/
  frame : Nat := 0
  /-- ykimage: 46 bits; 04:R148; reset 0 DESIGN CHOICE 1 -/
  image : Nat := 0
  /-- program image bytes: 32 bits; 04:R150; reset 0 DESIGN CHOICE 1 -/
  imageLen : Nat := 0
  /-- ply record area offset in each window: 64 bits; 04:R151; reset 0 DESIGN CHOICE 1 -/
  recBase : Nat := 0
  /-- entry-load list being appended (ykelist count is its length): at most 32 entries of address, bytes, local; 04:R153; reset empty -/
  elist : List (Nat × Nat × Nat) := []
  /-- instruction SRAM: 64 KiB; 01:R40; reset bytes 0 DESIGN CHOICE 2 -/
  isram : Mem := []
  /-- data SRAM: 64 KiB; 01:R40; reset bytes 0 DESIGN CHOICE 2 -/
  dsram : Mem := []
  /-- operand cache: 512 KiB; 06:R201; reset bytes 0 DESIGN CHOICE 2 (R204 gives zero at load) -/
  ocache : Mem := []
  /-- ykeng next_ticket: 16 bits; 04:R129; reset 0 -/
  ticket : Nat := 0
  /-- statuses of ended tickets among the 64 most recent; 04:R129; reset empty -/
  done : List (Nat × Nat) := []
  /-- lowest-numbered ticket that ended other than DONE, with its status; 04:R129; reset none -/
  lowBad : Option (Nat × Nat) := none
  /-- outstanding engine operations, at most 32, in issue order; 04:R130; reset empty -/
  ops : List EngOp := []
  /-- last summary-enabled ticket issued into each slot not yet completed, plus 1; 04:R145; reset none -/
  slotTkt : Tab Nat := []
  /-- ply write buffer: held operations with their tickets, at most 2,032 units; 06:R205; reset empty -/
  buf : List (Nat × Held) := []
  /-- units of the buffer in use; 06:R205; reset 0 -/
  units : Nat := 0
  /-- active cycles of the ply; 03:R96; reset 0 -/
  active : Nat := 0
  /-- Tempo at ply entry; 03:R97; reset 0 -/
  entered : Nat := 0
  /-- span of the ply counted up to `spanFrom`, in tile cycles × 3,000; 03:R97; reset 0 -/
  spanCyc : Nat := 0
  /-- Tempo from which the span is still to be counted; 03:R97; reset 0 -/
  spanFrom : Nat := 0
  /-- YK.WAITW in progress: rd, address, value, since; 04:R139; reset none -/
  waitw : Option (Nat × Nat × Nat × Nat) := none
  /-- the running or held ply is a gambit ply; 03:R99; reset false -/
  gambit : Bool := false
  /-- the mark that ended the ply: none YK.PLY, some G for YK.FEND; 04:R155; reset none -/
  fend : Option Bool := none
  /-- the tile's frame-end commit of the member's frame is made; 03:R87; reset false -/
  frameEnd : Bool := false
  /-- digest of the frame so far: 64 bits; 03:R117; reset 0 -/
  digest : Nat := 0
  /-- highest (sequence × 2^16 + index + 1) each S-die has applied of the tile's writes; 03:R94; reset none -/
  applied : Tab Nat := []
deriving DecidableEq, Repr, Inhabited

end Sys2Proof
end

