-- ==== Sys2Proof/Machine/TypesUnits.lean ====
section
/-!
DEFINITION. The units shared by tiles: solver engines (07), harts, cores and the shared cache (08), the board tier and
its ports (09, 10), collectives (12), faults and castling (13).
-/

namespace Sys2Proof

/-- A committed solver submission (07:R210, R211). -/
structure SolveReq where
  tile : Nat := 0
  part : Nat := 0
  /-- batch header address and problem count -/
  hdr : Nat := 0
  count : Nat := 0
  /-- order of commit, and the Tempo of the commit -/
  stamp : Nat := 0
  at_ : Nat := 0
deriving DecidableEq, Repr, Inhabited

/-- A batch taken from the queue (07:R214). -/
structure Batch where
  req : SolveReq := {}
  /-- header as read at batch start -/
  hdr : List Byte := []
  /-- result code of the header (07:R214) -/
  result : Nat := 0
  /-- next problem to take slots, and problems completed -/
  next : Nat := 0
  completed : Nat := 0
deriving DecidableEq, Repr, Inhabited

/-- A problem resident in the working store (07:R217, R227). -/
structure Prob where
  /-- its batch's stamp and its index in the batch -/
  stamp : Nat := 0
  idx : Nat := 0
  slots : Nat := 1
  /-- input area as read when it took its slots; none: unreadable -/
  input : Option (List Byte) := none
  /-- it holds its slots; false while, moved by a remap, it waits for the new engine's; 07:R229 -/
  loaded : Bool := true
  /-- a remap restarted it -/
  again : Bool := false
deriving DecidableEq, Repr, Inhabited

/-- One solver engine number (07:R209). -/
structure Engine where
  /-- queue of batches, at most 16; 07:R209; reset empty -/
  queue : List SolveReq := []
  /-- batches begun and not complete, oldest first; 07:R214; reset empty -/
  batches : List Batch := []
  /-- resident problems, oldest first; 07:R227; reset empty -/
  probs : List Prob := []
  /-- datapath lanes substituted, at most 2; 07:R228, 13:R403; reset 0 -/
  lanes : Nat := 0
  /-- engine number plus 1 that serves this number after a remap; 07:R229; reset itself (0) -/
  mapped : Nat := 0
  /-- a remap's restarted problems are not all complete, and the Tempo of the remap; 07:R229, 13:R404; reset none, 0 -/
  redo : Bool := false
  redoAt : Nat := 0
deriving DecidableEq, Repr, Inhabited

/-- Where the bytes of a hart's access go. -/
inductive HDst where
  /-- nowhere: a store -/
  | none
  /-- x register, sign-extended or not -/
  | x (rd : Nat) (signed : Bool)
  /-- f register, NaN-boxed -/
  | f (rd : Nat)
  /-- pieces of `eb` bytes of the vector registers, `stride` apart from `off`: the fields of an element; vstart then passes it -/
  | v (off eb stride : Nat)
  /-- x registers rd and rd + 1: AMOCAS.Q -/
  | pair (rd : Nat)
deriving DecidableEq, Repr, Inhabited

/-- An access that leaves the hart (08:R242, R244). -/
structure HAcc where
  dst : HDst := .none
  /-- bytes of the part that is out, and its place in the answer -/
  size : Nat := 0
  off : Nat := 0
  /-- a store or an atomic: the fault it raises -/
  store : Bool := false
  /-- length of the instruction, by which pc advances; 0 where the instruction goes on (a vector element) -/
  len : Nat := 0
  /-- virtual address -/
  va : Nat := 0
  /-- bytes that earlier parts brought -/
  have_ : List Byte := []
  /-- parts still to ask for: node, space, address and the bytes to store, or how many to load -/
  rest : List (Nat × Nat × Nat × List Byte × Nat) := []
deriving DecidableEq, Repr, Inhabited

/-- What a hart waits for (08:R242). -/
inductive HWait where
  /-- Ready. -/
  | none
  /-- Switched out by an access that has its result already: timing only. -/
  | access
  /-- A remote load, store or atomic: request number. -/
  | remote (req : Nat) (a : HAcc)
  /-- The response has come: its bytes, completion code, node. -/
  | answered (a : HAcc) (bytes : List Byte) (code node : Nat)
  /-- A board-tier load: job number. -/
  | tier (job : Nat) (a : HAcc)
  /-- WFI or WRS. -/
  | wfi
  /-- A retentive suspend (17:R531). -/
  | suspend
deriving DecidableEq, Repr, Inhabited

/-- CSRs of a hart: those of S and U mode, and the machine-mode ones (08:R233, R235). -/
structure HCsr where
  /-- fcsr: frm and fflags, 8 bits; 08:R246; reset 0 DESIGN CHOICE 1 -/
  fcsr : Nat := 0
  /-- vtype: 64 bits; 08:R246; reset vill (2^63) DESIGN CHOICE 1 -/
  vtype : Nat := 2 ^ 63
  /-- vl: 13 bits; 08:R246; reset 0 DESIGN CHOICE 1 -/
  vl : Nat := 0
  /-- vstart: 12 bits; 08:R246; reset 0 DESIGN CHOICE 1 -/
  vstart : Nat := 0
  /-- vcsr: vxrm and vxsat, 3 bits; 08:R246; reset 0 DESIGN CHOICE 1 -/
  vcsr : Nat := 0
  /-- sstatus: 64 bits; 08:R246; reset 0 DESIGN CHOICE 1 -/
  sstatus : Nat := 0
  /-- stvec: 64 bits; 08:R246; reset 0 DESIGN CHOICE 1 -/
  stvec : Nat := 0
  /-- sscratch: 64 bits; 08:R246; reset 0 DESIGN CHOICE 1 -/
  sscratch : Nat := 0
  /-- sepc: 64 bits; 08:R246; reset 0 DESIGN CHOICE 1 -/
  sepc : Nat := 0
  /-- scause: 64 bits; 08:R246; reset 0 DESIGN CHOICE 1 -/
  scause : Nat := 0
  /-- stval: 64 bits; 08:R246; reset 0 DESIGN CHOICE 1 -/
  stval : Nat := 0
  /-- satp: 64 bits; 08:R246; reset 0 (Bare) DESIGN CHOICE 1 -/
  satp : Nat := 0
  /-- sie: 64 bits; 08:R246; reset 0 DESIGN CHOICE 1 -/
  sie : Nat := 0
  /-- sip software bit and others: 64 bits; 08:R246; reset 0 DESIGN CHOICE 1 -/
  sip : Nat := 0
  /-- stimecmp: 64 bits; 08:R235, R246; reset all ones DESIGN CHOICE 1 -/
  stimecmp : Nat := 2 ^ 64 - 1
  /-- instret since launch: 64 bits; 08:R235; reset 0 -/
  instret : Nat := 0
  /-- scounteren: 32 bits; 08:R233; reset 7 DESIGN CHOICE 1 -/
  scounteren : Nat := 7
  /-- senvcfg: 64 bits; 08:R233; reset 0xF0 DESIGN CHOICE 1 -/
  senvcfg : Nat := 0xF0
  /-- machine-mode fields of mstatus: MIE 3, MPIE 7, MPP [12:11], MPRV 17, TVM 20, TW 21, TSR 22; 08:R233; reset 0 DESIGN CHOICE 1 -/
  mstatus : Nat := 0
  /-- mtvec, mscratch, mepc, mcause, mtval: 64 bits each; 08:R233; reset 0 DESIGN CHOICE 1 -/
  mtvec : Nat := 0
  mscratch : Nat := 0
  mepc : Nat := 0
  mcause : Nat := 0
  mtval : Nat := 0
  /-- medeleg, mideleg: 64 bits each; 08:R233; reset 0 DESIGN CHOICE 1 -/
  medeleg : Nat := 0
  mideleg : Nat := 0
  /-- mie: its machine-mode bits; 08:R233; reset 0 DESIGN CHOICE 1 -/
  mie : Nat := 0
  /-- mcounteren: 32 bits; 08:R233; reset all ones DESIGN CHOICE 1 -/
  mcounteren : Nat := 2 ^ 32 - 1
  /-- what a write of mcycle added to the core's cycle count: 64 bits; 08:R233; reset 0 DESIGN CHOICE 1 -/
  cycOff : Nat := 0
  /-- menvcfg: 64 bits; 08:R233; reset all that is implemented is enabled DESIGN CHOICE 1 -/
  menvcfg : Nat := 0xC0000000000000F1
  /-- 16 PMP entries: address i at i, configuration byte i at 16 + i; 08:R233; reset entry 0 open to every mode DESIGN CHOICE 1 -/
  pmp : Tab Nat := [(0, 2 ^ 54 - 1), (16, 0x1F)]
deriving DecidableEq, Repr, Inhabited

/-- The state a hart's record saves and restores (08:R246). -/
structure HArch where
  /-- pc: 64 bits; 08:R246; reset 0 DESIGN CHOICE 1 -/
  pc : Word := 0
  /-- privilege mode: 0 U, 1 S, 3 M; 08:R233, R234; reset 1 DESIGN CHOICE 1 -/
  priv : Nat := 1
  /-- x1–x31: 64 bits each; 08:R246; reset 0 DESIGN CHOICE 1 -/
  x : Tab Word := []
  /-- f0–f31: 64 bits each; 08:R246; reset 0 DESIGN CHOICE 1 -/
  f : Tab Nat := []
  /-- v0–v31: 4,096 bits each, as bytes from 512 × i; 08:R236; reset 0 DESIGN CHOICE 1 -/
  v : Mem := []
  /-- CSRs -/
  csr : HCsr := {}
deriving DecidableEq, Repr, Inhabited

/-- One hart (08:R231). -/
structure Hart where
  /-- partition it belongs to, plus 1; 08:R232; reset none (0) -/
  part : Nat := 0
  /-- hart index h in the partition; 08:R246; reset 0 -/
  index : Nat := 0
  /-- it runs (the member was launched, and no stop holds it); 14; reset false -/
  on : Bool := false
  a : HArch := {}
  /-- what it waits for; 08:R242; reset ready -/
  wait : HWait := .none
  /-- stores not committed, oldest first: address and bytes; 08:R243; reset empty -/
  buf : List (Nat × List Byte) := []
  /-- store-buffer units in use: 64 B lines, in order of first use; 08:R243; reset empty -/
  lines : List Nat := []
  /-- ply sequence number: 64 bits; 08:R245; reset 0 -/
  seq : Nat := 0
  /-- Tempo of the last mark; 08:R244; reset 0 -/
  since : Nat := 0
  /-- instructions retired since the mark; reset 0 -/
  n : Nat := 0
  /-- a mark has been placed and its commit not made; 08:R244, R245; reset false -/
  marked : Bool := false
  /-- vector registers written since the last image; sstatus.VS holds Dirty; vector image half named; 08:R246; reset 0 -/
  vhalf : Nat := 0
  /-- reservation: line and the local time of the LR; 08:R256; reset none -/
  resv : Option (Nat × Nat) := none
  /-- last atomic at each home slice: slice → (sequence + 1, value); 08:R256; reset none -/
  atoms : Tab (Nat × Nat) := []
  /-- highest (sequence × 2^32 + position + 1) each S-die applied; 08:R245; reset none -/
  applied : Tab Nat := []
  /-- node plus 1 of a remote atomic of this ply whose entry is released at the commit; 11:R358; reset none (0) -/
  once : Nat := 0
  /-- an NTL.PALL or NTL.ALL hint stands before the next instruction; 08:R251; reset false -/
  ntl : Bool := false
  /-- code and node of the last access fault with a fabric cause; 17:R531; reset none -/
  fab : Nat × Nat := (0, 0)
deriving DecidableEq, Repr, Inhabited

/-- One P-die core (08:R231, R242). -/
structure CoreSt where
  /-- the hart it runs, 0–7; 08:R242; reset 0 DESIGN CHOICE 1 -/
  cur : Nat := 0
  /-- local time of the last switch; 08:R242; reset 0 -/
  since : Nat := 0
  /-- failed, its harts resumed on a spare; 08:R247; reset false -/
  failed : Bool := false
deriving DecidableEq, Repr, Inhabited

/-- A line of the shared cache, at its home slice (08:R249 to R252). -/
structure CLine where
  data : List Byte := []
  /-- way 0–15 of its set -/
  way : Nat := 0
  /-- age: 2 bits; 08:R251 -/
  age : Nat := 0
  /-- presence bits, one per P-die; 08:R252 -/
  pres : Nat := 0
deriving DecidableEq, Repr, Inhabited

/-- One slice of the shared cache (08:R249, R251, R253). -/
structure Slice where
  /-- stream trackers, most recently advanced first: hart, line, direction (1 up, 2 down, 0 unknown), run of misses; at most 16; 08:R251; reset empty -/
  streams : List (Nat × Nat × Nat × Nat) := []
  /-- ways retired, one bit each, in every set: 16 bits; 08:R253; reset none -/
  retired : Nat := 0
  /-- errors of each way in the frame in which they were counted: way → count; 08:R253; reset none -/
  errs : Tab Nat := []
  /-- that frame, plus 1; 08:R253; reset 0 -/
  errFrame : Tab Nat := []
deriving DecidableEq, Repr, Inhabited

/-- A region of the board tier (09:R269). -/
structure TRegion where
  /-- state: 0 free, 1 loading, 2 sealed, 3 closing; 09:R271; reset free -/
  st : Nat := 0
  /-- owner partition; 09:R269; reset 0xFF -/
  part : Nat := 0xFF
  /-- format code and scaled attribute; 09:R269; reset 0 -/
  fmt : Nat := 0
  scaled : Bool := false
  /-- packets; 09:R269; reset 0 -/
  packets : Nat := 0
  /-- borrowed class; 09:R275; reset false -/
  borrowed : Bool := false
  /-- pinned; 09:R269; reset false -/
  pinned : Bool := false
  /-- generation: 32 bits; 09:R269; reset 0 DESIGN CHOICE 1 -/
  gen : Nat := 0
  /-- last-reference stamp; 09:R269; reset 0 -/
  last : Nat := 0
  /-- extent map: group and extent number of extent k; 09:R278; reset empty -/
  ext : List (Nat × Nat) := []
  /-- touched stripes; 09:R289; reset none -/
  touched : List Nat := []
  /-- closing toward: 0 free, 1 loading; 09:R272; reset 0 -/
  toward : Nat := 0
  /-- closing by eviction; 09:R292; reset false -/
  evicted : Bool := false
  /-- packets written by the host and not yet written to the bricks, at most 10 consecutive; 09:R289; reset none -/
  hold : List (Nat × List Byte) := []
  /-- a seal waits for accepted host writes and its tick; its command; 09:R273; reset none -/
  sealing : Option Nat := none
  /-- order in which the number became free; 09:R269; reset 0 -/
  freed : Nat := 0
deriving DecidableEq, Repr, Inhabited

/-- What a tier read or write serves (09:R274). -/
inductive TierUse where
  /-- packet i of a move: tile, move number -/
  | move (tile : Nat) (mv : Nat) (i : Nat)
  /-- PACKET_READ of a partition: number of the transfer, packet i -/
  | host (p : Nat) (cmd : Nat) (i : Nat)
  /-- a hart's load, at an offset in the panel -/
  | hart (h off : Nat)
  /-- packet i of a partition's restore -/
  | restore (p : Nat) (i : Nat)
  /-- the rebuild of a stripe onto a new brick -/
  | rebuild (q : Nat)
  /-- the old slots of a stripe that is written -/
  | update
deriving DecidableEq, Repr, Inhabited

/-- A stripe read in progress: the slots wanted and what has come (09:R287, R290). -/
structure TJob where
  id : Nat := 0
  use : TierUse := .update
  region : Nat := 0
  gen : Nat := 0
  stripe : Nat := 0
  /-- data slot wanted, 0–9 -/
  slot : Nat := 0
  /-- positions 0–11 asked for and not yet answered -/
  want : List Nat := []
  /-- slots that came: position and stored bytes -/
  got : Tab (List Byte) := []
  /-- positions lost -/
  lost : List Nat := []
  /-- positions whose CRC or header failed: written back after the rebuild -/
  bad : List Nat := []
  /-- new stored bytes of data slots, for a write -/
  news : Tab (List Byte) := []
  /-- stall cause so far: 0 bandwidth, 1 degraded, 2 link retry, 3 brick latency, 4 decoder queue (09:R297) -/
  cause : Nat := 0
  /-- the panel, once it can land -/
  panel : Option (List Byte) := none
  /-- port commands of the write still to be acknowledged -/
  acks : Nat := 0
  /-- its writes have been given to the ports -/
  writing : Bool := false
deriving DecidableEq, Repr, Inhabited

/-- A committed kind 0x06 move (09:R293). -/
structure TMove where
  id : Nat := 0
  tile : Nat := 0
  part : Nat := 0
  region : Nat := 0
  /-- completion word -/
  word : Nat := 0
  /-- packets of the move not landed -/
  left : Nat := 0
  first : Nat := 0
  pan : Nat := 0
deriving DecidableEq, Repr, Inhabited

/-- A stripe group (09:R267). -/
structure TGroup where
  formed : Bool := false
  /-- positions missing or stale: 12 bits -/
  missing : Nat := 0
  /-- positions being rebuilt: 12 bits -/
  rebuilding : Nat := 0
  /-- capacity in use, GiB: 0 none; smallest capacity present -/
  gib : Nat := 0
  /-- stripes already rebuilt onto each rebuilding position: position → (region, stripe) list -/
  built : Tab (List (Nat × Nat)) := []
deriving DecidableEq, Repr, Inhabited

/-- A host packet transfer in progress (14:R436). -/
structure THost where
  part : Nat := 0
  cmd : Nat := 0
  /-- packets not done -/
  left : Nat := 0
  /-- host address, panel size -/
  addr : Nat := 0
  pan : Nat := 0
  region : Nat := 0
  /-- the command's ID -/
  id : Nat := 0
deriving DecidableEq, Repr, Inhabited

/-- A creation: it has arrived in this nanosecond, or waits for its victims to close (09:R277). -/
structure TCreate where
  part : Nat := 0
  cmd : Nat := 0
  packets : Nat := 0
  fmt : Nat := 0
  scaled : Bool := false
  pin : Bool := false
  extents : Nat := 0
  borrowed : Bool := false
deriving DecidableEq, Repr, Inhabited

/-- The tier engines (09). -/
structure Tier where
  /-- regions 0–1,023; 09:R269, R270; reset none exists -/
  regions : Tab TRegion := []
  /-- stripe groups 0–3; 09:R267; reset not formed -/
  groups : Tab TGroup := []
  /-- stripe jobs in progress; 09:R289, R290; reset empty -/
  jobs : List TJob := []
  /-- committed moves in progress; 09:R293; reset empty -/
  moves : List TMove := []
  /-- host packet transfers in progress; 14:R436; reset empty -/
  host : List THost := []
  /-- next job number, next move number, next freed and arrival order; reset 1 -/
  next : Nat := 1
  /-- creations that arrived in this nanosecond; 09:R277; reset none -/
  asked : List TCreate := []
  /-- creations that wait for victims, in order of arrival; 09:R277; reset empty -/
  creating : List TCreate := []
  /-- groups are to be formed once every port has settled; 09:R267, 10:R314; reset false -/
  forming : Bool := false
deriving DecidableEq, Repr, Inhabited

/-- Lenpel port states with their codes (10:R313, R326). -/
inductive LPState where
  | down | detect | train | align | discover | active | retrain | failed
deriving DecidableEq, Repr, Inhabited

/-- Code of a Lenpel port state (10:R326). -/
def LPState.code : LPState → Nat
  | .down => 0 | .detect => 1 | .train => 2 | .align => 3 | .discover => 4 | .active => 5 | .retrain => 6 | .failed => 7

/-- A sequenced frame kept until acknowledged (10:R305, R310). -/
structure LFrame where
  seq : Nat := 0
  ftype : Nat := 0
  tag : Nat := 0
  idx : Nat := 0
  last : Bool := true
  off : Nat := 0
  len : Nat := 0
  data : List Byte := []
  resends : Nat := 0
deriving DecidableEq, Repr, Inhabited

/-- An outstanding command (10:R317 to R320). -/
structure LCmd where
  tag : Nat := 0
  /-- 1 READ, 2 READ_PACKET, 3 WRITE -/
  ftype : Nat := 0
  /-- stripe job and position it serves -/
  job : Nat := 0
  pos : Nat := 0
  /-- unit offset and length -/
  off : Nat := 0
  len : Nat := 0
  sentAt : Nat := 0
  /-- units received so far -/
  got : List Byte := []
  /-- frames received, and whether the command needed a link retry -/
  idx : Nat := 0
  retried : Bool := false
  /-- the read is lost: its tag is taken until its final frame comes (10:R319, R320) -/
  dead : Bool := false
deriving DecidableEq, Repr, Inhabited

/-- One Lenpel port (10). -/
structure LPort where
  /-- lenpel.state; 10:R313; reset DOWN -/
  st : LPState := .down
  /-- Tempo of entry to the state; 10:R313; reset 0 -/
  since : Nat := 0
  /-- presence pin; 10:R312; reset false -/
  present : Bool := false
  /-- level of LP_RST_N: high, the brick runs; 10:R312, R314, 18:R545; reset low (false) -/
  rst : Bool := false
  /-- the lanes are aligned again in RETRAIN; 10:R313; reset false -/
  aligned : Bool := false
  /-- class and transmitter settings in use, from the last entry to TRAIN; 10:R326; reset 0 -/
  cls : Nat := 0
  txEq : Nat := 0
  /-- the brick's discovery record; 10:R315; reset none -/
  disc : Option (List Byte) := none
  /-- round trip in ns; 10:R314; reset 0 -/
  rtt : Nat := 0
  /-- stale: 1 bit; 10:R322; reset false -/
  stale : Bool := false
  /-- the brick has been ACTIVE since reset -/
  was : Bool := false
  /-- next sequence to send and expected: 10 bits; 10:R309; reset 0 -/
  tx : Nat := 0
  rx : Nat := 0
  /-- bytes sent that wait for the rest of their codewords; 10:R302, R304; reset none -/
  line : List Byte := []
  /-- unacknowledged frames, at most 256; 10:R310; reset empty -/
  unacked : List LFrame := []
  /-- a NAK has been sent for the sequence expected; 10:R310; reset false -/
  nakSent : Bool := false
  /-- Tempo of NAKs in the last 1 ms; 10:R311; reset none -/
  naks : List Nat := []
  /-- frames other than IDLE since the last IDLE; 10:R308; reset 0 -/
  nonIdle : Nat := 0
  /-- outstanding commands; 10:R319; reset empty -/
  cmds : List LCmd := []
  /-- commands that wait for room, or for ACTIVE after a RETRAIN (writes, with their data); 10:R319, R322; reset empty -/
  queue : List (LCmd × List Byte) := []
  /-- Tempo of lost reads in the last 1 ms; 10:R320; reset none -/
  lostAt : List Nat := []
  /-- next tag to try: 12 bits; 10:R305; reset 0 -/
  nextTag : Nat := 0
deriving DecidableEq, Repr, Inhabited

/-- What a collective engine holds of one chunk (12:R383 to R392). Packets are kept by child node × 2^28 + stream index. -/
structure CChunk where
  /-- headers received, by child; 12:R396; reset none -/
  hdr : Tab (List Byte) := []
  /-- pass-1 packets received from children; 12:R388; reset none -/
  exp : Tab (List Byte) := []
  /-- data packets received from children; 12:R395; reset none -/
  dat : Tab (List Byte) := []
  /-- pass-1 packets received from the parent, by stream index; 12:R388; reset none -/
  expIn : Tab (List Byte) := []
  /-- the root's pass-1 values of the chunk, once known: 2 bytes a block; 12:R388; reset none -/
  expTot : List Byte := []
  /-- pass-1 values sent, or formed at the root; reset false -/
  sentExp : Bool := false
  /-- segments sent to the parent, or formed at the root; reset 0 -/
  sentDat : Nat := 0
  /-- header sent, or formed at the root; reset false -/
  sentHdr : Bool := false
  /-- segments granted by the parent; 12:R395; reset 0 -/
  grant : Nat := 0
  /-- segments granted to the children; 12:R395; reset 0 -/
  granted : Nat := 0
  /-- segments of the chunk that were given a window slot; 12:R394; reset none -/
  win : List Nat := []
  /-- the root's header; 12:R396; reset none -/
  down : List Byte := []
  /-- result packets written, by stream index: bytes; 12:R391; reset none -/
  res : Tab Nat := []
  /-- every result byte is written and the header is known; reset false -/
  done : Bool := false
  /-- lines whose invalidation the chunk's add waits for; 12:R382; reset none -/
  lines : List Nat := []
  /-- own counts: invalid, overflow, underflow, vanished; 12:R381; reset 0 -/
  counts : List Nat := [0, 0, 0, 0]
deriving DecidableEq, Repr, Inhabited

/-- One collective at this package (12:R393). -/
structure Coll where
  part : Nat := 0
  seq : Nat := 0
  /-- first descriptor, 64 bytes (12:R376) -/
  desc : List Byte := []
  /-- local contributions: tile and source, in order of commit -/
  locals : List (Nat × Nat) := []
  members : List Nat := []
  hash : Nat := 0
  /-- admitted: it holds its base slot (12:R393) -/
  admitted : Bool := false
  chunks : Tab CChunk := []
  /-- chunks flagged in the chunk word -/
  flagged : Nat := 0
  /-- Tempo of last progress, the ns since then for which the count stood (12:R397), and the Tempo of the last local contribution -/
  progress : Nat := 0
  paused : Nat := 0
  ready : Nat := 0
  /-- GRANT and RESEND packets sent to each child; 12:R395; reset 0 -/
  grants : Nat := 0
  resends : Nat := 0
  /-- units of each chunk's data on its way up, once known; 12:R395; reset none -/
  dataLen : Tab Nat := []
  /-- GRANTs that came before admission, with their node; 12:R395; reset none -/
  early : List (Nat × List Byte) := []
  /-- the root's final stamps: maximum, its node, minimum; 12:R399; reset 0 -/
  late : Nat × Nat × Nat := (0, 0, 0)
  /-- final counts of the chunks so far; 12:R381; reset 0 -/
  total : List Nat := [0, 0, 0, 0]
deriving DecidableEq, Repr, Inhabited

/-- An open recovery (13:R409, R559). -/
structure Recovery where
  /-- class of 13:R418; 0: a replay in place that is no fault (13:R406, R559) -/
  cls : Nat := 0
  /-- unit as the record names it, and the tile or hart core it concerns -/
  unit : Nat := 0
  tile : Nat := 0
  /-- Tempo of declaration, and of the start of the replay -/
  declared : Nat := 0
  start : Nat := 0
  /-- Tempo at which its set-up ended: the start of the replay, but for a tile whose ramp slot has not come -/
  ready : Nat := 0
  /-- the ply and the active count at the fault, that the replay must regain -/
  seq : Nat := 0
  active : Nat := 0
  /-- 0 declared, 1 committed and set up, replaying -/
  step : Nat := 0
  /-- adjacent rank (13:R411) -/
  adj : Bool := false
  /-- outside scope though recovered (13:R414) -/
  outside : Bool := false
  /-- the record is written (its replay has regained the point of failure) -/
  recorded : Bool := false
  /-- castlings ahead of it when it was declared (13:R405) -/
  ahead : Nat := 0
  spares : Nat := 0
  /-- detection bound of its source in ns -/
  bound : Nat := 0
  partsMask : Nat := 0
  /-- its protection group, within its class (13:R403) -/
  grp : Nat := 0
deriving DecidableEq, Repr, Inhabited

/-- Fault state kept by root firmware (13). -/
structure FaultSt where
  /-- open recoveries, in order of declaration; 13:R405; reset none -/
  open_ : List Recovery := []
  /-- unrepaired protection groups: class, group; 13:R404; reset none -/
  groups : List (Nat × Nat) := []
  /-- tiles recovered in the frame in progress, with the record's number plus 1; 13:R423; reset none -/
  recovered : Tab Nat := []
  /-- castling records 0–63, 32 bytes; 13:R420; reset zero -/
  records : Tab (List Byte) := []
  /-- failed lanes of each tile engine: package tile × 2 + engine (0 matrix, 1 vector) → count; 13:R413; reset none -/
  lanes : Tab Nat := []
  /-- times of residue mismatches of a lane, and of uncorrectable words of a site, within 1 s: key → times; 13:R406; reset none -/
  times : Tab (List Nat) := []
  /-- spare cores taken on each P-die; 13:R403; reset 0 -/
  cores : Tab Nat := []
  /-- mesh lanes lost of each direction of an edge, by die codes a × 256 + b → count; 13:R403; reset 0 -/
  other : Tab Nat := []
  /-- fault map changes not committed to the N-die; 13:R417; reset false -/
  pendingMap : Bool := false
  /-- C-dies not assignable; 13:R415; reset none -/
  noAssign : List Nat := []
  /-- the package accepts no load; 13:R415; reset false -/
  noLoad : Bool := false
  /-- the package has stopped: M-die lost; 13:R415; reset false -/
  stopped : Bool := false
deriving DecidableEq, Repr, Inhabited

end Sys2Proof
end

