-- ==== Sys2Proof/Machine/Pkg.lean ====
section
/-!
DEFINITION. The package: everything the spec gives it but the site map and the queue of waiting commands.
-/

namespace Sys2Proof


/-- One Y100 package. -/
structure Pkg where
  /-- Tempo counter and discipline; 03 -/
  tempo : Tempo := {}
  /-- partitions 0–15; 14:R425; reset empty -/
  parts : Tab Part := []
  /-- logical tiles 0–6143; 01:R29; reset unloaded -/
  tiles : Tab Tile := []
  /-- die stores by package physical address: 48 × 1.25 GiB; 01:R33; bytes after a cold start undefined (09:R266): 0 DESIGN CHOICE 2 -/
  dstore : Mem := []
  /-- cached bit of die-store lines, by address ÷ 64; 08:R252; reset clear -/
  cached : Tab Nat := []
  /-- store dies 0–47; 09:R259 -/
  sdies : Tab SDie := []
  /-- parameter dictionary, values that differ from their defaults; 16:R475; reset defaults (saved entries keep theirs) -/
  dict : Tab Nat := []
  /-- Atnik fabric; 11 -/
  net : Fabric := {}
  /-- solver engine numbers 0–767; 07 -/
  engines : Tab Engine := []
  /-- submissions that wait in C-die commit queues for room; 07:R211; reset empty -/
  solveWait : List SolveReq := []
  /-- count of commits, for orders among units: the model's own; reset 0 -/
  stamp : Nat := 0
  /-- harts 0–1535; 08 -/
  harts : Tab Hart := []
  /-- P-die cores 0–191; 08 -/
  cores : Tab CoreSt := []
  /-- shared-cache lines present, by address ÷ 64; 08:R249; reset empty -/
  scache : Tab CLine := []
  /-- shared-cache slices 0–63; 08 -/
  slices : Tab Slice := []
  /-- lines whose invalidation an S-die has sent and the home slice not acknowledged; 08:R252; reset none -/
  invals : List Nat := []
  /-- release writes that wait for invalidations of their ply, with the lines; 08:R252; reset none -/
  relWait : List (DWrite × List Nat) := []
  /-- tier engines; 09 -/
  tier : Tier := {}
  /-- Lenpel ports 0–47; 10 -/
  lports : Tab LPort := []
  /-- collectives known at the package; 12; reset none -/
  colls : List Coll := []
  /-- contributions that wait for admission: partition, tile, descriptor, Tempo; 12:R393; reset none -/
  collWait : List (Nat × Nat × List Byte × Nat) := []
  /-- aborted sequence numbers remembered, newest first, at most 64 a partition: partition, seq, status + 256 if begun elsewhere + 512 × its node; 12:R398; reset none -/
  collGone : List (Nat × Nat × Nat) := []
  /-- faults; 13 -/
  fault : FaultSt := {}
  /-- firmware, N0, hold-up; 17 -/
  fw : Fw := {}
  /-- ownership, sessions, mailboxes, I3C; 16 -/
  mgmt : Mgmt := {}
  /-- PCIe ports 0 and 1; 18:R547 -/
  pcie : Tab Pcie := []
  /-- test access port; 18:R554 -/
  tap : Tap := {}
  /-- pins; 18:R541 -/
  pins : Pins := {}
  /-- power and heat; 15 -/
  pow : Power := {}
  /-- event log, newest first, at most 1,024; 16:R505; reset empty -/
  log : List Event := []
  /-- what the package has shown the outside, newest first; reset empty -/
  out : List Out := []
  /-- count of free values drawn (log entry 5): the model's own; reset 0 DESIGN CHOICE 5 -/
  free : Nat := 0
deriving DecidableEq, Repr, Inhabited

end Sys2Proof
end

