-- ==== Sys2Proof/Machine/Ops.lean ====
section
/-!
DEFINITION. The named operations every family uses: units, dictionary entries, events, address checks, holding a
member, die-store reads and writes.
-/

namespace Sys2Proof


/-- A tile. -/
def Pkg.tile (s : Pkg) (t : Nat) : Tile := Tab.get {} s.tiles t

/-- Change a tile. -/
def Pkg.setTile (s : Pkg) (t : Nat) (x : Tile) : Pkg := { s with tiles := Tab.set {} s.tiles t x }

/-- A partition. -/
def Pkg.part (s : Pkg) (p : Nat) : Part := Tab.get {} s.parts p

/-- Change a partition. -/
def Pkg.setPart (s : Pkg) (p : Nat) (x : Part) : Pkg := { s with parts := Tab.set {} s.parts p x }

/-- Change a partition's member. -/
def Pkg.setMem (s : Pkg) (p : Nat) (m : Member) : Pkg := s.setPart p { s.part p with mem := m }

/-- A store die. -/
def Pkg.sdie (s : Pkg) (d : Nat) : SDie := Tab.get {} s.sdies d

/-- Change a store die. -/
def Pkg.setSdie (s : Pkg) (d : Nat) (x : SDie) : Pkg := { s with sdies := Tab.set {} s.sdies d x }

/-- An Atnik port. -/
def Pkg.port (s : Pkg) (n : Nat) : APort := Tab.get {} s.net.ports n

/-- Change an Atnik port. -/
def Pkg.setPort (s : Pkg) (n : Nat) (x : APort) : Pkg :=
  { s with net := { s.net with ports := Tab.set {} s.net.ports n x } }

/-- The value held for a dictionary entry (16:R475). -/
def Pkg.ent (s : Pkg) (idx sub : Nat) : Nat := (Tab.find s.dict (dkey idx sub)).getD (dictDefault idx sub)

/-- Hold a value for a dictionary entry; the default leaves nothing listed. -/
def Pkg.setEnt (s : Pkg) (idx sub v : Nat) : Pkg :=
  { s with dict := if v = dictDefault idx sub then Tab.erase s.dict (dkey idx sub) else Tab.insert s.dict (dkey idx sub) v }

/-- Add to a counter. -/
def Pkg.bump (s : Pkg) (idx sub n : Nat) : Pkg := if n = 0 then s else s.setEnt idx sub (s.ent idx sub + n)

/-- Raise a high-water mark. -/
def Pkg.peak (s : Pkg) (idx sub n : Nat) : Pkg := if s.ent idx sub < n then s.setEnt idx sub n else s

/-- Show something to the outside. -/
def Pkg.emit (s : Pkg) (o : Out) : Pkg := { s with out := o :: s.out }

/-- Draw a free value: a number no proof can see (log entry 5). -/
def Pkg.draw (s : Pkg) : Nat × Pkg := (Config.freeValue s.free, { s with free := s.free + 1 })

/-- The partition's numeric settings (02:R73). -/
def Pkg.num (s : Pkg) (p : Nat) : NumCfg := (s.part p).img.num

/-- Part of the die-store windows, wholly populated and in one window (01:R33). -/
def dsOk (a n : Nat) : Bool :=
  decide (0 < n) && decide (a / 0x80000000 < 48) && decide (a % 0x80000000 + n ≤ 0x50000000)

/-- The C-die of a die-store address (01:R33). -/
def dieOf (a : Nat) : Nat := a / 0x80000000

/-- Some byte lies in the package control space (01:R32, R44). -/
def inControl (a n : Nat) : Bool := overlap a n 0x8000000000 0x100000000

/-- The die whose control-space block holds an address: its die code, the block number; none for a reserved block or an address
outside the control space (01:R34). -/
def ctlDie (a : Nat) : Option Nat :=
  let b := (a - 0x8000000000) / 0x2000000
  if inControl a 1 && decide (b < 68) then some b else none

/-- Die code of an Atnik port's F-die, and of a Lenpel port's T-die (01:R23, R34). -/
def fdieOf (p : Nat) : Nat := 52 + p / 3
def tdieOf (q : Nat) : Nat := 60 + q / 8

/-- Where a die stands (01:R21): on the grid, an S-die bonded under its C-die; above or below the grid over columns c and c + 1; left or
right of it beside rows r and r + 1; at a corner; the management dies beside P0. -/
inductive Place where
  | grid (row col : Nat)
  | above (col : Nat)
  | below (col : Nat)
  | left (row : Nat)
  | right (row : Nat)
  | corner (top left : Bool)
  | beside
deriving DecidableEq, Repr

/-- Place of a die by its die code (01:R21, R34). -/
def placeOf (d : Nat) : Place :=
  if d < 48 then .grid (d / 8) (d % 8)
  else if d < 52 then .corner (decide (d < 50)) (decide (d % 2 = 0))
  else if d < 56 then .above (2 * (d - 52))
  else if d < 60 then .below (2 * (d - 56))
  else if d < 63 then .left (2 * (d - 60))
  else if d < 66 then .right (2 * (d - 63))
  else .beside

/-- An edge of the mesh leads from a die to one listed later, by die codes (01:R21, R24). -/
def edgeDown (a b : Nat) : Bool :=
  match placeOf a, placeOf b with
  | .grid r c, .grid r' c' => (decide (r = r') && decide (c + 1 = c')) || (decide (c = c') && decide (r + 1 = r'))
  | .grid r c, .above c' => decide (r = 0) && decide (c / 2 * 2 = c')
  | .grid r c, .below c' => decide (r = 5) && decide (c / 2 * 2 = c')
  | .grid r c, .left r' => decide (c = 0) && decide (r / 2 * 2 = r')
  | .grid r c, .right r' => decide (c = 7) && decide (r / 2 * 2 = r')
  | .grid r c, .corner t l => decide (r = if t then 0 else 5) && decide (c = if l then 0 else 7)
  | .corner t l, .above c => t && decide (c = if l then 0 else 6)
  | .corner t l, .below c => !t && decide (c = if l then 0 else 6)
  | .corner t l, .left r => l && decide (r = if t then 0 else 4)
  | .corner t l, .right r => !l && decide (r = if t then 0 else 4)
  | _, _ => false

/-- Two dies are joined by a mesh edge (01:R24). -/
def meshEdge (a b : Nat) : Bool := edgeDown a b || edgeDown b a

/-- The attachments that are no mesh edge: M0 to P0 and to N0, by die codes (01:R21). -/
def besideLink (a b : Nat) : Bool := [(48, 66), (66, 48), (66, 67), (67, 66)].contains (a, b)

/-- Dies directly attached to a die (01:R21), its bonded S-die apart, which shares its die code. -/
def attached (d : Nat) : List Nat := (List.range 68).filter (fun b => meshEdge d b || besideLink d b)

/-- Dies the package sideband of a die reaches: M0's reaches every other die, and every other die has M0 on it (01:R21, R24). -/
def sideband (d : Nat) : List Nat := if d = 66 then (List.range 68).filter (· ≠ 66) else [66]

/-- Some byte lies in the board-tier window (01:R32). -/
def inTier (a : Nat) : Bool := decide (0x200000000000 ≤ a) && decide (a < 0x400000000000)

/-- Region number of a board-tier window address (09:R269). -/
def regionOf (a : Nat) : Nat := (a - 0x200000000000) / 0x800000000

/-- The die-store range lies in the partition's own windows (04:R138, 14:R434). -/
def Pkg.ownRange (s : Pkg) (p a n : Nat) : Bool := dsOk a n && (s.part p).dies.contains (dieOf a)

/-- Count a refused access of a partition (01:R44). -/
def Pkg.addrError (s : Pkg) (p a n : Nat) : Pkg :=
  let s := s.bump (0x3040 + p) 1 1
  if inControl a n then s.bump (0x3040 + p) 2 1 else s

/-- The frame index of a partition, for events (16:R504). -/
def Pkg.frameOf (s : Pkg) (p : Nat) : Nat := if p < 16 then (s.part p).mem.n else 0

/-- ALERT_N cause bit that an event sets, plus 1; 0 none (16:R506, 17:R533). -/
def alertBit (code : Nat) : Nat :=
  match code with
  | 0x0605 => 2
  | 0x0203 => 3
  | 0x0904 => 4
  | 0x0706 => 5
  | 0x0607 => 6
  | 0x0702 | 0x0703 | 0x0709 | 0x070A | 0x070C | 0x070E => 7
  | 0x0908 => 8
  | _ => 0

/-- The cause bit an event sets now: bits 2–7 only where unmasked (16:R506). -/
def Pkg.alertOf (s : Pkg) (code : Nat) : Option Nat :=
  match alertBit code with
  | 0 => none
  | b + 1 => if b < 2 || bit (s.ent 0x1130 7) b then some b else none

/-- mgmt.alert_status takes a value; ALERT_N is asserted, that is low, while it has a bit set (16:R506, 18:R541). -/
def Pkg.putAlerts (s : Pkg) (v : Nat) : Pkg :=
  let was := s.ent 0x1130 6
  let s := s.setEnt 0x1130 6 v
  if ((was = 0) = (v = 0)) || !s.fw.vaux then s else s.emit (.pin "ALERT_N" 0 (decide (v = 0)))

/-- Set a cause bit. -/
def Pkg.setAlert (s : Pkg) : Option Nat → Pkg
  | none => s
  | some b => { s.putAlerts (s.ent 0x1130 6 ||| 2 ^ b) with mgmt := { s.mgmt with fresh := s.mgmt.fresh ||| 2 ^ b } }

/-- Contents of an event (16:R504). -/
def Event.contents (e : Event) : List Byte := e.raw ++ e.items.flatMap (natBe 8)

/-- The event record that a message carries, in network byte order (16:R490, R504). -/
def Event.record (e : Event) : List Byte :=
  natBe 8 e.seq ++ natBe 2 e.code ++ natBe 1 e.part ++ natBe 1 e.flags ++ natBe 2 e.contents.length ++ natBe 2 0 ++ natBe 8 e.frame
    ++ natBe 8 e.tempo ++ natBe 8 e.utc ++ e.contents

/-- The same record as an entry of the log: a BLOB of 104 bytes, which PAP messages alone carry (16:R490, R505, log entry 57). -/
def Event.blob (e : Event) : List Byte := padTo 104 e.record

/-- A message's MAC: zero while no key is set (16:R492, R502). -/
def macOf (key msg : List Byte) : List Byte := if key.isEmpty then natLe 16 0 else padTo 16 (Config.hmacSha384 key msg)

/-- A PAP message of a session under a key (16:R490, R491). -/
def papMsg (key : List Byte) (type status flags session seq : Nat) (body : List Byte) : List Byte :=
  let m := natBe 1 1 ++ natBe 1 type ++ natBe 1 status ++ natBe 1 flags ++ natBe 4 session ++ natBe 4 seq ++ natBe 2 body.length ++ natBe 2 0 ++ body
  m ++ macOf key m

/-- A mailbox. -/
def Pkg.mbox (s : Pkg) (k : Nat) : Mailbox := Tab.get {} s.mgmt.boxes k
def Pkg.setMbox (s : Pkg) (k : Nat) (b : Mailbox) : Pkg := { s with mgmt := { s.mgmt with boxes := Tab.set {} s.mgmt.boxes k b } }

/-- Add to a queue of at most n messages: when it is full the oldest is dropped (16:R499). -/
def pushQ (n : Nat) (q : List (List Byte)) (m : List Byte) : List (List Byte) := (if q.length < n then q else q.drop 1) ++ [m]

/-- Hand an EVENT message to the path of its session (16:R499, R501). -/
def Pkg.sendEvent (s : Pkg) (x : Session) (m : List Byte) : Pkg :=
  match x.path with
  | .ethernet => s.emit (.pap x.id x.peer m)
  | .mailbox k =>
    let b := s.mbox k
    let s := s.setMbox k { b with events := pushQ 64 b.events m }
    if b.events.isEmpty && b.irqEvt then s.emit (.msix k 1) else s
  | .i3c =>
    let c := s.mgmt.i3c
    let s := { s with mgmt := { s.mgmt with i3c := { c with events := pushQ 16 c.events m } } }
    if c.events.isEmpty && c.ibi then s.emit (.ibi 0x02) else s

/-- A session of the owner's principal (16:R484). -/
def Mgmt.isOwner (g : Mgmt) (x : Session) : Bool := match g.owner with
  | some o => o.1 = x.principal
  | none => false

/-- An event goes to a session: its subject is selected, and a partition's event is for owner sessions and the delegated one
(16:R503). -/
def Pkg.eventFor (s : Pkg) (x : Session) (code part : Nat) : Bool :=
  match x.sub with
  | none => false
  | some (mask, _) => bit mask (code / 256) && (decide (15 < part) || s.mgmt.isOwner x || decide (s.ent (0x1110 + part) 1 = x.id))

/-- The I3C key, empty while it is unset; while it is, a key of an I3C session stands for none (16:R502). -/
def Pkg.i3cKey (s : Pkg) : List Byte := if s.ent 0x1130 4 = 0 then [] else natLe 48 (s.ent 0x1130 4)
def Pkg.keyOf (s : Pkg) (x : Session) (k : List Byte) : List Byte := if x.path = .i3c && s.i3cKey.isEmpty then [] else k

/-- Send an event record to a session, as its next EVENT message (16:R492, R503). -/
def Pkg.eventTo (s : Pkg) (rec_ : List Byte) (x : Session) : Pkg :=
  let s := { s with mgmt := { s.mgmt with sessions := mapIf (fun (y : Session) => y.id = x.id) (fun y => { y with events := y.events + 1 }) s.mgmt.sessions } }
  s.sendEvent x (papMsg (s.keyOf x x.keyRsp) 0x08 0 0 x.id (x.events + 1) rec_)

/-- The event record of a moment (16:R504). -/
def Pkg.eventNow (s : Pkg) (code part : Nat) (items : List Nat) (raw : List Byte) : Event :=
  { seq := s.ent 0x1140 1, code := code, part := part
    flags := (if s.ent 0x2204 3 = 1 then 0 else 1) + (if (s.alertOf code).isSome then 2 else 0)
    frame := s.frameOf part, tempo := s.tempo.now, utc := ofSigned 64 (s.tempo.now + toSigned 64 (s.ent 0x2204 4)), items := items, raw := raw }

/-- Raise an event: log it under the next sequence number, set its ALERT_N cause, send it to whoever selected it
(16:R503 to R506). -/
def Pkg.raise (s : Pkg) (code part : Nat) (items : List Nat) (raw : List Byte := []) : Pkg :=
  let e := s.eventNow code part items raw
  let s := (s.setAlert (s.alertOf code)).setEnt 0x1140 1 (e.seq + 1)
  let s := { s with log := (e :: s.log).take 1024 }
  (s.mgmt.sessions.filter (fun x => s.eventFor x code part)).foldl (fun s x => s.eventTo e.record x) s

/-- Put a member into holding with the event that is its cause (14:R429, R455). -/
def Pkg.hold (s : Pkg) (p code : Nat) : Pkg :=
  let x := s.part p
  if x.st = .running then s.setPart p { x with st := .holding, holdCause := code, heldAt := s.tempo.now, mem := { x.mem with state := 3 } } else s

/-- The bytes of a label. -/
def ascii (s : String) : List Byte := s.toList.map (fun c => BitVec.ofNat 8 c.toNat)

/-- Words of 64 bits of a byte string. -/
def words64 (bs : List Byte) : List Nat := wordsOf (ceilDiv bs.length 8) bs

/-- The change hash of a record of `n` words (03:R104). -/
def hashBytes (n : Nat) (bs : List Byte) : Nat := changeHash (wordsOf n bs)

/-- Which units exist; an operand beyond them names nothing (log entry 17). -/
def tileMax : Nat := 6144
def hartMax : Nat := 1536
def engineMax : Nat := 768
def partMax : Nat := 16
def dieMax : Nat := 48
def aportMax : Nat := 24
def lportMax : Nat := 48

/-- Package tile number of die d, logical tile l (00:R10). -/
def tileNo (die l : Nat) : Nat := die * 128 + l

/-- The tiles of a list of dies, in partition tile index order (14:R428). -/
def tilesOf (dies : List Nat) : List Nat := dies.flatMap (fun d => (List.range 128).map (fun l => tileNo d l))

/-- Apply a change to each of a list of tiles. -/
def Pkg.eachTile (s : Pkg) (ts : List Nat) (f : Tile → Tile) : Pkg :=
  ts.foldl (fun s t => s.setTile t (f (s.tile t))) s

end Sys2Proof
end

