-- ==== Sys2Proof/Machine/Rv.lean ====
section
/-!
DEFINITION. The RISC-V base that the tile cores (04:R121) and the P-die harts (08:R233) share: instruction fields,
the compressed encodings as their 32-bit expansions, the integer and multiply-divide operations, branch conditions.
The spec names RV64IMC and takes the meanings from the RISC-V manuals (PRESUMED, log entry 10).
-/

namespace Sys2Proof.Rv

open Sys2Proof

/-- Fields of a 32-bit instruction. -/
def opc (w : Nat) : Nat := bits w 6 0
def rd (w : Nat) : Nat := bits w 11 7
def f3 (w : Nat) : Nat := bits w 14 12
def rs1 (w : Nat) : Nat := bits w 19 15
def rs2 (w : Nat) : Nat := bits w 24 20
def f7 (w : Nat) : Nat := bits w 31 25

/-- A signed field as a 64-bit word. -/
def sext (n v : Nat) : Word := BitVec.ofInt 64 (toSigned n v)

/-- The immediates of the five formats. -/
def immI (w : Nat) : Word := sext 12 (bits w 31 20)
def immS (w : Nat) : Word := sext 12 (bits w 31 25 * 32 + bits w 11 7)
def immB (w : Nat) : Word := sext 13 (bits w 31 31 * 4096 + bits w 7 7 * 2048 + bits w 30 25 * 32 + bits w 11 8 * 2)
def immU (w : Nat) : Word := sext 32 (bits w 31 12 * 4096)
def immJ (w : Nat) : Word :=
  sext 21 (bits w 31 31 * 1048576 + bits w 19 12 * 4096 + bits w 20 20 * 2048 + bits w 30 21 * 2)

/-- The low 32 bits, sign-extended. -/
def w32 (v : Word) : Word := sext 32 (v.toNat % 2 ^ 32)

/-- Encoders of the formats, for the expansion of compressed instructions. -/
def encI (op f3 rd rs1 imm : Nat) : Nat := op + rd * 128 + f3 * 4096 + rs1 * 32768 + (imm % 4096) * 1048576
def encS (op f3 rs1 rs2 imm : Nat) : Nat :=
  op + (imm % 32) * 128 + f3 * 4096 + rs1 * 32768 + rs2 * 1048576 + (imm / 32 % 128) * 33554432
def encR (op f3 f7 rd rs1 rs2 : Nat) : Nat := op + rd * 128 + f3 * 4096 + rs1 * 32768 + rs2 * 1048576 + f7 * 33554432
def encB (f3 rs1 rs2 imm : Nat) : Nat :=
  0x63 + bits imm 11 11 * 128 + bits imm 4 1 * 256 + f3 * 4096 + rs1 * 32768 + rs2 * 1048576
    + bits imm 10 5 * 33554432 + bits imm 12 12 * 2147483648
def encJ (rd imm : Nat) : Nat :=
  0x6F + rd * 128 + bits imm 19 12 * 4096 + bits imm 11 11 * 1048576 + bits imm 10 1 * 2097152
    + bits imm 20 20 * 2147483648
def encU (op rd imm : Nat) : Nat := op + rd * 128 + (imm % 1048576) * 4096

/-- A signed compressed immediate as a field of `m` bits. -/
def cimm (n m v : Nat) : Nat := ofSigned m (toSigned n v)

/-- Quadrant 0. `fp` says the core has D, `zcb` the Zcb additions. -/
def expandC0 (fp zcb : Bool) (h : Nat) : Option Nat :=
  let rdp := bits h 4 2 + 8
  let rs1p := bits h 9 7 + 8
  let uw := bits h 5 5 * 64 + bits h 12 10 * 8 + bits h 6 6 * 4
  let ud := bits h 6 5 * 64 + bits h 12 10 * 8
  match bits h 15 13 with
  | 0 =>
    let imm := bits h 10 7 * 64 + bits h 12 11 * 16 + bits h 5 5 * 8 + bits h 6 6 * 4
    if imm = 0 then none else some (encI 0x13 0 rdp 2 imm)
  | 1 => if fp then some (encI 0x07 3 rdp rs1p ud) else none
  | 2 => some (encI 0x03 2 rdp rs1p uw)
  | 3 => some (encI 0x03 3 rdp rs1p ud)
  | 4 =>
    if !zcb then none
    else
      let ub := bits h 5 5 * 2 + bits h 6 6
      let uh := bits h 5 5 * 2
      match bits h 12 10 with
      | 0 => some (encI 0x03 4 rdp rs1p ub)
      | 1 => if bit h 6 then some (encI 0x03 1 rdp rs1p uh) else some (encI 0x03 5 rdp rs1p uh)
      | 2 => some (encS 0x23 0 rs1p rdp ub)
      | 3 => if bit h 6 then none else some (encS 0x23 1 rs1p rdp uh)
      | _ => none
  | 5 => if fp then some (encS 0x27 3 rs1p rdp ud) else none
  | 6 => some (encS 0x23 2 rs1p rdp uw)
  | _ => some (encS 0x23 3 rs1p rdp ud)

/-- Quadrant 1. -/
def expandC1 (zcb : Bool) (h : Nat) : Option Nat :=
  let r := bits h 11 7
  let i6 := bits h 12 12 * 32 + bits h 6 2
  let rp := bits h 9 7 + 8
  let r2p := bits h 4 2 + 8
  let cj := bits h 12 12 * 2048 + bits h 8 8 * 1024 + bits h 10 9 * 256 + bits h 6 6 * 128 + bits h 7 7 * 64
    + bits h 2 2 * 32 + bits h 11 11 * 16 + bits h 5 3 * 2
  let cb := bits h 12 12 * 256 + bits h 6 5 * 64 + bits h 2 2 * 32 + bits h 11 10 * 8 + bits h 4 3 * 2
  match bits h 15 13 with
  | 0 => some (encI 0x13 0 r r (cimm 6 12 i6))
  | 1 => if r = 0 then none else some (encI 0x1B 0 r r (cimm 6 12 i6))
  | 2 => some (encI 0x13 0 r 0 (cimm 6 12 i6))
  | 3 =>
    if r = 2 then
      let n := bits h 12 12 * 512 + bits h 4 3 * 128 + bits h 5 5 * 64 + bits h 2 2 * 32 + bits h 6 6 * 16
      if n = 0 then none else some (encI 0x13 0 2 2 (cimm 10 12 n))
    else if i6 = 0 then
      if zcb && (r % 2 = 1) && decide (r < 16) then some (encI 0x13 0 0 0 0) else none
    else some (encU 0x37 r (cimm 6 20 i6))
  | 4 =>
    match bits h 11 10 with
    | 0 => some (encI 0x13 5 rp rp i6)
    | 1 => some (encI 0x13 5 rp rp (i6 + 0x400))
    | 2 => some (encI 0x13 7 rp rp (cimm 6 12 i6))
    | _ =>
      match bits h 12 12 * 4 + bits h 6 5 with
      | 0 => some (encR 0x33 0 0x20 rp rp r2p)
      | 1 => some (encR 0x33 4 0 rp rp r2p)
      | 2 => some (encR 0x33 6 0 rp rp r2p)
      | 3 => some (encR 0x33 7 0 rp rp r2p)
      | 4 => some (encR 0x3B 0 0x20 rp rp r2p)
      | 5 => some (encR 0x3B 0 0 rp rp r2p)
      | 6 => if zcb then some (encR 0x33 0 1 rp rp r2p) else none
      | _ =>
        if !zcb then none
        else match bits h 4 2 with
          | 0 => some (encI 0x13 7 rp rp 0xFF)
          | 1 => some (encI 0x13 1 rp rp 0x604)
          | 2 => some (encR 0x3B 4 0x04 rp rp 0)
          | 3 => some (encI 0x13 1 rp rp 0x605)
          | 4 => some (encR 0x3B 0 0x04 rp rp 0)
          | 5 => some (encI 0x13 4 rp rp 0xFFF)
          | _ => none
  | 5 => some (encJ 0 (cimm 12 21 cj))
  | 6 => some (encB 0 rp 0 (cimm 9 13 cb))
  | _ => some (encB 1 rp 0 (cimm 9 13 cb))

/-- Quadrant 2. -/
def expandC2 (fp : Bool) (h : Nat) : Option Nat :=
  let r := bits h 11 7
  let r2 := bits h 6 2
  let i6 := bits h 12 12 * 32 + bits h 6 2
  let lw := bits h 3 2 * 64 + bits h 12 12 * 32 + bits h 6 4 * 4
  let ld := bits h 4 2 * 64 + bits h 12 12 * 32 + bits h 6 5 * 8
  let sw := bits h 8 7 * 64 + bits h 12 9 * 4
  let sd := bits h 9 7 * 64 + bits h 12 10 * 8
  match bits h 15 13 with
  | 0 => some (encI 0x13 1 r r i6)
  | 1 => if fp then some (encI 0x07 3 r 2 ld) else none
  | 2 => if r = 0 then none else some (encI 0x03 2 r 2 lw)
  | 3 => if r = 0 then none else some (encI 0x03 3 r 2 ld)
  | 4 =>
    if bit h 12 then
      if r2 = 0 then if r = 0 then some 0x00100073 else some (encI 0x67 0 1 r 0)
      else some (encR 0x33 0 0 r r r2)
    else if r2 = 0 then if r = 0 then none else some (encI 0x67 0 0 r 0)
    else some (encR 0x33 0 0 r 0 r2)
  | 5 => if fp then some (encS 0x27 3 2 r2 sd) else none
  | 6 => some (encS 0x23 2 2 r2 sw)
  | _ => some (encS 0x23 3 2 r2 sd)

/-- The 32-bit instruction a compressed one stands for. -/
def expandC (fp zcb : Bool) (h : Nat) : Option Nat :=
  if h = 0 then none
  else match h % 4 with
    | 0 => expandC0 fp zcb h
    | 1 => expandC1 zcb h
    | 2 => expandC2 fp h
    | _ => none

/-- Signed quotient and remainder as the M extension rounds them, toward zero, with its two corners. -/
def divS (n : Nat) (a b : Int) : Int := if b = 0 then -1 else if a = -(2 ^ (n - 1) : Nat) ∧ b = -1 then a else Int.tdiv a b
def remS (n : Nat) (a b : Int) : Int := if b = 0 then a else if a = -(2 ^ (n - 1) : Nat) ∧ b = -1 then 0 else Int.tmod a b
def divU (n a b : Nat) : Nat := if b = 0 then 2 ^ n - 1 else a / b
def remU (a b : Nat) : Nat := if b = 0 then a else a % b

/-- Register-register operations of I and M, 64 bits. -/
def alu64 (f7 f3 : Nat) (a b : Word) : Option Word :=
  let sh := b.toNat % 64
  match f7, f3 with
  | 0x00, 0 => some (a + b)
  | 0x20, 0 => some (a - b)
  | 0x00, 1 => some (a <<< sh)
  | 0x00, 2 => some (if a.toInt < b.toInt then 1 else 0)
  | 0x00, 3 => some (if a.toNat < b.toNat then 1 else 0)
  | 0x00, 4 => some (a ^^^ b)
  | 0x00, 5 => some (a >>> sh)
  | 0x20, 5 => some (a.sshiftRight sh)
  | 0x00, 6 => some (a ||| b)
  | 0x00, 7 => some (a &&& b)
  | 0x01, 0 => some (a * b)
  | 0x01, 1 => some (BitVec.ofInt 64 (a.toInt * b.toInt / (2 ^ 64 : Nat)))
  | 0x01, 2 => some (BitVec.ofInt 64 (a.toInt * (b.toNat : Int) / (2 ^ 64 : Nat)))
  | 0x01, 3 => some (BitVec.ofNat 64 (a.toNat * b.toNat / 2 ^ 64))
  | 0x01, 4 => some (BitVec.ofInt 64 (divS 64 a.toInt b.toInt))
  | 0x01, 5 => some (BitVec.ofNat 64 (divU 64 a.toNat b.toNat))
  | 0x01, 6 => some (BitVec.ofInt 64 (remS 64 a.toInt b.toInt))
  | 0x01, 7 => some (BitVec.ofNat 64 (remU a.toNat b.toNat))
  | _, _ => none

/-- Register-register operations of I and M, 32 bits, sign-extended. -/
def alu32 (f7 f3 : Nat) (a b : Word) : Option Word :=
  let x := a.toNat % 2 ^ 32
  let y := b.toNat % 2 ^ 32
  let sx := toSigned 32 x
  let sy := toSigned 32 y
  let sh := y % 32
  let r (v : Int) : Option Word := some (sext 32 (ofSigned 32 v))
  match f7, f3 with
  | 0x00, 0 => r (sx + sy)
  | 0x20, 0 => r (sx - sy)
  | 0x00, 1 => r (x <<< sh : Nat)
  | 0x00, 5 => r (x >>> sh : Nat)
  | 0x20, 5 => r (sx / (2 ^ sh : Nat))
  | 0x01, 0 => r (sx * sy)
  | 0x01, 4 => r (divS 32 sx sy)
  | 0x01, 5 => r (divU 32 x y)
  | 0x01, 6 => r (remS 32 sx sy)
  | 0x01, 7 => r (remU x y)
  | _, _ => none

/-- Register-immediate operations, 64 bits. -/
def aluImm64 (w : Nat) (a : Word) : Option Word :=
  let sh := bits w 25 20
  match f3 w with
  | 0 => some (a + immI w)
  | 1 => if bits w 31 26 = 0 then some (a <<< sh) else none
  | 2 => some (if a.toInt < (immI w).toInt then 1 else 0)
  | 3 => some (if a.toNat < (immI w).toNat then 1 else 0)
  | 4 => some (a ^^^ immI w)
  | 5 => if bits w 31 26 = 0 then some (a >>> sh) else if bits w 31 26 = 0x10 then some (a.sshiftRight sh) else none
  | 6 => some (a ||| immI w)
  | _ => some (a &&& immI w)

/-- Register-immediate operations, 32 bits. -/
def aluImm32 (w : Nat) (a : Word) : Option Word :=
  match f3 w with
  | 0 => some (w32 (a + immI w))
  | 1 => if f7 w = 0 then alu32 0 1 a (BitVec.ofNat 64 (rs2 w)) else none
  | 5 => if f7 w = 0 || f7 w = 0x20 then alu32 (f7 w) 5 a (BitVec.ofNat 64 (rs2 w)) else none
  | _ => none

/-- Branch conditions. -/
def branchTaken (f3 : Nat) (a b : Word) : Option Bool :=
  match f3 with
  | 0 => some (a == b)
  | 1 => some (a != b)
  | 4 => some (decide (a.toInt < b.toInt))
  | 5 => some (decide (b.toInt ≤ a.toInt))
  | 6 => some (decide (a.toNat < b.toNat))
  | 7 => some (decide (b.toNat ≤ a.toNat))
  | _ => none

/-- Bytes of a load or store; loads 4 to 6 are unsigned. -/
def accSize (f3 : Nat) : Nat := 2 ^ (f3 % 4)

/-- The loaded register value. -/
def loadExt (f3 v : Nat) : Word := if f3 < 3 then sext (8 * accSize f3) v else BitVec.ofNat 64 v

/-- What a CSR instruction reads as its source operand. -/
def csrSrc (w : Nat) (a : Word) : Word := if 4 ≤ f3 w then BitVec.ofNat 64 (rs1 w) else a

/-- Whether a CSR instruction writes (04:R123). -/
def csrWrites (w : Nat) : Bool := f3 w % 4 = 1 || rs1 w ≠ 0

/-- The value a CSR instruction writes over an old one. -/
def csrNew (w : Nat) (old src : Word) : Word :=
  match f3 w % 4 with
  | 1 => src
  | 2 => old ||| src
  | _ => old &&& ~~~src

end Sys2Proof.Rv
end

