-- ==== Sys2Proof/Machine/TileOps.lean ====
section
/-!
DEFINITION. Shared operations of a tile: registers, local memory, fetch, CSRs, traps and stops, tickets and the
ordering of engine operations (04).
-/

namespace Sys2Proof

open Rv

/-- x register; x0 reads 0 (04:R121). -/
def Tile.xr (t : Tile) (i : Nat) : Word := if i = 0 then 0 else Tab.get 0 t.core.x i

/-- Write an x register; a write ends any wait for its value (04:R145). -/
def Tile.setX (t : Tile) (i : Nat) (v : Word) : Tile :=
  if i = 0 then t
  else { t with core := { t.core with x := Tab.set 0 t.core.x i v, pend := Tab.erase t.core.pend i, ready := Tab.erase t.core.ready i } }

/-- A register waits for a summary slot (04:R145). -/
def Tile.waits (t : Tile) (i : Nat) : Bool := i ≠ 0 && (Tab.find t.core.pend i).isSome

/-- The local range lies wholly in the operand cache, in the data SRAM (01:R40). -/
def inCache (a n : Nat) : Bool := decide (a + n ≤ 0x80000)
def inData (a n : Nat) : Bool := decide (0x110000 ≤ a) && decide (a + n ≤ 0x120000)
def inLocal (a n : Nat) : Bool := inCache a n || inData a n

/-- Bytes of the operand cache or data SRAM. -/
def Tile.rd (t : Tile) (a n : Nat) : List Byte :=
  if a < 0x80000 then t.ocache.readN a n else t.dsram.readN (a - 0x110000) n

/-- Write bytes of the operand cache or data SRAM. -/
def Tile.wr (t : Tile) (a : Nat) (bs : List Byte) : Tile :=
  if a < 0x80000 then { t with ocache := t.ocache.writeN a bs } else { t with dsram := t.dsram.writeN (a - 0x110000) bs }

/-- Write bytes each at its own local address. -/
def Tile.wrEach (t : Tile) (ws : List (Nat × Byte)) : Tile := ws.foldl (fun t w => t.wr w.1 [w.2]) t

/-- Due time of tick n under the schedule in force (03:R84). -/
def Member.due (m : Member) (n : Nat) : Nat := m.s + (n - m.m) * m.f

/-- The frame that begins next (03:R87). -/
def Member.next (m : Member) : Nat := if m.begun then m.n + 1 else m.n

/-- The member has a schedule in force: its ticks fire, whether it runs, holds or captures (03:R84, R85). -/
def Part.ticking (x : Part) : Bool :=
  (x.mem.begun || x.mem.go) && (x.st == .ready || x.st == .running || x.st == .holding || x.st == .checkpointing)

/-- Tempo at which tick n fires, or would fire: its due time under the schedule in force, no earlier than that schedule (03:R84). -/
def Member.fireAt (m : Member) (n : Nat) : Nat := max (m.due n) m.schedAt

/-- An input that waits for a tick is refused late, and no gambit ply starts before one: the tick has fired, or fires in this cycle
(03:R84, R102, R112). -/
def Pkg.tickPassed (s : Pkg) (p n : Nat) : Bool :=
  let x := s.part p
  decide (n < x.mem.fired) || (x.ticking && decide (x.mem.fireAt n ≤ s.tempo.now))

/-- Duty of a die in sixteenths: the fast loop's, under the steps of heat on an F-die or T-die (15:R465, R469). -/
def dutyDie (d : Nat) : Bool := decide (52 ≤ d) && decide (d < 66)
def Power.dutyOf (w : Power) (d : Nat) : Nat :=
  let fast := Tab.get 16 w.duty d
  if dutyDie d then min fast (16 - Tab.get 0 w.heat d) else fast

/-- Clock of a P-die's cores in MHz: 1.6 × the package target in steps of 25, at most 2,400, under the die's ceiling of heat (15:R461, log
entry 97). -/
def Pkg.coreClock (s : Pkg) (d : Nat) : Nat := min (min 2400 (s.pow.target * 8 / 5 / 25 * 25)) (2400 - 25 * min 72 (Tab.get 0 s.pow.heat d))

/-- A die is gated whole: it issues no instruction and no engine operation (15:R465). -/
def Pkg.gated (s : Pkg) (d : Nat) : Bool := decide (s.pow.dutyOf d = 0)

/-- Rank of the site that serves a tile, in its C-die (01:R28, R30, 13:R411). -/
def Pkg.rankNow (s : Pkg) (n : Nat) : Nat := match Tab.get 0 s.pow.siteRank n with
  | 0 => n % 128 / 8
  | k + 1 => k

/-- The droop detector of a tile's ranks stretches its cycles (15:R468). -/
def Pkg.stretched (s : Pkg) (n : Nat) : Bool := decide (Tab.get 0 s.pow.stretch (n / 128 * 8 + s.rankNow n / 2) ≠ 0)

/-- A tile's clock in MHz × 3: a stretched cycle lasts 1.5 times as long (15:R461, R468). -/
def Pkg.clock3 (s : Pkg) (n : Nat) : Nat := (if s.stretched n then 2 else 3) * Tab.get 1500 s.pow.clocks n

/-- Tempo up to which a tile's span counts now: neither a hold of its member counts, from the scheduled tick that a flag fall waits
behind or from the event that holds it (03:R87, R97). -/
def Pkg.spanStop (s : Pkg) (n : Nat) : Nat :=
  let t := s.tile n
  let x := s.part (t.part - 1)
  let a := if x.mem.begun && decide (t.frame = x.mem.n) then min s.tempo.now (x.mem.due (x.mem.n + 1)) else s.tempo.now
  if x.st == .holding || x.st == .checkpointing then min a x.heldAt else a

/-- Span of the ply so far, in tile cycles × 3,000; waiting in YK.WAITW does not count (03:R97). -/
def Pkg.span (s : Pkg) (n : Nat) : Nat :=
  let t := s.tile n
  if t.waitw.isSome then t.spanCyc else t.spanCyc + (s.spanStop n - t.spanFrom) * s.clock3 n

/-- Count the span up to now (03:R97). -/
def Pkg.spanMark (s : Pkg) (n : Nat) : Pkg := s.setTile n { s.tile n with spanCyc := s.span n, spanFrom := s.tempo.now }

/-- The tile executes instructions: it runs, waits on no die-store word, its die is not gated whole, and it has not reached the
watchdog's count (03:R96, 15:R465). -/
def Pkg.runs (s : Pkg) (n : Nat) : Bool :=
  let t := s.tile n
  t.mode == .running && t.waitw.isNone && !(s.gated (n / 128)) && decide (t.active < (s.part (t.part - 1)).mem.cap * 1500)

/-- What the fetch at the program counter gives: a fault's cause, or the 32-bit form of the instruction, its length and
its bits as fetched (01:R40, 04:R121). -/
inductive Fetch where
  | fault (cause : Nat)
  | instr (w len raw : Nat)
  | illegal (raw : Nat)
deriving DecidableEq, Repr, Inhabited

/-- Fetch at the program counter. -/
def Tile.fetch (t : Tile) : Fetch :=
  let pc := t.core.pc.toNat
  let ok (n : Nat) := decide (0x100000 ≤ pc) && decide (pc + n ≤ 0x110000)
  if pc % 2 = 1 then .fault 0
  else if !ok 2 then .fault 1
  else
    let h := t.isram.rd (pc - 0x100000) 2
    if h % 4 ≠ 3 then
      match expandC false false h with
      | some w => .instr w 2 h
      | none => .illegal h
    else if !ok 4 then .fault 1
    else let w := t.isram.rd (pc - 0x100000) 4
      .instr w 4 w

/-- Offset of the part of the instruction whose fetch faults: 2 where its first half can be fetched (04:R125, log entry 10). -/
def Tile.faultAt (t : Tile) : Nat := if decide (0x100000 ≤ t.core.pc.toNat) && decide (t.core.pc.toNat + 2 ≤ 0x110000) && decide (t.core.pc.toNat % 2 = 0) then 2 else 0

/-- Stop a tile: its ply buffer and staging are discarded and the member holds with the event that stops it (03:R96,
04:R125, R144). -/
def Pkg.killTile (s : Pkg) (n code : Nat) (more : List Nat) : Pkg :=
  let t := s.tile n
  let p := t.part - 1
  let s := s.setTile n { t with mode := .stopped, buf := [], units := 0, ops := [], waitw := none, core := { t.core with region := none } }
  (s.raise code p ([n, t.seq] ++ more)).hold p code

/-- Count active cycles of a partition (04:R157). -/
def Pkg.cycles (s : Pkg) (n cyc : Nat) : Pkg := s.bump (0x3020 + ((s.tile n).part - 1)) 6 cyc

/-- Take cycles of a squashed region back (03:R96). -/
def Pkg.uncycle (s : Pkg) (n cyc : Nat) : Pkg :=
  let e := 0x3020 + ((s.tile n).part - 1)
  if cyc = 0 then s else s.setEnt e 6 (s.ent e 6 - cyc)

/-- TILE_STOP with its cause (04:R126). -/
def Pkg.stopTile (s : Pkg) (n cause : Nat) : Pkg :=
  (s.bump (0x3020 + ((s.tile n).part - 1)) 5 1).killTile n 0x010F [cause]

/-- Cycles an instruction waits for a loaded register: active cycles (03:R96, 06:R201). -/
def Tile.useStall (t : Tile) (rs : List Nat) : Nat :=
  rs.foldl (fun m r => max m ((Tab.find t.core.ready r).getD 0 - t.active)) 0

/-- The stall of the instruction at the program counter for its two sources (03:R96). -/
def Tile.issueStall (t : Tile) : Nat :=
  match t.fetch with
  | .instr w _ _ => t.useStall [rs1 w, rs2 w]
  | _ => 0

/-- The stall for its operands of an instruction whose operands raise its exception: an access, YK.ELOAD, YK.RELW, YK.WAITW (03:R96). -/
def Tile.trapStall (t : Tile) (cause : Nat) : Nat :=
  match t.fetch with
  | .instr w _ _ =>
    let far := decide (opc w = 0x2B) && (decide (f3 w = 2) || decide (f3 w = 3))
    let eload := decide (opc w = 0x0B) && decide (f3 w = 5) && decide (cause = 2)
    if decide (4 ≤ cause) && decide (cause ≤ 7) && decide (opc w = 0x03) then t.useStall [rs1 w]
    else if (decide (4 ≤ cause) && decide (cause ≤ 7) && (decide (opc w = 0x23) || far)) || (eload && decide (f7 w = 0)) then t.useStall [rs1 w, rs2 w]
    else 0
  | _ => 0

/-- Take an exception, or stop the tile (04:R125, R126). `over` says that the exception is a 33rd YK.ELOAD. -/
def Pkg.trap (s : Pkg) (n cause : Nat) (tval : Word) (twice : Bool := false) : Pkg :=
  let t := s.tile n
  if t.core.trapActive then s.stopTile n (if twice then 4 else 1)
  else if t.core.mtvec = 0 then s.stopTile n 2
  else
    let c := t.core
    let cyc := t.trapStall cause + 1
    let s := s.setTile n
      { t with active := t.active + cyc
               core := { c with mepc := c.pc, mcause := BitVec.ofNat 64 cause, mtval := tval, trapActive := true, pc := c.mtvec } }
    (s.cycles n cyc).bump (0x3020 + (t.part - 1)) 4 1

/-- Under an open region an instruction that would raise an exception waits instead (04:R140). -/
def Pkg.raiseExc (s : Pkg) (n cause : Nat) (tval : Word) (twice : Bool := false) : Pkg :=
  if (s.tile n).core.region.isSome then s else s.trap n cause tval twice

/-- A tile-core fetch or access outside what R40 permits is refused and counted (01:R42, R44, log entry 81). -/
def Pkg.refuseLocal (s : Pkg) (n cause : Nat) (tval : Word) : Pkg :=
  if (s.tile n).core.region.isSome then s else (s.bump (0x3040 + ((s.tile n).part - 1)) 1 1).trap n cause tval

/-- A register's value is not available yet: it waits for a summary slot, or a load of it is in flight (04:R140, R145,
06:R201). -/
def Tile.lacks (t : Tile) (i : Nat) : Bool := t.waits i || decide (0 < t.useStall [i])

/-- Complete an instruction: the program counter moves on and its active cycles count (03:R96). -/
def Tile.adv (t : Tile) (len cyc : Nat) : Tile :=
  { t with core := { t.core with pc := t.core.pc + BitVec.ofNat 64 len }, active := t.active + cyc }

/-- Put a completed instruction's tile back, with its cycles counted. -/
def Pkg.retire (s : Pkg) (n : Nat) (t : Tile) (len cyc : Nat) : Pkg := (s.cycles n cyc).setTile n (t.adv len cyc)

/-- Ranges of two lists meet. -/
def meets (xs ys : List (Nat × Nat)) : Bool := xs.any (fun x => ys.any (fun y => overlap x.1 x.2 y.1 y.2))

/-- An operation must wait for an earlier incomplete one (04:R130). -/
def EngOp.after (x y : EngOp) : Bool := meets x.reads y.writes || meets x.writes y.writes || meets x.writes y.reads

/-- The operations before a ticket in issue order. -/
def opsBefore (ops : List EngOp) (k : Nat) : List EngOp := ops.takeWhile (fun o => o.ticket ≠ k)

/-- R130 lets the operation start. -/
def Tile.free (t : Tile) (o : EngOp) : Bool := (opsBefore t.ops o.ticket).all (fun y => !(o.after y))

/-- A tile-core access of the 64 B lines of `a` waits for earlier operations that name them (04:R131). -/
def Tile.lineBusy (t : Tile) (a n : Nat) : Bool :=
  let l := a / 64 * 64
  let m := (a + n + 63) / 64 * 64 - l
  t.ops.any (fun o => (o.reads ++ o.writes).any (fun r => overlap r.1 r.2 l m))

/-- The ticket count that a squash would leave: that of the open region's entry, or the present one (04:R129, R143). -/
def Tile.sureTicket (t : Tile) : Nat := match t.core.region with
  | some r => r.ticket
  | none => t.ticket

/-- End a ticket with a status and detail (04:R129, R133). A status other than DONE sets ykmoverr and ykeng[9];
PB_ACTIVE_REJECT sets ykeng[8] too. -/
def Tile.endTicket (t : Tile) (k status detail : Nat) : Tile :=
  let t := { t with done := (k, status) :: t.done.filter (fun d => d.1 ≠ k && decide (t.sureTicket ≤ d.1 + 64)), ops := t.ops.filter (fun o => o.ticket ≠ k) }
  if status = 0 then t
  else
    let low := match t.lowBad with
      | some (j, st) => if k < j then some (k, status) else some (j, st)
      | none => some (k, status)
    { t with lowBad := low
             core := { t.core with moveErr := true, pbReject := t.core.pbReject || decide (status = 6)
                                   errTicket := k, errStatus := status, errDetail := detail } }

/-- End an operation: its ticket, tiles.engine_ops, and tiles.move_errors of a move that failed (04:R157). -/
def Pkg.endOp (s : Pkg) (n k status detail : Nat) (move : Bool) : Pkg :=
  let t := s.tile n
  let s := (s.setTile n (t.endTicket k status detail)).bump (0x3020 + (t.part - 1)) 1 1
  if move && decide (status ≠ 0) then s.bump (0x3020 + (t.part - 1)) 3 1 else s

/-- Number of engine operations of the open region (04:R140). -/
def Tile.regionOps (t : Tile) : Nat := match t.core.region with
  | some r => t.ticket - r.ticket
  | none => 0

/-- Whether an operation may issue now: fewer than 32 outstanding, and under a region a speculable one that is not its
17th (04:R130, R140). -/
def Tile.mayIssue (t : Tile) (speculable : Bool) : Bool :=
  decide (t.ops.length < 32) && (t.core.region.isNone || (speculable && decide (t.regionOps < 16)))

/-- Issue an operation: it takes the next ticket, which goes to rd, and stands outstanding (04:R127, R129). -/
def Pkg.issue (s : Pkg) (n rdst : Nat) (o : EngOp) : Pkg :=
  let t := s.tile n
  let o := { o with ticket := t.ticket, spec := t.core.region.isSome }
  let t' := { t with ticket := t.ticket + 1, ops := t.ops ++ [o] }
  s.retire n (t'.setX rdst (BitVec.ofNat 64 t.ticket)) 4 (t.issueStall + 1)

/-- The bits of ykflags. -/
def Flags.word (f : Flags) : Nat := b2n f.inv + 2 * b2n f.ovf + 4 * b2n f.unf

/-- Summary slot value at CSR offset 0–5 (04:R146). -/
def Summ.csr (m : Summ) (off : Nat) : Nat :=
  match off with
  | 0 => m.maxabs | 1 => m.sum | 2 => m.cnta | 3 => m.cntb | 4 => m.arg | 5 => m.tkt | _ => 0

/-- Read a CSR; none where the address is not implemented (04:R123, R146 to R148). -/
def Tile.csrRead (t : Tile) (n a : Nat) : Option Nat :=
  let c := t.core
  if a = 0x301 then some (2 * 2 ^ 62 + 2 ^ 2 + 2 ^ 8 + 2 ^ 12 + 2 ^ 23)
  else if a = 0xF11 || a = 0xB00 || a = 0xB02 || a = 0xC00 || a = 0xC02 then some 0
  else if a = 0xF12 then some 0x64
  else if a = 0xF13 then some 1
  else if a = 0xF14 then some n
  else if a = 0x300 then some 0x1800
  else if a = 0x305 then some c.mtvec.toNat
  else if a = 0x340 then some c.mscratch.toNat
  else if a = 0x341 then some c.mepc.toNat
  else if a = 0x342 then some c.mcause.toNat
  else if a = 0x343 then some c.mtval.toNat
  else if a = 0x7C0 then some c.flags.word
  else if a = 0x7C1 then some c.sibase.toNat
  else if a = 0x7C2 then some t.seq
  else if a = 0x7C3 then some t.frame
  else if a = 0x7C4 then some (n + (t.part - 1) * 2 ^ 16 + t.index * 2 ^ 32)
  else if a = 0x7C5 then some t.image
  else if a = 0x7C6 then
    some (t.ops.length + b2n c.region.isSome * 64 + b2n c.trapActive * 128 + b2n c.pbReject * 256 + b2n c.moveErr * 512
      + t.ticket % 65536 * 65536)
  else if a = 0x7C7 then some (c.errTicket + c.errStatus * 65536 + c.errDetail * 2 ^ 32)
  else if a = 0x7C8 then some t.elist.length
  else if 0xBC0 ≤ a && decide (a ≤ 0xBDF) then some ((Tab.get {} c.slots ((a - 0xBC0) / 8)).csr ((a - 0xBC0) % 8))
  else none

/-- Write a CSR; fields marked RO keep their values (04:R123, R146 to R148). -/
def Core.csrWrite (c : Core) (a : Nat) (v : Word) : Core :=
  if a = 0x305 then { c with mtvec := BitVec.ofNat 64 (v.toNat / 4 * 4) }
  else if a = 0x340 then { c with mscratch := v }
  else if a = 0x341 then { c with mepc := BitVec.ofNat 64 (v.toNat / 2 * 2) }
  else if a = 0x342 then { c with mcause := v }
  else if a = 0x343 then { c with mtval := v }
  else if a = 0x7C0 then
    { c with flags := { inv := c.flags.inv && !(bit v.toNat 0), ovf := c.flags.ovf && !(bit v.toNat 1), unf := c.flags.unf && !(bit v.toNat 2) } }
  else if a = 0x7C1 then { c with sibase := v }
  else if a = 0x7C6 then { c with pbReject := c.pbReject && !(bit v.toNat 8), moveErr := c.moveErr && !(bit v.toNat 9) }
  else c

/-- Entry of the branch predictor for an address, and its step (04:R122). -/
def Core.predict (c : Core) (pc : Word) : Bool := decide (2 ≤ Tab.get 1 c.pred (bits pc.toNat 9 1))
def Core.train (c : Core) (pc : Word) (taken : Bool) : Core :=
  { c with pred := Tab.modify 1 c.pred (bits pc.toNat 9 1) (fun k => if taken then min 3 (k + 1) else k - 1) }

/-- Significant bits of a magnitude. -/
def sigBits (m : Nat) : Nat := if m = 0 then 0 else Nat.log2 m + 1

/-- Cycles of a divide or remainder (04:R122). -/
def divCycles (w : Nat) (signed : Bool) (a b : Nat) : Nat :=
  let x := a % 2 ^ w
  let y := b % 2 ^ w
  let mx := if signed then (toSigned w x).natAbs else x
  let my := if signed then (toSigned w y).natAbs else y
  if y = 0 || (signed && decide (x = 2 ^ (w - 1)) && decide (y = 2 ^ w - 1)) then 4
  else min 66 (4 + (sigBits mx - sigBits my))

/-- Cycles of a register-register operation (04:R122). -/
def opCycles (w f7 f3 : Nat) (a b : Word) : Nat :=
  if f7 ≠ 1 then 1 else if f3 < 4 then 3 else divCycles w (f3 % 2 = 0) a.toNat b.toNat

end Sys2Proof
end

