-- ==== Sys2Proof/Machine/Dstore.lean ====
section
/-!
DEFINITION. Writes as the S-dies apply them: once, in the order of arrival and of R265, with near-memory addition and
invalidation of cached lines (03:R94, 05:R183, 08:R252, 09:R262 to R265).
-/

namespace Sys2Proof

/-- A hart. -/
def Pkg.hart (s : Pkg) (h : Nat) : Hart := Tab.get {} s.harts h

/-- Change a hart. -/
def Pkg.setHart (s : Pkg) (h : Nat) (x : Hart) : Pkg := { s with harts := Tab.set {} s.harts h x }

/-- Lines of 64 bytes that a range touches, by address ÷ 64. -/
def linesOf (a n : Nat) : List Nat := if n = 0 then [] else (List.range ((a + n - 1) / 64 - a / 64 + 1)).map (· + a / 64)

/-- Bank group, bank and row of a window line (09:R260). -/
def bankGroup (l : Nat) : Nat := (l % 32) ^^^ (l / 32 % 32) ^^^ (l / 1024 % 32)
def bankOf (l : Nat) : Nat := l / 32 % 7
def rowOf (l : Nat) : Nat := l / 32 / 7

/-- The line at a group, bank and row: the inverse of R260. -/
def lineAt (g b r : Nat) : Nat :=
  let u := r * 7 + b
  u * 32 + (g ^^^ (u % 32) ^^^ (u / 32 % 32))

/-- The bank cannot be read: it failed and no spare holds its rows (09:R263). -/
def SDie.dead (x : SDie) (b : Nat) : Bool := Tab.get 0 x.banks b = 1 || Tab.get 0 x.banks b = 3

/-- Another bank of the group cannot be read: a line of this one has no second copy left (09:R259, R263). -/
def SDie.otherDead (x : SDie) (b : Nat) : Bool := (List.range 8).any (fun k => decide (b / 8 * 8 + k ≠ b) && x.dead (b / 8 * 8 + k))

/-- The line of a row of a bank, group × 8 + bank; where the bank holds data, the line of the data space; the place of a line (09:R259). -/
def rawLine (b r : Nat) : Nat := b * 93696 + r
def dataOf (raw : Nat) : Nat := lineAt (raw / 93696 / 8) (raw / 93696 % 8) (raw % 93696)
def rawOf (l : Nat) : Nat := rawLine (bankGroup l * 8 + bankOf l) (rowOf l)

/-- A line gives no data: two lines of its row are unreadable (09:R263). -/
def SDie.lineLost (x : SDie) (l : Nat) : Bool :=
  let b := bankGroup l * 8 + bankOf l
  x.lost.contains (rawOf l) || (x.dead b && x.otherDead b)

/-- A range of the die store holds a line that gives no data (09:R263). -/
def Pkg.unreadable (s : Pkg) (a n : Nat) : Bool := (linesOf a n).any (fun l => (s.sdie (l / 33554432)).lineLost (l % 33554432))

/-- The bytes of the die store as an access reads them; those of a line that gives no data are free values (09:R263, log entry 69). -/
def Pkg.dsBytes (s : Pkg) (a n : Nat) : List Byte :=
  let d := s.dstore.readN a n
  if s.unreadable a n then
    ((List.range n).zip d).map (fun e => if s.unreadable (a + e.1) 1 then Config.lostByte (a + e.1) else e.2)
  else d

/-- The data line at a group, bank and row of an S-die, and the parity line of the row: the XOR of its seven data lines (09:R259, log
entry 84). -/
def Pkg.dataLine (s : Pkg) (die g b r : Nat) : List Byte := s.dstore.readN (die * 0x80000000 + lineAt g b r * 64) 64
def Pkg.parityLine (s : Pkg) (die g r : Nat) : List Byte :=
  (List.range 7).foldl (fun x b => (x.zip (s.dataLine die g b r)).map (fun e => e.1 ^^^ e.2)) (List.replicate 64 0)

/-- A data line rebuilt from the parity line and the other six data lines of its row (09:R263). -/
def Pkg.rebuiltLine (s : Pkg) (die g b r : Nat) : List Byte :=
  ((List.range 7).filter (· ≠ b)).foldl (fun x k => (x.zip (s.dataLine die g k r)).map (fun e => e.1 ^^^ e.2)) (s.parityLine die g r)

/-- A write that reached a line ends every reservation on it but the writer's (08:R256). `own` is a hart + 1. -/
def Pkg.dropResv (s : Pkg) (ls : List Nat) (own : Nat) : Pkg :=
  { s with harts := s.harts.map (fun (h : Nat × Hart) => match h.2.resv with
      | some r => if ls.contains r.1 && decide (h.1 + 1 ≠ own) then (h.1, { h.2 with resv := none }) else h
      | none => h) }

/-- A write from anything but the home slice to a line whose cached bit is set makes the S-die send an invalidation
(08:R252). -/
def Pkg.invalidate (s : Pkg) (ls : List Nat) : Pkg :=
  { s with invals := s.invals ++ ls.filter (fun l => decide (Tab.get 0 s.cached l ≠ 0) && !(s.invals.contains l)) }

/-- Store bytes that reached their S-die from a source other than a home slice. -/
def Pkg.dstorePut (s : Pkg) (a : Nat) (d : List Byte) : Pkg :=
  let ls := linesOf a d.length
  let s := { s with dstore := s.dstore.writeN a d }
  (s.invalidate ls).dropResv ls 0

/-- Add FP32 addends to the words at an address; what the adders raise counts against the partition (05:R183, R184). -/
def Pkg.dstoreAcc (s : Pkg) (p a : Nat) (d : List Byte) : Pkg :=
  let n := d.length / 4
  let rs := (List.range n).map (fun i =>
    deliverSum {} fpFP32 .rne [decodeFmt fpFP32 (s.dstore.rd (a + 4 * i) 4), decodeFmt fpFP32 (fld d (4 * i) 4)] false)
  let cnt (f : NumRes → Bool) := (rs.filter f).length
  let s := s.dstorePut a (rs.flatMap (fun r => natLe 4 r.raw))
  (((s.bump (0x3840 + p) 7 n).bump (0x3840 + p) 8 (cnt (·.fl.inv))).bump (0x3840 + p) 9 (cnt (·.fl.ovf))).bump (0x3840 + p) 0x0A
    (cnt (·.fl.unf))

/-- Number by which an S-die applies the writes of one source once (03:R94, 08:R245). -/
def DWrite.mark (w : DWrite) : Nat := w.seq * 2 ^ 32 + w.idx + 1

/-- Count a write's bytes for its partition (09:R299). -/
def Pkg.countWrite (s : Pkg) (p home a n : Nat) : Pkg :=
  let s := s.bump (0x4010 + p) 2 n
  if dieOf a = home then s else s.bump (0x4010 + p) 3 n

/-- Count the bytes that the host or the fabric reads (09:R299). -/
def Pkg.countRead (s : Pkg) (p n : Nat) : Pkg := (s.bump (0x4010 + p) 1 n).bump (0x4010 + p) 3 n

/-- The S-die applies a tile's write unless it has applied it before (03:R94). -/
def Pkg.applyTile (s : Pkg) (w : DWrite) : Pkg :=
  let t := s.tile w.unit
  let d := dieOf w.addr
  if w.mark ≤ Tab.get 0 t.applied d then s
  else
    let s := s.setTile w.unit { t with applied := Tab.set 0 t.applied d w.mark }
    let s := s.countWrite w.part (w.unit / 128) w.addr w.data.length
    if w.acc then s.dstoreAcc w.part w.addr w.data else s.dstorePut w.addr w.data

/-- Overlay bytes on a cached line (08:R250, R252). -/
def CLine.put (c : CLine) (line a : Nat) (d : List Byte) : CLine :=
  { c with data := (List.range 64).map (fun i =>
      let b := line * 64 + i
      if decide (a ≤ b) && decide (b < a + d.length) then d.getD (b - a) 0 else c.data.getD i 0) }

/-- A hart's write-through from its home slice: the die store, and the line the slice holds (08:R250, R252). -/
def Pkg.writeThrough (s : Pkg) (h a : Nat) (d : List Byte) : Pkg :=
  let ls := linesOf a d.length
  let s := { s with dstore := s.dstore.writeN a d }
  let hits := (ls.filter (fun l => (Tab.find s.scache l).isSome)).length
  let s := { s with scache := s.scache.map (fun (e : Nat × CLine) => if ls.contains e.1 then (e.1, { e.2.put e.1 a d with age := 0 }) else e) }
  let s := (s.bump 0x38C0 1 hits).bump 0x38C0 2 (ls.length - hits)
  s.dropResv ls (h + 1)

/-- The S-die applies a hart's committed store once (08:R245). -/
def Pkg.applyHart (s : Pkg) (w : DWrite) : Pkg :=
  let x := s.hart w.unit
  let d := dieOf w.addr
  if w.mark ≤ Tab.get 0 x.applied d then s
  else
    ((s.setHart w.unit { x with applied := Tab.set 0 x.applied d w.mark }).countWrite w.part 48 w.addr w.data.length).writeThrough
      w.unit w.addr w.data

/-- A 64-bit word of the die store. -/
def Pkg.dword (s : Pkg) (a : Nat) : Nat := s.dstore.rd a 8

/-- Add 1 to a 64-bit word of the die store, modulo 2^64. -/
def Pkg.dwordInc (s : Pkg) (a : Nat) : Pkg := s.dstorePut a (natLe 8 ((s.dword a + 1) % 2 ^ 64))

/-- The bytes that a write leaves at its address: those that its mask enables, and what stood there (11:R339). -/
def Pkg.maskBytes (s : Pkg) (a : Nat) (mask : Option Nat) (d : List Byte) : List Byte :=
  match mask with
  | none => d
  | some m =>
    let old := s.dstore.readN a d.length
    (List.range d.length).map (fun i => if bit m i then d.getD i 0 else old.getD i 0)

/-- Apply one arrived write. -/
def Pkg.applyWrite (s : Pkg) (w : DWrite) : Pkg :=
  match w.src with
  | 0 => s.applyTile w
  | 1 => s.applyHart w
  | _ => if w.inc then s.dwordInc w.addr else s.dstorePut w.addr (s.maskBytes w.addr w.mask w.data)

/-- A write of a lower place in the tie order of R265 goes first: tiles and harts ascend by number. -/
def DWrite.before (a b : DWrite) : Bool :=
  decide (a.src < b.src) || (decide (a.src = b.src) && (decide (2 ≤ a.src) || decide (a.unit ≤ b.unit)))

/-- Writes that reach an S-die in one cycle, in the order of R265; writes of one source keep their order. -/
def tieSort (ws : List DWrite) : List DWrite := sortBy DWrite.before ws

/-- A write at an S-die must wait there: an addend, and what stands behind one of its tile, until the tile's ply commits (05:R185); a
write of any other source behind an earlier one of that source at any S-die (07:R215, 08:R245, 09:R293, 11:R354). -/
def Pkg.mustWait (s : Pkg) (die : Nat) (w : DWrite) : Bool :=
  let mine (v : DWrite) : Bool := decide (v.src = w.src) && decide (v.unit = w.unit)
  if w.src = 0 then (s.sdie die).arriving.any (fun v => mine v && v.acc && decide (v.mark ≤ w.mark))
  else s.sdies.any (fun e => e.2.arriving.any (fun v => mine v && decide (v.mark < w.mark)))

/-- A write leaves the arriving writes of its S-die and is applied; one that must wait stays, but for those of the tile that commits,
`tile` - 1. -/
def Pkg.applyOne (s : Pkg) (die tile : Nat) (w : DWrite) : Pkg :=
  if s.mustWait die w && !(decide (w.src = 0) && decide (w.unit + 1 = tile)) then s
  else
    let x := s.sdie die
    (s.setSdie die { x with arriving := x.arriving.erase w }).applyWrite w

/-- The first n arrived writes reach the S-die in one cycle and are applied, but for those that must wait (09:R265). Writes of different
sources reach an S-die in the order in which they were sent to it (DESIGN CHOICE, log entry 58: 01:R27 gives none). -/
def Pkg.applyArrived (s : Pkg) (die n : Nat) : Pkg :=
  (tieSort ((s.sdie die).arriving.take n)).foldl (fun s w => s.applyOne die 0 w) s

/-- Put a write on its way to its S-die. -/
def Pkg.sendWrite (s : Pkg) (w : DWrite) : Pkg :=
  let d := dieOf w.addr
  let x := s.sdie d
  s.setSdie d { x with arriving := x.arriving ++ [w] }

/-- Put a write of an engine or of the fabric on its way, numbered in the order sent; a write may lie in two windows. -/
def Pkg.sendNext (s : Pkg) (w : DWrite) : Pkg :=
  let s := { s with stamp := s.stamp + 1 }
  let d := dieOf w.addr
  let k := min w.data.length ((d + 1) * 0x80000000 - w.addr)
  if w.inc || decide (k = w.data.length) then s.sendWrite { w with seq := s.stamp }
  else (s.sendWrite { w with seq := s.stamp, data := w.data.take k, reply := none }).sendWrite
    { w with seq := s.stamp, idx := 1, addr := w.addr + k, data := w.data.drop k }

/-- Writes of a source still on their way are lost or applied with it. -/
def Pkg.takeWrites (s : Pkg) (p : DWrite → Bool) : List DWrite × Pkg :=
  (s.sdies.flatMap (fun e => e.2.arriving.filter p),
   s.sdies.foldl (fun s e => s.setSdie e.1 { e.2 with arriving := e.2.arriving.filter (fun w => !p w) }) s)

/-- A release write is applied once no invalidation of its ply is outstanding; until then it waits (08:R252). -/
def Pkg.release (s : Pkg) (w : DWrite) (lines : List Nat) : Pkg :=
  let ls := lines.filter s.invals.contains
  if ls.isEmpty && !(s.relWait.any (fun r => decide (r.1.unit = w.unit))) then s.applyWrite w
  else { s with relWait := s.relWait ++ [(w, ls)] }

/-- Apply waiting release writes, oldest first, that wait for nothing and stand behind none of their own tile. -/
def Pkg.releaseReady (s : Pkg) : Pkg :=
  let r := s.relWait.foldl
    (fun (acc : List DWrite × List (DWrite × List Nat)) e =>
      if e.2.isEmpty && !(acc.2.any (fun k => decide (k.1.unit = e.1.unit))) then (acc.1 ++ [e.1], acc.2) else (acc.1, acc.2 ++ [e]))
    ([], [])
  r.1.foldl Pkg.applyWrite { s with relWait := r.2 }

/-- An invalidation is acknowledged: the home slice and the level-1 caches drop the line, reservations on it end, and what waited for it
may go on (08:R252, R256, 12:R382). -/
def Pkg.invalidated (s : Pkg) (line : Nat) : Pkg :=
  if s.invals.contains line then
    let s := { s with invals := s.invals.filter (· ≠ line), scache := Tab.erase s.scache line
                      cached := Tab.erase s.cached line
                      relWait := s.relWait.map (fun (r : DWrite × List Nat) => (r.1, r.2.filter (· ≠ line)))
                      colls := s.colls.map (fun (c : Coll) => { c with chunks := c.chunks.map (fun (k : Nat × CChunk) => (k.1, { k.2 with lines := k.2.lines.filter (· ≠ line) })) }) }
    ((s.bump 0x38C0 4 1).dropResv [line] 0).releaseReady
  else s

end Sys2Proof
end

