-- ==== Sys2Proof/Machine/Fec.lean ====
section
/-!
DEFINITION. The RS(544,514) code of the Lenpel lanes over GF(2^10), with the 802.3 generator polynomial, which corrects up to 15 symbols
of a codeword (10:R302). A codeword is its symbols, first symbol first, 514 of data and 30 of parity; a shorter list stands for one
whose leading symbols are 0. The field polynomial x^10 + x^3 + 1 and the roots 2^0 to 2^29 are those of IEEE 802.3 (PRESUMED, log entry
71). After the code, the payload streams of the lanes, over which the bytes of frames and envelopes are striped (10:R304, 11:R328).
-/

namespace Sys2Proof

/-- Product in GF(2^10); `n` bits of `b` are still to be taken. -/
def gf10Go : Nat → Nat → Nat → Nat
  | 0, _, _ => 0
  | n + 1, a, b =>
    let d := a * 2
    (if b % 2 = 1 then a else 0) ^^^ gf10Go n (if 1024 ≤ d then d ^^^ 0x409 else d) (b / 2)
def gf10Mul (a b : Nat) : Nat := gf10Go 10 a b

/-- Powers of the field's generator 2, and inverses: a^1022. -/
def gf10Pow : Nat → Nat
  | 0 => 1
  | n + 1 => gf10Mul (gf10Pow n) 2
def gf10Inv (a : Nat) : Nat :=
  (List.range 9).foldl (fun (p : Nat × Nat) _ => let q := gf10Mul p.1 p.1
    (q, gf10Mul p.2 q)) (a, 1) |>.2

/-- Value of a polynomial, its highest coefficient first. -/
def gf10Eval (p : List Nat) (x : Nat) : Nat := p.foldl (fun v c => gf10Mul v x ^^^ c) 0

/-- The thirty syndromes of a received codeword. -/
def rsSyndromes (w : List Nat) : List Nat := (List.range 30).map (fun j => gf10Eval w (gf10Pow j))

/-- The generator polynomial, its highest coefficient first. -/
def rsGenerator : List Nat :=
  (List.range 30).foldl (fun g j => ((g ++ [0]).zip (0 :: g.map (gf10Mul (gf10Pow j)))).map (fun (e : Nat × Nat) => e.1 ^^^ e.2)) [1]

/-- The parity symbols of data symbols: the remainder of the data, thirty places up, by the generator polynomial. -/
def rsParity (data : List Nat) : List Nat :=
  data.foldl
    (fun r d =>
      let f := d ^^^ r.headD 0
      (((r.drop 1) ++ [0]).zip (rsGenerator.drop 1)).map (fun (e : Nat × Nat) => e.1 ^^^ gf10Mul f e.2)) (List.replicate 30 0)

/-- State of the search for the error locator, its lowest coefficient first. -/
structure RsSearch where
  c : List Nat := [1]
  b : List Nat := [1]
  len : Nat := 0
  m : Nat := 1
  last : Nat := 1

/-- One step of the search, for syndrome n. -/
def RsSearch.step (x : RsSearch) (syn : List Nat) (n : Nat) : RsSearch :=
  let d := (List.range (x.len + 1)).foldl (fun v i => v ^^^ gf10Mul (x.c.getD i 0) (syn.getD (n - i) 0)) 0
  if d = 0 then { x with m := x.m + 1 }
  else
    let k := gf10Mul d (gf10Inv x.last)
    let t := List.replicate x.m 0 ++ x.b.map (gf10Mul k)
    let c := (List.range (max x.c.length t.length)).map (fun i => x.c.getD i 0 ^^^ t.getD i 0)
    if 2 * x.len ≤ n then { c := c, b := x.c, len := n + 1 - x.len, m := 1, last := d } else { x with c := c, m := x.m + 1 }

/-- Decode a codeword: the word and how many of its symbols were corrected; none where more than 15 are wrong (10:R302). -/
def rsDecode (w : List Nat) : Option (List Nat × Nat) :=
  let syn := rsSyndromes w
  if syn.all (· = 0) then some (w, 0)
  else
    let x := (List.range 30).foldl (fun (x : RsSearch) n => x.step syn n) {}
    let n := w.length
    let at_ (p : List Nat) (v : Nat) : Nat := gf10Eval p.reverse v
    let omega := (List.range 30).map (fun k => (List.range (k + 1)).foldl (fun v i => v ^^^ gf10Mul (x.c.getD i 0) (syn.getD (k - i) 0)) 0)
    let slope := (List.range (x.c.length - 1)).map (fun i => if i % 2 = 0 then x.c.getD (i + 1) 0 else 0)
    let fixed := ((List.range n).zip w).map (fun (e : Nat × Nat) =>
      let inv := gf10Inv (gf10Pow (n - 1 - e.1))
      if at_ x.c inv = 0 then e.2 ^^^ gf10Mul (gf10Pow (n - 1 - e.1)) (gf10Mul (at_ omega inv) (gf10Inv (at_ slope inv))) else e.2)
    let wrong := ((fixed.zip w).filter (fun (e : Nat × Nat) => decide (e.1 ≠ e.2))).length
    if x.len ≤ 15 && decide (wrong = x.len) && (rsSyndromes fixed).all (· = 0) then some (fixed, wrong) else none

/-- The payload symbols of codewords, first codeword first; a shorter word has leading symbols 0, a lost one keeps its symbols as received
(10:R302). -/
def rsPayload (words : List (List Nat)) : List Nat :=
  words.flatMap fun w =>
    let w := ((rsDecode w).map (·.1)).getD w
    let d := w.take (w.length - 30)
    List.replicate (514 - d.length) 0 ++ d

/-- A lane's payload stream as bytes, from payload bit `skip` on: the payloads of consecutive codewords one after the other, the least
significant bit of a symbol and of a byte first (10:R302, log entry 71). -/
def laneBytes (words : List (List Nat)) (skip : Nat) : List Byte :=
  natLe ((5140 * words.length - skip) / 8) ((rsPayload words).foldr (fun y v => y % 1024 + 1024 * v) 0 / 2 ^ skip)

/-- The codewords of lane i among those of all lanes, the lanes' first codewords first. -/
def laneWords (lanes i : Nat) (words : List (List Nat)) : List (List Nat) :=
  (List.range (words.length / lanes)).map (fun k => words.getD (k * lanes + i) [])

/-- Some codeword cannot be corrected (10:R302). -/
def wordsLost (words : List (List Nat)) : Bool := words.any (fun w => (rsDecode w).isNone)

/-- The first n bytes that came: as the codewords of the lanes carry them, striped byte by byte over the lanes in ascending order
(10:R304, 11:R328), or as given where no codewords are. -/
def LRecv.stream (r : LRecv) (lanes n : Nat) : List Byte :=
  if r.words.isEmpty then r.bytes.take n
  else
    let ls := (List.range lanes).map (fun i => laneBytes (laneWords lanes i r.words) r.skip)
    (List.range n).map (fun j => (ls.getD ((r.first + j) % lanes) []).getD ((r.first + j) / lanes) 0)

/-- The two codewords that carry 1,285 bytes of a lane (10:R302). -/
def rsWords (lane : List Byte) : List (List Nat) :=
  let v := leNat lane
  let y := (List.range 1028).map (fun i => bits v (10 * i + 9) (10 * i))
  [y.take 514, y.drop 514].map (fun d => d ++ rsParity d)

/-- Bytes that go out after those that wait for their codewords: what is left waiting, and the codewords sent, two of each lane at a time,
since two payloads are whole bytes, the first of every lane before the second of any; the bytes are striped over the lanes in ascending
order (10:R302, R304, 11:R328). -/
def laneOut (lanes : Nat) (waiting b : List Byte) : List Byte × List (List Nat) :=
  let all := waiting ++ b
  let n := 1285 * lanes
  let c := all.length / n
  (all.drop (n * c), (List.range c).flatMap fun j =>
    let ws := (List.range lanes).map fun i => rsWords ((List.range 1285).map (fun k => all.getD (n * j + k * lanes + i) 0))
    ws.map (·.getD 0 []) ++ ws.map (·.getD 1 []))

end Sys2Proof
end

