-- ==== Sys2Proof/Machine/NetOps.lean ====
section
/-!
DEFINITION. Shared operations of the Atnik fabric: packet headers, link envelopes, credits and the choice of the next
packet, routes, pair contexts, sending a request and a response (11).
-/

namespace Sys2Proof

/-- The 32-byte packet header (11:R338). -/
structure Hdr where
  op : Nat := 0
  tc : Nat := 0
  fence : Nat := 0
  space : Nat := 0
  dst : Nat := 0
  src : Nat := 0
  job : Nat := 0
  addr : Nat := 0
  seq : Nat := 0
  agent : Nat := 0
  epoch : Nat := 0
  len : Nat := 0
  status : Nat := 0
  spec : Nat := 0
deriving DecidableEq, Repr, Inhabited

/-- A header as bytes. -/
def Hdr.enc (h : Hdr) : List Byte :=
  natLe 32 (h.op + h.tc * 2 ^ 4 + h.fence * 2 ^ 6 + h.space * 2 ^ 7 + h.dst % 2 ^ 17 * 2 ^ 8 + h.src % 2 ^ 17 * 2 ^ 25
    + h.job * 2 ^ 42 + h.addr * 2 ^ 66 + h.seq % 2 ^ 16 * 2 ^ 112 + h.agent * 2 ^ 128 + h.epoch * 2 ^ 144
    + h.len * 2 ^ 176 + h.status * 2 ^ 184 + h.spec * 2 ^ 192)

/-- The header of a packet. -/
def Hdr.dec (p : List Byte) : Hdr :=
  let v := leNat (p.take 32)
  { op := bits v 3 0, tc := bits v 5 4, fence := bits v 6 6, space := bits v 7 7, dst := bits v 24 8, src := bits v 41 25
    job := bits v 65 42, addr := bits v 111 66, seq := bits v 127 112, agent := bits v 141 128, epoch := bits v 175 144
    len := bits v 183 176, status := bits v 191 184, spec := bits v 255 192 }

/-- Operations (11:R339). -/
def opRD : Nat := 1
def opWR : Nat := 2
def opRDB : Nat := 3
def opWRB : Nat := 4
def opATOMIC : Nat := 5
def opRSP : Nat := 6
def opACK : Nat := 7
def opREL : Nat := 8
def opCOLL : Nat := 9
def opCTRL : Nat := 10

/-- A packet whose op, class and length agree (11:R339). -/
def Hdr.ok (h : Hdr) : Bool :=
  match h.op with
  | 1 => h.tc = 0 && h.len = 0
  | 2 => h.tc = 0 && h.len = 4
  | 3 => h.tc = 1 && h.len = 0
  | 4 => h.tc = 1 && (h.len = 4 || h.len = 8 || h.len = 12 || h.len = 16)
  | 5 => h.tc = 0 && (h.len = 1 || h.len = 2)
  | 6 => h.tc ≤ 1 && h.len ≤ 16
  | 7 => h.tc ≤ 2 && h.len = 0
  | 8 => h.tc = 0 && h.len = 0
  | 9 => h.tc = 2 && h.len ≤ 16
  | 10 => h.tc = 3 && h.len ≤ 8
  | _ => false

/-- Virtual channel of a packet (11:R333). -/
def Hdr.vc (h : Hdr) : Nat := 2 * h.tc + (if h.op = opRSP || h.op = opACK then 1 else 0)

/-- Credits a packet takes, in 64 B units (11:R331). -/
def creditsOf (p : List Byte) : Nat := ceilDiv p.length 64

/-- Link header with its CRC (11:R331). -/
def linkHdr (ltype seq ack cvc credits : Nat) (body : List Byte) : List Byte :=
  let lo := natLe 12 (seq % 4096 + ack % 4096 * 2 ^ 12 + ltype * 2 ^ 24 + cvc * 2 ^ 32 + credits * 2 ^ 36)
  lo ++ natLe 4 (crc32c (lo ++ body))

/-- The channel with credits to return, and how many. -/
def APort.give (x : APort) : Nat × Nat :=
  match x.owed with
  | (v, c) :: _ => (v, min c 4095)
  | [] => (0, 0)

/-- Forget returned credits. -/
def APort.gave (x : APort) : APort :=
  let (v, c) := x.give
  { x with owed := Tab.set 0 x.owed v (Tab.get 0 x.owed v - c) }

/-- The nonce of DATA envelope `count` under a key: its salt, then the count (11:R371). A key is held with its salt first. -/
def nonceOf (key : List Byte) (count : Nat) : List Byte := key.take 4 ++ natLe 8 count

/-- Put an envelope on the lanes of a port, eight or the good half (10:R302, 11:R328, R330). -/
def Pkg.sendEnvelope (s : Pkg) (n vc : Nat) (link body : List Byte) : Pkg :=
  let x := s.port n
  let (line, words) := laneOut (max 1 x.width) x.line (link ++ body)
  let s := (s.setPort n { x with line := line }).emit (.envelope n vc link body)
  if words.isEmpty then s else s.emit (.codewords n words)

/-- Send an IDLE or NAK envelope: acknowledgement and credits (11:R332). -/
def Pkg.sendBare (s : Pkg) (n ltype : Nat) : Pkg :=
  let x := s.port n
  let (v, c) := x.give
  let h := linkHdr ltype 0 (x.rxNext + 4095) v c []
  (s.setPort n { x.gave with nonIdle := if ltype = 0 then 0 else x.nonIdle + 1 }).sendEnvelope n 0 h []

/-- Put a packet on the lanes as a DATA envelope; `fresh` gives it a new sequence number and a place among the
unacknowledged ones (11:R331, R332, R371). -/
def Pkg.sendData (s : Pkg) (n vc seq : Nat) (packet : List Byte) : Pkg :=
  let x := s.port n
  let (v, c) := x.give
  let x := x.gave
  let s := match x.key with
    | none =>
      (s.setPort n { x with nonIdle := x.nonIdle + 1 }).sendEnvelope n vc (linkHdr 1 seq (x.rxNext + 4095) v c packet) packet
    | some k =>
      let nonce := nonceOf k x.keyCount
      let lo := natLe 12 (seq % 4096 + (x.rxNext + 4095) % 4096 * 2 ^ 12 + 2 ^ 24 + v * 2 ^ 32 + c * 2 ^ 36)
      let body := Config.gcmCrypt (k.drop 4) nonce packet ++ Config.gcmTag (k.drop 4) nonce lo packet
      (s.setPort n { x with nonIdle := x.nonIdle + 1, keyCount := x.keyCount + 1 }).sendEnvelope n vc (linkHdr 1 seq (x.rxNext + 4095) v c body) body
  if 2048 ≤ (s.port n).nonIdle then s.sendBare n 0 else s

/-- The first packet queued on a channel, where the port holds credits for it (11:R333). -/
def APort.head (x : APort) (vc : Nat) : Option QPkt :=
  match x.queue.find? (fun q => q.vc = vc) with
  | some q => if creditsOf q.packet ≤ Tab.get 0 x.credits vc then some q else none
  | none => none

/-- First of class t that can go: a response, else a request (11:R334). -/
def APort.ofClass (x : APort) (t : Nat) : Option QPkt :=
  match x.head (2 * t + 1) with
  | some q => some q
  | none => x.head (2 * t)

/-- Deficit round robin among TC0 to TC2: the first class whose deficit covers its packet; otherwise every waiting class
gains its weight in units of 64 B, for at most `fuel` rounds (11:R334). -/
def APort.drr (x : APort) (weights : Nat) : Nat → APort × Option QPkt
  | 0 => (x, none)
  | fuel + 1 =>
    let ready := [0, 1, 2].filter (fun t => (x.ofClass t).isSome)
    let size t := ((x.ofClass t).map (fun q => creditsOf q.packet)).getD 0
    match ready.find? (fun t => decide (size t ≤ Tab.get 0 x.deficit t)) with
    | some t => ({ x with deficit := Tab.modify 0 x.deficit t (· - size t) }, x.ofClass t)
    | none =>
      if ready.isEmpty then (x, none)
      else
        let x := { x with deficit := ready.foldl (fun d t => Tab.modify 0 d t (· + max 1 (bits weights (8 * t + 7) (8 * t)))) x.deficit }
        APort.drr x weights fuel

/-- The packet the port sends next (11:R334). -/
def APort.next (x : APort) (weights : Nat) : APort × Option QPkt :=
  match x.ofClass 3 with
  | some q => (x, some q)
  | none => x.drr weights 16

/-- A packet with its end-to-end sequence number. -/
def withSeq (packet : List Byte) (seq : Nat) : List Byte := packet.take 14 ++ natLe 2 seq ++ packet.drop 16

/-- A pair context. -/
def Pkg.ctx (s : Pkg) (node : Nat) : Ctx := Tab.get {} s.net.ctxs node

/-- Change a pair context; its use is noted (11:R350). -/
def Pkg.setCtx (s : Pkg) (node : Nat) (c : Ctx) : Pkg :=
  { s with net := { s.net with ctxs := Tab.set {} s.net.ctxs node { c with used := s.tempo.local_, live := true } } }

/-- An outstanding request. -/
def Pkg.req (s : Pkg) (id : Nat) : Option Req := s.net.reqs.find? (fun (r : Req) => decide (r.id = id))

/-- Change an outstanding request. -/
def Pkg.setReq (s : Pkg) (r : Req) : Pkg :=
  { s with net := { s.net with reqs := mapIf (fun (q : Req) => decide (q.id = r.id)) (fun _ => r) s.net.reqs } }

/-- The next sequence number of an operation to a node: WR and ATOMIC in TC0's space, WR_BULK in TC1's, COLL in TC2's; a read
keeps the number it has (11:R351, R352, 12:R395, log entry 18). -/
def Ctx.take (c : Ctx) (op old : Nat) : Nat × Ctx :=
  if op = opWR || op = opATOMIC then (c.tx0, { c with tx0 := (c.tx0 + 1) % 65536 })
  else if op = opWRB then (c.tx1, { c with tx1 := (c.tx1 + 1) % 65536 })
  else if op = opCOLL then (c.tx2, { c with tx2 := (c.tx2 + 1) % 65536 })
  else (old, c)

/-- A packet with the node ID that its port has taken at TRAIN as its source (11:R374). -/
def withSrc (packet : List Byte) (node : Nat) : List Byte :=
  let v := leNat (packet.take 8)
  natLe 8 (v + node % 2 ^ 17 * 2 ^ 25 - bits v 41 25 * 2 ^ 25) ++ packet.drop 8

/-- Timestamps go in as a packet departs: a SYNC_REQ leaves its t1 at the package, a SYNC_RSP carries t3 (03:R77, 11:R366). -/
def Pkg.stampSync (s : Pkg) (packet : List Byte) : Pkg × List Byte :=
  let h := Hdr.dec packet
  if h.op ≠ opCTRL then (s, packet)
  else if h.spec % 256 = 1 then ({ s with tempo := { s.tempo with sent := some (fld packet 32 2, s.tempo.fine) } }, packet)
  else if h.spec % 256 = 2 then (s, packet.take 56 ++ natLe 8 (s.tempo.fine % 2 ^ 64) ++ packet.drop 64)
  else (s, packet)

/-- The packet of a grant: at its first grant a request takes its sequence number, so that a packet cancelled before it leaves no gap, and
counts for its message; a packet of a collective counts each time (11:R351, R361, 12:R401). None where its request is no longer outstanding.
-/
def Pkg.grantReq (s : Pkg) (n : Nat) (q : QPkt) : Option (Pkg × List Byte) :=
  if q.req = 0 then some (s.stampSync q.packet)
  else match s.req (q.req - 1) with
    | none => none
    | some r =>
      let r := { r with port := n, sentAt := s.tempo.local_, retryAt := 0 }
      let s := match r.src with
        | .coll p _ => s.bump (0x5810 + p) 7 q.packet.length
        | _ => s
      if r.sent then some (s.setReq r, q.packet)
      else
        let (seq, c) := (s.ctx r.node).take r.op r.seq
        let packet := withSeq q.packet seq
        let s := { s with net := { s.net with granted := Tab.modify 0 s.net.granted r.msg (· + 1) } }
        some ((s.setCtx r.node c).setReq { r with seq := seq, packet := packet, sent := true }, packet)

/-- Bytes of an envelope that carries a packet: link header, packet, and the tag of a protected link (11:R331). -/
def APort.envBytes (x : APort) (packet : List Byte) : Nat := 16 + packet.length + (if x.key.isSome then 16 else 0)

/-- Room among the unacknowledged envelopes: fewer than 2,047, of 512 KiB with the packet's own (11:R332). -/
def APort.room (x : APort) (packet : List Byte) : Bool :=
  decide (x.unacked.length < 2047) && decide (x.unacked.foldl (fun n e => n + x.envBytes e.packet) (x.envBytes packet) ≤ 524288)

/-- Send queued packets while the port is ACTIVE, holds credits and has room among its unacknowledged envelopes
(11:R332 to R334). -/
def Pkg.pumpN (s : Pkg) (n : Nat) : Nat → Pkg
  | 0 => s
  | fuel + 1 =>
    let x := s.port n
    if x.st != .active then s
    else
      match x.next (s.ent 0x5000 7) with
      | (_, none) => s
      | (y, some q) =>
        let x := { y with queue := y.queue.erase q }
        if !(y.room q.packet) then s
        else match (s.setPort n x).grantReq n q with
        | none => Pkg.pumpN (s.setPort n x) n fuel
        | some (s, packet) =>
          let packet := withSrc packet x.node
          let x :=
            { x with txSeq := (x.txSeq + 1) % 4096
                     credits := Tab.modify 0 x.credits q.vc (· - creditsOf packet)
                     unacked := x.unacked ++ [{ seq := x.txSeq, vc := q.vc, packet := packet }] }
          Pkg.pumpN ((s.setPort n x).sendData n q.vc ((x.txSeq + 4095) % 4096) packet) n fuel

/-- Nothing else can go: IDLE returns the credits still owed, one channel's in each, for at most `fuel` envelopes (11:R333, R334, log
entry 64). -/
def Pkg.idleOut (s : Pkg) (n : Nat) : Nat → Pkg
  | 0 => s
  | fuel + 1 =>
    let x := s.port n
    if x.st != .active || x.owed.isEmpty then s else Pkg.idleOut (s.sendBare n 0) n fuel

/-- Send what the port can, then the credits it owes (11:R334). -/
def Pkg.pump (s : Pkg) (n : Nat) : Pkg := (s.pumpN n ((s.port n).queue.length + 1)).idleOut n 8

/-- Queue a packet on a port and send what can go. -/
def Pkg.post (s : Pkg) (n vc : Nat) (packet : List Byte) (msg : Nat := 0) (req : Nat := 0) : Pkg :=
  let x := s.port n
  (s.setPort n { x with queue := x.queue ++ [{ vc := vc, packet := packet, msg := msg, req := req }] }).pump n

/-- The package's own node ID where no port decides it: a written one takes effect at each port's next entry to TRAIN, so it is that of
the lowest port that has left DOWN, and the entry's where none has; a packet carries its port's (11:R374, log entry 65). -/
def Pkg.node (s : Pkg) : Nat := match (List.range aportMax).find? (fun n => (s.port n).st != .down) with
  | some n => (s.port n).node
  | none => s.ent 0x5000 1

/-- The tray ports of distance k (11:R329). -/
def trayPorts (k : Nat) : List Nat := [3 * (k - 1), 3 * (k - 1) + 12]

/-- Distance of a port that is a tray port; 0 for a system port (11:R329). -/
def trayDistance (n : Nat) : Nat := if n % 12 % 3 = 0 && n % 12 < 9 then n % 12 / 3 + 1 else 0

/-- The tray slot whose peer is a node, where there is one (11:R346). -/
def Pkg.slotOfNode (s : Pkg) (node : Nat) : Option Nat :=
  ([0, 1, 2, 3].filter (· ≠ s.net.slot)).find? (fun k => Tab.get 0 s.net.peers k = node + 1)

/-- The ports a destination may use by place: tray ports of its distance, or the mask of the lowest valid route entry that
holds it (11:R341). -/
def Pkg.routePorts (s : Pkg) (node : Nat) : List Nat :=
  match s.slotOfNode node with
  | some k => trayPorts ((k + 4 - s.net.slot) % 4)
  | none =>
    let entries := (s.dict.filter (fun e => decide (0x5100 * 256 ≤ e.1) && decide (e.1 < 0x5200 * 256))).map (·.2)
    match entries.find? (fun e => bit e 63 && decide (bits e 16 0 ≤ node) && decide (node ≤ bits e 33 17)) with
    | some e => (List.range aportMax).filter (fun n => bit e (34 + n))
    | none => []

/-- No notice excludes the node at the port (11:R344). -/
def APort.clear (x : APort) (node : Nat) : Bool := x.notices.all (fun r => decide (node < r.1) || decide (r.2 < node))

/-- A version-1 link carries only RD and WR with space 1 (11:R370). -/
def v1ok (op space : Nat) : Bool := (op = opRD || op = opWR) && space = 1

/-- Usable ports for a destination (11:R341). -/
def Pkg.usable (s : Pkg) (node op space : Nat) : List Nat :=
  (s.routePorts node).filter (fun n =>
    let x := s.port n
    x.st == .active && x.clear node && (decide (2 ≤ x.version) || v1ok op space))

/-- Choice among usable ports: by the pair's hash for TC0 and TC3, by the fewest bytes queued for TC1 and TC2 (11:R342,
R343). -/
def Pkg.choosePort (s : Pkg) (node op space tc : Nat) : Option Nat :=
  let us := s.usable node op space
  if tc = 0 || tc = 3 then
    let a := min s.node node
    let b := max s.node node
    us[((a * 0x9E3779B1 + b) % 2 ^ 32) % us.length]?
  else
    let load n := (s.port n).queue.foldl (fun k q => k + q.packet.length) 0
    us.foldl (fun best n => match best with
      | none => some n
      | some m => if load n < load m then some n else some m) none

/-- Queued copies of this job's traffic: a packet's job (11:R361). -/
def jobOf (packet : List Byte) : Nat := (Hdr.dec packet).job

/-- Why a request cannot leave now (11:R341, R346, R370). -/
inductive NoSend where
  | go (port : Nat)
  /-- Completes at once with this code. -/
  | code (c : Nat)
  /-- Waits for its slot's tray ports to return, or for the window to end. -/
  | wait
deriving DecidableEq, Repr, Inhabited

/-- Where a request to a node goes (11:R341, R346, R362, R370). -/
def Pkg.sendCheck (s : Pkg) (node op space tc : Nat) : NoSend :=
  match s.choosePort node op space tc with
  | some n => .go n
  | none =>
    let rp := s.routePorts node
    let st n := (s.port n).st
    let back := rp.any (fun n => st n == .retrain || st n == .absent || (st n == .identify && (s.port n).kept))
    if rp.any (fun n => st n == .active && (s.port n).clear node) then .code 8
    else if (s.slotOfNode node).isSome then if rp.any (fun n => st n == .active) then .code 1 else if back then .wait else .code 2
    else if back then .wait else .code 1

/-- The node has a pair context, or fewer than 8,192 are held (11:R350). -/
def Pkg.ctxFree (s : Pkg) (node : Nat) : Bool := (Tab.find s.net.ctxs node).isSome || decide (s.net.ctxs.length < 8192)

/-- A request to a node may leave: a context is there for it, and in TC0 no earlier request to the node waits and fewer than 1,024
are outstanding (11:R350, R351). Requests numbered from `id` on are later ones; 0 stands for a new request. -/
def Pkg.reqRoom (s : Pkg) (node tc id : Nat) : Bool :=
  let mine := s.net.reqs.filter (fun (r : Req) => decide (r.node = node) && decide (r.tc = 0))
  s.ctxFree node && (decide (tc ≠ 0)
    || (mine.all (fun r => !r.waiting || (decide (id ≠ 0) && decide (id - 1 ≤ r.id)))
        && decide ((mine.filter (fun r => !r.waiting)).length < 1024)))

/-- A number for a new message (11:R361). -/
def Pkg.newMsg (s : Pkg) : Nat × Pkg := (s.net.nextMsg, { s with net := { s.net with nextMsg := s.net.nextMsg + 1 } })

/-- Send a packet of a request, of a message or, given none, a message of its own; it takes its sequence number when a port grants it
(11:R346, R351, R352, R361). The answer is a code where it completes at once, unsent. -/
def Pkg.sendReq (s : Pkg) (part : Nat) (src : ReqSrc) (h : Hdr) (payload : List Byte) (msg : Nat := 0) : Pkg × Nat :=
  let id := s.net.nextReq
  let (msg, s) := if msg = 0 then s.newMsg else (msg, s)
  let h := { h with src := s.node, job := s.ent (0x2000 + part) 5, epoch := Tab.get 0 s.net.epochs h.dst - 1, len := payload.length / 16, seq := id % 65536 }
  match s.sendCheck h.dst h.op h.space h.tc with
  | .code c =>
    let s := s.bump (0x5010 + part) 5 1
    (if c = 1 then s.raise 0x040A part [h.dst] else s, c)
  | v =>
    let packet := h.enc ++ payload
    let r : Req := { id := id, src := src, part := part, node := h.dst, op := h.op, tc := h.tc, seq := id % 65536, packet := packet, msg := msg, sentAt := s.tempo.local_ }
    let put (s : Pkg) (w : Bool) : Pkg :=
      let s := if s.ctxFree h.dst then s.setCtx h.dst (s.ctx h.dst) else s
      let s := { s with net := { s.net with reqs := s.net.reqs ++ [{ r with waiting := w }], nextReq := id + 1 } }
      (s.bump (0x5010 + part) 3 1).bump (0x5010 + part) 4 payload.length
    match v with
    | .go n =>
      if s.reqRoom h.dst h.tc 0 then ((put s false).post n (2 * h.tc) packet msg (id + 1), 0) else (put s true, 0)
    | _ => (put s true, 0)

/-- Answer a request: a response or acknowledgement to its source, on its class's response channel, over a port chosen
for it (11:R339, R342). -/
def Pkg.answer (s : Pkg) (h : Hdr) (op status spec : Nat) (payload : List Byte) : Pkg :=
  let r : Hdr :=
    { op := op, tc := h.tc, space := h.space, dst := h.src, src := s.node, job := h.job, addr := h.addr, seq := h.seq
      agent := h.agent, epoch := Tab.get 0 s.net.epochs h.src - 1, len := payload.length / 16, status := status, spec := spec }
  match s.choosePort h.src h.op h.space h.tc with
  | some n => s.post n (2 * h.tc + 1) (Hdr.enc r ++ payload)
  | none => s

/-- A CTRL packet for a node (11:R366). -/
def Pkg.ctrlPacket (s : Pkg) (dst subtype : Nat) (payload : List Byte) : List Byte :=
  ({ op := opCTRL, tc := 3, dst := dst, src := s.node, len := payload.length / 16, spec := subtype : Hdr }).enc ++ payload

/-- Send a CTRL packet on one port to a node; to the port's partner where none is named. A version-1 link carries none (11:R366, R370). -/
def Pkg.sendCtrl (s : Pkg) (n subtype : Nat) (payload : List Byte) (node : Option Nat := none) : Pkg :=
  let dst := match node, (s.port n).partner with
    | some d, _ => d
    | none, some p => p.node
    | none, none => 0x1FFFF
  if (s.port n).version < 2 then s else s.post n 6 (s.ctrlPacket dst subtype payload)

/-- Remove from the port queues every packet not granted that `p` picks (11:R361): how many were removed. -/
def Pkg.cancelQueued (s : Pkg) (p : QPkt → Bool) : Nat × Pkg :=
  (s.net.ports.foldl (fun n e => n + (e.2.queue.filter p).length) 0,
   s.net.ports.foldl (fun s e => s.setPort e.1 { e.2 with queue := e.2.queue.filter (fun q => !p q) }) s)

/-- Forget outstanding requests that `p` picks. -/
def Pkg.dropReqs (s : Pkg) (p : Req → Bool) : Pkg := { s with net := { s.net with reqs := s.net.reqs.filter (fun r => !p r) } }

/-- Partition of this package with a job ID (11:R347). -/
def Pkg.partOfJob (s : Pkg) (job : Nat) : Option Nat :=
  if job = 0 then none
  else (List.range partMax).find? (fun p => (s.part p).st != .empty && decide (s.ent (0x2000 + p) 5 = job))

end Sys2Proof
end

