-- ==== Sys2Proof/Machine/CollOps.lean ====
section
/-!
DEFINITION. Shared operations of collectives: the descriptor, the tree, the record, sending packets, aborting (12).
-/

namespace Sys2Proof

/-- Descriptor of YK.COLL (12:R376). -/
structure CollDesc where
  mode : Nat := 0
  sf : Nat := 0
  rf : Nat := 0
  clog : Nat := 16
  seq : Nat := 0
  n : Nat := 0
  src : Nat := 0
  dst : Nat := 0
  record : Nat := 0
  members : Nat := 0
  mcount : Nat := 0
  lcount : Nat := 0
  rsvOk : Bool := true
deriving DecidableEq, Repr, Inhabited

/-- Read a descriptor. -/
def collDesc (d : List Byte) : CollDesc :=
  { mode := byteAt d 0, sf := byteAt d 1 % 16, rf := byteAt d 1 / 16, clog := byteAt d 2, seq := fld d 4 4, n := fld d 8 4
    src := fld d 16 8, dst := fld d 24 8, record := fld d 32 8, members := fld d 40 8, mcount := fld d 48 4, lcount := fld d 52 2
    rsvOk := zeroAt d 3 1 && zeroAt d 12 4 && zeroAt d 54 10 }

/-- Allowed pairs (12:R384). -/
def CollDesc.pairOk (d : CollDesc) : Bool :=
  match d.mode, d.sf, d.rf with
  | 0, 0, 0 | 0, 1, 1 | 0, 2, 2 | 0, 2, 1 | 0, 3, 3 | 0, 3, 1 => true
  | 1, 0, 0 | 1, 1, 1 | 1, 3, 3 | 1, 3, 1 => true
  | _, _, _ => false

/-- Bytes of a source element, a result element, and of a working element (12:R384, R389). -/
def CollDesc.sw (d : CollDesc) : Nat := fmtWidth d.sf / 8
def CollDesc.rw (d : CollDesc) : Nat := fmtWidth d.rf / 8
def CollDesc.ww (d : CollDesc) : Nat :=
  if d.mode = 0 then (if d.sf = 0 then 8 else 4) else if d.sf = 0 then 16 else 8

/-- Elements of a chunk, chunks, and elements of chunk c (12:R382). -/
def CollDesc.ce (d : CollDesc) : Nat := 2 ^ d.clog / d.sw
def CollDesc.chunks (d : CollDesc) : Nat := ceilDiv (d.n * d.sw) (2 ^ d.clog)
def CollDesc.elems (d : CollDesc) (c : Nat) : Nat := min d.n ((c + 1) * d.ce) - c * d.ce

/-- The collective hash (12:R378). -/
def CollDesc.hash (d : CollDesc) (members : List Nat) : Nat :=
  changeHash (((d.mode + (d.sf + d.rf * 16) * 2 ^ 8 + d.clog * 2 ^ 16 + d.mcount * 2 ^ 32) :: d.n :: members))

/-- Cut a list into groups of 16 (12:R385); `fuel` bounds the groups. -/
def groups16 : Nat → List Nat → List (List Nat)
  | 0, _ => []
  | _, [] => []
  | fuel + 1, l => l.take 16 :: groups16 fuel (l.drop 16)

/-- Tray groups of a sorted member list: equal node ID div 4 (12:R385). -/
def trayGroups : List Nat → List (List Nat)
  | [] => []
  | x :: t => match trayGroups t with
    | (y :: g) :: gs => if x / 4 = y / 4 then (x :: y :: g) :: gs else [x] :: (y :: g) :: gs
    | gs => [x] :: gs

/-- The groups of every level, level 1 first (12:R385). -/
def treeLevels : Nat → List Nat → List (List (List Nat))
  | 0, _ => []
  | fuel + 1, leaders =>
    if leaders.length ≤ 1 then []
    else let gs := groups16 leaders.length leaders
      gs :: treeLevels fuel (gs.filterMap (·.head?))

/-- All levels of a member list. -/
def treeOf (members : List Nat) : List (List (List Nat)) :=
  let t := trayGroups members
  t :: treeLevels 8 (t.filterMap (·.head?))

/-- Children of a node, level by level, and its parent (12:R385). -/
def childrenOf (members : List Nat) (node : Nat) : List (List Nat) :=
  (treeOf members).map (fun gs => (gs.find? (fun g => g.head? = some node)).map (·.drop 1) |>.getD [])
def parentOf (members : List Nat) (node : Nat) : Option Nat :=
  ((treeOf members).filterMap (fun gs => (gs.find? (fun g => g.contains node && decide (g.head? ≠ some node))).bind (·.head?))).head?

/-- Its descriptor, the children in order, whether the package is the root. -/
def Coll.d (c : Coll) : CollDesc := collDesc c.desc
def Coll.kids (c : Coll) (node : Nat) : List Nat := (childrenOf c.members node).flatten
def Coll.parent (c : Coll) (node : Nat) : Option Nat := parentOf c.members node

/-- A collective known here. -/
def Pkg.coll (s : Pkg) (p seq : Nat) : Option Coll := s.colls.find? (fun c => decide (c.part = p) && decide (c.seq = seq))

/-- Forget a collective. -/
def Pkg.dropColl (s : Pkg) (p seq : Nat) : Pkg :=
  { s with colls := s.colls.filter (fun x => !(decide (x.part = p) && decide (x.seq = seq))) }

/-- Change a collective. -/
def Pkg.setColl (s : Pkg) (c : Coll) : Pkg :=
  { s with colls := mapIf (fun (x : Coll) => x.part = c.part && x.seq = c.seq) (fun _ => c) s.colls }

/-- Chunk state. -/
def Coll.chunk (c : Coll) (k : Nat) : CChunk := Tab.get {} c.chunks k
def Coll.setChunk (c : Coll) (k : Nat) (x : CChunk) : Coll := { c with chunks := Tab.set {} c.chunks k x }

/-- Progress is made (12:R397). -/
def Coll.note (c : Coll) (now : Nat) : Coll := { c with progress := now, paused := 0 }

/-- Number under which the packets of a collective can be cancelled. -/
def collMsg (p seq : Nat) : Nat := 2 ^ 40 + p * 2 ^ 32 + seq

/-- Send one COLL packet to a node: kind, stream index in 256 B units, payload (12:R395). A code other than OK is answered to the
caller. -/
def Pkg.collSend (s : Pkg) (p seq node kind idx : Nat) (payload : List Byte) : Pkg × Nat :=
  let h : Hdr := { op := opCOLL, tc := 2, dst := node, spec := seq + kind * 2 ^ 32 + idx % 2 ^ 28 * 2 ^ 36 }
  s.sendReq p (.coll p seq) h payload (collMsg p seq)

/-- Send a stream of bytes in packets of 256, from 256-byte unit `idx` of its kind. -/
def Pkg.collStream (s : Pkg) (p seq node kind idx : Nat) (bs : List Byte) : Pkg × Nat :=
  let n := ceilDiv bs.length 256
  (List.range n).foldl
    (fun acc i => if acc.2 ≠ 0 then acc else
      let part := slice bs (256 * i) 256
      acc.1.collSend p seq node kind (idx + i) (padTo (ceilDiv part.length 16 * 16) part)) (s, 0)

/-- Bytes [63:8] of the record (12:R381). -/
structure CRecF where
  status : Nat := 0
  remote : Bool := false
  node : Nat := 0
  late : Nat := 0
  own : Nat := 0
  counts : List Nat := [0, 0, 0, 0]
deriving DecidableEq, Repr, Inhabited

/-- Write bytes [63:8] of the record of a collective. -/
def Pkg.collRecord (s : Pkg) (c : Coll) (f : CRecF) : Pkg :=
  s.dstorePut (c.d.record + 8)
    (natLe 1 f.status ++ natLe 1 (b2n f.remote) ++ natLe 2 0 ++ natLe 4 c.seq ++ natLe 4 c.d.chunks ++ natLe 4 f.node ++ natLe 8 f.late
      ++ natLe 8 f.own ++ (List.range 4).flatMap (fun i => natLe 4 (f.counts.getD i 0)) ++ natLe 8 c.hash)

/-- Remember an aborted sequence number: its status, whether another member began it, and that member; one that is remembered stays as it
is (12:R398, R400). -/
def Pkg.collRemember (s : Pkg) (p seq status origin : Nat) (remote : Bool) : Pkg :=
  if s.collGone.any (fun g => decide (g.1 = p) && decide (g.2.1 = seq)) then s
  else
  let mine := ((p, seq, status + 256 * b2n remote + 512 * origin) :: s.collGone.filter (fun g => decide (g.1 = p) && decide (g.2.1 ≠ seq))).take 64
  { s with collGone := mine ++ s.collGone.filter (fun g => g.1 ≠ p) }

/-- Collectives of a partition outstanding (12:R393). -/
def Pkg.collCount (s : Pkg) (p : Nat) : Nat := (s.colls.filter (fun c => decide (c.part = p) && c.admitted)).length

/-- Abort a collective: ABORT to every other member unless it came from one; queued packets cancelled, granted ones not; slots freed; the
record, the abort bit, the event (12:R398). -/
def Pkg.collAbort (s : Pkg) (p seq status origin : Nat) (remote : Bool) (offend : Nat := origin) : Pkg :=
  match s.coll p seq with
  | none => s
  | some c =>
    let s := (s.cancelQueued (fun q => decide (q.msg = collMsg p seq))).2
    let s := s.dropReqs (fun r => r.src == .coll p seq && !r.sent)
    let s := s.dropColl p seq
    let payload := natLe 8 c.hash ++ natLe 1 status ++ natLe 3 0 ++ natLe 4 origin
    let s := if remote then s else (c.members.filter (· ≠ s.node)).foldl (fun s m => (s.collSend p seq m 8 0 payload).1) s
    let s := s.collRecord c { status := status, remote := remote, node := origin }
    let w := c.d.record
    let s := s.dstorePut w (natLe 8 (s.dword w ||| 2 ^ 63))
    let s := s.collRemember p seq status origin remote
    let s := (s.bump (0x5810 + p) 4 1).setEnt (0x5810 + p) 2 (s.collCount p)
    let s :=
      if remote then s
      else if status = 1 then (s.bump (0x5810 + p) 5 1).raise 0x0501 p [seq, c.flagged, c.progress]
      else if status = 2 || status = 3 || status = 5 then (s.bump (0x5810 + p) 6 1).raise 0x0502 p [seq, status, offend]
      else s
    s.raise 0x0503 p [seq, status, origin, c.flagged]

end Sys2Proof
end

