-- ==== Sys2Proof/Machine/Operands.lean ====
section
/-!
DEFINITION. Operand forms: arrays of elements, block-scaled panels, lines and strips, read as exact values and written
back rounded (02:R53 to R58, 05:R163 to R166).
-/

namespace Sys2Proof

/-- Codes of n elements of a format whose width is whole bytes. -/
def rdCodes (c : Nat) : Nat → List Byte → List Nat
  | 0, _ => []
  | n + 1, bs => leNat (bs.take (fmtWidth c / 8)) :: rdCodes c n (bs.drop (fmtWidth c / 8))

/-- The bytes of codes of a format whose width is whole bytes. -/
def wrCodes (c : Nat) (xs : List Nat) : List Byte := xs.flatMap (fun x => natLe (fmtWidth c / 8) x)

/-- Cut a list into pieces of k, `m` of them. -/
def pieces {α : Type} (k : Nat) : Nat → List α → List (List α)
  | 0, _ => []
  | m + 1, l => l.take k :: pieces k m (l.drop k)

/-- Codes of a line of 64 elements (05:R163, 02:R58). -/
def lineCodes (c : Nat) (line : List Byte) : List Nat := unpackN (fmtWidth c) 64 (leNat line)

/-- Values of line o of a block-scaled panel: two blocks, each under its E8 (02:R54, 05:R163). -/
def lineVals (c : Nat) (panel : List Byte) (o : Nat) : List FVal :=
  let L := panelL c
  let codes := lineCodes c (slice panel (o * L) L)
  let e b := byteAt panel (64 * L + 2 * o + b)
  (codes.take 32).map (decodeScaled c (e 0)) ++ (codes.drop 32).map (decodeScaled c (e 1))

/-- Values of a block-scaled panel, line by line (05:R163). -/
def panelVals (c : Nat) (panel : List Byte) : List FVal := (List.range 64).flatMap (lineVals c panel)

/-- Values of n elements, panels or plain (05:R166). -/
def readVals (c : Nat) (scaled : Bool) (n : Nat) (bs : List Byte) : List FVal :=
  if scaled then (pieces (panelP c true) (n / 4096) bs).flatMap (panelVals c)
  else (rdCodes c n bs).map (decodeFmt c)

/-- Bytes that n elements take. -/
def elemBytes (c : Nat) (scaled : Bool) (n : Nat) : Nat :=
  if scaled then n / 4096 * panelP c true else (n * fmtWidth c + 7) / 8

/-- A written array: bytes, flags, vanished count, and the values it holds. -/
structure Written where
  bytes : List Byte := []
  fl : Flags := {}
  van : Nat := 0
  vals : List FVal := []
deriving DecidableEq, Repr, Inhabited

/-- Join two pieces. -/
def Written.app (a b : Written) : Written :=
  { bytes := a.bytes ++ b.bytes, fl := a.fl.or b.fl, van := a.van + b.van, vals := a.vals ++ b.vals }

/-- Write one panel of 4,096 values: element area, then scale area (05:R163, 02:R55). -/
def writePanel (cfg : NumCfg) (c : Nat) (vs : List FVal) (modes : List Rm) : Written :=
  let blocks := ((pieces 32 128 vs).zip (pieces 32 128 modes)).map (fun p => encodeBlock cfg c p.2 p.1)
  let lines := (pieces 2 64 blocks).flatMap (fun bl => natLe (panelL c) (packN (fmtWidth c) (bl.flatMap (fun b => b.2.1))))
  { bytes := lines ++ blocks.map (fun b => BitVec.ofNat 8 b.1)
    fl := blocks.foldl (fun f b => f.or b.2.2.1) {}
    van := blocks.foldl (fun n b => n + b.2.2.2) 0
    vals := blocks.flatMap (fun b => b.2.1.map (decodeScaled c b.1)) }

/-- Write values plain or as panels, each with its rounding (02:R60, R67). -/
def writeVals (cfg : NumCfg) (c : Nat) (scaled : Bool) (vs : List FVal) (modes : List Rm) : Written :=
  if scaled then
    ((pieces 4096 (vs.length / 4096) vs).zip (pieces 4096 (vs.length / 4096) modes)).foldl
      (fun w p => w.app (writePanel cfg c p.1 p.2)) {}
  else
    let rs := (vs.zip modes).map (fun p => deliver cfg c p.2 p.1)
    { bytes := wrCodes c (rs.map (·.raw)), fl := rs.foldl (fun f r => f.or r.fl) {}
      van := rs.foldl (fun n r => n + r.van) 0, vals := rs.map (fun r => decodeFmt c r.raw) }

/-- Every element rounded to nearest. -/
def nearest (n : Nat) : List Rm := List.replicate n .rne

/-- Convert an array between formats (04:R136, 05:R166). -/
def convert (cfg : NumCfg) (sf : Nat) (ss : Bool) (df : Nat) (ds : Bool) (n : Nat) (bs : List Byte) : Written :=
  writeVals cfg df ds (readVals sf ss n bs) (nearest n)

end Sys2Proof
end

