-- ==== Sys2Proof/Machine/State.lean ====
section
/-!
DEFINITION. The state of the block: the queue of waiting commands, the site map and the package; the state after reset;
the reasons a command can stop with.
-/

namespace Sys2Proof.Machine

open Sys2Proof

/-- The site maps of the 48 C-dies, kept apart because only a castling commit and a cold start write them (01:R30). -/
structure Sites where
  /-- tiles that are served by another than their manufacture site: package tile number → serving site + 1, where a site is rank × 9 + file of the tile's own C-die; 01:R30; reset none (every tile at its manufacture site) -/
  moved : Tab Nat := []
  /-- sites that failed, by C-die × 144 + site: 1; 13:R417; reset none -/
  failed : Tab Nat := []
  /-- fused maximum of each site in MHz as last measured, by C-die × 144 + site; 15:R462, 13:R410; reset 0 DESIGN CHOICE 1 (measured at a cold start) -/
  fmax : Tab Nat := []
deriving DecidableEq, Repr, Inhabited

/-- The whole state. -/
structure State where
  /-- commands waiting, first in first out -/
  pending : List Instr := []
  /-- site maps; 01:R30 -/
  sites : Sites := {}
  /-- the package -/
  pkg : Pkg := {}
deriving DecidableEq, Repr

/-- Why a command stops with a fault. -/
inductive Fault where
  /-- The command names a unit the package does not have: a tile above 6,143, a partition above 15, a port above the
  last. Raised by every command with a unit operand. Safe: the spec numbers its units (01:R45). -/
  | noSuchUnit
deriving DecidableEq, Repr

/-- Why a command is refused. -/
inductive Refusal where
  /-- No meaning yet; only Dispatch.lean answers with it. Safe: nothing can be proved of the command. -/
  | notModelled (mnemonic : String)
deriving DecidableEq, Repr

/-- The machine right after reset: no command waiting, every tile at its manufacture site, every field of the package
at its reset value. -/
def State.reset : State := {}

end Sys2Proof.Machine
end

