-- ==== Sys2Proof/Machine/Act.lean ====
section
/-!
DEFINITION. The shapes a meaning takes: it changes the package alone, or it names a unit the package does not have. While the
package is shut down (15:R469, 18:R544) or has stopped (13:R415), nothing but its management domain, or nothing at all, acts.
-/

namespace Sys2Proof.Machine

open Sys2Proof

/-- The outcome of a meaning. -/
abbrev Res := Host.Outcome State Fault Refusal

/-- The command names an existing unit and changes the package by `f`, unless the package is off. -/
def act (unit : Bool) (s : State) (f : Pkg → Pkg) : Res :=
  if unit then (if s.pkg.fw.off = 0 then .next { s with pkg := f s.pkg } else .next s) else .fault .noSuchUnit

/-- The same for the management domain, which runs on VAUX and VHOLD after a shutdown, but neither without its die nor in reset
(13:R415, 15:R469, 18:R541). -/
def actMgmt (unit : Bool) (s : State) (f : Pkg → Pkg) : Res :=
  if unit then (if s.pkg.fw.off < 3 then .next { s with pkg := f s.pkg } else .next s) else .fault .noSuchUnit

/-- The same for the I3C port, whose lands are at high impedance without VAUX (18:R545, R546). -/
def actI3c (s : State) (f : Pkg → Pkg) : Res := if s.pkg.fw.vaux then actMgmt true s f else .next s

/-- The same for pins and the test access port, which act at all times. -/
def actAny (unit : Bool) (s : State) (f : Pkg → Pkg) : Res :=
  if unit then .next { s with pkg := f s.pkg } else .fault .noSuchUnit

/-- A command of a logical tile. -/
def onTile (t : Nat) (s : State) (f : Pkg → Pkg) : Res := act (decide (t < tileMax)) s f

/-- A command of a partition. -/
def onPart (p : Nat) (s : State) (f : Pkg → Pkg) : Res := act (decide (p < partMax)) s f

/-- A command of an Atnik port. -/
def onPort (n : Nat) (s : State) (f : Pkg → Pkg) : Res := act (decide (n < aportMax)) s f

end Sys2Proof.Machine
end

