-- ==== Sys2Proof/Machine/Flags.lean ====
section
/-!
DEFINITION. Flags, ticket status and summaries taking effect on a tile (02:R68, R69, 04:R133, R142, R145, 06:R199).
-/

namespace Sys2Proof

/-- Flags take effect; they stay set until the program clears them (02:R68). -/
def Tile.addFlags (t : Tile) (f : Flags) : Tile := { t with core := { t.core with flags := t.core.flags.or f } }

/-- Give a register its waited-for value (04:R145). -/
def settle (x : Tab Word) (pend : Tab Nat) (tk slot : Nat) (m : Summ) : Tab Word × Tab Nat :=
  pend.foldl
    (fun acc p =>
      if p.2 / 32 = tk && p.2 % 32 / 8 = slot then
        (Tab.set 0 acc.1 p.1 (BitVec.ofNat 64 (m.csr (p.2 % 8))), Tab.erase acc.2 p.1)
      else acc)
    (x, pend)

/-- A summary takes effect: the slot, and every register that waits for it, in the saved registers too (04:R145,
06:R199). -/
def Tile.putSummary (t : Tile) (slot tk : Nat) (m : Summ) : Tile :=
  let m := { m with tkt := tk }
  let c := t.core
  let (x, pend) := settle c.x c.pend tk slot m
  let region := c.region.map (fun r => let (x, p) := settle r.x r.pend tk slot m; { r with x := x, pend := p })
  { t with slotTkt := if Tab.get 0 t.slotTkt slot = tk + 1 then Tab.erase t.slotTkt slot else t.slotTkt
           core := { c with x := x, pend := pend, region := region, slots := Tab.set {} c.slots slot m } }

/-- An enabled operation that ends other than DONE writes no slot; registers that waited for it take the slot as it
stands (04:R133, R145, 06:R200). -/
def Tile.keepSummary (t : Tile) (slot tk : Nat) : Tile :=
  let c := t.core
  let m := Tab.get {} c.slots slot
  let (x, pend) := settle c.x c.pend tk slot m
  let region := c.region.map (fun r => let (x, p) := settle r.x r.pend tk slot m; { r with x := x, pend := p })
  { t with slotTkt := if Tab.get 0 t.slotTkt slot = tk + 1 then Tab.erase t.slotTkt slot else t.slotTkt
           core := { c with x := x, pend := pend, region := region } }

/-- Stream cycles of a vector operation without conflicts: its elements over the rate of its lane class, a quarter of it for
VSQRT to VTANH (06:R189, R190). -/
def streamCycles (code : Nat) (desc : List Byte) : Nat :=
  let w := max (fmtWidth (byteAt desc 0 % 16)) (fmtWidth (byteAt desc 0 / 16))
  let r := if w = 64 then 64 else if w = 32 then 128 else 256
  ceilDiv (fld desc 4 4) (if 0x0A ≤ code && decide (code ≤ 0x0E) then r / 4 else r)

/-- Counters of a vector operation that took effect (06:R208). -/
def Pkg.countVop (s : Pkg) (p : Nat) (o : EngOp) (g : Staged) : Pkg :=
  let s := (s.bump (0x3860 + p) 1 1).bump (0x3860 + p) 4 g.van
  if g.status = 0 then s.bump (0x3860 + p) 2 (streamCycles o.code o.desc) else s.bump (0x3860 + p) 3 1

/-- The largest magnitude among values that are not NaN, its FP64 code and the lowest position that has it; none where
every value is NaN (06:R199). -/
def maxAbs : List FVal → Nat → Option (FVal × Nat) → Option (FVal × Nat)
  | [], _, best => best
  | v :: vs, i, best =>
    if v.isNan then maxAbs vs (i + 1) best
    else
      match best with
      | none => maxAbs vs (i + 1) (some (v.abs, i))
      | some (m, j) => maxAbs vs (i + 1) (if fLess m v.abs then some (v.abs, i) else some (m, j))

/-- The summary of the covered values (06:R199). -/
def summaryOf (vs : List FVal) (van : Nat) : Summ :=
  let best := maxAbs vs 0 none
  let isInf (v : FVal) := match v with
    | .inf _ => true
    | _ => false
  let nan := (vs.filter FVal.isNan).length
  let inf := (vs.filter isInf).length
  let nz := (vs.filter (fun v => !v.isNan && !v.isZero)).length
  { maxabs := match best with
      | some (m, _) => (deliver {} 0 .rne m).raw
      | none => 0
    sum := (deliverSum {} 0 .rne (.fin false 0 0 :: vs) false).raw
    cnta := nan + inf * 2 ^ 32
    cntb := nz + van * 2 ^ 32
    arg := match best with
      | some (_, i) => i + 2 ^ 63
      | none => 0 }

/-- A completed operation's staged results take effect (04:R142). -/
def Pkg.mergeOp (s : Pkg) (n : Nat) (o : EngOp) : Pkg :=
  match o.staged with
  | none => s
  | some g =>
    let t := (s.tile n).wrEach g.writes
    let t := t.addFlags g.fl
    let t := match g.summ with
      | some (slot, m) => t.putSummary slot o.ticket m
      | none => if o.kind == .vop && bit o.r2 2 then t.keepSummary (o.r2 % 4) o.ticket else t
    let s := if o.kind == .vop then s.countVop (t.part - 1) o g else s
    let s := if o.kind == .mxrun && decide (g.status = 0) then (s.bump (0x3840 + (t.part - 1)) 1 1).bump (0x3840 + (t.part - 1)) 2 g.van else s
    let s := (s.setTile n t).endOp n o.ticket g.status g.detail (o.kind == .move)
    if g.status = 1 then s.addrError (t.part - 1) o.r1 o.r2 else s

/-- A speculative operation has begun: its results are staged, or it is the matrix run in progress (04:R141). -/
def Tile.begun (t : Tile) (o : EngOp) : Bool :=
  o.staged.isSome || (match t.mx.run with
    | some r => r.spec && decide (r.ticket = o.ticket)
    | none => false)

/-- Bytes of the staging area that operations other than ticket `k` have reserved (04:R141). -/
def Tile.staging (t : Tile) (k : Nat) : Nat :=
  t.ops.foldl (fun n o => if o.ticket ≠ k && t.begun o then o.writes.foldl (fun n r => n + r.2) n else n) 0

/-- An operation may take effect: it did not begin under the open region, or its write range fits the staging area
(04:R141). -/
def Tile.room (t : Tile) (o : EngOp) : Bool :=
  !(o.spec && t.core.region.isSome) || decide (t.staging o.ticket + o.writes.foldl (fun n r => n + r.2) 0 ≤ 65536)

/-- An operation completes: its results take effect, or are staged while the region that it began under is open and has
room (04:R141, R142). -/
def Pkg.finishOp (s : Pkg) (n : Nat) (o : EngOp) (g : Staged) : Pkg :=
  let t := s.tile n
  if o.spec && t.core.region.isSome then
    if t.room o then
      s.setTile n { t with ops := t.ops.map (fun (x : EngOp) => if x.ticket = o.ticket then { x with staged := some g } else x) }
    else s
  else s.mergeOp n { o with staged := some g }

end Sys2Proof
end

