-- ==== Sys2Proof/Machine/TileCore.lean ====
section
/-!
DEFINITION. The tile core: RV64IMC instructions, CSRs, traps, speculation regions (04). Each command names the tile; the
instruction is the one at its program counter, and a command whose instruction is another one does not occur (log
entry 3). An instruction that must wait leaves the tile as it is.
-/

namespace Sys2Proof

open Rv

/-- Run `f` on the fetched instruction (its 32-bit form, length, bits as fetched) of a tile that executes. -/
def Pkg.withInstr (s : Pkg) (n : Nat) (f : Nat → Nat → Nat → Pkg) : Pkg :=
  if s.runs n then
    match (s.tile n).fetch with
    | .instr w len raw => f w len raw
    | _ => s
  else s

/-- An instruction of another command: FENCE, FENCE.I, the SYSTEM ones that have their own, and the engine-issue ones the
table of R127 lists (04:R122, R127). -/
def isEngineIssue (w : Nat) : Bool :=
  let f := f3 w
  let g := f7 w
  if opc w = 0x0B then
    match f with
    | 0 => g = 0 && rs2 w = 0
    | 1 => (1 ≤ g && g ≤ 14) || g = 0x10 || g = 0x11 || g = 0x18 || g = 0x19 || g = 0x1A
    | 2 => g = 0 || (g = 1 && rs2 w = 0) || (g = 2 && rs1 w = 0 && rs2 w = 0)
    | 3 => g = 0
    | 4 => g = 0 && rs2 w = 0
    | 5 => g = 0 && rd w = 0
    | 6 => (g = 0 && rs2 w = 0) || (g = 1 && rs1 w = 0 && rs2 w = 0)
    | _ => false
  else if opc w = 0x2B then
    match f with
    | 0 => g = 0 && rd w = 0 && rs1 w = 0 && rs2 w = 0
    | 1 => g ≤ 1 && rd w = 0 && rs1 w = 0 && rs2 w = 0
    | 2 => g = 0 && rd w = 0
    | 3 => g = 0
    | _ => false
  else false

/-- The YK.MOVE encoding. -/
def isMove (w : Nat) : Bool := decide (opc w = 0x0B) && decide (f3 w = 0) && isEngineIssue w

/-- The descriptor at rs1: none where it is misaligned or not wholly in the data SRAM (04:R127). -/
def Tile.descAt (t : Tile) (a n : Nat) : Option (List Byte) :=
  if decide (a % 32 = 0) && inData a n then some (t.rd a n) else none

/-- The kind of a YK.MOVE, where its descriptor can be read. -/
def Tile.moveKind (t : Tile) (w : Nat) : Option Nat := (t.descAt (t.xr (rs1 w)).toNat 32).map (fun d => byteAt d 0)

/-- The kinds R135 lists. -/
def moveKnown (k : Nat) : Bool := k = 1 || k = 2 || k = 3 || k = 6 || k = 7 || k = 8 || k = 9

/-- Loads (01:R40, 04:R122, R131). -/
def tileLoad (s : Pkg) (n w len : Nat) : Pkg :=
  let t := s.tile n
  let a := (t.xr (rs1 w) + immI w).toNat
  let sz := accSize (f3 w)
  if t.waits (rs1 w) then s
  else if f3 w = 7 then s.raiseExc n 2 (BitVec.ofNat 64 w)
  else if a % sz ≠ 0 then s.raiseExc n 4 (BitVec.ofNat 64 a)
  else if !inLocal a sz then s.refuseLocal n 5 (BitVec.ofNat 64 a)
  else if t.lineBusy a sz then s
  else
    let st := t.useStall [rs1 w]
    let t := t.setX (rd w) (loadExt (f3 w) (leNat (t.rd a sz)))
    let t := if rd w = 0 then t else { t with core := { t.core with ready := Tab.insert t.core.ready (rd w) (t.active + st + 4) } }
    s.retire n t len (st + 1)

/-- Stores. -/
def tileStore (s : Pkg) (n w len : Nat) : Pkg :=
  let t := s.tile n
  let a := (t.xr (rs1 w) + immS w).toNat
  let sz := accSize (f3 w)
  if t.waits (rs1 w) || t.waits (rs2 w) then s
  else if 4 ≤ f3 w then s.raiseExc n 2 (BitVec.ofNat 64 w)
  else if a % sz ≠ 0 then s.raiseExc n 6 (BitVec.ofNat 64 a)
  else if !inLocal a sz then s.refuseLocal n 7 (BitVec.ofNat 64 a)
  else if t.core.region.isSome || t.lineBusy a sz then s
  else
    let st := t.useStall [rs1 w, rs2 w]
    s.retire n (t.wr a (natLe sz (t.xr (rs2 w)).toNat)) len (st + 1)

/-- A jump: the link register and the target. -/
def tileJump (s : Pkg) (n rdst len st : Nat) (target : Word) : Pkg :=
  let t := s.tile n
  let link := t.core.pc + BitVec.ofNat 64 len
  let t := t.setX rdst link
  (s.cycles n (st + 1)).setTile n { t with core := { t.core with pc := target }, active := t.active + (st + 1) }

/-- A conditional branch whose operands are at hand (04:R122); where one is not, a region opens instead (04:R140). -/
def tileBranch (s : Pkg) (n w len : Nat) : Pkg :=
  let t := s.tile n
  match branchTaken (f3 w) (t.xr (rs1 w)) (t.xr (rs2 w)) with
  | none => s.raiseExc n 2 (BitVec.ofNat 64 w)
  | some tk =>
    if t.lacks (rs1 w) || t.lacks (rs2 w) then s
    else
      let c := t.core.train t.core.pc tk
      let pc := if tk then c.pc + immB w else c.pc + BitVec.ofNat 64 len
      (s.cycles n 1).setTile n { t with core := { c with pc := pc }, active := t.active + 1 }

/-- An arithmetic result, or illegal-instruction. -/
def tileAlu (s : Pkg) (n w len raw cyc : Nat) (rs : List Nat) (v : Option Word) : Pkg :=
  let t := s.tile n
  match v with
  | none => s.raiseExc n 2 (BitVec.ofNat 64 raw)
  | some v =>
    if rs.any t.waits then s
    else s.retire n (t.setX (rd w) v) len (t.useStall rs + cyc)

/-- An engine operation that completes with DESC_INVALID at issue (04:R127). -/
def Pkg.issueBad (s : Pkg) (n rdst detail : Nat) (kind : OpKind) : Pkg :=
  let k := (s.tile n).ticket
  let o : EngOp := { kind := kind }
  let s := s.issue n rdst o
  s.finishOp n { o with ticket := k, spec := (s.tile n).core.region.isSome } { status := 5, detail := detail }

/-- Any instruction that has no command of its own: the integer base and M, and everything that is illegal (04:R121,
R122, R128). -/
def tileInstr (s : Pkg) (n : Nat) : Pkg :=
  if !(s.runs n) then s
  else
    let t := s.tile n
    let ill (raw : Nat) : Pkg := s.raiseExc n 2 (BitVec.ofNat 64 raw)
    match t.fetch with
    | .fault c =>
      let v := t.core.pc + BitVec.ofNat 64 t.faultAt
      if c = 1 then s.refuseLocal n c v else s.raiseExc n c v
    | .illegal raw => ill raw
    | .instr w len raw =>
      let a := t.xr (rs1 w)
      let b := t.xr (rs2 w)
      match opc w with
      | 0x37 => tileAlu s n w len raw 1 [] (some (immU w))
      | 0x17 => tileAlu s n w len raw 1 [] (some (t.core.pc + immU w))
      | 0x6F => tileJump s n (rd w) len 0 (t.core.pc + immJ w)
      | 0x67 =>
        if f3 w ≠ 0 then ill raw
        else if t.waits (rs1 w) || (t.core.region.isSome && t.lacks (rs1 w)) then s
        else tileJump s n (rd w) len (t.useStall [rs1 w]) ((a + immI w) &&& ~~~1#64)
      | 0x63 => if (branchTaken (f3 w) a b).isNone then ill raw else tileBranch s n w len
      | 0x03 => tileLoad s n w len
      | 0x23 => tileStore s n w len
      | 0x13 => tileAlu s n w len raw 1 [rs1 w] (aluImm64 w a)
      | 0x1B => tileAlu s n w len raw 1 [rs1 w] (aluImm32 w a)
      | 0x33 => tileAlu s n w len raw (opCycles 64 (f7 w) (f3 w) a b) [rs1 w, rs2 w] (alu64 (f7 w) (f3 w) a b)
      | 0x3B => tileAlu s n w len raw (opCycles 32 (f7 w) (f3 w) a b) [rs1 w, rs2 w] (alu32 (f7 w) (f3 w) a b)
      | 0x0F => if f3 w ≤ 1 then s else ill raw
      | 0x73 =>
        if f3 w % 4 ≠ 0 then s
        else if w = 0x73 || w = 0x100073 || w = 0x10500073 || w = 0x30200073 then s else ill raw
      | _ =>
        if !isEngineIssue w then ill raw
        else if isMove w && !(((t.moveKind w).map moveKnown).getD false) then
          if t.waits (rs1 w) || t.core.region.isSome || !(t.mayIssue false) then s else s.issueBad n (rd w) 0 .move
        else s

/-- A CSR instruction (04:R123, R145 to R148). -/
def tileCsr (s : Pkg) (n : Nat) : Pkg :=
  s.withInstr n fun w len raw =>
    if opc w = 0x73 && f3 w % 4 ≠ 0 then
      let t := s.tile n
      let a := bits w 31 20
      let src := f3 w < 4 && t.waits (rs1 w)
      match t.csrRead n a with
      | none => s.raiseExc n 2 (BitVec.ofNat 64 raw)
      | some old =>
        if csrWrites w && decide (bits a 11 10 = 3) then s.raiseExc n 2 (BitVec.ofNat 64 raw)
        else if src || (csrWrites w && t.core.region.isSome) then s
        else
          let st := if f3 w < 4 then t.useStall [rs1 w] else 0
          let new := csrNew w (BitVec.ofNat 64 old) (csrSrc w (t.xr (rs1 w)))
          let c := if csrWrites w then t.core.csrWrite a new else t.core
          let t := { t with core := c }
          let slot := (a - 0xBC0) / 8
          let tk := if 0xBC0 ≤ a && decide (a ≤ 0xBDF) then Tab.get 0 t.slotTkt slot else 0
          let t := t.setX (rd w) (BitVec.ofNat 64 old)
          let t :=
            if tk = 0 || rd w = 0 || 6 ≤ a % 8 then t
            else { t with core := { t.core with pend := Tab.insert t.core.pend (rd w) ((tk - 1) * 32 + (a - 0xBC0)) } }
          s.retire n t len (st + 1)
    else s

/-- FENCE and WFI: no-ops (04:R122). -/
def tileNop (s : Pkg) (n : Nat) (p : Nat → Bool) : Pkg :=
  s.withInstr n fun w len _ => if p w then s.retire n (s.tile n) len 1 else s

/-- An instruction that only raises an exception (04:R122). -/
def tileRaise (s : Pkg) (n : Nat) (p : Nat → Bool) (cause : Nat) (tval : Nat → Word) : Pkg :=
  s.withInstr n fun w _ raw => if p w then s.raiseExc n cause (tval raw) else s

/-- MRET: back to mepc, trap-active cleared (04:R125); it waits under a region (04:R140). -/
def tileMret (s : Pkg) (n : Nat) : Pkg :=
  s.withInstr n fun w _ _ =>
    let t := s.tile n
    if w = 0x30200073 && t.core.region.isNone then
      (s.cycles n 1).setTile n { t with core := { t.core with pc := t.core.mepc, trapActive := false }, active := t.active + 1 }
    else s

/-- A conditional branch whose operand is not available, a slot's value or a load's, is predicted and a region opens (04:R140). -/
def regionOpen (s : Pkg) (n : Nat) : Pkg :=
  s.withInstr n fun w len _ =>
    let t := s.tile n
    let c := t.core
    if decide (opc w = 0x63) && (branchTaken (f3 w) 0 0).isSome && c.region.isNone && (t.lacks (rs1 w) || t.lacks (rs2 w)) then
      let tk := c.predict c.pc
      let r : Region := { x := c.x, pend := c.pend, ready := c.ready, active := t.active + 1, pc := c.pc, instr := w, len := len, taken := tk, ticket := t.ticket, slotTkt := t.slotTkt }
      let pc := if tk then c.pc + immB w else c.pc + BitVec.ofNat 64 len
      (s.cycles n 1).setTile n { t with core := { c with region := some r, pc := pc }, active := t.active + 1 }
    else s

/-- The branch resolves: as predicted, the region closes and what was staged merges in issue order; against it, the
region is squashed, and the cycles of the wrong path leave the active counts (03:R96, 04:R142, R143, log entry 79). -/
def branchResolve (s : Pkg) (n : Nat) : Pkg :=
  let t := s.tile n
  match t.core.region with
  | none => s
  | some r =>
    let wait (i : Nat) := i ≠ 0 && (Tab.find r.pend i).isSome
    let v (i : Nat) : Word := if i = 0 then 0 else Tab.get 0 r.x i
    if t.mode != .running || wait (rs1 r.instr) || wait (rs2 r.instr) then s
    else
      let tk := (branchTaken (f3 r.instr) (v (rs1 r.instr)) (v (rs2 r.instr))).getD false
      let c := t.core.train r.pc tk
      if tk = r.taken then
        let mx := match t.mx.run with
          | some run => { t.mx with run := some { run with spec := false, out := [] } }
          | none => t.mx
        let held := match t.mx.run with
          | some run => run.out
          | none => []
        let t := { t.wrEach held with core := { c with region := none }, mx := mx, ops := t.ops.map (fun (o : EngOp) => { o with spec := false }) }
        let staged : List EngOp := t.ops.filter (fun o => o.staged.isSome)
        staged.foldl (fun s o => s.mergeOp n o) (s.setTile n t)
      else
        let pc := if tk then r.pc + immB r.instr else r.pc + BitVec.ofNat 64 r.len
        let active := t.active
        let specRun := match t.mx.run with
          | some run => run.spec
          | none => false
        let squashed := (t.ops.filter (fun o => o.spec && o.kind == .mxrun && (o.staged.map (·.status)) == some 0)).length
        let mx := if specRun then { t.mx with run := none, set0 := {}, set1 := {} } else t.mx
        let t :=
          { t with core := { c with region := none, x := r.x, pend := r.pend, ready := r.ready, pc := pc }, active := r.active
                   ops := t.ops.filter (fun o => !o.spec), ticket := r.ticket, mx := mx
                   slotTkt := r.slotTkt.filter (fun e => t.ops.any (fun o => decide (o.ticket + 1 = e.2))) }
        let s := s.uncycle n (active - r.active)
        let s := (s.setTile n t).bump (0x3020 + (t.part - 1)) 2 1
        s.bump (0x3840 + (t.part - 1)) 6 (b2n specRun + squashed)

end Sys2Proof

namespace Sys2Proof.Machine

open Sys2Proof Rv

/-- TILE_INSTRUCTION (04:R121). -/
def execTileInstruction (t : Nat) (s : State) : Res := onTile t s (fun k => tileInstr k t)

/-- TILE_CSR_ACCESS (04:R123). -/
def execTileCsrAccess (t : Nat) (s : State) : Res := onTile t s (fun k => tileCsr k t)

/-- FENCE (04:R122). -/
def execFence (t : Nat) (s : State) : Res :=
  onTile t s (fun k => tileNop k t (fun w => decide (opc w = 0x0F) && decide (f3 w = 0)))

/-- WFI (04:R122). -/
def execWfi (t : Nat) (s : State) : Res := onTile t s (fun k => tileNop k t (fun w => decide (w = 0x10500073)))

/-- FENCE.I raises illegal-instruction (04:R122). -/
def execFenceI (t : Nat) (s : State) : Res :=
  onTile t s (fun k => tileRaise k t (fun w => decide (opc w = 0x0F) && decide (f3 w = 1)) 2 (fun raw => BitVec.ofNat 64 raw))

/-- ECALL raises environment call from M-mode (04:R122). -/
def execEcall (t : Nat) (s : State) : Res := onTile t s (fun k => tileRaise k t (fun w => decide (w = 0x73)) 11 (fun _ => 0))

/-- EBREAK raises breakpoint; mtval holds its address (04:R122, log entry 10). -/
def execEbreak (t : Nat) (s : State) : Res :=
  onTile t s (fun k => tileRaise k t (fun w => decide (w = 0x100073)) 3 (fun _ => (k.tile t).core.pc))

/-- MRET (04:R125). -/
def execMret (t : Nat) (s : State) : Res := onTile t s (fun k => tileMret k t)

/-- SPECULATION_REGION_OPEN (04:R140). -/
def execSpeculationRegionOpen (t : Nat) (s : State) : Res := onTile t s (fun k => regionOpen k t)

/-- BRANCH_RESOLVE (04:R142, R143). -/
def execBranchResolve (t : Nat) (s : State) : Res := onTile t s (fun k => branchResolve k t)

end Sys2Proof.Machine
end

