-- ==== Sys2Proof/Machine/Moves.lean ====
section
/-!
DEFINITION. Engine moves of kinds 0x01, 0x02, 0x03, 0x07, 0x08 and 0x09: issue, checks, completion (04:R134 to R137).
Kind 0x06 is in Tier.lean.
-/

namespace Sys2Proof

open Rv

/-- A move descriptor (04:R134). -/
structure MoveDesc where
  kind : Nat := 0
  attr : Nat := 0
  sf : Nat := 0
  df : Nat := 0
  rsv : Nat := 0
  length : Nat := 0
  far : Nat := 0
  loc : Nat := 0
  node : Nat := 0
  done : Nat := 0
deriving DecidableEq, Repr, Inhabited

/-- Read a descriptor. -/
def moveDesc (d : List Byte) : MoveDesc :=
  { kind := byteAt d 0, attr := byteAt d 1, sf := byteAt d 2 % 16, df := byteAt d 2 / 16, rsv := byteAt d 3
    length := fld d 4 4, far := fld d 8 8, loc := fld d 16 4, node := fld d 20 4, done := fld d 24 8 }

/-- Source and destination block-scaled attributes. -/
def MoveDesc.ss (m : MoveDesc) : Bool := bit m.attr 0
def MoveDesc.ds (m : MoveDesc) : Bool := bit m.attr 1

/-- A conversion is named: equal source and destination codes mean a plain copy (04:R136). -/
def MoveDesc.conv (m : MoveDesc) : Bool := decide (m.sf ≠ m.df)

/-- Elements of the source. -/
def MoveDesc.elems (m : MoveDesc) : Nat :=
  if m.ss then m.length / panelP m.sf true * 4096 else m.length * 8 / fmtWidth m.sf

/-- Bytes written at the destination. -/
def MoveDesc.dstLen (m : MoveDesc) : Nat := if m.conv then elemBytes m.df m.ds m.elems else m.length

/-- The panel rule of R136 is broken: a block-scaled side that is not whole panels (05:R166). -/
def MoveDesc.badPanel (m : MoveDesc) : Bool :=
  (m.ss && decide (m.length % panelP m.sf true ≠ 0)) || (m.ds && decide (m.elems % 4096 ≠ 0))

/-- Any other rule of R134 to R136 is broken. -/
def MoveDesc.bad (m : MoveDesc) : Bool :=
  let toLocal := m.kind = 1 || m.kind = 8 || m.kind = 9
  decide (m.attr / 4 ≠ 0) || decide (m.rsv ≠ 0)
  || (decide (m.done ≠ 0) && decide (m.kind ≠ 6)) || decide (m.node / 2 ^ 17 ≠ 0)
  || (decide (m.node ≠ 0) && !(m.kind = 7 || m.kind = 8)) || (m.kind = 6 && decide (m.loc ≠ 0))
  || decide (m.length = 0) || decide (m.length % 64 ≠ 0) || decide (0x80000 < m.length)
  || decide (m.far % 64 ≠ 0 && m.kind ≠ 6) || decide (m.loc % 64 ≠ 0) || decide (m.done % 64 ≠ 0)
  || !(fmtOk m.sf) || !(fmtOk m.df) || (m.conv && !(m.kind = 1 || m.kind = 2 || m.kind = 9))
  || (m.kind = 3 && decide (m.sf ≠ fpFP32))
  || !(scaledOk m.sf m.ss) || !(scaledOk m.df m.ds)
  || (toLocal && !(inLocal m.loc m.dstLen))
  || ((m.kind = 2 || m.kind = 3 || m.kind = 7) && !(inLocal m.loc m.length))
  || (m.kind = 9 && !(inLocal m.far m.length))

/-- DESC_INVALID with its detail, where the descriptor is invalid (04:R136). -/
def MoveDesc.invalid (m : MoveDesc) : Option Nat :=
  if m.bad then some 0 else if m.badPanel then some 0x0A else none

/-- A kind that is held in the ply write buffer (04:R132). -/
def heldKind (k : Nat) : Bool := k = 2 || k = 3 || k = 6 || k = 7

/-- Some engine operation still writes bytes of the descriptor; the issue waits (04:R131, log entry 19). -/
def Tile.descBusy (t : Tile) (a n : Nat) : Bool := t.ops.any (fun o => meets o.writes [(a, n)])

/-- Issue of a YK.MOVE of kind `kind` (04:R127, R135 to R137). -/
def moveIssue (s : Pkg) (n kind : Nat) : Pkg :=
  s.withInstr n fun w _ _ =>
    let t := s.tile n
    let a := (t.xr (rs1 w)).toNat
    if !(isMove w && decide (t.moveKind w = some kind)) then s
    else if t.waits (rs1 w) || t.descBusy a 32 || !(t.mayIssue (kind = 1 || kind = 9)) then s
    else
      let d := t.rd a 32
      let m := moveDesc d
      let p := t.part - 1
      match m.invalid with
      | some detail => s.issueBad n (rd w) detail .move
      | none =>
        let o : EngOp := { kind := .move, code := kind, desc := d, frame := t.frame }
        let o :=
          if kind = 9 then { o with reads := [(m.far, m.length)], writes := [(m.loc, m.dstLen)] }
          else if kind = 1 || kind = 8 then { o with writes := [(m.loc, m.dstLen)] }
          else { o with reads := [(m.loc, m.length)] }
        let farLen := if kind = 2 then m.dstLen else m.length
        let k := t.ticket
        if (kind = 1 || kind = 2 || kind = 3) && !(s.ownRange p m.far farLen) then
          let o := { o with reads := [], writes := [], r1 := m.far, r2 := farLen }
          let s := s.issue n (rd w) o
          s.finishOp n { o with ticket := k, spec := (s.tile n).core.region.isSome } { status := 1 }
        else s.issue n (rd w) o

/-- Die-store writes of the ply held before a ticket overlap a range: kinds 0x02 and 0x03 and release writes (04:R137). -/
def Tile.ownPending (t : Tile) (k a n : Nat) : Bool :=
  t.buf.any (fun h => decide (h.1 < k) && (match h.2 with
    | .store b d _ => overlap a n b d.length
    | .rel b _ => overlap a n b 8
    | _ => false))

/-- Kind 0x07 moves to a node held before a ticket overlap a range (04:R137). -/
def Tile.sendPending (t : Tile) (k node a n : Nat) : Bool :=
  t.buf.any (fun h => decide (h.1 < k) && (match h.2 with
    | .send m b d => decide (m = node) && overlap a n b d.length
    | _ => false))

/-- An earlier held operation has not reached the buffer yet. -/
def Tile.heldBefore (t : Tile) (k : Nat) : Bool := t.ops.any (fun o => decide (o.ticket < k) && o.kind == .move && heldKind o.code)

/-- Units a held operation takes (06:R205). -/
def Held.units : Held → Nat
  | .store _ d _ => 1 + d.length / 64
  | .send _ _ d => 1 + d.length / 64
  | _ => 1

/-- PLY_BUFFER_FULL: the tile stops and the member holds (03:R92, R96, 06:R205). -/
def Pkg.bufFull (s : Pkg) (n : Nat) : Pkg :=
  (s.bump (0x3860 + ((s.tile n).part - 1)) 0x0A 1).killTile n 0x0107 []

/-- Put an operation into the ply write buffer; it takes `u` units (06:R205). -/
def Pkg.holdOp (s : Pkg) (n k u : Nat) (h : Held) (done : Pkg → Pkg) : Pkg :=
  let t := s.tile n
  if 2032 < t.units + u then s.bufFull n
  else
    let s := s.peak (0x3860 + (t.part - 1)) 9 (t.units + u)
    done (s.setTile n { t with buf := t.buf ++ [(k, h)], units := t.units + u })

/-- The bytes of a die-store read, counted (09:R300's counters). -/
def Pkg.dsRead (s : Pkg) (p n a len : Nat) : List Byte × Pkg :=
  let s := s.bump (0x4010 + p) 1 len
  (s.dsBytes a len, if dieOf a = n / 128 then s else s.bump (0x4010 + p) 3 len)

/-- The packets of a remote move: 256 bytes each but the last; a single RD or WR for 64 bytes (11:R340). -/
def movePackets (a len : Nat) : List (Nat × Nat) :=
  if len = 64 then [(a, 64)] else (List.range (ceilDiv len 256)).map (fun i => (a + 256 * i, min 256 (len - 256 * i)))

/-- Send the reads of a kind 0x08 move (11:R340, R346). -/
def Pkg.sendReads (s : Pkg) (n : Nat) (o : EngOp) (m : MoveDesc) : Pkg × Nat :=
  let t := s.tile n
  let p := t.part - 1
  let pk := movePackets m.far m.length
  let (msg, s) := s.newMsg
  (pk.zip (List.range pk.length)).foldl
    (fun acc q =>
      if acc.2 ≠ 0 then acc
      else
        let h : Hdr :=
          { op := if m.length = 64 then opRD else opRDB, tc := if m.length = 64 then 0 else 1, dst := m.node, addr := q.1.1
            agent := n, spec := if m.length = 64 then 0 else q.1.2 / 64 - 1 }
        acc.1.sendReq p (.move n t.seq o.ticket q.2) h [] msg)
    (s, 0)

/-- Change an outstanding operation of a tile. -/
def Pkg.modOp (s : Pkg) (n k : Nat) (f : EngOp → EngOp) : Pkg :=
  let t := s.tile n
  s.setTile n { t with ops := mapIf (fun o => o.ticket = k) f t.ops }

/-- Completion of a kind 0x08 move: it sends its reads when it may start, and completes when every packet's data has
come, or with FABRIC_ERROR and the first bad code (04:R133, R135, R137, 11:R349). -/
def Pkg.completeRemote (s : Pkg) (n : Nat) (o : EngOp) (m : MoveDesc) : Pkg :=
  let t := s.tile n
  let p := t.part - 1
  let self := m.node = s.node
  let fail (s : Pkg) (c : Nat) := (s.bump (0x5010 + p) 5 1).finishOp n o { status := 4, detail := c }
  if self then
    if t.ownPending o.ticket m.far m.length then s.finishOp n o { status := 2 }
    else if t.sendPending o.ticket m.node m.far m.length then s.finishOp n o { status := 2 }
    else if !(s.ownRange p m.far m.length) then fail (s.addrError p m.far m.length) 4
    else
      let (d, s) := s.dsRead p n m.far m.length
      s.finishOp n o { writes := (List.range d.length).zip d |>.map (fun x => (m.loc + x.1, x.2)) }
  else if !o.sent then
    if t.sendPending o.ticket m.node m.far m.length then s.finishOp n o { status := 2 }
    else
      let (s, c) := s.sendReads n o m
      if c = 0 then s.modOp n o.ticket (fun o => { o with sent := true }) else s.finishOp n o { status := 4, detail := c }
  else if o.code8 ≠ 0 then s.finishOp n o { status := 4, detail := o.code8 }
  else if o.got.length = (movePackets m.far m.length).length then
    let d := o.got.flatMap (·.2)
    s.finishOp n o { writes := (List.range d.length).zip d |>.map (fun x => (m.loc + x.1, x.2)) }
  else s

/-- Completion of a move (04:R132 to R137). -/
def completeMove (s : Pkg) (n : Nat) (o : EngOp) : Pkg :=
  let t := s.tile n
  let p := t.part - 1
  let m := moveDesc o.desc
  let cv (bs : List Byte) : Written :=
    if m.conv then convert { s.num p with ftz := false } m.sf m.ss m.df m.ds m.elems bs else { bytes := bs }
  let put (s : Pkg) (w : Written) := s.finishOp n o { writes := (List.range w.bytes.length).zip w.bytes |>.map (fun x => (m.loc + x.1, x.2)), fl := w.fl }
  let held (u : Nat) (h : Held) (fl : Flags) := s.holdOp n o.ticket u h (fun s => s.finishOp n o { fl := fl })
  if t.heldBefore o.ticket && decide (m.kind ≠ 9) then s
  else
    match m.kind with
    | 1 =>
      if t.ownPending o.ticket m.far m.length then s.finishOp n o { status := 2 }
      else
        let (d, s) := s.dsRead p n m.far m.length
        put s (cv d)
    | 9 => put s (cv (t.rd m.far m.length))
    | 2 => let w := cv (t.rd m.loc m.length)
      held (1 + m.length / 64) (.store m.far w.bytes false) w.fl
    | 3 => held (1 + m.length / 64) (.store m.far (t.rd m.loc m.length) true) {}
    | 7 => held (1 + m.length / 64) (.send m.node m.far (t.rd m.loc m.length)) {}
    | 6 => held 1 (.tier o.desc) {}
    | 8 => s.completeRemote n o m
    | _ => s

/-- An outstanding move or program-buffer copy finishes, once R130 lets it (04:R130, R133); `pb` is what completes a
YK.MXPB. -/
def engineComplete (s : Pkg) (n k : Nat) (pb : EngOp → Pkg) : Pkg :=
  let t := s.tile n
  match t.ops.find? (fun o => o.ticket = k && o.staged.isNone) with
  | none => s
  | some o =>
    if t.mode != .running || !(t.free o) || !(t.room o) then s
    else match o.kind with
      | .move => completeMove s n o
      | .mxpb => pb o
      | _ => s

end Sys2Proof

namespace Sys2Proof.Machine

open Sys2Proof

/-- MOVE_DSTORE_TO_LOCAL: kind 0x01 (04:R135). -/
def execMoveDstoreToLocal (t : Nat) (s : State) : Res := onTile t s (fun k => moveIssue k t 1)

/-- MOVE_LOCAL_TO_DSTORE: kind 0x02 (04:R135). -/
def execMoveLocalToDstore (t : Nat) (s : State) : Res := onTile t s (fun k => moveIssue k t 2)

/-- MOVE_ACCUMULATE_INTO: kind 0x03 (04:R135, 05:R183). -/
def execMoveAccumulateInto (t : Nat) (s : State) : Res := onTile t s (fun k => moveIssue k t 3)

/-- MOVE_LOCAL_TO_REMOTE: kind 0x07 (04:R135). -/
def execMoveLocalToRemote (t : Nat) (s : State) : Res := onTile t s (fun k => moveIssue k t 7)

/-- MOVE_REMOTE_TO_LOCAL: kind 0x08 (04:R135). -/
def execMoveRemoteToLocal (t : Nat) (s : State) : Res := onTile t s (fun k => moveIssue k t 8)

/-- MOVE_LOCAL_TO_LOCAL: kind 0x09 (04:R135). -/
def execMoveLocalToLocal (t : Nat) (s : State) : Res := onTile t s (fun k => moveIssue k t 9)

end Sys2Proof.Machine
end

