-- ==== Sys2Proof/Machine/NetTarget.lean ====
section
/-!
DEFINITION. Shared operations at both ends of a request: taking a received packet, the windows of sequence numbers, the
checks of a target, and the committed sends that leave a C-die commit queue (11:R346 to R354).
-/

namespace Sys2Proof

/-- The first packet of each channel, in the order received; `seen` are channels met before (11:R333). -/
def rxHeads : List Nat → List RxPkt → List RxPkt
  | _, [] => []
  | seen, r :: t => if seen.contains r.vc then rxHeads seen t else r :: rxHeads (r.vc :: seen) t

/-- Take the first packet of a channel received on a port that `p` accepts: each channel has its own buffer, so none waits for
another. Its credits are owed to the partner (11:R333). A channel of 8 and above marks a packet that was held through a capture, whose
credits are owed already (14:R448). -/
def Pkg.takeRx (s : Pkg) (n : Nat) (p : Hdr → Bool) : Option (RxPkt × Pkg) :=
  let x := s.port n
  match (rxHeads [] x.rx).find? (fun r => p (Hdr.dec r.packet)) with
  | some r =>
    some (r, s.setPort n { x with rx := x.rx.erase r, owed := if r.vc < 8 then Tab.modify 0 x.owed r.vc (· + creditsOf r.packet) else x.owed })
  | none => none

/-- Act on a packet received on a port that `p` accepts, given it and its header; its credits go back with the envelopes that leave then, or
with an IDLE (11:R333, R334). -/
def Pkg.withRx (s : Pkg) (n : Nat) (p : Hdr → Bool) (f : Pkg → List Byte → Hdr → Pkg) : Pkg :=
  match s.takeRx n p with
  | some (r, s) => (f s r.packet (Hdr.dec r.packet)).pump n
  | none => s

/-- Where a sequence number stands against a window of 1,024: 0 new, 1 applied before, 2 beyond (11:R352). -/
def winCheck (low : Nat) (set : List Nat) (seq : Nat) : Nat :=
  let d := (seq + 65536 - low) % 65536
  if d < 1024 then (if set.contains seq then 1 else 0) else if 32768 ≤ d then 1 else 2

/-- Oldest number not applied, past those of the set; `fuel` bounds the set. -/
def winSlide : Nat → Nat → List Nat → Nat × List Nat
  | 0, low, set => (low, set)
  | fuel + 1, low, set => if set.contains low then winSlide fuel ((low + 1) % 65536) (set.erase low) else (low, set)

/-- Apply a new number. -/
def winApply (low : Nat) (set : List Nat) (seq : Nat) : Nat × List Nat := winSlide (set.length + 1) low (set ++ [seq])

/-- Checks 1 and 2 of a target: the op is available at the link's version, and the epoch is 0 or the target's own
(11:R347). -/
def Pkg.linkCheck (s : Pkg) (n : Nat) (h : Hdr) : Nat :=
  if (s.port n).version < 2 && !(v1ok h.op h.space) then 8
  else if h.epoch ≠ 0 && h.epoch ≠ s.net.epoch then 5
  else 0

/-- A job mismatch is counted, with an event at most once a second (11:R373, R375). -/
def Pkg.jobMismatch (s : Pkg) (job src : Nat) : Pkg :=
  let s := s.bump 0x5000 9 1
  let now := s.tempo.local_
  if s.net.mismAt = 0 || s.net.mismAt + 1000000000 ≤ now + 1 then
    let k := s.net.mism + 1
    ({ s with net := { s.net with mism := 0, mismAt := now + 1 } }).raise 0x0407 0xFF [job, src, k]
  else { s with net := { s.net with mism := s.net.mism + 1 } }

/-- Checks 4 and 5: the job's partition and its populated windows (11:R347). Answers the code and the partition. -/
def Pkg.jobCheck (s : Pkg) (h : Hdr) (len align : Nat) : Nat × Nat :=
  match s.partOfJob h.job with
  | none => (3, 0)
  | some p => if s.ownRange p h.addr len && decide (h.addr % align = 0) then (0, p) else (4, p)

/-- Count what a failed check names. -/
def Pkg.countRefused (s : Pkg) (h : Hdr) (code : Nat) : Pkg :=
  if code = 3 then s.jobMismatch h.job h.src else if code = 4 then s.bump 0x5000 0x0A 1 else s

/-- Bytes that a write packet enables: WR names them (11:R339). -/
def Hdr.mask (h : Hdr) : Option Nat := if h.op = opWR then some h.spec else none

/-- A fabric write is on its way to its S-die; with `reply`, its acknowledgement follows when it is applied (09:R265, 11:R347, R351). -/
def Pkg.sendFabric (s : Pkg) (part unit : Nat) (h : Hdr) (d : List Byte) (reply : Option Nat) : Pkg :=
  s.sendNext { src := 4, unit := unit, part := part, addr := h.addr, data := d, mask := h.mask, reply := reply.map (fun k => (h.enc, k)) }

/-- DSTORE_WRITE_APPLY: the first n arrived writes reach the S-die in one cycle; a fabric write that is applied is acknowledged
(09:R265, 11:R351). -/
def Pkg.dieApply (s : Pkg) (die n : Nat) : Pkg :=
  ((s.sdie die).arriving.take n).foldl
    (fun s w => match w.reply with
      | some r => if (s.sdie die).arriving.contains w then s else s.answer (Hdr.dec r.1) opACK 0 r.2 []
      | none => s) (s.applyArrived die n)

/-- A write of a source is still on its way: the number that its acknowledgement will carry is not sent yet (11:R351). -/
def Pkg.writeComing (s : Pkg) (h : Hdr) : Bool :=
  s.sdies.any (fun e => e.2.arriving.any (fun w => match w.reply with
    | some r => let g := Hdr.dec r.1
      decide (g.src = h.src) && decide (g.tc = h.tc) && decide (g.seq = h.seq)
    | none => false))

/-- A committed send fails: ATNIK_DELIVERY_FAILED, and the member holds (11:R349). -/
def Pkg.deliveryFailed (s : Pkg) (part tile seq node code : Nat) : Pkg :=
  (s.raise 0x0408 part [tile, seq, node, code]).hold part 0x0408

/-- A send to the package itself: a fabric write inside it (11:R347 check 5). -/
def Pkg.sendLocal (s : Pkg) (m : Send) : Pkg :=
  let h := Hdr.dec m.packet
  let d := m.packet.drop 32
  if s.ownRange m.part h.addr d.length then (s.countWrite m.part (m.tile / 128) h.addr d.length).sendFabric m.part m.tile h d none
  else ((s.addrError m.part h.addr d.length).bump (0x5010 + m.part) 5 1).deliveryFailed m.part m.tile m.seq m.node 4

/-- Whether a committed packet must wait in its commit queue, behind `before` that wait already: the queue keeps a tile's
order; a WR waits for every earlier packet of the tile to the node, and with fence_all to any node (11:R354, R356). -/
def Pkg.sendBlocked (s : Pkg) (before : List Send) (m : Send) : Bool :=
  let h := Hdr.dec m.packet
  let mine (r : Req) : Bool := match r.src with
    | .send t _ => decide (t = m.tile)
    | _ => false
  before.any (fun b => decide (b.tile = m.tile))
    || (h.op = opWR && s.net.reqs.any (fun r => mine r && (h.fence = 1 || decide (r.node = m.node))))

/-- Send what the commit queues may send, in order (11:R354). -/
def Pkg.pumpSends (s : Pkg) : Pkg :=
  let r := s.net.sends.foldl
    (fun (acc : Pkg × List Send) m =>
      let s := acc.1
      if s.sendBlocked acc.2 m then (s, acc.2 ++ [m])
      else if m.node = s.node then (s.sendLocal m, acc.2)
      else
        let (s, c) := s.sendReq m.part (.send m.tile m.seq) (Hdr.dec m.packet) (m.packet.drop 32) m.msg
        (if c = 0 then s else s.deliveryFailed m.part m.tile m.seq m.node c, acc.2))
    ({ s with net := { s.net with sends := [] } }, [])
  { r.1 with net := { r.1.net with sends := r.2 } }

/-- A committed kind 0x07 move enters its C-die commit queue as packets (11:R340, R354, R356). -/
def Pkg.queueSend (s : Pkg) (n node addr : Nat) (d : List Byte) : Pkg :=
  let t := s.tile n
  let p := t.part - 1
  let one := d.length = 64
  let fence := if one && s.ent (0x5010 + p) 2 ≠ 0 then 1 else 0
  let (msg, s) := s.newMsg
  let pk (q : Nat × Nat) : Send :=
    let h : Hdr := { op := if one then opWR else opWRB, tc := if one then 0 else 1, fence := fence, dst := node, addr := q.1, agent := n
                     spec := if one then 2 ^ 64 - 1 else 0 }
    { tile := n, part := p, seq := t.seq, node := node, packet := h.enc ++ slice d (q.1 - addr) q.2, msg := msg }
  { s with net := { s.net with sends := s.net.sends ++ (movePackets addr d.length).map pk } }

end Sys2Proof
end

