-- ==== Sys2Proof/Machine/FaultOps.lean ====
section
/-!
DEFINITION. Castling records, fault counters, protection groups and faulted units, as shared operations (13).
-/

namespace Sys2Proof

/-- Bytes of a castling record (13:R418). -/
structure CRec where
  cls : Nat := 0
  outcome : Nat := 0
  adj : Bool := false
  unit : Nat := 0
  detected : Nat := 0
  setup : Nat := 0
  redo : Nat := 0
  parts : Nat := 0
  spares : Nat := 0
  /-- detection bound of its source, for the delay -/
  bound : Nat := 0
  /-- the fault map took the change before: at a castling commit or a lane's substitution (13:R417, R559) -/
  mapped : Bool := false
  /-- further contents of its event, but for outcome 0 -/
  more : List Nat := []
deriving DecidableEq, Repr, Inhabited

/-- Recovered: the outcome goes by the delay (13:R418). -/
def CRec.byDelay (r : CRec) : CRec := { r with outcome := if r.bound + r.setup + r.redo ≤ 50000 then 0 else 1 }

/-- Mask of listed partitions. -/
def maskOfParts (ps : Tab Part) : Nat := ps.foldl (fun m e => m ||| 2 ^ e.1) 0

/-- The event a record raises, plus 1; 0 none (13:R419). -/
def Pkg.recEvent (s : Pkg) (r : CRec) : Nat :=
  match r.outcome with
  | 0 => if s.ent 0x3000 6 = 1 then 0x0201 else 0
  | 1 => 0x0202
  | _ => 0x0203

/-- The fault map records the unit of a class: sites, lanes, engines, banks, cores, retired ways and sensors (13:R417, 17:R522, log
entry 47). -/
def inFaultMap (cls : Nat) : Bool := (decide (1 ≤ cls) && decide (cls ≤ 7)) || decide (cls = 12)

/-- Write a castling record, with its counters and its event (13:R418 to R421). The change to the fault map waits for its
commit (R417). PAP messages alone carry the record: its fields are in network byte order (00:R14, 16:R490, log entry 57). -/
def Pkg.castlingRecord (s : Pkg) (r : CRec) : Pkg :=
  let seq := s.ent 0x3000 7
  let ev := s.recEvent r
  let delay := r.bound + r.setup + r.redo
  let map := inFaultMap r.cls && (!r.mapped || s.fault.pendingMap)
  let s := { s with fault := { s.fault with pendingMap := s.fault.pendingMap || map } }
  let bytes :=
    natBe 1 r.cls ++ natBe 1 r.outcome ++ natBe 1 (b2n r.adj + (if ev = 0 then 0 else 2) + (if map then 4 else 0)) ++ natBe 1 0 ++ natBe 4 r.unit
    ++ natBe 8 r.detected ++ natBe 4 r.setup ++ natBe 4 r.redo ++ natBe 2 r.parts ++ natBe 2 r.spares ++ natBe 4 seq
  let s := { s with fault := { s.fault with records := Tab.insert s.fault.records (seq % 64) bytes } }
  let s := ((s.bump 0x3000 7 1).bump 0x3000 1 1).bump 0x3001 r.cls (b2n (decide (1 ≤ r.cls) && decide (r.cls ≤ 12)))
  let s := (s.setEnt 0x3000 4 delay).peak 0x3000 5 delay
  let s := if r.outcome = 1 then s.bump 0x3000 2 1 else if r.outcome = 2 then s.bump 0x3000 3 1 else s
  if ev = 0 then s else s.raise ev 0xFF (if r.outcome = 0 then [] else r.more) bytes

/-- SPARES_LOW (13:R419). -/
def Pkg.sparesLow (s : Pkg) (cls unit left : Nat) : Pkg := s.raise 0x0205 0xFF [cls, unit, left]

/-- A protection group holds an unrepaired fault (13:R404). A group of Atnik ports holds those of its ports, each under its number. -/
def Pkg.groupOpen (s : Pkg) (cls g : Nat) : Bool := s.fault.groups.contains (cls, g)

/-- Mark a group unrepaired, and repaired (13:R404). -/
def Pkg.openGroup (s : Pkg) (cls g : Nat) : Pkg :=
  { s with fault := { s.fault with groups := if s.groupOpen cls g then s.fault.groups else (cls, g) :: s.fault.groups } }
def Pkg.repairGroup (s : Pkg) (cls g : Nat) : Pkg :=
  { s with fault := { s.fault with groups := s.fault.groups.filter (· ≠ (cls, g)) } }

/-- Times within the last second, with now; none older is kept (13:R406). -/
def within1s (now : Nat) (ts : List Nat) : List Nat := now :: ts.filter (fun t => decide (now < t + 1000000000))

/-- Note an error of a unit by key and answer how many fell within 1 s (13:R406). -/
def Pkg.noteError (s : Pkg) (key : Nat) : Nat × Pkg :=
  let ts := within1s s.tempo.now (Tab.get [] s.fault.times key)
  (ts.length, { s with fault := { s.fault with times := Tab.set [] s.fault.times key ts } })

/-- Keys of `FaultSt.times`: uncorrectable words of a tile's site; residue mismatches of a lane of a tile's engine (0 matrix, 1
vector) (13:R406). -/
def siteKey (t : Nat) : Nat := 0x1000000 + t
def laneKey (t engine lane : Nat) : Nat := 0x10000000 + (t * 2 + engine) * 256 + lane

/-- Forget the errors of the site that served a tile (13:R406). -/
def Pkg.forgetSite (s : Pkg) (t : Nat) : Pkg :=
  { s with fault := { s.fault with
      times := s.fault.times.filter (fun e => decide (e.1 ≠ siteKey t) && !(decide (laneKey t 0 0 ≤ e.1) && decide (e.1 < laneKey (t + 1) 0 0))) } }

/-- Forget the errors of a unit once it is declared failed. -/
def Pkg.clearErrors (s : Pkg) (key : Nat) : Pkg := { s with fault := { s.fault with times := Tab.erase s.fault.times key } }

/-- Add a lane event or a site event of a tile, saturating at 0xFFFF (13:R420). -/
def Pkg.tileEvent (s : Pkg) (t : Nat) (site : Bool) : Pkg :=
  let v := s.ent (0x3100 + t / 128) (t % 128 + 1)
  let l := v % 65536
  let e := v / 65536
  s.setEnt (0x3100 + t / 128) (t % 128 + 1)
    (if site then l + min 0xFFFF (e + 1) * 65536 else min 0xFFFF (l + 1) + e * 65536)

/-- A tile is faulted: its uncommitted ply is lost, with the writes and the queue entries that belong to it, and it waits
for its replay (03:R95, 13:R409, R412). -/
def Pkg.faultTile (s : Pkg) (n : Nat) : Pkg :=
  let t := s.tile n
  let s := (s.takeWrites (fun w => decide (w.src = 0) && decide (w.unit = n))).2
  match t.mode with
  | .running | .draining | .gambitHeld =>
    let s := if t.gambit then s.bump (0x2210 + (t.part - 1)) 0x0F 1 else s
    s.setTile n { t with mode := .faulted, buf := [], units := 0, ops := [], waitw := none, mx := { badCols := t.mx.badCols }, core := { t.core with region := none } }
  | _ => s

/-- The record of a recovery whose replay regains the point of failure now (13:R418). -/
def Recovery.crec (r : Recovery) (now : Nat) : CRec :=
  CRec.byDelay
    { cls := r.cls, adj := r.adj, unit := r.unit, detected := r.declared, setup := r.ready - r.declared, redo := now - r.start, parts := r.partsMask
      spares := r.spares, bound := r.bound, mapped := true, more := [2 ^ 32 + r.ahead] }

/-- Change the open recoveries of a tile. -/
def Pkg.mapRecovery (s : Pkg) (n : Nat) (f : Recovery → Recovery) : Pkg :=
  { s with fault := { s.fault with open_ := mapIf (fun (r : Recovery) => r.tile = n) f s.fault.open_ } }

/-- The throttle reason of level 1 that has been in force since a Tempo, in the order of R471; 0 none (13:R424). -/
def Pkg.throttleSince (s : Pkg) (at_ : Nat) : Nat :=
  ([3, 2, 5, 4].find? (fun r => decide (Tab.get 0 s.pow.active r ≠ 0) || decide (at_ + 1 < Tab.get 0 s.pow.lastEnd r))).getD 0

/-- Partitions of a mask. -/
def partsIn (mask : Nat) : List Nat := (List.range partMax).filter (fun p => bit mask p)

/-- The site of a tile has failed and its castling is not committed: it is fenced (13:R409). -/
def Pkg.fenced (s : Pkg) (n : Nat) : Bool := s.fault.open_.any (fun r => decide (r.tile = n) && decide (r.cls = 2) && decide (r.step = 0))

/-- A recovery that has still to commit concerns the partition (13:R414). -/
def Pkg.recovering (s : Pkg) (p : Nat) : Bool := s.fault.open_.any (fun r => bit r.partsMask p)

/-- A guarantee of a partition yields for an episode (13:R423). -/
def Pkg.addYield (s : Pkg) (p : Nat) (y : Yield) : Pkg := let x := s.part p
  s.setPart p { x with yields := x.yields ++ [y] }

/-- Episodes of a level end: those of level 4 with the capture (13:R423). -/
def Pkg.endYields (s : Pkg) (p level : Nat) : Pkg :=
  let x := s.part p
  s.setPart p { x with yields := mapIf (fun (y : Yield) => decide (y.level = level) && y.stop.isNone) (fun y => { y with stop := some s.tempo.now }) x.yields }

/-- A late recovery under a throttle reason that was in force during it: level 3 yields to level 1 for each partition delayed (13:R421,
R423, R424). -/
def Pkg.lateRecord (s : Pkg) (r : CRec) : Pkg :=
  let why := s.throttleSince r.detected
  if r.outcome ≠ 1 || why = 0 then s.castlingRecord r
  else
    (partsIn r.parts).foldl
      (fun s p => s.addYield p { prevails := 1, level := 3, cause := why, start := r.detected, stop := some s.tempo.now })
      (s.castlingRecord { r with more := [why] })

/-- A replay that has regained its point of failure is recorded; `whole` says that its ply has committed (13:R418). A replay
in place that is no fault leaves no record (13:R406). -/
def Pkg.recoverTile (s : Pkg) (n : Nat) (whole : Bool) : Pkg :=
  let t := s.tile n
  (s.fault.open_.filter (fun r => decide (r.tile = n) && decide (r.step = 1) && !r.recorded)).foldl
    (fun s r =>
      if whole || decide (r.seq < t.seq) || (t.mode == .running && decide (t.seq = r.seq) && decide (r.active ≤ t.active)) then
        let s := s.mapRecovery n (fun x => if x = r then { x with recorded := true } else x)
        if r.cls = 0 then s
        else
          let s := { s with fault := { s.fault with recovered := Tab.insert s.fault.recovered n (s.ent 0x3000 7 + 1) } }
          s.lateRecord (r.crec s.tempo.now)
      else s) s

/-- The replayed ply has committed: the faults of the tile are repaired (13:R404). -/
def Pkg.recoverCommit (s : Pkg) (n : Nat) : Pkg :=
  let s := s.recoverTile n true
  let (done, rest) := s.fault.open_.partition (fun r => decide (r.tile = n) && decide (r.step = 1))
  done.foldl (fun s r => s.repairGroup r.cls r.grp) { s with fault := { s.fault with open_ := rest } }

end Sys2Proof
end

