-- ==== Sys2Proof/Machine/SolverMath.lean ====
section
/-!
DEFINITION. The arithmetic of the solver engines: factorisation, triangular solves, the ADMM iteration and the status
record (07:R212 to R226). A matrix or vector is the list of its elements, row by row.
-/

namespace Sys2Proof

/-- The fields of a batch header (07:R212). -/
structure SolverHdr where
  kind : Nat := 0
  fmt : Nat := 0
  n : Nat := 0
  m : Nat := 0
  r : Nat := 0
  flags : Nat := 0
  iters : Nat := 0
  base : Nat := 0
  stride : Nat := 0
  outOff : Nat := 0
  done : Nat := 0
  tau : Nat := 0
  delta : Nat := 0
  rho : Nat := 0
  sigma : Nat := 0
  alpha : Nat := 0
  epsAbs : Nat := 0
  epsRel : Nat := 0
  /-- reserved bytes are zero -/
  rsvOk : Bool := true
deriving DecidableEq, Repr, Inhabited

/-- Read a header of 128 bytes. -/
def solverHdr (b : List Byte) : SolverHdr :=
  { kind := byteAt b 0, fmt := byteAt b 1, n := byteAt b 2, m := byteAt b 3, r := byteAt b 4, flags := byteAt b 5
    iters := fld b 6 2, base := fld b 8 8, stride := fld b 16 4, outOff := fld b 20 4, done := fld b 24 8
    tau := fld b 32 8, delta := fld b 40 8, rho := fld b 48 8, sigma := fld b 56 8, alpha := fld b 64 8
    epsAbs := fld b 72 8, epsRel := fld b 80 8, rsvOk := zeroAt b 88 32 }

/-- Element size in bytes. -/
def SolverHdr.e (h : SolverHdr) : Nat := if h.fmt = 0 then 8 else 4

/-- Bytes of a section of k elements, and of k single bytes (07:R216). -/
def SolverHdr.sect (h : SolverHdr) (k : Nat) : Nat := ceilDiv (k * h.e) 64 * 64

/-- Kind classes: high nibble 0 factorise, 1 solve, 2 both, 3 QP; low nibble 1 LU, 2 Cholesky, 3 LDLT. -/
def SolverHdr.qp (h : SolverHdr) : Bool := h.kind = 0x30
def SolverHdr.hasF (h : SolverHdr) : Bool := h.kind / 16 = 1
def SolverHdr.lu (h : SolverHdr) : Bool := h.kind % 16 = 1 && !h.qp

/-- A kind of the table of R213. -/
def SolverHdr.kindOk (h : SolverHdr) : Bool := (h.kind / 16 ≤ 2 && 1 ≤ h.kind % 16 && h.kind % 16 ≤ 3) || h.qp

/-- Bytes of the input area (07:R216). -/
def SolverHdr.inBytes (h : SolverHdr) : Nat :=
  let nn := h.sect (h.n * h.n)
  if h.qp then nn + h.sect h.n + h.sect (h.m * h.n) + 2 * h.sect h.m + h.sect h.n + 2 * h.sect h.m
  else match h.kind / 16 with
    | 0 => nn
    | 1 => nn + (if h.lu then 64 else 0) + h.sect (h.n * h.r)
    | _ => nn + h.sect (h.n * h.r)

/-- The parts of the input area that the engine reads, as offsets and lengths: of Cholesky, LDLᵀ and QP only the lower triangle of a
matrix, of a permutation its n bytes, and the sections x0, z0 and y0 only with warm start (07:R216). -/
def SolverHdr.reads (h : SolverHdr) : List (Nat × Nat) :=
  let nn := h.sect (h.n * h.n)
  let rows : List (Nat × Nat) := (List.range h.n).map (fun i => (i * h.n * h.e, (if h.lu then h.n else i + 1) * h.e))
  if h.qp then
    let sn := h.sect h.n
    let sm := h.sect h.m
    let a := nn + sn
    let l := a + h.sect (h.m * h.n)
    let x0 := l + 2 * sm
    rows ++ [(nn, h.n * h.e), (a, h.m * h.n * h.e), (l, h.m * h.e), (l + sm, h.m * h.e)]
      ++ (if bit h.flags 1 then [(x0, h.n * h.e), (x0 + sn, h.m * h.e), (x0 + sn + sm, h.m * h.e)] else [])
  else
    let b := nn + (if h.hasF && h.lu then 64 else 0)
    rows ++ (if h.hasF && h.lu then [(nn, h.n)] else []) ++ (if h.kind / 16 = 0 then [] else [(b, h.n * h.r * h.e)])

/-- Bytes of the output area (07:R216). -/
def SolverHdr.outBytes (h : SolverHdr) : Nat :=
  let nn := h.sect (h.n * h.n)
  let f := nn + (if h.lu then 64 else 0)
  if h.qp then 64 + h.sect h.n + 2 * h.sect h.m
  else match h.kind / 16 with
    | 0 => 64 + f
    | 1 => 64 + h.sect (h.n * h.r)
    | _ => 64 + f + h.sect (h.n * h.r)

/-- Problem slots a problem needs (07:R227). -/
def SolverHdr.slots (h : SolverHdr) : Nat :=
  let nk := h.n + h.m
  ceilDiv (h.inBytes + h.outBytes + (if h.qp then nk * (nk + 1) * h.e else 0)) 65536

/-- Datapath cycles of a problem (07:R226). -/
def SolverHdr.cycles (h : SolverHdr) : Nat :=
  let d := if h.fmt = 0 then 8 else 16
  let fact n := ceilDiv (n * n * n) (3 * d) + 64
  let solve n := ceilDiv (n * n) d + 32
  let nk := h.n + h.m
  if h.qp then
    ceilDiv (nk * nk) d + 32 + fact nk + h.iters * (solve nk + ceilDiv nk d + 16) + ceilDiv (2 * h.m * h.n + h.n * h.n) d + 32
  else match h.kind / 16 with
    | 0 => fact h.n
    | 1 => h.r * solve h.n
    | _ => fact h.n + h.r * solve h.n

/-- A parameter is negative, or not finite. -/
def f64Neg (v : FVal) : Bool := match v with
  | .fin s m _ => s && decide (m ≠ 0)
  | _ => true
/-- A parameter is not above zero, or not finite. -/
def f64NotPos (v : FVal) : Bool := match v with
  | .fin s m _ => s || decide (m = 0)
  | _ => true

/-- The FP64 parameters with their defaults: tau_rel, delta, rho, sigma, alpha (07:R212). 2⁻⁴⁰, 10⁻⁶ and 1.6 as FP64 codes. -/
def SolverHdr.tauV (h : SolverHdr) : FVal := decodeFmt 0 (if h.tau % 2 ^ 63 = 0 then 0x3D70000000000000 else h.tau)
def SolverHdr.deltaV (h : SolverHdr) : FVal :=
  decodeFmt 0 (if bit h.flags 0 then h.delta else if h.qp then 0x3EB0C6F7A0B5ED8D else 0)
def SolverHdr.sigmaV (h : SolverHdr) : FVal := decodeFmt 0 (if h.sigma % 2 ^ 63 = 0 then 0x3EB0C6F7A0B5ED8D else h.sigma)
def SolverHdr.alphaV (h : SolverHdr) : FVal := decodeFmt 0 (if h.alpha % 2 ^ 63 = 0 then 0x3FF999999999999A else h.alpha)

/-- The result code of a header: the first of the table that holds; 0 valid (07:R214). `count` problems; the tile's own
window begins at `win`. -/
def SolverHdr.check (h : SolverHdr) (count win : Nat) : Nat :=
  let inWin (a k : Nat) := decide (win ≤ a) && decide (a + k ≤ win + 0x80000000)
  let last := h.base + (count - 1) * h.stride
  if !h.kindOk || 4 ≤ h.flags || !h.rsvOk then 1
  else if 2 ≤ h.fmt then 2
  else if h.n = 0 || 64 < h.n || (if h.qp then h.m = 0 || 128 < h.m || decide (h.r ≠ 0) || h.iters = 0 || 1024 < h.iters
      else decide (h.m ≠ 0) || decide (h.iters ≠ 0)
        || (if h.kind / 16 = 0 then decide (h.r ≠ 0) else h.r = 0 || 16 < h.r)) then 3
  else if h.base % 64 ≠ 0 || h.stride % 64 ≠ 0 || h.outOff % 64 ≠ 0 || h.stride < h.inBytes || h.stride < h.outOff + h.outBytes
      || overlap 0 h.inBytes h.outOff h.outBytes || !(inWin h.base (h.outOff + h.outBytes)) || !(inWin h.base h.inBytes)
      || !(inWin last (max h.inBytes (h.outOff + h.outBytes))) then 4
  else if f64Neg (decodeFmt 0 h.tau) || !(fLess (decodeFmt 0 h.tau) (.fin false 1 0)) || f64Neg (decodeFmt 0 h.delta)
      || (h.qp && (f64NotPos (decodeFmt 0 h.rho) || f64Neg (decodeFmt 0 h.sigma) || f64NotPos h.alphaV
        || !(fLess h.alphaV (.fin false 2 0)))) then 5
  else 0

/-- A done word the engine can write (07:R214). -/
def SolverHdr.doneOk (h : SolverHdr) (win : Nat) : Bool :=
  decide (h.done % 8 = 0) && decide (win ≤ h.done) && decide (h.done + 8 ≤ win + 0x80000000)

/-- What a problem gathers while it runs (07:R218, R220). -/
structure SolverAcc where
  fl : Flags := {}
  tiny : Nat := 0
  tinyFirst : Nat := 0xFF
  indef : Bool := false
  inertia : Bool := false
  pmin : Option FVal := none
  pmax : Option FVal := none
  /-- signs of the pivots, for the inertia flag: positive, negative -/
  signs : List (Bool × Bool) := []
deriving DecidableEq, Repr, Inhabited

/-- Gather flags. -/
def SolverAcc.add (s : SolverAcc) (f : Flags) : SolverAcc := { s with fl := s.fl.or f }

/-- Deliver a result in the batch format (07:R218). -/
def SolverAcc.put (s : SolverAcc) (c : Nat) (r : NumRes) : FVal × SolverAcc := (decodeFmt c r.raw, s.add r.fl)

/-- fma(a, b, c), sum, difference, product, rounded once. -/
def SolverAcc.fma (s : SolverAcc) (c : Nat) (a b x : FVal) : FVal × SolverAcc :=
  let p := fmulX a b
  s.put c (deliverSum {} c .rne [p.1, x] p.2)
def SolverAcc.sum (s : SolverAcc) (c : Nat) (a b : FVal) : FVal × SolverAcc := s.put c (deliverSum {} c .rne [a, b] false)
def SolverAcc.sub (s : SolverAcc) (c : Nat) (a b : FVal) : FVal × SolverAcc := s.sum c a b.neg
def SolverAcc.mul (s : SolverAcc) (c : Nat) (a b : FVal) : FVal × SolverAcc :=
  let p := fmulX a b
  let r := deliver {} c .rne p.1
  s.put c { r with fl := r.fl.or { inv := p.2 } }

/-- Division rounded once: 0/0 and ∞/∞ are invalid; a nonzero number by zero is an infinity, which the overflow flag records (07:R221,
log entry 75). -/
def SolverAcc.div (s : SolverAcc) (c : Nat) (a b : FVal) : FVal × SolverAcc :=
  let nan (i : Bool) := s.put c { raw := fmtNan c, fl := { inv := i } }
  match a, b with
  | .inf _, .inf _ => nan true
  | .inf m, .fin n _ _ => s.put c (deliver {} c .rne (.inf (m != n)))
  | .fin m _ _, .inf n => s.put c (deliver {} c .rne (.fin (m != n) 0 0))
  | .fin m x ex, .fin n y ey =>
    if y = 0 then if x = 0 then nan true else s.put c { deliver {} c .rne (.inf (m != n)) with fl := { ovf := true } }
    else if x = 0 then s.put c (deliver {} c .rne (.fin (m != n) 0 0))
    else let q := divMag x ex y ey
      s.put c (deliverFin {} c .rne (m != n) q.1 q.2.1 q.2.2)
  | a, b => nan (a.isSig || b.isSig)

/-- Square root rounded once. -/
def SolverAcc.sqrt (s : SolverAcc) (c : Nat) (a : FVal) : FVal × SolverAcc :=
  match a with
  | .nan g => s.put c { raw := fmtNan c, fl := { inv := g } }
  | .inf false => (.inf false, s)
  | .inf true => s.put c { raw := fmtNan c, fl := { inv := true } }
  | .fin neg m e =>
    if m = 0 then (a, s)
    else if neg then s.put c { raw := fmtNan c, fl := { inv := true } }
    else let q := sqrtMag m e
      s.put c (deliverFin {} c .rne false q.1 q.2.1 q.2.2)

/-- Element k of a vector. -/
def fAt (l : List FVal) (k : Nat) : FVal := l.getD k (.fin false 0 0)

/-- Fold a step over a range of indices with working data and the gathered flags. -/
def loopN (k : Nat) (f : Nat → List FVal × SolverAcc → List FVal × SolverAcc) (s : List FVal × SolverAcc) : List FVal × SolverAcc :=
  (List.range k).foldl (fun s i => f i s) s

/-- The larger magnitude; NaN wins. -/
def absMax (a b : FVal) : FVal := (fMax a b.abs).1

/-- The pivot threshold τ, and whether dmax makes it invalid (07:R219). -/
def pivotTau (c n : Nat) (tau : FVal) (a : List FVal) (s : SolverAcc) : FVal × SolverAcc :=
  let dmax := (List.range n).foldl (fun m k => absMax m (fAt a (k * n + k))) (.fin false 0 0)
  match dmax with
  | .fin _ m _ => if m = 0 then (tau, s) else s.mul c tau dmax
  | _ => (tau, s.add { inv := true })

/-- The smaller and the larger of a value and those seen before. -/
def least (m : Option FVal) (d : FVal) : FVal := match m with
  | some m => if fLess d m then d else m
  | none => d
def most (m : Option FVal) (d : FVal) : FVal := match m with
  | some m => if fLess m d then d else m
  | none => d

/-- The pivot rule tiny(d) at step k (07:R220). -/
def tinyPivot (chol : Bool) (tau : FVal) (k : Nat) (d : FVal) (s : SolverAcc) : FVal × SolverAcc :=
  let note (d : FVal) (s : SolverAcc) : FVal × SolverAcc :=
    if d.isNan then (d, s)
    else (d, { s with pmin := some (least s.pmin d.abs), pmax := some (most s.pmax d.abs) })
  let sub (d : FVal) (s : SolverAcc) := note d { s with tiny := s.tiny + 1, tinyFirst := if s.tiny = 0 then k else s.tinyFirst }
  if d.isNan then (d, s.add { inv := true })
  else if chol then
    if fLess d tau && !(d.isZero && tau.isZero) then
      sub tau { s with indef := s.indef || (fLess d tau.neg && !(d.isZero && tau.isZero)) }
    else note d s
  else if fLess d.abs tau then sub (if d.isZero then tau else if d.sign then tau.neg else tau) s
  else note d s

/-- The row of the LU pivot (07:R219). -/
def luRow (n k : Nat) (a : List FVal) : Nat :=
  ((List.range (n - k)).foldl
    (fun best i =>
      let v := (fAt a ((k + i) * n + k))
      if v.isNan then best
      else match best with
        | none => some (k + i)
        | some p => if fLess (fAt a (p * n + k)).abs v.abs then some (k + i) else some p) none).getD k

/-- Swap rows k and p. -/
def swapRows (n k p : Nat) (a : List FVal) : List FVal :=
  (List.range (n * n)).map (fun i => fAt a ((if i / n = k then p else if i / n = p then k else i / n) * n + i % n))

/-- LU with row pivoting: the factor, the permutation and what was gathered (07:R219). -/
def factLU (c n : Nat) (tau : FVal) (a : List FVal) (s : SolverAcc) : List FVal × List Nat × SolverAcc :=
  let (tau, s) := pivotTau c n tau a s
  (List.range n).foldl
    (fun st k =>
      let (a, perm, s) := st
      let p := luRow n k a
      let a := swapRows n k p a
      let perm := (perm.set k (perm.getD p 0)).set p (perm.getD k 0)
      let (d, s) := tinyPivot false tau k (fAt a (k * n + k)) s
      let a := a.set (k * n + k) d
      let (a, s) := loopN (n - 1 - k) (fun i st =>
        let r := k + 1 + i
        let (v, s) := st.2.div c (fAt st.1 (r * n + k)) d
        (st.1.set (r * n + k) v, s)) (a, s)
      let (a, s) := loopN ((n - 1 - k) * (n - 1 - k)) (fun ij st =>
        let i := k + 1 + ij / (n - 1 - k)
        let j := k + 1 + ij % (n - 1 - k)
        let (v, s) := st.2.fma c (fAt st.1 (i * n + k)).neg (fAt st.1 (k * n + j)) (fAt st.1 (i * n + j))
        (st.1.set (i * n + j) v, s)) (a, s)
      (a, perm, s))
    (a, List.range n, s)

/-- Clear above the diagonal to +0. -/
def lowerOnly (n : Nat) (a : List FVal) : List FVal :=
  (List.range (n * n)).map (fun i => if i / n < i % n then .fin false 0 0 else fAt a i)

/-- The updates of column j, rows j to n − 1, by a[i][k] and the vector w (07:R219). -/
def lowerUpdate (c n k : Nat) (w : Nat → FVal) (st : List FVal × SolverAcc) : List FVal × SolverAcc :=
  loopN (n - 1 - k) (fun jj st =>
    let j := k + 1 + jj
    loopN (n - j) (fun ii st =>
      let i := j + ii
      let (v, s) := st.2.fma c (fAt st.1 (i * n + k)).neg (w j) (fAt st.1 (i * n + j))
      (st.1.set (i * n + j) v, s)) st) st

/-- Cholesky (07:R219). -/
def factChol (c n : Nat) (tau : FVal) (a : List FVal) (s : SolverAcc) : List FVal × SolverAcc :=
  let (tau, s) := pivotTau c n tau a s
  let (a, s) := loopN n (fun k st =>
    let (d, s) := tinyPivot true tau k (fAt st.1 (k * n + k)) st.2
    let (q, s) := s.sqrt c d
    let a := st.1.set (k * n + k) q
    let (a, s) := loopN (n - 1 - k) (fun i st =>
      let (v, s) := st.2.div c (fAt st.1 ((k + 1 + i) * n + k)) q
      (st.1.set ((k + 1 + i) * n + k) v, s)) (a, s)
    lowerUpdate c n k (fun j => fAt a (j * n + k)) (a, s)) (a, s)
  (lowerOnly n a, s)

/-- LDLT (07:R219). -/
def factLDLT (c n : Nat) (tau : FVal) (a : List FVal) (s : SolverAcc) : List FVal × SolverAcc :=
  let (tau, s) := pivotTau c n tau a s
  let (a, s) := loopN n (fun k st =>
    let (d, s) := tinyPivot false tau k (fAt st.1 (k * n + k)) st.2
    let s := { s with signs := s.signs ++ [(!(f64NotPos d) || d == .inf false, f64Neg d && !d.isNan && !(d == .inf false))] }
    let w := st.1
    let a := st.1.set (k * n + k) d
    let (a, s) := loopN (n - 1 - k) (fun i st =>
      let (v, s) := st.2.div c (fAt w ((k + 1 + i) * n + k)) d
      (st.1.set ((k + 1 + i) * n + k) v, s)) (a, s)
    lowerUpdate c n k (fun j => fAt w (j * n + k)) (a, s)) (a, s)
  (lowerOnly n a, s)

/-- Add δ to the diagonal (07, "Factorisation"). -/
def addDelta (c n : Nat) (delta : FVal) (a : List FVal) (s : SolverAcc) : List FVal × SolverAcc :=
  loopN n (fun k st =>
    let (v, s) := st.2.sum c (fAt st.1 (k * n + k)) delta
    (st.1.set (k * n + k) v, s)) (a, s)

/-- One column solved with the factors: kind 1 LU, 2 Cholesky, 3 LDLT (07:R221). -/
def triSolve (c kind n : Nat) (a : List FVal) (y : List FVal) (s : SolverAcc) : List FVal × SolverAcc :=
  let el (i j : Nat) := fAt a (i * n + j)
  let elim (i j : Nat) (f : FVal) (st : List FVal × SolverAcc) : List FVal × SolverAcc :=
    let (v, s) := st.2.fma c f.neg (fAt st.1 j) (fAt st.1 i)
    (st.1.set i v, s)
  let dv (i : Nat) (st : List FVal × SolverAcc) : List FVal × SolverAcc :=
    let (v, s) := st.2.div c (fAt st.1 i) (el i i)
    (st.1.set i v, s)
  let fwd := loopN n (fun i st =>
    let st := loopN i (fun j st => elim i j (el i j) st) st
    if kind = 2 then dv i st else st) (y, s)
  let mid := if kind = 3 then loopN n dv fwd else fwd
  loopN n (fun ii st =>
    let i := n - 1 - ii
    let st := loopN (n - 1 - i) (fun jj st =>
      let j := i + 1 + jj
      elim i j (if kind = 1 then el i j else el j i) st) st
    if kind = 3 then st else dv i st) mid

/-- Solve r columns: X, n × r (07:R221). A permutation entry of a given factor that names no row reads a free value (log entry 5). -/
def solveCols (c kind n r : Nat) (a : List FVal) (perm : List Nat) (b : List FVal) (s : SolverAcc) : List FVal × SolverAcc :=
  let cols := (List.range r).foldl
    (fun st col =>
      let y := (List.range n).map (fun i =>
        let q := if kind = 1 then perm.getD i 0 else i
        if q < n then fAt b (q * r + col) else decodeFmt c (Config.permOutside q col))
      let (y, s) := triSolve c kind n a y st.2
      (st.1 ++ [y], s)) (([] : List (List FVal)), s)
  ((List.range (n * r)).map (fun i => fAt (cols.1.getD (i % r) []) (i / r)), cols.2)

/-- Elements of a section. -/
def sectVals (h : SolverHdr) (inp : List Byte) (off k : Nat) : List FVal :=
  (List.range k).map (fun i => decodeFmt h.fmt (fld inp (off + i * h.e) h.e))

/-- A section written: elements, padded with zeros to 64 bytes. -/
def sectBytes (h : SolverHdr) (vs : List FVal) : List Byte :=
  padTo (h.sect vs.length) (vs.flatMap (fun v => natLe h.e (deliver {} h.fmt .rne v).raw))

/-- Widened exactly to FP64. -/
def toF64 (v : FVal) : Nat := (deliver {} 0 .rne v).raw

/-- The status record (07:R225). -/
def statusRec (status : Nat) (s : SolverAcc) (iters : Nat) (rp rd : Nat) (pm dm : Bool) : List Byte :=
  natLe 2 status
  ++ natLe 2 (b2n (decide (0 < s.tiny)) + 2 * b2n s.indef + 4 * b2n s.inertia + 8 * b2n s.fl.inv + 16 * b2n s.fl.ovf
    + 32 * b2n s.fl.unf + 64 * b2n pm + 128 * b2n dm)
  ++ natLe 2 s.tiny ++ natLe 1 s.tinyFirst ++ natLe 1 0 ++ natLe 4 iters ++ natLe 4 0 ++ natLe 8 rp ++ natLe 8 rd
  ++ natLe 8 (match s.pmin with
    | some v => toF64 v
    | none => 0)
  ++ natLe 8 (match s.pmax with
    | some v => toF64 v
    | none => 0)
  ++ natLe 16 0

/-- Element-by-element operation over vectors. -/
def vecOp (k : Nat) (f : Nat → SolverAcc → FVal × SolverAcc) (s : SolverAcc) : List FVal × SolverAcc :=
  (List.range k).foldl (fun st i => let (v, s) := f i st.2; (st.1 ++ [v], s)) ([], s)

/-- Row i of a product by fma in ascending column order: elements `el j`, vector x of length k (07:R224). -/
def rowDot (c k : Nat) (el : Nat → FVal) (x : List FVal) (s : SolverAcc) : FVal × SolverAcc :=
  (List.range k).foldl (fun st j => st.2.fma c (el j) (fAt x j) st.1) (.fin false 0 0, s)

/-- ∞-norm (07:R224). -/
def infNorm (v : List FVal) : FVal := v.foldl absMax (.fin false 0 0)

/-- The quadratic program's iteration state. -/
structure QpSt where
  x : List FVal := []
  z : List FVal := []
  y : List FVal := []
  s : SolverAcc := {}
deriving DecidableEq, Repr, Inhabited

/-- Everything an ADMM step reads (07:R223). -/
structure QpCtx where
  c : Nat := 0
  n : Nat := 0
  m : Nat := 0
  q : List FVal := []
  l : List FVal := []
  u : List FVal := []
  rho : List FVal := []
  sigma : FVal := .fin false 0 0
  alpha : FVal := .fin false 0 0
  oneMinus : FVal := .fin false 0 0
  f : List FVal := []
deriving DecidableEq, Repr, Inhabited

/-- min and max raise invalid for signalling operands (06:R194). -/
def SolverAcc.clamp (s : SolverAcc) (v l u : FVal) : FVal × SolverAcc :=
  let (a, i) := fMax v l
  let (b, j) := fMin a u
  (b, s.add { inv := i || j })

/-- One ADMM step (07:R223). -/
def qpStep (k : QpCtx) (t : QpSt) : QpSt :=
  let c := k.c
  let at_ := fAt
  let (r1, s) := vecOp k.n (fun i s => s.fma c k.sigma (at_ t.x i) (at_ k.q i).neg) t.s
  let (r2, s) := vecOp k.m (fun i s => let (d, s) := s.div c (at_ t.y i) (at_ k.rho i); s.sub c (at_ t.z i) d) s
  let (sol, s) := triSolve c 3 (k.n + k.m) k.f (r1 ++ r2) s
  let xt := sol.take k.n
  let nu := sol.drop k.n
  let (zt, s) := vecOp k.m (fun i s =>
    let (d, s) := s.sub c (at_ nu i) (at_ t.y i)
    let (e, s) := s.div c d (at_ k.rho i)
    s.sum c (at_ t.z i) e) s
  let (x, s) := vecOp k.n (fun i s => let (p, s) := s.mul c k.oneMinus (at_ t.x i); s.fma c k.alpha (at_ xt i) p) s
  let (zh, s) := vecOp k.m (fun i s => let (p, s) := s.mul c k.oneMinus (at_ t.z i); s.fma c k.alpha (at_ zt i) p) s
  let (z, s) := vecOp k.m (fun i s =>
    let (d, s) := s.div c (at_ t.y i) (at_ k.rho i)
    let (v, s) := s.sum c (at_ zh i) d
    s.clamp v (at_ k.l i) (at_ k.u i)) s
  let (y, s) := vecOp k.m (fun i s => let (d, s) := s.sub c (at_ zh i) (at_ z i); s.fma c (at_ k.rho i) d (at_ t.y i)) s
  { x := x, z := z, y := y, s := s }

/-- The value ≤ another; false with a NaN. -/
def fLe (a b : FVal) : Bool := !a.isNan && !b.isNan && !(fLess b a && !(a.isZero && b.isZero))

/-- A parameter in the batch format (07:R212). -/
def SolverAcc.par (s : SolverAcc) (c raw : Nat) : FVal × SolverAcc := s.put c (deliver {} c .rne (decodeFmt 0 raw))
def SolverAcc.parV (s : SolverAcc) (c : Nat) (v : FVal) : FVal × SolverAcc := s.put c (deliver {} c .rne v)

/-- A quadratic program: its output area and what it gathered (07:R222 to R225). -/
def qpRun (h : SolverHdr) (inp : List Byte) : List Byte × SolverAcc :=
  let c := h.fmt
  let n := h.n
  let m := h.m
  let nn := h.sect (n * n)
  let sn := h.sect n
  let smn := h.sect (m * n)
  let sm := h.sect m
  let P := sectVals h inp 0 (n * n)
  let q := sectVals h inp nn n
  let A := sectVals h inp (nn + sn) (m * n)
  let l := sectVals h inp (nn + sn + smn) m
  let u := sectVals h inp (nn + sn + smn + sm) m
  let warm := bit h.flags 1
  let z0 := List.replicate m (.fin false 0 0)
  let (tau, s) := ({} : SolverAcc).parV c h.tauV
  let (delta, s) := s.parV c h.deltaV
  let (rho, s) := s.par c h.rho
  let (sigma, s) := s.parV c h.sigmaV
  let (alpha, s) := s.parV c h.alphaV
  let (ea, s) := s.par c h.epsAbs
  let (er, s) := s.par c h.epsRel
  let (rhos, s) := vecOp m (fun i s =>
    if fLe (fAt l i) (fAt u i) && fLe (fAt u i) (fAt l i) then s.mul c (.fin false 1000 0) rho else (rho, s)) s
  let badB (i : Nat) := (fAt l i).isNan || (fAt u i).isNan || !(fLe (fAt l i) (fAt u i))
  if (List.range m).any badB then
    let s := { s with fl := { s.fl with inv := true } }
    let nanv (k : Nat) := sectBytes h (List.replicate k (.nan false))
    (statusRec 2 s 0 0 0 false false ++ nanv n ++ nanv m ++ nanv m, s)
  else
    let (sd, s) := s.sum c sigma delta
    let nk := n + m
    let (K, s) := vecOp (nk * nk) (fun ij s =>
      let i := ij / nk
      let j := ij % nk
      if i < j then (.fin false 0 0, s)
      else if i < n then if i = j then s.sum c (fAt P (i * n + i)) sd else (fAt P (i * n + j), s)
      else if j < n then (fAt A ((i - n) * n + j), s)
      else if i = j then let (r, s) := s.div c (.fin false 1 0) (fAt rhos (i - n)); s.sub c r.neg delta
      else (.fin false 0 0, s)) s
    let (f, s) := factLDLT c nk tau K s
    let bad := (s.signs.take n).any (fun p => !p.1) || ((s.signs.drop n).take m).any (fun p => !p.2)
    let s := { s with inertia := bad }
    let (om, s) := s.sub c (.fin false 1 0) alpha
    let off := nn + sn + smn + 2 * sm
    let st0 : QpSt :=
      { x := if warm then sectVals h inp off n else List.replicate n (.fin false 0 0)
        z := if warm then sectVals h inp (off + sn) m else z0
        y := if warm then sectVals h inp (off + sn + sm) m else z0
        s := s }
    let k : QpCtx := { c := c, n := n, m := m, q := q, l := l, u := u, rho := rhos, sigma := sigma, alpha := alpha, oneMinus := om, f := f }
    let st := (List.range h.iters).foldl (fun st _ => qpStep k st) st0
    let s := st.s
    let pEl (i j : Nat) := if j ≤ i then fAt P (i * n + j) else fAt P (j * n + i)
    let (ax, s) := vecOp m (fun i s => rowDot c n (fun j => fAt A (i * n + j)) st.x s) s
    let (px, s) := vecOp n (fun i s => rowDot c n (pEl i) st.x s) s
    let (aty, s) := vecOp n (fun j s => rowDot c m (fun i => fAt A (i * n + j)) st.y s) s
    let (pr, s) := vecOp m (fun i s => s.sub c (fAt ax i) (fAt st.z i)) s
    let (dr, s) := vecOp n (fun i s => let (v, s) := s.sum c (fAt px i) (fAt q i); s.sum c v (fAt aty i)) s
    let rp := infNorm pr
    let rd := infNorm dr
    let (lp, s) := s.fma c er (absMax (infNorm ax) (infNorm st.z)) ea
    let (ld, s) := s.fma c er (absMax (absMax (infNorm px) (infNorm aty)) (infNorm q)) ea
    (statusRec 0 s h.iters (toF64 rp) (toF64 rd) (fLe rp lp) (fLe rd ld)
      ++ sectBytes h st.x ++ sectBytes h st.z ++ sectBytes h st.y, s)

/-- A factorisation or solve problem: its output area and what it gathered (07:R213, R216, R219 to R221). -/
def linRun (h : SolverHdr) (inp : List Byte) : List Byte × SolverAcc :=
  let c := h.fmt
  let n := h.n
  let nn := h.sect (n * n)
  let lowNib := h.kind % 16
  let A := sectVals h inp 0 (n * n)
  let (tau, s) := ({} : SolverAcc).parV c h.tauV
  let (delta, s) := s.parV c h.deltaV
  let fact (s : SolverAcc) : List FVal × List Nat × SolverAcc :=
    let (a, s) := addDelta c n delta A s
    if lowNib = 1 then factLU c n tau a s
    else if lowNib = 2 then let (f, s) := factChol c n tau a s; (f, [], s)
    else let (f, s) := factLDLT c n tau a s; (f, [], s)
  let permB (p : List Nat) : List Byte := if h.lu then padTo 64 (p.map (BitVec.ofNat 8)) else []
  let rec_ (s : SolverAcc) := statusRec 0 s 0 0 0 false false
  match h.kind / 16 with
  | 0 => let (f, p, s) := fact s
    (rec_ s ++ sectBytes h f ++ permB p, s)
  | 1 =>
    let p := (List.range n).map (fun i => byteAt inp (nn + i))
    let b := sectVals h inp (nn + (if h.lu then 64 else 0)) (n * h.r)
    let (x, s) := solveCols c lowNib n h.r A p b s
    (rec_ s ++ sectBytes h x, s)
  | _ =>
    let (f, p, s) := fact s
    let b := sectVals h inp nn (n * h.r)
    let (x, s) := solveCols c lowNib n h.r f p b s
    (rec_ s ++ sectBytes h f ++ permB p ++ sectBytes h x, s)

/-- A problem's output area (07:R213). -/
def solverRun (h : SolverHdr) (inp : List Byte) : List Byte × SolverAcc := if h.qp then qpRun h inp else linRun h inp

end Sys2Proof
end

