-- ==== Sys2Proof/Machine/Solver.lean ====
section
/-!
DEFINITION. Solver engines: submission, batches, problems, repeated steps and restarts (07). The remap of a failed engine
is in Fault.lean.
-/

namespace Sys2Proof

/-- A solver engine number. -/
def Pkg.engine (s : Pkg) (e : Nat) : Engine := Tab.get {} s.engines e

/-- Change a solver engine. -/
def Pkg.setEngine (s : Pkg) (e : Nat) (x : Engine) : Pkg := { s with engines := Tab.set {} s.engines e x }

/-- The engine of a tile's rank (01:R29). -/
def engineOf (t : Nat) : Nat := t / 8

/-- The engine number whose datapath serves a number (07:R229). -/
def Pkg.servedBy (s : Pkg) (e : Nat) : Nat := if (s.engine e).mapped = 0 then e else (s.engine e).mapped - 1

/-- Numbers that share a datapath with e (07:R229). -/
def Pkg.sharers (s : Pkg) (e : Nat) : List Nat :=
  ((List.range 16).map (· + e / 16 * 16)).filter (fun k => s.servedBy k = s.servedBy e)

/-- Order of submissions: by commit; of plies that commit in the same cycle, by tile (07:R211). -/
def SolveReq.before (a b : SolveReq) : Bool :=
  decide (a.at_ < b.at_) || (decide (a.at_ = b.at_) && (decide (a.tile < b.tile) || (decide (a.tile = b.tile) && decide (a.stamp < b.stamp))))

/-- A committed submission joins the engine's queue, or waits in the C-die commit queue; the queue holds the first 16 (07:R211). -/
def Pkg.solveSubmit (s : Pkg) (r : SolveReq) : Pkg :=
  let e := engineOf r.tile
  let x := s.engine e
  let (mine, others) := s.solveWait.partition (fun w => decide (engineOf w.tile = e))
  let all := insertBy SolveReq.before r (x.queue ++ mine)
  let s := s.setEngine e { x with queue := all.take 16 }
  let s := if x.queue.length < 16 then s.peak (0x3800 + r.part) 0x0B (x.queue.length + 1) else s
  { s with solveWait := others ++ all.drop 16 }

/-- Waiting submissions enter queues that have room, in order (07:R211). -/
def Pkg.fillQueues (s : Pkg) : Pkg := s.solveWait.foldl Pkg.solveSubmit { s with solveWait := [] }

/-- First byte of the window of a tile's C-die. -/
def winOf (t : Nat) : Nat := t / 128 * 0x80000000

/-- The datapath that serves a number has not failed (07:R229). -/
def Pkg.engineUp (s : Pkg) (e : Nat) : Bool := decide ((s.engine (s.servedBy e)).lanes ≤ 2)

/-- The next batch: the queue's front, once every problem of the earlier ones has taken its slots, and in commit order
among numbers that share the datapath (07:R211, R227, R229). -/
def Pkg.nextBatch (s : Pkg) (e : Nat) : Option SolveReq :=
  let sh := s.sharers e
  match (s.engine e).queue with
  | [] => none
  | r :: _ =>
    if !(s.engineUp e) || sh.any (fun k => (s.engine k).batches.any (fun b => decide (b.next < b.req.count)))
      || sh.any (fun k => match (s.engine k).queue with
        | q :: _ => q.before r
        | [] => false) then none
    else some r

/-- A write of a solver engine goes on its way, or is refused and counted where no die store stands at the address (01:R33, R44). -/
def Pkg.solverPut (s : Pkg) (e : Nat) (r : SolveReq) (w : DWrite) : Pkg :=
  let n := if w.inc then 8 else w.data.length
  if dsOk w.addr n then s.sendNext { w with src := 3, unit := e, part := r.part } else s.addrError r.part w.addr n

/-- Write result and completed into a batch header (07:R214, R215). -/
def Pkg.batchResult (s : Pkg) (e : Nat) (r : SolveReq) (result completed : Nat) : Pkg :=
  s.solverPut e r { addr := r.hdr + 120, data := natLe 1 result ++ natLe 3 0 ++ natLe 4 completed }

/-- The done word of a batch grows behind the engine's earlier writes (07:R215). -/
def Pkg.batchDone (s : Pkg) (e : Nat) (r : SolveReq) (done : Nat) : Pkg := s.solverPut e r { addr := done, inc := true }

/-- SOLVER_BATCH_START (07:R214). -/
def batchStart (s : Pkg) (e : Nat) : Pkg :=
  match s.nextBatch e with
  | none => s
  | some r =>
    let x := s.engine e
    let s := s.setEngine e { x with queue := x.queue.drop 1 }
    let raw := s.dstore.readN r.hdr 128
    let h := solverHdr raw
    let win := winOf r.tile
    let refused (s : Pkg) := s.bump (0x3800 + r.part) 4 1
    if !(h.doneOk win) then (refused s).fillQueues
    else
      let c := h.check r.count win
      if c ≠ 0 then (((refused s).batchResult e r c 0).batchDone e r h.done).fillQueues
      else (s.setEngine e { s.engine e with batches := (s.engine e).batches ++ [{ req := r, hdr := raw }] }).fillQueues

/-- Problem slots in use on the datapath that serves e (07:R227). -/
def Pkg.slotsUsed (s : Pkg) (e : Nat) : Nat :=
  (s.sharers e).foldl (fun n k => (s.engine k).probs.foldl (fun n p => n + (if p.loaded then p.slots else 0)) n) 0

/-- The input area of a problem as the engine reads it; none where a part that it reads is refused or gives no data (07:R216, R217,
R227). -/
def Pkg.problemInput (s : Pkg) (h : SolverHdr) (i : Nat) : Option (List Byte) :=
  let a := h.base + i * h.stride
  if h.reads.all (fun r => dsOk (a + r.1) r.2 && !(s.unreadable (a + r.1) r.2)) then some (s.dsBytes a h.inBytes) else none

/-- The read of an input area is counted, and a refused one with it (01:R44, 09:R299). -/
def Pkg.countInput (s : Pkg) (q : Nat) (h : SolverHdr) (i : Nat) : Pkg :=
  let a := h.base + i * h.stride
  let s := s.bump (0x4010 + q) 1 h.inBytes
  if dsOk a h.inBytes then s else s.addrError q a h.inBytes

/-- The problem at a place among those of a number that hold their slots, oldest first. -/
def Engine.resident (x : Engine) (place : Nat) : Option Prob := (x.probs.filter (·.loaded))[place]?

/-- A problem is at a place of a batch. -/
def Prob.same (p q : Prob) : Bool := decide (p.stamp = q.stamp) && decide (p.idx = q.idx)

/-- A problem reads its inputs again, into its slots; its cycles count again (07:R217, R228, R230). -/
def Pkg.problemAgain (s : Pkg) (e : Nat) (p : Prob) : Pkg :=
  let x := s.engine e
  match x.batches.find? (fun b => decide (b.req.stamp = p.stamp)) with
  | none => s
  | some b =>
    let h := solverHdr b.hdr
    let q := b.req.part
    ((s.setEngine e { x with probs := mapIf (Prob.same p) (fun r => { r with input := s.problemInput h p.idx, loaded := true }) x.probs }).countInput q h p.idx).bump
      (0x3800 + q) 3 h.cycles

/-- Problems moved by a remap restart, in order, as far as the slots of the new engine reach (07:R227, R229). -/
def Pkg.reload (s : Pkg) (e : Nat) : Pkg :=
  (s.engine e).probs.foldl (fun s p => if p.loaded || decide (32 < s.slotsUsed e + p.slots) || !(s.engineUp e) then s else s.problemAgain e p) s

/-- SOLVER_PROBLEM_START: a problem takes its slots; one that a remap has moved goes first (07:R217, R227, R229). -/
def problemStart (s : Pkg) (e : Nat) : Pkg :=
  let x := s.engine e
  if x.probs.any (fun p => !p.loaded) then s.reload e
  else match x.batches.find? (fun b => decide (b.next < b.req.count)) with
  | none => s
  | some b =>
    let h := solverHdr b.hdr
    if 32 < s.slotsUsed e + h.slots || !(s.engineUp e) then s
    else
      let p : Prob := { stamp := b.req.stamp, idx := b.next, slots := h.slots, input := s.problemInput h b.next }
      let s := s.setEngine e
        { x with probs := x.probs ++ [p], batches := mapIf (fun (y : Batch) => y.req.stamp = b.req.stamp) (fun y => { y with next := y.next + 1 }) x.batches }
      s.countInput b.req.part h p.idx

/-- Once no problem that a remap restarted is left, the remap is repaired and recorded (07:R229, 13:R404, R418). -/
def Pkg.remapDone (s : Pkg) (e : Nat) : Pkg :=
  let x := s.engine e
  if !x.redo || x.probs.any (·.again) then s
  else
    let s := s.setEngine e { x with redo := false }
    let r : CRec := { cls := 3, unit := e, detected := x.redoAt, redo := s.tempo.now - x.redoAt, bound := 3120, more := [2 ^ 32]
                      parts := maskOfParts (s.parts.filter (fun (p : Nat × Part) => p.2.dies.contains (e / 16))) }
    (s.repairGroup 3 e).castlingRecord r.byDelay

/-- SOLVER_PROBLEM_COMPLETE: a resident problem writes its output area; the datapath serves them in turns, so any of them may be the one,
and the command names it (07:R227, log entry 95); the errors of its working-store words that were
corrected as it ran are counted (07:R217, R225, R228, log entry 76). -/
def problemComplete (s : Pkg) (e place ecc : Nat) : Pkg :=
  let x := s.engine e
  match (if s.engineUp e then x.resident place else none) with
  | none => s
  | some p =>
    match x.batches.find? (fun b => decide (b.req.stamp = p.stamp)) with
    | none => s
    | some b =>
      let h := solverHdr b.hdr
      let q := b.req.part
      let out := h.base + p.idx * h.stride + h.outOff
      let r : List Byte × SolverAcc := match p.input with
        | some d => solverRun h d
        | none => (statusRec 1 {} 0 0 0 false false, {})
      let s := s.setEngine e
        { x with probs := x.probs.filter (fun r => !(p.same r)), batches := mapIf (fun (y : Batch) => y.req.stamp = b.req.stamp) (fun y => { y with completed := y.completed + 1 }) x.batches }
      let s := (s.solverPut e b.req { addr := out, data := r.1 }).countWrite q (b.req.tile / 128) out r.1.length
      let s := (((s.bump (0x3800 + q) 2 1).bump (0x3800 + q) 3 h.cycles).bump (0x3800 + q) 7 r.2.tiny).bump (0x3800 + q) 0x0A ecc
      (if p.input.isNone then s.bump (0x3800 + q) 6 1 else s).remapDone e

/-- SOLVER_BATCH_COMPLETE: result and completed, then the done word (07:R215). -/
def batchComplete (s : Pkg) (e : Nat) : Pkg :=
  let x := s.engine e
  match x.batches.find? (fun b => decide (b.completed = b.req.count)) with
  | none => s
  | some b =>
    let s := s.setEngine e { x with batches := x.batches.filter (fun y => y.req.stamp ≠ b.req.stamp) }
    let s := (s.batchResult e b.req 0 b.completed).batchDone e b.req (solverHdr b.hdr).done
    (s.bump (0x3800 + b.req.part) 1 1).fillQueues

/-- SOLVER_STEP_REPEAT: a residue mismatch of a lane of the datapath that serves a number repeats the step of a resident problem; the second of one
lane within 1 s substitutes a spare lane and writes a record (07:R228, R229, 13:R406, R413). -/
def stepRepeat (s : Pkg) (e place lane : Nat) : Pkg :=
  let x := s.engine e
  match x.resident place with
  | none => s
  | some p =>
    match x.batches.find? (fun b => decide (b.req.stamp = p.stamp)) with
    | none => s
    | some b =>
      let d := s.servedBy e
      let y := s.engine d
      let key := 0x3000000 + d * 64 + lane
      let s := s.bump (0x3800 + b.req.part) 8 1
      let (k, s) := s.noteError key
      if k < 2 then s
      else
        let s := (s.clearErrors key).setEngine d { y with lanes := y.lanes + 1 }
        if 2 ≤ y.lanes then s
        else
          let left := 1 - y.lanes
          let s := (s.castlingRecord { cls := 1, unit := b.req.tile, detected := s.tempo.now, parts := 2 ^ b.req.part, spares := left, bound := 3120 }).tileEvent b.req.tile false
          if left = 0 then s.sparesLow 1 b.req.tile 0 else s

/-- SOLVER_PROBLEM_RESTART: the resident problem that holds the uncorrectable word reads its inputs again (07:R228). -/
def problemRestart (s : Pkg) (e place : Nat) : Pkg :=
  let x := s.engine e
  match x.resident place with
  | none => s
  | some p =>
    match x.batches.find? (fun b => decide (b.req.stamp = p.stamp)) with
    | none => s
    | some b => (s.problemAgain e p).bump (0x3800 + b.req.part) 9 1

end Sys2Proof

namespace Sys2Proof.Machine

open Sys2Proof

/-- A command of a solver engine number. -/
def onEngine (e : Nat) (s : State) (f : Pkg → Pkg) : Res := act (decide (e < engineMax)) s f

/-- SOLVER_BATCH_START (07:R214). -/
def execSolverBatchStart (e : Nat) (s : State) : Res := onEngine e s (fun k => batchStart k e)
/-- SOLVER_PROBLEM_START (07:R227). -/
def execSolverProblemStart (e : Nat) (s : State) : Res := onEngine e s (fun k => problemStart k e)
/-- SOLVER_PROBLEM_COMPLETE (07:R217). -/
def execSolverProblemComplete (e : SolverEnd) (s : State) : Res :=
  onEngine e.engine s (fun k => problemComplete k e.engine e.place e.corrected)
/-- SOLVER_BATCH_COMPLETE (07:R215). -/
def execSolverBatchComplete (e : Nat) (s : State) : Res := onEngine e s (fun k => batchComplete k e)
/-- SOLVER_STEP_REPEAT (07:R228). -/
def execSolverStepRepeat (e : SolverAt) (lane : Nat) (s : State) : Res := onEngine e.engine s (fun k => stepRepeat k e.engine e.place lane)
/-- SOLVER_PROBLEM_RESTART (07:R228). -/
def execSolverProblemRestart (e : SolverAt) (s : State) : Res := onEngine e.engine s (fun k => problemRestart k e.engine e.place)

end Sys2Proof.Machine
end

