-- ==== Sys2Proof/Machine/Coll.lean ====
section
/-!
DEFINITION. The collective engines: admission, the two modes, segments and grants, the packets of a collective, completion
and aborts (12).
-/

namespace Sys2Proof

/-- Elements of a segment, segments of a whole chunk and of chunk k, blocks of chunk k (12:R382, R388, R392). -/
def CollDesc.es (d : CollDesc) : Nat := 32768 / d.ww
def CollDesc.segsFull (d : CollDesc) : Nat := d.ce / d.es
def CollDesc.segs (d : CollDesc) (k : Nat) : Nat := ceilDiv (d.elems k) d.es
def CollDesc.blocks (d : CollDesc) (k : Nat) : Nat := d.elems k / 64
/-- Stream units of a chunk's pass-1 values, and of a chunk's and a segment's result (12:R395). -/
def CollDesc.expUnits (d : CollDesc) : Nat := d.ce / 64 * 2 / 256
def CollDesc.resUnits (d : CollDesc) : Nat := d.ce * d.rw / 256
def CollDesc.segUnits (d : CollDesc) : Nat := d.es * d.rw / 256
/-- First element and count of segment g of chunk k. -/
def CollDesc.segAt (d : CollDesc) (k g : Nat) : Nat × Nat := (k * d.ce + g * d.es, min d.es (d.elems k - g * d.es))

/-- Packets base to base + n − 1 of a stream, joined; none while one is missing. -/
def gather (t : Tab (List Byte)) (base : Nat) : Nat → Option (List Byte)
  | 0 => some []
  | n + 1 => match Tab.find t base, gather t (base + 1) n with
    | some a, some b => some (a ++ b)
    | _, _ => none

/-- Key of a child's packet. -/
def kidKey (node idx : Nat) : Nat := node * 2 ^ 28 + idx

/-- The pass-1 word of one element: its exponent field, and a flag of what is not finite (12:R388). -/
def expWord (c raw : Nat) : Nat :=
  let m := fmtMant c
  let x := fmtExp c
  let e := (raw >>> m) % 2 ^ x
  let f := raw % 2 ^ m
  if e = 2 ^ x - 1 then (if f ≠ 0 then 2048 else if bit raw (m + x) then 8192 else 4096)
  else if e = 0 && f = 0 then 0
  else max 1 e

/-- Pass-1 words combine by maximum and OR. -/
def expJoin (a b : Nat) : Nat := max (a % 2048) (b % 2048) + (a / 2048 ||| b / 2048) * 2048

/-- Pass-1 words as bytes, and back. -/
def expBytes (ws : List Nat) : List Byte := ws.flatMap (natLe 2)
def expWords (n : Nat) (bs : List Byte) : List Nat := (List.range n).map (fun i => fld bs (2 * i) 2)

/-- m × 2^k rounded to an integer, to nearest, ties to even (12:R389). -/
def roundShift (m : Nat) (k : Int) : Nat :=
  if 0 ≤ k then m * 2 ^ k.toNat
  else
    let d := 2 ^ (-k).toNat
    let q := m / d
    let r := m % d
    if 2 * r > d || (2 * r = d && q % 2 = 1) then q + 1 else q

/-- Scale exponent of a block (12:R389). -/
def CollDesc.f (d : CollDesc) : Int := if d.sf = 0 then 96 else 32
def CollDesc.shift (d : CollDesc) (e : Nat) : Int := d.f + (fmtBias d.sf : Int) - 1 - (e : Int)

/-- The integer of an element, and whether it vanished (12:R389). -/
def quant (d : CollDesc) (e : Nat) (v : FVal) : Int × Nat :=
  match v with
  | .fin neg m x =>
    let q := roundShift m (x + d.shift e)
    (if neg then -(q : Int) else (q : Int), if m ≠ 0 && q = 0 then 1 else 0)
  | _ => (0, 0)

/-- What a segment holds on its way up: codes of the working format in tree mode, integers and the masks of its special blocks in reproducible
mode; counts of invalid, overflow, underflow, vanished. -/
structure Seg where
  vals : List Nat := []
  ints : List Int := []
  masks : List Nat := []
  counts : List Nat := [0, 0, 0, 0]
deriving DecidableEq, Repr, Inhabited

/-- Counts added. -/
def addCounts (a b : List Nat) : List Nat := (List.range 4).map (fun i => a.getD i 0 + b.getD i 0)

/-- The working format of tree mode. -/
def CollDesc.wf (d : CollDesc) : Nat := if d.sf = 0 then fpFP64 else fpFP32

/-- Combine a running segment with the next one (12:R387, R389). -/
def Seg.add (d : CollDesc) (a b : Seg) : Seg :=
  if d.mode = 0 then
    let rs := (a.vals.zip b.vals).map (fun p => deliverSum {} d.wf .rne [decodeFmt d.wf p.1, decodeFmt d.wf p.2] false)
    let n (f : NumRes → Bool) := (rs.filter f).length
    { vals := rs.map (·.raw)
      counts := addCounts (addCounts a.counts b.counts) [n (·.fl.inv), n (·.fl.ovf), n (·.fl.unf), 0] }
  else
    { ints := (a.ints.zip b.ints).map (fun p => p.1 + p.2), masks := (a.masks.zip b.masks).map (fun p => p.1 ||| p.2)
      counts := addCounts a.counts b.counts }

/-- A block's pass-1 word says it is special (12:R389). -/
def special (w : Nat) : Bool := decide (2048 ≤ w)

/-- The mask, by element position, of the codes whose pass-1 word has a flag. -/
def maskBits (c flag : Nat) (raws : List Nat) : Nat :=
  ((List.range raws.length).zip raws).foldl (fun m p => if (expWord c p.2 / flag) % 2 = 1 then m + 2 ^ p.1 else m) 0

/-- A source code in the working format, exactly: a signalling NaN stays one, its sign and fraction kept (12:R387, log entry 77). -/
def CollDesc.widen (d : CollDesc) (raw : Nat) : Nat :=
  if d.sf = d.wf then raw
  else if (decodeFmt d.sf raw).isSig then
    let f := if d.sf = fpBF16 then 7 else 10
    raw / 2 ^ 15 * 2 ^ 31 + 0xFF * 2 ^ 23 + raw % 2 ^ f * 2 ^ (23 - f)
  else (deliver {} d.wf .rne (decodeFmt d.sf raw)).raw

/-- Pass-1 words of segment g of chunk k. -/
def CChunk.segExps (x : CChunk) (d : CollDesc) (k g : Nat) : List Nat :=
  if d.mode = 0 then [] else expWords ((d.segAt k g).2 / 64) (x.expTot.drop (2 * (g * (d.es / 64))))

/-- Masks of segment g of chunk k, and the units that its data takes in the stream up: its elements, then its masks (12:R389, R395). -/
def CChunk.masks (x : CChunk) (d : CollDesc) (k g : Nat) : Nat := 3 * ((x.segExps d k g).filter special).length
def CChunk.units (x : CChunk) (d : CollDesc) (k g : Nat) : Nat := ceilDiv ((d.segAt k g).2 * d.ww + 8 * x.masks d k g) 256
def CChunk.unitsTo (x : CChunk) (d : CollDesc) (k g : Nat) : Nat := (List.range g).foldl (fun n i => n + x.units d k i) 0

/-- The stream index at which chunk k's data begins, and that of its segment g: after all that comes before it, so that in reproducible
mode the values of pass 1 of every earlier chunk are known; and the chunk of a data packet (12:R395, log entry 20). -/
def Coll.base (c : Coll) (k : Nat) : Option Nat :=
  if c.d.mode = 0 then some (k * c.d.segsFull * 128)
  else (List.range k).foldl (fun a j => match a, Tab.find c.dataLen j with
    | some a, some n => some (a + n)
    | _, _ => none) (some 0)
def Coll.dataAt (c : Coll) (k g : Nat) : Option Nat := (c.base k).map (· + (c.chunk k).unitsTo c.d k g)
def Coll.chunkOf (c : Coll) (idx : Nat) (ks : List Nat) : Option Nat :=
  ks.find? (fun k => match c.base k with
    | some b => decide (b ≤ idx) && decide (idx < b + (c.chunk k).unitsTo c.d k (c.d.segs k))
    | none => false)

/-- The root's pass-1 values of chunk k are known (12:R388). -/
def Coll.withExp (c : Coll) (k : Nat) (tot : List Byte) : Coll :=
  let x : CChunk := { c.chunk k with expTot := tot }
  { c.setChunk k x with dataLen := Tab.insert c.dataLen k (x.unitsTo c.d k (c.d.segs k)) }

/-- One local contribution's segment: its codes, with the pass-1 words of its blocks (12:R387, R389). -/
def localSeg (d : CollDesc) (exps raws : List Nat) : Seg :=
  if d.mode = 0 then { vals := raws.map d.widen }
  else
    let blocks := (exps.zip (pieces 64 exps.length raws))
    let qs := blocks.flatMap (fun b => b.2.map (fun r => quant d (b.1 % 2048) (decodeFmt d.sf r)))
    { ints := qs.map (·.1)
      masks := blocks.flatMap (fun b => if special b.1 then [maskBits d.sf 2048 b.2, maskBits d.sf 4096 b.2, maskBits d.sf 8192 b.2] else [])
      counts := [0, 0, 0, qs.foldl (fun n q => n + q.2) 0] }

/-- A segment as it travels up (12:R395), and back. -/
def Seg.bytes (d : CollDesc) (g : Seg) : List Byte :=
  if d.mode = 0 then wrCodes d.wf g.vals
  else g.ints.flatMap (fun q => natLe d.ww (ofSigned (8 * d.ww) q)) ++ g.masks.flatMap (natLe 8)
def segOf (d : CollDesc) (n m : Nat) (bs : List Byte) : Seg :=
  if d.mode = 0 then { vals := rdCodes d.wf n bs }
  else
    { ints := (List.range n).map (fun i => toSigned (8 * d.ww) (fld bs (d.ww * i) d.ww))
      masks := (List.range m).map (fun i => fld bs (d.ww * n + 8 * i) 8) }

/-- The result codes of a segment's total, with their counts (12:R387, R389). -/
def Seg.result (d : CollDesc) (exps : List Nat) (g : Seg) : List Nat × List Nat :=
  if d.mode = 0 then
    let rs := g.vals.map (fun v => deliver {} d.rf .rne (decodeFmt d.wf v))
    (rs.map (·.raw), [0, (rs.filter (·.fl.ovf)).length, (rs.filter (·.fl.unf)).length, 0])
  else
    let sp := exps.filter special
    let ms := sp.zip (pieces 3 sp.length g.masks)
    let one (e : Nat) (mk : List Nat) (i : Nat) (q : Int) : Nat × List Nat :=
      let nan := bit (mk.getD 0 0) i
      let pi := bit (mk.getD 1 0) i
      let ni := bit (mk.getD 2 0) i
      if nan || (pi && ni) then (fmtNan d.rf, [1, 0, 0, 0])
      else if pi then ((deliver {} d.rf .rne (.inf false)).raw, [0, 0, 0, 0])
      else if ni then ((deliver {} d.rf .rne (.inf true)).raw, [0, 0, 0, 0])
      else
        let r := deliver {} d.rf .rne (.fin (decide (q < 0)) q.natAbs (-(d.shift (e % 2048))))
        (r.raw, [0, b2n r.fl.ovf, b2n r.fl.unf, 0])
    let go := (exps.zip (pieces 64 exps.length g.ints)).foldl
      (fun (acc : List (Nat × List Nat) × List (Nat × List Nat)) b =>
        let (mkk, rest) := if special b.1 then (((acc.2.head?).getD (0, [])).2, acc.2.drop 1) else ([], acc.2)
        (acc.1 ++ ((List.range b.2.length).zip b.2).map (fun p => one b.1 mkk p.1 p.2), rest)) ([], ms)
    (go.1.map (·.1), go.1.foldl (fun c r => addCounts c r.2) [0, 0, 0, 0])

/-- The local contributions in ascending tile (12:R387). -/
def Coll.sources (c : Coll) : List (Nat × Nat) := sortBy (fun a b => decide (a.1 ≤ b.1)) c.locals

/-- Every local contribution has committed. -/
def Coll.full (c : Coll) : Bool := decide (c.locals.length = c.d.lcount)

/-- Codes of n elements from element e of a source. -/
def Pkg.collRead (s : Pkg) (d : CollDesc) (src e n : Nat) : List Nat := rdCodes d.sf n (s.dsBytes (src + e * d.sw) (n * d.sw))

/-- The package partial's pass-1 words of chunk k (12:R388). -/
def Pkg.collExp (s : Pkg) (c : Coll) (k : Nat) : List Nat :=
  let d := c.d
  let one (src : Nat) := (pieces 64 (d.blocks k) (s.collRead d src (k * d.ce) (d.elems k))).map (fun b => b.foldl (fun w r => expJoin w (expWord d.sf r)) 0)
  c.locals.foldl (fun ws l => (ws.zip (one l.2)).map (fun p => expJoin p.1 p.2)) (List.replicate (d.blocks k) 0)

/-- The package partial of a segment (12:R386). -/
def Pkg.collPartial (s : Pkg) (c : Coll) (k g : Nat) : Seg :=
  let d := c.d
  let (e, n) := d.segAt k g
  let exps := (c.chunk k).segExps d k g
  match c.sources.map (fun l => localSeg d exps (s.collRead d l.2 e n)) with
  | [] => {}
  | x :: xs => xs.foldl (Seg.add d) x

/-- A child's segment, once every packet of it has come. -/
def Coll.kidSeg (c : Coll) (node k g : Nat) : Option Seg :=
  let d := c.d
  let x := c.chunk k
  let n := (d.segAt k g).2
  (c.dataAt k g).bind fun a => (gather x.dat (kidKey node a) (x.units d k g)).map (segOf d n (x.masks d k g))

/-- The running value of a segment after every level, once every child's has come (12:R386, R387). -/
def Pkg.collTotal (s : Pkg) (c : Coll) (k g : Nat) : Option Seg :=
  (c.kids s.node).foldl
    (fun acc n => match acc, c.kidSeg n k g with
      | some a, some b => some (Seg.add c.d a b)
      | _, _ => none)
    (some (s.collPartial c k g))

/-- Send a stream to a node; a code other than OK aborts the collective with MEMBER_LOST (12:R398). -/
def Pkg.collOut (s : Pkg) (p seq node kind idx : Nat) (bs : List Byte) : Pkg :=
  if (s.coll p seq).isNone then s
  else
    let (s, c) := s.collStream p seq node kind idx bs
    if c = 0 then s else s.collAbort p seq 4 s.node false

/-- Send a stream to every child. -/
def Pkg.collOutKids (s : Pkg) (c : Coll) (kind idx : Nat) (bs : List Byte) : Pkg :=
  (c.kids s.node).foldl (fun s n => s.collOut c.part c.seq n kind idx bs) s

/-- Change a collective that is still known, and a chunk of it. -/
def Pkg.modColl (s : Pkg) (p seq : Nat) (f : Coll → Coll) : Pkg := match s.coll p seq with
  | none => s
  | some c => s.setColl (f c)
def Pkg.keepChunk (s : Pkg) (p seq k : Nat) (f : CChunk → CChunk) : Pkg := s.modColl p seq (fun c => c.setChunk k (f (c.chunk k)))

/-- Change a chunk with a packet sent or received: its progress is noted (12:R397). -/
def Pkg.modChunk (s : Pkg) (p seq k : Nat) (f : CChunk → CChunk) : Pkg :=
  (s.keepChunk p seq k f).modColl p seq (fun c => c.note s.tempo.now)

/-- Write result bytes of segment g of chunk k at the root, and send them down (12:R391). -/
def Pkg.collForm (s : Pkg) (c : Coll) (k g : Nat) (t : Seg) : Pkg :=
  let d := c.d
  let x := c.chunk k
  let (codes, cnt) := Seg.result d (x.segExps d k g) t
  let bs := wrCodes d.rf codes
  let idx := k * d.resUnits + g * d.segUnits
  let s := s.dstorePut (d.dst + idx * 256) bs
  let n := ceilDiv bs.length 256
  let s := s.modChunk c.part c.seq k (fun x =>
    { x with sentDat := g + 1, counts := addCounts x.counts (addCounts t.counts cnt)
             res := (List.range n).foldl (fun r i => Tab.insert r (idx + i) 1) x.res })
  s.collOutKids c 6 idx bs

/-- The header a member sends, its own counts and stamps combined with its children's (12:R396, R399). -/
def Pkg.collHeader (s : Pkg) (c : Coll) (k : Nat) : List Byte :=
  let x := c.chunk k
  let first := decide (k = 0)
  let st := if first then (c.ready, s.node, c.ready) else (0, 0, 0)
  let (st, cnt) := (c.kids s.node).foldl
    (fun (acc : (Nat × Nat × Nat) × List Nat) n =>
      let h := Tab.get [] x.hdr n
      let mx := fld h 16 8
      let nd := fld h 24 4
      let mn := fld h 32 8
      let (a, b, m) := acc.1
      let up := first && (decide (a < mx) || (decide (mx = a) && decide (nd < b)))
      ((if up then mx else a, if up then nd else b, if first then min m mn else m),
       addCounts acc.2 ((List.range 4).map (fun i => fld h (40 + 4 * i) 4))))
    (st, x.counts)
  natLe 8 c.hash ++ natLe 4 k ++ natLe 4 0 ++ natLe 8 st.1 ++ natLe 4 st.2.1 ++ natLe 4 0 ++ natLe 8 st.2.2
    ++ (List.range 4).flatMap (fun i => natLe 4 (cnt.getD i 0)) ++ natLe 8 0

/-- Segments of chunk k whose result has come down or been formed. -/
def Coll.segsDown (c : Coll) (k : Nat) : Nat :=
  let d := c.d
  let x := c.chunk k
  ((List.range (d.segs k)).takeWhile (fun g =>
    let n := ceilDiv ((d.segAt k g).2 * d.rw) 256
    (List.range n).all (fun i => Tab.get 0 x.res (k * d.resUnits + g * d.segUnits + i) = 1))).length

/-- The first segment from g on that has no window slot; `fuel` bounds the search. -/
def CChunk.firstFree (x : CChunk) (g : Nat) : Nat → Nat
  | 0 => g
  | fuel + 1 => if x.win.contains g then CChunk.firstFree x (g + 1) fuel else g

/-- Segments of chunk k that hold a slot or have held one: the first without its result and without a window slot has the base slot, and
those after it in window slots are in the engine too. A window slot is free again once its segment's result is down (12:R392 to R394). -/
def Coll.allowed (c : Coll) (k : Nat) : Nat :=
  let x := c.chunk k
  let base := x.firstFree (c.segsDown k) (x.win.length + 1)
  min (c.d.segs k) (x.firstFree (base + 1) (x.win.length + 1))

/-- Window slots that chunk k holds (12:R394). -/
def Coll.winHeld (c : Coll) (k : Nat) : Nat := ((c.chunk k).win.filter (fun g => decide (c.segsDown k ≤ g))).length

/-- Whether chunk k has a source line that cannot be read (12:R398). -/
def Pkg.collUnreadable (s : Pkg) (c : Coll) (k : Nat) : Bool :=
  c.locals.any (fun l => s.unreadable (l.2 + k * c.d.ce * c.d.sw) (c.d.elems k * c.d.sw))

/-- Grants to the children rise with what the engine can hold (12:R395). -/
def Pkg.collGrant (s : Pkg) (c : Coll) (k : Nat) : Pkg :=
  let a := c.allowed k
  if (c.chunk k).granted < a && !((c.kids s.node).isEmpty) then
    ((s.modChunk c.part c.seq k (fun x => { x with granted := a })).modColl c.part c.seq (fun c => { c with grants := c.grants + 1 })).collOutKids c 0
      (c.grants / 16) (natLe 8 c.hash ++ natLe 4 k ++ natLe 4 a)
  else s

/-- Pass 1 of a chunk: combined and sent up, or, at the root, known and sent down (12:R388). -/
def Pkg.collPass1 (s : Pkg) (c : Coll) (k : Nat) : Pkg :=
  let d := c.d
  let x := c.chunk k
  let par := c.parent s.node
  if d.mode = 0 || x.sentExp || !c.full || (par.isSome && x.grant = 0) then s
  else
    let got := (c.kids s.node).map (fun n => gather x.exp (kidKey n (k * d.expUnits)) (ceilDiv (2 * d.blocks k) 256))
    if got.any Option.isNone then s
    else if s.collUnreadable c k then s.collAbort c.part c.seq 6 s.node false
    else
      let ws := got.foldl (fun ws b => (ws.zip (expWords (d.blocks k) (b.getD []))).map (fun p => expJoin p.1 p.2)) (s.collExp c k)
      match par with
      | some q => (s.modChunk c.part c.seq k (fun x => { x with sentExp := true })).collOut c.part c.seq q 3 (k * d.expUnits) (expBytes ws)
      | none =>
        ((s.modChunk c.part c.seq k (fun x => { x with sentExp := true })).modColl c.part c.seq (fun c => c.withExp k (expBytes ws))).collOutKids c 4
          (k * d.expUnits) (expBytes ws)

/-- The next segment of a chunk, if it can be combined: up, or, at the root, formed (12:R386, R391). -/
def Pkg.collSegment (s : Pkg) (c : Coll) (k : Nat) : Pkg :=
  let d := c.d
  let x := c.chunk k
  let g := x.sentDat
  let par := c.parent s.node
  let limit := if par.isSome then min x.grant (c.allowed k) else c.allowed k
  if !c.full || decide (limit ≤ g) || (d.mode = 1 && x.expTot.isEmpty) then s
  else if s.collUnreadable c k then s.collAbort c.part c.seq 6 s.node false
  else
    match s.collTotal c k g, c.dataAt k g with
    | some t, some a =>
      match par with
      | none => s.collForm c k g t
      | some q =>
        (s.modChunk c.part c.seq k (fun x => { x with sentDat := g + 1, counts := addCounts x.counts t.counts })).collOut c.part c.seq q 5 a (Seg.bytes d t)
    | _, _ => s

/-- The header of a chunk, 64 bytes of the stream of headers, once every segment has left and every child's header has come (12:R396). -/
def Pkg.collHdr (s : Pkg) (c : Coll) (k : Nat) : Pkg :=
  let x := c.chunk k
  if x.sentHdr || decide (x.sentDat < c.d.segs k) || !((c.kids s.node).all (fun n => (Tab.find x.hdr n).isSome)) then s
  else
    let h := s.collHeader c k
    match c.parent s.node with
    | some q => (s.modChunk c.part c.seq k (fun x => { x with sentHdr := true })).collOut c.part c.seq q 1 (k / 4) h
    | none => (s.modChunk c.part c.seq k (fun x => { x with sentHdr := true, down := h })).collOutKids c 2 (k / 4) h

/-- A chunk whose result bytes are written and whose header is known is done; its add waits for its invalidations (12:R382). -/
def Pkg.collDone (s : Pkg) (c : Coll) (k : Nat) : Pkg :=
  let d := c.d
  let x := c.chunk k
  if x.done || x.down.isEmpty || decide (c.segsDown k < d.segs k) then s
  else
    let ls := (linesOf (d.dst + k * d.ce * d.rw) (d.elems k * d.rw)).filter s.invals.contains
    let c' := c.setChunk k { x with done := true, lines := ls, hdr := [], exp := [], dat := [], expIn := [] }
    let c' := if k = 0 then { c' with late := (fld x.down 16 8, fld x.down 24 4, fld x.down 32 8) } else c'
    s.setColl { c' with total := addCounts c'.total ((List.range 4).map (fun i => fld x.down (40 + 4 * i) 4)) }

/-- The lateness histogram bin of R399. -/
def lateBin (ns : Nat) : Nat := if ns < 1000 then 0 else min 15 (Nat.log2 (ns / 1000) + 1)

/-- Completion of a collective: its record, its counters; it is no longer outstanding (12:R382, R393, R399, R401). -/
def Pkg.collFinish (s : Pkg) (c : Coll) : Pkg :=
  let p := c.part
  let (mx, nd, mn) := c.late
  let own := c.ready - mn
  let s := s.collRecord c { status := 0, node := nd, late := mx - mn, own := own, counts := c.total }
  let s := if nd = s.node then s.bump (0x5810 + p) 0x0A 1 else s
  let s := (s.bump (0x5830 + p) (lateBin own + 1) 1).bump (0x5810 + p) 3 1
  let s := (s.setEnt (0x5810 + p) 0x0B c.seq).setEnt (0x5810 + p) 0x0C (mx - mn)
  (List.range 4).foldl (fun s i => s.bump (0x5810 + p) (0x0D + i) (c.total.getD i 0)) s

/-- Chunks are flagged in order: 1 is added to the chunk word, after the record for the last (12:R382). -/
def Pkg.collFlag (s : Pkg) (p seq : Nat) : Nat → Pkg
  | 0 => s
  | fuel + 1 =>
    match s.coll p seq with
    | none => s
    | some c =>
      let x := c.chunk c.flagged
      if !x.done || !x.lines.isEmpty then s
      else
        let last := decide (c.flagged + 1 = c.d.chunks)
        let s := if last then s.collFinish c else s
        let s := s.dwordInc c.d.record
        if last then let s := s.dropColl p seq
          s.setEnt (0x5810 + p) 2 (s.collCount p)
        else Pkg.collFlag (s.setColl { c.setChunk c.flagged {} with flagged := c.flagged + 1 }) p seq fuel

/-- The chunks the F-dies work on: the lowest of each residue that is not done (12:R383). -/
def Coll.current (c : Coll) : List Nat :=
  (List.range 8).filterMap (fun r =>
    ((List.range (8 * (c.chunks.length + 2))).map (· + c.flagged)).find? (fun k => decide (k % 8 = r) && !((c.chunk k).done))
      |>.bind (fun k => if k < c.d.chunks then some k else none))

/-- One look at chunk k: what can be done next is done. -/
def Pkg.collChunk (s : Pkg) (p seq k : Nat) : Pkg :=
  let go (s : Pkg) (f : Pkg → Coll → Nat → Pkg) : Pkg := match s.coll p seq with
    | some c => if c.admitted then f s c k else s
    | none => s
  go (go (go (go (go s Pkg.collGrant) Pkg.collPass1) Pkg.collSegment) Pkg.collHdr) Pkg.collDone

/-- Look at every current chunk until nothing is left to do; `fuel` bounds the looks. -/
def Pkg.collAdvance (s : Pkg) (p seq : Nat) : Nat → Pkg
  | 0 => s
  | fuel + 1 =>
    match s.coll p seq with
    | none => s
    | some c =>
      let s' := (c.current.foldl (fun s k => s.collChunk p seq k) s).collFlag p seq (c.d.chunks + 1)
      if s'.colls = s.colls then s' else Pkg.collAdvance s' p seq fuel

/-- Looks that a collective can need at once. -/
def Coll.work (c : Coll) : Nat := (c.d.chunks + 1) * (c.d.segsFull + 4)

/-- Advance a collective as far as it goes. -/
def Pkg.collGo (s : Pkg) (p seq : Nat) : Pkg := match s.coll p seq with
  | some c => s.collAdvance p seq c.work
  | none => s

/-- A local contribution joins an admitted collective (12:R378). -/
def Pkg.collJoin (s : Pkg) (c : Coll) (tile : Nat) (desc : List Byte) (at_ : Nat) : Pkg :=
  let d := collDesc desc
  if { d with src := 0 } ≠ { c.d with src := 0 } || decide (c.d.lcount ≤ c.locals.length) then s.collAbort c.part c.seq 3 s.node false
  else s.setColl { c.note s.tempo.now with locals := c.locals ++ [(tile, d.src)], ready := max c.ready at_ }

/-- A committed contribution reaches the collective engines: it joins its collective, or waits for admission (12:R377, R378,
R393). -/
def Pkg.contribute (s : Pkg) (p tile : Nat) (desc : List Byte) : Pkg :=
  let seq := (collDesc desc).seq
  match (s.coll p seq).filter (·.admitted) with
  | some c => (s.collJoin c tile desc s.tempo.now).collGo p seq
  | none =>
    let s := if 64 ≤ s.collCount p then s.bump (0x5810 + p) 9 1 else s
    { s with collWait := s.collWait ++ [(p, tile, desc, s.tempo.now)] }

/-- s is lower than t by serial arithmetic (12:R394). -/
def seqLower (a b : Nat) : Bool := let d := (b + 2 ^ 32 - a) % 2 ^ 32
  decide (1 ≤ d) && decide (d < 2 ^ 31)

/-- Ascending without repeats. -/
def ascending : List Nat → Bool
  | a :: b :: t => decide (a < b) && ascending (b :: t)
  | _ => true

/-- A GRANT or header whose hash or sender is wrong aborts the collective (12:R395, R398). -/
def Pkg.collSender (s : Pkg) (c : Coll) (src : Nat) (up : Bool) (hash : Option Nat) (k : Pkg → Pkg) : Pkg :=
  let ok := if up then (c.kids s.node).contains src else c.parent s.node = some src
  if !ok || hash.any (fun h => h ≠ c.hash) then s.collAbort c.part c.seq 2 s.node false src else k s

/-- A GRANT for an admitted collective. -/
def Pkg.collGranted (s : Pkg) (c : Coll) (src : Nat) (pay : List Byte) : Pkg :=
  s.collSender c src false (some (fld pay 0 8)) fun s =>
    s.modChunk c.part c.seq (fld pay 8 4) (fun x => { x with grant := max x.grant (fld pay 12 4) })

/-- COLL_ADMIT: the lowest waiting sequence number of a partition is admitted, where fewer than 64 are outstanding (12:R378,
R381, R393, R398). -/
def collAdmit (s : Pkg) (p : Nat) : Pkg :=
  let mine := s.collWait.filter (fun w => w.1 = p)
  let seqs := mine.map (fun w => (collDesc w.2.2.1).seq)
  match seqs with
  | [] => s
  | q :: qs =>
    let seq := qs.foldl (fun a b => if seqLower b a then b else a) q
    if 64 ≤ s.collCount p then s
    else
      let (now, later) := mine.partition (fun w => (collDesc w.2.2.1).seq = seq)
      match now with
      | [] => s
      | w :: more =>
        let d := collDesc w.2.2.1
        let early := match s.coll p seq with
          | some c => c.early
          | none => []
        let s : Pkg := { s.dropColl p seq with collWait := s.collWait.filter (fun (v : Nat × Nat × List Byte × Nat) => v.1 ≠ p) ++ later }
        let raw := (List.range d.mcount).map (fun i => s.dstore.rd (d.members + 4 * i) 4)
        let bad := raw.any (fun m => decide (2 ^ 17 ≤ m)) || !(ascending raw) || !(raw.contains s.node) || s.unreadable d.members (4 * d.mcount)
        let ms := raw.map (· % 2 ^ 17)
        let c : Coll :=
          { part := p, seq := seq, desc := w.2.2.1, locals := [(w.2.1, d.src)], members := ms, hash := if bad then 0 else d.hash ms
            admitted := true, progress := s.tempo.now, ready := w.2.2.2 }
        let s : Pkg := { s with colls := s.colls ++ [c] }
        let s := (s.collRecord c {}).setEnt (0x5810 + p) 2 (s.collCount p)
        if bad then s.collAbort p seq 5 s.node false
        else
          match s.collGone.find? (fun (g : Nat × Nat × Nat) => decide (g.1 = p) && decide (g.2.1 = seq)) with
          | some g => s.collAbort p seq (g.2.2 % 256) (if g.2.2 / 256 % 2 = 1 then g.2.2 / 512 else s.node) (g.2.2 / 256 % 2 = 1)
          | none =>
            let s := more.foldl (fun (s : Pkg) v => match s.coll p seq with
              | some c => s.collJoin c v.2.1 v.2.2.1 v.2.2.2
              | none => s) s
            let s := early.foldl (fun (s : Pkg) e => match s.coll p seq with
              | some c => s.collGranted c e.1 e.2
              | none => s) s
            s.collGo p seq

/-- WINDOW_SLOT_GRANT: F-die f gives one free window slot to the partition's outstanding collective of the lowest number that
has a segment ready to start (12:R392, R394). -/
def windowGrant (s : Pkg) (p f : Nat) : Pkg :=
  let mine := s.colls.filter (fun c => decide (c.part = p) && c.admitted)
  let cur (c : Coll) : Option Nat := c.current.find? (fun k => decide ((k + c.seq) % 8 = f))
  let used (c : Coll) : Nat := match cur c with
    | some k => c.winHeld k
    | none => 0
  let total := mine.foldl (fun n c => n + used c) 0
  let ready := mine.filter (fun c => match cur c with
    | some k => decide (c.allowed k < c.d.segs k) && decide (used c < 64)
    | none => false)
  if s.ent (0x2000 + p) 4 / 64 - 64 ≤ total then s
  else
    match ready with
    | [] => s
    | c :: cs =>
      let c := cs.foldl (fun a b => if seqLower b.seq a.seq then b else a) c
      match cur c with
      | none => s
      | some k =>
        ((s.keepChunk p c.seq k (fun x => { x with win := c.allowed k :: x.win })).peak (0x5810 + p) 8 (total + 1)).collGo p c.seq

/-- A COLL packet of one kind arrives: the target's checks 1, 2 and 4, once each, acknowledged; then `k` with the partition,
the sequence number, the source, the stream index and the payload. One that came before is answered again alike, and counted (11:R373,
12:R395). -/
def Pkg.collRecv (s : Pkg) (n kind : Nat) (k : Pkg → Nat → Nat → Nat → Nat → List Byte → Pkg) : Pkg :=
  s.withRx n (fun h => decide (h.op = opCOLL) && decide (bits h.spec 35 32 = kind)) fun s pkt h =>
    let c := s.linkCheck n h
    if c ≠ 0 then s.answer h opACK c 0 []
    else
      let x := s.ctx h.src
      match winCheck x.rx2 x.rx2set h.seq with
      | 2 => s
      | 1 => ((s.setCtx h.src x).bump 0x5000 0x0D 1).answer h opACK (if (s.partOfJob h.job).isSome then 0 else 3) x.rx2 []
      | _ =>
        let (lo, set) := winApply x.rx2 x.rx2set h.seq
        let s := s.setCtx h.src { x with rx2 := lo, rx2set := set }
        match s.partOfJob h.job with
        | none => (s.jobMismatch h.job h.src).answer h opACK 3 lo []
        | some p => k (s.answer h opACK 0 lo []) p (bits h.spec 31 0) h.src (bits h.spec 63 36) (pkt.drop 32)

/-- A packet of an admitted collective, from a child or from the parent; a RESEND is no progress (12:R397). -/
def Pkg.collFrom (s : Pkg) (n kind : Nat) (up : Bool) (hash : List Byte → Option Nat) (k : Pkg → Coll → Nat → Nat → List Byte → Pkg) : Pkg :=
  s.collRecv n kind fun s p seq src idx pay =>
    match s.coll p seq with
    | none => s
    | some c =>
      if !c.admitted then s
      else
        let c' := if kind = 7 then c else c.note s.tempo.now
        (s.collSender c src up (hash pay) fun s => k (s.setColl c') c' src idx pay).collGo p seq

/-- GRANT: of an admitted collective, or kept until its admission (12:R395). -/
def grant (s : Pkg) (n : Nat) : Pkg :=
  s.collRecv n 0 fun s p seq src _ pay =>
    match s.coll p seq with
    | some c => if c.admitted then (s.collGranted c src pay).collGo p seq else s.setColl { c with early := c.early ++ [(src, pay)] }
    | none => { s with colls := s.colls ++ [{ part := p, seq := seq, early := [(src, pay)] }] }

/-- HDR_UP (12:R396). -/
def hdrUp (s : Pkg) (n : Nat) : Pkg :=
  s.collFrom n 1 true (fun b => some (fld b 0 8)) fun s c src _ pay =>
    s.modChunk c.part c.seq (fld pay 8 4) (fun x => { x with hdr := Tab.insert x.hdr src pay })

/-- HDR_DOWN, its hash checked, forwarded to the children (12:R391, R396, R398). -/
def hdrDown (s : Pkg) (n : Nat) : Pkg :=
  s.collFrom n 2 false (fun b => some (fld b 0 8)) fun s c _ idx pay =>
    (s.modChunk c.part c.seq (fld pay 8 4) (fun x => { x with down := pay })).collOutKids c 2 idx pay

/-- EXP_UP (12:R388). -/
def expUp (s : Pkg) (n : Nat) : Pkg :=
  s.collFrom n 3 true (fun _ => none) fun s c src idx pay =>
    s.modChunk c.part c.seq (idx / max 1 c.d.expUnits) (fun x => { x with exp := Tab.insert x.exp (kidKey src idx) pay })

/-- EXP_DOWN: the root's pass-1 values, forwarded; with the last packet the chunk's values are known (12:R388). -/
def expDown (s : Pkg) (n : Nat) : Pkg :=
  s.collFrom n 4 false (fun _ => none) fun s c _ idx pay =>
    let d := c.d
    let k := idx / max 1 d.expUnits
    let s := (s.modChunk c.part c.seq k (fun x => { x with expIn := Tab.insert x.expIn idx pay })).modColl c.part c.seq fun c =>
      match gather (c.chunk k).expIn (k * d.expUnits) (ceilDiv (2 * d.blocks k) 256) with
      | some tot => c.withExp k (tot.take (2 * d.blocks k))
      | none => c
    s.collOutKids c 4 idx pay

/-- DATA_UP (12:R395). -/
def dataUp (s : Pkg) (n : Nat) : Pkg :=
  s.collFrom n 5 true (fun _ => none) fun s c src idx pay =>
    match c.chunkOf idx c.current with
    | some k => s.modChunk c.part c.seq k (fun x => { x with dat := Tab.insert x.dat (kidKey src idx) pay })
    | none => s

/-- DATA_DOWN: result bytes are written unchanged and forwarded (12:R391). -/
def dataDown (s : Pkg) (n : Nat) : Pkg :=
  s.collFrom n 6 false (fun _ => none) fun s c _ idx pay =>
    let d := c.d
    let s := s.dstorePut (d.dst + idx * 256) (pay.take (d.n * d.rw - idx * 256))
    (s.modChunk c.part c.seq (idx / max 1 d.resUnits) (fun x => { x with res := Tab.insert x.res idx 1 })).collOutKids c 6 idx pay

/-- RESEND: segments already sent up go again (12:R395, R400). -/
def resend (s : Pkg) (n : Nat) : Pkg :=
  s.collFrom n 7 false (fun _ => none) fun s c src _ pay =>
    let k := fld pay 0 4
    ((List.range (fld pay 8 4)).map (· + fld pay 4 4)).foldl
      (fun s g =>
        if g < (c.chunk k).sentDat then
          match s.collTotal c k g, c.dataAt k g with
          | some t, some a => (s.modColl c.part c.seq (·.note s.tempo.now)).collOut c.part c.seq src 5 a (Seg.bytes c.d t)
          | _, _ => s
        else s) s

/-- The causes and origins of ABORT packets for a collective that came to any port in the ns of Tempo `at_` and wait. -/
def Pkg.abortsAt (s : Pkg) (p seq at_ : Nat) : List (Nat × Nat) :=
  s.net.ports.flatMap fun e => e.2.rx.filterMap fun r =>
    let h := Hdr.dec r.packet
    if r.at_ / 256 = at_ && h.op = opCOLL && bits h.spec 35 32 = 8 && bits h.spec 31 0 = seq && s.partOfJob h.job == some p then
      some (fld r.packet 44 4, byteAt r.packet 40)
    else none

/-- When the ABORT next in turn on a port came. -/
def Pkg.abortTime (s : Pkg) (n : Nat) : Nat :=
  (((s.port n).rx.find? (fun r => let h := Hdr.dec r.packet
    decide (h.op = opCOLL) && decide (bits h.spec 35 32 = 8))).map (fun r => r.at_ / 256)).getD 0

/-- ABORT from a member; of those of one ns the one of the lower originating node is recorded (12:R398, R400, log entry 99). -/
def collAborted (s : Pkg) (n : Nat) : Pkg :=
  let t := s.abortTime n
  s.collRecv n 8 fun s p seq _ _ pay =>
    let (org, st) := (s.abortsAt p seq t).foldl (fun (a : Nat × Nat) b => if b.1 < a.1 then b else a) (fld pay 12 4, byteAt pay 8)
    match s.coll p seq with
    | some c => if c.admitted then s.collAbort p seq st org true else (s.dropColl p seq).collRemember p seq st org true
    | none => s.collRemember p seq st org true

/-- COLL_STALEMATE: 50 ms without progress, not counting the time for which the member held or checkpointed (12:R397). -/
def stalemate (s : Pkg) (p seq : Nat) : Pkg :=
  match s.coll p seq with
  | none => s
  | some c =>
    if c.admitted && (s.part p).st == .running && decide (c.progress + c.paused + 50000000 ≤ s.tempo.now) then s.collAbort p seq 1 s.node false else s

/-- A member that holds or checkpoints no longer: the count of its collectives stood for that time, or for as much of it as lies after their
last progress (12:R397). -/
def Pkg.collUnpause (s : Pkg) (p : Nat) : Pkg :=
  let from_ := (s.part p).heldAt
  { s with colls := mapIf (fun (c : Coll) => c.part = p) (fun c => { c with paused := c.paused + (s.tempo.now - max from_ c.progress) }) s.colls }

/-- REDUCTION_ECC_ERROR: corrected, or the segment being combined is asked for again and its sources reread (12:R400). -/
def reductionEcc (s : Pkg) (p seq k : Nat) (corrected : Bool) : Pkg :=
  if corrected then s.bump 0x5800 3 1
  else
    match s.coll p seq with
    | none => s
    | some c =>
      let x := c.chunk k
      let g := x.sentDat
      if !c.admitted || !(c.current.contains k) || decide (c.d.segs k ≤ g) then s
      else
        let s := match c.dataAt k g with
          | some base => s.keepChunk p seq k (fun x =>
            { x with dat := x.dat.filter (fun e => !(decide (base ≤ e.1 % 2 ^ 28) && decide (e.1 % 2 ^ 28 < base + x.units c.d k g))) })
          | none => s
        let s := (s.bump 0x5800 4 1).modColl p seq (fun c => { c with resends := c.resends + 1 })
        (s.collOutKids c 7 (c.resends / 16) (natLe 4 k ++ natLe 4 g ++ natLe 4 1 ++ natLe 4 0)).collGo p seq

/-- Every collective looks again: an invalidation has been acknowledged (12:R382). -/
def Pkg.collFlagAll (s : Pkg) : Pkg := s.colls.foldl (fun s c => s.collGo c.part c.seq) s

end Sys2Proof

namespace Sys2Proof.Machine

open Sys2Proof

/-- SCACHE_INVALIDATION: what waited for it goes on, collectives too (08:R252, 12:R382). -/
def execScacheInvalidation (line : Nat) (s : State) : Res := act true s (fun k => (k.invalidated line).collFlagAll)
/-- COLL_ADMIT (12:R393). -/
def execCollAdmit (p : Nat) (s : State) : Res := onPart p s (fun k => collAdmit k p)
/-- WINDOW_SLOT_GRANT (12:R394). -/
def execWindowSlotGrant (p f : Nat) (s : State) : Res := act (decide (p < partMax) && decide (f < 8)) s (fun k => windowGrant k p f)
/-- GRANT (12:R395). -/
def execGrant (n : Nat) (s : State) : Res := onPort n s (fun k => grant k n)
/-- HDR_UP (12:R396). -/
def execHdrUp (n : Nat) (s : State) : Res := onPort n s (fun k => hdrUp k n)
/-- HDR_DOWN (12:R396). -/
def execHdrDown (n : Nat) (s : State) : Res := onPort n s (fun k => hdrDown k n)
/-- EXP_UP (12:R388). -/
def execExpUp (n : Nat) (s : State) : Res := onPort n s (fun k => expUp k n)
/-- EXP_DOWN (12:R388). -/
def execExpDown (n : Nat) (s : State) : Res := onPort n s (fun k => expDown k n)
/-- DATA_UP (12:R395). -/
def execDataUp (n : Nat) (s : State) : Res := onPort n s (fun k => dataUp k n)
/-- DATA_DOWN (12:R391). -/
def execDataDown (n : Nat) (s : State) : Res := onPort n s (fun k => dataDown k n)
/-- RESEND (12:R395). -/
def execResend (n : Nat) (s : State) : Res := onPort n s (fun k => resend k n)
/-- ABORT (12:R398). -/
def execAbort (n : Nat) (s : State) : Res := onPort n s (fun k => collAborted k n)
/-- COLL_STALEMATE (12:R397). -/
def execCollStalemate (p seq : Nat) (s : State) : Res := onPart p s (fun k => stalemate k p seq)
/-- REDUCTION_ECC_ERROR (12:R400). -/
def execReductionEccError (p seq chunk : Nat) (corrected : Bool) (s : State) : Res := onPart p s (fun k => reductionEcc k p seq chunk corrected)

end Sys2Proof.Machine
end

