-- ==== Sys2Proof/Machine/HostOps.lean ====
section
/-!
DEFINITION. Completions of host commands and the pending entries of a partition's queues (14:R432, R433, R435).
-/

namespace Sys2Proof

/-- Status codes (14:R435). -/
def stOK : Nat := 0
def stBadState : Nat := 1
def stBadOperand : Nat := 2
def stResource : Nat := 3
def stLoadCheck : Nat := 4
def stInputLate : Nat := 5
def stStageRefused : Nat := 6
def stLaunchRefused : Nat := 7
def stShape : Nat := 8
def stCorrupt : Nat := 9
def stNotPriv : Nat := 10
def stPoolFull : Nat := 11
def stRegion : Nat := 12
def stDiscarded : Nat := 13

/-- Change a partition's queues. -/
def Pkg.setQ (s : Pkg) (p : Nat) (q : Queue) : Pkg := s.setPart p { s.part p with q := q }

/-- A command's ID: a number that tells a command read before a reset of the queue apart, its count of resets above the 32 bits
(14:R433, 18:R553). -/
def cmdId (e : List Byte) : Nat := fld e 4 4 + 2 ^ 32 * fld e 64 8

/-- A host DMA of a command: abandoned where the queue has been reset since its reading (18:R553). -/
def Pkg.hostDma (s : Pkg) (p id addr : Nat) (data : List Byte) : Pkg :=
  if id / 2 ^ 32 = (s.part p).q.gen then s.emit (.hostWrite p addr data) else s

/-- A command completes: its completion waits to be posted, and partition.last_status takes its status (14:R433, R455).
The phase bit is put in when it is posted. A completion of a command read before a reset of the queue is discarded (18:R553). -/
def Pkg.complete (s : Pkg) (p id op status result : Nat) : Pkg :=
  let q := (s.part p).q
  let c := natLe 4 id ++ natLe 2 status ++ natLe 1 0 ++ natLe 1 op ++ natLe 8 result
  (if id / 2 ^ 32 = q.gen then s.setQ p { q with wait := q.wait ++ [c] } else s).setEnt (0x2000 + p) 0x0A status

end Sys2Proof
end

