-- ==== Sys2Proof/Machine/PartOps.lean ====
section
/-!
DEFINITION. Stopping a partition: what unload, rollback and a fault outside single-fault scope discard (13:R416, 14:R431).
-/

namespace Sys2Proof

/-- Tiles and harts of a partition. -/
def Pkg.tilesOfPart (s : Pkg) (p : Nat) : List Nat := tilesOf (s.part p).dies
def Pkg.hartsOfPart (s : Pkg) (p : Nat) : List Nat := (s.part p).harts

/-- Every tile and hart stops; uncommitted plies and hart plies are discarded, with engine writes on their way (14:R431 step 1). -/
def Pkg.stopUnits (s : Pkg) (p : Nat) : Pkg :=
  let s := (s.takeWrites (fun w => decide (w.part = p) && decide (w.src ≤ 3))).2
  let (ws, s) := s.takeWrites (fun w => decide (w.part = p))
  let s := ws.foldl Pkg.applyWrite s
  let s := { s with tiles := s.tiles.map (fun (e : Nat × Tile) =>
    if e.2.part = p + 1 then
      (e.1, { e.2 with mode := .stopped, buf := [], units := 0, ops := [], waitw := none, core := { e.2.core with region := none }, mx := { e.2.mx with run := none } })
    else e) }
  { s with harts := s.harts.map (fun (e : Nat × Hart) =>
    if e.2.part = p + 1 then (e.1, { e.2 with on := false, buf := [], lines := [], marked := false, wait := .none, resv := none }) else e) }

/-- Queued fabric traffic of a partition is cancelled, with its committed sends still in commit queues only where asked
(14:R431 step 2). -/
def Pkg.cancelPart (s : Pkg) (p : Nat) : Pkg :=
  let job := s.ent (0x2000 + p) 5
  let (k, s) := s.cancelQueued (fun q => decide (q.vc % 2 = 0) && decide (q.vc < 6) && decide (jobOf q.packet = job))
  let s := s.bump (0x5010 + p) 0x0A (if k = 0 then 0 else 1)
  let s := s.dropReqs (fun r => decide (r.part = p))
  { s with net := { s.net with sends := s.net.sends.filter (fun m => m.part ≠ p), held := s.net.held.filter (fun h => jobOf h.2 ≠ job) } }

/-- Outstanding collectives abort with MEMBER_LOST; what waits for an admission is forgotten (12:R393, 14:R431 step 3). -/
def Pkg.abortColls (s : Pkg) (p : Nat) : Pkg :=
  let s := { s with collWait := s.collWait.filter (fun w => w.1 ≠ p), colls := s.colls.filter (fun c => c.admitted || decide (c.part ≠ p)) }
  (s.colls.filter (fun c => decide (c.part = p))).foldl (fun s c => s.collAbort p c.seq 4 s.node false) s

/-- Queued solver batches and kind 0x06 moves in flight are discarded (14:R431 step 4). -/
def Pkg.discardWork (s : Pkg) (p : Nat) : Pkg :=
  let mine (r : SolveReq) : Bool := r.part = p
  let nb := (s.solveWait.filter mine).length
    + s.engines.foldl (fun n (e : Nat × Engine) => n + (e.2.queue.filter mine).length + (e.2.batches.filter (fun b => mine b.req)).length) 0
  let s := s.bump (0x3800 + p) 5 nb
  let s := { s with
    solveWait := s.solveWait.filter (fun r => !mine r)
    engines := s.engines.map (fun (e : Nat × Engine) =>
      let gone := (e.2.batches.filter (fun (b : Batch) => mine b.req)).map (fun (b : Batch) => b.req.stamp)
      (e.1, { e.2 with queue := e.2.queue.filter (fun r => !mine r), batches := e.2.batches.filter (fun b => !mine b.req)
                       probs := e.2.probs.filter (fun q => !gone.contains q.stamp) })) }
  let s := s.engines.foldl (fun s (e : Nat × Engine) => s.remapDone e.1) s
  let mv (m : TMove) : Bool := m.part = p
  let nm := (s.tier.moves.filter mv).length
  let s := s.bump (0x4110 + p) 0x10 nm
  let ids := (s.tier.moves.filter mv).map (fun (m : TMove) => m.id)
  let lost (j : TJob) : Bool := match j.use with
    | .move _ id _ => ids.contains id
    | _ => false
  { s with tier := { s.tier with moves := s.tier.moves.filter (fun m => !mv m), jobs := s.tier.jobs.filter (fun j => !lost j) } }

/-- The five steps of 14:R431. -/
def Pkg.haltPart (s : Pkg) (p : Nat) : Pkg :=
  let s := ((((s.stopUnits p).cancelPart p).abortColls p).discardWork p)
  let x := s.part p
  s.setPart p { x with recd := { x.recd with mode := 0, wait := [], entries := [] } }

/-- A partition becomes faulted; the command of a capture under way waits as one not yet applied (13:R416, 14:R435). -/
def Pkg.faultPart (s : Pkg) (p : Nat) : Pkg :=
  let x := s.part p
  if x.st == .empty || x.st == .faulted then s
  else
    let s := (s.haltPart p).endYields p 4
    let x := s.part p
    let own : List Pend := match x.cap with
      | some c => if c.origin = 1 then [] else [{ cmd := c.cmd, op := if c.origin = 2 then 0x10 else 6 }]
      | none => []
    s.setPart p { x with st := .faulted, cap := none, mem := { x.mem with state := 0, inputs := x.mem.inputs ++ own } }

/-- Partitions that hold a C-die; all that are not empty. -/
def Pkg.partsOfDie (s : Pkg) (d : Nat) : List Nat := (List.range partMax).filter (fun p => (s.part p).st != .empty && (s.part p).dies.contains d)
def Pkg.partsLive (s : Pkg) : List Nat := (List.range partMax).filter (fun p => (s.part p).st != .empty)

/-- The partition that a C-die is assigned to; 0xFF none (09:R300, 14:R426). -/
def Pkg.partOfDie (s : Pkg) (die : Nat) : Nat := (s.partsOfDie die).headD 0xFF

/-- A mask of partitions. -/
def maskOf (ps : List Nat) : Nat := ps.foldl (fun m p => m ||| 2 ^ p) 0

/-- A failure outside single-fault scope faults partitions and writes its record (13:R415, R416, R418). -/
def Pkg.outOfScope (s : Pkg) (r : CRec) (ps : List Nat) : Pkg :=
  (ps.foldl Pkg.faultPart s).castlingRecord { r with outcome := 2, parts := maskOf ps, more := [maskOf ps] }

end Sys2Proof
end

