-- ==== Sys2Proof/Machine/TierCode.lean ====
section
/-!
DEFINITION. Tile packets: the header, the exponent code, the erasure code over GF(2⁸) (09:R281 to R290).
-/

namespace Sys2Proof

/-- Elements of a panel, exponent width, significand bits of a coded format (09:R284). -/
def panelElems (c : Nat) : Nat := 64 * panelLines c
def codedFmt (c : Nat) (scaled : Bool) : Bool := decide (c ≤ 5) && !scaled

/-- Panel and slot sizes of a region's format (09:R281, R283). -/
def panOf (c : Nat) (scaled : Bool) : Nat := panelP c scaled
def slotOf (c : Nat) (scaled : Bool) : Nat := panOf c scaled + 64
/-- Stripes of an extent (09:R283). -/
def stripesPer (c : Nat) (scaled : Bool) : Nat := 262144 / slotOf c scaled
/-- Extents that a region of n packets needs (09:R277). -/
def extentsOf (c : Nat) (scaled : Bool) (n : Nat) : Nat := ceilDiv (ceilDiv n 10) (stripesPer c scaled)

/-- Bits of a value, lowest first; and highest first. -/
def bitsLe : Nat → Nat → List Bool
  | 0, _ => []
  | n + 1, v => (v % 2 = 1) :: bitsLe n (v / 2)
def bitsBe (n v : Nat) : List Bool := (bitsLe n v).reverse

/-- The value of bits, highest first. -/
def beBits (bs : List Bool) : Nat := bs.foldl (fun v b => 2 * v + b2n b) 0
/-- The value of bits, lowest first. -/
def leBits (bs : List Bool) : Nat := beBits bs.reverse

/-- Pack bits into bytes from bit 0 upward; `n` bytes. -/
def packBits : Nat → List Bool → List Byte
  | 0, _ => []
  | n + 1, bs => BitVec.ofNat 8 (leBits (bs.take 8)) :: packBits n (bs.drop 8)

/-- All bits of bytes, from bit 0 upward. -/
def bitsOf (bs : List Byte) : List Bool := bs.flatMap (fun b => bitsLe 8 b.toNat)

/-- Distinct values with counts. -/
def tally (xs : List Nat) : List (Nat × Nat) :=
  xs.foldl (fun m x => if m.any (fun p => p.1 = x) then mapIf (fun (p : Nat × Nat) => p.1 = x) (fun p => (p.1, p.2 + 1)) m else m ++ [(x, 1)]) []

/-- The symbols: exponents by descending count, lower value first on ties, at most 15 (09:R284). -/
def symbolsOf (xs : List Nat) : List Nat :=
  ((sortBy (fun (a b : Nat × Nat) => decide (b.2 < a.2) || (decide (a.2 = b.2) && decide (a.1 ≤ b.1))) (tally xs)).map (·.1)).take 15

/-- The code of a rank, leftmost bit first (09:R284). -/
def rankCode (r : Nat) : List Bool :=
  if r = 0 then [false]
  else if r = 1 then [true, false]
  else if r < 4 then [true, true, false] ++ bitsBe 1 (r - 2)
  else if r < 8 then [true, true, true, false] ++ bitsBe 2 (r - 4)
  else [true, true, true, true] ++ bitsBe 3 (r - 8)

/-- The code of an element's exponent: its rank's, or the escape followed by the exponent, highest bit first. -/
def expCode (E : Nat) (syms : List Nat) (x : Nat) : List Bool :=
  match syms.findIdx? (· = x) with
  | some r => rankCode r
  | none => List.replicate 7 true ++ bitsBe E x

/-- The coded body of a panel (09:R284). -/
def codeBody (c : Nat) (panel : List Byte) : Nat × List Byte :=
  let w := fmtWidth c
  let E := fmtExp c
  let M := fmtMant c
  let els := unpackN w (panelElems c) (leNat panel)
  let exps := els.map (fun x => bits x (M + E - 1) M)
  let syms := symbolsOf exps
  let plane := exps.flatMap (expCode E syms)
  let raws := els.map (fun x => x / 2 ^ (w - 1) * 2 ^ M + x % 2 ^ M)
  (syms.length,
   syms.flatMap (natLe 2) ++ packBits (ceilDiv plane.length 8) plane ++ natLe (panelElems c * (w - E) / 8) (packN (w - E) raws))

/-- The stored form of a panel: header and body (09:R282, R285). -/
def storePacket (c : Nat) (scaled compress : Bool) (panel : List Byte) (region idx gen : Nat) : List Byte :=
  let coded := codeBody c panel
  let zero := panel.all (· == 0)
  let useCode := codedFmt c scaled && compress && decide (coded.2.length < panel.length)
  let body := if zero then [] else if useCode then coded.2 else panel
  let h := natLe 1 (c + b2n scaled * 16 + b2n (useCode && !zero) * 32) ++ natLe 1 (if useCode && !zero then coded.1 else 0) ++ natLe 2 0
    ++ natLe 4 body.length ++ natLe 4 idx ++ natLe 2 region ++ natLe 2 0 ++ natLe 4 gen ++ natLe 8 0
  h ++ natLe 4 (crc32c (h ++ body)) ++ body

/-- Read one code: the exponent and what is left (09:R284). -/
def readCode (E : Nat) (syms : List Nat) (bs : List Bool) : Nat × List Bool :=
  let sym (r : Nat) := syms.getD r 0
  match bs with
  | false :: t => (sym 0, t)
  | true :: false :: t => (sym 1, t)
  | true :: true :: false :: t => (sym (2 + beBits (t.take 1)), t.drop 1)
  | true :: true :: true :: false :: t => (sym (4 + beBits (t.take 2)), t.drop 2)
  | true :: true :: true :: true :: t =>
    let k := beBits (t.take 3)
    let t := t.drop 3
    if k = 7 then (beBits (t.take E), t.drop E) else (sym (8 + k), t)
  | _ => (0, [])

/-- Read n codes. -/
def readCodes (E : Nat) (syms : List Nat) : Nat → List Bool → List Nat × List Bool
  | 0, bs => ([], bs)
  | n + 1, bs =>
    let (x, bs) := readCode E syms bs
    let (xs, bs) := readCodes E syms n bs
    (x :: xs, bs)

/-- The panel of a stored packet (09:R282, R284). -/
def loadPacket (c : Nat) (scaled : Bool) (st : List Byte) : List Byte :=
  let P := panOf c scaled
  let len := fld st 4 4
  let body := slice st 32 len
  if len = 0 then List.replicate P 0
  else if !(bit (byteAt st 0) 5) then padTo P body
  else
    let w := fmtWidth c
    let E := fmtExp c
    let M := fmtMant c
    let n := panelElems c
    let k := byteAt st 1
    let syms := (List.range k).map (fun i => fld body (2 * i) 2)
    let all := bitsOf (body.drop (2 * k))
    let (exps, rest) := readCodes E syms n all
    let used := ceilDiv (all.length - rest.length) 8
    let raws := unpackN (w - E) n (leNat (body.drop (2 * k + used)))
    natLe P (packN w ((exps.zip raws).map (fun p => p.2 / 2 ^ M * 2 ^ (w - 1) + p.1 * 2 ^ M + p.2 % 2 ^ M)))

/-- A stored packet that reads good: its length, its CRC, and the region, generation and index it names (09:R290). -/
def packetOk (st : List Byte) (region idx gen : Nat) : Bool :=
  decide (32 ≤ st.length) && decide (32 + fld st 4 4 ≤ st.length)
    && decide (fld st 28 4 = crc32c (st.take 28 ++ slice st 32 (fld st 4 4)))
    && decide (fld st 12 2 = region) && decide (fld st 8 4 = idx) && decide (fld st 16 4 = gen)

/-- Doubling in GF(2⁸) with polynomial 0x11D. -/
def gfDouble (a : Nat) : Nat := if 128 ≤ a then (2 * a) ^^^ 0x11D else 2 * a

/-- Product in GF(2⁸), over the low n bits of b. -/
def gfMulN : Nat → Nat → Nat → Nat
  | 0, _, _ => 0
  | n + 1, a, b => (if b % 2 = 1 then a else 0) ^^^ gfMulN n (gfDouble a) (b / 2)
def gfMul (a b : Nat) : Nat := gfMulN 8 a b

/-- a to the power n. -/
def gfPow (a : Nat) : Nat → Nat
  | 0 => 1
  | n + 1 => gfMul a (gfPow a n)

/-- Inverse: a^254. -/
def gfInv (a : Nat) : Nat := gfPow a 254

/-- Bytes combined. -/
def xorB (a b : List Byte) : List Byte := (a.zip b).map (fun p => p.1 ^^^ p.2)
def scaleB (k : Nat) (a : List Byte) : List Byte := a.map (fun x => BitVec.ofNat 8 (gfMul k x.toNat))

/-- Check slots P and Q of ten data slots, each padded to σ (09:R288). -/
def checkP (sig : Nat) (ds : List (List Byte)) : List Byte := ds.foldl (fun p d => xorB p (padTo sig d)) (List.replicate sig 0)
def checkQ (sig : Nat) (ds : List (List Byte)) : List Byte :=
  (ds.zip (List.range ds.length)).foldl (fun p d => xorB p (scaleB (gfPow 2 d.2) (padTo sig d.1))) (List.replicate sig 0)

/-- Position of a stripe's slot: data d, P as 10, Q as 11 (09:R287). -/
def slotPos (stripe slot : Nat) : Nat :=
  if slot = 10 then stripe % 12 else if slot = 11 then (stripe + 1) % 12 else (stripe + 2 + slot) % 12

/-- The slot that a position holds. -/
def posSlot (stripe pos : Nat) : Nat :=
  let k := (pos + 24 - stripe % 12) % 12
  if k = 0 then 10 else if k = 1 then 11 else k - 2

/-- Rebuild data slot d from slots that came, 0–9 data, 10 P, 11 Q; none where too many are lost (09:R288, R290). -/
def rebuildSlot (sig : Nat) (got : Tab (List Byte)) (d : Nat) : Option (List Byte) :=
  let have_ (i : Nat) := (Tab.find got i).isSome
  let g (i : Nat) := padTo sig (Tab.get [] got i)
  let lost := (List.range 10).filter (fun i => !have_ i)
  let known := (List.range 10).filter have_
  let sumP := known.foldl (fun p i => xorB p (g i)) (List.replicate sig 0)
  let sumQ := known.foldl (fun p i => xorB p (scaleB (gfPow 2 i) (g i))) (List.replicate sig 0)
  match lost with
  | [] => some (g d)
  | [a] =>
    if a ≠ d then some (g d)
    else if have_ 10 then some (xorB (g 10) sumP)
    else if have_ 11 then some (scaleB (gfInv (gfPow 2 a)) (xorB (g 11) sumQ))
    else none
  | [a, b] =>
    if a ≠ d && b ≠ d then some (g d)
    else if have_ 10 && have_ 11 then
      let p := xorB (g 10) sumP
      let q := xorB (g 11) sumQ
      let k := gfInv (gfPow 2 a ^^^ gfPow 2 b)
      let da := scaleB k (xorB q (scaleB (gfPow 2 b) p))
      some (if d = a then da else xorB p da)
    else none
  | _ => if have_ d then some (g d) else none

/-- A rebuilt slot cut to the stored length its header gives. -/
def cutSlot (st : List Byte) : List Byte := st.take (32 + fld st 4 4)

end Sys2Proof
end

