-- ==== Sys2Proof/Machine/LenOps.lean ====
section
/-!
DEFINITION. Shared operations of Lenpel ports: frames, sequencing, commands (10:R305 to R311, R317 to R320).
-/

namespace Sys2Proof

/-- A Lenpel port. -/
def Pkg.lport (s : Pkg) (q : Nat) : LPort := Tab.get {} s.lports q
def Pkg.setLport (s : Pkg) (q : Nat) (x : LPort) : Pkg := { s with lports := Tab.set {} s.lports q x }

/-- Group and position of a port, and the port of a position (09:R267). -/
def grpOf (q : Nat) : Nat := q % 4
def posOf (q : Nat) : Nat := q / 4
def portOf (g pos : Nat) : Nat := 4 * pos + g

/-- Fields of a frame header (10:R305). -/
structure LHdr where
  ftype : Nat := 0
  last : Bool := false
  seq : Nat := 0
  ack : Nat := 0
  tag : Nat := 0
  units : Nat := 0
  idx : Nat := 0
  off : Nat := 0
  len : Nat := 0
  status : Nat := 0
deriving DecidableEq, Repr, Inhabited

/-- A whole frame: header with its CRC, then the units. -/
def LHdr.frame (h : LHdr) (data : List Byte) : List Byte :=
  let lo := natLe 12 (h.ftype + b2n h.last * 2 ^ 4 + h.seq % 1024 * 2 ^ 8 + h.ack % 1024 * 2 ^ 18 + h.tag * 2 ^ 28 + h.units * 2 ^ 40
    + h.idx * 2 ^ 47 + h.off * 2 ^ 50 + h.len * 2 ^ 84 + h.status * 2 ^ 93)
  lo ++ natLe 4 (crc32c (lo ++ data)) ++ data

/-- The header of a received frame. -/
def lhdr (f : List Byte) : LHdr :=
  let v := leNat (f.take 16)
  { ftype := bits v 3 0, last := bit v 4, seq := bits v 17 8, ack := bits v 27 18, tag := bits v 39 28, units := bits v 46 40
    idx := bits v 49 47, off := bits v 83 50, len := bits v 92 84, status := bits v 95 93 }

/-- A frame whose CRC, type and size are good (10:R305, R306); reserved bits are ignored (00:R15). -/
def lframeOk (f : List Byte) : Bool :=
  let h := lhdr f
  decide (16 ≤ f.length) && decide (fld f 12 4 = crc32c (f.take 12 ++ f.drop 16)) && decide (h.ftype ≤ 8)
    && decide (f.length = 16 + 64 * h.units)

/-- Drive LP_RST_N of a port (10:R312). -/
def Pkg.setRst (s : Pkg) (q : Nat) (high : Bool) : Pkg :=
  if (s.lport q).rst = high then s else (s.setLport q { s.lport q with rst := high }).emit (.pin "LP_RST_N" q high)

/-- Put a frame, with the acknowledgement of now, on the two outbound lanes (10:R302, R304, R309). -/
def Pkg.lsend (s : Pkg) (q : Nat) (h : LHdr) (data : List Byte) : Pkg :=
  let x := s.lport q
  let f := { h with ack := (x.rx + 1023) % 1024 : LHdr }.frame data
  let (line, words) := laneOut 2 x.line f
  let s := (s.setLport q { x with line := line }).emit (.frame q h.ftype f)
  if words.isEmpty then s else s.emit (.codewords (24 + q) words)

/-- Emit a frame; after 2,048 others an IDLE goes first (10:R308, R309). -/
def Pkg.lemit (s : Pkg) (q : Nat) (h : LHdr) (data : List Byte) : Pkg :=
  let s := s.lsend q h data
  let x := s.lport q
  let n := if h.ftype = 0 then 0 else x.nonIdle + 1
  if 2048 ≤ n then (s.setLport q { x with nonIdle := 0 }).lsend q { ftype := 0 } [] else s.setLport q { x with nonIdle := n }

/-- With no other frame ready the port sends IDLE (10:R308, R309, log entry 64). -/
def Pkg.lreport (s : Pkg) (q : Nat) : Pkg := if (s.lport q).st == .active then s.lemit q { ftype := 0 } [] else s

/-- Put a kept frame on the lanes. -/
def Pkg.lput (s : Pkg) (q : Nat) (f : LFrame) : Pkg :=
  s.lemit q { ftype := f.ftype, last := f.last, seq := f.seq, tag := f.tag, units := f.data.length / 64, idx := f.idx, off := f.off, len := f.len } f.data

/-- Send a sequenced frame (10:R309, R310). -/
def Pkg.lseq (s : Pkg) (q : Nat) (f : LFrame) : Pkg :=
  let x := s.lport q
  let f := { f with seq := x.tx }
  (s.setLport q { x with tx := (x.tx + 1) % 1024, unacked := x.unacked ++ [f] }).lput q f

/-- Frames of a command (10:R317). -/
def cmdFrames (c : LCmd) (data : List Byte) : List LFrame :=
  if c.ftype = 3 then
    let n := ceilDiv c.len 64
    (List.range n).map (fun i =>
      { ftype := 3, tag := c.tag, idx := i, last := decide (i + 1 = n), off := c.off + 64 * i, len := c.len, data := slice data (4096 * i) 4096 })
  else [{ ftype := c.ftype, tag := c.tag, off := c.off, len := c.len }]

/-- What a brick declared (10:R315). -/
def LPort.latency (x : LPort) : Nat := fld (x.disc.getD []) 20 4
def LPort.maxCmds (x : LPort) : Nat := fld (x.disc.getD []) 24 2
def LPort.writeUnits (x : LPort) : Nat := fld (x.disc.getD []) 28 4

/-- The command may go now: commands and write units within the brick's limits, no read over an unacknowledged write, and
room among the 256 kept frames (10:R310, R319). -/
def LPort.mayGo (x : LPort) (c : LCmd) : Bool :=
  let wr := x.cmds.filter (fun k => k.ftype = 3)
  decide (x.cmds.length < x.maxCmds)
    && (if c.ftype = 3 then decide (wr.foldl (fun n k => n + k.len) 0 + c.len ≤ x.writeUnits)
        else !(wr.any (fun k => overlap k.off k.len c.off c.len)))
    && decide (x.unacked.length + (if c.ftype = 3 then ceilDiv c.len 64 else 1) ≤ 256)

/-- A free tag (10:R319). -/
def LPort.freeTag (x : LPort) : Nat :=
  ((List.range (x.cmds.length + 1)).map (fun i => (x.nextTag + i) % 4096)).find? (fun t => !(x.cmds.any (fun k => decide (k.tag = t)))) |>.getD 0

/-- Send queued commands while the port can (10:R319). -/
def Pkg.lpump (s : Pkg) (q : Nat) : Nat → Pkg
  | 0 => s
  | fuel + 1 =>
    let x := s.lport q
    match x.queue with
    | [] => s
    | (c, data) :: rest =>
      if x.st != .active || !(x.mayGo c) then s
      else
        let c := { c with tag := x.freeTag, sentAt := s.tempo.local_ }
        let s := s.setLport q { x with queue := rest, cmds := x.cmds ++ [c], nextTag := (c.tag + 1) % 4096 }
        Pkg.lpump ((cmdFrames c data).foldl (fun s f => s.lseq q f) s) q fuel

/-- Queue a command on a port. -/
def Pkg.lcmd (s : Pkg) (q : Nat) (c : LCmd) (data : List Byte) : Pkg :=
  let x := s.lport q
  let s := s.setLport q { x with queue := x.queue ++ [(c, data)] }
  s.lpump q (x.queue.length + 1)

/-- Frames up to `ack` are acknowledged (10:R309). -/
def LPort.acked (x : LPort) (ack : Nat) : LPort :=
  if x.unacked.any (fun f => decide (f.seq = ack)) then
    { x with unacked := (x.unacked.dropWhile (fun f => f.seq ≠ ack)).drop 1 }
  else x

/-- One NAK exchanged: counted, and the times within 1 ms kept (10:R311). -/
def Pkg.lnakNote (s : Pkg) (q : Nat) : Pkg :=
  let x := s.lport q
  let now := s.tempo.local_
  (s.setLport q { x with naks := now :: x.naks.filter (fun t => decide (now < t + 1000000)) }).bump (0x4200 + q) 0x0D 1

end Sys2Proof
end

