-- ==== Sys2Proof/Machine/TierOps.lean ====
section
/-!
DEFINITION. Shared operations of the tier engines: regions and the pool, stripe reads, rebuilds and writes, moves of kind
0x06, landing (09).
-/

namespace Sys2Proof

/-- A region. -/
def Pkg.region (s : Pkg) (r : Nat) : TRegion := Tab.get {} s.tier.regions r
def Pkg.setRegion (s : Pkg) (r : Nat) (x : TRegion) : Pkg :=
  { s with tier := { s.tier with regions := Tab.set {} s.tier.regions r x } }

/-- A stripe group. -/
def Pkg.group (s : Pkg) (g : Nat) : TGroup := Tab.get {} s.tier.groups g
def Pkg.setGroup (s : Pkg) (g : Nat) (x : TGroup) : Pkg := { s with tier := { s.tier with groups := Tab.set {} s.tier.groups g x } }

/-- A job. -/
def Pkg.job (s : Pkg) (id : Nat) : Option TJob := s.tier.jobs.find? (fun j => j.id = id)
def Pkg.setJob (s : Pkg) (j : TJob) : Pkg :=
  { s with tier := { s.tier with jobs := mapIf (fun (x : TJob) => x.id = j.id) (fun _ => j) s.tier.jobs } }
def Pkg.endJob (s : Pkg) (id : Nat) : Pkg := { s with tier := { s.tier with jobs := s.tier.jobs.filter (fun j => j.id ≠ id) } }

/-- Sizes of a region. -/
def TRegion.P (r : TRegion) : Nat := panOf r.fmt r.scaled
def TRegion.sig (r : TRegion) : Nat := slotOf r.fmt r.scaled

/-- Group, unit offset of a stripe (09:R287). -/
def TRegion.place (r : TRegion) (stripe : Nat) : Nat × Nat :=
  let k := stripesPer r.fmt r.scaled
  let e := r.ext.getD (stripe / k) (0, 0)
  (e.1, (e.2 * 262144 + stripe % k * r.sig) / 64)

/-- References on a region: held and committed moves, reads (09:R274). -/
def Pkg.regionRefs (s : Pkg) (r : Nat) : Nat :=
  let far (d : List Byte) : Bool := decide (regionOf (moveDesc d).far = r)
  s.tiles.foldl
    (fun n (e : Nat × Tile) =>
      n + (e.2.buf.filter (fun h => match h.2 with
          | .tier d => far d
          | _ => false)).length
        + (e.2.ops.filter (fun o => o.kind == .move && decide (o.code = 6) && o.staged.isNone && far o.desc)).length) 0
  + (s.tier.jobs.filter (fun j => decide (j.region = r) && (match j.use with
      | .move .. | .host .. | .hart .. | .restore .. => true
      | _ => false))).length
  + (s.harts.filter (fun (e : Nat × Hart) =>
      let more (a : HAcc) : Bool := a.rest.any (fun q => decide (q.2.1 = 2) && decide (regionOf q.2.2.1 = r))
      match e.2.wait with
      | .tier _ a | .answered a _ _ _ => more a
      | _ => false)).length

/-- Set the last-reference stamp (09:R274). -/
def Pkg.refer (s : Pkg) (r : Nat) : Pkg := s.setRegion r { s.region r with last := s.tempo.now }

/-- Extents: of the package, in use, free (09:R268). -/
def Pkg.groupExtents (s : Pkg) (g : Nat) : Nat := if (s.group g).formed then (s.group g).gib * 4096 else 0
def Pkg.extentsTotal (s : Pkg) : Nat := (List.range 4).foldl (fun n g => n + s.groupExtents g) 0
def Pkg.extentsUsed (s : Pkg) : Nat := s.tier.regions.foldl (fun n (e : Nat × TRegion) => n + e.2.ext.length) 0
def Pkg.extentsFree (s : Pkg) : Nat := s.extentsTotal - s.extentsUsed

/-- Extents of a partition's regions that `p` picks. -/
def Pkg.partExtents (s : Pkg) (part : Nat) (p : TRegion → Bool) : Nat :=
  s.tier.regions.foldl (fun n (e : Nat × TRegion) => if e.2.part = part && decide (e.2.st ≠ 0) && p e.2 then n + e.2.ext.length else n) 0

/-- Extents granted to creations that wait for evicted regions to close (09:R277). -/
def Pkg.promised (s : Pkg) (f : TCreate → Bool) : Nat := s.tier.creating.foldl (fun n c => if f c then n + c.extents else n) 0

/-- The sum that R276 bounds; a borrowed region granted and not yet created counts as loading. -/
def Pkg.committed (s : Pkg) : Nat :=
  (List.range partMax).foldl (fun n p => n + s.ent (0x4110 + p) 1) 0 + s.promised (·.borrowed)
  + s.tier.regions.foldl (fun n (e : Nat × TRegion) =>
      let r := e.2
      if r.borrowed && (r.st = 1 || (r.st ≠ 0 && r.pinned) || (r.st = 3 && r.toward = 1)) then n + r.ext.length else n) 0

/-- An evictable region (09:R279). -/
def TRegion.evictable (r : TRegion) : Bool := r.borrowed && r.st = 2 && !r.pinned

/-- Region number free longest (09:R269). -/
def Pkg.freeRegion (s : Pkg) : Option Nat :=
  let used := s.tier.regions.filter (fun (e : Nat × TRegion) => e.2.st ≠ 0)
  let was := s.tier.regions.filter (fun (e : Nat × TRegion) => e.2.st = 0)
  let fresh := (List.range 1024).find? (fun r => !(used.any (fun e => e.1 = r)) && !(was.any (fun e => e.1 = r)))
  match fresh with
  | some r => some r
  | none => was.foldl (fun best (e : Nat × TRegion) => match best with
      | none => some e.1
      | some b => if e.2.freed < (s.region b).freed then some e.1 else some b) none

/-- Lowest free extent number of a group. -/
def Pkg.freeExtent (s : Pkg) (g : Nat) : Option Nat :=
  let used := s.tier.regions.flatMap (fun (e : Nat × TRegion) => (e.2.ext.filter (fun x => x.1 = g)).map (·.2))
  match (List.range (used.length + 1)).find? (fun x => !used.contains x) with
  | some x => if x < s.groupExtents g then some x else none
  | none => none

/-- Extent k of region r: group (r + k) mod 4, or the next with room (09:R278). -/
def Pkg.takeExtents (s : Pkg) (r : Nat) (n : Nat) : Pkg :=
  (List.range n).foldl
    (fun s k =>
      match ((List.range 4).map (fun i => (r + k + i) % 4)).findSome? (fun g => (s.freeExtent g).map (fun x => (g, x))) with
      | some e => let x := s.region r
        s.setRegion r { x with ext := x.ext ++ [e] }
      | none => s) s

/-- A region leaves closing when its last reference has ended; with a freed one go the jobs that still write its stripes (09:R272, R274,
R289). -/
def Pkg.closeDone (s : Pkg) (r : Nat) : Pkg :=
  let x := s.region r
  if x.st = 3 && s.regionRefs r = 0 then
    if x.toward = 1 then s.setRegion r { x with st := 1, toward := 0 }
    else
      let s := { s with tier := { s.tier with next := s.tier.next + 1 } }
      let s := { s with tier := { s.tier with jobs := s.tier.jobs.filter (fun j => j.region ≠ r) } }
      s.setRegion r ({ gen := x.gen, freed := s.tier.next } : TRegion)
  else s

/-- A region begins to close (09:R272). -/
def Pkg.closeRegion (s : Pkg) (r toward : Nat) (evicted : Bool) : Pkg :=
  (s.setRegion r { s.region r with st := 3, toward := toward, evicted := evicted, pinned := decide (toward = 1) && (s.region r).pinned }).closeDone r

/-- Level 6 of a partition yields to a floor (13:R423, R424); the cause R423 lists for it is a free value (log entry 5). -/
def Pkg.yieldFloor (s : Pkg) (p : Nat) : Pkg :=
  let (v, s) := s.draw
  s.addYield p { prevails := 5, level := 6, cause := v % 2 ^ 64, start := s.tempo.now, stop := some s.tempo.now }

/-- Extents of regions that eviction is closing (09:R279). -/
def Pkg.evicting (s : Pkg) : Nat :=
  s.tier.regions.foldl (fun n (e : Nat × TRegion) => if e.2.st = 3 && e.2.evicted then n + e.2.ext.length else n) 0

/-- Evict the oldest evictable regions until the need is covered; `fuel` bounds the regions (09:R279). -/
def Pkg.evict (s : Pkg) (need : Nat) (floor : Bool) : Nat → Pkg
  | 0 => s
  | fuel + 1 =>
    if need ≤ s.extentsFree + s.evicting then s
    else
      let best := s.tier.regions.foldl (fun best (e : Nat × TRegion) =>
        if e.2.evictable then match best with
          | none => some e
          | some b => if e.2.last < b.2.last then some e else some b
        else best) (none : Option (Nat × TRegion))
      match best with
      | none => s
      | some (r, x) =>
        let s := (s.bump 0x4100 7 1).bump (0x4110 + x.part) 0x0E 1
        let s := s.raise 0x0301 x.part [r, x.gen, x.ext.length]
        let s := if floor then s.yieldFloor x.part else s
        Pkg.evict (s.closeRegion r 0 true) need floor fuel

/-- The waiting creations that can complete, in order of arrival (09:R277). -/
def Pkg.finishCreates (s : Pkg) : Nat → Pkg
  | 0 => s
  | fuel + 1 =>
    match s.tier.creating with
    | [] => s
    | c :: rest =>
      if s.extentsFree < c.extents then s
      else
        match s.freeRegion with
        | none => s
        | some r =>
          let gen := ((s.region r).gen + 1) % 2 ^ 32
          let s := { s with tier := { s.tier with creating := rest } }
          let s := (s.setRegion r
            { st := 1, part := c.part, fmt := c.fmt, scaled := c.scaled, packets := c.packets, borrowed := c.borrowed, pinned := c.pin
              gen := gen, last := s.tempo.now }).takeExtents r c.extents
          Pkg.finishCreates (s.complete c.part c.cmd 8 stOK (r + gen * 65536)) fuel

/-- Handle a creation (09:R275 to R279). Free extents that granted creations still wait for count as in use. -/
def Pkg.createRegion (s : Pkg) (p cmd packets fmt : Nat) (scaled pin : Bool) : Pkg :=
  let e := extentsOf fmt scaled packets
  let waiting := s.promised (fun _ => true)
  let borrowed := decide (s.ent (0x4110 + p) 1 < s.partExtents p (fun _ => true) + s.promised (fun c => c.part = p) + e)
  let ev := s.tier.regions.foldl (fun n (x : Nat × TRegion) => if x.2.evictable then n + x.2.ext.length else n) 0
  let full (s : Pkg) := ((s.bump (0x4110 + p) 0x0F 1).raise 0x0302 p [e, s.extentsFree]).complete p cmd 8 stPoolFull 0
  if borrowed && decide (s.extentsFree - (waiting - s.evicting) + ev < e) then full s
  else if borrowed && decide (s.extentsTotal < s.committed + e) then full (s.yieldFloor p)
  else
    let c : TCreate := { part := p, cmd := cmd, packets := packets, fmt := fmt, scaled := scaled, pin := pin, extents := e, borrowed := borrowed }
    let s := { s with tier := { s.tier with creating := s.tier.creating ++ [c] } }
    (s.evict (waiting + e) (!borrowed) 1024).finishCreates 1024

/-- The creations that arrived in one nanosecond are handled at its end, in ascending partition number (09:R277, R296, log entry 85). -/
def Pkg.createAsked (s : Pkg) : Pkg :=
  (sortBy (fun (a b : TCreate) => decide (a.part ≤ b.part)) s.tier.asked).foldl
    (fun s c => s.createRegion c.part c.cmd c.packets c.fmt c.scaled c.pin) { s with tier := { s.tier with asked := [] } }

/-- A creation arrives. -/
def Pkg.askCreate (s : Pkg) (c : TCreate) : Pkg := { s with tier := { s.tier with asked := s.tier.asked ++ [c] } }

/-- Every position that now can be read or written, of a group: its port ACTIVE and its brick current or being rebuilt. -/
def Pkg.posUp (s : Pkg) (g pos : Nat) : Bool := (s.lport (portOf g pos)).st == .active && !(bit (s.group g).missing pos)

/-- A slot that can be read at its brick: not of a brick that is being rebuilt and whose stripe is not rebuilt yet
(10:R323). -/
def Pkg.slotReadable (s : Pkg) (r stripe slot : Nat) : Bool :=
  let g := ((s.region r).place stripe).1
  let pos := slotPos stripe slot
  s.posUp g pos && (!(bit (s.group g).rebuilding pos) || (Tab.get [] (s.group g).built pos).contains (r, stripe))

/-- Slots a job has lost, or cannot read. -/
def Pkg.deadSlots (s : Pkg) (j : TJob) : List Nat :=
  (List.range 12).filter (fun k => (Tab.find j.got k).isNone &&
    (j.lost.contains k || !(s.slotReadable j.region j.stripe k)
      || (match j.use with
          | .rebuild q => slotPos j.stripe k = posOf q
          | _ => false)))

/-- Data slots a job must have: those it reads, or every one where check slots are computed anew. -/
def TJob.targets (j : TJob) (dead : List Nat) : List Nat :=
  match j.use with
  | .update =>
    if j.news.length = 10 then []
    else if (10 :: 11 :: j.news.map (·.1)).any dead.contains then (List.range 10).filter (fun k => (Tab.find j.news k).isNone)
    else j.news.map (·.1)
  | _ => if j.slot < 10 then [j.slot] else List.range 10

/-- Slots to read for the targets (09:R289, R290). -/
def TJob.needs (j : TJob) (dead : List Nat) : List Nat :=
  let ts := j.targets dead
  let lostT := ts.filter dead.contains
  let lostD := (List.range 10).filter dead.contains
  let chk := if lostD.length = 1 then (if dead.contains 10 then [11] else [10]) else [10, 11]
  let base := match j.use with
    | .update => if ts = j.news.map (·.1) && decide (j.news.length < 10) then ts ++ [10, 11] else ts
    | _ => ts
  if lostT.isEmpty then base else (List.range 10).filter (fun k => !dead.contains k) ++ chk.filter (fun k => !dead.contains k)

/-- The stripe cannot be rebuilt: more slots are lost than the check slots cover. -/
def TJob.hopeless (j : TJob) (dead : List Nat) : Bool :=
  let lostD := (List.range 10).filter dead.contains
  ((j.targets dead).any dead.contains) && decide (2 < lostD.length + ([10, 11].filter dead.contains).length)

/-- Ask a port for a slot of a job. -/
def Pkg.askSlot (s : Pkg) (j : TJob) (slot : Nat) : Pkg :=
  let r := s.region j.region
  let pl := r.place j.stripe
  let pos := slotPos j.stripe slot
  s.lcmd (portOf pl.1 pos) { ftype := if slot < 10 then 2 else 1, job := j.id, pos := slot, off := pl.2, len := r.sig / 64 } []

/-- Partitions with a region in a group. -/
def Pkg.partsOfGroup (s : Pkg) (g : Nat) : List Nat :=
  (List.range partMax).filter (fun p => s.tier.regions.any (fun (e : Nat × TRegion) => decide (e.2.st ≠ 0) && decide (e.2.part = p) && e.2.ext.any (fun x => x.1 = g)))

/-- A third slot of a stripe is lost: TIER_DATA_LOST, and the partitions with a region in the group are faulted
(09:R298, 13:R415). -/
def Pkg.tierLost (s : Pkg) (g q : Nat) : Pkg :=
  let regs := (s.tier.regions.filter (fun (e : Nat × TRegion) => decide (e.2.st ≠ 0) && e.2.ext.any (fun x => x.1 = g))).map (·.1)
  (s.raise 0x0304 0xFF [g, regs.length]).outOfScope { cls := 10, unit := q, detected := s.tempo.now } (s.partsOfGroup g)

/-- Write a slot to its brick: to a port that is ACTIVE, or held while it retrains; dropped for any other (09:R298,
10:R322). Answers whether an acknowledgement is to come. -/
def Pkg.writeSlot (s : Pkg) (j : TJob) (slot : Nat) (st : List Byte) : Pkg × Nat :=
  let r := s.region j.region
  let pl := r.place j.stripe
  let pos := slotPos j.stripe slot
  let q := portOf pl.1 pos
  let x := s.lport q
  if (x.st == .active || x.st == .retrain) && !(bit (s.group pl.1).missing pos) then
    (s.lcmd q { ftype := 3, job := j.id, pos := slot, off := pl.2, len := ceilDiv st.length 64 } (padTo (ceilDiv st.length 64 * 64) st), 1)
  else (s, 0)

/-- Give a job's slots to the ports. -/
def Pkg.writeSlots (s : Pkg) (j : TJob) (ws : List (Nat × List Byte)) : Pkg :=
  let (s, n) := ws.foldl (fun acc w => let (s, k) := acc.1.writeSlot j w.1 w.2; (s, acc.2 + k)) (s, 0)
  if n = 0 then s.endJob j.id else s.setJob { j with acks := n, writing := true }

/-- Next stripe of a rebuild, not yet built, that is touched (10:R323). -/
def Pkg.nextBuild (s : Pkg) (q : Nat) : Option (Nat × Nat) :=
  let g := grpOf q
  let done := Tab.get [] (s.group g).built (posOf q)
  s.tier.regions.findSome? (fun (e : Nat × TRegion) =>
    if e.2.st = 0 then none
    else (e.2.touched.find? (fun t => decide ((e.2.place t).1 = g) && !(done.contains (e.1, t)))).map (fun t => (e.1, t)))

/-- The first cause of R297 that applies: 1 degraded, 2 link retry, 3 brick latency, 4 decoder queue, 0 none. -/
def mergeCause (a b : Nat) : Nat := if a = 0 then b else if b = 0 then a else min a b

/-- Slots whose CRC or header failed, rebuilt from what the job has, to be written back; where the data is not all at hand, none (09:R290). -/
def TJob.writeBack (j : TJob) (sig : Nat) : List (Nat × List Byte) :=
  let data := (List.range 10).map (fun d => match Tab.find j.got d with
    | some b => some b
    | none => (rebuildSlot sig j.got d).map cutSlot)
  let ds := data.map (fun d => d.getD [])
  j.bad.filterMap (fun k =>
    if k < 10 then (data.getD k none).map (fun b => (k, b))
    else if data.any (fun d => d.isNone) then none
    else some (k, if k = 10 then checkP sig ds else checkQ sig ds))

/-- The T-die whose decoder serves a job (01:R23, log entry 86). -/
def Pkg.decoderOf (s : Pkg) (j : TJob) : Nat := tdieOf (portOf ((s.region j.region).place j.stripe).1 (slotPos j.stripe j.slot))

/-- A job goes on: it asks for what it lacks, or, with everything at hand, gives its panel or its writes (09:R289, R290). -/
def Pkg.jobStep (s : Pkg) (id : Nat) : Pkg :=
  match s.job id with
  | none => s
  | some j =>
    let r := s.region j.region
    let dead := s.deadSlots j
    if j.writing || j.panel.isSome then s
    else if j.hopeless dead then (s.endJob id).tierLost (r.place j.stripe).1 (portOf (r.place j.stripe).1 (slotPos j.stripe j.slot))
    else
      let lack := (j.needs dead).filter (fun k => (Tab.find j.got k).isNone)
      let ask := lack.filter (fun k => !j.want.contains k)
      let degraded := (j.targets dead).any dead.contains
      let j := { j with cause := if degraded then 1 else j.cause, want := j.want ++ ask }
      let s := s.setJob j
      if !lack.isEmpty then ask.foldl (fun s k => s.askSlot j k) s
      else
        let slot (d : Nat) : List Byte := match Tab.find j.got d with
          | some b => b
          | none => cutSlot ((rebuildSlot r.sig j.got d).getD [])
        let back := j.writeBack r.sig
        match j.use with
        | .update =>
          let all (d : Nat) : List Byte := (Tab.find j.news d).getD (slot d)
          let whole := j.news.length = 10 || (10 :: 11 :: j.news.map (·.1)).any dead.contains
          let ds := (List.range 10).map all
          let pq : List Byte × List Byte :=
            if whole then (checkP r.sig ds, checkQ r.sig ds)
            else j.news.foldl
              (fun (a : List Byte × List Byte) w =>
                let diff := xorB (padTo r.sig (Tab.get [] j.got w.1)) (padTo r.sig w.2)
                (xorB a.1 diff, xorB a.2 (scaleB (gfPow 2 w.1) diff)))
              (padTo r.sig (Tab.get [] j.got 10), padTo r.sig (Tab.get [] j.got 11))
          s.writeSlots j (j.news ++ [(10, pq.1), (11, pq.2)] ++ back.filter (fun w => decide (w.1 < 10) && (Tab.find j.news w.1).isNone))
        | .rebuild _ =>
          let back := back.filter (fun w => w.1 ≠ j.slot)
          if j.slot < 10 then s.writeSlots j ((j.slot, slot j.slot) :: back)
          else
            let ds := (List.range 10).map slot
            s.writeSlots j ((j.slot, if j.slot = 10 then checkP r.sig ds else checkQ r.sig ds) :: back)
        | _ =>
          let st := slot j.slot
          let queue := s.tier.jobs.any (fun k => decide (k.id ≠ j.id) && k.panel.isSome && decide (s.decoderOf k = s.decoderOf j))
          let s := s.setJob { j with panel := some (loadPacket r.fmt r.scaled st), cause := mergeCause j.cause (if queue then 4 else 0) }
          back.foldl (fun s w => (s.writeSlot { j with id := 0 } w.1 w.2).1) s

/-- The job writes its stripe: a host write, or the rebuild onto a new brick. -/
def TJob.writes (j : TJob) : Bool := match j.use with
  | .update | .rebuild _ => true
  | _ => false

/-- Begin a job (09:R289, R290). A packet of an untouched stripe is a zero panel. A write waits for an earlier write of its
stripe, a rebuild among them (10:R323). -/
def Pkg.startJob (s : Pkg) (j : TJob) : Pkg :=
  let id := s.tier.next
  let r := s.region j.region
  let j := { j with id := id, gen := r.gen }
  let j := if !j.writes && !(r.touched.contains j.stripe) then { j with panel := some (List.replicate r.P 0) } else j
  let behind := j.writes && s.tier.jobs.any (fun k => decide (k.region = j.region) && decide (k.stripe = j.stripe) && k.writes)
  let s := { s with tier := { s.tier with jobs := s.tier.jobs ++ [j], next := id + 1 } }
  if behind then s else s.jobStep id

/-- Read packet i of a region for a use. -/
def Pkg.readPacket (s : Pkg) (use : TierUse) (r i : Nat) : Pkg := s.startJob { use := use, region := r, stripe := i / 10, slot := i % 10 }

/-- Start the next stripe of a rebuild (10:R323). -/
def Pkg.rebuildNext (s : Pkg) (q : Nat) : Pkg :=
  match s.nextBuild q with
  | none => s
  | some (r, t) => s.startJob { use := .rebuild q, region := r, stripe := t, slot := posSlot t (posOf q) }

/-- Every host write of a region has been written to the bricks (09:R273). -/
def Pkg.writesDone (s : Pkg) (r : Nat) : Bool :=
  (s.region r).hold.isEmpty && !(s.tier.jobs.any (fun j => decide (j.region = r) && (match j.use with
    | .update => true
    | _ => false)))

/-- Region changes of the partition apply at its frame ticks; in every other state, at once (09:R273). -/
def Part.tickBound (x : Part) : Bool := x.st == .running || x.st == .holding || x.st == .checkpointing

/-- A sealing region whose writes are done is sealed, at a tick of its partition where region changes wait for one; its command
completes (09:R272, R273). -/
def Pkg.sealReady (s : Pkg) (tick : Option Nat := none) : Pkg :=
  s.tier.regions.foldl
    (fun s (e : Nat × TRegion) =>
      match e.2.sealing with
      | some cmd =>
        let x := s.region e.1
        if s.writesDone e.1 && (decide (tick = some x.part) || !((s.part x.part).tickBound)) then
          let s := s.setRegion e.1 { x with st := 2, sealing := none, last := s.tempo.now }
          s.complete x.part cmd 9 stOK (s.part x.part).mem.n
        else s
      | none => s) s

/-- A write of a job is acknowledged, or dropped with its brick; after the last the job ends and what waits for it goes on
(09:R289, 10:R319, R323). -/
def Pkg.writeDone (s : Pkg) (id : Nat) : Pkg :=
  match s.job id with
  | none => s
  | some j =>
    if 1 < j.acks then s.setJob { j with acks := j.acks - 1 }
    else
      let s := s.endJob id
      let next (s : Pkg) : Pkg :=
        match s.tier.jobs.find? (fun k => decide (k.region = j.region) && decide (k.stripe = j.stripe) && !k.writing && k.writes) with
        | some k => s.jobStep k.id
        | none => s
      match j.use with
      | .rebuild q =>
        let g := grpOf q
        let x := s.group g
        let s := s.setGroup g { x with built := Tab.insert x.built (posOf q) ((j.region, j.stripe) :: Tab.get [] x.built (posOf q)) }
        (next s).rebuildNext q
      | _ => (next s).sealReady

/-- The rebuild onto a port ends; a write of its stripe that waited for it goes on (10:R323). -/
def Pkg.dropRebuild (s : Pkg) (q : Nat) : Pkg :=
  let gone := s.tier.jobs.filter (fun (k : TJob) => k.use == TierUse.rebuild q)
  let s := { s with tier := { s.tier with jobs := s.tier.jobs.filter (fun (k : TJob) => k.use != TierUse.rebuild q) } }
  gone.foldl
    (fun s j => match s.tier.jobs.find? (fun k => decide (k.region = j.region) && decide (k.stripe = j.stripe) && k.writes) with
      | some k => s.jobStep k.id
      | none => s) s

/-- Write packets of one stripe: given slots, zero headers for the others on the first write (09:R289). -/
def Pkg.writeStripe (s : Pkg) (r stripe : Nat) (pks : List (Nat × List Byte)) : Pkg :=
  let x := s.region r
  let comp := s.ent 0x4100 9 = 1
  let st (i : Nat) (panel : List Byte) := storePacket x.fmt x.scaled comp panel r i x.gen
  let given := pks.map (fun p => (p.1 % 10, st p.1 p.2))
  let news :=
    if x.touched.contains stripe then given
    else (List.range 10).map (fun d => (d, (Tab.find given d).getD (st (stripe * 10 + d) [])))
  let s := if x.touched.contains stripe then s else s.setRegion r { x with touched := x.touched ++ [stripe] }
  s.startJob { use := .update, region := r, stripe := stripe, news := news.foldl (fun t p => Tab.insert t p.1 p.2) [] }

/-- The packets a loading region holds go to the bricks (09:R289). -/
def Pkg.flushHold (s : Pkg) (r : Nat) : Pkg :=
  let x := s.region r
  match x.hold with
  | [] => s
  | (i, _) :: _ => (s.setRegion r { x with hold := [] }).writeStripe r (i / 10) x.hold

/-- One packet written by the host: held with consecutive ones of its stripe, at most ten (09:R289). -/
def Pkg.hostPacket (s : Pkg) (r i : Nat) (panel : List Byte) : Pkg :=
  let x := s.region r
  let next := match x.hold.getLast? with
    | some (k, _) => decide (i = k + 1) && decide (i / 10 = k / 10)
    | none => true
  let s := if next then s else s.flushHold r
  let x := s.region r
  let s := s.setRegion r { x with hold := x.hold ++ [(i, panel)] }
  if i % 10 = 9 then s.flushHold r else s

/-- The checks of a kind 0x06 move on its region, with the detail of the first that fails (09:R292). -/
def Pkg.regionCheck (s : Pkg) (p : Nat) (m : MoveDesc) : Option Nat :=
  let r := regionOf m.far
  let x := s.region r
  let off := m.far % 0x800000000
  if !(inTier m.far) || 1024 ≤ r || x.st = 0 then some 1
  else if x.part ≠ p then some 2
  else if x.st = 3 && x.evicted then some 6
  else if x.st ≠ 2 then some 3
  else if m.sf ≠ x.fmt || m.df ≠ x.fmt || m.ss ≠ x.scaled || m.ds ≠ x.scaled then some 4
  else if off % x.P ≠ 0 || m.length % x.P ≠ 0 || x.packets * x.P < off + m.length then some 5
  else none

/-- Issue of a kind 0x06 move (09:R291, R292). -/
def moveTier (s : Pkg) (n : Nat) : Pkg :=
  s.withInstr n fun w _ _ =>
    let t := s.tile n
    let a := (t.xr (Rv.rs1 w)).toNat
    if !(isMove w && decide (t.moveKind w = some 6)) then s
    else if t.waits (Rv.rs1 w) || t.descBusy a 32 || !(t.mayIssue false) then s
    else
      let d := t.rd a 32
      let m := moveDesc d
      let p := t.part - 1
      let o : EngOp := { kind := .move, code := 6, desc := d }
      let fail (s : Pkg) (g : Staged) (r1 r2 : Nat) : Pkg :=
        let o := { o with r1 := r1, r2 := r2 }
        let s := s.issue n (Rv.rd w) { o with code := 0 }
        s.finishOp n { o with ticket := t.ticket, spec := (s.tile n).core.region.isSome } g
      match m.invalid with
      | some detail => s.issueBad n (Rv.rd w) detail .move
      | none =>
        if !(dsOk m.done (64 + m.length)) || dieOf m.done ≠ n / 128 then fail s { status := 1 } m.done (64 + m.length)
        else
          match s.regionCheck p m with
          | some c =>
            let s := if c = 1 then s.addrError p m.far m.length else s
            (fail s { status := 3, detail := c } 0 0).bump (0x4110 + p) 0x0D 1
          | none => (s.refer (regionOf m.far)).issue n (Rv.rd w) o

/-- A committed kind 0x06 move: the tier engines read its packets (09:R293). -/
def Pkg.tierMove (s : Pkg) (n : Nat) (d : List Byte) : Pkg :=
  let m := moveDesc d
  let p := (s.tile n).part - 1
  let r := regionOf m.far
  let P := (s.region r).P
  let k := m.length / P
  let id := s.tier.next
  let mv : TMove := { id := id, tile := n, part := p, region := r, word := m.done, left := k, first := m.far % 0x800000000 / P, pan := P }
  let s := { s with tier := { s.tier with moves := s.tier.moves ++ [mv], next := id + 1 } }
  (List.range k).foldl (fun s i => s.readPacket (.move n id i) r (mv.first + i)) (s.bump (0x4110 + p) 5 1)

/-- Charge a tier stall to its cause (09:R297). -/
def Pkg.chargeStall (s : Pkg) (p cause ns : Nat) : Pkg :=
  s.bump (0x4110 + p) (if cause = 1 then 8 else if cause = 2 then 9 else if cause = 3 then 0x0A else if cause = 4 then 0x0B else 0x0C) ns

/-- A packet read for a partition is at hand: it and its stored units are counted (09:R299). -/
def Pkg.countPacket (s : Pkg) (p : Nat) (j : TJob) : Pkg :=
  (s.bump (0x4110 + p) 6 1).bump (0x4110 + p) 7 (j.got.foldl (fun n e => n + ceilDiv e.2.length 64) 0)

/-- A packet of a move lands; the last adds 1 to the completion word (09:R293, R297). -/
def Pkg.landMove (s : Pkg) (j : TJob) (panel : List Byte) (mvId i : Nat) : Pkg :=
  match s.tier.moves.find? (fun m => m.id = mvId) with
  | none => s.endJob j.id
  | some m =>
    let s := ((s.endJob j.id).sendNext { src := 2, unit := m.id, part := m.part, addr := m.word + 64 + i * m.pan, data := panel }).countWrite m.part
      (m.tile / 128) (m.word + 64 + i * m.pan) panel.length
    let s := s.countPacket m.part j
    if 1 < m.left then
      { s with tier := { s.tier with moves := mapIf (fun (x : TMove) => x.id = mvId) (fun x => { x with left := x.left - 1 }) s.tier.moves } }
    else
      let s := { s with tier := { s.tier with moves := s.tier.moves.filter (fun x => x.id ≠ mvId) } }
      let s := s.sendNext { src := 2, unit := m.id, part := m.part, addr := m.word, inc := true }
      (tilesOf (s.part m.part).dies).foldl
        (fun s n => match (s.tile n).waitw with
          | some (_, a, _, since) => if a = m.word then s.chargeStall m.part j.cause (s.tempo.now - since) else s
          | none => s) s

/-- A packet is at hand: it lands, goes to the host, or answers a hart (09:R293 to R295). -/
def Pkg.land (s : Pkg) (id : Nat) : Pkg :=
  match s.job id with
  | none => s
  | some j =>
    match j.panel with
    | none => s
    | some panel =>
      match j.use with
      | .move _ mv i => s.landMove j panel mv i
      | .host p cmd i =>
        match s.tier.host.find? (fun h => decide (h.part = p) && decide (h.cmd = cmd)) with
        | none => s.endJob id
        | some h =>
          let s := ((s.endJob id).countPacket p j).hostDma p h.id (h.addr + i * h.pan) panel
          if 1 < h.left then
            { s with tier := { s.tier with host := mapIf (fun (x : THost) => x.part = p && x.cmd = cmd) (fun x => { x with left := x.left - 1 }) s.tier.host } }
          else
            let s := { s with tier := { s.tier with host := s.tier.host.filter (fun x => !(decide (x.part = p) && decide (x.cmd = cmd))) } }
            s.complete p h.id 0x0E stOK 0
      | .restore p i =>
        let s := (s.endJob id).countPacket p j
        let x := s.part p
        s.setPart p { x with rst := x.rst.map (fun r => { r with got := Tab.insert r.got i panel }) }
      | .hart h off =>
        let x := s.hart h
        match x.wait with
        | .tier jb a =>
          if jb = id then ((s.endJob id).countPacket (x.part - 1) j).setHart h { x with wait := .answered a (slice panel off a.size) 0 0 } else s.endJob id
        | _ => s.endJob id
      | _ => s

end Sys2Proof
end

