-- ==== Sys2Proof/Machine/PlyOps.lean ====
section
/-!
DEFINITION. Plies as shared operations: the ply record, the ramp, drain, commit, replay, gambits, digests (03:R90 to R103,
R117, 04:R149 to R156).
-/

namespace Sys2Proof

/-- Address of the record of a tile's ply (04:R151). -/
def Pkg.recAddr (s : Pkg) (n seq : Nat) : Nat := winOf n + (s.tile n).recBase + n % 128 * 2048 + seq % 2 * 1024

/-- A ply record (04:R150). -/
def Tile.record (t : Tile) (seq frame : Nat) (pc : Word) (gambit : Bool) : List Byte :=
  let c := t.core
  let slot (i : Nat) : List Byte := let m := Tab.get {} c.slots i
    natLe 8 m.maxabs ++ natLe 8 m.sum ++ natLe 8 m.cnta ++ natLe 8 m.cntb ++ natLe 8 m.arg
  let entry (e : Nat × Nat × Nat) : List Byte := natLe 8 e.1 ++ natLe 4 e.2.1 ++ natLe 4 e.2.2
  padTo 1024
    (natLe 8 seq ++ natLe 8 frame ++ natLe 8 pc.toNat ++ natLe 8 t.image ++ natLe 4 t.imageLen ++ natLe 1 t.elist.length
      ++ natLe 1 (b2n gambit + 2 * b2n c.trapActive) ++ natLe 10 0 ++ (List.range 31).flatMap (fun i => natLe 8 (t.xr (i + 1)).toNat)
      ++ natLe 8 c.flags.word ++ natLe 8 c.sibase.toNat ++ natLe 8 c.mtvec.toNat ++ natLe 8 c.mscratch.toNat ++ natLe 8 c.mepc.toNat
      ++ natLe 8 c.mcause.toNat ++ natLe 8 c.mtval.toNat ++ (List.range 4).flatMap slot ++ t.elist.flatMap entry)

/-- The core that a record restores; branch predictions stand (04:R149, R150). -/
def Core.ofRecord (c : Core) (r : List Byte) : Core :=
  let w (i : Nat) : Word := BitVec.ofNat 64 (fld r i 8)
  let slot (i : Nat) : Summ := let b := 0x160 + 40 * i
    { maxabs := fld r b 8, sum := fld r (b + 8) 8, cnta := fld r (b + 16) 8, cntb := fld r (b + 24) 8, arg := fld r (b + 32) 8 }
  let fl := fld r 0x128 8
  { x := (List.range 31).foldl (fun x i => Tab.set 0 x (i + 1) (w (0x30 + 8 * i))) []
    pc := w 16, mtvec := w 0x138, mscratch := w 0x140, mepc := w 0x148, mcause := w 0x150, mtval := w 0x158
    flags := { inv := bit fl 0, ovf := bit fl 1, unf := bit fl 2 }, sibase := w 0x130, trapActive := bit (byteAt r 0x25) 1
    slots := (List.range 4).foldl (fun x i => Tab.set {} x i (slot i)) [], pred := c.pred }

/-- The entry-load list of a record. -/
def recordLoads (r : List Byte) : List (Nat × Nat × Nat) :=
  (List.range (byteAt r 0x24)).map (fun j => (fld r (0x200 + 16 * j) 8, fld r (0x208 + 16 * j) 4, fld r (0x20C + 16 * j) 4))

/-- What a tile holds at every ply entry (03:R96, R97, 04:R129, R154, 05:R170). -/
def Tile.enter (t : Tile) (now : Nat) : Tile :=
  { t with
    core := { t.core with pbReject := false, moveErr := false, errTicket := 0, errStatus := 0, errDetail := 0, region := none, pend := [], ready := [] }
    mx := { badCols := t.mx.badCols, a := t.mx.a, c := t.mx.c }
    elist := [], ticket := 0, done := [], lowBad := none, ops := [], slotTkt := [], buf := [], units := 0, active := 0, entered := now
    spanCyc := 0, spanFrom := now, waitw := none, fend := none }

/-- Copy a tile's program image into its instruction SRAM (01:R41). -/
def Pkg.copyImage (s : Pkg) (n : Nat) : Pkg :=
  let t := s.tile n
  s.setTile n { t with isram := Mem.writeN [] 0 (s.dsBytes t.image t.imageLen) }

/-- Restore a tile from the record of its present ply: the instruction SRAM from the image, and the ply state (03:R95). -/
def Pkg.recordTile (s : Pkg) (n : Nat) : Pkg :=
  let t := s.tile n
  let r := s.dsBytes (s.recAddr n t.seq) 1024
  let img := s.dsBytes (fld r 0x18 8) (fld r 0x20 4)
  let t := { t with isram := Mem.writeN [] 0 img, core := t.core.ofRecord r, frame := fld r 8 8, image := fld r 0x18 8, imageLen := fld r 0x20 4 }
  s.setTile n (t.enter s.tempo.now)

/-- Restore a tile and perform the entry-load list of its record (03:R95). -/
def Pkg.restoreTile (s : Pkg) (n : Nat) : Pkg :=
  let t := s.tile n
  let r := s.dsBytes (s.recAddr n t.seq) 1024
  (recordLoads r).foldl
    (fun s e =>
      let (d, s) := s.dsRead (t.part - 1) n e.1 e.2.1
      s.setTile n ((s.tile n).wr e.2.2 d))
    (s.recordTile n)

/-- Distinct die-rows of a partition's C-dies, ascending (01:R20, 03:R90). -/
def Part.rows (x : Part) : List Nat := (List.range 6).filter (fun r => x.dies.any (fun d => decide (d / 8 = r)))

/-- A tile's ramp offset in ns (03:R90). -/
def Pkg.rampOff (s : Pkg) (p n : Nat) : Nat :=
  let x := s.part p
  let rows := x.rows
  let j := (rows.takeWhile (fun r => r ≠ n / 128 / 8)).length
  (j * 16 + n % 128 / 8) * x.mem.w / (rows.length * 16)

/-- The tile's frame has begun and its ramp slot has come (03:R90, R91). -/
def Pkg.ramped (s : Pkg) (n : Nat) : Bool :=
  let t := s.tile n
  let m := (s.part (t.part - 1)).mem
  m.begun && decide (m.n = t.frame) && decide (m.start + s.rampOff (t.part - 1) n ≤ s.tempo.now)

/-- One word of a frame digest (03:R117). -/
def digestWord (D kind a mask d : Nat) : Nat :=
  let x := d ^^^ mul64 (a ^^^ (kind <<< 56) ^^^ (mask <<< 48)) hashM2
  let D := mul64 (D ^^^ x) hashM1
  D ^^^ (D >>> 29)

/-- The words of a committed write folded into a digest. -/
def digestBytes (D kind a : Nat) (d : List Byte) : Nat :=
  (List.range (d.length / 8)).foldl (fun D i => digestWord D kind (a + 8 * i) 0xFF (fld d (8 * i) 8)) D

/-- A tile's digest at the start of a frame (03:R117). -/
def digestInit (index frame : Nat) : Nat := mul64 index hashM1 ^^^ frame

/-- Plain and accumulate-into writes of a buffer, in order; and its release writes. -/
def Tile.stores (t : Tile) : List (Nat × List Byte × Bool) := t.buf.filterMap (fun h => match h.2 with
  | .store a d acc => some (a, d, acc)
  | _ => none)
def Tile.releases (t : Tile) : List (Nat × Nat) := t.buf.filterMap (fun h => match h.2 with
  | .rel a v => some (a, v)
  | _ => none)

/-- The ply's buffer drains: its die-store writes go to the S-dies in buffer order (03:R94). -/
def Pkg.drain (s : Pkg) (n : Nat) : Pkg :=
  let t := s.tile n
  let ws := t.stores
  let s := s.setTile n { t with mode := .draining }
  ((List.range ws.length).zip ws).foldl
    (fun s w => s.sendWrite { src := 0, unit := n, part := t.part - 1, seq := t.seq, idx := w.1, addr := w.2.1, data := w.2.2.1, acc := w.2.2.2 }) s

/-- The arrived writes up to a tile's last one reach their S-dies, in order (03:R94, 09:R265). -/
def Pkg.applyTileWrites (s : Pkg) (n : Nat) : Pkg :=
  s.sdies.foldl
    (fun s e =>
      let ws := e.2.arriving
      let k := ws.length - (ws.reverse.takeWhile (fun w => !(decide (w.src = 0) && decide (w.unit = n)))).length
      (ws.take k).foldl (fun s w => s.applyOne e.1 (n + 1) w) s) s

/-- Release what a committed ply holds in its commit queue, in buffer order: sends, contributions, submissions and tier moves
(03:R94). -/
def Pkg.releaseHeld (s : Pkg) (n : Nat) (buf : List (Nat × Held)) : Pkg :=
  let p := (s.tile n).part - 1
  (buf.foldl
    (fun (s : Pkg) h => match h.2 with
      | .tier d => s.tierMove n d
      | .send node a d => s.queueSend n node a d
      | .solve hdr k => let s := { s with stamp := s.stamp + 1 }
        s.solveSubmit { tile := n, part := p, hdr := hdr, count := k, stamp := s.stamp, at_ := s.tempo.now }
      | .coll d => s.contribute p n d
      | _ => s) s).pumpSends

/-- A frame-end commit: the last late tile, and the end of the member's frame (03:R87). -/
def Pkg.tileEnded (s : Pkg) (n : Nat) : Pkg :=
  let p := (s.tile n).part - 1
  let now := s.tempo.now
  let m := (s.part p).mem
  let late := if m.lateAt = now && m.lateTile ≠ 0xFFFF then min m.lateTile n else n
  let all := (tilesOf (s.part p).dies).all (fun k => (s.tile k).frameEnd)
  s.setMem p { m with lateTile := late, lateAt := now, ended := if all then some (now, late) else m.ended }

/-- The commit point of a drained ply (03:R94, R97, R100, R117, 04:R154, R155). -/
def Pkg.commitPly (s : Pkg) (n : Nat) : Pkg :=
  let s := s.applyTileWrites n
  let t := s.tile n
  let p := t.part - 1
  let m := (s.part p).mem
  let stores := t.stores
  let rels := t.releases
  let lines := stores.flatMap (fun w => linesOf w.1 w.2.1.length)
  let ended := t.fend.isSome
  let seq := t.seq + 1
  let frame := if ended then t.frame + 1 else t.frame
  let next := t.fend = some true && m.gambit && !(s.tickPassed p frame)
  let s := s.dstorePut (s.recAddr n seq) (t.record seq frame t.core.pc next)
  let s := ((List.range rels.length).zip rels).foldl
    (fun s r => s.release { src := 0, unit := n, part := p, seq := t.seq, idx := stores.length + r.1, addr := r.2.1, data := natLe 8 r.2.2 } lines) s
  let D := if m.digest then
      rels.foldl (fun D r => digestBytes D 2 r.1 (natLe 8 r.2)) (stores.foldl (fun D w => digestBytes D (b2n w.2.2) w.1 w.2.1) t.digest)
    else t.digest
  let s := s.releaseHeld n t.buf
  let s := (s.bump (0x2210 + p) 0x0C 1).peak (0x2210 + p) 0x12 (s.span n / 4500)
  let s := if t.gambit then s.bump (0x2210 + p) 0x0E 1 else s
  let t' := { (s.tile n).enter s.tempo.now with seq := seq, frame := frame, digest := D, gambit := next, frameEnd := (s.tile n).frameEnd || ended
                                                mode := if ended && !next then .frameDone else .running }
  let s := (s.setTile n t').recoverCommit n
  if ended then s.tileEnded n else s

/-- Gambit plies that a rollback discards are counted (03:R103). -/
def Pkg.countGambits (s : Pkg) (p : Nat) : Pkg :=
  s.bump (0x2210 + p) 0x0F
    ((tilesOf (s.part p).dies).filter (fun n => let t := s.tile n
      t.gambit && (t.mode == .running || t.mode == .gambitHeld))).length

/-- A gambit ply is discarded: its work runs again as an ordinary ply of the frame (03:R103). -/
def Pkg.dropGambit (s : Pkg) (n : Nat) : Pkg :=
  let t := s.tile n
  if t.gambit && (t.mode == .running || t.mode == .gambitHeld) then
    let s := s.bump (0x2210 + (t.part - 1)) 0x0F 1
    let s := s.restoreTile n
    s.setTile n { s.tile n with gambit := false, mode := .rampWait }
  else s

/-- Every gambit ply of a member is discarded (03:R103). -/
def Pkg.dropGambits (s : Pkg) (p : Nat) : Pkg := (tilesOf (s.part p).dies).foldl (fun s n => s.dropGambit n) s

/-- Replay (03:R95, 13:R409, R559). The ply of a tile whose ramp slot has not come waits for it. -/
def Pkg.replayTile (s : Pkg) (n : Nat) : Pkg :=
  let t := s.tile n
  let s := (s.restoreTile n).bump (0x2210 + (t.part - 1)) 0x0D 1
  let s := s.mapRecovery n (fun r => { r with start := s.tempo.now, ready := s.tempo.now })
  let t := { s.tile n with gambit := false }
  let s := s.setTile n t
  s.setTile n { t with mode := if s.ramped n then .running else .rampWait }

end Sys2Proof
end

