-- ==== Sys2Proof/Machine/Ply.lean ====
section
/-!
DEFINITION. The engine-issue instructions that hold, wait, append and mark (04:R127, R138, R139, R153 to R155), and the
events of a ply: wakes, commit, watchdog, replay (03:R94 to R96).
-/

namespace Sys2Proof

open Rv

/-- A listed encoding of R127. -/
def isYk (w o f g : Nat) : Bool := isEngineIssue w && decide (opc w = o) && decide (f3 w = f) && decide (f7 w = g)

/-- Issue of a held operation that takes a control unit only: it waits for earlier held moves, then enters the buffer and its
ticket ends DONE (04:R132, 06:R205). -/
def Pkg.issueHeld (s : Pkg) (n rdst : Nat) (h : Held) : Pkg :=
  let t := s.tile n
  let k := t.ticket
  if t.heldBefore k then s
  else
    let o : EngOp := { kind := .held }
    s.holdOp n k 1 h (fun s => let s := s.issue n rdst o
      s.finishOp n { o with ticket := k } {})

/-- YK.SOLVE (07:R210). -/
def solveIssue (s : Pkg) (n : Nat) : Pkg :=
  s.withInstr n fun w _ _ =>
    let t := s.tile n
    if !(isYk w 0x0B 3 0) || t.waits (rs1 w) || t.waits (rs2 w) || !(t.mayIssue false) then s
    else
      let a := (t.xr (rs1 w)).toNat
      let k := (t.xr (rs2 w)).toNat
      if a % 64 ≠ 0 || !(dsOk a 128) || dieOf a ≠ n / 128 then s.issueBad n (rd w) 1 .held
      else if k = 0 || 4096 < k then s.issueBad n (rd w) 2 .held
      else s.issueHeld n (rd w) (.solve a k)

/-- The first check of a YK.COLL descriptor that fails, in the order of R377. -/
def Pkg.collCause (s : Pkg) (p : Nat) (d : CollDesc) : Option Nat :=
  let areas := [(d.src, d.n * d.sw), (d.dst, d.n * d.rw), (d.record, 64), (d.members, 4 * d.mcount)]
  let meet (a b : Nat × Nat) : Bool := overlap a.1 a.2 b.1 b.2
  let src := (d.src, d.n * d.sw)
  let dst := (d.dst, d.n * d.rw)
  let rec_ := (d.record, 64)
  if !d.rsvOk || !d.pairOk then some 1
  else if d.clog < 16 || 22 < d.clog then some 2
  else if d.n = 0 || d.n % 64 ≠ 0 then some 3
  else if d.mcount = 0 || 131072 < d.mcount || d.lcount = 0 || 6144 < d.lcount then some 7
  else if [d.src, d.dst, d.record, d.members].any (fun a => decide (a % 64 ≠ 0)) then some 4
  else if !(areas.all (fun a => s.ownRange p a.1 a.2)) then some 5
  else if (meet src dst && decide (src ≠ dst)) || meet rec_ src || meet rec_ dst || meet rec_ (d.members, 4 * d.mcount) then some 6
  else none

/-- YK.COLL (12:R377). -/
def collIssue (s : Pkg) (n : Nat) : Pkg :=
  s.withInstr n fun w _ _ =>
    let t := s.tile n
    let a := (t.xr (rs1 w)).toNat
    if !(isYk w 0x0B 4 0) || t.waits (rs1 w) || !(t.mayIssue false) || t.descBusy a 64 then s
    else
      match t.descAt a 64 with
      | none => s.issueBad n (rd w) 4 .held
      | some d =>
        match s.collCause (t.part - 1) (collDesc d) with
        | some c => s.issueBad n (rd w) c .held
        | none => s.issueHeld n (rd w) (.coll d)

/-- YK.ELOAD (04:R153). -/
def eloadIssue (s : Pkg) (n : Nat) : Pkg :=
  s.withInstr n fun w len raw =>
    let t := s.tile n
    if !(isYk w 0x0B 5 0) || t.core.region.isSome || t.waits (rs1 w) || t.waits (rs2 w) then s
    else
      let a := (t.xr (rs1 w)).toNat
      let v := (t.xr (rs2 w)).toNat
      let k := v % 2 ^ 32
      let l := v / 2 ^ 32
      if 32 ≤ t.elist.length then s.raiseExc n 2 (BitVec.ofNat 64 raw) true
      else if a % 64 ≠ 0 || !(dsOk a k) || k < 64 || 0x80000 < k || k % 64 ≠ 0 || l % 64 ≠ 0 || !(inLocal l k) then
        s.raiseExc n 2 (BitVec.ofNat 64 raw)
      else s.retire n { t with elist := t.elist ++ [(a, k, l)] } len (t.useStall [rs1 w, rs2 w] + 1)

/-- The status of a ticket: none while it is outstanding (04:R129). -/
def Tile.status (t : Tile) (k : Nat) : Option Nat :=
  match ((List.range 64).map (fun i => t.ticket - 1 - i)).find? (fun j => decide (j < t.ticket) && decide (j % 65536 = k)) with
  | none => some 0xE
  | some j => Tab.find t.done j

/-- YK.WAIT (04:R129). -/
def waitIssue (s : Pkg) (n : Nat) : Pkg :=
  s.withInstr n fun w len _ =>
    let t := s.tile n
    if !(isYk w 0x0B 6 0) || t.core.region.isSome || t.waits (rs1 w) then s
    else
      match t.status ((t.xr (rs1 w)).toNat % 65536) with
      | none => s
      | some v => s.retire n (t.setX (rd w) (BitVec.ofNat 64 v)) len (t.useStall [rs1 w] + 1)

/-- YK.WAITALL (04:R129). -/
def waitallIssue (s : Pkg) (n : Nat) : Pkg :=
  s.withInstr n fun w len _ =>
    let t := s.tile n
    if !(isYk w 0x0B 6 1) || t.core.region.isSome || !t.ops.isEmpty then s
    else
      let v := match t.lowBad with
        | some (_, st) => st
        | none => 0
      s.retire n (t.setX (rd w) (BitVec.ofNat 64 v)) len 1

/-- The active count has reached the partition's ply cap (03:R96). -/
def Pkg.atCap (s : Pkg) (n : Nat) : Bool :=
  let t := s.tile n
  decide ((s.part (t.part - 1)).mem.cap * 1500 ≤ t.active)

/-- A ply mark is reached and every engine operation has drained: the buffer drains, or a gambit ply before its ramp slot is
held; a mark whose own cycle brings the count to the cap stops the tile (03:R94, R96, R99 to R101, 04:R154, R155). -/
def Pkg.mark (s : Pkg) (n len : Nat) (fend : Option Bool) : Pkg :=
  let t := s.tile n
  let s := (s.cycles n 1).setTile n { t.adv len 1 with fend := fend }
  if s.atCap n then s.killTile n 0x0106 []
  else if t.gambit && !(s.ramped n) then s.setTile n { s.tile n with mode := .gambitHeld } else s.drain n

/-- YK.PLY (04:R154). -/
def plyMark (s : Pkg) (n : Nat) : Pkg :=
  s.withInstr n fun w len _ =>
    let t := s.tile n
    if isYk w 0x2B 0 0 && t.core.region.isNone && t.ops.isEmpty then s.mark n len none else s

/-- YK.FEND (04:R155). -/
def frameEnd (s : Pkg) (n : Nat) : Pkg :=
  s.withInstr n fun w len _ =>
    let t := s.tile n
    if (isYk w 0x2B 1 0 || isYk w 0x2B 1 1) && t.core.region.isNone && t.ops.isEmpty then s.mark n len (some (decide (f7 w = 1))) else s

/-- YK.RELW (04:R138). -/
def relwIssue (s : Pkg) (n : Nat) : Pkg :=
  s.withInstr n fun w _ _ =>
    let t := s.tile n
    if !(isYk w 0x2B 2 0) || t.waits (rs1 w) || t.waits (rs2 w) || t.core.region.isSome then s
    else
      let a := (t.xr (rs1 w)).toNat
      let p := t.part - 1
      if a % 8 ≠ 0 then s.raiseExc n 7 (BitVec.ofNat 64 a)
      else if !(s.ownRange p a 8) then (s.addrError p a 8).raiseExc n 7 (BitVec.ofNat 64 a)
      else if !(t.mayIssue false) then s
      else s.issueHeld n 0 (.rel a (t.xr (rs2 w)).toNat)

/-- A satisfied YK.WAITW completes with the word's value (04:R139). -/
def Pkg.waitwDone (s : Pkg) (n rdst len v : Nat) : Pkg :=
  let t := s.tile n
  s.retire n ({ t with waitw := none }.setX rdst (BitVec.ofNat 64 v)) len (t.issueStall + 1)

/-- YK.WAITW (04:R139). -/
def waitwIssue (s : Pkg) (n : Nat) : Pkg :=
  s.withInstr n fun w len _ =>
    let t := s.tile n
    if !(isYk w 0x2B 3 0) || t.waits (rs1 w) || t.waits (rs2 w) || t.core.region.isSome then s
    else
      let a := (t.xr (rs1 w)).toNat
      let v := (t.xr (rs2 w)).toNat
      let p := t.part - 1
      if a % 8 ≠ 0 then s.raiseExc n 5 (BitVec.ofNat 64 a)
      else if !(s.ownRange p a 8) then (s.addrError p a 8).raiseExc n 5 (BitVec.ofNat 64 a)
      else if v ≤ s.dword a then s.waitwDone n (rd w) len (s.dword a)
      else
        let s := s.spanMark n
        s.setTile n { s.tile n with waitw := some (rd w, a, v, s.tempo.now) }

/-- WAITW_WAKE: the committed word has reached the value (04:R139, 03:R97). -/
def waitwWake (s : Pkg) (n : Nat) : Pkg :=
  let t := s.tile n
  match t.waitw with
  | none => s
  | some (r, a, v, _) =>
    if s.dword a < v then s
    else
      let s := s.setTile n { t with spanFrom := s.tempo.now }
      s.waitwDone n r 4 (s.dword a)

/-- WAITW_TIMEOUT: 50 ms (04:R139). -/
def waitwTimeout (s : Pkg) (n : Nat) : Pkg :=
  match (s.tile n).waitw with
  | some (_, a, v, since) => if since + 50000000 ≤ s.tempo.now && decide (s.dword a < v) then s.stopTile n 3 else s
  | none => s

/-- PLY_COMMIT (03:R94). -/
def plyCommit (s : Pkg) (n : Nat) : Pkg := if (s.tile n).mode == .draining then s.commitPly n else s

/-- PLY_WATCHDOG (03:R96). -/
def plyWatchdog (s : Pkg) (n : Nat) : Pkg :=
  let t := s.tile n
  if t.mode == .running && s.atCap n then s.killTile n 0x0106 [] else s

/-- REPLAY: a faulted tile whose set-up is made (03:R95). -/
def replay (s : Pkg) (n : Nat) : Pkg :=
  if (s.tile n).mode == .faulted && (s.fault.open_.filter (fun r => r.tile = n)).all (fun r => decide (r.step = 1)) then s.replayTile n else s

/-- OCACHE_SCRUB: a single-bit error was corrected on read. In the operand cache scrub rewrites the line unless a write meets it; either
way the bytes stand. Lines 8,192 to 11,263 name the units of the ply write buffer, then the lines of the staging area, where an error
is corrected and counted only (06:R203, R207, R208, log entry 63). -/
def ocacheScrub (s : Pkg) (n line : Nat) (meets : Bool) : Pkg :=
  let t := s.tile n
  if t.part = 0 || 11264 ≤ line then s
  else if 8192 ≤ line then s.bump (0x3860 + (t.part - 1)) 8 1
  else
    let s := s.bump (0x3860 + (t.part - 1)) 6 1
    if meets then s else s.setTile n (t.wr (line * 64) (t.rd (line * 64) 64))

end Sys2Proof

namespace Sys2Proof.Machine

open Sys2Proof

/-- YK_SOLVE (07:R210). -/
def execYkSolve (t : Nat) (s : State) : Res := onTile t s (fun k => solveIssue k t)
/-- YK_COLL (12:R377). -/
def execYkColl (t : Nat) (s : State) : Res := onTile t s (fun k => collIssue k t)
/-- YK_ELOAD (04:R153). -/
def execYkEload (t : Nat) (s : State) : Res := onTile t s (fun k => eloadIssue k t)
/-- YK_WAIT (04:R129). -/
def execYkWait (t : Nat) (s : State) : Res := onTile t s (fun k => waitIssue k t)
/-- YK_WAITALL (04:R129). -/
def execYkWaitall (t : Nat) (s : State) : Res := onTile t s (fun k => waitallIssue k t)
/-- YK_PLY (04:R154). -/
def execYkPly (t : Nat) (s : State) : Res := onTile t s (fun k => plyMark k t)
/-- YK_FEND (04:R155). -/
def execYkFend (t : Nat) (s : State) : Res := onTile t s (fun k => frameEnd k t)
/-- YK_RELW (04:R138). -/
def execYkRelw (t : Nat) (s : State) : Res := onTile t s (fun k => relwIssue k t)
/-- YK_WAITW (04:R139). -/
def execYkWaitw (t : Nat) (s : State) : Res := onTile t s (fun k => waitwIssue k t)
/-- WAITW_WAKE (04:R139). -/
def execWaitwWake (t : Nat) (s : State) : Res := onTile t s (fun k => waitwWake k t)
/-- WAITW_TIMEOUT (04:R139). -/
def execWaitwTimeout (t : Nat) (s : State) : Res := onTile t s (fun k => waitwTimeout k t)
/-- PLY_COMMIT (03:R94). -/
def execPlyCommit (t : Nat) (s : State) : Res := onTile t s (fun k => plyCommit k t)
/-- PLY_WATCHDOG (03:R96). -/
def execPlyWatchdog (t : Nat) (s : State) : Res := onTile t s (fun k => plyWatchdog k t)
/-- REPLAY (03:R95). -/
def execReplay (t : Nat) (s : State) : Res := onTile t s (fun k => replay k t)
/-- OCACHE_SCRUB (06:R203). -/
def execOcacheScrub (t line : Nat) (meets : Bool) (s : State) : Res := onTile t s (fun k => ocacheScrub k t line meets)

end Sys2Proof.Machine
end

