-- ==== Sys2Proof/Machine/RegionOps.lean ====
section
/-!
DEFINITION. Region commands of a partition's host: seal, unseal, destroy and pin, with the lock of a staged checkpoint
stop (09:R271 to R276, 14:R446).
-/

namespace Sys2Proof

/-- Regions named by a change record of kind 0x10 (14:R446). -/
def stopRegions (bytes : List Byte) : List Nat := ((List.range 4).map (fun i => fld bytes (24 + 2 * i) 2)).filter (· ≠ 0xFFFF)

/-- Regions that a partition's pending or running checkpoint stops lock (14:R446). -/
def Part.locked (x : Part) : List Nat :=
  let stops := (x.mem.slots.filterMap (fun (e : Nat × Option Change) => e.2)) ++ x.mem.applying
  (stops.filter (fun (c : Change) => c.kind = 0x10)).flatMap (fun (c : Change) => stopRegions c.bytes)
  ++ (match x.cap with
      | some c => stopRegions c.bytes
      | none => [])

/-- The partition may command the region: it owns it, and no stop has locked it. -/
def Pkg.regionMine (s : Pkg) (p r : Nat) : Bool :=
  decide (r < 1024) && decide ((s.region r).st ≠ 0) && decide ((s.region r).part = p) && !((s.part p).locked.contains r)

/-- REGION_SEAL takes effect (09:R272, R273). -/
def Pkg.sealNow (s : Pkg) (p cmd r : Nat) : Pkg :=
  let x := s.region r
  if s.regionMine p r && decide (x.st = 1) && x.sealing.isNone then
    let s := s.flushHold r
    let x := s.region r
    (s.setRegion r { x with sealing := some cmd }).sealReady (some p)
  else s.complete p cmd 0x09 stRegion 0

/-- The invariant of R276 would hold with a region changed so. -/
def Pkg.poolHolds (s : Pkg) (r : Nat) (x : TRegion) : Bool :=
  let s := s.setRegion r x
  decide (s.committed ≤ s.extentsTotal)

/-- REGION_UNSEAL takes effect (09:R272, R276). -/
def Pkg.unsealNow (s : Pkg) (p cmd r : Nat) : Pkg :=
  let x := s.region r
  if !(s.regionMine p r && decide (x.st = 2)) then s.complete p cmd 0x0A stRegion 0
  else if !(s.poolHolds r { x with st := 3, toward := 1 }) then s.complete p cmd 0x0A stPoolFull 0
  else (s.closeRegion r 1 false).complete p cmd 0x0A stOK (s.part p).mem.n

/-- REGION_DESTROY takes effect (09:R272). -/
def Pkg.destroyNow (s : Pkg) (p cmd r : Nat) : Pkg :=
  let x := s.region r
  if s.regionMine p r && (decide (x.st = 1) || decide (x.st = 2)) then
    let s := s.setRegion r { x with hold := [], sealing := none }
    let s := match x.sealing with
      | some c => s.complete p c 0x09 stRegion 0
      | none => s
    ((s.closeRegion r 0 false).finishCreates 1024).complete p cmd 0x0B stOK (s.part p).mem.n
  else s.complete p cmd 0x0B stRegion 0

/-- REGION_PIN (09:R276, 14:R434). -/
def Pkg.pinNow (s : Pkg) (p cmd r v : Nat) : Pkg :=
  let x := s.region r
  if !(s.regionMine p r) || x.st = 3 then s.complete p cmd 0x0C stRegion 0
  else if v = 1 && !(s.poolHolds r { x with pinned := true }) then s.complete p cmd 0x0C stPoolFull 0
  else (s.setRegion r { x with pinned := decide (v = 1) }).complete p cmd 0x0C stOK 0

/-- Every region of a partition that becomes empty is freed (09:R272). -/
def Pkg.freeRegions (s : Pkg) (p : Nat) : Pkg :=
  let mine := (s.tier.regions.filter (fun (e : Nat × TRegion) => decide (e.2.st ≠ 0) && decide (e.2.part = p))).map (·.1)
  let gone (j : TJob) : Bool := mine.contains j.region && (match j.use with
    | .host .. | .hart .. | .restore .. => true
    | _ => false)
  let s := { s with tier := { s.tier with
    jobs := s.tier.jobs.filter (fun j => !gone j)
    host := s.tier.host.filter (fun h => h.part ≠ p)
    creating := s.tier.creating.filter (fun c => c.part ≠ p), asked := s.tier.asked.filter (fun c => c.part ≠ p) } }
  (mine.foldl (fun s r => (s.setRegion r { s.region r with hold := [], sealing := none }).closeRegion r 0 false) s).finishCreates 1024

end Sys2Proof
end

