-- ==== Sys2Proof/Machine/SCache.lean ====
section
/-!
DEFINITION. The shared cache: home slices, fills and ages, the stream detector, retired ways, and atomics at the home slice
(08:R249 to R256). Every access of a hart is served at the home slice of its line; the level-1 caches hold nothing that
differs (DESIGN CHOICE 26).
-/

namespace Sys2Proof

/-- The home slice of a line: P-die × 16 + slice (08:R249). -/
def homeSlice (line : Nat) : Nat :=
  let a := line * 64
  let die := dieOf a
  let P := (if 3 ≤ die / 8 then 2 else 0) + (if 4 ≤ die % 8 then 1 else 0)
  let fold := [6, 10, 14, 18, 22, 26, 30].foldl (fun x i => x ^^^ bits a (i + 3) i) 0
  P * 16 + fold

/-- The set of a line (08:R249). -/
def cacheSet (line : Nat) : Nat := line % 16384

/-- A slice of the shared cache. -/
def Pkg.cslice (s : Pkg) (k : Nat) : Slice := Tab.get {} s.slices k
def Pkg.setSlice (s : Pkg) (k : Nat) (x : Slice) : Pkg := { s with slices := Tab.set {} s.slices k x }

/-- Lines of a set of a slice. -/
def Pkg.setLines (s : Pkg) (k set : Nat) : Tab CLine := s.scache.filter (fun (e : Nat × CLine) => decide (cacheSet e.1 = set) && decide (homeSlice e.1 = k))

/-- The home slice evicts a line: the cached bit is cleared (08:R252). -/
def Pkg.dropLine (s : Pkg) (line : Nat) : Pkg := { s with scache := Tab.erase s.scache line, cached := Tab.erase s.cached line }

/-- Two lines of one slice are adjacent where no line of the slice lies between them: one line of each slice stands in every
1 KiB (08:R249, R251; DEDUCED 27). The answer is 1 up, 2 down, 0 not adjacent. -/
def adjacent (last line : Nat) : Nat := if line / 16 = last / 16 + 1 then 1 else if line / 16 + 1 = last / 16 then 2 else 0

/-- A miss at the stream detector: its trackers, and whether it makes the fill a streaming one (08:R251). -/
def Slice.miss (x : Slice) (h line : Nat) : Bool × Slice :=
  let follows (t : Nat × Nat × Nat × Nat) : Bool :=
    let d := adjacent t.2.1 line
    decide (t.1 = h) && decide (d ≠ 0) && (decide (t.2.2.1 = 0) || decide (t.2.2.1 = d))
  match x.streams.find? follows with
  | some t => (decide (3 ≤ t.2.2.2), { x with streams := (h, line, adjacent t.2.1 line, t.2.2.2 + 1) :: x.streams.erase t })
  | none => (false, { x with streams := ((h, line, 0, 1) :: x.streams).take 16 })

/-- Fill a line from its S-die into a way (08:R250, R251). A slice without ways keeps nothing (13:R413). -/
def Pkg.fillLine (s : Pkg) (line age : Nat) : Pkg :=
  let k := homeSlice line
  let here := s.setLines k (cacheSet line)
  let ways := (List.range 16).filter (fun w => !(bit (s.cslice k).retired w))
  let new (way : Nat) : CLine := { data := s.dsBytes (line * 64) 64, way := way, age := age }
  let put (s : Pkg) (way : Nat) : Pkg := { s with scache := Tab.insert s.scache line (new way), cached := Tab.insert s.cached line 1 }
  match ways.find? (fun w => here.all (fun e => e.2.way ≠ w)) with
  | some w => put s w
  | none =>
    let top := here.foldl (fun a e => max a e.2.age) 0
    match ways.find? (fun w => here.any (fun e => e.2.way = w && e.2.age = top)) with
    | none => s
    | some w =>
      let older (e : Nat × CLine) : Nat × CLine := if here.any (fun f => f.1 = e.1) then (e.1, { e.2 with age := e.2.age + (3 - top) }) else e
      let s := { s with scache := s.scache.map older }
      put (((here.filter (fun e => e.2.way = w)).map (·.1)).foldl Pkg.dropLine s) w

/-- A hart's load of a line is served at its home slice; `stream` is an NTL hint (08:R250 to R252). -/
def Pkg.loadLine (s : Pkg) (h line : Nat) (stream : Bool) : List Byte × Pkg :=
  let here (c : CLine) : CLine := { c with age := 0, pres := c.pres ||| 2 ^ (h / 384) }
  match Tab.find s.scache line with
  | some c => (c.data, { s with scache := Tab.insert s.scache line (here c) }.bump 0x38C0 1 1)
  | none =>
    let k := homeSlice line
    let (run, x) := (s.cslice k).miss h line
    let far := stream || run
    let s := ((s.setSlice k x).bump 0x38C0 2 1).bump 0x38C0 3 (b2n far)
    let s := s.fillLine line (if far then 3 else 0)
    (s.dsBytes (line * 64) 64, { s with scache := mapIf (fun (e : Nat × CLine) => e.1 = line) (fun e => (e.1, { e.2 with pres := 2 ^ (h / 384) })) s.scache })

/-- Bytes of die-store addresses as the home slices give them. -/
def Pkg.loadBytes (s : Pkg) (h a n : Nat) (stream : Bool) : List Byte × Pkg :=
  let (bs, s) := (linesOf a n).foldl (fun (r : List Byte × Pkg) l => let (d, s) := r.2.loadLine h l stream
    (r.1 ++ d, s)) ([], s)
  (Sys2Proof.slice bs (a % 64) n, s)

/-- An atomic at the home slice of its line: on the line as the S-die holds it, since a pending invalidation of the line makes
the home slice fetch it again and execute the atomic on that (08:R255, R258). `f` gives the bytes to write, or none. `own` is a hart,
or hartMax for the fabric, whose misses train no detector; `p` the partition, or none; `hint` an NTL hint (08:R251). -/
def Pkg.atomicAt (s : Pkg) (own p a size : Nat) (hint : Bool) (f : Nat → Option Nat) : Nat × Pkg :=
  let line := a / 64
  let hit := (Tab.find s.scache line).isSome
  let retry := s.invals.contains line
  let s := if p < partMax then (s.bump (0x38A0 + p) 8 1).bump (0x38A0 + p) 0x0A (b2n retry) else s
  let s := if hit then { s with scache := mapIf (fun (e : Nat × CLine) => e.1 = line) (fun e => (e.1, { e.2 with age := 0, data := s.dstore.readN (line * 64) 64 })) s.scache }.bump 0x38C0 1 1
    else
      let (run, x) := if own < hartMax then (s.cslice (homeSlice line)).miss own line else (false, s.cslice (homeSlice line))
      let far := hint || run
      (((s.setSlice (homeSlice line) x).bump 0x38C0 2 1).bump 0x38C0 3 (b2n far)).fillLine line (if far then 3 else 0)
  let old := s.dstore.rd a size
  match f old with
  | none => (old, s)
  | some v =>
    let s := { s with dstore := s.dstore.writeN a (natLe size v) }
    let s := { s with scache := mapIf (fun (e : Nat × CLine) => e.1 = line) (fun e => (e.1, e.2.put line a (natLe size v))) s.scache }
    (old, s.dropResv [line] (own + 1))

/-- The operations of the AMOs on values of `w` bits: 0 ADD, 1 AND, 2 OR, 3 XOR, 4 MIN, 5 MAX, 6 MINU, 7 MAXU, 8 SWAP (08:R254,
11:R339). -/
def amoOp (op w old v : Nat) : Nat :=
  match op with
  | 0 => (old + v) % 2 ^ w
  | 1 => old &&& v
  | 2 => old ||| v
  | 3 => old ^^^ v
  | 4 => if toSigned w old < toSigned w v then old else v
  | 5 => if toSigned w old < toSigned w v then v else old
  | 6 => min old v
  | 7 => max old v
  | _ => v

/-- The frame in which a slice counts the errors of a way: that of the partition whose line it is, or that of the first
partition (08:R253, DESIGN CHOICE 28). -/
def Pkg.errFrame (s : Pkg) (k way : Nat) : Nat :=
  let die := match s.scache.find? (fun (e : Nat × CLine) => decide (homeSlice e.1 = k) && decide (e.2.way = way)) with
    | some e => dieOf (e.1 * 64)
    | none => 0
  match (List.range partMax).find? (fun p => (s.part p).dies.contains die) with
  | some p => (s.part p).mem.n
  | none => (s.part 0).mem.n

/-- A way is retired in every set of its slice, by a root-firmware commit; with the fourth the slice counts as a fault, and
past the twelfth it has none left (08:R253, 13:R402, R413, R418). -/
def Pkg.retireWay (s : Pkg) (k way : Nat) : Pkg :=
  let x := s.cslice k
  let n := ((List.range 16).filter (bit x.retired)).length
  let s := s.setSlice k { x with retired := if 12 ≤ n then 0xFFFF else x.retired ||| 2 ^ way, errs := Tab.erase x.errs way }
  let gone (e : Nat × CLine) : Bool := decide (homeSlice e.1 = k) && bit (s.cslice k).retired e.2.way
  let s := ((s.scache.filter gone).map (·.1)).foldl Pkg.dropLine s
  let s := s.bump 0x38C0 8 1
  let s := { s with fault := { s.fault with pendingMap := true } }
  if n = 3 then (s.openGroup 6 k).castlingRecord { cls := 6, unit := 48 + k / 16, detected := s.tempo.now, spares := 8 } else s

/-- SCACHE_ECC_ERROR: an error in a way of a set: 0 a single bit, corrected; 1 uncorrectable; 2 tag parity. The last two
invalidate the way, and the access is a miss (08:R253). -/
def scacheError (s : Pkg) (k set way kind : Nat) : Pkg :=
  let x := s.cslice k
  if bit x.retired way then s
  else
    let fr := s.errFrame k way + 1
    let n := (if Tab.get 0 x.errFrame way = fr then Tab.get 0 x.errs way else 0) + 1
    let s := s.setSlice k { x with errs := Tab.insert x.errs way n, errFrame := Tab.insert x.errFrame way fr }
    let s := s.bump 0x38C0 (5 + kind) 1
    let s := if kind = 0 then s else (((s.setLines k set).filter (fun e => e.2.way = way)).map (·.1)).foldl Pkg.dropLine s
    if 16 ≤ n then s.retireWay k way else s

end Sys2Proof

namespace Sys2Proof.Machine

open Sys2Proof

/-- SCACHE_ECC_ERROR (08:R253). -/
def execScacheEccError (slice set way kind : Nat) (s : State) : Res :=
  act (decide (slice < 64) && decide (set < 16384) && decide (way < 16) && decide (kind < 3)) s (fun k => scacheError k slice set way kind)

end Sys2Proof.Machine
end

