-- ==== Sys2Proof/Machine/FrameOps.lean ====
section
/-!
DEFINITION. Frames as shared operations: the schedule, external inputs at ticks, recording and replay, digests, coordinate
records, staged changes and the armed vote, the tick report (03:R83 to R89, R104 to R118, 14:R436, R441, R442).
-/

namespace Sys2Proof

/-- Change the recording. -/
def Pkg.setRec (s : Pkg) (p : Nat) (r : Recording) : Pkg := s.setPart p { s.part p with recd := r }

/-- One record entry (03:R114). -/
def recEntry (kind : Nat) (targeted : Bool) (frame tempo target order gaps : Nat) (payload : List Byte) : List Byte :=
  natLe 1 kind ++ natLe 1 (b2n targeted) ++ natLe 2 0 ++ natLe 4 payload.length ++ natLe 8 frame ++ natLe 8 tempo ++ natLe 8 target ++ natLe 4 order
    ++ natLe 4 gaps ++ natLe 24 0 ++ padTo (ceilDiv payload.length 64 * 64) payload

/-- Room in the ring from the producer offset: bytes to the consumer, less one entry position (03:R113, log entry 21). -/
def Recording.room (r : Recording) (size : Nat) : Nat :=
  let area := size - 64
  (r.cons + area - r.prod - 64) % area

/-- Place of an entry of n bytes, and the bytes a wrap entry takes before it (03:R113). -/
def Recording.place (r : Recording) (size n : Nat) : Nat × Nat := if r.prod + n ≤ size then (r.prod, 0) else (64, size - r.prod)

/-- Write an entry where it fits: the bytes, the producer offset (03:R113). `none` where the ring has no room. -/
def Pkg.ringPut (s : Pkg) (p : Nat) (e : List Byte) : Option Pkg :=
  let r := (s.part p).recd
  let base := s.ent (0x8400 + p) 1
  let size := s.ent (0x8400 + p) 2
  let (at_, wrap) := r.place size e.length
  if r.room size < wrap + e.length then none
  else
    let s := if wrap = 0 then s else s.emit (.hostWrite p (base + r.prod) (recEntry 0x0F false 0 0 0 0 0 []))
    let s := s.emit (.hostWrite p (base + at_) e)
    let prod := if at_ + e.length = size then 64 else at_ + e.length
    some ((s.emit (.hostWrite p base (natLe 8 prod))).setRec p { r with prod := prod })

/-- Record an input applied at a frame; while a gap is open every entry is lost (03:R113, R115, log entry 78). -/
def Pkg.record (s : Pkg) (p frame : Nat) (e : List Byte) : Pkg :=
  let r := (s.part p).recd
  if r.mode ≠ 1 then s
  else if !r.wait.isEmpty then s.setRec p { r with wait := r.wait ++ [e] }
  else
    let put := if r.gap = 0 then s.ringPut p e else none
    match put with
    | some s => s.bump (0x8400 + p) 5 1
    | none =>
      if s.ent (0x8400 + p) 3 = 1 then s.setRec p { r with wait := [e] }
      else
        let s := (s.setRec p { r with gap := r.gap + 1, gapFrame := if r.gap = 0 then frame else r.gapFrame }).bump (0x8400 + p) 6 1
        if r.gap = 0 then s.raise 0x010B p [frame] else s

/-- Write waiting entries while there is room (03:R115). -/
def Pkg.ringDrain (s : Pkg) (p : Nat) : List (List Byte) → Pkg
  | [] => s
  | e :: rest => match s.ringPut p e with
    | some s => Pkg.ringDrain ((s.bump (0x8400 + p) 5 1).setRec p { (s.part p).recd with wait := rest }) p rest
    | none => s

/-- Cut a ring's bytes into entries; wrap entries are dropped (03:R113, R114). `fuel` bounds the entries. -/
def cutEntries : Nat → List Byte → List (List Byte)
  | 0, _ => []
  | fuel + 1, bs =>
    if bs.length < 64 then []
    else
      let n := 64 + ceilDiv (fld bs 4 4) 64 * 64
      if byteAt bs 0 = 0x0F then cutEntries fuel (bs.drop 64) else bs.take n :: cutEntries fuel (bs.drop n)

/-- The ring holds every entry for frame n: known from an entry for a later frame (03:R116, log entry 60). -/
def Recording.whole (r : Recording) (n : Nat) : Bool := r.refused || r.entries.any (fun e => decide (n < fld e 8 8))

/-- A staged change that starts replay at a frame (03:R104). -/
def Change.replays (c : Change) : Bool := decide (c.kind = 6) && decide (byteAt c.bytes 16 = 2)

/-- The ring's condition for the start of frame n, with which replay may begin (03:R87, R115, R116). -/
def Part.ringReady (x : Part) (policy n : Nat) : Bool :=
  (if x.recd.mode = 1 then policy ≠ 1 || x.recd.wait.isEmpty
   else if x.recd.mode = 2 then x.recd.whole n
   else true)
  && (x.recd.mode = 2 || !(x.mem.applying.any (fun c => c.replays && decide (c.frame = n))) || x.recd.whole n)

/-- The bytes that a fabric write leaves at its address: WR writes those its mask enables (11:R339). -/
def Pkg.fabricBytes (s : Pkg) (h : Hdr) (data : List Byte) : List Byte :=
  s.maskBytes h.addr h.mask data

/-- The once-table of an F-die (11:R357). -/
def Pkg.onces (s : Pkg) (f : Nat) : List Once := Tab.get [] s.net.once f
def Pkg.setOnces (s : Pkg) (f : Nat) (l : List Once) : Pkg := { s with net := { s.net with once := Tab.set [] s.net.once f l } }

/-- The entry with the once key of a packet: source, agent, opspec [31:0] (11:R357). -/
def Once.is (o : Once) (h : Hdr) : Bool := decide (o.src = h.src) && decide (o.agent = h.agent) && decide (o.key = h.spec % 2 ^ 32)

/-- Bytes an ATOMIC works on (11:R339). -/
def Hdr.width (h : Hdr) : Nat := 4 * 2 ^ bits h.spec 37 36

/-- An ATOMIC packet executes at its home slice (08:R254, R255, 11:R339): what stood there, as 16 bytes. -/
def Pkg.runAtomic (s : Pkg) (p : Nat) (h : Hdr) (data : List Byte) : List Byte × Pkg :=
  let w := h.width
  let fn := bits h.spec 35 32
  let half := if w = 16 then 16 else 8
  let v := fld data 0 half % 2 ^ (8 * w)
  let cmp := fld data half half % 2 ^ (8 * w)
  let (old, s) := s.atomicAt hartMax p h.addr w false (fun old => if fn = 9 then (if old = cmp then some v else none) else some (amoOp fn (8 * w) old v))
  (natLe 16 old, s.countWrite p 48 h.addr w)

/-- The result of an ATOMIC stands in its entry of the once-table and is answered (11:R357). -/
def Pkg.answerAtomic (s : Pkg) (h : Hdr) (res : List Byte) : Pkg :=
  let f := h.src % 8
  (s.setOnces f (mapIf (fun (o : Once) => o.is h) (fun o => { o with result := res, sentAt := s.tempo.local_ }) (s.onces f))).answer h opRSP 0 0 res

/-- A fabric message takes effect on the die store: a write, or an ATOMIC, whose result is given (03:R112, 11:R339). -/
def Pkg.fabricEffect (s : Pkg) (p : Nat) (packet : List Byte) : List Byte × Pkg :=
  let h := Hdr.dec packet
  let d := packet.drop 32
  if h.op = opATOMIC then (if dsOk h.addr h.width then s.runAtomic p h d else ([], s))
  else ([], if dsOk h.addr d.length then s.dstorePut h.addr (s.fabricBytes h d) else s)

/-- An input of a kind that is recorded: host input write, doorbell, fabric message (03:R114). -/
def Pend.recorded (i : Pend) : Bool := decide (i.kind ≤ 3)

/-- States of a partition's regions, by number. -/
def Pkg.regionStates (s : Pkg) (p : Nat) : List (Nat × Nat) :=
  (s.tier.regions.filter (fun (e : Nat × TRegion) => decide (e.2.part = p))).map (fun (e : Nat × TRegion) => (e.1, e.2.st))

/-- One external input takes effect at tick n (03:R112, 14:R436): what it writes, and its record; one that
a replay ignores is not answered (log entry 88); a region change discards the gambit plies (09:R273). -/
def Pkg.applyInput (s : Pkg) (p n order : Nat) (i : Pend) : Pkg :=
  let x := s.part p
  let live := decide (x.recd.mode ≠ 2)
  let skip (s : Pkg) : Pkg := s.bump (0x8400 + p) 7 1
  let change (k : Pkg) : Pkg := if k.regionStates p = s.regionStates p then k else k.dropGambits p
  let write (s : Pkg) (kind a target : Nat) (d payload : List Byte) : Pkg :=
    if live then (if dsOk a d.length then (s.countWrite p 48 a d.length).dstorePut a d else s).record p n (recEntry kind i.targeted n i.arrived target order 0 payload) else skip s
  match i.kind with
  | 1 => (write s 1 i.addr i.addr i.data i.data).complete p i.cmd i.op stOK n
  | 2 => write s 2 (x.img.doors.getD i.addr (2 ^ 64)) i.addr i.data i.data
  | 3 =>
    let h := Hdr.dec i.data
    let f := h.src % 8
    if !live then skip (if h.op = opATOMIC then s.setOnces f ((s.onces f).filter (fun o => !(o.is h))) else s)
    else
      let (res, s) := s.fabricEffect p i.data
      let s := s.record p n (recEntry 3 i.targeted n i.arrived i.host order 0 i.data)
      if h.op = opATOMIC then s.answerAtomic h res else s
  | 4 => ((s.countRead p i.len).hostDma p i.cmd i.host (s.dsBytes i.addr i.len)).complete p i.cmd i.op stOK n
  | 5 => change (s.sealNow p i.cmd i.addr)
  | 6 => change (s.unsealNow p i.cmd i.addr)
  | _ => change (s.destroyNow p i.cmd i.addr)

/-- A recorded entry takes effect at its frame (03:R116). -/
def Pkg.applyEntry (s : Pkg) (p : Nat) (e : List Byte) : Pkg :=
  let d := slice e 64 (fld e 4 4)
  let put (s : Pkg) (a : Nat) (d : List Byte) : Pkg := if dsOk a d.length then s.dstorePut a d else s
  match byteAt e 0 with
  | 1 => put s (fld e 24 8) d
  | 2 => put s ((s.part p).img.doors.getD (fld e 24 8) (2 ^ 64)) d
  | 3 => (s.fabricEffect p d).2
  | _ => s

/-- The inputs of tick n: recorded ones first, then live ones in order of arrival (03:R112, R116). -/
def Pkg.applyInputs (s : Pkg) (p n : Nat) : Pkg :=
  let x := s.part p
  let (now, later) := x.mem.inputs.partition (fun (i : Pend) => decide (i.target = some n))
  let s := s.setMem p { x.mem with inputs := later }
  let s :=
    if x.recd.mode = 2 then
      let s := s.setRec p { x.recd with entries := x.recd.entries.filter (fun e => decide (n < fld e 8 8)) }
      (x.recd.entries.filter (fun e => decide (fld e 8 8 = n))).foldl (fun s e => s.applyEntry p e) s
    else s
  (now.foldl (fun (a : Pkg × Nat) i => (a.1.applyInput p n a.2 i, a.2 + b2n i.recorded)) (s, 0)).1

/-- Tick n: seals whose writes are done and the inputs; a region change that applies discards the gambit plies (03:R103, 09:R273). -/
def Pkg.tickInputs (s : Pkg) (p n : Nat) : Pkg :=
  let k := s.sealReady (some p)
  (if k.regionStates p = s.regionStates p then k else k.dropGambits p).applyInputs p n

/-- Queue an external input, or refuse it late (03:R112, R120). -/
def Pkg.queueInput (s : Pkg) (p : Nat) (i : Pend) : Pkg :=
  let late := match i.target with
    | some n => s.tickPassed p n
    | none => false
  if late then (s.raise 0x010D p [i.target.getD 0, i.kind]).complete p i.cmd i.op 5 0
  else
    let m := (s.part p).mem
    s.setMem p { m with inputs := m.inputs ++ [{ i with arrived := s.tempo.now }] }

/-- Digests of a frame into the ring (03:R118). -/
def Pkg.writeDigests (s : Pkg) (p n : Nat) : Pkg :=
  let ts := tilesOf (s.part p).dies
  let ds := ts.map (fun t => (s.tile t).digest)
  let P := ds.foldl (fun P d => let P := mul64 (P ^^^ d) hashM1
    P ^^^ (P >>> 29)) 0
  let size := 32 + 8 * ts.length
  let a := s.ent (0x8410 + p) 2 + n % (max 1 (s.ent (0x8410 + p) 3)) * size
  let s := s.setEnt (0x8410 + p) 4 P
  if dsOk a size then
    s.dstorePut a (natLe 8 n ++ natLe 4 ts.length ++ natLe 4 0 ++ natLe 8 P ++ natLe 8 0 ++ ds.flatMap (natLe 8))
  else s

/-- The digest ring lies in one window of the partition, 64 B-aligned (03:R118). -/
def Pkg.digestRingOk (s : Pkg) (p : Nat) : Bool :=
  let a := s.ent (0x8410 + p) 2
  decide (a % 64 = 0) && s.ownRange p a (s.ent (0x8410 + p) 3 * (32 + 1024 * (s.part p).dies.length))

/-- Extent of axis a in a layout record (14:R441). -/
def layoutExtent (l : List Byte) (a : Nat) : Nat := fld l (4 + 4 * a) 4

/-- The axes of a layout record, innermost first (14:R441). -/
def layoutAxes (l : List Byte) : List Nat := (List.range 4).map (fun i => bits (byteAt l 0) (2 * i + 1) (2 * i))

/-- A layout passes (14:R441). -/
def layoutOk (l : List Byte) (members tiles : Nat) : Bool :=
  (List.range 4).all (layoutAxes l).contains && (List.range 4).all (fun a => decide (1 ≤ layoutExtent l a))
    && decide ((List.range 4).foldl (fun k a => k * layoutExtent l a) 1 = members * tiles) && zeroAt l 1 3 && zeroAt l 20 12

/-- Digits of a job tile rank under a layout, by axis (14:R442). -/
def layoutDigits (l : List Byte) (g : Nat) : List Nat :=
  let r := (layoutAxes l).foldl
    (fun (acc : Nat × Tab Nat) a => let e := max 1 (layoutExtent l a)
      (acc.1 / e, Tab.insert acc.2 a (acc.1 % e))) (g, [])
  (List.range 4).map (Tab.get 0 r.2)

/-- Coordinate record of a tile (14:R442). -/
def coordRecord (l : List Byte) (layout g : Nat) : List Byte :=
  padTo 64 (natLe 1 layout ++ natLe 7 0 ++ (layoutDigits l g).flatMap (natLe 4) ++ natLe 8 g)

/-- Write every tile's coordinate record under the current layout (14:R442). -/
def Pkg.writeCoords (s : Pkg) (p : Nat) : Pkg :=
  let x := s.part p
  let l := x.img.layouts.getD x.layout []
  let ts := tilesOf x.dies
  ((List.range ts.length).zip ts).foldl
    (fun s t => s.dstorePut (winOf t.2 + x.img.coordOff + 64 * (t.2 % 128)) (coordRecord l x.layout (x.rank * ts.length + t.1))) s

/-- The reserve check (03:R83), in ns. -/
def reserveOk (f w b : Nat) : Bool := if 100000 ≤ f then decide (w + b + 50000 ≤ f) else decide (2 * (w + b) ≤ f)

/-- F is a whole number of microseconds from 20 µs to 60 s (03:R83). -/
def frameLenOk (us : Nat) : Bool := decide (20 ≤ us) && decide (us ≤ 60000000)

/-- Hash of a staged change (03:R104). -/
def Change.hash (c : Change) : Nat := hashBytes 4 c.bytes

/-- Pending changes of a member. -/
def Member.pendingChanges (m : Member) : List Change := m.slots.filterMap (fun (e : Nat × Option Change) => e.2)

/-- Kinds 0x02 and 0x03 pending for one N belong together (03:R83). -/
def paired (a b : Change) : Bool := decide (a.frame = b.frame) && decide (a.kind + b.kind = 5) && (a.kind = 2 || a.kind = 3)

/-- Packets that a named region holds, of 16 KiB. -/
def Pkg.stopRegionOk (s : Pkg) (p r : Nat) : Bool :=
  let x := s.region r
  decide (r < 1024) && decide (x.st = 1) && decide (x.part = p) && decide (x.fmt = 1) && !x.scaled

/-- The preconditions of a change hold; `need` is the stream length of a checkpoint type (03:R83, R106, R118, 14:R442,
R446). -/
def Pkg.changeOk (s : Pkg) (p : Nat) (c : Change) (need : Nat → Nat) : Bool :=
  let x := s.part p
  let b := c.bytes
  match c.kind with
  | 1 => decide (byteAt b 16 < x.img.layoutCount)
  | 2 | 3 =>
    let v := (c :: x.mem.pendingChanges.filter (fun o => paired c o)).foldl
      (fun (v : Nat × Nat × Nat) o => if o.kind = 2 then (fld o.bytes 16 4 * 1000, v.2.1, fld o.bytes 20 8) else (v.1, fld o.bytes 16 4, v.2.2))
      (x.mem.f, x.mem.w, x.mem.b)
    frameLenOk (v.1 / 1000) && decide (400 ≤ v.2.1) && decide (v.2.1 ≤ 6400) && reserveOk v.1 v.2.1 v.2.2
  | 4 => decide (5 ≤ byteAt b 16) && decide (byteAt b 16 ≤ 40)
  | 5 => decide (byteAt b 16 ≤ 1)
  | 6 =>
    let size := s.ent (0x8400 + p) 2
    decide (byteAt b 16 ≤ 2) && (byteAt b 16 = 0 || (decide (65536 ≤ size) && decide (size ≤ 2 ^ 30) && decide (2 ^ Nat.log2 size = size)))
  | 7 => decide (byteAt b 16 ≤ 1) && (byteAt b 16 = 0 || s.digestRingOk p)
  | 0x10 =>
    let rs := stopRegions b
    decide (byteAt b 16 ≤ 1) && decide (byteAt b 17 ≤ 1) && rs.all (s.stopRegionOk p)
      && decide (need (byteAt b 16) ≤ rs.foldl (fun n r => n + (s.region r).packets * 16384) 0)
  | _ => false

/-- Kinds that a STAGE may name (03:R104). -/
def changeKinds : List Nat := [1, 2, 3, 4, 5, 6, 7, 0x10]

/-- Accept a change record, or the status of its refusal (03:R80, R104, R105, 14:R446, R447). -/
def Pkg.stage (s : Pkg) (p : Nat) (bytes : List Byte) (origin cmd deadline : Nat) : Nat × Pkg :=
  let x := s.part p
  let m := x.mem
  let kind := byteAt bytes 0
  let slot := byteAt bytes 1
  let N := fld bytes 8 8
  if !(changeKinds.contains kind) || 3 < slot || !(zeroAt bytes 2 2) || (kind = 0x10 && !(zeroAt bytes 18 2)) then (stBadOperand, s)
  else if s.tempo.st != .locked && s.tempo.st != .holdover then (stStageRefused, s)
  else if N < m.n + 2 || (Tab.get none m.slots slot).isSome || (m.pendingChanges ++ m.applying).any (fun c => decide (c.kind = kind) && decide (c.frame = N)) then
    (stStageRefused, s)
  else if kind = 0x10 && (stopRegions bytes).any x.locked.contains then (stStageRefused, s)
  else
    let c : Change := { bytes := bytes, kind := kind, id := fld bytes 4 4, frame := N, arrived := s.tempo.now, origin := origin, cmd := cmd, deadline := deadline }
    (stOK, s.setMem p { m with slots := Tab.set none m.slots slot (some c) })

/-- CHECKPOINT_SKIPPED (14:R445, R456). -/
def Pkg.skipped (s : Pkg) (p N cause : Nat) : Pkg := s.raise 0x0802 p [N, cause]

/-- The automatic trigger at the start of frame n (14:R445). -/
def Pkg.autoStage (s : Pkg) (p n : Nat) : Pkg :=
  let x := s.part p
  let N := n + 2
  let k := s.ent (0x8000 + p) 1
  let T := s.ent (0x8000 + p) 2
  let byMs := decide (0 < T) && !x.ckptTried && decide (x.ckptBase + T * 1000000 ≤ x.mem.due N)
  if (decide (0 < k) && decide (N % k = 0)) || byMs then
    let s := if byMs then s.setPart p { x with ckptTried := true } else s
    let ty := s.ent (0x8000 + p) 3
    let whole := if ty = 0 then decide (4096 < x.img.members.length) else decide (ty = 2)
    let bytes := natLe 1 0x10 ++ natLe 1 3 ++ natLe 2 0 ++ natLe 4 0 ++ natLe 8 N ++ natLe 1 (b2n whole) ++ natLe 7 0
      ++ (List.range 4).flatMap (fun i => natLe 2 (s.ent (0x8000 + p) (4 + i)))
    let (st, s) := s.stage p bytes 1 0 0
    if st = stOK then s else s.skipped p N 0
  else s

/-- The record of tick report n (03:R86, R106). -/
def Pkg.tickRecord (s : Pkg) (p n late : Nat) (replayWait : Bool) (need : Nat → Nat) : List Byte :=
  let m := (s.part p).mem
  let mine (i : Nat) : Option Change := (Tab.get none m.slots i).filter (fun (c : Change) => c.frame = n + 1)
  let armed (i : Nat) : Bool := match mine i with
    | some c => decide (c.arrived < Tab.get 0 m.fires n) && s.changeOk p c need
    | none => true
  let hash (i : Nat) : Nat := match mine i with
    | some c => c.hash
    | none => 0
  let flags := b2n (s.tempo.st == .holdover && s.tempo.degraded) + 2 * b2n replayWait
  natLe 8 n ++ natLe 8 n ++ natLe 8 late ++ natLe 1 ((List.range 4).foldl (fun k i => k + b2n (armed i) * 2 ^ i) 0) ++ natLe 1 flags ++ natLe 6 0
    ++ (List.range 4).flatMap (fun i => natLe 8 (hash i) ++ natLe 8 (hash i))

/-- Two records of a report combined field by field: minimum, maximum, AND, OR (03:R86). -/
def combineReports (a b : List Byte) : List Byte :=
  let lo (i : Nat) : List Byte := natLe 8 (min (fld a i 8) (fld b i 8))
  let hi (i : Nat) : List Byte := natLe 8 (max (fld a i 8) (fld b i 8))
  lo 0 ++ hi 8 ++ hi 16 ++ natLe 1 (byteAt a 24 &&& byteAt b 24) ++ natLe 1 (byteAt a 25 ||| byteAt b 25) ++ natLe 6 0
    ++ (List.range 4).flatMap (fun i => lo (32 + 16 * i) ++ hi (40 + 16 * i))

/-- The combined record reaches a member that waits for it (03:R86, 14:R448). -/
def Pkg.deliverReport (s : Pkg) (p : Nat) (rec_ : List Byte) : Pkg :=
  let x := s.part p
  if x.mem.awaiting.isSome || x.cap.any (fun c => decide (c.step = 2)) then s.setMem p { x.mem with combined := some rec_ } else s

/-- A TICK_REPORT packet to a node: `kind` 0 a contribution, 1 a delivery (11:R366, log entry 11). -/
def Pkg.sendReport (s : Pkg) (node job kind : Nat) (rec_ : List Byte) : Pkg :=
  match s.choosePort node opCTRL 0 3 with
  | some n => s.sendCtrl n 4 (rec_ ++ natLe 8 job ++ natLe 8 kind ++ natLe 16 0) (some node)
  | none => s

/-- A node's record reaches the job's report root: with the last of the members' records, the F-die engines combine them and deliver the
result to every member (03:R86, log entry 11). `p` is the job's partition here. -/
def Pkg.gatherReport (s : Pkg) (p : Option Nat) (job node : Nat) (rec_ : List Byte) : Pkg :=
  let l := upsert (fun (e : Nat × List Byte) => e.1 = node) (node, rec_) (Tab.get [] s.net.gathered job)
  let hold (l : List (Nat × List Byte)) : Pkg := { s with net := { s.net with gathered := Tab.set [] s.net.gathered job l } }
  match p with
  | none => hold l
  | some p =>
    let ms := (s.part p).img.members
    let rs := (l.filter (fun e => ms.contains e.1)).map (·.2)
    if ms.all (fun m => l.any (fun e => decide (e.1 = m))) then
      let r := (rs.drop 1).foldl combineReports (rs.headD rec_)
      ms.foldl (fun k m => if m = s.node then k.deliverReport p r else k.sendReport m job 1 r) (hold [])
    else hold l

/-- A member's record enters the reduction: it goes to the job's report root, the first node of the member list (03:R86, log entry 11). -/
def Pkg.enterReport (s : Pkg) (p : Nat) (cut : Bool) (rec_ : List Byte) : Pkg :=
  let job := s.ent (0x2000 + p) 5
  let root := (s.part p).img.members.headD s.node
  let s := s.emit (.report p cut rec_)
  if root = s.node then s.gatherReport (some p) job s.node rec_ else s.sendReport root job 0 rec_

/-- Contribute a report and wait for the combined one; the index is given plus 1 (03:R86, R89). -/
def Pkg.contributeReport (s : Pkg) (p k : Nat) (rec_ : List Byte) : Pkg :=
  let m := (s.part p).mem
  (s.setMem p { m with awaiting := some (k, s.tempo.now), combined := none }).enterReport p false rec_

/-- Records gathered for a partition's job are dropped (03:R86, log entry 11). -/
def Pkg.forgetReports (s : Pkg) (p : Nat) : Pkg :=
  { s with net := { s.net with gathered := Tab.erase s.net.gathered (s.ent (0x2000 + p) 5) } }

/-- A change takes effect at the start of frame n; one of kind 6 forgets a gap still open, and one that
starts replay in replay goes on with the entries read (03:R104, R107, R116, log entries 61, 62, 78, 93). -/
def Pkg.applyChange (s : Pkg) (p n : Nat) (c : Change) : Pkg :=
  let x := s.part p
  let m := x.mem
  let b := c.bytes
  let s := match c.kind with
    | 1 => (s.setPart p { x with layout := byteAt b 16 }).writeCoords p
    | 2 =>
      let us := fld b 16 4
      s.setPart p { x with img := { x.img with fUs := us, b := fld b 20 8 }, mem := { m with s := m.due n, m := n, f := us * 1000, b := fld b 20 8, schedAt := m.start } }
    | 3 => s.setPart p { x with img := { x.img with w := fld b 16 4 }, mem := { m with w := fld b 16 4 } }
    | 4 => s.setPart p { x with img := { x.img with cap := byteAt b 16 }, mem := { m with cap := byteAt b 16 } }
    | 5 => s.setPart p { x with img := { x.img with flags := x.img.flags / 2 * 2 + byteAt b 16 }, mem := { m with gambit := decide (byteAt b 16 = 1) } }
    | 6 =>
      let r := x.recd
      let s :=
        if byteAt b 16 = 2 && r.mode ≠ 2 then
          s.setRec p { mode := if r.refused then 0 else 2, prod := r.loaded, cons := r.loaded, entries := r.entries, loaded := r.loaded }
        else if byteAt b 16 = 2 then s
        else s.setRec p { mode := byteAt b 16, prod := 64, cons := 64 }
      if byteAt b 16 = 1 then s.emit (.hostWrite p (s.ent (0x8400 + p) 1) (natLe 8 64)) else s
    | 7 => s.setPart p { x with img := { x.img with flags := x.img.flags % 2 + 2 * byteAt b 16 }, mem := { m with digest := decide (byteAt b 16 = 1) } }
    | _ => s
  (s.bump (0x2210 + p) 0x10 1).raise 0x0103 p [byteAt b 1, c.kind, c.id]

/-- A change is cancelled (03:R107, 14:R445). The status of a stop's own command is a free value (log entry 5). -/
def Pkg.cancelChange (s : Pkg) (p slot N cause : Nat) (c : Option Change) : Pkg :=
  let s := s.bump (0x2210 + p) 0x11 1
  let r := (s.part p).recd
  let s := if (c.map Change.replays).getD false && r.mode ≠ 2 then s.setRec p { r with entries := [], loaded := 64, refused := false } else s
  match c with
  | none => s.raise 0x0104 p [slot, 0, 0, cause]
  | some c =>
    let s := s.raise 0x0104 p [slot, c.kind, c.id, cause]
    if c.kind ≠ 0x10 then s
    else if c.origin = 1 then s.skipped p N (cause + 1)
    else
      let (v, s) := s.draw
      s.complete p c.cmd (if c.origin = 2 then 0x10 else 0x06) (v % 65536) 0

/-- Decide the slots from report N − 1 (03:R83, R107). -/
def Pkg.decideSlots (s : Pkg) (p N : Nat) (rec_ : List Byte) : Pkg :=
  let m := (s.part p).mem
  let mine (i : Nat) : Option Change := (Tab.get none m.slots i).filter (fun (c : Change) => c.frame = N)
  let vote (i : Nat) : Option Nat :=
    let lo := fld rec_ (32 + 16 * i) 8
    let hi := fld rec_ (40 + 16 * i) 8
    if !(bit (byteAt rec_ 24) i) then some 0 else if lo = hi then none else some 1
  let empty (i : Nat) : Bool := bit (byteAt rec_ 24) i && decide (fld rec_ (32 + 16 * i) 8 = 0) && decide (fld rec_ (40 + 16 * i) 8 = 0)
  let pair (c : Change) : Option Nat := (List.range 4).findSome? (fun j => match mine j with
    | some o => if paired c o then vote j else none
    | none => none)
  let cause (i : Nat) : Option Nat := match vote i, mine i with
    | some k, _ => some k
    | none, some c => pair c
    | none, none => none
  let todo := (List.range 4).filter (fun i => !(empty i))
  let s := s.setMem p { m with
    slots := todo.foldl (fun t i => if (mine i).isSome then Tab.set none t i none else t) m.slots
    applying := m.applying ++ todo.filterMap (fun i => if (cause i).isNone then mine i else none) }
  todo.foldl (fun s i => match cause i with
    | some k => s.cancelChange p i N k (mine i)
    | none => s) s

/-- A launch ends before it began: the partition stays ready (03:R85). -/
def Pkg.cancelLaunch (s : Pkg) (p cause : Nat) : Pkg :=
  let m := (s.part p).mem
  (s.setMem p { m with state := 0, launch := none, go := false, awaiting := none, combined := none }).raise 0x0105 p [cause]

end Sys2Proof
end

