-- ==== Sys2Proof/Machine/AtnikE2e.lean ====
section
/-!
DEFINITION. The Atnik fabric end to end: completing, resending and losing requests, and what arrives for a target: reads, writes,
atomics, responses, acknowledgements, and the control messages that concern pair contexts (11:R344 to R366).
-/

namespace Sys2Proof

/-- Completion code of a request whose destination is lost or unreachable: an atomic's outcome is unknown (11:R359). -/
def Req.lostCode (r : Req) (code : Nat) : Nat := if r.op = opATOMIC then 6 else code

/-- Count a completion other than OK (11:R374). -/
def Pkg.countBad (s : Pkg) (p code : Nat) : Pkg :=
  let s := s.bump (0x5010 + p) 5 (b2n (decide (code ≠ 0)))
  (s.bump (0x5010 + p) 6 (b2n (decide (code = 5)))).bump (0x5010 + p) 7 (b2n (decide (code = 6)))

/-- A request completes with a code and the bytes of its response (11:R349). -/
def Pkg.reqDone (s : Pkg) (r : Req) (code : Nat) (payload : List Byte) : Pkg :=
  let s := s.dropReqs (fun q => decide (q.id = r.id))
  let s := if (Tab.find s.net.ctxs r.node).isSome then s.setCtx r.node (s.ctx r.node) else s
  let s := s.countBad r.part code
  match r.src with
  | .move t seq ticket k =>
    if (s.tile t).seq ≠ seq then s
    else s.modOp t ticket (fun o => if code = 0 then { o with got := Tab.insert o.got k payload } else { o with code8 := if o.code8 = 0 then code else o.code8 })
  | .send t seq => if code = 0 then s else s.deliveryFailed r.part t seq r.node code
  | .hart h =>
    let x := s.hart h
    match x.wait with
    | .remote id a => if id = r.id then s.setHart h { x with wait := .answered a (Sys2Proof.slice payload a.off a.size) code r.node } else s
    | _ => s
  | .coll p seq => if code = 0 then s else s.collAbort p seq 4 s.node false

/-- Send a request again, or for the first time once a port has come back: a new port is chosen; where the only ports there are carry
version 1 it completes (11:R344, R351, R370). -/
def Pkg.resendReq (s : Pkg) (r : Req) : Pkg :=
  let h := Hdr.dec r.packet
  match s.sendCheck r.node r.op h.space r.tc with
  | .go m =>
    let s := s.setReq { r with port := m, sentAt := s.tempo.local_, waiting := false, noRoute := 0, retryAt := 0 }
    let s := if !r.sent then s else s.bump (0x5010 + r.part) 8 1
    s.post m (2 * r.tc) r.packet r.msg (r.id + 1)
  | .code 8 => s.reqDone r (if r.sent then r.lostCode 8 else 8) []
  | _ => s.setReq { r with noRoute := if r.noRoute = 0 then s.tempo.local_ + 1 else r.noRoute, sentAt := s.tempo.local_ }

/-- Its packet waits in the queue of an ACTIVE port. -/
def Pkg.inTurn (s : Pkg) (r : Req) : Bool := s.net.ports.any (fun (e : Nat × APort) => e.2.st == .active && e.2.queue.any (fun (q : QPkt) => decide (q.req = r.id + 1)))

/-- Take its packet out of the queue of a port that has gone (11:R351). -/
def Pkg.unqueue (s : Pkg) (r : Req) : Pkg := (s.cancelQueued (fun q => decide (q.req = r.id + 1))).2

/-- Its packet still waits in a port's queue. -/
def Pkg.queued (s : Pkg) (r : Req) : Bool := s.net.ports.any (fun (e : Nat × APort) => e.2.queue.any (fun (q : QPkt) => decide (q.req = r.id + 1)))

/-- Sequenced operations: what a lost port makes the source resend at once (11:R344, R351, R352, 12:R395). -/
def Req.sequenced (r : Req) : Bool := r.op = opWR || r.op = opATOMIC || r.op = opWRB || r.op = opCOLL

/-- Resend each of a list of requests that is still outstanding. -/
def Pkg.resendAll (s : Pkg) (ids : List Nat) : Pkg :=
  ids.foldl (fun s id => match s.req id with
    | some r => if s.queued r then s else s.resendReq r
    | none => s) s

/-- The port is lost to the nodes of a range: requests queued on it leave by another port, and sequenced requests that last left
through it are resent at once (11:R344, R362). -/
def Pkg.reroute (s : Pkg) (n first last : Nat) : Pkg :=
  let inRange (k : Nat) : Bool := decide (first ≤ k) && decide (k ≤ last)
  let moves := (s.port n).queue.filter (fun (q : QPkt) =>
    let h := Hdr.dec q.packet
    decide (q.vc < 6) && inRange h.dst && (match s.choosePort h.dst h.op h.space h.tc with
      | some m => decide (m ≠ n)
      | none => false))
  let x := s.port n
  let s := s.setPort n { x with queue := x.queue.filter (fun q => !moves.contains q) }
  let s := moves.foldl (fun s q =>
    let h := Hdr.dec q.packet
    match s.choosePort h.dst h.op h.space h.tc with
    | some m => s.post m q.vc q.packet q.msg q.req
    | none => s) s
  s.resendAll ((s.net.reqs.filter (fun (r : Req) => r.sent && r.sequenced && decide (r.port = n) && inRange r.node)).map (·.id))

/-- Once-table releases, and the CLOSE of contexts, that waited for a usable port go (11:R350, R358). -/
def Pkg.flushOwed (s : Pkg) : Pkg :=
  s.net.owedRel.foldl
    (fun s r =>
      let h := Hdr.dec r.2
      match s.choosePort r.1 h.op 0 h.tc with
      | some n => s.post n (2 * h.tc) r.2
      | none => { s with net := { s.net with owedRel := s.net.owedRel ++ [r] } })
    { s with net := { s.net with owedRel := [] } }

/-- Requests that wait for a port, a pair context or their turn go, or complete where the wait has ended (11:R346, R350, R351,
R362). -/
def Pkg.settleWaiting (s0 : Pkg) : Pkg :=
  let s := s0.flushOwed
  ((s.net.reqs.filter (fun (r : Req) => r.waiting)).map (·.id)).foldl
    (fun s id => match s.req id with
      | some r => match s.sendCheck r.node r.op (Hdr.dec r.packet).space r.tc with
        | .go _ => if s.reqRoom r.node r.tc (r.id + 1) then s.resendReq r else s
        | .code c => (if c = 1 then s.raise 0x040A r.part [r.node] else s).reqDone r c []
        | .wait => s
      | none => s) s

/-- A node is new: every outstanding request to it completes, its pair contexts are forgotten; accesses that wait unsent go on waiting
(11:R346, R364). Answers how many completed. -/
def Pkg.nodeNew (s : Pkg) (node : Nat) : Nat × Pkg :=
  let rs := s.net.reqs.filter (fun (r : Req) => decide (r.node = node) && !r.waiting)
  let s := rs.foldl (fun s r => s.reqDone r (r.lostCode 5) []) s
  (rs.length, { s with net := { s.net with ctxs := Tab.erase s.net.ctxs node } }.pumpSends)

/-- The boot epoch of a node is known; a new one frees the node's once-table entries (11:R338, R358). -/
def Pkg.learnEpoch (s : Pkg) (node epoch : Nat) : Pkg :=
  let fresh (o : Once) : Bool := !(decide (o.src = node) && decide (o.epoch ≠ 0) && decide (o.epoch ≠ epoch + 1))
  { s with net := { s.net with epochs := Tab.set 0 s.net.epochs node (epoch + 1)
                               once := s.net.once.map (fun (e : Nat × List Once) => (e.1, e.2.filter fresh)) } }

/-- Whether a packet is held at its F-die: its partition has contributed its cut report (14:R448). -/
def Pkg.holdsBack (s : Pkg) (h : Hdr) : Bool :=
  match s.partOfJob h.job with
  | some p => match (s.part p).cap with
    | some c => decide (2 ≤ c.step)
    | none => false
  | none => false

/-- A request of one operation arrives: it waits where it needs a pair context and none is free, is held through a capture, or `k` acts
on it with its address translated (11:R347 check 3, R350, 14:R448). -/
def Pkg.onReq (s : Pkg) (n op : Nat) (k : Pkg → Hdr → List Byte → Pkg) : Pkg :=
  s.withRx n (fun h => decide (h.op = op) && (s.ctxFree h.src || decide (s.linkCheck n h ≠ 0))) fun s pkt h =>
    if s.holdsBack h then { s with net := { s.net with held := s.net.held ++ [(n, pkt)] } }
    else k s { h with addr := if h.space = 1 then h.addr % 2 ^ 43 else h.addr } (pkt.drop 32)

/-- RD and RD_BULK: checked, and answered with the bytes (11:R339, R347). -/
def readReq (s : Pkg) (n op : Nat) : Pkg :=
  s.onReq n op fun s h _ =>
    let len := if op = opRD then 64 else 64 * (h.spec % 4 + 1)
    let c := s.linkCheck n h
    if c ≠ 0 then s.answer h opRSP c 0 []
    else
      let s := s.setCtx h.src (s.ctx h.src)
      let (c, p) := s.jobCheck h len 64
      if c ≠ 0 then (s.countRefused h c).answer h opRSP c 0 []
      else (s.countRead p len).answer h opRSP 0 0 (s.dsBytes h.addr len)

/-- A fabric message from outside the job is an external input of a member that is ready, runs, holds or captures: it takes effect at a
frame tick (03:R112). -/
def Pkg.outsider (s : Pkg) (p : Nat) (h : Hdr) : Bool :=
  let x := s.part p
  (x.st == .ready || x.st == .running || x.st == .holding || x.st == .checkpointing) && !(x.img.members.contains h.src)

/-- A fabric message as an external input; its record names the node and the job (03:R112, R114). -/
def fabricInput (h : Hdr) (data : List Byte) : Pend :=
  { kind := 3, addr := h.addr, host := h.src + h.job * 2 ^ 40, len := data.length, data := h.enc ++ data }

/-- A checked write goes on to its S-die, which applies it and acknowledges it with the number expected next; one from outside the job is
queued for the next frame tick and acknowledged (03:R112, 09:R265, 11:R347). -/
def Pkg.landWrite (s : Pkg) (p : Nat) (h : Hdr) (data : List Byte) (next : Nat) : Pkg :=
  if s.outsider p h then (s.queueInput p (fabricInput h data)).answer h opACK 0 next []
  else (s.countWrite p 48 h.addr data.length).sendFabric p (tileMax + h.src) h data (some next)

/-- Where a TC0 number stands: 0 expected, 1 older, 2 newer (11:R351). -/
def seqPlace (expected seq : Nat) : Nat :=
  let d := (seq + 65536 - expected) % 65536
  if d = 0 then 0 else if 32768 ≤ d then 1 else 2

/-- WR: applied once, in sequence, and acknowledged; one that came before is acknowledged again, and counted (11:R347, R351, R373). -/
def writeReq (s : Pkg) (n : Nat) : Pkg :=
  s.onReq n opWR fun s h data =>
    let c := s.linkCheck n h
    let x := s.ctx h.src
    if c ≠ 0 then s.answer h opACK c x.rx0 []
    else
      let (c, p) := s.jobCheck h 64 64
      match seqPlace x.rx0 h.seq with
      | 0 =>
        let x := { x with rx0 := (x.rx0 + 1) % 65536 }
        let s := s.setCtx h.src x
        if c = 0 then s.landWrite p h data x.rx0 else (s.countRefused h c).answer h opACK c x.rx0 []
      | 1 => if s.writeComing h then s.setCtx h.src x else ((s.setCtx h.src x).bump 0x5000 0x0D 1).answer h opACK c x.rx0 []
      | _ => (s.setCtx h.src x).answer h opACK 0 x.rx0 []

/-- WR_BULK: applied once within its window and acknowledged; a duplicate is acknowledged again and counted, one beyond the window
discarded (11:R352, R373). -/
def bulkReq (s : Pkg) (n : Nat) : Pkg :=
  s.onReq n opWRB fun s h data =>
    let c := s.linkCheck n h
    let x := s.ctx h.src
    if c ≠ 0 then s.answer h opACK c x.rx1 []
    else
      let (c, p) := s.jobCheck h data.length 64
      match winCheck x.rx1 x.rx1set h.seq with
      | 0 =>
        let (lo, set) := winApply x.rx1 x.rx1set h.seq
        let s := s.setCtx h.src { x with rx1 := lo, rx1set := set }
        if c = 0 then s.landWrite p h data lo else (s.countRefused h c).answer h opACK c lo []
      | 1 => if s.writeComing h then s.setCtx h.src x else ((s.setCtx h.src x).bump 0x5000 0x0D 1).answer h opACK c x.rx1 []
      | _ => s

/-- ATOMIC: once, through the once-table of its home F-die; one from outside the job executes, and is answered, at the next frame tick
(03:R112, 11:R351, R357, R358). An aligned 16 bytes hold it (08:R254). -/
def atomicReq (s : Pkg) (n : Nat) : Pkg :=
  s.onReq n opATOMIC fun s h data =>
    let c := s.linkCheck n h
    let x := s.ctx h.src
    let f := h.src % 8
    let stored := (s.onces f).find? (fun o => o.is h)
    let again (s : Pkg) (o : Once) : Pkg := if o.result.isEmpty then s else (s.bump 0x5000 0x0D 1).answerAtomic h o.result
    let w := h.width
    if c ≠ 0 then s.answer h opRSP c 0 []
    else
      let (c, p) := s.jobCheck h w 1
      let c := if c = 0 && 16 < h.addr % 16 + w then 4 else c
      let next := s.setCtx h.src { x with rx0 := (x.rx0 + 1) % 65536 }
      match seqPlace x.rx0 h.seq with
      | 1 => match stored with
        | some o => again (s.setCtx h.src x) o
        | none => if c = 0 then s else s.answer h opRSP c 0 []
      | 2 => (s.setCtx h.src x).answer h opACK 0 x.rx0 []
      | _ =>
        if c ≠ 0 then (next.countRefused h c).answer h opRSP c 0 []
        else match stored with
          | some o => again next o
          | none =>
            if 4096 ≤ (s.onces f).length then (s.bump 0x5000 0x0C 1).answer h opRSP 0x0B 0 []
            else
              let o : Once := { src := h.src, agent := h.agent, key := h.spec % 2 ^ 32, sentAt := s.tempo.local_, epoch := Tab.get 0 s.net.epochs h.src }
              let next := next.setOnces f (s.onces f ++ [o])
              if s.outsider p h then next.queueInput p (fabricInput h data)
              else
                let (res, s) := next.runAtomic p h data
                s.answerAtomic h res

/-- The outstanding request that a response or an acknowledgement answers. -/
def Pkg.answered (s : Pkg) (h : Hdr) : Option Req :=
  s.net.reqs.find? (fun (r : Req) => r.sent && decide (r.node = h.src) && decide (r.tc = h.tc) && decide (r.seq = h.seq)
    && decide ((Hdr.dec r.packet).agent = h.agent)
    && (if h.op = opRSP then r.op = opRD || r.op = opRDB || r.op = opATOMIC else r.op = opWR || r.op = opWRB || r.op = opCOLL || r.op = opATOMIC))

/-- A request that nothing awaits any more: counted (11:R363). -/
def Pkg.duplicate (s : Pkg) (h : Hdr) : Pkg :=
  match s.partOfJob h.job with
  | some p => s.bump (0x5010 + p) 9 1
  | none => s

/-- A target says that the package holds a stale epoch of it: the node is new, with its event. The identities of a node that is no link
partner are free values (11:R364, log entries 5, 66). -/
def Pkg.staleNode (s : Pkg) (r : Req) : Pkg :=
  let (k, s) := s.nodeNew r.node
  let s := { s with net := { s.net with epochs := Tab.erase s.net.epochs r.node } }
  let (old, s) := match (s.port r.port).partner with
    | some p => if p.node = r.node then (p.identity, s) else s.draw
    | none => s.draw
  let (new, s) := s.draw
  s.raise 0x0404 0xFF [r.port, old % 2 ^ 64, new % 2 ^ 64, k + 1]

/-- Complete what an answer names; PARTNER_LOST makes its node new (11:R349, R364). -/
def Pkg.finish (s : Pkg) (r : Req) (code : Nat) (payload : List Byte) : Pkg :=
  let s := s.reqDone r (if code = 5 then r.lostCode 5 else code) payload
  (if code = 5 then s.staleNode r else s).pumpSends

/-- RSP: the request completes with its data or its code (11:R349). -/
def rspRow (s : Pkg) (n : Nat) : Pkg :=
  s.withRx n (fun h => decide (h.op = opRSP) && decide (h.status ≠ 0x0B)) fun s pkt h =>
    match s.answered h with
    | some r => s.finish r h.status (pkt.drop 32)
    | none => s.duplicate h

/-- RETRY: a full once-table; the source resends after 1 µs (11:R358). -/
def retryRow (s : Pkg) (n : Nat) : Pkg :=
  s.withRx n (fun h => decide (h.op = opRSP) && decide (h.status = 0x0B)) fun s _ h =>
    match s.answered h with
    | some r => s.setReq { r with retryAt := s.tempo.local_ + 1 }
    | none => s.duplicate h

/-- TC0 requests to a node from a number on are resent in order (11:R351). -/
def Pkg.resendFrom (s : Pkg) (node expected : Nat) : Pkg :=
  s.resendAll ((s.net.reqs.filter (fun (r : Req) => r.sent && decide (r.node = node) && (r.op = opWR || r.op = opATOMIC) && decide (seqPlace expected r.seq ≠ 1))).map (·.id))

/-- ACK: it completes its write, or names the number that the target expects (11:R351, R352). -/
def ackRow (s : Pkg) (n : Nat) : Pkg :=
  s.withRx n (fun h => decide (h.op = opACK)) fun s _ h =>
    match s.answered h with
    | some r =>
      let applied := decide (h.tc ≠ 0) || decide (seqPlace (h.spec % 65536) h.seq = 1)
      if h.status ≠ 0 || applied then s.finish r h.status [] else s.resendFrom h.src (h.spec % 65536)
    | none => s.duplicate h

/-- ONCE_RELEASE: the entry is freed (11:R358). -/
def onceRelease (s : Pkg) (n : Nat) : Pkg :=
  s.withRx n (fun h => decide (h.op = opREL)) fun s _ h =>
    let f := h.src % 8
    if s.linkCheck n h ≠ 0 then s else s.setOnces f ((s.onces f).filter (fun o => !(o.is h)))

/-- Once-table entries whose result was last sent twice the return window ago are freed (11:R358). -/
def onceExpiry (s : Pkg) (f : Nat) : Pkg :=
  s.setOnces f ((s.onces f).filter (fun o => o.result.isEmpty || decide (s.tempo.local_ < o.sentAt + 2000000 * s.ent 0x5000 5)))

/-- E2E_RETRY_TIMER: a request is resent, or completes unreachable once the window has passed with no route; one that waits goes
or ends its wait; one in the queue of a port that is not ACTIVE leaves it (11:R346, R351, R358, R359). -/
def e2eTimer (s : Pkg) (id : Nat) : Pkg :=
  match s.req id with
  | none => s
  | some r =>
    let now := s.tempo.local_
    if r.waiting then s.settleWaiting
    else if s.inTurn r then s
    else if r.noRoute ≠ 0 && decide (r.noRoute + 1000000 * s.ent 0x5000 5 ≤ now + 1)
        && (match s.sendCheck r.node r.op (Hdr.dec r.packet).space r.tc with
          | .go _ => false
          | _ => true) then ((s.unqueue r).reqDone r (r.lostCode 7) []).pumpSends
    else if r.retryAt ≠ 0 then (if r.retryAt + 1000 ≤ now + 1 then (s.unqueue r).resendReq r else s)
    else if r.sentAt + 1000 * s.ent 0x5000 6 ≤ now then (s.unqueue r).resendReq r
    else s

/-- CONTEXT_IDLE_TIMER: a pair context idle for the return window and 1 ms is freed, and CLOSE tells the other end, once a port is usable
(11:R350, R366). -/
def contextIdle (s : Pkg) (node : Nat) : Pkg :=
  let c := s.ctx node
  let busy := s.net.reqs.any (fun (r : Req) => decide (r.node = node)) || s.net.sends.any (fun m => decide (m.node = node))
  if !c.live || busy || s.tempo.local_ < c.used + 1000000 * (s.ent 0x5000 5 + 1) then s
  else
    let s := { s with net := { s.net with ctxs := Tab.erase s.net.ctxs node } }
    let close := s.ctrlPacket node 6 (natLe 8 c.tx0 ++ natLe 8 c.tx1)
    match s.choosePort node opCTRL 0 3 with
    | some n => s.post n 6 close
    | none => { s with net := { s.net with owedRel := s.net.owedRel ++ [(node, close)] } }

/-- A CTRL packet of one subtype. -/
def Pkg.onCtrl (s : Pkg) (n subtype : Nat) (k : Pkg → Hdr → List Byte → Pkg) : Pkg :=
  s.withRx n (fun h => decide (h.op = opCTRL) && decide (h.spec % 256 = subtype)) fun s pkt h => k s h (pkt.drop 32)

/-- CLOSE: the pair context is forgotten (11:R350, R366). -/
def closeRow (s : Pkg) (n : Nat) : Pkg := s.onCtrl n 6 fun s h _ => { s with net := { s.net with ctxs := Tab.erase s.net.ctxs h.src } }

/-- A range without the nodes of another. -/
def rangeMinus (r : Nat × Nat) (first last : Nat) : List (Nat × Nat) :=
  if last < r.1 || r.2 < first then [r]
  else (if r.1 < first then [(r.1, first - 1)] else []) ++ (if last < r.2 then [(last + 1, r.2)] else [])

/-- LINK_NOTICE: the port leaves or rejoins the ports of a node range; requests are resent elsewhere (11:R344, R366). -/
def linkNotice (s : Pkg) (n : Nat) : Pkg :=
  s.onCtrl n 5 fun s _ d =>
    let first := fld d 4 4
    let last := fld d 8 4
    let x := s.port n
    if byteAt d 0 = 0 then (s.setPort n { x with notices := x.notices ++ [(first, last)] }).reroute n first last
    else (s.setPort n { x with notices := x.notices.flatMap (fun r => rangeMinus r first last) }).settleWaiting

/-- CANCEL of one message by service firmware: what no port has granted is removed, and its requests complete with the cancel's code; what
was granted stands; the code and the packets sent (11:R348, R361, log entry 67). -/
def cancelMsg (s : Pkg) (msg : Nat) : Pkg :=
  if msg = 0 then s
  else
    let sentN := Tab.get 0 s.net.granted msg
    let code := if sentN = 0 then 9 else 0x0A
    let gone := s.net.reqs.filter (fun (r : Req) => decide (r.msg = msg) && !r.sent)
    let left := s.net.sends.filter (fun m => decide (m.msg = msg))
    let parts := ((s.net.reqs.filter (fun (r : Req) => decide (r.msg = msg))).map (·.part)) ++ left.map (·.part)
    let s := (s.cancelQueued (fun q => gone.any (fun r => decide (q.req = r.id + 1)))).2
    let s := { s with net := { s.net with sends := s.net.sends.filter (fun m => m.msg ≠ msg), lastCancel := (code, sentN) } }
    let s := gone.foldl (fun s r => s.reqDone r code []) s
    let s := left.foldl (fun s m => (s.bump (0x5010 + m.part) 5 1).deliveryFailed m.part m.tile m.seq m.node code) s
    let s := match parts.head? with
      | some p => s.bump (0x5010 + p) 0x0A 1
      | none => s
    s.pumpSends

end Sys2Proof

namespace Sys2Proof.Machine

open Sys2Proof

/-- RD (11:R347). -/
def execRd (n : Nat) (s : State) : Res := onPort n s (fun k => readReq k n opRD)
/-- WR (11:R351). -/
def execWr (n : Nat) (s : State) : Res := onPort n s (fun k => writeReq k n)
/-- RD_BULK (11:R339). -/
def execRdBulk (n : Nat) (s : State) : Res := onPort n s (fun k => readReq k n opRDB)
/-- WR_BULK (11:R352). -/
def execWrBulk (n : Nat) (s : State) : Res := onPort n s (fun k => bulkReq k n)
/-- ATOMIC (11:R357). -/
def execAtomic (n : Nat) (s : State) : Res := onPort n s (fun k => atomicReq k n)
/-- RSP (11:R349). -/
def execRsp (n : Nat) (s : State) : Res := onPort n s (fun k => rspRow k n)
/-- ACK (11:R351). -/
def execAck (n : Nat) (s : State) : Res := onPort n s (fun k => ackRow k n)
/-- RETRY (11:R358). -/
def execRetry (n : Nat) (s : State) : Res := onPort n s (fun k => retryRow k n)
/-- ONCE_RELEASE (11:R358). -/
def execOnceRelease (n : Nat) (s : State) : Res := onPort n s (fun k => onceRelease k n)
/-- ONCE_ENTRY_EXPIRY of an F-die (11:R358). -/
def execOnceEntryExpiry (f : Nat) (s : State) : Res := act (decide (f < 8)) s (fun k => onceExpiry k f)
/-- E2E_RETRY_TIMER of a request (11:R351). -/
def execE2eRetryTimer (r : Nat) (s : State) : Res := act true s (fun k => e2eTimer k r)
/-- CONTEXT_IDLE_TIMER (11:R350). -/
def execContextIdleTimer (node : Nat) (s : State) : Res := act (decide (node < 131072)) s (fun k => contextIdle k node)
/-- CLOSE (11:R366). -/
def execClose (n : Nat) (s : State) : Res := onPort n s (fun k => closeRow k n)
/-- LINK_NOTICE (11:R344). -/
def execLinkNotice (n : Nat) (s : State) : Res := onPort n s (fun k => linkNotice k n)
/-- CANCEL (11:R361). -/
def execCancel (msg : Nat) (s : State) : Res := act true s (fun k => cancelMsg k msg)

end Sys2Proof.Machine
end

