-- ==== Sys2Proof/Machine/TempoOps.lean ====
section
/-!
DEFINITION. Tempo: the counter's rate, roots, announcements, exchanges and the Tempo states; UTC; the release of the
clock-domain FIFOs (03:R75 to R82, R109, 11:R366, R367).
-/

namespace Sys2Proof

/-- Units of 1/64000 ns in a nanosecond, and of the fraction in it. -/
def tempoUnit : Int := 64000
def tempoFrac : Nat := 64000000000000

/-- The rate correction in force: that of the last accepted sample for 1 ms, in any state, then the integral term; a root runs
freely (03:R76, R77, R79). -/
def Tempo.rateNow (t : Tempo) : Int :=
  match t.role with
  | .follower => if t.lastAcc + 1000000 ≤ t.local_ then t.freq else t.rate
  | _ => 0

/-- One nanosecond of the reference clock passes (03:R75, R77). -/
def Tempo.tick (t : Tempo) : Tempo :=
  let a := t.acc + (tempoFrac + t.rateNow).toNat
  { t with now := (t.now + a / tempoFrac) % 2 ^ 64, acc := a % tempoFrac, local_ := t.local_ + 1 }

/-- The package's own candidate rank (03:R76). -/
def Pkg.candidate (s : Pkg) : Option Nat :=
  (List.range 4).find? (fun k => decide (s.ent 0x2201 (k + 1) = s.node) && decide (s.node ≠ 0xFFFFFFFF))

/-- The acting root is another one: TEMPO_ROOT_CHANGE (03:R120). -/
def Pkg.setRoot (s : Pkg) (root rank : Nat) : Pkg :=
  if s.tempo.root = root && s.tempo.rank = rank then s
  else { s with tempo := { s.tempo with root := root, rank := rank } }.raise 0x010A 0xFF [root, rank]

/-- HOLDOVER is entered (03:R79). -/
def Pkg.holdover (s : Pkg) : Pkg :=
  let t := s.tempo
  { s with tempo := { t with st := .holdover, holdSince := t.local_, degraded := false, accRun := 0 } }.raise 0x0108 0xFF
    [ofSigned 64 (t.offset / tempoUnit)]

/-- The package becomes a follower again (03:R76). -/
def Pkg.follow (s : Pkg) : Pkg :=
  let t := s.tempo
  let alone := t.role == .standalone
  let s := { s with tempo := { t with role := .follower, lastAcc := t.local_ } }
  if alone && ((List.range partMax).all (fun p => (s.part p).st == .empty)) then
    { s with tempo := { s.tempo with st := .acquiring, accRun := 0 } }
  else s.holdover

/-- ROOT_ANNOUNCE_TIMER: every 1 ms the acting root announces itself from every port (03:R76, 11:R366). -/
def announceTimer (s : Pkg) : Pkg :=
  match s.tempo.role with
  | .root k =>
    let t := s.tempo
    if t.local_ < t.annAt + 1000000 then s
    else
      let s := { s with tempo := { t with annAt := t.local_, annCount := t.annCount + 1 } }
      let pay := padTo 32 (natLe 1 k ++ natLe 1 0 ++ natLe 2 0 ++ natLe 4 s.node ++ natLe 8 t.annCount)
      ((List.range aportMax).filter (fun n => (s.port n).st == .active && decide (2 ≤ (s.port n).version))).foldl (fun s n => s.sendCtrl n 3 pay) s
  | _ => s

/-- A choice (rank, hops, port) is strictly better than another (03:R76). -/
def betterParent (a b : Nat × Nat × Nat) : Bool :=
  decide (a.1 < b.1) || (decide (a.1 = b.1) && (decide (a.2.1 < b.2.1) || (decide (a.2.1 = b.2.1) && decide (a.2.2 < b.2.2))))

/-- The present parent's choice, while it has been heard within 3 ms. -/
def Tempo.parentChoice (t : Tempo) : Option (Nat × Nat × Nat) :=
  if t.parent = 0 then none
  else match Tab.get none t.heard (t.parent - 1) with
    | some (r, h, at_) => if t.local_ ≤ at_ + 3000000 then some (r, h, t.parent - 1) else none
    | none => none

/-- A CTRL packet of a subtype arrives on a port of version 2. -/
def Pkg.ctrl (s : Pkg) (n sub : Nat) (f : Pkg → List Byte → Pkg) : Pkg :=
  s.withRx n (fun h => decide (h.op = opCTRL) && decide (h.spec % 256 = sub)) fun s pkt _ => f s (pkt.drop 32)

/-- ROOT_ANNOUNCE (03:R76, 11:R367). -/
def rootAnnounce (s : Pkg) (n : Nat) : Pkg :=
  s.ctrl n 3 fun s pay =>
    let rank := byteAt pay 0
    let hops := byteAt pay 1
    let root := fld pay 4 4
    let count := fld pay 8 8
    let t := s.tempo
    let old := t.counts.find? (fun c => decide (c.1 = rank) && decide (c.2.1 = root))
    if 32 < hops || old.any (fun c => decide (count ≤ c.2.2)) then s
    else
      let lower := match s.candidate with
        | some k => decide (rank < k)
        | none => true
      let t := { t with counts := upsert (fun c => c.1 = rank && c.2.1 = root) (rank, root, count) t.counts
                        heard := Tab.set none t.heard n (some (rank, hops, t.local_)), lastAnn := if lower then t.local_ else t.lastAnn }
      let s := { s with tempo := t }
      let s := match t.role with
        | .root k => if rank < k then s.follow else s
        | .standalone => s.follow
        | .follower => s
      match s.tempo.role with
      | .follower =>
        let better := match s.tempo.parentChoice with
          | some c => betterParent (rank, hops, n) c
          | none => true
        let t := s.tempo
        let s :=
          if better && decide (t.parent ≠ n + 1) then
            { s with tempo := { t with parent := n + 1, hist := [], gather := some [], rejRun := 0, sent := none } }
          else s
        if s.tempo.parent = n + 1 then
          let s := s.setRoot root rank
          let pay := pay.take 1 ++ natLe 1 (hops + 1) ++ pay.drop 2
          ((List.range aportMax).filter (fun m => decide (m ≠ n) && (s.port m).st == .active && decide (2 ≤ (s.port m).version))).foldl
            (fun s m => s.sendCtrl m 3 pay) s
        else s
      | _ => s

/-- The candidate list or the node ID has changed: an acting root takes the rank it now has, and one that is no candidate any more gives
the role up (03:R76, log entry 68). -/
def Pkg.candidatesChanged (s : Pkg) : Pkg :=
  match s.tempo.role, s.candidate with
  | .root _, some k => { s with tempo := { s.tempo with role := .root k } }.setRoot s.node k
  | .root _, none => s.follow
  | _, _ => s

/-- ROOT_TAKEOVER: a candidate that follows or stands alone has heard no announcement of a lower rank for 3 ms (03:R76). -/
def rootTakeover (s : Pkg) : Pkg :=
  match s.candidate with
  | none => s
  | some k =>
    let t := s.tempo
    if (t.role == .follower || t.role == .standalone) && (k = 0 || decide (t.lastAnn + 3000000 ≤ t.local_)) then
      { s with tempo := { t with role := .root k, st := .locked, parent := 0, annAt := t.local_ - 1000000 } }.setRoot s.node k
    else s

/-- STANDALONE_ROOT: no candidate is set and nothing has been announced for 3 ms (03:R76). -/
def standaloneRoot (s : Pkg) : Pkg :=
  let t := s.tempo
  if t.role == .follower && (List.range 4).all (fun k => decide (s.ent 0x2201 (k + 1) = 0xFFFFFFFF)) && decide (t.lastAnn + 3000000 ≤ t.local_) then
    { s with tempo := { t with role := .standalone, st := .locked, parent := 0 } }.setRoot s.node 0xFF
  else s

/-- SYNC_EXCHANGE_TIMER: every 1 ms a follower begins an exchange on its parent port; t1 is taken as the packet departs (03:R77). -/
def syncTimer (s : Pkg) : Pkg :=
  let t := s.tempo
  if t.role != .follower || t.parent = 0 || decide (t.local_ < t.syncAt + 1000000) then s
  else
    let s := { s with tempo := { t with syncAt := t.local_, xid := (t.xid + 1) % 65536, sent := none } }
    s.sendCtrl (t.parent - 1) 1 (padTo 32 (natLe 2 t.xid))

/-- SYNC_REQ: answered with t2, its arrival, and t3, put in as the answer departs (03:R77, 11:R366). -/
def syncReq (s : Pkg) (n : Nat) : Pkg :=
  match s.takeRx n (fun h => decide (h.op = opCTRL) && decide (h.spec % 256 = 1)) with
  | none => s
  | some (r, s) =>
    let pay := r.packet.drop 32
    (s.sendCtrl n 2 (padTo 32 (natLe 2 (fld pay 0 2) ++ natLe 6 0 ++ natLe 8 0 ++ natLe 8 (r.at_ % 2 ^ 64)))).pump n

/-- Twice the median of a list of numbers. -/
def median2 (xs : List Int) : Int :=
  let ys := sortBy (fun a b => decide (a ≤ b)) xs
  let n := ys.length
  ys.getD (n / 2) 0 + ys.getD ((n - 1) / 2) 0

/-- A delay lies within 5 ns of a median given twice. -/
def nearMedian (d m2 : Int) : Bool := decide ((2 * d - m2).natAbs ≤ 640000)

/-- The counter steps by an offset (03:R77). -/
def Tempo.step (t : Tempo) (off : Int) : Tempo :=
  let v : Int := t.now * tempoFrac + t.acc + off * 1000000000
  { t with now := (v / tempoFrac).toNat % 2 ^ 64, acc := (v % tempoFrac).toNat }

/-- An accepted sample is acted on (03:R77, R79). -/
def Pkg.acceptSample (s : Pkg) (x : Sample) : Pkg :=
  let t := s.tempo
  let big := decide (64000000 < x.offset.natAbs)
  let t : Tempo := { t with offset := x.offset, delay := x.delay, rejRun := 0, lastAcc := t.local_, st := if t.st == .unsynced then .acquiring else t.st }
  let none_ := (List.range partMax).all (fun p => (s.part p).st == .empty)
  if t.st == .acquiring && none_ && big then { s with tempo := { t.step x.offset with accRun := 0 } }
  else
    let freq := t.freq + x.offset * 62
    let lim : Int := 6400000000
    let rate := max (-lim) (min lim (freq + x.offset * 500))
    let small := decide (x.offset.natAbs ≤ (if t.st == .holdover then 1280000 else 640000))
    let run := if small then t.accRun + 1 else 0
    let lock := (t.st == .acquiring || t.st == .holdover) && decide (8 ≤ run)
    { s with tempo := { t with freq := freq, rate := rate, accRun := if lock then 0 else run, st := if lock then .locked else t.st } }

/-- The difference of two timestamps of 64 bits in 1/256 ns (11:R366). -/
def fineDiff (a b : Nat) : Int := toSigned 64 ((a % 2 ^ 64 + 2 ^ 64 - b % 2 ^ 64) % 2 ^ 64)

/-- SYNC_RSP: a sample is gathered, rejected or acted on (03:R77, R78). The delays are in 1/64000 ns. -/
def syncRsp (s : Pkg) (n : Nat) (rFwd : Int) : Pkg :=
  match s.takeRx n (fun h => decide (h.op = opCTRL) && decide (h.spec % 256 = 2)) with
  | none => s
  | some (r, s) =>
    let s := s.pump n
    let pay := r.packet.drop 32
    let t := s.tempo
    match t.sent with
    | none => s
    | some (id, t1) =>
      if t.role != .follower || decide (t.parent ≠ n + 1) || decide (id ≠ fld pay 0 2) then s
      else
        let fwd : Int := fineDiff (fld pay 16 8) t1 - rFwd
        let rev : Int := fineDiff r.at_ (fld pay 24 8) - toSigned 64 (fld pay 8 8)
        let asym := toSigned 32 (s.ent 0x2202 (n + 1))
        let x : Sample := { delay := (fwd + rev) * 125, offset := (fwd - rev) * 125 - asym * 64 }
        let s := { s with tempo := { t with sent := none } }
        match t.gather with
        | some xs =>
          let xs := xs ++ [x]
          if xs.length < 8 then { s with tempo := { s.tempo with gather := some xs } }
          else
            let m := median2 (xs.map (·.delay))
            let kept := xs.filter (fun y => nearMedian y.delay m)
            if kept.length < 5 then { s with tempo := { s.tempo with gather := some [] } }
            else
              let s := { s with tempo := { s.tempo with gather := none, hist := kept.map (fun (y : Sample) => y.delay) } }
              s.acceptSample (kept.getLast?.getD x)
        | none =>
          if nearMedian x.delay (median2 t.hist) then
            let h := t.hist ++ [x.delay]
            { s with tempo := { s.tempo with hist := h.drop (h.length - 8) } }.acceptSample x
          else
            let s := s.bump 0x2200 8 1
            let run := t.rejRun + 1
            if 8 ≤ run then { s with tempo := { s.tempo with rejRun := 0, accRun := 0, hist := [], gather := some [] } }
            else { s with tempo := { s.tempo with rejRun := run, accRun := 0 } }

/-- TEMPO_HOLDOVER: a LOCKED follower has accepted no sample for 3 ms (03:R79). -/
def tempoHoldover (s : Pkg) : Pkg :=
  let t := s.tempo
  if t.role == .follower && t.st == .locked && decide (t.lastAcc + 3000000 ≤ t.local_) then s.holdover else s

/-- TEMPO_DEGRADED: 10 ms of holdover (03:R79). -/
def tempoDegraded (s : Pkg) : Pkg :=
  let t := s.tempo
  if t.st == .holdover && !t.degraded && decide (t.holdSince + 10000000 ≤ t.local_) then
    { s with tempo := { t with degraded := true } }.raise 0x0109 0xFF [t.local_ - t.holdSince]
  else s

/-- UTC less Tempo, in ns rounded down, by the delay request-response mechanism: half the difference of the times from the slave's port
to the master and back, less what the master is ahead of UTC (03:R81, log entry 73). -/
def PtpExchange.utcOffset (x : PtpExchange) (now : Nat) : Int :=
  let t1 : Int := if x.twoStep then x.precise * 65536 + x.corrSync + x.corrFollow else x.origin * 65536 + x.corrSync
  let t2 : Int := now - x.ago2
  let t3 : Int := now - x.ago3
  let there : Int := t2 * 65536 - t1
  let back : Int := x.t4 * 65536 - x.corrResp - t3 * 65536
  (back - there) / 131072 - x.utcAhead * 1000000000

/-- PTP_SYNC: an exchange in the configured domain, with the Delay_Req the package sent in it and the package's own Tempo as its
timestamps, sets the UTC offset, a signed count of ns (03:R81, R82). -/
def ptpSync (s : Pkg) (x : PtpExchange) : Pkg :=
  if s.ent 0x2204 1 = 1 && decide (x.domain = s.ent 0x2204 2) then
    { ((s.emit (.delayReq x.domain (s.tempo.now - x.ago3))).setEnt 0x2204 4 (ofSigned 64 (x.utcOffset s.tempo.now))).setEnt 0x2204 3 1 with tempo := { s.tempo with ptpAt := s.tempo.now } }
  else s

/-- PTP_UNSYNCED: the offset stays, ptp.state is unsynced and never holdover (03:R82, R120, log entry 73). -/
def ptpUnsynced (s : Pkg) : Pkg :=
  if s.ent 0x2204 3 = 1 then (s.setEnt 0x2204 3 0).raise 0x010E 0xFF [s.tempo.now - s.tempo.ptpAt] else s

/-- The count at which the clock-domain-crossing FIFOs are released: the first multiple of 4,096 ns at least 4,096 ns after the last PLL
lock (03:R109). -/
def Tempo.cdcCount (t : Tempo) : Nat := ceilDiv (t.pllLock + 4096) 4096 * 4096

/-- CDC_FIFO_RELEASE: every read pointer is set the fixed depth behind its write pointer (03:R109, log entry 87). -/
def cdcRelease (s : Pkg) : Pkg :=
  let t := s.tempo
  if !t.cdc && decide (t.cdcCount ≤ t.now) then { s with tempo := { t with cdc := true, cdcBehind := Config.cdcDepth, cdcAt := t.cdcCount } } else s

end Sys2Proof

namespace Sys2Proof.Machine

open Sys2Proof

/-- CDC_FIFO_RELEASE (03:R109). -/
def execCdcFifoRelease (s : State) : Res := act true s cdcRelease
/-- ROOT_ANNOUNCE_TIMER (03:R76). -/
def execRootAnnounceTimer (s : State) : Res := act true s announceTimer
/-- ROOT_ANNOUNCE (11:R367). -/
def execRootAnnounce (n : Nat) (s : State) : Res := onPort n s (fun k => rootAnnounce k n)
/-- ROOT_TAKEOVER (03:R76). -/
def execRootTakeover (s : State) : Res := act true s rootTakeover
/-- STANDALONE_ROOT (03:R76). -/
def execStandaloneRoot (s : State) : Res := act true s standaloneRoot
/-- SYNC_EXCHANGE_TIMER (03:R77). -/
def execSyncExchangeTimer (s : State) : Res := act true s syncTimer
/-- SYNC_REQ (11:R366). -/
def execSyncReq (n : Nat) (s : State) : Res := onPort n s (fun k => syncReq k n)
/-- SYNC_RSP (03:R77). -/
def execSyncRsp (n : Nat) (rFwd : Int) (s : State) : Res := onPort n s (fun k => syncRsp k n rFwd)
/-- TEMPO_HOLDOVER (03:R79). -/
def execTempoHoldover (s : State) : Res := act true s tempoHoldover
/-- TEMPO_DEGRADED (03:R79). -/
def execTempoDegraded (s : State) : Res := act true s tempoDegraded
/-- PTP_SYNC (03:R82). -/
def execPtpSync (x : PtpExchange) (s : State) : Res := act true s (fun k => ptpSync k x)
/-- PTP_UNSYNCED (03:R120). -/
def execPtpUnsynced (s : State) : Res := act true s ptpUnsynced

end Sys2Proof.Machine
end

