-- ==== Sys2Proof/Machine/Atnik.lean ====
section
/-!
DEFINITION. Atnik ports: states, training, identity, the link layer and its protection (11:R328 to R337, R362 to R372, 17:R527).
-/

namespace Sys2Proof

/-- The port enters TRAIN with the settings written for it, the node ID among them; its link state is gone (03:R76, 11:R335, R364,
R374). -/
def Pkg.enterTrain (s : Pkg) (n : Nat) : Pkg :=
  (s.setPort n { s.port n with st := .train, since := s.tempo.local_, badLanes := 0, kept := false, unacked := []
                               node := s.ent 0x5000 1, cls := s.ent (0x5040 + n) 3, txEq := s.ent (0x5040 + n) 4
                               protect := s.ent (0x5040 + n) 0x0B }).candidatesChanged

/-- atnik.enable. -/
def Pkg.atnikOn (s : Pkg) (n : Nat) : Bool := decide (s.ent (0x5040 + n) 2 = 1)

/-- Width that a set of failed lanes leaves: 8, 4 by a good half, or 0 (11:R330). -/
def laneWidth (bad : Nat) : Nat := if bad % 256 = 0 then 8 else if bad % 16 = 0 || bits bad 7 4 = 0 then 4 else 0

/-- The protection group of a port: 1 to 3 the ports of a tray distance, 0 the system ports; and its members (13:R403). -/
def portGroup (n : Nat) : Nat := trayDistance n
def groupPorts (g : Nat) : List Nat := (List.range aportMax).filter (fun n => decide (trayDistance n = g))

/-- The port has a key for the link: a secret not yet used, or the key of a link that goes on (11:R371, 17:R527). -/
def APort.hasKey (x : APort) (goesOn : Bool) : Bool := x.secret.isSome || (x.key.isSome && x.kept && goesOn)

/-- The own TRAIN_ID record of a port (11:R336, R369, 17:R527). -/
def Pkg.trainRecord (s : Pkg) (n : Nat) : List Byte :=
  let x := s.port n
  let able := decide (x.peer ≠ 0) && x.hasKey true && (match x.partner with
    | some p => decide (p.identity + 1 = x.peer)
    | none => true)
  natLe 1 3 ++ natLe 1 0 ++ natLe 1 s.net.slot ++ natLe 1 n ++ natLe 8 Config.serialHash ++ natLe 4 s.net.epoch ++ natLe 4 (x.node % 2 ^ 17)
    ++ natLe 1 x.width ++ natLe 1 (b2n able + 2 * x.protect) ++ natLe 2 0 ++ (List.range 8).flatMap (fun v => natLe 2 (Config.rxCredits v)) ++ natLe 24 0

/-- Send it. -/
def Pkg.sendTrainId (s : Pkg) (n : Nat) : Pkg :=
  let r := s.trainRecord n
  s.sendEnvelope n 0 (linkHdr 3 0 0 0 0 r) r

/-- A port that carried traffic is lost, for a cause: 1 loss, 2 retrain not aligned, 3 disabled, 4 tag failures, 5 no good half. Its
traffic leaves by others; unless it was disabled, a castling record says so (11:R335, R344, R362, R375, 13:R403, R413). -/
def Pkg.portLost (s : Pkg) (n : Nat) (st : APortState) (cause : Nat) : Pkg :=
  let x := s.port n
  let g := portGroup n
  let others := (groupPorts g).filter (fun m => decide (m ≠ n) && (s.port m).st == .active)
  let s := s.setPort n { x with st := st, since := s.tempo.local_, kept := st == .absent, nakSent := false, naks := [] }
  let s := s.raise 0x0401 0xFF [n, x.st.code, cause]
  let s :=
    if cause = 3 then s
    else
      let s := (s.openGroup 9 n).castlingRecord
        { cls := 9, unit := n, detected := s.tempo.now, bound := 2000, outcome := if others.isEmpty then 2 else 0, spares := others.length - 1, more := [0] }
      if others.length = 1 then s.sparesLow 9 n 0 else s
  (s.reroute n 0 131071).settleWaiting

/-- The port's link state is cleared: replay, sequence numbers, credits, key (11:R332, R364). -/
def APort.clearLink (x : APort) : APort :=
  { x with kept := false, txSeq := 0, unacked := [], rxNext := 0, nakSent := false, naks := [], nonIdle := 0, credits := [], owed := []
           deficit := [], notices := [], tagRun := 0, key := none, rekeyGot := false, keyCount := 0, keyRx := 0 }

/-- The old partner of a port is replaced: what it owed is lost if it was a package or a tray peer (11:R364). -/
def Pkg.partnerNew (s : Pkg) (n : Nat) (old : Partner) (newId : Nat) : Pkg :=
  let lost := old.kind = 0 || portGroup n ≠ 0
  let (k, s) := if lost then s.nodeNew old.node else (0, s)
  let x := (s.port n).clearLink
  let s := s.setPort n { x with queue := x.queue.filter (fun q => !(lost && decide (q.req = 0) && decide ((Hdr.dec q.packet).dst = old.node))) }
  (s.bump (0x5040 + n) 0x10 1).raise 0x0404 0xFF [n, old.identity, newId, k]

/-- What a TRAIN_ID record says (11:R336). -/
def partnerOf (r : List Byte) : Partner :=
  { kind := byteAt r 1, slot := byteAt r 2, port := byteAt r 3, identity := fld r 4 8, epoch := fld r 12 4, node := fld r 16 4 % 2 ^ 17
    protect := byteAt r 21, credits := (List.range 8).map (fun v => fld r (24 + 2 * v) 2) }

/-- The partner of a record is the one of before, back within the return window, so that the link state kept for it stands (11:R363 to
R365). -/
def Pkg.sameAgain (s : Pkg) (n : Nat) (p : Partner) : Bool :=
  let x := s.port n
  match x.partner with
  | some old => decide (old.identity = p.identity) && decide (old.epoch = p.epoch)
      && (x.st != .absent || decide (s.tempo.local_ < x.since + 1000000 * s.ent 0x5000 5))
  | none => false

/-- Why a partner is refused; 0 accepted (11:R337). -/
def Pkg.refusesPartner (s : Pkg) (n : Nat) (r : List Byte) : Nat :=
  let x := s.port n
  let p := partnerOf r
  let k := portGroup n
  let able := decide (x.peer = p.identity + 1) && x.hasKey (s.sameAgain n p)
  if byteAt r 0 % 4 = 0 then 1
  else if p.node = x.node % 2 ^ 17 then 2
  else if k ≠ 0 && (p.kind ≠ 0 || p.slot ≠ (s.net.slot + k) % 4) then 3
  else if (x.protect = 1 && !(bit p.protect 0)) || (bit p.protect 1 && !able) then 4
  else if fld r 16 4 ≠ p.node || 4 ≤ p.protect || fld r 22 2 ≠ 0 || !(zeroAt r 40 24) || byteAt r 20 ≠ x.width then 5
  else 0

/-- The link key and salt of a session, the salt first (17:R527). -/
def Pkg.linkKey (s : Pkg) (n : Nat) (secret : List Byte) : List Byte :=
  let m := match (s.port n).partner with
    | some p => p.port
    | none => n
  let d := Config.hkdf secret (ascii "serlys atnik" ++ natLe 1 (min n m) ++ natLe 1 (max n m)) 36
  Sys2Proof.slice d 32 4 ++ d.take 32

/-- A packet that a version-1 link carries: RD and WR with space 1, and their answers (11:R370). -/
def v1packet (packet : List Byte) : Bool :=
  let h := Hdr.dec packet
  v1ok h.op h.space || ((h.op = opRSP || h.op = opACK) && h.tc = 0 && h.space = 1 && (h.len = 0 || h.len = 4))

/-- A port is ACTIVE at version 1: it is no Tempo parent port, and what it cannot carry leaves it, a request by another port or with
VERSION_UNSUPPORTED, an answer by another port (11:R370). -/
def Pkg.versionOne (s : Pkg) (n : Nat) : Pkg :=
  let t := s.tempo
  let s := { s with tempo := { t with parent := if t.parent = n + 1 then 0 else t.parent, heard := Tab.set none t.heard n none } }
  let bad := (s.port n).queue.filter (fun q => !(v1packet q.packet))
  let s := s.setPort n { s.port n with queue := (s.port n).queue.filter (fun q => v1packet q.packet) }
  bad.foldl
    (fun s q =>
      let h := Hdr.dec q.packet
      if q.req = 0 then
        match (if h.op = opCTRL then none else s.choosePort h.dst h.op h.space h.tc) with
        | some m => s.post m q.vc q.packet q.msg
        | none => s
      else match s.req (q.req - 1) with
        | some r => s.resendReq r
        | none => s) s

/-- The port is ACTIVE with an accepted partner: afresh, or going on with its link sequence (11:R332, R346, R363, R371, 13:R404). -/
def Pkg.portActive (s : Pkg) (n : Nat) (r : List Byte) (goOn : Bool) : Pkg :=
  let p := partnerOf r
  let x := s.port n
  let x := { x with st := .active, since := s.tempo.local_, partner := some p, version := if bit (byteAt r 0) 1 then 2 else 1, kept := true
                    nakSent := false, naks := [] }
  let s :=
    if goOn then s.setPort n x
    else
      let x := { x.clearLink with kept := true, credits := ((List.range 8).zip p.credits).foldl (fun t e => Tab.set 0 t e.1 e.2) [] }
      let s := s.setPort n x
      if x.protect = 1 && bit p.protect 1 then
        match x.secret with
        | some k => s.setPort n { x with key := some (s.linkKey n k), secret := none, keySince := s.tempo.local_ }
        | none => s
      else s
  let s := if goOn then s else s.raise 0x0402 0xFF [n, p.identity, p.node, (s.port n).width, (s.port n).version]
  let s := s.repairGroup 9 n
  let s := if p.kind = 0 then s.learnEpoch p.node p.epoch else s
  let s := if portGroup n ≠ 0 then { s with net := { s.net with peers := Tab.set 0 s.net.peers p.slot (p.node + 1) } } else s
  let s := if x.version = 1 then s.versionOne n else s
  let s := if goOn then ((s.port n).unacked.foldl (fun s (e : Env) => s.sendData n e.vc e.seq e.packet) s) else s
  (s.pump n).settleWaiting

/-- Both sides have confirmed the next key: it is in use from the next envelope (11:R371). -/
def APort.rekeyed (x : APort) (key : List Byte) (now : Nat) : APort :=
  { x with key := some key, secret := none, rekeyGot := false, keyCount := 0, keyRx := 0, keySince := now }

/-- A port fails to train, for a cause: 5 no good half, 6 not in time (11:R335, R375). -/
def Pkg.trainFailed (s : Pkg) (n cause : Nat) : Pkg :=
  let x := s.port n
  (s.setPort n { x with st := .failed, since := s.tempo.local_ }).raise 0x0401 0xFF [n, x.st.code, cause]

/-- ATNIK_TRAIN_TIMEOUT: 500 ms in TRAIN (11:R335). -/
def atnikTrainTimeout (s : Pkg) (n : Nat) : Pkg :=
  let x := s.port n
  if x.st == .train && decide (x.since + 500000000 ≤ s.tempo.local_) then s.trainFailed n 6 else s

/-- ATNIK_IDENTIFY_TIMEOUT: 1 ms in IDENTIFY (11:R335). -/
def atnikIdentifyTimeout (s : Pkg) (n : Nat) : Pkg :=
  let x := s.port n
  if x.st == .identify && decide (x.since + 1000000 ≤ s.tempo.local_) then
    ((if x.kept then s.portLost n .train 2 else s).enterTrain n).settleWaiting
  else s

/-- ATNIK_RETRAIN_TIMEOUT: 2 ms in RETRAIN (11:R335). -/
def atnikRetrainTimeout (s : Pkg) (n : Nat) : Pkg :=
  let x := s.port n
  if x.st == .retrain && decide (x.since + 2000000 ≤ s.tempo.local_) then s.portLost n .absent 2 else s

/-- A partner that identifies itself: refused, the same one, or a new one (11:R337, R363 to R365). -/
def Pkg.identify (s : Pkg) (n : Nat) (r : List Byte) : Pkg :=
  let x := s.port n
  let p := partnerOf r
  let c := s.refusesPartner n r
  if c ≠ 0 then
    let s := if x.st == .identify && x.kept then s.portLost n .failed 2 else s.setPort n { x with st := .failed, since := s.tempo.local_, kept := false }
    (s.raise 0x0406 0xFF [n, c]).settleWaiting
  else match x.partner with
    | none => s.portActive n r false
    | some old =>
      if s.sameAgain n p then
        if x.kept then
          let s := if x.st == .absent then (s.bump (0x5040 + n) 0x0F 1).raise 0x0403 0xFF [n, s.tempo.local_ - x.since] else s
          s.portActive n r true
        else s.portActive n r false
      else (s.partnerNew n old p.identity).portActive n r false

/-- TRAIN_ID: in IDENTIFY and ABSENT the partner is identified; on an ACTIVE port it confirms a new link key (11:R337, R363, R371). -/
def trainId (s : Pkg) (n : Nat) (r : List Byte) : Pkg :=
  let x := s.port n
  if r.length ≠ 64 then s
  else match x.st with
    | .identify => if x.since + 1000000 ≤ s.tempo.local_ then atnikIdentifyTimeout s n else s.identify n r
    | .absent => s.identify n r
    | .active => match x.key, x.secret with
      | some _, some k => s.setPort n (x.rekeyed (s.linkKey n k) s.tempo.local_)
      | some _, none => s.setPort n { x with rekeyGot := true }
      | _, _ => s
    | _ => s

/-- An envelope as it came: its link header, and the `len` bytes behind it. -/
structure ERecv where
  link : List Byte
  body : List Byte
  /-- a codeword that carried it cannot be corrected -/
  lost : Bool := false
  deriving DecidableEq, Repr

/-- The CRC of an envelope is good (11:R331). -/
def ERecv.sound (e : ERecv) : Bool := !e.lost && decide (fld e.link 12 4 = crc32c (e.link.take 12 ++ e.body))

/-- The envelope that came on the lanes of a port: what its codewords carry, or the link header and the body as given (10:R302, 11:R328). -/
def Pkg.came (s : Pkg) (n : Nat) (r : LRecv) (body : List Byte) : ERecv :=
  if r.words.isEmpty then ⟨r.bytes, body, false⟩
  else
    let b := r.stream (max 1 (s.port n).width) (16 + body.length)
    ⟨b.take 16, b.drop 16, wordsLost r.words⟩

/-- A TRAIN_ID record, as given or as the codewords of its envelope carry it behind the link header; a damaged envelope is not acted on
(10:R302, 11:R328, R331, R336). -/
def Pkg.trainFrame (s : Pkg) (n : Nat) (r : LRecv) : Pkg :=
  if r.words.isEmpty then trainId s n r.bytes
  else
    let e := s.came n r (List.replicate 64 0)
    if e.sound && decide (bits (leNat e.link) 27 24 = 3) then trainId s n e.body else s

/-- ATNIK_SIGNAL_DETECT: an enabled port trains once the boot epoch is formed; a failed one whose signal has come back too (11:R335, 17:R523). -/
def signalDetect (s : Pkg) (n : Nat) : Pkg :=
  let x := s.port n
  if s.fw.epochSet && s.atnikOn n && (x.st == .down || x.st == .failed) then s.enterTrain n else s

/-- ATNIK_TRAIN_DONE: the lanes are adapted and aligned, some perhaps found bad; the record goes out. Past its limit the state has ended as
its timeout says; a port in ABSENT keeps the width it was left with (11:R330, R335, R336). -/
def atnikTrained (s : Pkg) (n bad : Nat) : Pkg :=
  let x := s.port n
  let all := x.badLanes ||| bad % 256
  let w := laneWidth all
  let x' := { x with badLanes := all, width := w, since := s.tempo.local_, line := [] }
  match x.st with
  | .train =>
    if x.since + 500000000 ≤ s.tempo.local_ then atnikTrainTimeout s n
    else if w = 0 then (s.setPort n { x with badLanes := all, width := 0 }).trainFailed n 5
    else
      let s := if w = 8 then s.repairGroup 8 n else s
      (s.setPort n { x' with st := .identify }).sendTrainId n
  | .retrain =>
    if x.since + 2000000 < s.tempo.local_ then atnikRetrainTimeout s n
    else if w = 0 then (s.setPort n { x with badLanes := all, width := 0 }).portLost n .failed 5
    else (s.setPort n { x' with st := .identify }).sendTrainId n
  | .absent => if w = 0 then s else (s.setPort n { x with width := w, badLanes := all, line := [] }).sendTrainId n
  | _ => s

/-- ATNIK_LOSS (11:R335, R362). -/
def atnikLoss (s : Pkg) (n : Nat) : Pkg :=
  match (s.port n).st with
  | .active | .retrain => s.portLost n .absent 1
  | _ => s

/-- RETURN_WINDOW_EXPIRY: the partner counts as new, and the port trains (11:R335, R364). -/
def windowExpiry (s : Pkg) (n : Nat) : Pkg :=
  let x := s.port n
  if x.st == .absent && decide (x.since + 1000000 * s.ent 0x5000 5 ≤ s.tempo.local_) then
    let s := match x.partner with
      | some old => s.partnerNew n old 0
      | none => s
    let s := s.setPort n { s.port n with partner := none }
    (s.enterTrain n).settleWaiting
  else s

/-- A retrain begins; link sequencing stands (11:R332). -/
def Pkg.aretrain (s : Pkg) (n : Nat) : Pkg :=
  let x := s.port n
  (s.setPort n { x with st := .retrain, since := s.tempo.local_, nakSent := false, naks := []
                        unacked := x.unacked.map (fun (e : Env) => { e with resends := 0 }) }).bump (0x5040 + n) 0x0E 1

/-- ATNIK_LANE_FAIL: the port retrains at half width, or fails where no half is good (11:R330, 13:R403, R413). -/
def atnikLaneFail (s : Pkg) (n lane : Nat) : Pkg :=
  let x := s.port n
  if x.st != .active || bit x.badLanes lane then s
  else
    let bad := x.badLanes ||| 2 ^ lane
    let used := if x.width = 8 then true else if x.badLanes % 16 = 0 then decide (lane < 4) else decide (4 ≤ lane)
    let s := s.setPort n { x with badLanes := bad }
    if !used then s
    else if laneWidth bad = 0 then s.portLost n .failed 5
    else
      let us := s.ent 0x5000 6
      let s := (s.aretrain n).raise 0x0405 0xFF [n, 4]
      ((s.openGroup 8 n).castlingRecord (CRec.byDelay { cls := 8, unit := n, detected := s.tempo.now, bound := 2000, redo := 1000 * us, more := [0] })).sparesLow 8 n 0

/-- A write of atnik.enable takes effect (11:R335). -/
def Pkg.atnikEnable (s : Pkg) (n v : Nat) : Pkg :=
  let s := s.setEnt (0x5040 + n) 2 v
  let x := s.port n
  if v = 0 then
    match x.st with
    | .down => s
    | .active | .retrain => s.portLost n .down 3
    | .identify => if x.kept then s.portLost n .down 3 else (s.setPort n { x with st := .down, since := s.tempo.local_ }).settleWaiting
    | _ => (s.setPort n { x with st := .down, since := s.tempo.local_, kept := false }).settleWaiting
  else if x.st == .failed then s.enterTrain n
  else s

/-- NAKs exchanged within the last 1 ms (11:R332). -/
def Pkg.anoteNak (s : Pkg) (n : Nat) : Pkg :=
  let x := s.port n
  let now := s.tempo.local_
  (s.setPort n { x with naks := now :: x.naks.filter (fun t => decide (now < t + 1000000)) }).bump (0x5040 + n) 0x0D 1

/-- Discard an envelope and send one NAK for it (11:R332). -/
def Pkg.abad (s : Pkg) (n : Nat) : Pkg :=
  let x := s.port n
  if x.nakSent then s
  else
    let s := ((s.setPort n { x with nakSent := true }).sendBare n 2).anoteNak n
    if 1000 < (s.port n).naks.length then s.aretrain n else s

/-- Acknowledgement through `a`: everything up to it is delivered (11:R332). -/
def APort.acked (x : APort) (a : Nat) : APort :=
  if x.unacked.any (fun e => decide (e.seq = a)) then
    { x with unacked := (x.unacked.dropWhile (fun e => decide (e.seq ≠ a))).drop 1 }
  else x

/-- An envelope of a type on an ACTIVE port: its acknowledgement and credits count if it came whole and its CRC is good; else it is
discarded (11:R331, R332, R373). -/
def Pkg.arecv (s : Pkg) (n ltype : Nat) (e : ERecv) (k : Pkg → Nat → Pkg) : Pkg :=
  let x := s.port n
  let v := leNat (e.link.take 16)
  if x.st != .active then s
  else if !e.sound then (s.bump (0x5040 + n) 0x0C 1).abad n
  else if bits v 27 24 ≠ ltype then s
  else
    let x := x.acked (bits v 23 12)
    let s := s.setPort n { x with credits := Tab.modify 0 x.credits (bits v 34 32) (· + bits v 47 36) }
    k s (bits v 11 0)

/-- A packet that the package accepts (11:R339, R366): its op, class, length and CTRL subtype are known. -/
def packetKnown (p : List Byte) : Bool :=
  let h := Hdr.dec p
  h.ok && decide (32 ≤ p.length) && decide (p.length = 32 + 16 * h.len)
    && (h.op ≠ opCTRL || (decide (1 ≤ h.spec % 256) && decide (h.spec % 256 ≤ 6)))
    && (h.op ≠ opATOMIC || (decide (bits h.spec 35 32 ≤ 9) && decide (bits h.spec 37 36 ≤ 2) && decide ((bits h.spec 37 36 = 2) = (h.len = 2))
      && (bits h.spec 37 36 ≠ 2 || bits h.spec 35 32 = 9)))

/-- A packet received in its place: discarded and counted, or kept for the command that acts on it; credits of what is not kept are
owed at once. A tick report goes to the collective engines at once (03:R86, 11:R333, R339, R366). -/
def Pkg.areceive (s : Pkg) (n : Nat) (packet : List Byte) : Pkg :=
  let x := s.port n
  let h := Hdr.dec packet
  let owe := { x with owed := Tab.modify 0 x.owed h.vc (· + creditsOf packet) }
  if !(packetKnown packet) || (h.op = opCTRL && decide (x.version < 2)) then s.setPort n { owe with discards := x.discards + 1 }
  else if h.op = opCTRL && h.spec % 256 = 4 then
    let s := s.setPort n owe
    let rec_ := Sys2Proof.slice packet 32 96
    let job := fld packet 128 3
    if byteAt packet 136 = 0 then s.gatherReport (s.partOfJob job) job h.src rec_
    else match s.partOfJob job with
      | some p => s.deliverReport p rec_
      | none => s
  else s.setPort n { x with rx := x.rx ++ [{ vc := h.vc, packet := packet, at_ := s.tempo.fine }] }

/-- The packet of a protected envelope, where its tag is good (11:R371). -/
def APort.unseal (x : APort) (link body : List Byte) : Option (List Byte) :=
  match x.key with
  | none => some body
  | some k =>
    let m := body.length - 16
    let nonce := nonceOf k x.keyRx
    let plain := Config.gcmCrypt (k.drop 4) nonce (body.take m)
    if body.drop m = Config.gcmTag (k.drop 4) nonce (link.take 12) plain then some plain else none

/-- ATNIK_DATA_ENVELOPE: checked by CRC, tag and sequence; acknowledged; its packet received (11:R332, R333, R339, R372). -/
def dataEnvelope (s : Pkg) (n : Nat) (e : ERecv) : Pkg :=
  let x := s.port n
  let s := if x.st == .active && x.key.isSome then s.setPort n { x with keyRx := x.keyRx + 1 } else s
  match x.unseal e.link e.body with
  | none =>
    if x.st != .active || !e.sound then s.arecv n 1 e (fun s _ => s)
    else
      let run := x.tagRun + 1
      let s := (s.setPort n { s.port n with tagRun := run }).bump (0x5040 + n) 0x11 1
      if 8 ≤ run then (s.raise 0x0409 0xFF [n]).portLost n .failed 4 else s.abad n
  | some packet =>
    s.arecv n 1 e fun s seq =>
      let x := { s.port n with tagRun := 0 }
      if seq ≠ x.rxNext then (s.setPort n x).abad n
      else (((s.setPort n { x with rxNext := (x.rxNext + 1) % 4096, nakSent := false }).areceive n packet).sendBare n 0).pump n

/-- ATNIK_NAK: every unacknowledged envelope is resent, or the port retrains (11:R332). -/
def atnikNak (s : Pkg) (n : Nat) (e : ERecv) : Pkg :=
  s.arecv n 2 e fun s _ =>
    let s := s.anoteNak n
    let x := s.port n
    if 1000 < x.naks.length || x.unacked.any (fun (e : Env) => decide (8 ≤ e.resends)) then s.aretrain n
    else
      let us := x.unacked.map (fun (e : Env) => { e with resends := e.resends + 1 })
      (us.foldl (fun s (e : Env) => s.sendData n e.vc e.seq e.packet) (s.setPort n { x with unacked := us })).pump n

/-- ATNIK_IDLE: an acknowledgement and credits (11:R332, R333). -/
def atnikIdle (s : Pkg) (n : Nat) (e : ERecv) : Pkg := s.arecv n 0 e fun s _ => s.pump n

/-- LINK_REKEY: after 2³² envelopes or 60 s, or once the partner has confirmed its own, the next key is derived, and TRAIN_ID confirms it; it is
in use when both sides have (11:R371, 17:R527). -/
def linkRekey (s : Pkg) (n : Nat) (secret : List Byte) : Pkg :=
  let x := s.port n
  if x.st == .active && x.key.isSome && (x.rekeyGot || decide (2 ^ 32 ≤ x.keyCount) || decide (2 ^ 32 ≤ x.keyRx) || decide (x.keySince + 60000000000 ≤ s.tempo.local_)) then
    let s := (s.setPort n { x with secret := some secret }).sendTrainId n
    if x.rekeyGot then s.setPort n ((s.port n).rekeyed (s.linkKey n secret) s.tempo.local_) else s
  else s

/-- LINK_SESSION_SETUP: root firmware forms a session with the address written for the port; the peer's certificate names a serial
with this hash (17:R527). -/
def linkSession (s : Pkg) (n : Nat) (secret : List Byte) (identity : Nat) : Pkg :=
  if s.ent 0x7030 (n + 1) = 0 then s else s.setPort n { s.port n with peer := identity % 2 ^ 64 + 1, secret := some secret }

end Sys2Proof

namespace Sys2Proof.Machine

open Sys2Proof

/-- ATNIK_SIGNAL_DETECT (11:R335). -/
def execAtnikSignalDetect (n : Nat) (s : State) : Res := onPort n s (fun k => signalDetect k n)
/-- ATNIK_TRAIN_DONE; `bad` has a bit for each lane found bad (11:R335). -/
def execAtnikTrainDone (n bad : Nat) (s : State) : Res := onPort n s (fun k => atnikTrained k n bad)
/-- ATNIK_TRAIN_TIMEOUT (11:R335). -/
def execAtnikTrainTimeout (n : Nat) (s : State) : Res := onPort n s (fun k => atnikTrainTimeout k n)
/-- TRAIN_ID (11:R337). -/
def execTrainId (n : Nat) (record : LRecv) (s : State) : Res := onPort n s (fun k => k.trainFrame n record)
/-- ATNIK_IDENTIFY_TIMEOUT (11:R335). -/
def execAtnikIdentifyTimeout (n : Nat) (s : State) : Res := onPort n s (fun k => atnikIdentifyTimeout k n)
/-- ATNIK_LOSS (11:R335). -/
def execAtnikLoss (n : Nat) (s : State) : Res := onPort n s (fun k => atnikLoss k n)
/-- ATNIK_RETRAIN_TIMEOUT (11:R335). -/
def execAtnikRetrainTimeout (n : Nat) (s : State) : Res := onPort n s (fun k => atnikRetrainTimeout k n)
/-- RETURN_WINDOW_EXPIRY (11:R364). -/
def execReturnWindowExpiry (n : Nat) (s : State) : Res := onPort n s (fun k => windowExpiry k n)
/-- ATNIK_LANE_FAIL (11:R330). -/
def execAtnikLaneFail (n lane : Nat) (s : State) : Res := act (decide (n < aportMax) && decide (lane < 8)) s (fun k => atnikLaneFail k n lane)
/-- ATNIK_DATA_ENVELOPE: the link header, and the packet with its tag (11:R332). -/
def execAtnikDataEnvelope (n : Nat) (link : LRecv) (body : List Byte) (s : State) : Res := onPort n s (fun k => dataEnvelope k n (k.came n link body))
/-- ATNIK_NAK (11:R332). -/
def execAtnikNak (n : Nat) (link : LRecv) (s : State) : Res := onPort n s (fun k => atnikNak k n (k.came n link []))
/-- ATNIK_IDLE (11:R332). -/
def execAtnikIdle (n : Nat) (link : LRecv) (s : State) : Res := onPort n s (fun k => atnikIdle k n (k.came n link []))
/-- LINK_REKEY, with the secret KEY_UPDATE gave (11:R371). -/
def execLinkRekey (n : Nat) (secret : List Byte) (s : State) : Res := onPort n s (fun k => linkRekey k n secret)
/-- LINK_SESSION_SETUP, with the session's export master secret and the peer's identity (17:R527). -/
def execLinkSessionSetup (n : Nat) (secret : List Byte) (identity : Nat) (s : State) : Res := onPort n s (fun k => linkSession k n secret identity)

end Sys2Proof.Machine
end

