-- ==== Sys2Proof/Machine/HartRec.lean ====
section
/-!
DEFINITION. Hart records: their layout in the die store, the start of a partition's harts from them (08:R246).
-/

namespace Sys2Proof

/-- The sixteen CSRs of a hart record, in order (08:R246). -/
def HCsr.recorded (c : HCsr) : List Nat :=
  [c.fcsr, c.vtype, c.vl, c.vstart, c.vcsr, c.sstatus, c.stvec, c.sscratch, c.sepc, c.scause, c.stval, c.satp, c.sie, c.sip, c.stimecmp, c.instret]

/-- The CSRs that a record gives. -/
def HCsr.ofRecorded (c : HCsr) (v : Nat → Nat) : HCsr :=
  { c with fcsr := v 0, vtype := v 1, vl := v 2, vstart := v 3, vcsr := v 4, sstatus := v 5, stvec := v 6, sscratch := v 7, sepc := v 8, scause := v 9
           stval := v 10, satp := v 11, sie := v 12, sip := v 13, stimecmp := v 14, instret := v 15 }

/-- A scalar record (08:R246). -/
def HArch.record (a : HArch) (seq half : Nat) : List Byte :=
  padTo 1024
    (natLe 8 seq ++ natLe 8 a.pc.toNat ++ natLe 1 (a.priv + 4 * half + 8 * b2n (decide (bits a.csr.sstatus 14 13 ≠ 0))) ++ natLe 15 0
      ++ (List.range 31).flatMap (fun i => natLe 8 (Tab.get 0 a.x (i + 1)).toNat) ++ (List.range 32).flatMap (fun i => natLe 8 (Tab.get 0 a.f i))
      ++ a.csr.recorded.flatMap (natLe 8))

/-- The state that a scalar record and a vector image give. -/
def HArch.ofRecord (a : HArch) (r image : List Byte) : HArch :=
  { pc := BitVec.ofNat 64 (fld r 8 8), priv := byteAt r 16 % 4
    x := (List.range 31).foldl (fun x i => Tab.set 0 x (i + 1) (BitVec.ofNat 64 (fld r (0x20 + 8 * i) 8))) []
    f := (List.range 32).foldl (fun f i => Tab.set 0 f i (fld r (0x118 + 8 * i) 8)) []
    v := Mem.writeN [] 0 image, csr := a.csr.ofRecorded (fun i => fld r (0x218 + 8 * i) 8) }

/-- Address of the record area of a hart of a partition (08:R246). -/
def Pkg.hartArea (s : Pkg) (h : Nat) : Nat :=
  let x := s.hart h
  (s.part (x.part - 1)).img.hartRec + x.index * 34816

/-- Address of the scalar record of a ply, and of a vector image half (08:R246). -/
def Pkg.hartRecAddr (s : Pkg) (h seq : Nat) : Nat := s.hartArea h + seq % 2 * 1024
def Pkg.hartVecAddr (s : Pkg) (h half : Nat) : Nat := s.hartArea h + 2048 + half * 16384

/-- Restore a hart from the record of its present ply; what it had not committed is lost (08:R246, R247). -/
def Pkg.hartRestore (s : Pkg) (h : Nat) : Pkg :=
  let x := s.hart h
  let r := s.dsBytes (s.hartRecAddr h x.seq) 1024
  let half := bits (byteAt r 16) 2 2
  let image := s.dsBytes (s.hartVecAddr h half) 16384
  s.setHart h { x with a := x.a.ofRecord r image, vhalf := half, buf := [], lines := [], marked := false, wait := .none, resv := none, ntl := false, since := s.tempo.now, n := 0 }

/-- The sequence number of the newest of two records: each stands in the half of its own parity. -/
def newestSeq (rd : Nat → Nat) : Nat :=
  let a := rd 0
  let b := rd 1
  if b % 2 = 1 && (decide (a < b) || decide (a % 2 = 1)) then b else if a % 2 = 0 then a else 0

/-- The partition's harts begin to run, each from its record (14:R429, R439). -/
def Pkg.startHarts (s : Pkg) (p : Nat) : Pkg :=
  (s.part p).harts.foldl (fun s h => let s := s.hartRestore h
    s.setHart h { s.hart h with on := true }) s

/-- Service firmware starts on harts 0–15: in M mode, at the entry offset that its header gives, counted from the byte behind the header in
the service memory (08:R232, 17:R518, R522, log entry 70); or it stops. -/
def Pkg.serviceHarts (s : Pkg) (run : Bool) : Pkg :=
  (List.range 16).foldl
    (fun s h => if run then s.setHart h { on := true, a := { pc := BitVec.ofNat 64 (0x8000000000 + s.net.slot * 2 ^ 46 + 48 * 0x2000000 + 512 + fld s.fw.service 24 8), priv := 3 } }
      else s.setHart h { s.hart h with on := false }) s

end Sys2Proof
end

