-- ==== Sys2Proof/Machine/CkptOps.lean ====
section
/-!
DEFINITION. Checkpoints as shared operations: the shape record, the sections and bytes of a stream, the capture, the restore
(14:R444 to R452).
-/

namespace Sys2Proof

/-- Word of the numeric settings (14:R451). -/
def NumCfg.code (c : NumCfg) : Nat := b2n c.ftz + 2 * b2n c.nanF8A + 4 * b2n c.nanF4

/-- The hash of a layout table, over its words in order (14:R451). -/
def layoutHash (ls : List (List Byte)) : Nat := changeHash (ls.flatMap (wordsOf 4))

/-- A shape record (14:R451). -/
def shapeRecord (dies : List Nat) (layoutCount num harts recOff hartRec lhash members rank : Nat) : List Byte :=
  padTo 64 (natLe 1 dies.length ++ natLe 1 layoutCount ++ natLe 1 num ++ natLe 1 1 ++ natLe 4 harts ++ natLe 8 (dies.foldl (fun m d => m + 2 ^ d) 0)
    ++ natLe 8 recOff ++ natLe 8 hartRec ++ natLe 8 lhash ++ natLe 4 members ++ natLe 4 rank)

/-- The shape record that a partition's member writes (14:R451). -/
def Part.shape (x : Part) : List Byte :=
  shapeRecord x.dies x.img.layoutCount x.img.num.code x.harts.length x.img.recOff x.img.hartRec (layoutHash x.img.layouts) x.img.members.length x.rank

/-- The shape hash (14:R451). -/
def shapeHash (r : List Byte) : Nat := hashBytes 8 r

/-- The fields of a shape record: offset and length, in order (14:R451). -/
def shapeFields : List (Nat × Nat) := [(0, 1), (1, 1), (2, 1), (3, 1), (4, 4), (8, 8), (16, 8), (24, 8), (32, 8), (40, 4), (44, 4), (48, 16)]

/-- The number, from 1, of the first field in which two shape records differ. -/
def shapeDiff (a b : List Byte) : Option Nat :=
  (((List.range 12).zip shapeFields).find? (fun f => decide (slice a f.2.1 f.2.2 ≠ slice b f.2.1 f.2.2))).map (fun f => f.1 + 1)

/-- The composition in a partition record (14:R426). -/
def Pkg.composition (s : Pkg) (p : Nat) : List Byte :=
  let v (sub : Nat) : Nat := s.ent (0x2000 + p) sub
  natLe 1 (v 6) ++ natLe 2 (s.part p).harts.length ++ natLe 4 (v 5) ++ natLe 4 (v 4) ++ natLe 8 ((s.part p).dies.foldl (fun m d => m + 2 ^ d) 0)

/-- The partition record as bytes: the image's fields, the schedule, the composition, the layouts, the save set, the tile table
(14:R426, R444; the order of its bytes is the model's own, log entry 22). -/
def Pkg.recordBytes (s : Pkg) (p : Nat) : List Byte :=
  let x := s.part p
  let i := x.img
  padTo 256
    (natLe 1 i.layoutCount ++ natLe 1 i.flags ++ natLe 1 i.cap ++ natLe 1 x.layout ++ natLe 4 i.fUs ++ natLe 4 i.w ++ natLe 4 i.saves.length
      ++ natLe 8 i.seed ++ natLe 8 i.b ++ natLe 8 i.recOff ++ natLe 8 i.hartRec ++ natLe 8 i.hartPc ++ natLe 8 i.coordOff ++ natLe 8 i.memberAddr
      ++ (List.range 8).flatMap (fun k => natLe 8 (i.doors.getD k 0)) ++ natLe 8 x.mem.s ++ natLe 8 x.mem.m ++ natLe 1 i.num.code
      ++ s.composition p)
  ++ padTo 256 (i.layouts.flatMap (padTo 32)) ++ padTo 1024 (i.saves.flatMap (fun v => natLe 8 v.1 ++ natLe 8 v.2)) ++ i.tiles.flatMap (padTo 32)

/-- The image part that a partition record gives, and the layout. -/
def Image.ofRecord (r : List Byte) (members : List Nat) (tiles : Nat) : Image × Nat :=
  ({ layoutCount := byteAt r 0, flags := byteAt r 1, cap := byteAt r 2, fUs := fld r 4 4, w := fld r 8 4, seed := fld r 16 8, b := fld r 24 8
     recOff := fld r 32 8, hartRec := fld r 40 8, hartPc := fld r 48 8, coordOff := fld r 56 8, memberAddr := fld r 64 8
     doors := (List.range 8).map (fun k => fld r (72 + 8 * k) 8)
     layouts := (List.range (byteAt r 0)).map (fun k => slice r (256 + 32 * k) 32)
     saves := (List.range (fld r 12 4)).map (fun k => (fld r (512 + 16 * k) 8, fld r (520 + 16 * k) 8))
     tiles := (List.range tiles).map (fun k => slice r (1536 + 32 * k) 32)
     members := members
     num := { ftz := bit (byteAt r 152) 0, nanF8A := bit (byteAt r 152) 1, nanF4 := bit (byteAt r 152) 2 } }, byteAt r 3)

/-- One section: kind, die index, window offset, length; and its bytes when written (14:R450). -/
structure Section where
  kind : Nat := 0
  d : Nat := 0
  off : Nat := 0
  len : Nat := 0
deriving DecidableEq, Repr, Inhabited

/-- Die index of a C-die of a partition (14:R428). -/
def Part.dieIndex (x : Part) (die : Nat) : Nat := (x.dies.takeWhile (fun d => d ≠ die)).length

/-- Lengths of the partition record and of the member list. -/
def Part.recordLen (x : Part) : Nat := 1536 + 32 * x.img.tiles.length
def Part.listLen (x : Part) : Nat := 4 * x.img.members.length

/-- The sections of a stream of a type (14:R444, R450). -/
def Part.sections (x : Part) (ty : Nat) : List Section :=
  (if ty = 1 then
    (List.range x.dies.length).flatMap (fun d =>
      [({ kind := 1, d := d, len := 0x50000000 } : Section), { kind := 2, d := d, len := 128 * 0x80000 }, { kind := 3, d := d, len := 128 * 0x10000 }])
   else x.img.saves.map (fun v => ({ kind := 1, d := x.dieIndex (dieOf v.1), off := v.1 % 0x80000000, len := v.2 } : Section)))
  ++ [{ kind := 4, len := x.recordLen }, { kind := 5, len := x.listLen }]

/-- Places of the sections in the stream, and its length (14:R450). -/
def placed : Nat → List Section → List (Section × Nat)
  | _, [] => []
  | at_, c :: rest => (c, at_) :: placed (at_ + ceilDiv c.len 64 * 64) rest
def Part.streamLen (x : Part) (ty : Nat) : Nat := (x.sections ty).foldl (fun n c => n + ceilDiv c.len 64 * 64) 65536

/-- Tiles of die index d in logical-tile order. -/
def Part.tilesAt (x : Part) (d : Nat) : List Nat := (List.range 128).map (fun l => tileNo (x.dies.getD d 0) l)

/-- The bytes of a section. -/
def Pkg.sectionBytes (s : Pkg) (p : Nat) (c : Section) : List Byte :=
  let x := s.part p
  match c.kind with
  | 1 => s.dsBytes (x.dies.getD c.d 0 * 0x80000000 + c.off) c.len
  | 2 => (x.tilesAt c.d).flatMap (fun t => (s.tile t).ocache.readN 0 0x80000)
  | 3 => (x.tilesAt c.d).flatMap (fun t => (s.tile t).dsram.readN 0 0x10000)
  | 4 => s.recordBytes p
  | _ => x.img.members.flatMap (natLe 4)

/-- The stream of a member, with the data-position record given (14:R450). -/
def Pkg.stream (s : Pkg) (p ty id N dataPos : Nat) : List Byte :=
  let x := s.part p
  let cs := placed 65536 (x.sections ty)
  let shape := x.shape
  let body := cs.map (fun c => (c, s.sectionBytes p c.1))
  let head :=
    natLe 4 0x4B434B59 ++ natLe 1 1 ++ natLe 1 ty ++ natLe 1 1 ++ natLe 1 0 ++ natLe 4 id ++ natLe 4 (s.ent (0x2000 + p) 5) ++ natLe 8 N ++ natLe 8 x.img.seed
      ++ natLe 4 cs.length ++ natLe 4 0 ++ natLe 8 (x.streamLen ty) ++ natLe 8 (shapeHash shape) ++ natLe 8 0 ++ shape ++ natLe 256 dataPos
      ++ natLe 124 0
  let table := body.flatMap (fun e => natLe 1 e.1.1.kind ++ natLe 1 e.1.1.d ++ natLe 2 0 ++ natLe 4 (crc32c e.2) ++ natLe 8 e.1.1.off ++ natLe 8 e.1.1.len ++ natLe 8 e.1.2)
  padTo 65536 (head ++ natLe 4 (crc32c head) ++ table) ++ body.flatMap (fun e => padTo (ceilDiv e.1.1.len 64 * 64) e.2)

/-- Which packet of which region holds packet k of a stream: regions are filled in order (14:R448, R452). -/
def Pkg.streamPlace (s : Pkg) (k : Nat) : List Nat → Option (Nat × Nat)
  | [] => none
  | r :: rest => if k < (s.region r).packets then some (r, k) else Pkg.streamPlace s (k - (s.region r).packets) rest

/-- The tier engines write a stream into the named regions (14:R448 step 5). -/
def Pkg.writeStream (s : Pkg) (bytes : List Byte) (regions : List Nat) : Pkg :=
  let s := (List.range (ceilDiv bytes.length 16384)).foldl
    (fun s k => match s.streamPlace k regions with
      | some (r, i) => s.hostPacket r i (padTo 16384 (slice bytes (16384 * k) 16384))
      | none => s) s
  regions.foldl (fun s r => s.flushHold r) s

/-- A checkpoint stop applies at the tick of frame N: the cut begins (14:R448 steps 1 and 2). -/
def Pkg.beginCut (s : Pkg) (p N : Nat) (c : Change) : Pkg :=
  let m := (s.part p).mem
  let s := s.setMem p { m with applying := m.applying.filter (fun o => o ≠ c) }
  let s := ((s.dropGambits p).bump (0x2210 + p) 0x10 1).raise 0x0103 p [byteAt c.bytes 1, c.kind, c.id]
  let x := s.part p
  let now := s.tempo.now
  let cap : Capture :=
    { bytes := c.bytes, origin := c.origin, cmd := c.cmd, deadline := c.deadline, since := x.mem.due N, begun := now, dataPos := s.ent (0x8000 + p) 8 }
  s.setPart p { x with st := .checkpointing, heldAt := now, cap := some cap }

/-- 1 + the number of the last castling record, detected at or after a Tempo, that names the partition; 0 none (13:R418, 14:R447). -/
def Pkg.recoverySince (s : Pkg) (p since : Nat) : Nat :=
  (s.fault.records.filter (fun r => bit (beNat (slice r.2 24 2)) p && decide (since ≤ beNat (slice r.2 8 8)))).foldl
    (fun m r => max m (beNat (slice r.2 28 4) + 1)) 0

/-- A capture has ended now: a pre-emption checkpoint past its deadline is late, by a recovery where one was detected since the frame
before the stop began (14:R447, log entry 89). -/
def Pkg.endCapture (s : Pkg) (p : Nat) (c : Capture) : Pkg :=
  let x := s.part p
  let now := s.tempo.now
  let l : LateCap := { id := fld c.bytes 20 4, deadline := c.deadline - 1, ended := now, recovery := if c.yielded then 0 else s.recoverySince p x.mem.start }
  s.setPart p { x with cap := none, lateCaps := if c.deadline ≠ 0 && decide (c.deadline ≤ now) then x.lateCaps ++ [l] else x.lateCaps
                       preemptEnd := if c.deadline = 0 then x.preemptEnd else now + 1 }

/-- A capture is abandoned: its regions stay loading (14:R448, R453). Its own command ends with the status given. -/
def Pkg.captureFailed (s : Pkg) (p cause status : Nat) : Pkg :=
  match (s.part p).cap with
  | none => s
  | some c =>
    let s := ((s.endCapture p c).endYields p 4).raise 0x0803 p [fld c.bytes 20 4, fld c.bytes 8 8, cause]
    if c.origin = 1 then s else s.complete p c.cmd (if c.origin = 2 then 0x10 else 0x06) status 0

/-- A recovery holds a capture: its unit is not set up, or replays (13:R414). A tile between plies that is set up waits for the capture. -/
def Pkg.recoveryHolds (s : Pkg) (p : Nat) : Bool :=
  s.fault.open_.any (fun r => bit r.partsMask p && (decide (r.step = 0) || (decide (r.tile < tileMax) && (match (s.tile r.tile).mode with
    | .running | .draining | .faulted => true
    | _ => false))))

/-- What step 3 of the cut waits for (14:R448), after the recoveries (13:R414). -/
def Pkg.cutDrained (s : Pkg) (p : Nat) : Bool :=
  !(s.recoveryHolds p) && (s.part p).harts.all (fun h => let x := s.hart h
    !x.on || (!x.marked && x.buf.isEmpty && (x.wait == .none || x.wait == .wfi || x.wait == .suspend) && decide (x.n = 0)))
  && !(s.solveWait.any (fun (r : SolveReq) => r.part = p))
  && s.engines.all (fun (e : Nat × Engine) => e.2.queue.all (fun r => r.part ≠ p) && e.2.batches.all (fun b => b.req.part ≠ p))
  && s.tier.moves.all (fun m => m.part ≠ p)
  && s.colls.all (fun (c : Coll) => c.part ≠ p) && s.collWait.all (fun w => w.1 ≠ p)
  && s.net.reqs.all (fun r => r.part ≠ p) && s.net.sends.all (fun m => m.part ≠ p)
  && s.relWait.all (fun r => r.1.part ≠ p) && s.sdies.all (fun e => e.2.arriving.all (fun w => w.part ≠ p))

/-- The member goes on from a hold or a capture: the span of running plies and the stalemate clocks leave the time out
(03:R97, 12:R397). -/
def Pkg.leaveHold (s : Pkg) (p : Nat) : Pkg :=
  let x := s.part p
  let now := s.tempo.now
  let s := s.eachTile (tilesOf x.dies) (fun t =>
    if t.mode == .running || t.mode == .draining then { t with spanFrom := if t.spanFrom ≤ x.heldAt then t.spanFrom + (now - x.heldAt) else now } else t)
  s.collUnpause p

/-- A restore is refused (14:R451, R452). -/
def Pkg.restoreRefused (s : Pkg) (p status field : Nat) : Pkg :=
  let x := s.part p
  match x.rst with
  | none => s
  | some r => (((s.setPart p { x with rst := none }).raise 0x0805 p [status, field]).complete p r.cmd 0x11 status 0)

/-- Packet k of the restore's stream is read (14:R452). -/
def Pkg.restoreAsk (s : Pkg) (p : Nat) (r : Restore) (k : Nat) : Pkg := match s.streamPlace k r.regions with
  | some (reg, i) => s.readPacket (.restore p k) reg i
  | none => s

/-- A stream header is sound (14:R452; a type above 1 is none of R444's, log entry 90). -/
def headerOk (h : List Byte) : Bool :=
  decide (fld h 0 4 = 0x4B434B59) && decide (byteAt h 4 = 1) && decide (byteAt h 5 ≤ 1) && decide (fld h 508 4 = crc32c (h.take 508))

/-- The sections of a stream: kind, die index, window offset, bytes; none where a CRC fails or a section leaves the stream. -/
def streamSections (bs : List Byte) : Option (List (Nat × Nat × Nat × List Byte)) :=
  (List.range (fld bs 32 4)).foldr
    (fun i acc => match acc with
      | none => none
      | some rest =>
        let e := slice bs (512 + 32 * i) 32
        let n := fld e 16 8
        let at_ := fld e 24 8
        let d := slice bs at_ n
        if at_ + n ≤ bs.length && decide (crc32c d = fld e 4 4) then some ((byteAt e 0, byteAt e 1, fld e 8 8, d) :: rest) else none)
    (some [])

/-- Write a section back to its place (14:R452). -/
def Pkg.placeSection (s : Pkg) (p : Nat) (c : Nat × Nat × Nat × List Byte) : Pkg :=
  let x := s.part p
  let d := c.2.2.2
  match c.1 with
  | 1 =>
    let die := x.dies.getD c.2.1 0
    let a := die * 0x80000000 + c.2.2.1
    (s.countWrite p die a d.length).dstorePut a d
  | 2 => ((List.range 128).zip (x.tilesAt c.2.1)).foldl (fun s t => s.setTile t.2 { s.tile t.2 with ocache := Mem.writeN [] 0 (slice d (t.1 * 0x80000) 0x80000) }) s
  | 3 => ((List.range 128).zip (x.tilesAt c.2.1)).foldl (fun s t => s.setTile t.2 { s.tile t.2 with dsram := Mem.writeN [] 0 (slice d (t.1 * 0x10000) 0x10000) }) s
  | _ => s

/-- Bind the tiles and harts of a partition to it: their numbers and record areas (14:R428, 04:R151, 08:R246). -/
def Pkg.bindUnits (s : Pkg) (p : Nat) : Pkg :=
  let x := s.part p
  let ts := tilesOf x.dies
  let s := ((List.range ts.length).zip ts).foldl
    (fun s t => s.setTile t.2 { s.tile t.2 with part := p + 1, index := t.1, recBase := x.img.recOff, applied := [] }) s
  ((List.range x.harts.length).zip x.harts).foldl
    (fun s h => s.setHart h.2 { part := p + 1, index := h.1 }) s

/-- The position of the package among the members; the length of the list where it is none of them (14:R428). -/
def Pkg.rankIn (s : Pkg) (members : List Nat) : Nat := (members.takeWhile (fun m => m ≠ s.node)).length

/-- The numeric settings a load copies (02:R73). -/
def Pkg.numNow (s : Pkg) (p : Nat) : NumCfg :=
  let v := s.ent 0x3882 (p + 1)
  { ftz := decide (s.ent 0x3881 (p + 1) = 1), nanF8A := bit v 0, nanF4 := bit v 1 }

/-- The member's schedule settings from its partition record, before a launch. -/
def Part.settle (x : Part) (N : Nat) : Part :=
  let i := x.img
  { x with st := .ready, startFrame := N, holdCause := 0
           mem := { f := i.fUs * 1000, w := i.w, b := i.b, cap := i.cap, gambit := bit i.flags 0, digest := bit i.flags 1, n := N, inputs := x.mem.inputs } }

/-- A whole-state stream is written back, every predictor counter is 1; the partition is ready (04:R122, 14:R452). -/
def Pkg.restoreWhole (s : Pkg) (p : Nat) (bs : List Byte) (cs : List (Nat × Nat × Nat × List Byte)) (given : Option (List Nat)) : Pkg :=
  let N := fld bs 16 8
  let rec_ := ((cs.find? (fun c => c.1 = 4)).map (fun c => c.2.2.2)).getD []
  let list := ((cs.find? (fun c => c.1 = 5)).map (fun c => c.2.2.2)).getD []
  let own := (List.range (list.length / 4)).map (fun i => fld list (4 * i) 4)
  let members := given.getD own
  let x := s.part p
  let (img, layout) := Image.ofRecord rec_ members (128 * x.dies.length)
  let s := s.setPart p { ({ x with img := img, layout := layout, rank := s.rankIn members } : Part).settle N with rst := none }
  let s := s.bindUnits p
  let s := cs.foldl (fun s c => s.placeSection p c) s
  let s := match given with
    | some ms => s.dstorePut img.memberAddr (ms.flatMap (natLe 4))
    | none => s
  let s := s.writeCoords p
  let s := (tilesOf x.dies).foldl
    (fun s t =>
      let seq := newestSeq (fun h => s.dword (winOf t + img.recOff + t % 128 * 2048 + h * 1024))
      let s := s.setTile t { s.tile t with seq := seq }
      let s := s.recordTile t
      s.setTile t { s.tile t with mode := .rampWait, gambit := false, frameEnd := true, core := { (s.tile t).core with pred := [] } }) s
  x.harts.foldl
    (fun s h =>
      let seq := newestSeq (fun k => s.dword (s.hartArea h + k * 1024))
      s.setHart h { s.hart h with seq := seq }) s

/-- A save-set stream is written back (14:R452). -/
def Pkg.restoreSave (s : Pkg) (p : Nat) (bs : List Byte) (cs : List (Nat × Nat × Nat × List Byte)) : Pkg :=
  let N := fld bs 16 8
  let s := (cs.filter (fun c => c.1 = 1)).foldl (fun s c => s.placeSection p c) s
  let x := s.part p
  let s := (tilesOf x.dies).foldl
    (fun s t =>
      let s := s.dstorePut (winOf t + (s.tile t).recBase + t % 128 * 2048 + 8) (natLe 8 N)
      s.setTile t { s.tile t with frame := N }) s
  (s.setPart p { x with startFrame := N, rst := none, mem := { x.mem with n := N } }).writeCoords p

/-- The shape record that the target of a restore would write (14:R451). -/
def Pkg.targetShape (s : Pkg) (p : Nat) (bs : List Byte) (members : List Nat) : List Byte :=
  let x := s.part p
  if byteAt bs 5 = 0 then x.shape
  else
    let h := slice bs 64 64
    shapeRecord x.dies (byteAt h 1) (s.numNow p).code x.harts.length (fld h 16 8) (fld h 24 8) (fld h 32 8) members.length (s.rankIn members)

/-- A restore goes on once the packets it waits for have come (14:R452). -/
def Pkg.restoreStep (s : Pkg) (p : Nat) : Pkg :=
  let x := s.part p
  match x.rst with
  | none => s
  | some r =>
    if r.got.length < r.want then s
    else
      let bs := r.got.flatMap (·.2)
      if r.want = 1 && (decide (1 < ceilDiv (fld bs 40 8) 16384) && headerOk bs) then
        let k := ceilDiv (fld bs 40 8) 16384
        let total := r.regions.foldl (fun n g => n + (s.region g).packets) 0
        if total < k then s.restoreRefused p stCorrupt 0
        else
          let r := { r with want := k }
          (List.range (k - 1)).foldl (fun s i => s.restoreAsk p r (i + 1)) (s.setPart p { x with rst := some r })
      else if !(headerOk bs) then s.restoreRefused p stCorrupt 0
      else
        match streamSections bs with
        | none => s.restoreRefused p stCorrupt 0
        | some cs =>
          let list := ((cs.find? (fun c => c.1 = 5)).map (fun c => c.2.2.2)).getD []
          let members := r.given.getD ((List.range (list.length / 4)).map (fun i => fld list (4 * i) 4))
          let whole := decide (byteAt bs 5 = 1)
          if whole != (x.st == .loading) then (s.setPart p { x with rst := none }).complete p r.cmd 0x11 stBadState 0
          else
            match shapeDiff (s.targetShape p bs members) (slice bs 64 64) with
            | some f => s.restoreRefused p stShape f
            | none =>
              if byteAt bs 6 ≠ 1 then s.restoreRefused p stShape 4
              else if !whole && decide (fld bs 24 8 ≠ x.img.seed) then s.restoreRefused p stShape 13
              else (if whole then s.restoreWhole p bs cs r.given else s.restoreSave p bs cs).complete p r.cmd 0x11 stOK (fld bs 16 8)

end Sys2Proof
end

