-- ==== Sys2Proof/Machine/Host.lean ====
section
/-!
DEFINITION. The host's side of a partition: queue registers, doorbells, completions, and the commands that read, write, create,
seal and move (14:R432 to R436, 09:R271 to R277, 18:R549, R553).
-/

namespace Sys2Proof

/-- The PCIe port whose virtual function p + 1 drives the partition (18:R549). -/
def Pkg.hostPort (s : Pkg) (p : Nat) : Nat := b2n (bit (s.ent 0x1010 1) p)

/-- A PCIe port. -/
def Pkg.pci (s : Pkg) (k : Nat) : Pcie := Tab.get {} s.pcie k
def Pkg.setPci (s : Pkg) (k : Nat) (x : Pcie) : Pkg := { s with pcie := Tab.set {} s.pcie k x }

/-- Queue commands are read and run: partitions are loadable and service firmware runs (17:R511, 18:R552). -/
def Pkg.served (s : Pkg) : Bool := s.fw.loadable && s.fw.up

/-- Opcodes of R434. -/
def hostOps : List Nat := [1, 2, 3, 4, 5, 6, 7, 8, 9, 10, 11, 12, 13, 14, 0x10, 0x11, 0x12, 0x13, 0x14]

/-- The region that a command names (14:R434). -/
def cmdRegion (e : List Byte) : Option Nat := if 9 ≤ byteAt e 0 && byteAt e 0 ≤ 0x0E then some (fld e 16 2) else none

/-- A seal, unseal or destroy of a region waits for its tick (09:R273). -/
def Pkg.regionTick (s : Pkg) (p r : Nat) : Bool := (s.part p).mem.inputs.any (fun i => decide (5 ≤ i.kind) && decide (i.kind ≤ 7) && decide (i.addr = r))

/-- A command that has been read waits to take effect: a write of the die store for the clear of its S-die, a load, restore or launch
for what went before it, a command of a region for its closing, its seal or its tick (14:R426, R434, 09:R273, R274, log entry 92). -/
def Pkg.cmdWaits (s : Pkg) (p : Nat) (e : List Byte) : Bool :=
  let x := s.part p
  let r := fld e 16 2
  let mine := decide ((s.region r).part = p)
  match byteAt e 0 with
  | 0x02 => x.clearing.contains (dieOf (fld e 24 8))
  | 0x04 => !x.clearing.isEmpty || x.rst.isSome
  | 0x05 => x.rst.isSome
  | 0x11 => !x.clearing.isEmpty || x.rst.isSome
  | 0x0C => s.regionTick p r
  | 0x0D => (mine && decide ((s.region r).st = 3)) || s.regionTick p r
  | 0x0E => (mine && (s.region r).sealing.isSome) || s.regionTick p r
  | _ => false

/-- A command keeps its place behind one that waits: of the same region (14:R434), or a load, restore or launch behind a write of the
die store or a load (log entry 92). -/
def cmdBehind (q e : List Byte) : Bool :=
  ((cmdRegion q).isSome && decide (cmdRegion q = cmdRegion e))
    || ([0x02, 0x04, 0x05, 0x11].contains (byteAt q 0) && [0x04, 0x05, 0x11].contains (byteAt e 0))

/-- A command does not start: it waits itself, or keeps its place behind one of those that wait. -/
def Pkg.cmdHeld (s : Pkg) (p : Nat) (pre : List (List Byte)) (e : List Byte) : Bool := s.cmdWaits p e || pre.any (fun q => cmdBehind q e)

/-- The next command to start of those read, with those before it, which wait, and those behind it (14:R433). -/
def Pkg.nextCmd (s : Pkg) (p : Nat) : List (List Byte) → List (List Byte) → Option (List (List Byte) × List Byte × List (List Byte))
  | _, [] => none
  | pre, e :: rest => if s.cmdHeld p pre e then Pkg.nextCmd s p (pre ++ [e]) rest else some (pre, e, rest)

/-- Commands with a reserved opcode complete as they are read (14:R435). -/
def Pkg.settleQ (s : Pkg) (p : Nat) : List (List Byte) → List (List Byte) → Pkg
  | _, [] => s
  | pre, e :: rest =>
    if hostOps.contains (byteAt e 0) then (if s.cmdHeld p pre e then Pkg.settleQ s p (pre ++ [e]) rest else s)
    else Pkg.settleQ ((s.setQ p { (s.part p).q with read := pre ++ rest }).complete p (cmdId e) (byteAt e 0) stBadOperand 0) p pre rest

/-- The commands read are settled. -/
def Pkg.settled (s : Pkg) (p : Nat) : Pkg := s.settleQ p [] (s.part p).q.read

/-- Start the next command of a partition's queue, where it is of the opcode; the operation gets the commands that wait before it
(14:R433, R434). -/
def Pkg.withNext (s : Pkg) (p op : Nat) (f : Pkg → List (List Byte) → List Byte → Pkg) : Pkg :=
  match s.nextCmd p [] (s.part p).q.read with
  | none => s
  | some (pre, e, rest) =>
    if s.served && decide (byteAt e 0 = op) then
      let s := s.setQ p { (s.part p).q with read := pre ++ rest }
      let s := if 1 < byteAt e 1 || !(zeroAt e 2 2) then s.complete p (cmdId e) op stBadOperand 0 else f s pre e
      s.settled p
    else s

/-- The same where those before it do not matter. -/
def Pkg.withCmd (s : Pkg) (p op : Nat) (f : Pkg → List Byte → Pkg) : Pkg := s.withNext p op (fun s _ e => f s e)

/-- The target frame index of a command, where it names one (14:R433). -/
def cmdTarget (e : List Byte) : Option Nat := if bit (byteAt e 1) 0 then some (fld e 8 8) else none

/-- PCIE_DMA_ERROR, with its counter (18:R553, R558). -/
def Pkg.dmaError (s : Pkg) (p cause : Nat) : Pkg :=
  let k := s.hostPort p
  (s.bump (0x1011 + k) 9 1).raise 0x0914 p [k, p + 1, cause]

/-- Data of a command read from host memory: an error ends the command, a reset of the link discards its completion
(18:R553). `f` takes the bytes, all of them or those that came, and whether they are whole. -/
def Pkg.withData (s : Pkg) (p op : Nat) (e : List Byte) (n : Nat) (d : DmaRes) (f : Pkg → List Byte → Bool → Pkg) : Pkg :=
  match d with
  | .ok b => f s (padTo n b) true
  | .error c => (s.dmaError p c).complete p (cmdId e) op stBadOperand 1
  | .abandoned b => f s (b.take n) false

/-- In one of the states, or BAD_STATE (14:R434). -/
def Pkg.inState (s : Pkg) (p op : Nat) (e : List Byte) (sts : List PState) (f : Pkg → Pkg) : Pkg :=
  if sts.contains (s.part p).st then f s else s.complete p (cmdId e) op stBadState 0

/-- Fail with a status. -/
def Pkg.fail (s : Pkg) (p op : Nat) (e : List Byte) (st : Nat) : Pkg := s.complete p (cmdId e) op st 0

/-- Entries in a queue. -/
def queueSize (log : Nat) : Nat := 2 ^ log

/-- A size a queue may have (14:R432). -/
def logOk (log : Nat) : Bool := decide (4 ≤ log) && decide (log ≤ 12)

/-- CMDQ_TAIL_WRITE: the doorbell, and what the read of the entries up to it gave (14:R433, 18:R549, R553). -/
def cmdqTail (s : Pkg) (k p v : Nat) (read : DmaRes) : Pkg :=
  if s.hostPort p ≠ k then s
  else
    let q := { (s.part p).q with tail := v % 65536 }
    let n := queueSize q.cmdLog
    let s := s.setQ p q
    if !q.cmdEn || q.stopped then s
    else if n ≤ q.tail then s.setQ p { q with error := true, stopped := true }
    else if !s.served || !((s.pci k).up) || q.tail = q.head then s
    else
      let cnt := (q.tail + n - q.head) % n
      match read with
      | .ok b =>
        let es := (List.range cnt).map (fun i => padTo 64 (slice b (64 * i) 64) ++ natLe 8 q.gen)
        (s.setQ p { q with head := q.tail, read := q.read ++ es }).settled p
      | .error c => (s.setQ p { q with error := true, stopped := true }).dmaError p c
      | .abandoned _ => s

/-- CPLQ_HEAD_WRITE (14:R432). -/
def cplqHead (s : Pkg) (k p v : Nat) : Pkg :=
  if s.hostPort p ≠ k then s else s.setQ p { (s.part p).q with cplHead := v % 65536 }

/-- A queue is enabled with a size it may not have, or CMDQ_TAIL reaches the queue's size (14:R432, R433). -/
def Queue.stopOn (q : Queue) : Queue :=
  if (q.cmdEn && (!(logOk q.cmdLog) || decide (queueSize q.cmdLog ≤ q.tail))) || (q.cplEn && !(logOk q.cplLog)) then { q with error := true, stopped := true } else q

/-- QUEUE_CFG_WRITE: a write of v to the register at an offset of VF p + 1 (14:R432, R433). -/
def queueCfg (s : Pkg) (k p off v : Nat) : Pkg :=
  if s.hostPort p ≠ k then s
  else
    let q := (s.part p).q
    let en := bit v 31
    match off with
    | 0x00 => s.setQ p { q with cmdBase := v % 2 ^ 64 / 4096 * 4096 }
    | 0x08 =>
      let again := en && !q.cmdEn
      s.setQ p ({ q with cmdLog := v % 16, cmdEn := en, stopped := if again then false else q.stopped } : Queue).stopOn
    | 0x10 => s.setQ p { q with cplBase := v % 2 ^ 64 / 4096 * 4096 }
    | 0x18 =>
      let again := en && !q.cplEn
      s.setQ p ({ q with cplLog := v % 16, cplEn := en, stopped := if again then false else q.stopped } : Queue).stopOn
    | 0x2C => s.setQ p { q with error := q.error && !(bit v 3) }
    | 0x30 => s.setQ p { q with irq := bit v 0 }
    | _ => s

/-- INPUT_DB_WRITE: a doorbell is an external input of kind 2 (03:R112, 14:R436). -/
def inputDb (s : Pkg) (k p i v : Nat) : Pkg :=
  if s.hostPort p ≠ k || 8 ≤ i then s
  else
    let s := s.setQ p { (s.part p).q with doors := Tab.set 0 (s.part p).q.doors i (v % 2 ^ 64) }
    if (s.part p).st == .empty then s else s.queueInput p { kind := 2, addr := i, len := 8, data := natLe 8 v }

/-- COMPLETION_POST: the oldest completion goes to a free slot (14:R433, R453, 18:R553). A queue of n slots is full with n − 1. -/
def completionPost (s : Pkg) (p : Nat) : Pkg :=
  let q := (s.part p).q
  match q.wait with
  | [] => s
  | c :: rest =>
    let n := queueSize q.cplLog
    if !q.cplEn || !(logOk q.cplLog) || !((s.pci (s.hostPort p)).up) || (q.cplTail + 1) % n = q.cplHead % n then s
    else
      let last := q.cplTail + 1 = n
      let c := c.take 6 ++ natLe 1 (b2n q.phase) ++ c.drop 7
      (s.setQ p { q with wait := rest, cplTail := (q.cplTail + 1) % n, phase := if last then !q.phase else q.phase }).emit
        (.completion p q.cplTail c q.irq)

/-- A die-store operand: in the partition's own windows, of a length (14:R434). -/
def Pkg.dsOperand (s : Pkg) (p : Nat) (e : List Byte) (step top : Nat) : Bool :=
  let n := fld e 32 4
  decide (n % step = 0) && decide (n ≤ top) && s.ownRange p (fld e 24 8) n

/-- DSTORE_WRITE (14:R426, R434). -/
def dstoreWrite (s : Pkg) (p : Nat) (d : DmaRes) : Pkg :=
  s.withCmd p 2 fun s e =>
    s.inState p 2 e [.loading] fun s =>
      if !(s.dsOperand p e 64 0x40000000) then s.fail p 2 e stBadOperand
      else s.withData p 2 e (fld e 32 4) d (fun s b whole =>
        let s := (s.countWrite p 48 (fld e 24 8) b.length).dstorePut (fld e 24 8) b
        if whole then s.fail p 2 e stOK else s)

/-- DSTORE_READ: at once, or at a tick (14:R434, R436). -/
def dstoreRead (s : Pkg) (p : Nat) : Pkg :=
  s.withCmd p 3 fun s e =>
    s.inState p 3 e [.loading, .ready, .holding, .faulted, .running, .checkpointing] fun s =>
      let x := s.part p
      if !(s.dsOperand p e 64 0x40000000) then s.fail p 3 e stBadOperand
      else if x.st == .running || x.st == .checkpointing then
        s.queueInput p { kind := 4, target := cmdTarget e, cmd := cmdId e, op := 3, addr := fld e 24 8, host := fld e 16 8, len := fld e 32 4
                         targeted := (cmdTarget e).isSome }
      else ((s.countRead p (fld e 32 4)).hostDma p (cmdId e) (fld e 16 8) (s.dsBytes (fld e 24 8) (fld e 32 4))).complete p (cmdId e) 3 stOK x.mem.n

/-- INPUT_WRITE (03:R112, 14:R436). -/
def inputWrite (s : Pkg) (p : Nat) (d : DmaRes) : Pkg :=
  s.withCmd p 7 fun s e =>
    s.inState p 7 e [.running, .checkpointing] fun s =>
      if !(s.dsOperand p e 1 65536) then s.fail p 7 e stBadOperand
      else s.withData p 7 e (fld e 32 4) d (fun s b whole =>
        if whole then
          s.queueInput p { kind := 1, target := cmdTarget e, cmd := cmdId e, op := 7, addr := fld e 24 8, len := fld e 32 4, data := b
                           targeted := (cmdTarget e).isSome }
        else s)

/-- REGION_CREATE (09:R277, 14:R434). -/
def regionCreate (s : Pkg) (p : Nat) : Pkg :=
  s.withCmd p 8 fun s e =>
    s.inState p 8 e [.loading, .ready, .running, .holding] fun s =>
      let n := fld e 16 4
      let fmt := byteAt e 20 % 16
      let sc := bit (byteAt e 20) 4
      if 32 ≤ byteAt e 20 || 2 ≤ byteAt e 21 || n = 0 || !(fmtOk fmt) || !(scaledOk fmt sc) || 0x800000000 < n * panOf fmt sc then
        s.fail p 8 e stBadOperand
      else s.askCreate { part := p, cmd := cmdId e, packets := n, fmt := fmt, scaled := sc, pin := decide (byteAt e 21 = 1) }

/-- A region command of a frame tick: an input in running, holding and checkpointing, done at once in any other state
(09:R273). -/
def Pkg.regionCmd (s : Pkg) (p op kind : Nat) (now : Pkg → Nat → Nat → Pkg) : Pkg :=
  s.withCmd p op fun s e =>
    s.inState p op e [.loading, .ready, .running, .holding, .checkpointing, .faulted] fun s =>
      let r := fld e 16 2
      if (s.part p).tickBound then
        s.queueInput p { kind := kind, target := cmdTarget e, cmd := cmdId e, op := op, addr := r, targeted := (cmdTarget e).isSome }
      else now s (cmdId e) r

/-- REGION_PIN (09:R276, 14:R434). -/
def regionPin (s : Pkg) (p : Nat) : Pkg :=
  s.withCmd p 0x0C fun s e =>
    s.inState p 0x0C e [.loading, .ready, .running, .holding] fun s =>
      if 1 < byteAt e 18 then s.fail p 0x0C e stBadOperand else s.pinNow p (cmdId e) (fld e 16 2) (byteAt e 18)

/-- The packets a PACKET command names lie in its region (14:R434). -/
def Pkg.packetsOk (s : Pkg) (e : List Byte) : Bool := decide (fld e 20 4 + fld e 24 4 ≤ (s.region (fld e 16 2)).packets)

/-- PACKET_WRITE (09:R274, R295, 14:R434). -/
def packetWrite (s : Pkg) (p : Nat) (d : DmaRes) : Pkg :=
  s.withCmd p 0x0D fun s e =>
    s.inState p 0x0D e [.loading, .ready, .running, .holding, .checkpointing, .faulted] fun s =>
      let r := fld e 16 2
      let x := s.region r
      let k := fld e 24 4
      if !(s.regionMine p r) || x.st ≠ 1 || x.sealing.isSome || !(s.packetsOk e) then s.fail p 0x0D e stRegion
      else (s.refer r).withData p 0x0D e (k * x.P) d (fun s b whole =>
        let s := (List.range (b.length / x.P)).foldl (fun s i => s.hostPacket r (fld e 20 4 + i) (slice b (i * x.P) x.P)) s
        if whole then s.fail p 0x0D e stOK else s)

/-- PACKET_READ (09:R274, R295, 14:R434). -/
def packetRead (s : Pkg) (p : Nat) : Pkg :=
  s.withCmd p 0x0E fun s e =>
    s.inState p 0x0E e [.loading, .ready, .running, .holding, .checkpointing, .faulted] fun s =>
      let r := fld e 16 2
      let x := s.region r
      let k := fld e 24 4
      if 1024 ≤ r || x.st ≠ 2 || x.part ≠ p || !(s.packetsOk e) then s.fail p 0x0E e stRegion
      else if k = 0 then s.fail p 0x0E e stOK
      else
        let key := s.tier.next
        let h : THost := { part := p, cmd := key, left := k, addr := fld e 28 8, pan := x.P, region := r, id := cmdId e }
        let s := { s.refer r with tier := { (s.refer r).tier with next := key + 1, host := s.tier.host ++ [h] } }
        (List.range k).foldl (fun s i => s.readPacket (.host p key i) r (fld e 20 4 + i)) s

/-- TIER_PACKET_LANDED: a packet lands; a restore that has what it asked for goes on (09:R293, R295, 14:R452). -/
def packetLanded (s : Pkg) (job : Nat) : Pkg :=
  match s.job job with
  | some j => match j.use with
    | .restore p _ => (s.land job).restoreStep p
    | _ => s.land job
  | none => s

end Sys2Proof

namespace Sys2Proof.Machine

open Sys2Proof

/-- CMDQ_TAIL_WRITE (14:R433). -/
def execCmdqTailWrite (k p tail : Nat) (read : DmaRes) (s : State) : Res := onPart p s (fun x => cmdqTail x k p tail read)
/-- CPLQ_HEAD_WRITE (14:R433). -/
def execCplqHeadWrite (k p head : Nat) (s : State) : Res := onPart p s (fun x => cplqHead x k p head)
/-- QUEUE_CFG_WRITE (14:R433). -/
def execQueueCfgWrite (k p off v : Nat) (s : State) : Res := onPart p s (fun x => queueCfg x k p off v)
/-- INPUT_DB_WRITE (14:R436). -/
def execInputDbWrite (k p w v : Nat) (s : State) : Res := onPart p s (fun x => inputDb x k p w v)
/-- COMPLETION_POST (14:R433). -/
def execCompletionPost (p : Nat) (s : State) : Res := onPart p s (fun x => completionPost x p)
/-- DSTORE_WRITE (14:R434). -/
def execDstoreWrite (p : Nat) (data : DmaRes) (s : State) : Res := onPart p s (fun x => dstoreWrite x p data)
/-- DSTORE_READ (14:R434). -/
def execDstoreRead (p : Nat) (s : State) : Res := onPart p s (fun x => dstoreRead x p)
/-- INPUT_WRITE (14:R436). -/
def execInputWrite (p : Nat) (data : DmaRes) (s : State) : Res := onPart p s (fun x => inputWrite x p data)
/-- REGION_CREATE (09:R277). -/
def execRegionCreate (p : Nat) (s : State) : Res := onPart p s (fun x => regionCreate x p)
/-- REGION_SEAL (09:R273). -/
def execRegionSeal (p : Nat) (s : State) : Res := onPart p s (fun x => x.regionCmd p 9 5 (fun y c r => y.sealNow p c r))
/-- REGION_UNSEAL (09:R273). -/
def execRegionUnseal (p : Nat) (s : State) : Res := onPart p s (fun x => x.regionCmd p 0x0A 6 (fun y c r => y.unsealNow p c r))
/-- REGION_DESTROY (09:R273). -/
def execRegionDestroy (p : Nat) (s : State) : Res := onPart p s (fun x => x.regionCmd p 0x0B 7 (fun y c r => y.destroyNow p c r))
/-- REGION_PIN (14:R434). -/
def execRegionPin (p : Nat) (s : State) : Res := onPart p s (fun x => regionPin x p)
/-- PACKET_WRITE (09:R295). -/
def execPacketWrite (p : Nat) (data : DmaRes) (s : State) : Res := onPart p s (fun x => packetWrite x p data)
/-- PACKET_READ (09:R295). -/
def execPacketRead (p : Nat) (s : State) : Res := onPart p s (fun x => packetRead x p)
/-- TIER_PACKET_LANDED (09:R293). -/
def execTierPacketLanded (job : Nat) (s : State) : Res := act true s (fun k => packetLanded k job)

end Sys2Proof.Machine
end

