-- ==== Sys2Proof/Machine/Load.lean ====
section
/-!
DEFINITION. Loading and ending a partition: LOAD_BEGIN, the clear, LOAD_COMMIT with its checks, LAUNCH, RESTORE, RESUME,
ROLLBACK, UNLOAD (14:R425 to R442, R451, R452, 08:R246, 09:R266).
-/

namespace Sys2Proof

/-- Numbers of the bits that are set in a word of n bits, rising. -/
def setBits (n v : Nat) : List Nat := (List.range n).filter (fun i => bit v i)

/-- C-dies that partition.cdies names (14:R425). -/
def Pkg.namedDies (s : Pkg) (p : Nat) : List Nat := setBits 48 (s.ent (0x2000 + p) 2)

/-- Free package harts from 16 upward (14:R427). -/
def Pkg.freeHarts (s : Pkg) : List Nat := ((List.range 1520).map (· + 16)).filter (fun h => decide ((s.hart h).part = 0))

/-- The first check of LOAD_BEGIN that fails (14:R426). -/
def Pkg.beginRefusal (s : Pkg) (p : Nat) : Option Nat :=
  let dies := s.namedDies p
  let live := s.partsLive
  let share (q : Nat) : Nat := s.ent (0x2000 + q) 4
  let job := s.ent (0x2000 + p) 5
  if s.fault.noLoad || dies.any (fun d => !(s.partsOfDie d).isEmpty || s.fault.noAssign.contains d) then some 1
  else if s.freeHarts.length < s.ent (0x2000 + p) 3 then some 2
  else if 98304 < live.foldl (fun n q => n + share q) (share p) then some 3
  else if live.any (fun q => decide (s.ent (0x2000 + q) 5 = job)) then some 4
  else if dies.isEmpty then some 5
  else if job = 0 || 0xFFFFFF < job then some 6
  else none

/-- The S-dies of a list begin to clear (09:R266). -/
def Pkg.startClear (s : Pkg) (p : Nat) (dies : List Nat) (cmd : Option (Nat × Nat)) : Pkg :=
  let s := dies.foldl (fun s d => s.setSdie d { s.sdie d with clearing := true }) s
  s.setPart p { s.part p with clearing := dies, clearCmd := cmd }

/-- A partition is composed: its dies, its harts, and the clear that the command waits for (14:R426, R427). -/
def Pkg.compose (s : Pkg) (p : Nat) (cmd : Option (Nat × Nat)) : Pkg :=
  let dies := s.namedDies p
  let hs := s.freeHarts.take (s.ent (0x2000 + p) 3)
  let s := s.setPart p { s.part p with st := .loading, dies := dies, harts := hs, holdCause := 0 }
  let s := s.eachTile (tilesOf dies) (fun t => { t with part := p + 1, mode := .unloaded })
  let s := hs.foldl (fun s h => s.setHart h { s.hart h with part := p + 1, on := false }) s
  s.startClear p dies cmd

/-- LOAD_BEGIN (14:R426, R427). -/
def loadBegin (s : Pkg) (p : Nat) : Pkg :=
  s.withCmd p 1 fun s e =>
    s.inState p 1 e [.empty] fun s =>
      match s.beginRefusal p with
      | some k => s.complete p (cmdId e) 1 stResource k
      | none => s.compose p (some (cmdId e, 1))

/-- DSTORE_CLEAR_DONE: the S-die has written zero to its window; with the last of a partition's, its command completes
(09:R266, 14:R426). -/
def clearDone (s : Pkg) (die : Nat) : Pkg :=
  let x := s.sdie die
  if !x.clearing then s
  else
    let base := die * 0x80000000
    let lines := (s.cached.filter (fun (e : Nat × Nat) => decide (e.1 * 64 / 0x80000000 = die))).map (·.1)
    let s := s.setSdie die { x with clearing := false, lost := [] }
    let s := ({ s with dstore := s.dstore.clear base 0x50000000 }).invalidate lines
    (List.range partMax).foldl
      (fun s p =>
        let y := s.part p
        if !(y.clearing.contains die) then s
        else
          let s := s.setPart p { y with clearing := y.clearing.filter (· ≠ die), clearCmd := if y.clearing = [die] then none else y.clearCmd }
          match y.clearCmd with
          | some (c, op) => if y.clearing = [die] then s.complete p c op stOK 0 else s
          | none => s) s

/-- The 256-byte header of a load image, its tables read (14:R437). -/
structure LoadImg where
  h : List Byte := []
  tiles : List (List Byte) := []
  layouts : List (List Byte) := []
  members : List Nat := []
  saves : List (List Byte) := []
deriving DecidableEq, Repr, Inhabited

/-- Read an image's tables. -/
def Pkg.readImage (s : Pkg) (p a : Nat) : LoadImg :=
  let h := s.dstore.readN a 256
  let T := 128 * (s.part p).dies.length
  let rows (base n w : Nat) : List (List Byte) := (List.range n).map (fun i => s.dstore.readN (base + w * i) w)
  { h := h, tiles := rows (fld h 64 8) T 32, layouts := rows (fld h 72 8) (byteAt h 6) 32
    members := (rows (fld h 80 8) (fld h 88 4) 4).map leNat, saves := rows (fld h 104 8) (byteAt h 33) 16 }

/-- Fields of the header in range, reserved ones zero (14:R439 detail 0x02). -/
def headFieldsOk (h : List Byte) : Bool :=
  decide (1 ≤ byteAt h 6) && decide (byteAt h 6 ≤ 8) && decide (byteAt h 7 < 4) && frameLenOk (fld h 16 4) && decide (400 ≤ fld h 20 4)
    && decide (fld h 20 4 ≤ 6400) && decide (5 ≤ byteAt h 32) && decide (byteAt h 32 ≤ 40) && decide (byteAt h 33 ≤ 64) && zeroAt h 34 6
    && zeroAt h 92 4 && zeroAt h 176 80 && decide (1 ≤ fld h 88 4) && decide (fld h 88 4 ≤ 131072)

/-- Fields of the tables in range (14:R437, R438, R441). -/
def LoadImg.fieldsOk (m : LoadImg) : Bool :=
  m.tiles.all (fun t => decide (fld t 8 4 % 64 = 0) && decide (fld t 8 4 ≤ 65536) && decide (byteAt t 24 ≤ 32) && zeroAt t 25 7)
    && m.saves.all (fun v => decide (fld v 8 4 % 64 = 0) && zeroAt v 12 4) && m.members.all (fun n => decide (n < 2 ^ 17))

/-- Length of a partition's hart record areas (08:R246). -/
def Part.hartBytes (x : Part) : Nat := 34816 * x.harts.length

/-- Addresses of the image's tables, which the checks of their fields need (14:R439 detail 0x03, log entry 34). -/
def Pkg.tablesOk (s : Pkg) (p : Nat) (h : List Byte) : Bool :=
  let own (a n : Nat) : Bool := n = 0 || s.ownRange p a n
  own (fld h 64 8) (4096 * (s.part p).dies.length) && own (fld h 72 8) (32 * byteAt h 6) && own (fld h 80 8) (4 * fld h 88 4) && own (fld h 104 8) (16 * byteAt h 33)

/-- The other addresses of the header and the areas they name; the entry program counter matters to a partition with harts (14:R439
detail 0x03, log entry 34). -/
def Pkg.headAddrsOk (s : Pkg) (p : Nat) (h : List Byte) : Bool :=
  let x := s.part p
  let own (a n : Nat) : Bool := n = 0 || s.ownRange p a n
  let inWin (o n : Nat) : Bool := decide (o + n ≤ 0x50000000)
  (x.harts.isEmpty || (decide (fld h 56 8 % 2 = 0) && s.ownRange p (fld h 56 8) 2))
    && decide (fld h 40 8 % 0x40000 = 0) && inWin (fld h 40 8) 0x40000 && decide (fld h 96 8 % 0x2000 = 0) && inWin (fld h 96 8) 0x2000
    && decide (fld h 48 8 % 64 = 0) && own (fld h 48 8) x.hartBytes
    && (List.range 8).all (fun i => decide (fld h (112 + 8 * i) 8 % 8 = 0) && own (fld h (112 + 8 * i) 8) 8)
    && (!(bit (byteAt h 7) 1) || s.digestRingOk p)

/-- Addresses of the tables' entries (14:R437, R438). -/
def Pkg.tableAddrsOk (s : Pkg) (p : Nat) (m : LoadImg) : Bool :=
  let own (a n : Nat) : Bool := n = 0 || s.ownRange p a n
  m.tiles.all (fun t => own (fld t 0 8) (fld t 8 4) && own (fld t 16 8) (16 * byteAt t 24))
    && m.saves.all (fun v => own (fld v 0 8) (fld v 8 4))

/-- The record areas are apart from each other, from the coordinate records and from the save set (14:R439 detail 0x07). -/
def LoadImg.apart (m : LoadImg) (harts : Nat) : Bool :=
  let ro := fld m.h 40 8
  let co := fld m.h 96 8
  let hb := fld m.h 48 8
  let off (a : Nat) : Nat := a % 0x80000000
  let saves := m.saves.map (fun v => (fld v 0 8, fld v 8 4))
  !(overlap ro 0x40000 co 0x2000) && !(overlap (off hb) harts ro 0x40000) && !(overlap (off hb) harts co 0x2000)
    && saves.all (fun v => !(overlap (off v.1) v.2 ro 0x40000) && !(overlap hb harts v.1 v.2))

/-- An entry of an entry-load list is within the limits of YK.ELOAD (04:R153). -/
def loadEntryOk (e : List Byte) : Bool :=
  let a := fld e 0 8
  let k := fld e 8 4
  let l := fld e 12 4
  decide (a % 64 = 0) && dsOk a k && decide (64 ≤ k) && decide (k ≤ 0x80000) && decide (k % 64 = 0) && decide (l % 64 = 0) && inLocal l k

/-- Entry offsets and entry-load lists (14:R439 detail 0x08). -/
def Pkg.entriesOk (s : Pkg) (m : LoadImg) : Bool :=
  m.tiles.all (fun t =>
    decide (fld t 12 4 < fld t 8 4) && (List.range (byteAt t 24)).all (fun i => loadEntryOk (s.dstore.readN (fld t 16 8 + 16 * i) 16)))

/-- Strictly rising. -/
def rising : List Nat → Bool
  | a :: b :: rest => decide (a < b) && rising (b :: rest)
  | _ => true

/-- The detail of the first check of an image that fails (14:R439): the header's, then its tables', then the rest in order. -/
def Pkg.imageRefusal (s : Pkg) (p a : Nat) : Option Nat :=
  let h := s.dstore.readN a 256
  let x := s.part p
  if fld h 0 4 ≠ 0x494C4B59 || byteAt h 4 ≠ 1 || byteAt h 5 ≠ 1 then some 1
  else if !(headFieldsOk h) then some 2
  else if !(s.tablesOk p h) then some 3
  else
    let m := s.readImage p a
    if !m.fieldsOk || !(m.layouts.all (fun l => zeroAt l 1 3 && zeroAt l 20 12)) then some 2
    else if !(s.headAddrsOk p h) || !(s.tableAddrsOk p m) then some 3
    else if !(reserveOk (fld h 16 4 * 1000) (fld h 20 4) (fld h 24 8)) then some 4
    else if !(rising m.members) || !(m.members.contains s.node) then some 5
    else if !(m.layouts.all (fun l => layoutOk l m.members.length (128 * x.dies.length))) then some 6
    else if !(m.apart x.hartBytes) then some 7
    else if !(s.entriesOk m) then some 8
    else none

/-- The image part of the partition record (14:R437, R439, 02:R73). -/
def LoadImg.image (m : LoadImg) (num : NumCfg) : Image :=
  let h := m.h
  { layoutCount := byteAt h 6, flags := byteAt h 7, seed := fld h 8 8, fUs := fld h 16 4, w := fld h 20 4, b := fld h 24 8, cap := byteAt h 32
    recOff := fld h 40 8, hartRec := fld h 48 8, hartPc := fld h 56 8, coordOff := fld h 96 8, memberAddr := fld h 80 8
    doors := (List.range 8).map (fun i => fld h (112 + 8 * i) 8), tiles := m.tiles, layouts := m.layouts, members := m.members
    saves := m.saves.map (fun v => (fld v 0 8, fld v 8 4)), num := num }

/-- Ply record 0 of a tile, and the tile as it is loaded: its operand cache is zero (04:R152, 06:R204). -/
def Pkg.loadTile (s : Pkg) (n index : Nat) (e : List Byte) : Pkg :=
  let t := s.tile n
  let loads := (List.range (byteAt e 24)).map (fun i =>
    let r := s.dstore.readN (fld e 16 8 + 16 * i) 16
    (fld r 0 8, fld r 8 4, fld r 12 4))
  let t : Tile :=
    { part := t.part, index := index, recBase := t.recBase, dsram := t.dsram, image := fld e 0 8, imageLen := fld e 8 4, elist := loads
      core := { x := [(10, BitVec.ofNat 64 n), (11, BitVec.ofNat 64 index)] }, mx := { badCols := t.mx.badCols } }
  let s := (s.setTile n t).dstorePut (s.recAddr n 0) (t.record 0 0 (BitVec.ofNat 64 (0x100000 + fld e 12 4)) false)
  let s := s.restoreTile n
  s.setTile n { s.tile n with mode := .rampWait, frameEnd := true }

/-- Hart record 0: pc, x10 and privilege S; every other field 0 (14:R439). -/
def hartRecord0 (h pc : Nat) : List Byte :=
  padTo 1024 (natLe 8 0 ++ natLe 8 pc ++ natLe 1 1 ++ natLe 15 0 ++ natLe 72 0 ++ natLe 8 h)

/-- LOAD_COMMIT (14:R426, R439). -/
def loadCommit (s : Pkg) (p : Nat) : Pkg :=
  s.withCmd p 4 fun s e =>
    s.inState p 4 e [.loading] fun s =>
      let a := fld e 16 8
      if !(s.ownRange p a 256) then s.fail p 4 e stBadOperand
      else
        match s.imageRefusal p a with
        | some k => s.complete p (cmdId e) 4 stLoadCheck k
        | none =>
          let m := s.readImage p a
          let img := m.image (s.numNow p)
          let x := s.part p
          let s := s.setPart p (({ x with img := img, layout := 0, rank := s.rankIn m.members } : Part).settle 0)
          let s := s.bindUnits p
          let ts := tilesOf x.dies
          let s := ((List.range ts.length).zip ts).foldl (fun s t => s.loadTile t.2 t.1 (m.tiles.getD t.1 [])) s
          let s := ((List.range x.harts.length).zip x.harts).foldl (fun s h => s.dstorePut (s.hartRecAddr h.2 0) (hartRecord0 h.1 img.hartPc)) s
          (s.writeCoords p).fail p 4 e stOK

/-- Tick report −1: the armed bit and the launch hash in slot 0 (03:R85). -/
def Pkg.launchReport (s : Pkg) (p : Nat) (armed : Bool) (hash : Nat) : Pkg :=
  let i := natLe 8 (2 ^ 64 - 1)
  let flags := b2n (s.tempo.st == .holdover && s.tempo.degraded)
  s.contributeReport p 0
    (i ++ i ++ natLe 8 0 ++ natLe 1 (14 + b2n armed) ++ natLe 1 flags ++ natLe 6 0 ++ natLe 8 hash ++ natLe 8 hash ++ natLe 48 0)

/-- The launch hash of a record at a member (14:R440). -/
def Part.launchHash (x : Part) (r : List Byte) : Nat :=
  changeHash (wordsOf 8 r ++ [x.dies.length + x.img.layoutCount * 2 ^ 8 + x.img.members.length * 2 ^ 32, layoutHash x.img.layouts])

/-- The record agrees with the partition record and comes in time (03:R80, R85, 14:R440). -/
def Pkg.launchOk (s : Pkg) (p : Nat) (r : List Byte) : Bool :=
  let x := s.part p
  let synced := s.tempo.st == .locked || s.tempo.st == .holdover
  let alone := match s.tempo.role with
    | .standalone => decide (x.img.members.length = 1)
    | _ => true
  synced && alone && decide (s.tempo.now + 1000000 ≤ fld r 0 8) && decide (fld r 8 8 = x.startFrame) && decide (fld r 16 4 = x.img.fUs)
    && decide (fld r 20 4 = x.img.w) && decide (fld r 24 8 = x.img.b) && decide (byteAt r 32 = x.img.cap)
    && decide (byteAt r 33 = b2n (bit x.img.flags 0))

/-- LAUNCH (03:R80, R85, 14:R440). -/
def launch (s : Pkg) (p : Nat) (d : DmaRes) : Pkg :=
  s.withCmd p 5 fun s e =>
    s.inState p 5 e [.ready] fun s =>
      let x := s.part p
      if x.mem.state ≠ 0 then s.fail p 5 e stBadState
      else s.withData p 5 e 64 d fun s r whole =>
        if !whole then s
        else if !(zeroAt r 34 2) || !(zeroAt r 40 24) then s.fail p 5 e stBadOperand
        else if !(s.launchOk p r) then (s.launchReport p false 0).fail p 5 e stLaunchRefused
        else
          let h := x.launchHash r
          let m : Member := { x.mem with state := 1, launch := some (r, cmdId e), launchHash := h, s := fld r 0 8, m := fld r 8 8, n := fld r 8 8 }
          let s := s.setPart p { x with mem := m, ckptBase := fld r 0 8, ckptTried := false }
          (s.launchReport p true h).fail p 5 e stOK

/-- RESTORE (14:R452). -/
def restore (s : Pkg) (p : Nat) (d : DmaRes) : Pkg :=
  s.withCmd p 0x11 fun s e =>
    s.inState p 0x11 e [.loading, .ready] fun s =>
      let rs := ((List.range 4).map (fun i => fld e (16 + 2 * i) 2)).filter (· ≠ 0xFFFF)
      let k := fld e 32 4
      if rs.isEmpty || 131072 < k then s.fail p 0x11 e stBadOperand
      else if !(rs.all (fun r => decide (r < 1024) && decide ((s.region r).st = 2) && decide ((s.region r).part = p))) then s.fail p 0x11 e stRegion
      else
        let go (s : Pkg) (given : Option (List Nat)) : Pkg :=
          let r : Restore := { cmd := cmdId e, regions := rs, given := given }
          (rs.foldl Pkg.refer (s.setPart p { s.part p with rst := some r })).restoreAsk p r 0
        if k = 0 then go s none
        else s.withData p 0x11 e (4 * k) d fun s b whole =>
          let ms := (List.range k).map (fun i => fld b (4 * i) 4)
          if !whole then s
          else if ms.all (fun n => decide (n < 2 ^ 17)) then go s (some ms)
          else s.fail p 0x11 e stBadOperand

/-- RESUME: the member waits again for the tick report or the cut report, 50 ms from now (14:R430, R453). -/
def resume (s : Pkg) (p : Nat) : Pkg :=
  s.withCmd p 0x13 fun s e =>
    s.inState p 0x13 e [.holding] fun s =>
      if (s.part p).holdCause ≠ 0x0102 then s.fail p 0x13 e stBadState
      else
        match (s.part p).cap with
        | some c =>
          let x := s.part p
          (s.setPart p { x with st := .checkpointing, holdCause := 0, mem := { x.mem with state := 2 }, cap := some { c with sent := s.tempo.now } }).fail p 0x13 e stOK
        | none =>
          let s := s.leaveHold p
          let x := s.part p
          let m := x.mem
          let m : Member := { m with state := 2, awaiting := m.awaiting.map (fun a => (a.1, s.tempo.now)) }
          (s.setPart p { x with st := .running, holdCause := 0, mem := m }).fail p 0x13 e stOK

/-- Commands accepted and not yet applied complete DISCARDED (14:R435). -/
def Pkg.discardCmds (s : Pkg) (p : Nat) : Pkg :=
  let x := s.part p
  let m := x.mem
  let s := m.inputs.foldl (fun s (i : Pend) => if i.op = 0 then s else s.complete p i.cmd i.op stDiscarded 0) s
  let s := (m.pendingChanges ++ m.applying).foldl
    (fun s (c : Change) => if c.kind = 0x10 && c.origin ≠ 1 then s.complete p c.cmd (if c.origin = 2 then 0x10 else 6) stDiscarded 0 else s) s
  let s := match x.rst with
    | some r => s.complete p r.cmd 0x11 stDiscarded 0
    | none => s
  let s := match x.clearCmd with
    | some (c, op) => s.complete p c op stDiscarded 0
    | none => s
  let s := ((s.tier.creating ++ s.tier.asked).filter (fun c => c.part = p)).foldl (fun s (c : TCreate) => s.complete p c.cmd 8 stDiscarded 0) s
  let gone (j : TJob) : Bool := match j.use with
    | .restore q _ => q = p
    | _ => false
  { s with tier := { s.tier with
      creating := s.tier.creating.filter (fun c => c.part ≠ p), asked := s.tier.asked.filter (fun c => c.part ≠ p)
      jobs := s.tier.jobs.filter (fun j => !gone j) } }

/-- ROLLBACK; the commands that wait before it complete DISCARDED (14:R431, R435). -/
def rollback (s : Pkg) (p : Nat) : Pkg :=
  s.withNext p 0x12 fun s pre e =>
    s.inState p 0x12 e [.ready, .running, .holding, .checkpointing, .faulted] fun s =>
      let x := s.part p
      if x.st == .faulted && x.dies.any s.fault.noAssign.contains then s.fail p 0x12 e stResource
      else
        let s := s.setQ p { (s.part p).q with read := (s.part p).q.read.drop pre.length }
        let s := pre.foldl (fun s c => s.complete p (cmdId c) (byteAt c 0) stDiscarded 0) s
        let s := (((s.captureFailed p 1 stDiscarded).discardCmds p).countGambits p).haltPart p
        let x := s.part p
        let s := s.setPart p { st := .loading, dies := x.dies, harts := x.harts, q := x.q, yields := x.yields, lateCaps := x.lateCaps, preemptEnd := x.preemptEnd }
        s.startClear p x.dies (some (cmdId e, 0x12))

/-- A partition is given up: it stops, its regions are freed and its composition released; its queues stay (14:R431). -/
def Pkg.releasePart (s : Pkg) (p : Nat) : Pkg :=
  let s := ((s.captureFailed p 2 stDiscarded).discardCmds p).haltPart p
  let s := (s.tier.host.filter (fun h => h.part = p)).foldl (fun s (h : THost) => s.complete p h.id 0x0E stDiscarded 0) s
  let s := (s.tier.regions.filter (fun (r : Nat × TRegion) => decide (r.2.part = p))).foldl
    (fun s (r : Nat × TRegion) => match r.2.sealing with
      | some c => s.complete p c 9 stDiscarded 0
      | none => s) s
  let s := s.freeRegions p
  let x := s.part p
  let s := s.eachTile (tilesOf x.dies) (fun t => { t with part := 0, mode := .unloaded })
  let s := x.harts.foldl (fun s h => s.setHart h { s.hart h with part := 0, on := false }) s
  s.setPart p { q := x.q, yields := x.yields, lateCaps := x.lateCaps, preemptEnd := x.preemptEnd }

/-- UNLOAD; the commands behind it complete DISCARDED (14:R431, R453). -/
def unload (s : Pkg) (p : Nat) : Pkg :=
  s.withCmd p 0x14 fun s e =>
    s.inState p 0x14 e [.loading, .ready, .running, .holding, .checkpointing, .faulted] fun s =>
      let s := (s.forgetReports p).releasePart p
      let behind := (s.part p).q.read
      let s := (s.setQ p { (s.part p).q with read := [] }).fail p 0x14 e stOK
      behind.foldl (fun s c => s.complete p (cmdId c) (byteAt c 0) stDiscarded 0) s

end Sys2Proof

namespace Sys2Proof.Machine

open Sys2Proof

/-- LOAD_BEGIN (14:R426). -/
def execLoadBegin (p : Nat) (s : State) : Res := onPart p s (fun x => loadBegin x p)
/-- DSTORE_CLEAR_DONE (09:R266). -/
def execDstoreClearDone (die : Nat) (s : State) : Res := act (decide (die < dieMax)) s (fun x => clearDone x die)
/-- LOAD_COMMIT (14:R439). -/
def execLoadCommit (p : Nat) (s : State) : Res := onPart p s (fun x => loadCommit x p)
/-- LAUNCH (14:R440). -/
def execLaunch (p : Nat) (rec_ : DmaRes) (s : State) : Res := onPart p s (fun x => launch x p rec_)
/-- RESTORE (14:R452). -/
def execRestore (p : Nat) (list : DmaRes) (s : State) : Res := onPart p s (fun x => restore x p list)
/-- RESUME (14:R430). -/
def execResume (p : Nat) (s : State) : Res := onPart p s (fun x => resume x p)
/-- ROLLBACK (14:R431). -/
def execRollback (p : Nat) (s : State) : Res := onPart p s (fun x => rollback x p)
/-- UNLOAD (14:R431). -/
def execUnload (p : Nat) (s : State) : Res := onPart p s (fun x => unload x p)

end Sys2Proof.Machine
end

