-- ==== Sys2Proof/Machine/Ckpt.lean ====
section
/-!
DEFINITION. Changes and checkpoints: STAGE and PREEMPT, the cut, its end or failure, the late checkpoint, the report of a yielded
guarantee (03:R104, R105, 13:R423, 14:R445 to R449).
-/

namespace Sys2Proof

/-- STAGE; a checkpoint stop completes with its capture (03:R105, 14:R448). -/
def stageCmd (s : Pkg) (p : Nat) : Pkg :=
  s.withCmd p 6 fun s e =>
    s.inState p 6 e [.running] fun s =>
      let b := slice e 16 32
      let (st, s) := s.stage p b 0 (cmdId e) 0
      if st = stOK && byteAt b 0 = 0x10 then s else s.fail p 6 e st

/-- PREEMPT (14:R447). -/
def preempt (s : Pkg) (p : Nat) : Pkg :=
  s.withCmd p 0x10 fun s e =>
    s.inState p 0x10 e [.running] fun s =>
      let b := slice e 16 32
      if s.ent (0x2000 + p) 6 = 0 then s.fail p 0x10 e stNotPriv
      else if byteAt b 0 ≠ 0x10 then s.fail p 0x10 e stBadOperand
      else
        let (st, s) := s.stage p b 2 (cmdId e) (fld e 48 8 + 1)
        if st = stOK then s else s.fail p 0x10 e st

/-- Change the capture. -/
def Pkg.setCap (s : Pkg) (p : Nat) (c : Option Capture) : Pkg := s.setPart p { s.part p with cap := c }

/-- CUT_REPORT_CONTRIBUTE: step 4 of the cut begins once step 3 has drained (14:R448). -/
def cutContribute (s : Pkg) (p : Nat) : Pkg :=
  match (s.part p).cap with
  | some c =>
    if c.step = 1 && s.cutDrained p then
      let N := fld c.bytes 8 8
      let rec_ := natLe 8 N ++ natLe 8 N ++ natLe 8 0 ++ natLe 1 15 ++ natLe 7 0 ++ natLe 64 0
      let s := s.setCap p (some { c with step := 2, sent := s.tempo.now })
      let m := (s.part p).mem
      (s.setMem p { m with combined := none }).enterReport p true rec_
    else s
  | none => s

/-- CUT_REPORT: the combined report for a stop at frame n is there and no recovery holds the capture; the stream goes to the named regions
(14:R448 steps 4 and 5). -/
def cutReport (s : Pkg) (p n : Nat) : Pkg :=
  match (s.part p).cap with
  | some c =>
    if c.step = 2 && decide (fld c.bytes 8 8 = n) && (s.part p).st == .checkpointing && (s.part p).mem.combined.isSome && !(s.recoveryHolds p) then
      let s := s.setMem p { (s.part p).mem with combined := none }
      let bytes := s.stream p (byteAt c.bytes 16) (fld c.bytes 20 4) (fld c.bytes 8 8) c.dataPos
      (s.writeStream bytes (stopRegions c.bytes)).setCap p (some { c with step := 3, stream := bytes })
    else s
  | none => s

/-- Requests held at their F-die through the capture are received now; their credits are owed already (14:R448). -/
def Pkg.freeHeld (s : Pkg) (p : Nat) : Pkg :=
  let job := s.ent (0x2000 + p) 5
  let (mine, rest) := s.net.held.partition (fun h => decide (jobOf h.2 = job))
  let s := { s with net := { s.net with held := rest } }
  mine.foldr
    (fun h s => let x := s.port h.1
      s.setPort h.1 { x with rx := { vc := 8, packet := h.2, at_ := s.tempo.fine } :: x.rx }) s

/-- The capture has ended: the member holds, with the event that is its cause (14:R429, R448). -/
def Pkg.holdAfter (s : Pkg) (p code : Nat) : Pkg :=
  let x := s.part p
  s.setPart p { x with st := .holding, holdCause := code, mem := { x.mem with state := 3 } }

/-- CHECKPOINT_DONE: the stream is in the bricks (14:R448 steps 5 and 6, R449). -/
def checkpointDone (s : Pkg) (p : Nat) : Pkg :=
  match (s.part p).cap with
  | none => s
  | some c =>
    let rs := stopRegions c.bytes
    if c.step ≠ 3 || !(rs.all s.writesDone) then s
    else
      let now := s.tempo.now
      let id := fld c.bytes 20 4
      let N := fld c.bytes 8 8
      let len := c.stream.length
      let ns := now - c.since
      let s := rs.foldl (fun s r => s.setRegion r { s.region r with st := 2, last := now }) s
      let s := (((s.endCapture p c).raise 0x0801 p [id, N, len, ns]).bump (0x8000 + p) 0x0A 1).setEnt (0x8000 + p) 0x0B N
      let s := (s.setEnt (0x8000 + p) 0x0C len).setEnt (0x8000 + p) 0x0D ns
      let s := if c.origin = 1 then s else s.complete p c.cmd (if c.origin = 2 then 0x10 else 6) stOK N
      let s := s.setPart p { s.part p with ckptBase := c.since, ckptTried := false }
      let s := (s.freeHeld p).endYields p 4
      if byteAt c.bytes 17 = 1 then s.holdAfter p 0x0801
      else
        let s := s.leaveHold p
        let x := s.part p
        s.setPart p { x with st := .running, mem := { x.mem with cutEnd := now + 1 } }

/-- CAPTURE_LIMIT_TIMEOUT (14:R448). The status of the stop's own command is a free value (log entry 5). -/
def captureLimit (s : Pkg) (p : Nat) : Pkg :=
  match (s.part p).cap with
  | none => s
  | some c =>
    if s.tempo.now ≤ c.begun + s.ent (0x8000 + p) 9 * 1000000 then s
    else
      let (v, s) := s.draw
      ((s.captureFailed p 0 (v % 65536)).freeHeld p).holdAfter p 0x0803

/-- A capture 1 s past its deadline by a recovery: its episode is told at that mark (13:R423). -/
def Pkg.lateMark (s : Pkg) (p : Nat) : Pkg :=
  let x := s.part p
  match x.cap, s.recoverySince p x.mem.start with
  | some c, k + 1 =>
    if c.deadline ≠ 0 && !c.yielded && decide (c.deadline + 999999999 ≤ s.tempo.now) then
      (s.setPart p { x with cap := some { c with yielded := true } }).addYield p { prevails := 3, level := 4, cause := 2 ^ 32 + k, start := c.deadline - 1 }
    else s
  | _, _ => s

/-- CHECKPOINT_LATE: the capture of a pre-emption checkpoint has ended after its deadline (14:R447, R456); where a recovery is the
cause, level 4 yielded to level 3 (13:R422, R423). -/
def checkpointLate (s : Pkg) (p : Nat) : Pkg :=
  let x := s.part p
  match x.lateCaps with
  | [] => s.lateMark p
  | l :: rest =>
    let s := (s.setPart p { x with lateCaps := rest }).raise 0x0804 p [l.id, l.deadline, l.ended]
    match l.recovery with
    | 0 => s
    | k + 1 => s.addYield p { prevails := 3, level := 4, cause := 2 ^ 32 + k, start := l.deadline, stop := some l.ended }

/-- GUARANTEE_YIELDED: at the end of the first episode not told, or 1 s into it (13:R423). -/
def guaranteeYielded (s : Pkg) (p : Nat) : Pkg :=
  let x := s.part p
  let now := s.tempo.now
  let due (y : Yield) : Bool := !y.told && (y.stop.isSome || decide (y.start + 1000000000 ≤ now))
  match x.yields.find? due with
  | none => s
  | some y =>
    let len := (y.stop.getD now) - y.start
    let rest := (mapIf (fun z => decide (z = y)) (fun (z : Yield) => { z with told := true }) x.yields).filter (fun z => !(z.told && z.stop.isSome))
    ((s.setPart p { x with yields := rest }).raise 0x0204 p [y.level, y.prevails, y.cause, y.start, len]).bump 0x3003 y.level 1

end Sys2Proof

namespace Sys2Proof.Machine

open Sys2Proof

/-- STAGE (03:R105). -/
def execStage (p : Nat) (s : State) : Res := onPart p s (fun x => stageCmd x p)
/-- PREEMPT (14:R447). -/
def execPreempt (p : Nat) (s : State) : Res := onPart p s (fun x => preempt x p)
/-- CUT_REPORT_CONTRIBUTE (14:R448). -/
def execCutReportContribute (p : Nat) (s : State) : Res := onPart p s (fun x => cutContribute x p)
/-- CUT_REPORT (14:R448). -/
def execCutReport (p n : Nat) (s : State) : Res := onPart p s (fun x => cutReport x p n)
/-- CHECKPOINT_DONE (14:R448). -/
def execCheckpointDone (p : Nat) (s : State) : Res := onPart p s (fun x => checkpointDone x p)
/-- CAPTURE_LIMIT_TIMEOUT (14:R448). -/
def execCaptureLimitTimeout (p : Nat) (s : State) : Res := onPart p s (fun x => captureLimit x p)
/-- CHECKPOINT_LATE (14:R447). -/
def execCheckpointLate (p : Nat) (s : State) : Res := onPart p s (fun x => checkpointLate x p)
/-- GUARANTEE_YIELDED (13:R423). -/
def execGuaranteeYielded (p : Nat) (s : State) : Res := onPart p s (fun x => guaranteeYielded x p)

end Sys2Proof.Machine
end

