-- ==== Sys2Proof/Machine/Lenpel.lean ====
section
/-!
DEFINITION. Lenpel ports: states, training, discovery, frames received, loss, return and rebuild (10:R305 to R325), and
the forming of stripe groups (09:R267).
-/

namespace Sys2Proof

/-- The port enters a state. -/
def Pkg.lenter (s : Pkg) (q : Nat) (st : LPState) : Pkg := s.setLport q { s.lport q with st := st, since := s.tempo.local_ }

/-- lenpel.enable. -/
def Pkg.lenOn (s : Pkg) (q : Nat) : Bool := decide (s.ent (0x4200 + q) 2 = 1)

/-- Positions of a group that are missing or being rebuilt. -/
def TGroup.weak (x : TGroup) : List Nat := (List.range 12).filter (fun j => bit x.missing j || bit x.rebuilding j)

/-- A job learns a cause. -/
def Pkg.jobCause (s : Pkg) (id c : Nat) : Pkg := match s.job id with
  | some j => s.setJob { j with cause := mergeCause j.cause c }
  | none => s

/-- A formed group loses the brick of a port (09:R298, 13:R404, R415). -/
def Pkg.brickGone (s : Pkg) (q bound : Nat) : Pkg :=
  let g := grpOf q
  let x := s.group g
  let j := posOf q
  if !x.formed || bit x.missing j then s
  else
    let x := { x with missing := x.missing ||| 2 ^ j, rebuilding := if bit x.rebuilding j then x.rebuilding - 2 ^ j else x.rebuilding
                      built := Tab.erase x.built j }
    let s := (s.setGroup g x).openGroup 10 g
    let s := s.dropRebuild q
    let w := x.weak
    let r : CRec := CRec.byDelay { cls := 10, unit := q, detected := s.tempo.now, bound := bound, spares := 2 - w.length, parts := maskOf (s.partsOfGroup g) }
    if w.length = 1 then s.castlingRecord r
    else if w.length = 2 then
      let s := s.raise 0x0303 0xFF (g :: w.map (portOf g))
      (s.castlingRecord r).sparesLow 10 q 0
    else s.tierLost g q

/-- A read is lost: its slot is read by rebuild (10:R320). -/
def Pkg.loseRead (s : Pkg) (q : Nat) (c : LCmd) : Pkg :=
  let s := s.bump (0x4200 + q) 0x0F 1
  match s.job c.job with
  | none => s
  | some j => (s.setJob { j with lost := j.lost ++ [c.pos], want := j.want.filter (· ≠ c.pos) }).jobStep c.job

/-- A port leaves ACTIVE, or its retrain escalates: the brick is stale, its reads are lost and its writes dropped (10:R313,
R322, R325). `quiet` raises no LENPEL_PORT_DOWN. -/
def Pkg.portGone (s : Pkg) (q : Nat) (dst : LPState) (cause bound : Nat) (quiet : Bool := false) : Pkg :=
  let x := s.lport q
  let live := x.st == .active || x.st == .retrain
  let all := x.cmds ++ x.queue.map (·.1)
  let s := s.setLport q { x with st := dst, since := s.tempo.local_, cmds := [], queue := [], unacked := [], lostAt := [], naks := []
                                 nakSent := false, nonIdle := 0, stale := x.stale || live }
  let s := if dst == .down then s.setRst q false else s
  if !live then s
  else
    let s := if quiet then s else s.raise 0x0307 0xFF [q, x.st.code, cause]
    let s := s.brickGone q bound
    let s := (all.filter (fun c => c.ftype ≠ 3 && !c.dead)).foldl (fun s c => s.loseRead q c) s
    (all.filter (fun c => c.ftype = 3)).foldl (fun s c => s.writeDone c.job) s

/-- Groups form once every port is ACTIVE, FAILED or DOWN (09:R267, 10:R314). -/
def Pkg.formGroups (s : Pkg) : Pkg :=
  let settled (q : Nat) : Bool := match (s.lport q).st with
    | .active | .failed | .down => true
    | _ => false
  if !s.tier.forming || !((List.range lportMax).all settled) then s
  else
    let s := { s with tier := { s.tier with forming := false } }
    (List.range 4).foldl
      (fun s g =>
        let up := (List.range 12).filter (fun j => (s.lport (portOf g j)).st == .active)
        let caps := up.map (fun j => fld ((s.lport (portOf g j)).disc.getD []) 4 4)
        let miss := (List.range 12).filter (fun j => !(up.contains j))
        if 2 < miss.length then s
        else
          let s := s.setGroup g { formed := true, missing := maskOf miss, gib := caps.foldl min 512 }
          let s := if miss.isEmpty then s else s.openGroup 10 g
          if miss.length = 2 then s.raise 0x0303 0xFF (g :: miss.map (portOf g)) else s)
      s

/-- A port becomes ACTIVE: PORT_RECORD goes out, and the brick is current or new (10:R309, R314, R315, R322, R323). -/
def Pkg.portUp (s : Pkg) (q : Nat) (d : List Byte) (current : Bool) : Pkg :=
  let g := grpOf q
  let j := posOf q
  let record := padTo 64 (natLe 1 1 ++ natLe 1 q ++ natLe 1 g ++ natLe 1 j ++ natLe 4 s.node ++ natLe 4 s.fw.boots)
  let x := s.lport q
  let held := if current then x.unacked else []
  let s := s.setLport q { x with st := .active, since := s.tempo.local_, disc := some d, stale := false, was := true, tx := 0, rx := 0
                                 unacked := [], nakSent := false, naks := [], nonIdle := 0
                                 cmds := x.cmds.map (fun (c : LCmd) => { c with sentAt := s.tempo.local_ }) }
  let s := s.lemit q { ftype := 8, units := 1 } record
  let s := s.raise 0x0308 0xFF [q, fld d 8 8, b2n (!current)]
  let s := held.foldl (fun s f => s.lseq q f) s
  let s := s.lpump q (x.queue.length + 1)
  let grp := s.group g
  if current || !grp.formed then s
  else
    let s := s.setGroup g { grp with missing := if bit grp.missing j then grp.missing - 2 ^ j else grp.missing
                                     rebuilding := grp.rebuilding ||| 2 ^ j, built := Tab.erase grp.built j }
    s.rebuildNext q

/-- Why a brick is refused; 0 accepted (10:R316). -/
def Pkg.refuses (s : Pkg) (q : Nat) (d : List Byte) : Nat :=
  let cap := fld d 4 4
  let lat := fld d 20 4
  let mc := fld d 24 2
  let g := s.group (grpOf q)
  if byteAt d 0 ≠ 1 then 1
  else if cap ≠ 256 && cap ≠ 512 then 2
  else if lat < 100 || 10000 < lat || mc < 64 || 4096 < mc || fld d 26 2 < 256 || fld d 28 4 < 2048 then 3
  else if fld d 32 2 ≠ 1 || byteAt d 1 ≠ 0 || !(zeroAt d 34 30) || !(zeroAt d 96 160) then 4
  else if g.formed && decide (cap < g.gib) then 5
  else 0

/-- Presence is asserted; a port waits for its start-up step (10:R313, 17:R522). -/
def presenceAssert (s : Pkg) (q : Nat) : Pkg :=
  let x := s.lport q
  let s := s.setLport q { x with present := true }
  if x.st == .down && s.lenOn q && s.fw.epochSet then (s.lenter q .detect).setRst q false else s

/-- Presence has been steady for 10 ms: reset is released (10:R313, R326: class and tx_eq take effect). -/
def detectTimer (s : Pkg) (q : Nat) : Pkg :=
  let x := s.lport q
  if x.st == .detect && decide (x.since + 10000000 ≤ s.tempo.local_) then
    let s := s.setLport q { x with st := .train, since := s.tempo.local_, cls := s.ent (0x4200 + q) 3, txEq := s.ent (0x4200 + q) 4 }
    s.setRst q true
  else s

/-- Every lane adapted and locked (10:R313). -/
def trainDone (s : Pkg) (q : Nat) : Pkg := if (s.lport q).st == .train then s.lenter q .align else s

/-- A state has lasted longer than it may: FAILED (10:R313). -/
def stateTimeout (s : Pkg) (q : Nat) (st : LPState) (ns : Nat) : Pkg :=
  let x := s.lport q
  if x.st == st && decide (x.since + ns ≤ s.tempo.local_) then (s.lenter q .failed).formGroups else s

/-- Lanes deskewed and the round trip measured; in RETRAIN the port goes on to compare the brick (10:R313, R314). -/
def alignDone (s : Pkg) (q rtt : Nat) : Pkg :=
  let x := s.lport q
  match x.st with
  | .align => s.setLport q { x with st := .discover, since := s.tempo.local_, rtt := rtt, line := [] }
  | .retrain => s.setLport q { x with rtt := rtt, aligned := true, line := [] }
  | _ => s

/-- A retrain fails: the port trains anew and its brick is stale (10:R313, R325). -/
def Pkg.retrainFails (s : Pkg) (q cause : Nat) (quiet : Bool) : Pkg :=
  let s := s.portGone q .train cause 2000 quiet
  s.setLport q { s.lport q with cls := s.ent (0x4200 + q) 3, txEq := s.ent (0x4200 + q) 4 }

/-- A retrain has lasted 2 ms (10:R313, R325). -/
def Pkg.retrainTimeout (s : Pkg) (q : Nat) : Pkg :=
  let x := s.lport q
  if x.st == .retrain && decide (x.since + 2000000 ≤ s.tempo.local_) then s.retrainFails q 2 false else s

/-- A retrain begins: reads in flight are lost, their tags taken until the brick answers them or the port leaves for another state;
writes are held (10:R311, R319, R322, log entry 72). `trigger`: 0 retries, 1 NAK rate. -/
def Pkg.lretrain (s : Pkg) (q trigger : Nat) : Pkg :=
  let x := s.lport q
  let reads := (x.cmds ++ x.queue.map (·.1)).filter (fun c => c.ftype ≠ 3 && !c.dead)
  let s := s.setLport q { x with st := .retrain, since := s.tempo.local_, aligned := false
                                 cmds := x.cmds.map (fun (c : LCmd) => { c with dead := c.dead || decide (c.ftype ≠ 3) })
                                 queue := x.queue.filter (fun e => e.1.ftype = 3)
                                 unacked := (x.unacked.filter (fun f => f.ftype = 3)).map (fun (f : LFrame) => { f with resends := 0 })
                                 nakSent := false, naks := [] }
  let s := (s.bump (0x4200 + q) 0x0E 1).raise 0x0309 0xFF [q, trigger]
  reads.foldl (fun s c => s.loseRead q c) s

/-- NAKs within 1 ms exceed 1,000 (10:R311). -/
def Pkg.nakRate (s : Pkg) (q : Nat) : Pkg := if (s.lport q).st == .active && decide (1000 < (s.lport q).naks.length) then s.lretrain q 1 else s

/-- Discard a frame and send one NAK for it (10:R310). Reads outstanding then need a link retry (09:R297). -/
def Pkg.lbad (s : Pkg) (q : Nat) : Pkg :=
  let x := s.lport q
  if x.nakSent then s
  else
    let s := s.setLport q { x with nakSent := true, cmds := x.cmds.map (fun (c : LCmd) => { c with retried := c.retried || decide (c.ftype ≠ 3) }) }
    ((s.lemit q { ftype := 6 } []).lnakNote q).nakRate q

/-- The frame that came on the fourteen inbound lanes: its header says how long it is (10:R304, R305). -/
def LRecv.frame (r : LRecv) : List Byte :=
  if r.words.isEmpty then r.bytes else r.stream 14 (16 + 64 * (lhdr (r.stream 14 16)).units)

/-- Count the codewords that were corrected (10:R325, log entry 71). -/
def Pkg.fecNote (s : Pkg) (q : Nat) (words : List (List Nat)) : Pkg :=
  s.bump (0x4200 + q) 0x0B ((words.filter (fun w => match rsDecode w with
    | some r => decide (r.2 ≠ 0)
    | none => false)).length)

/-- Count the codewords that could not be corrected, one at least for a frame that fails its CRC (10:R325). -/
def Pkg.fecFail (s : Pkg) (q : Nat) (words : List (List Nat)) : Pkg :=
  (s.fecNote q words).bump (0x4200 + q) 0x0C (max 1 (words.filter (fun w => (rsDecode w).isNone)).length)

/-- A DISCOVERY frame: a known brick back from RETRAIN, aligned, is current, and another one sends the port to TRAIN; in DISCOVER it is
checked and accepted as new, or refused (10:R310, R313, R315, R316, R322, R323, R325). -/
def discovery (s : Pkg) (q : Nat) (f : List Byte) (words : List (List Nat)) : Pkg :=
  let x := s.lport q
  let d := slice f 16 256
  let good := lframeOk f && decide ((lhdr f).ftype = 7) && decide ((lhdr f).units = 4)
  let admitFrame (s : Pkg) : Pkg :=
    let c := s.refuses q d
    if c = 0 then (s.portUp q d false).formGroups else ((s.lenter q .failed).raise 0x030A 0xFF [q, c]).formGroups
  if !(x.st == .discover || x.st == .retrain) then s
  else if !(lframeOk f) || wordsLost words then (s.fecFail q words).lbad q
  else
    let s := s.fecNote q words
    if !good then s
    else if x.st == .discover then admitFrame s
    else
      let old := x.disc.getD []
      if x.since + 2000000 ≤ s.tempo.local_ then s.retrainTimeout q
      else if !(fld d 8 8 = fld old 8 8 && fld d 16 4 = fld old 16 4) then s.retrainFails q 7 true
      else if x.aligned then s.portUp q d true
      else s

/-- A frame on an ACTIVE port, with the codewords that came with it: `k` acts on a good one of type `ty`, in its place if it is sequenced,
the brick is told of it, and what its acknowledgement made room for goes (10:R302, R305, R309, R310). -/
def Pkg.lrecv (s0 : Pkg) (q : Nat) (f : List Byte) (words : List (List Nat)) (ty : Nat) (k : Pkg → LHdr → Pkg) : Pkg :=
  if (s0.lport q).st != .active then s0
  else if !(lframeOk f) || wordsLost words then (s0.fecFail q words).lbad q
  else
    let s := s0.fecNote q words
    let h := lhdr f
    if h.ftype ≠ ty then s
    else
      let x := (s.lport q).acked h.ack
      if ty = 4 || ty = 5 then
        if h.seq ≠ x.rx then (s.setLport q x).lbad q
        else (k ((s.setLport q { x with rx := (x.rx + 1) % 1024, nakSent := false }).lpump q (x.queue.length + 1)) h).lreport q
      else (k (s.setLport q x) h).lpump q (x.queue.length + 1)

/-- Three lost reads on one port within 1 ms fail it (10:R320). -/
def Pkg.noteLost (s : Pkg) (q : Nat) : Pkg :=
  let x := s.lport q
  let now := s.tempo.local_
  let ts := now :: x.lostAt.filter (fun t => decide (now < t + 1000000))
  let s := s.setLport q { x with lostAt := ts }
  if 3 ≤ ts.length && x.st == .active then (s.portGone q .failed 3 (2 * x.rtt + 4 * x.latency)).formGroups else s

/-- A slot came whole: a data slot is checked against its header (09:R290). -/
def Pkg.slotCame (s : Pkg) (c : LCmd) (bytes : List Byte) : Pkg :=
  match s.job c.job with
  | none => s
  | some j =>
    let r := s.region j.region
    let st := if c.pos < 10 then cutSlot bytes else bytes.take r.sig
    let s := s.jobCause c.job (if c.retried then 2 else 0)
    let j := (s.job c.job).getD j
    if decide (10 ≤ c.pos) || packetOk st j.region (j.stripe * 10 + c.pos) j.gen then
      (s.setJob { j with got := Tab.insert j.got c.pos st, want := j.want.filter (· ≠ c.pos) }).jobStep c.job
    else
      ((s.setJob { j with bad := j.bad ++ [c.pos], lost := j.lost ++ [c.pos], want := j.want.filter (· ≠ c.pos) }).bump 0x4100 8 1).jobStep c.job

/-- A READ_DATA frame (10:R307, R317, R318, R320). -/
def readData (s : Pkg) (q : Nat) (f : List Byte) (words : List (List Nat)) : Pkg :=
  s.lrecv q f words 4 fun s h =>
    let x := s.lport q
    match x.cmds.find? (fun c => decide (c.tag = h.tag) && decide (c.ftype ≠ 3)) with
    | none => s
    | some c =>
      let late := decide (c.idx = 0) && decide (c.sentAt + x.rtt + x.latency < s.tempo.local_)
      let s := if late then (s.bump (0x4200 + q) 0x10 1).jobCause c.job 3 else s
      let data := slice f 16 (64 * h.units)
      let c := { c with got := c.got ++ data, idx := c.idx + 1 }
      if !h.last then
        s.setLport q { x with cmds := mapIf (fun (k : LCmd) => k.tag = c.tag) (fun _ => c) x.cmds }
      else
        let s := (s.setLport q { x with cmds := x.cmds.filter (fun k => k.tag ≠ c.tag) }).lpump q (x.queue.length + 1)
        if c.dead then s
        else if h.status = 0 && decide (c.got.length = 64 * h.len) then s.slotCame c c.got
        else (s.loseRead q c).noteLost q

/-- A WRITE_ACK frame: its tag is free and the write is done (10:R319). -/
def writeAck (s : Pkg) (q : Nat) (f : List Byte) (words : List (List Nat)) : Pkg :=
  s.lrecv q f words 5 fun s h =>
    let x := s.lport q
    match x.cmds.find? (fun c => decide (c.tag = h.tag) && decide (c.ftype = 3)) with
    | none => s
    | some c => ((s.setLport q { x with cmds := x.cmds.filter (fun k => k.tag ≠ c.tag) }).writeDone c.job).lpump q (x.queue.length + 1)

/-- A NAK: every frame after its ack is resent, or the port retrains (10:R310, R311). -/
def lenpelNak (s : Pkg) (q : Nat) (f : List Byte) (words : List (List Nat)) : Pkg :=
  s.lrecv q f words 6 fun s _ =>
    let s := s.lnakNote q
    let x := s.lport q
    if 1000 < x.naks.length then s.lretrain q 1
    else if x.unacked.any (fun f => decide (8 ≤ f.resends)) then s.lretrain q 0
    else
      let us := x.unacked.map (fun (f : LFrame) => { f with resends := f.resends + 1 })
      let s := s.setLport q { x with unacked := us, cmds := x.cmds.map (fun (c : LCmd) =>
        { c with retried := c.retried || us.any (fun f => decide (f.tag = c.tag) && decide (f.ftype ≠ 3)) }) }
      us.foldl (fun s f => s.lput q f) s

/-- An IDLE carries an acknowledgement (10:R308, R309). -/
def lenpelIdle (s : Pkg) (q : Nat) (f : List Byte) (words : List (List Nat)) : Pkg := s.lrecv q f words 0 fun s _ => s

/-- Presence is lost (10:R313, R325). -/
def presenceLost (s : Pkg) (q : Nat) : Pkg :=
  let s := if (s.lport q).st == .down then s else s.portGone q .down 1 2000
  (s.setLport q { s.lport q with present := false }).formGroups

/-- A read's final frame has not come within its limit: it is lost, and its tag is taken until that frame comes (10:R319, R320). -/
def readLost (s : Pkg) (q tag : Nat) : Pkg :=
  let x := s.lport q
  match x.cmds.find? (fun c => decide (c.tag = tag) && decide (c.ftype ≠ 3) && !c.dead) with
  | none => s
  | some c =>
    if x.st == .active && decide (c.sentAt + 2 * x.rtt + 4 * x.latency < s.tempo.local_) then
      let s := s.setLport q { x with cmds := mapIf (fun (k : LCmd) => k.tag = tag) (fun k => { k with dead := true }) x.cmds }
      (s.loseRead q c).noteLost q
    else s

/-- A write has not been acknowledged for 100 µs: the port fails (10:R320). -/
def writeAckTimeout (s : Pkg) (q tag : Nat) : Pkg :=
  let x := s.lport q
  match x.cmds.find? (fun c => decide (c.tag = tag) && decide (c.ftype = 3)) with
  | none => s
  | some c => if x.st == .active && decide (c.sentAt + 100000 ≤ s.tempo.local_) then (s.portGone q .failed 4 100000).formGroups else s

/-- The write of lenpel.enable is refused: FALSE while the group has a brick missing or rebuilding. Of a group not formed, the brick of an
absent or failed port is missing, and once forming is over that of every port that is not ACTIVE (10:R313, R324). -/
def Pkg.enableRefused (s : Pkg) (q v : Nat) : Bool :=
  let g := s.group (grpOf q)
  v = 0 && (if g.formed then !g.weak.isEmpty
    else (List.range 12).any fun j =>
      let st := (s.lport (portOf (grpOf q) j)).st
      st == .failed || st == .down || (!s.tier.forming && st != .active))

/-- A write of lenpel.enable takes effect (10:R313, R324). -/
def Pkg.lenpelEnable (s : Pkg) (q v : Nat) : Pkg :=
  if s.enableRefused q v then s
  else
    let s := s.setEnt (0x4200 + q) 2 v
    let x := s.lport q
    if v = 0 then
      let s := if x.st == .down then s else s.portGone q .down 5 2000
      (s.setLport q { s.lport q with stale := true }).formGroups
    else if x.st == .down && x.present then (s.lenter q .detect).setRst q false
    else s

/-- A rebuild onto a brick is complete (10:R323, R327, 13:R404). -/
def rebuildDone (s : Pkg) (q : Nat) : Pkg :=
  let g := grpOf q
  let j := posOf q
  let x := s.group g
  if bit x.rebuilding j && (s.nextBuild q).isNone && !(s.tier.jobs.any (fun (k : TJob) => k.use == TierUse.rebuild q)) then
    let n := (Tab.get [] x.built j).length
    let x := { x with rebuilding := x.rebuilding - 2 ^ j, built := Tab.erase x.built j }
    let s := (s.setGroup g x).raise 0x030B 0xFF [q, g, n]
    if x.weak.isEmpty then s.repairGroup 10 g else s
  else s

end Sys2Proof

namespace Sys2Proof.Machine

open Sys2Proof

/-- A command of a Lenpel port. -/
def onLport (q : Nat) (s : State) (f : Pkg → Pkg) : Res := act (decide (q < lportMax)) s f

/-- LENPEL_REBUILD_DONE (10:R323). -/
def execLenpelRebuildDone (q : Nat) (s : State) : Res := onLport q s (fun k => rebuildDone k q)
/-- The presence pin of a port changes; a package that is off samples the pin alone. -/
def onPresence (q : Nat) (here : Bool) (s : State) (f : Pkg → Pkg) : Res :=
  actAny (decide (q < lportMax)) s (fun k => if k.fw.off = 0 then f k else k.setLport q { k.lport q with present := here })

/-- LENPEL_PRESENCE_ASSERT (10:R313). -/
def execLenpelPresenceAssert (q : Nat) (s : State) : Res := onPresence q true s (fun k => presenceAssert k q)
/-- LENPEL_DETECT_TIMER (10:R313). -/
def execLenpelDetectTimer (q : Nat) (s : State) : Res := onLport q s (fun k => detectTimer k q)
/-- LENPEL_TRAIN_DONE (10:R313). -/
def execLenpelTrainDone (q : Nat) (s : State) : Res := onLport q s (fun k => trainDone k q)
/-- LENPEL_TRAIN_TIMEOUT: 500 ms (10:R313). -/
def execLenpelTrainTimeout (q : Nat) (s : State) : Res := onLport q s (fun k => stateTimeout k q .train 500000000)
/-- LENPEL_ALIGN_DONE (10:R313, R314). -/
def execLenpelAlignDone (q rtt : Nat) (s : State) : Res := onLport q s (fun k => alignDone k q rtt)
/-- LENPEL_ALIGN_TIMEOUT: 1 ms (10:R313). -/
def execLenpelAlignTimeout (q : Nat) (s : State) : Res := onLport q s (fun k => stateTimeout k q .align 1000000)
/-- DISCOVERY (10:R315, R316). -/
def execDiscovery (q : Nat) (f : LRecv) (s : State) : Res := onLport q s (fun k => discovery k q f.frame f.words)
/-- READ_DATA (10:R318). -/
def execReadData (q : Nat) (f : LRecv) (s : State) : Res := onLport q s (fun k => readData k q f.frame f.words)
/-- WRITE_ACK (10:R319). -/
def execWriteAck (q : Nat) (f : LRecv) (s : State) : Res := onLport q s (fun k => writeAck k q f.frame f.words)
/-- LENPEL_NAK (10:R310). -/
def execLenpelNak (q : Nat) (f : LRecv) (s : State) : Res := onLport q s (fun k => lenpelNak k q f.frame f.words)
/-- LENPEL_IDLE (10:R308). -/
def execLenpelIdle (q : Nat) (f : LRecv) (s : State) : Res := onLport q s (fun k => lenpelIdle k q f.frame f.words)
/-- LENPEL_RETRAIN_TIMEOUT (10:R313). -/
def execLenpelRetrainTimeout (q : Nat) (s : State) : Res := onLport q s (fun k => k.retrainTimeout q)
/-- LENPEL_PRESENCE_LOST (10:R313). -/
def execLenpelPresenceLost (q : Nat) (s : State) : Res := onPresence q false s (fun k => presenceLost k q)
/-- LENPEL_READ_LOST (10:R320). -/
def execLenpelReadLost (q tag : Nat) (s : State) : Res := onLport q s (fun k => readLost k q tag)
/-- LENPEL_WRITE_ACK_TIMEOUT (10:R320). -/
def execLenpelWriteAckTimeout (q tag : Nat) (s : State) : Res := onLport q s (fun k => writeAckTimeout k q tag)

end Sys2Proof.Machine
end

