-- ==== Sys2Proof/Machine/PowOps.lean ====
section
/-!
DEFINITION. What power and heat make of a tile's clock: ceilings, the package target, and the clock a tile should have (15:R461, R463,
R468, R469).
-/

namespace Sys2Proof

/-- Reasons of 15:R471. -/
def rCap : Nat := 1
def rCurrent : Nat := 2
def rThermal : Nat := 3
def rDroop : Nat := 4
def rSupply : Nat := 5

/-- Change the power state. -/
def Pkg.onPow (s : Pkg) (f : Power → Power) : Pkg := { s with pow := f s.pow }

/-- Steps of 25 MHz between the top clock and the lowest (15:R461). -/
def topSteps : Nat := 44

/-- Ceilings of a die in MHz, of heat and of droop (15:R461, R468, R469). -/
def Power.heatCeil (w : Power) (d : Nat) : Nat := if dutyDie d then 1700 else 1700 - 25 * min topSteps (Tab.get 0 w.heat d)
def Power.droopCeil (w : Power) (d : Nat) : Nat := 1700 - 25 * min topSteps (Tab.get 0 w.droop d)

/-- The ceiling of the package target: power.freq_ceiling_mhz on the steps of a tile's clock (15:R461, log entry 97). -/
def Pkg.topMhz (s : Pkg) : Nat := max 600 (min 1700 (s.ent 0x6000 3 / 25 * 25))

/-- The target of the power-cap loop holds a tile replaying after a castling only under the brake (15:R461, 13:R410). -/
def Pkg.replaying (s : Pkg) (t : Nat) : Bool :=
  s.fault.open_.any (fun r => decide (r.cls = 2) && decide (r.tile = t) && decide (r.step ≠ 0)) && !s.pow.brake

/-- The clock a tile should have, in MHz, on a site of this fused maximum (15:R461, 13:R410). A castled tile that replays is not held by
the cap. -/
def Pkg.tileGoal (s : Pkg) (t fmax : Nat) : Nat :=
  let w := s.pow
  let d := t / 128
  min fmax (min (if s.replaying t then max 1500 w.target else w.target) (min (w.heatCeil d) (w.droopCeil d)))

end Sys2Proof
end

