-- ==== Sys2Proof/Machine/Fault.lean ====
section
/-!
DEFINITION. Faults: detection, replay in place, castling of a tile, remap of a solver engine, cores, mesh lanes, sensors, lost
dies, the fault map (13).
-/

namespace Sys2Proof

/-- Rank of a tile in its C-die (01:R28). -/
def rankOf (t : Nat) : Nat := t % 128 / 8

/-- The fault of a rank lies in the rank pair of an unrepaired one (13:R403, R404). -/
def Pkg.pairOpen (s : Pkg) (t : Nat) : Bool :=
  let g := t / 128 * 16 + rankOf t
  s.fault.groups.any (fun e => decide (e.1 = 2) && decide (e.2 / 16 = t / 128) && decide (e.2 ≤ g + 1) && decide (g ≤ e.2 + 1))

/-- Mask of the partition of a tile. -/
def Pkg.tileMask (s : Pkg) (t : Nat) : Nat := let p := (s.tile t).part
  if p = 0 then 0 else 2 ^ (p - 1)

/-- Open a recovery of a tile and fault it: what it was doing is noted first (13:R409, R412, R559). -/
def Pkg.openRecovery (s : Pkg) (t : Nat) (r : Recovery) : Pkg :=
  let x := s.tile t
  let ahead := (s.fault.open_.filter (fun (r : Recovery) => r.step = 0)).length
  let r := { r with tile := t, declared := s.tempo.now, start := s.tempo.now, seq := x.seq, active := x.active, partsMask := s.tileMask t, ahead := ahead, ready := s.tempo.now }
  let s := { s with fault := { s.fault with open_ := s.fault.open_ ++ [r] } }
  s.faultTile t

/-- A tile's site has failed: it is fenced and a castling requested (13:R407 to R409, R414). -/
def Pkg.siteFail (s : Pkg) (t bound : Nat) : Pkg :=
  if s.fenced t then s
  else
    let out := s.pairOpen t
    let g := t / 128 * 16 + rankOf t
    let s := s.openRecovery t { cls := 2, unit := t, bound := bound, outside := out, grp := g }
    (s.openGroup 2 g).tileEvent t true

/-- A ply of a tile ends as an error that is no fault: it is replayed in place (13:R406, R559). -/
def Pkg.replayInPlace (s : Pkg) (t : Nat) : Pkg := s.openRecovery t { cls := 0, unit := t, step := 1 }

/-- The tile holds an attempt that an error can end. -/
def Tile.busy (t : Tile) : Bool := t.part ≠ 0 && (t.mode == .running || t.mode == .draining || t.mode == .gambitHeld)

/-- OCACHE_UNCORRECTABLE: no data; the ply is replayed in place, and the third word within 1 s fails the site (06:R203,
13:R406). -/
def ocacheUncorrectable (s : Pkg) (t : Nat) : Pkg :=
  let x := s.tile t
  if !x.busy then s
  else
    let s := s.bump (0x3860 + (x.part - 1)) 7 1
    let key := siteKey t
    let (k, s) := s.noteError key
    if 3 ≤ k then (s.clearErrors key).siteFail t 0 else s.replayInPlace t

/-- A residue mismatch of an engine's lane: the first is replayed in place; the second within 1 s fails the lane; a third lane
of the engine fails the site (13:R403, R406, R413, 05:R186). `engine` is 0 matrix, 1 vector. -/
def Pkg.laneMismatch (s : Pkg) (t lane engine bound : Nat) : Pkg :=
  let x := s.tile t
  if !x.busy then s
  else
    let key := laneKey t engine lane
    let (k, s) := s.noteError key
    if k < 2 then s.replayInPlace t
    else
      let s := s.clearErrors key
      let unit := t * 2 + engine
      let bad := Tab.get 0 s.fault.lanes unit
      if 2 ≤ bad then s.siteFail t bound
      else
        let s := { s with fault := { s.fault with lanes := Tab.insert s.fault.lanes unit (bad + 1), pendingMap := true } }
        let s := if engine = 0 then s.setTile t { x with mx := { x.mx with badCols := x.mx.badCols + 1 } } else s
        let out := s.groupOpen 1 unit
        let s := s.openRecovery t { cls := 1, unit := t, step := 1, bound := bound, spares := 1 - bad, outside := out, grp := unit }
        let s := (s.openGroup 1 unit).tileEvent t false
        if bad = 1 then s.sparesLow 1 t 0 else s

/-- SOLVER_ENGINE_REMAP: the numbers a failed engine serves go to the adjacent rank's; resident problems restart (07:R229). -/
def engineRemap (s : Pkg) (e : Nat) : Pkg :=
  let d := s.servedBy e
  if s.engineUp e then s
  else
    let sv := if d % 16 = 15 then d - 1 else d + 1
    let die := e / 16
    let now := s.tempo.now
    if 2 < (s.engine sv).lanes then
      let s := { s with fault := { s.fault with noAssign := s.fault.noAssign ++ [die] } }
      s.outOfScope { cls := 3, unit := d, detected := now, bound := 3120 } (s.partsOfDie die)
    else
      let ks := s.sharers e
      let s := { s with fault := { s.fault with pendingMap := true } }
      let s := ks.foldl
        (fun s k =>
          let x := s.engine k
          let s := s.setEngine k { x with mapped := sv + 1, probs := x.probs.map (fun q => { q with loaded := false, again := true }), redo := !x.probs.isEmpty, redoAt := now }
          if x.probs.isEmpty then
            s.castlingRecord { cls := 3, unit := k, detected := now, bound := 3120, parts := maskOf (s.partsOfDie die) }
          else s.openGroup 3 k) s
      (ks.foldl Pkg.reload s).sparesLow 3 e 0

/-- P-die of a core; its die code (01:R34, 08:R231). -/
def pdieOf (c : Nat) : Nat := 48 + c / 48

/-- CORE_CHECKER: a core is declared failed; its harts stop (13:R407, R409). -/
def coreChecker (s : Pkg) (c : Nat) : Pkg :=
  let x : CoreSt := Tab.get {} s.cores c
  if x.failed then s
  else
    let s := { s with cores := Tab.set {} s.cores c { x with failed := true } }
    let mask := (List.range 8).foldl (fun m i => let p := (s.hart (c * 8 + i)).part
      if p = 0 then m else m ||| 2 ^ (p - 1)) 0
    let r : Recovery := { cls := 5, unit := pdieOf c, tile := tileMax + c, declared := s.tempo.now, bound := 1000, partsMask := mask, grp := c / 48
                          outside := s.groupOpen 5 (c / 48), ahead := (s.fault.open_.filter (fun (r : Recovery) => r.step = 0)).length }
    ({ s with fault := { s.fault with open_ := s.fault.open_ ++ [r] } }).openGroup 5 (c / 48)

/-- Harts of a core that run for a partition. -/
def Pkg.coreHarts (s : Pkg) (c : Nat) : List Nat := ((List.range 8).map (· + c * 8)).filter (fun h => (s.hart h).on && decide ((s.hart h).part ≠ 0))

/-- Change the open recoveries of a core. -/
def Pkg.mapCore (s : Pkg) (c : Nat) (f : Recovery → Recovery) : Pkg := s.mapRecovery (tileMax + c) f

/-- A core's recovery ends: its harts have all committed a ply on the spare (13:R404, R418). -/
def Pkg.coreDone (s : Pkg) (c : Nat) : Pkg :=
  let (done, rest) := s.fault.open_.partition (fun r => decide (r.tile = tileMax + c) && decide (r.step = 1) && decide (r.active = 0))
  done.foldl (fun s r => (s.repairGroup 5 (c / 48)).lateRecord (r.crec s.tempo.now)) { s with fault := { s.fault with open_ := rest } }

/-- CORE_FAILURE: the uncommitted hart plies of a failed core are discarded and its harts resume on a spare core; without a spare
their partitions are faulted (08:R247, 13:R403, R413, R415). -/
def coreFailure (s : Pkg) (c : Nat) : Pkg :=
  let x : CoreSt := Tab.get {} s.cores c
  let used := Tab.get 0 s.fault.cores (c / 48)
  if !x.failed then s
  else if 2 ≤ used then
    let ps := (List.range partMax).filter (fun p => (s.part p).harts.any (fun h => decide (h / 8 = c)))
    let s := { s with fault := { s.fault with open_ := s.fault.open_.filter (fun r => r.tile ≠ tileMax + c) } }
    s.outOfScope { cls := 5, unit := pdieOf c, detected := s.tempo.now, bound := 1000 } ps
  else
    let hs := s.coreHarts c
    let s := { s with fault := { s.fault with cores := Tab.insert s.fault.cores (c / 48) (used + 1), pendingMap := true }, cores := Tab.set {} s.cores c { x with failed := false } }
    let s := (s.takeWrites (fun w => decide (w.src = 1) && decide (w.unit / 8 = c))).2
    let s := hs.foldl (fun s h => (s.bump (0x38A0 + ((s.hart h).part - 1)) 5 1).hartRestore h) s
    let mask := hs.foldl (fun m h => m ||| 2 ^ (h % 8)) 0
    let s := s.mapCore c (fun r => { r with step := 1, start := s.tempo.now, ready := s.tempo.now, active := mask, spares := 1 - used })
    let s := if used = 1 then s.sparesLow 5 (pdieOf c) 0 else s
    if mask = 0 then s.coreDone c else s

/-- MESH_LANE_FAIL: a lane of one direction of the edge from die a to die b fails: a spare takes its place and what was in flight is
sent again; beyond two, the edge is lost (13:R403, R413, R415). -/
def meshLaneFail (s : Pkg) (a b : Nat) : Pkg :=
  let key := a * 256 + b
  let k := Tab.get 0 s.fault.other key
  let s := { s with fault := { s.fault with other := Tab.insert s.fault.other key (k + 1) } }
  if 2 ≤ k then
    let s := { s with fault := { s.fault with noLoad := true } }
    s.outOfScope { cls := 7, unit := key, detected := s.tempo.now, bound := 200 } s.partsLive
  else
    let s := s.castlingRecord { cls := 7, unit := key, detected := s.tempo.now, bound := 200, spares := 1 - k, parts := maskOf s.partsLive }
    if k = 1 then s.sparesLow 7 key 0 else s

/-- Sensors of a die (13:R403). -/
def sensorsOf (d : Nat) : Nat := if d < 48 then 4 else 2

/-- Reading of a sensor, in 0.01 °C. -/
def Pkg.sensor (s : Pkg) (d i : Nat) : Int := toSigned 32 (Tab.get 0 s.pow.temps (d * 64 + i))

/-- Sensors of a die not excluded. -/
def Pkg.goodSensors (s : Pkg) (d : Nat) : List Nat := (List.range (sensorsOf d)).filter (fun i => decide (Tab.get 0 s.pow.badSensor (d * 64 + i) = 0))

/-- Two readings agree within 15 °C (13:R407). -/
def agree (a b : Int) : Bool := decide (a - b ≤ 1500) && decide (b - a ≤ 1500)

/-- Sensors that fail the plausibility check: out of range, or in agreement with fewer of the others than they differ from. Of two
that differ the failed one is a free value (13:R407, log entry 5). -/
def Pkg.badSensors (s : Pkg) (d : Nat) : List Nat × Pkg :=
  let good := s.goodSensors d
  let out := good.filter (fun i => !(Config.sensorInRange (s.sensor d i)))
  let good := good.filter (fun i => !out.contains i)
  match good with
  | [i, j] => if agree (s.sensor d i) (s.sensor d j) then (out, s) else
      let (v, s) := s.draw
      (out ++ [if v % 2 = 0 then i else j], s)
  | _ =>
    let odd (i : Nat) : Bool :=
      let rest := good.filter (· ≠ i)
      let yes := (rest.filter (fun j => agree (s.sensor d i) (s.sensor d j))).length
      decide (yes < rest.length - yes)
    (out ++ good.filter odd, s)

/-- THERMAL_SENSOR_CHECK: failed sensors of a die are excluded (13:R407, R413, R415). -/
def sensorCheck (s : Pkg) (d : Nat) : Pkg :=
  let (bad, s) := s.badSensors d
  bad.foldl
    (fun s i =>
      let s := { s with pow := { s.pow with badSensor := Tab.insert s.pow.badSensor (d * 64 + i) 1 } }
      let left := (s.goodSensors d).length
      let s := s.openGroup 12 d
      if left = 0 then s.outOfScope { cls := 12, unit := d, detected := s.tempo.now, bound := 100000 } []
      else
        let s := s.castlingRecord { cls := 12, unit := d, detected := s.tempo.now, bound := 0, spares := left - 1 }
        if left = 1 then s.sparesLow 12 d 0 else s) s

/-- FAULT_MAP_COMMIT: a changed map waits for its commit to the N-die (13:R417, 17:R512). -/
def faultMapCommit (s : Pkg) : Pkg :=
  if s.fault.pendingMap && !(s.fw.commits.any (fun c => c.kind = 3)) && !s.fw.n0.lost then
    { s with fw := { s.fw with commits := s.fw.commits ++ [({ kind := 3, bytes := 262144, since := s.tempo.local_ } : Commit)] } }
  else s

/-- Note a lost die (13:R420). -/
def Pkg.dieLost (s : Pkg) (d : Nat) : Pkg := let i := 8 + d / 32
  s.setEnt 0x3000 i (s.ent 0x3000 i ||| 2 ^ (d % 32))

/-- DIE_FAILURE: a whole die is lost; a C-die and its S-die share a code (13:R415). Its record's class is a free value: R418
lists none (log entry 5). -/
def dieFailure (s : Pkg) (d : Nat) : Pkg :=
  let (v, s) := s.draw
  let r : CRec := { cls := v % 256, unit := d, detected := s.tempo.now }
  if d < 66 then
    let s := (s.dieLost d).outOfScope r s.partsLive
    { s with fault := { s.fault with noLoad := true } }
  else if d = 66 then
    let s := { s with fault := { s.fault with stopped := true }, fw := { s.fw with off := 3, up := false, dict := false, loadable := false } }
    { s with net := { s.net with ports := s.net.ports.map (fun e => (e.1, { e.2 with st := .down })) }
             lports := s.lports.map (fun (e : Nat × LPort) => (e.1, { e.2 with st := .down })) }
  else
    let s := (s.dieLost d).outOfScope r []
    { s with fw := { s.fw with n0 := { s.fw.n0 with lost := true } } }

end Sys2Proof

namespace Sys2Proof.Machine

open Sys2Proof

/-- The site that serves a tile: rank × 9 + file of its C-die (01:R28, R30). -/
def Sites.siteOf (z : Sites) (t : Nat) : Nat :=
  match Tab.get 0 z.moved t with
  | 0 => rankOf t * 9 + t % 8
  | k + 1 => k

/-- The spare of a rank is free and usable (13:R408, R410). -/
def Sites.spareFree (z : Sites) (die r : Nat) : Bool :=
  decide (r < 16) && decide (Tab.get 0 z.failed (die * 144 + r * 9 + 8) = 0) && decide (1500 ≤ Tab.get 0 z.fmax (die * 144 + r * 9 + 8))
    && z.moved.all (fun e => !(decide (e.1 / 128 = die) && decide (e.2 = r * 9 + 9)))

/-- Ranks whose spares can serve a tile, in the order of choice (13:R408). -/
def spareRanks (t : Nat) : List Nat :=
  let k := rankOf t
  [k] ++ (if k = 0 then [] else [k - 1]) ++ (if k = 15 then [] else [k + 1])

/-- The site map that serves tile t from the first free spare of the ranks given; none where none is free (13:R408). -/
def Sites.serve (z : Sites) (t : Nat) (ranks : List Nat) : Option Sites :=
  (ranks.find? (fun r => z.spareFree (t / 128) r)).map (fun r => { z with moved := Tab.insert z.moved t (r * 9 + 9) })

/-- The site that serves a tile has failed. -/
def Sites.fail (z : Sites) (t : Nat) : Sites := { z with failed := Tab.insert z.failed (t / 128 * 144 + z.siteOf t) 1 }

/-- The site map after a castling of tile t; none where no spare is left (13:R408). -/
def Sites.castle (z : Sites) (t : Nat) : Option Sites := (z.fail t).serve t (spareRanks t)

/-- Usable spares of a C-die (13:R420). -/
def Sites.sparesFree (z : Sites) (die : Nat) : Nat := ((List.range 16).filter (fun r => z.spareFree die r)).length

/-- Usable spares within reach of a rank's tiles (13:R403, R408). -/
def Sites.reach (z : Sites) (die k : Nat) : Nat := ((List.range 16).filter (fun j => decide (j ≤ k + 1) && decide (k ≤ j + 1) && z.spareFree die j)).length

/-- Root firmware notes the site that serves a tile: its fused maximum, and its rank where it is not the tile's own (15:R461, 13:R411). -/
def servedAt (s : Pkg) (z : Sites) (t : Nat) : Pkg :=
  let k := z.siteOf t
  { s with pow := { s.pow with siteFmax := Tab.set 0 s.pow.siteFmax t (Tab.get 0 z.fmax (t / 128 * 144 + k))
                               siteRank := Tab.set 0 s.pow.siteRank t (if k / 9 = rankOf t then 0 else k / 9 + 1) } }

/-- Spares of a C-die have been taken, z being the maps after, and free₀ and reach₀ the free ones and those in reach of a rank before:
SPARES_LOW where the free ones have fallen to 4, and for
each rank pair whose last one went; it names the tile castled, or the first of the rank (13:R419, R420). -/
def sparesTaken (s : Pkg) (free₀ : Nat) (reach₀ : Nat → Nat) (z : Sites) (die t : Nat) : Pkg :=
  let free := z.sparesFree die
  let s := s.setEnt 0x3002 (die + 1) free
  let s := if free ≤ 4 && 4 < free₀ then s.sparesLow 2 t free else s
  ((List.range 16).filter (fun k => decide (z.reach die k = 0) && decide (reach₀ k ≠ 0))).foldl
    (fun s k => s.sparesLow 2 (if k = rankOf t then t else die * 128 + k * 8) 0) s

/-- What a committed castling leaves of a tile: the new site is empty, every counter of its branch predictor 1; a tile between plies is
set up at once, a stopped one gets its program image again, and its recovery ends (01:R41, 04:R122, 13:R409, R412). -/
def castledPkg (s : Pkg) (z₀ z : Sites) (t : Nat) (r : Recovery) : Pkg :=
  let die := t / 128
  let x := s.tile t
  let rank := (z.siteOf t) / 9
  let left := z.reach die (rankOf t)
  let s := s.setTile t { x with isram := [], dsram := [], ocache := [], mx := {}, core := { x.core with pred := [] } }
  let s := { s with fault := { s.fault with lanes := Tab.erase (Tab.erase s.fault.lanes (2 * t)) (2 * t + 1), pendingMap := true } }
  let s := (servedAt s z t).forgetSite t
  let s := s.mapRecovery t (fun y =>
    if y = r then { y with step := 1, start := s.tempo.now, ready := s.tempo.now, adj := decide (rank ≠ rankOf t), spares := left } else y)
  let s := { s with pow := { s.pow with clocks := Tab.set 1500 s.pow.clocks t (s.tileGoal t (Tab.get 0 s.pow.siteFmax t)) } }
  let s := sparesTaken s (z₀.sparesFree die) (z₀.reach die) z die t
  if x.mode == .faulted then s
  else
    let s := if x.mode == .rampWait || x.mode == .frameDone then s.restoreTile t else if x.mode == .stopped then s.copyImage t else s
    s.recoverCommit t

/-- CASTLING_COMMIT: root firmware serves the oldest castling asked for, if it is the tile's (13:R405, R408, R409, R414). -/
def castlingCommit (s : State) (t : Nat) : State :=
  match s.pkg.fault.open_.find? (fun r => decide (r.cls = 2) && decide (r.step = 0)) with
  | none => s
  | some r =>
    if r.tile ≠ t then s
    else
      match s.sites.castle t with
      | some z => { s with sites := z, pkg := castledPkg s.pkg s.sites z t r }
      | none =>
        let die := t / 128
        let k := s.pkg
        let k := { k with fault := { k.fault with open_ := k.fault.open_.filter (fun y => y ≠ r), noAssign := k.fault.noAssign ++ [die] } }
        let rec_ : CRec := { cls := 2, unit := t, detected := r.declared, bound := r.bound }
        { s with sites := s.sites.fail t
                 pkg := k.outOfScope rec_ (k.partsOfDie die) }

/-- OCACHE_UNCORRECTABLE (06:R203). -/
def execOcacheUncorrectable (t : Nat) (s : State) : Res := onTile t s (fun k => ocacheUncorrectable k t)
/-- SOLVER_ENGINE_REMAP (07:R229). -/
def execSolverEngineRemap (e : Nat) (s : State) : Res := onEngine e s (fun k => engineRemap k e)
/-- SITE_HEARTBEAT_TIMEOUT (13:R407). -/
def execSiteHeartbeatTimeout (t : Nat) (s : State) : Res := onTile t s (fun k => k.siteFail t 700)
/-- TILE_CORE_CHECKER: two cycles (13:R407). -/
def execTileCoreChecker (t : Nat) (s : State) : Res := onTile t s (fun k => k.siteFail t 2)
/-- MATRIX_RESIDUE_MISMATCH (13:R407). -/
def execMatrixResidueMismatch (t lane : Nat) (s : State) : Res := onTile t s (fun k => k.laneMismatch t lane 0 200)
/-- VECTOR_RESIDUE_MISMATCH: 80 cycles (13:R407). -/
def execVectorResidueMismatch (t lane : Nat) (s : State) : Res := onTile t s (fun k => k.laneMismatch t lane 1 54)
/-- CASTLING_COMMIT (13:R409). -/
def execCastlingCommit (t : Nat) (s : State) : Res :=
  if t < tileMax then .next (if s.pkg.fw.off = 0 then castlingCommit s t else s) else .fault .noSuchUnit
/-- Number of P-die cores. -/
def coreMax : Nat := 192
/-- CORE_CHECKER (13:R407). -/
def execCoreChecker (c : Nat) (s : State) : Res := act (decide (c < coreMax)) s (fun k => coreChecker k c)
/-- CORE_FAILURE (08:R247). -/
def execCoreFailure (c : Nat) (s : State) : Res := act (decide (c < coreMax)) s (fun k => coreFailure k c)
/-- MESH_LANE_FAIL, of the link of an edge from die code a to die code b (01:R24, 13:R413). -/
def execMeshLaneFail (a b : Nat) (s : State) : Res := act (meshEdge a b) s (fun k => meshLaneFail k a b)
/-- THERMAL_SENSOR_CHECK of a die code (13:R407). -/
def execThermalSensorCheck (d : Nat) (s : State) : Res := act (decide (d < 68)) s (fun k => sensorCheck k d)
/-- FAULT_MAP_COMMIT (13:R417). -/
def execFaultMapCommit (s : State) : Res := actMgmt true s faultMapCommit
/-- DIE_FAILURE of a die code (13:R415). -/
def execDieFailure (d : Nat) (s : State) : Res := act (decide (d < 68)) s (fun k => dieFailure k d)

end Sys2Proof.Machine
end

