-- ==== Sys2Proof/Machine/Power.lean ====
section
/-!
DEFINITION. Power and heat: the samples of VIN, the fast loop, the power-cap loop, clock steps, the brake, droop, temperatures, trips
and lost phases (15).
-/

namespace Sys2Proof

/-- Dies fed by a regulator: codes 0–65 (15:R457). -/
def regMax : Nat := 66

/-- Phases of a regulator (15:R457). -/
def regPhases (r : Nat) : Nat := if r < 48 then 13 else if r < 52 then 11 else if r < 60 then 8 else 9

/-- Good phases, and the output limit in mA (15:R460). -/
def Power.good (w : Power) (r : Nat) : Nat := regPhases r - Tab.get 0 w.phases r
def Power.regLimit (w : Power) (r : Nat) : Nat := w.good r * 40000

/-- The effective cap and the guard of the fast loop in W × 10 (15:R463, R466). -/
def Pkg.effCap (s : Pkg) : Nat := if s.pow.brake then min s.pow.cap (s.ent 0x6000 2) else s.pow.cap
def Pkg.guard10 (s : Pkg) : Nat := if s.pow.brake then 10 * s.ent 0x6000 2 else 11 * s.effCap

/-- Temperature of a die in 0.01 °C: the highest of its valid sensors, 5 °C more once one is excluded; none without sensors
(15:R469, 13:R413). -/
def Pkg.dieTemp (s : Pkg) (d : Nat) : Option Int :=
  let good := s.goodSensors d
  match good with
  | [] => none
  | i :: _ => some (good.foldl (fun t j => max t (s.sensor d j)) (s.sensor d i) + (if good.length < sensorsOf d then 500 else 0))

/-- thermal.throttle_c in 0.01 °C. -/
def Pkg.throttleTemp (s : Pkg) : Int := 100 * (s.ent 0x6000 0x10 : Int)

/-- A die is at or above the throttle temperature (15:R470). -/
def Pkg.hot (s : Pkg) (d : Nat) : Bool := match s.dieTemp d with
  | some t => decide (s.throttleTemp ≤ t)
  | none => false

/-- A limit in MHz holds a tile of a C-die below the clock it would otherwise have: it lies below the tile's fused maximum, the
package's ceiling and the other limits in force, or ties with one of them (15:R471, log entry 97). -/
def Pkg.holdsTile (s : Pkg) (limit : Nat) (others : List Nat) (d : Nat) : Bool :=
  decide (limit < s.topMhz) && others.all (fun x => decide (limit ≤ x))
    && (List.range 128).any (fun t => decide (limit < Tab.get 0 s.pow.siteFmax (d * 128 + t)))

/-- Dies that a reason holds below the clock or duty they would otherwise have (15:R471). -/
def Pkg.heldBy (s : Pkg) (r : Nat) : List Nat :=
  let w := s.pow
  let gated := (w.gate.filter (fun e => bit e.2 r)).map (·.1)
  let cores := (List.range 4).map (· + 48)
  let capped := if w.target < s.topMhz then
      (List.range 48).filter (fun d => s.holdsTile w.target [w.heatCeil d, w.droopCeil d] d)
        ++ cores.filter (fun d => decide (Tab.get 0 w.heat d * 25 ≤ 2400 - w.target * 8 / 5 / 25 * 25) && decide (w.target < 1500))
    else []
  match r with
  | 1 => (if w.brake then gated else capped ++ gated).eraseDups
  | 2 => gated
  | 3 => (w.heat.map (·.1)).filter (fun d =>
      if d < 48 then s.holdsTile (w.heatCeil d) [w.target, w.droopCeil d] d else dutyDie d || decide (s.coreClock d < min 2400 (w.target * 8 / 5 / 25 * 25)))
  | 4 => ((w.droop.map (·.1)).filter (fun d => s.holdsTile (w.droopCeil d) [w.target, w.heatCeil d] d) ++ w.stretch.map (fun (e : Nat × Nat) => e.1 / 8)).eraseDups
  | _ => (if w.brake then capped ++ gated else gated).eraseDups

/-- Reasons become active and inactive, with their counts and events (15:R471, R474). -/
def Pkg.throttles (s : Pkg) : Pkg :=
  let now := s.tempo.now
  [1, 2, 3, 4, 5].foldl
    (fun s r =>
      let held := s.heldBy r
      let since := Tab.get 0 s.pow.active r
      let once (t : Tab Nat) : Bool := Tab.get 0 t r = 0 || decide (Tab.get 0 t r + 1000000000 ≤ now + 1)
      if since = 0 && !held.isEmpty then
        let s := (s.onPow (fun w => { w with active := Tab.insert w.active r (now + 1) })).bump 0x6011 r 1
        if once s.pow.startAt then (s.onPow (fun w => { w with startAt := Tab.insert w.startAt r (now + 1) })).raise 0x0601 0xFF [r, held.length] else s
      else if since ≠ 0 && held.isEmpty then
        let len := now + 1 - since
        let s := (s.onPow (fun w => { w with active := Tab.erase w.active r, lastEnd := Tab.insert w.lastEnd r (now + 1) })).bump 0x6010 r len
        if once s.pow.endAt then (s.onPow (fun w => { w with endAt := Tab.insert w.endAt r (now + 1) })).raise 0x0602 0xFF [r, len] else s
      else s) s

/-- Clock that a reason gives the slowest tile, times 48: a stretched cycle counts 2/3, a gated die its duty (15:R471). -/
def Pkg.reasonClock (s : Pkg) (r : Nat) : Nat :=
  let w := s.pow
  let tiles (t : Tab Nat) : Tab Nat := t.filter (fun e => decide (e.1 < 48))
  let gated := (tiles (w.gate.filter (fun e => bit e.2 r))).foldl (fun c e => min c (w.dutyOf e.1)) 16
  let slowest (t : Tab Nat) (c : Nat → Nat) : Nat := (tiles t).foldl (fun m e => min m (c e.1)) 1700
  match r with
  | 3 => 48 * slowest w.heat w.heatCeil
  | 4 => min (48 * slowest w.droop w.droopCeil)
      ((List.range tileMax).foldl (fun m t => if s.stretched t then min m (32 * Tab.get 1500 w.clocks t) else m) (48 * 1700))
  | 2 => 3 * 1700 * gated
  | _ => 3 * (if (r = rSupply) = w.brake then w.target else 1700) * gated

/-- power.binding_reason: the active reason that gives the lowest clock, in R471's order on a tie; 0 none. -/
def Pkg.binding (s : Pkg) : Nat :=
  ([3, 2, 5, 1, 4].filter (fun r => decide (Tab.get 0 s.pow.active r ≠ 0))).foldl
    (fun b r => if b = 0 || s.reasonClock r < s.reasonClock b then r else b) 0

/-- The package is off: regulators disabled, transmitters idle, every brick held in reset (15:R469, 18:R545). -/
def Pkg.shutDown (s : Pkg) (cause : Nat) : Pkg :=
  let s := (List.range lportMax).foldl (fun s q => s.setRst q false) s
  { s with
    pcie := s.pcie.map (fun (e : Nat × Pcie) => (e.1, { e.2 with up := false, rate := 0, width := 0, flit := false }))
    fw := { s.fw with off := cause, up := false, dict := false, loadable := false }
    net := { s.net with ports := s.net.ports.map (fun (e : Nat × APort) => (e.1, { e.2 with st := .down })) }
    lports := s.lports.map (fun (e : Nat × LPort) => (e.1, { e.2 with st := .down })) }

/-- Count the P-die cores' cycles up to now, before their clock changes (15:R461, 08:R235). -/
def Pkg.coreMark (s : Pkg) : Pkg :=
  s.onPow (fun w =>
    { w with coreAt := s.tempo.local_
             coreCyc := [48, 49, 50, 51].foldl (fun t d => Tab.set 0 t d (Tab.get 0 t d + (s.tempo.local_ - w.coreAt) * s.coreClock d)) w.coreCyc })

/-- A trip, for cause 1 thermal or 2 supply: duty 0, every partition stops, and once the regulators are off root firmware commits the
trip record, GUARANTEE_YIELDED and a pending fault map (15:R469, 13:R423, R424). -/
def Pkg.tripNow (s : Pkg) (cause d : Nat) : Pkg :=
  let t := ofSigned 64 ((s.dieTemp d).getD 0)
  let live := s.partsLive
  let s := s.onPow (fun w => { w with duty := (List.range regMax).map (fun d => (d, 0)) })
  let s := live.foldl Pkg.stopUnits s
  let s := s.bump 0x6000 0x13 (b2n (decide (cause = 1)))
  let s := s.raise 0x0605 0xFF [d, t, cause]
  let s := s.bump 0x3003 2 live.length
  let mk (data : List Byte) : Commit := { kind := 4, bytes := 256, since := s.tempo.local_, data := padTo 256 data }
  let trip := mk (natLe 8 0x0605 ++ natLe 8 d ++ natLe 8 t ++ natLe 8 cause ++ natLe 8 s.tempo.now)
  let why := if cause = 1 then rThermal else rSupply
  let yields := live.map (fun p => mk (natLe 8 0x0204 ++ natLe 8 p ++ natLe 8 2 ++ natLe 8 1 ++ natLe 8 why ++ natLe 8 s.tempo.now ++ natLe 8 0))
  let s := { s with fw := { s.fw with commits := s.fw.commits ++ (trip :: yields) } }
  (faultMapCommit s).shutDown cause

/-- VIN_SAMPLE: voltage, current and the auxiliary power: energy is integrated while VAUX is good; the pin is seen at all times; ten bad
samples in a row shut the package down. The package changes its current by at most 150 A in a µs, so no sample shows more (15:R459, R460,
R467). -/
def vinSample (s : Pkg) (mv ma auxMw : Nat) : Pkg :=
  if !s.fw.vaux || s.fw.off = 3 then { s with pins := { s.pins with vin := mv } }
  else if s.tempo.local_ < s.pow.sampleAt + 1000 then s
  else if s.fw.off ≠ 0 then
    ({ s with pins := { s.pins with vin := mv } }).onPow (fun w =>
      { w with sampleAt := s.tempo.local_, sampleNow := s.tempo.now, ma := ma, energy := w.energy + mv * ma, aux := w.aux + 1000 * auxMw })
  else if 150 * (s.tempo.local_ - s.pow.sampleAt) < (if ma < s.pow.ma then s.pow.ma - ma else ma - s.pow.ma) then s
  else
    let bad := decide (mv < 38000) || decide (62000 < mv)
    let s := { s with pins := { s.pins with vin := mv } }
    let s := s.onPow (fun w =>
      { w with sampleAt := s.tempo.local_, sampleNow := s.tempo.now, ma := ma, inputW := mv * ma / 1000000, energy := w.energy + mv * ma, aux := w.aux + 1000 * auxMw
               periodPj := w.periodPj + mv * ma, periodN := w.periodN + 1, badVin := if bad then w.badVin + 1 else 0 })
    if s.pow.badVin = 10 then (s.raise 0x0607 0xFF [mv]).tripNow 2 66 else s

/-- FAST_LOOP_SAMPLE: the regulators' output currents in mA, with the last sample of VIN: duty is halved behind a limit exceeded, and
rises after ten samples well below; at most once each 1 µs (15:R465). -/
def fastLoop (s : Pkg) (mas : List Nat) : Pkg :=
  if s.tempo.local_ < s.pow.fastAt + 1000 then s else
  let w := { s.pow with fastAt := s.tempo.local_ }
  let uw10 := 10 * s.pins.vin * w.ma
  let lim := 1000 * s.ent 0x6000 4
  let guard := 1000000 * s.guard10
  let overIn := decide (lim < w.ma)
  let overGuard := decide (guard < uw10)
  let calmPkg := decide (100 * w.ma < 95 * lim) && decide (100 * uw10 < 95 * guard)
  let gr := if w.brake then rSupply else rCap
  let w := (List.range regMax).foldl
    (fun (w : Power) d =>
      let a := mas.getD d 0
      let overReg := decide (w.regLimit d < a)
      let why := (if overIn || overReg then 2 ^ rCurrent else 0) ||| (if overGuard then 2 ^ gr else 0)
      let duty := Tab.get 16 w.duty d
      if why ≠ 0 then { w with duty := Tab.set 16 w.duty d (duty / 2), calm := Tab.erase w.calm d, gate := Tab.insert w.gate d (Tab.get 0 w.gate d ||| why) }
      else if calmPkg && decide (100 * a < 95 * w.regLimit d) then
        let k := Tab.get 0 w.calm d + 1
        if 10 ≤ k then
          let up := min 16 (duty + 1)
          { w with duty := Tab.set 16 w.duty d up, calm := Tab.erase w.calm d, gate := if up = 16 then Tab.erase w.gate d else w.gate }
        else { w with calm := if duty = 16 then Tab.erase w.calm d else Tab.insert w.calm d k }
      else { w with calm := Tab.erase w.calm d }) w
  let all16 := w.duty.isEmpty
  let all0 := decide (w.duty.length = regMax) && w.duty.all (fun e => decide (e.2 = 0))
  ({ s with pow := { w with full := w.full && all16, zero := w.zero && all0 } }).throttles

/-- Time in ns that the detectors of a C-die have stretched in the period, with those that stretch still (15:R468). -/
def Pkg.stretchedNs (s : Pkg) (d : Nat) : Nat :=
  let now := s.tempo.local_
  Tab.get 0 s.pow.stretched d
    + (s.pow.stretch.filter (fun e => decide (e.1 / 8 = d))).foldl (fun k e => k + (now + 1 - e.2)) 0

/-- Droop ceilings for the next period: a C-die stretched in more than 5 % of its cycles steps down, one below 1 % steps up. A stretched
cycle lasts 1.5 cycles, over 8 detectors of equal shares (15:R468). -/
def Pkg.droopPeriod (s : Pkg) : Pkg :=
  let key (e : Nat × Nat) : Nat := e.1
  let dies := (s.pow.droop.map key ++ s.pow.stretched.map key ++ s.pow.stretch.map (fun (e : Nat × Nat) => e.1 / 8)).eraseDups
  let step (t : Tab Nat) (d : Nat) : Tab Nat :=
    let S := s.stretchedNs d
    let k := Tab.get 0 t d
    Tab.set 0 t d (if 24000000 < 41 * S then min topSteps (k + 1) else if 201 * S < 24000000 then k - 1 else k)
  s.onPow (fun w => { w with droop := dies.foldl step w.droop, stretched := []
                             stretch := w.stretch.map (fun e => (e.1, s.tempo.local_ + 1)) })

/-- POWER_CAP_LOOP, each 1 ms of Tempo: the cap, the brake's release, with which the guard's reason becomes POWER_CAP, the target and
the slope; `debt` is the energy in µJ charged to
castled tiles (15:R463 to R466, 13:R410). -/
def capLoop (s : Pkg) (debt : Nat) : Pkg :=
  if s.tempo.now < s.pow.loopAt + 1000000 then s
  else
    let s := s.coreMark
    let ended := s.pow.release
    let s := if ended then s.raise 0x0604 0xFF [s.tempo.now - s.pow.brakeAt] else s
    let gates (t : Tab Nat) : Tab Nat := if ended then t.map (fun (e : Nat × Nat) => (e.1, e.2 - b2n (bit e.2 rSupply) * 2 ^ rSupply ||| b2n (bit e.2 rSupply) * 2 ^ rCap)) else t
    let s := s.onPow (fun w => { w with cap := s.ent 0x6000 1, brake := w.brake && !ended, release := false, gate := gates w.gate })
    let w := s.pow
    let cap := s.effCap
    let P : Int := (w.periodPj / max 1 w.periodN : Nat)
    let budget : Int := (cap * 1000000 : Nat) - (debt * 1000 : Nat)
    let sl : Int := (w.slope * 1000000 : Nat)
    let ceil := s.topMhz
    let below := !w.duty.isEmpty
    let above := ((P - budget + sl - 1) / sl).toNat
    let under := ((budget - P) / sl).toNat - 1
    let t0 := min w.target ceil
    let target := if below then max 600 (t0 - 8 * 25)
      else if budget < P then max 600 (t0 - min 8 above * 25)
      else if P < budget - 2 * sl then min ceil (t0 + min 4 under * 25)
      else t0
    let dP := (P - (w.lastP : Int)).natAbs
    let slope := if w.full && w.fullBefore && decide (w.moved ≠ 0) then max 50 (min 1000 (dP / w.moved.natAbs / 1000000)) else w.slope
    let unreachable := w.zero && decide (w.duty.length = regMax) && decide (((cap * 1000000 : Nat) : Int) < P)
    let all16 := w.duty.isEmpty
    let s := s.onPow (fun w =>
      { w with target := target, slope := slope, moved := ((target : Int) - (w.target : Int)) / 25, lastP := P.toNat, periodPj := 0, periodN := 0
               loopAt := s.tempo.now, fullBefore := w.full, full := all16, zero := decide (w.duty.length = regMax) && w.duty.all (fun e => decide (e.2 = 0)) })
    let s := if unreachable then s.raise 0x0609 0xFF [cap, (P / 1000000).toNat] else s
    s.droopPeriod.throttles

/-- FREQUENCY_STEP of a tile: one step of 25 MHz toward its clock, at most each 1 µs (15:R461). -/
def freqStep (s : Pkg) (fmax t : Nat) : Pkg :=
  let now := s.tempo.local_
  let c := Tab.get 1500 s.pow.clocks t
  let goal := s.tileGoal t fmax
  if fmax = 0 || now < Tab.get 0 s.pow.clockAt t + 1000 || c = goal then s
  else
    let c' := if c < goal then min goal (c + 25) else max goal (c - 25)
    (s.spanMark t).onPow (fun w => { w with clocks := Tab.set 1500 w.clocks t c', clockAt := Tab.set 0 w.clockAt t now })

/-- BRAKE_ASSERTED: the pin has been low for 1 µs. Asserted again within the period of its release it is one episode (15:R466). -/
def brakeOn (s : Pkg) : Pkg :=
  if s.pow.brake then s.onPow (fun w => { w with release := false })
  else ((s.onPow (fun w => { w with brake := true, brakeAt := s.tempo.now })).raise 0x0603 0xFF [s.ent 0x6000 2]).throttles

/-- BRAKE_RELEASED: the pin has been high for 1 µs; the cap returns at the next period boundary (15:R466). -/
def brakeOff (s : Pkg) : Pkg := if s.pow.brake then s.onPow (fun w => { w with release := true }) else s

/-- Count the spans of the tiles that a droop detector watches, before their cycles change length (15:R468, 03:R97). -/
def Pkg.droopMark (s : Pkg) (d i : Nat) : Pkg :=
  ((List.range 128).filter (fun t => decide (s.rankNow (d * 128 + t) / 2 = i) && decide ((s.tile (d * 128 + t)).part ≠ 0))).foldl
    (fun s t => s.spanMark (d * 128 + t)) s

/-- DROOP_DETECT: a detector stretches its ranks' cycles (15:R468). -/
def droopDetect (s : Pkg) (d i : Nat) : Pkg :=
  let k := d * 8 + i
  if Tab.get 0 s.pow.stretch k ≠ 0 then s
  else (((s.droopMark d i).onPow (fun w => { w with stretch := Tab.insert w.stretch k (s.tempo.local_ + 1) })).bump 0x6020 (d + 1) 1).throttles

/-- DROOP_RELEASE: the rail has stood above 97 % for 32 cycles (15:R468). -/
def droopRelease (s : Pkg) (d i : Nat) : Pkg :=
  let k := d * 8 + i
  let since := Tab.get 0 s.pow.stretch k
  if since = 0 then s
  else ((s.droopMark d i).onPow (fun w => { w with stretch := Tab.erase w.stretch k, stretched := Tab.modify 0 w.stretched d (· + (s.tempo.local_ + 1 - since)) })).throttles

/-- ALERT_N bit 0 follows the dies at or above the throttle temperature (15:R470, 16:R506). -/
def Pkg.heatAlert (s : Pkg) : Pkg :=
  let any := (List.range 68).any s.hot
  let v := s.ent 0x1130 6
  s.putAlerts (v - v % 2 + b2n any)

/-- THERMAL_SAMPLE: the sensors of a die, in 0.01 °C as I32: 115 °C trips (15:R469). -/
def thermalSample (s : Pkg) (d : Nat) (codes : List Nat) : Pkg :=
  let temps := ((List.range (sensorsOf d)).zip codes).foldl (fun t e => Tab.set 0 t (d * 64 + e.1) (e.2 % 2 ^ 32)) s.pow.temps
  let s := s.onPow (fun w => { w with temps := temps })
  match s.dieTemp d with
  | none => (s.coreMark.onPow (fun w => { w with heat := Tab.set 0 w.heat d (if dutyDie d then 16 else if d < 48 then topSteps else 72) })).throttles
  | some t =>
    let s := s.setEnt 0x6200 (d + 1) (ofSigned 32 t)
    let top := (List.range 68).foldl (fun m k => max m (toSigned 32 (s.ent 0x6200 (k + 1)))) t
    let s := (s.setEnt 0x6000 0x12 (ofSigned 32 top)).heatAlert
    if 11500 ≤ t then s.tripNow 1 d else s

/-- THERMAL_STEP: a hot die's ceiling falls each 100 µs; a die 2 °C below rises each 1 ms (15:R469). -/
def thermalStep (s : Pkg) (d : Nat) : Pkg :=
  let now := s.tempo.local_
  let since := Tab.get 0 s.pow.stepAt d
  let k := Tab.get 0 s.pow.heat d
  let top := if dutyDie d then 16 else if d < 48 then topSteps else 72
  let go (v : Nat) : Pkg := (s.coreMark.onPow (fun w => { w with heat := Tab.set 0 w.heat d v, stepAt := Tab.set 0 w.stepAt d now })).throttles
  match s.dieTemp d with
  | none => s
  | some t =>
    if s.throttleTemp ≤ t then (if since + 100000 ≤ now then go (min top (k + 1)) else s)
    else if decide (t < s.throttleTemp - 200) && decide (k ≠ 0) && decide (since + 1000000 ≤ now) then go (k - 1)
    else s

/-- REGULATOR_PHASE_LOST: the phase is shed and the regulator's limit falls; a second is outside single-fault scope, with no hold
(15:R460, 13:R403, R413, R415). -/
def phaseLost (s : Pkg) (r : Nat) : Pkg :=
  if s.pow.good r = 0 then s
  else
    let s := s.onPow (fun w => { w with phases := Tab.set 0 w.phases r (Tab.get 0 w.phases r + 1) })
    let good := s.pow.good r
    let s := s.raise 0x0606 0xFF [r, good, good * 40]
    let x : CRec := { cls := 11, unit := r, detected := s.tempo.now, bound := 1000, more := [0] }
    if s.groupOpen 11 r then s.castlingRecord { x with outcome := 2 }
    else ((s.openGroup 11 r).castlingRecord x).sparesLow 11 r 0

end Sys2Proof

namespace Sys2Proof.Machine

open Sys2Proof

/-- VIN_SAMPLE: VIN in mV, input current in mA, VAUX power in mW (15:R460). -/
def execVinSample (mv ma auxMw : Nat) (s : State) : Res := actAny true s (fun k => vinSample k mv ma auxMw)
/-- FAST_LOOP_SAMPLE: output current of each regulator in mA (15:R465). -/
def execFastLoopSample (mas : List Nat) (s : State) : Res := act true s (fun k => fastLoop k mas)
/-- POWER_CAP_LOOP (15:R464). -/
def execPowerCapLoop (debt : Nat) (s : State) : Res := act true s (fun k => capLoop k debt)
/-- FREQUENCY_STEP (15:R461). -/
def execFrequencyStep (t : Nat) (s : State) : Res := onTile t s (fun k => freqStep k (Tab.get 0 s.sites.fmax (t / 128 * 144 + s.sites.siteOf t)) t)
/-- BRAKE_ASSERTED (15:R466). -/
def execBrakeAsserted (s : State) : Res := act true s brakeOn
/-- BRAKE_RELEASED (15:R466). -/
def execBrakeReleased (s : State) : Res := act true s brakeOff
/-- DROOP_DETECT (15:R468). -/
def execDroopDetect (die det : Nat) (s : State) : Res := act (decide (die < dieMax) && decide (det < 8)) s (fun k => droopDetect k die det)
/-- DROOP_RELEASE (15:R468). -/
def execDroopRelease (die det : Nat) (s : State) : Res := act (decide (die < dieMax) && decide (det < 8)) s (fun k => droopRelease k die det)
/-- THERMAL_SAMPLE (15:R469). -/
def execThermalSample (die : Nat) (codes : List Nat) (s : State) : Res := act (decide (die < 68)) s (fun k => thermalSample k die codes)
/-- THERMAL_STEP (15:R469). -/
def execThermalStep (die : Nat) (s : State) : Res := act (decide (die < 66)) s (fun k => thermalStep k die)
/-- REGULATOR_PHASE_LOST (15:R460). -/
def execRegulatorPhaseLost (reg : Nat) (s : State) : Res := act (decide (reg < regMax)) s (fun k => phaseLost k reg)

end Sys2Proof.Machine
end

