-- ==== Sys2Proof/Machine/DictRead.lean ====
section
/-!
DEFINITION. What a read of a dictionary entry gives: the values that other state holds, descriptions, mirrors (16:R475 to R478,
R505, R507, and the entry tables of the other chapters).
-/

namespace Sys2Proof

/-- id.jtag_idcode (18:R554). -/
def jtagIdcode : Nat := 2 ^ 28 + 0x0100 * 2 ^ 12 + Config.jtagManufacturer % 2 ^ 11 * 2 + 1

/-- A session by its ID. -/
def Pkg.session (s : Pkg) (id : Nat) : Option Session := s.mgmt.sessions.find? (fun x => x.id = id)

/-- Partitions delegated to a session, as a mask (16:R487). -/
def Pkg.delegated (s : Pkg) (id : Nat) : Nat := maskOf ((List.range partMax).filter (fun p => decide (id ≠ 0) && decide (s.ent (0x1110 + p) 1 = id)))

/-- Local time at which the lease ends (16:R485). -/
def Pkg.leaseEnd (s : Pkg) : Nat := s.mgmt.renewed + 1000000 * s.ent 0x1100 3

/-- Remaining lease in ms; 0 without an owner (16:R495). -/
def Pkg.leaseLeft (s : Pkg) : Nat := if s.mgmt.owner.isSome then (s.leaseEnd - s.tempo.local_) / 1000000 else 0

/-- own.owner_session: 0 none. -/
def Pkg.ownerSession (s : Pkg) : Nat := if s.mgmt.owner.isSome then s.mgmt.ownerSession else 0

/-- mgmt.session, its fields in network byte order (16:R490, R507, log entry 57). -/
def Pkg.sessionBlob (s : Pkg) (x : Session) : List Byte :=
  padTo 32 (natBe 4 x.id ++ natBe 1 x.path.cls ++ natBe 1 (b2n (s.mgmt.isOwner x) + 2 * b2n x.grant + 4 * b2n x.sub.isSome) ++ natBe 2 0
    ++ padTo 8 x.principal ++ natBe 2 (s.delegated x.id) ++ natBe 4 x.high)

/-- Entries of identity, ownership, sessions and persistence (16:R507, 18:R557). -/
def Pkg.liveA (s : Pkg) (idx sub : Nat) : Option Nat :=
  match idx, sub with
  | 0x1000, 2 => some (leNat (padTo 32 Config.serial))
  | 0x1000, 3 => some (Config.serialHash % 2 ^ 64)
  | 0x1000, 4 => some (Config.macAddress % 2 ^ 48)
  | 0x1010, 4 => some jtagIdcode
  | 0x1010, 5 => some (Config.pciVendorId % 65536)
  | 0x1100, 1 => some s.ownerSession
  | 0x1100, 2 => some (match s.mgmt.owner with
      | some o => o.2
      | none => 0xFF)
  | 0x1100, 4 => some s.leaseLeft
  | 0x1200, 1 => some s.fw.pending.length
  | 0x1120, k => some (match s.mgmt.sessions[k - 1]? with
      | some x => leNat (s.sessionBlob x)
      | none => 0)
  | _, _ =>
    if 0x1011 ≤ idx && idx < 0x1013 then
      let x := s.pci (idx - 0x1011)
      match sub with
      | 1 => some (b2n x.up)
      | 2 => some x.rate
      | 3 => some x.width
      | 4 => some (b2n x.flit)
      | 5 => some x.vfs
      | _ => none
    else if 0x1180 ≤ idx && idx < 0x1188 then
      let slot := (idx - 0x1180) * 128 + (sub - 1)
      some (match s.log.find? (fun e => decide (e.seq % 1024 = slot)) with
        | some e => leNat e.blob
        | none => 0)
    else none

/-- Entries of partitions, Tempo, frames and faults (03:R119, 13:R420, 14:R455). -/
def Pkg.liveB (s : Pkg) (idx sub : Nat) : Option Nat :=
  let ns (v : Int) (n : Nat) : Option Nat := some (ofSigned n (v / tempoUnit))
  match idx, sub with
  | 0x2200, 1 => some s.tempo.now
  | 0x2200, 2 => some s.tempo.st.code
  | 0x2200, 3 => ns s.tempo.offset 64
  | 0x2200, 4 => ns s.tempo.delay 64
  | 0x2200, 5 => ns s.tempo.freq 32
  | 0x2200, 6 => some (if s.tempo.parent = 0 then 0xFF else s.tempo.parent - 1)
  | 0x2200, 7 => some s.tempo.root
  | 0x3010, k => some (leNat (Tab.get [] s.fault.records (k - 1)))
  | _, _ =>
    if 0x2000 ≤ idx && idx < 0x2010 then
      let x := s.part (idx - 0x2000)
      match sub with
      | 1 => some x.st.code
      | 7 => some x.holdCause
      | 8 => some x.rank
      | 9 => some x.layout
      | _ => none
    else if 0x2210 ≤ idx && idx < 0x2220 then
      let m := (s.part (idx - 0x2210)).mem
      match sub with
      | 1 => some m.state
      | 2 => some m.n
      | 3 => some m.f
      | 4 => some (if m.state = 0 then 0 else m.due m.next)
      | 5 => some m.b
      | 6 => some m.w
      | 7 => some m.cap
      | 8 => some (b2n m.gambit)
      | _ => none
    else if 0x38A0 ≤ idx && idx < 0x38B0 && sub = 1 then some (s.part (idx - 0x38A0)).harts.length
    else if 0x4040 ≤ idx && idx < 0x4070 && sub = 4 then some (s.sdie (idx - 0x4040)).spares
    else if 0x8400 ≤ idx && idx < 0x8410 && sub = 4 then some (s.part (idx - 0x8400)).recd.mode
    else if 0x8410 ≤ idx && idx < 0x8420 && sub = 1 then some (b2n (s.part (idx - 0x8410)).mem.digest)
    else none

/-- Groups that a condition picks, as a mask. -/
def Pkg.groupMask (s : Pkg) (f : TGroup → Bool) : Nat := maskOf ((List.range 4).filter (fun g => f (s.group g)))

/-- Touched stripes of a group (09:R289). -/
def Pkg.touchedOf (s : Pkg) (g : Nat) : Nat :=
  s.tier.regions.foldl (fun n (e : Nat × TRegion) => n + (e.2.touched.filter (fun k => decide ((e.2.place k).1 = g))).length) 0

/-- Entries of the tiers and of Lenpel (09:R299, 10:R326). -/
def Pkg.liveC (s : Pkg) (idx sub : Nat) : Option Nat :=
  match idx, sub with
  | 0x4100, 1 => some (s.groupMask (fun g => g.formed))
  | 0x4100, 2 => some (s.groupMask (fun g => g.formed && !g.weak.isEmpty))
  | 0x4100, 3 => some (((List.range 4).filter (fun g => (s.group g).formed)).foldl (fun m g => if m = 0 then (s.group g).gib else min m (s.group g).gib) 0)
  | 0x4100, 4 => some s.extentsTotal
  | 0x4100, 5 => some s.extentsFree
  | 0x4100, 6 => some (s.tier.regions.filter (fun (e : Nat × TRegion) => e.2.st ≠ 0)).length
  | _, _ =>
    if 0x4110 ≤ idx && idx < 0x4120 then
      let p := idx - 0x4110
      match sub with
      | 2 => some (s.partExtents p (fun _ => true))
      | 3 => some (s.partExtents p (fun r => r.borrowed))
      | 4 => some (s.partExtents p (fun r => r.pinned))
      | _ => none
    else if 0x4200 ≤ idx && idx < 0x4230 then
      let q := idx - 0x4200
      let x := s.lport q
      let d := x.disc.getD []
      let g := s.group (grpOf q)
      match sub with
      | 1 => some x.st.code
      | 5 => some (fld d 4 4)
      | 6 => some (fld d 8 8)
      | 7 => some (fld d 20 4)
      | 8 => some x.rtt
      | 9 => some (b2n x.stale)
      | 0x0A => some (if bit g.rebuilding (posOf q) then (Tab.get [] g.built (posOf q)).length * 1000 / max 1 (s.touchedOf (grpOf q)) else 0)
      | _ => none
    else if 0x4400 ≤ idx && idx < 0x4800 then
      let r := s.region (idx - 0x4400)
      match sub with
      | 1 => some r.st
      | 2 => some r.part
      | 3 => some (r.fmt % 16 + 16 * b2n r.scaled)
      | 4 => some r.packets
      | 5 => some (b2n r.borrowed)
      | 6 => some (b2n r.pinned)
      | 7 => some r.last
      | 8 => some r.gen
      | _ => none
    else none

/-- Entries of Atnik and of the collectives (11:R374, 12:R401). -/
def Pkg.liveD (s : Pkg) (idx sub : Nat) : Option Nat :=
  match idx, sub with
  | 0x5000, 2 => some s.net.slot
  | 0x5000, 3 => some s.net.epoch
  | 0x5000, 4 => some (Config.serialHash % 2 ^ 64)
  | 0x5000, 8 => some (s.net.ctxs.filter (fun (e : Nat × Ctx) => e.2.live)).length
  | 0x5000, 0x0B => some (s.net.once.foldl (fun n (e : Nat × List Once) => n + e.2.length) 0)
  | _, _ =>
    if 0x5010 ≤ idx && idx < 0x5020 && sub = 1 then some (s.ent (0x2000 + (idx - 0x5010)) 5)
    else if 0x5810 ≤ idx && idx < 0x5820 && sub = 1 then some (s.ent (0x2000 + (idx - 0x5810)) 4)
    else if 0x5040 ≤ idx && idx < 0x5058 then
      let x := s.port (idx - 0x5040)
      match sub with
      | 1 => some x.st.code
      | 5 => some x.width
      | 6 => some x.version
      | 7 => some (match x.partner with | some p => p.kind | none => 0xFF)
      | 8 => some (match x.partner with | some p => p.identity | none => 0)
      | 9 => some (match x.partner with | some p => p.epoch | none => 0)
      | 0x0A => some (match x.partner with | some p => p.node | none => 0xFFFFFFFF)
      | _ => none
    else none

/-- Entries of power and heat, firmware and security; `fmax` gives a tile's fused maximum (15:R473, 17:R532). -/
def Pkg.liveE (s : Pkg) (fmax : Nat → Nat) (idx sub : Nat) : Option Nat :=
  let w := s.pow
  let h := s.fw.holdup
  match idx, sub with
  | 0x6000, 5 => some w.inputW
  | 0x6000, 6 => some s.pins.vin
  | 0x6000, 7 => some (w.energy / 1000000000)
  | 0x6000, 8 => some (w.aux / 1000000000)
  | 0x6000, 9 => some (leNat (natBe 8 (w.energy / 1000000000) ++ natBe 8 w.sampleNow))
  | 0x6000, 0x0A => some w.target
  | 0x6000, 0x0B => some ((w.duty.map (fun (e : Nat × Nat) => e.1) ++ w.heat.map (fun (e : Nat × Nat) => e.1)).foldl (fun m d => min m (w.dutyOf d)) 16)
  | 0x6000, 0x0C => some (maskOf (([1, 2, 3, 4, 5] : List Nat).filter (fun r => decide (Tab.get 0 w.active r ≠ 0))))
  | 0x6000, 0x0D => some s.binding
  | 0x6000, 0x0E => some w.slope
  | 0x6000, 0x0F => some (b2n w.brake)
  | 0x6010, r => some (s.ent 0x6010 r + (if Tab.get 0 w.active r = 0 then 0 else s.tempo.now + 1 - Tab.get 0 w.active r))
  | 0x6300, r => some (w.good (r - 1))
  | 0x7000, 1 => some s.fw.st
  | 0x7000, 3 => some s.fw.slot
  | 0x7000, 4 => some s.fw.fuses.minVersion
  | 0x7001, k => some (fld (Tab.get [] s.fw.n0.slots (k - 1)) 16 4)
  | 0x7010, 1 => some (if h.calibrated then min h.ev h.eq / 1000000 else 0)
  | 0x7010, 2 => some (h.ev / 1000000)
  | 0x7010, 3 => some (h.eq / 1000000)
  | 0x7010, 4 => some h.mv
  | 0x7010, 5 => some (b2n h.calibrated)
  | 0x7020, 2 => some (Config.random s.fw.nonce % 2 ^ 384)
  | 0x7020, 3 => some (leNat s.fw.fuses.platformKey)
  | 0x7022, k => some (leNat (Tab.get [] s.fw.meas (k - 1)))
  | _, _ => if 0x6100 ≤ idx && idx < 0x6130 then some (fmax ((idx - 0x6100) * 128 + (sub - 1))) else none

/-- The value of an entry that a row of the table holds (16:R475). -/
def Pkg.entryVal (s : Pkg) (fmax : Nat → Nat) (idx sub : Nat) : Nat :=
  (((((s.liveA idx sub).or (s.liveB idx sub)).or (s.liveC idx sub)).or (s.liveD idx sub)).or (s.liveE fmax idx sub)).getD (s.ent idx sub)

/-- What R475 says of one entry, with its place. -/
structure Entry where
  idx : Nat := 0
  sub : Nat := 0
  ty : Nat := 0
  len : Nat := 0
  acc : Nat := 0
  lvl : Nat := 0
  sto : Nat := 0
  /-- partition tag; 0xFF none -/
  tag : Nat := 0xFF
  /-- value of a subindex 0 that only counts (16:R477) -/
  count : Option Nat := none
deriving DecidableEq, Repr, Inhabited

/-- Partition tag of an entry of a row (16:R475). -/
def DRow.tagOf (r : DRow) (idx sub : Nat) : Nat := if r.tag = 1 then idx - r.idx else if r.tag = 2 then sub - 1 else 0xFF

/-- An entry of a row, or the count that subindex 0 reads as (16:R477). -/
def plainEntry (idx sub : Nat) : Option Entry :=
  match dictRow idx sub with
  | some r => some { idx := idx, sub := sub, ty := r.ty, len := r.len, acc := r.acc, lvl := r.lvl, sto := r.sto, tag := r.tagOf idx sub }
  | none =>
    if sub ≠ 0 then none
    else
      match dictRows.filter (fun r => r.idx ≤ idx && decide (idx < r.idx + r.n)) with
      | [] => none
      | r :: rest =>
        some { idx := idx, sub := 0, ty := 1, len := 1, acc := 0, tag := if r.tag = 1 then idx - r.idx else 0xFF
               count := some (rest.foldl (fun m r => max m r.hi) r.hi) }

/-- A mirror's value (16:R507). -/
def isMirror (idx sub : Nat) : Bool := decide (0xA000 ≤ idx) && decide (idx < 0xC000) && sub = 2

/-- The entry an address names; a mirror's value is its target's entry, one level deep. None is NOT_FOUND (16:R481, R507). -/
def Pkg.entryAt (s : Pkg) (idx sub : Nat) : Option Entry :=
  if isMirror idx sub then
    let t := s.ent idx 1
    let i := bits t 23 8
    if bit t 31 && !(isMirror i (t % 256)) then plainEntry i (t % 256) else none
  else plainEntry idx sub

/-- A value without its reserved bits, which ignore writes and read as zero (00:R15; 02:R73, 10:R326, 11:R374, 18:R557). -/
def Entry.value (e : Entry) (v : Nat) : Nat :=
  if e.idx = 0x1010 && e.sub = 1 then v % 2 ^ 16
  else if e.idx = 0x3882 then v % 4
  else if e.idx = 0x5000 && e.sub = 7 then v % 2 ^ 24
  else if 0x4200 ≤ e.idx && e.idx < 0x4230 && e.sub = 4 then v % 2 ^ 24
  else if 0x5040 ≤ e.idx && e.idx < 0x5058 && e.sub = 4 then v % 2 ^ 24
  else if 0x5100 ≤ e.idx && e.idx < 0x5200 then v % 2 ^ 58 + v / 2 ^ 63 * 2 ^ 63
  else if 0x5200 ≤ e.idx && e.idx < 0x5300 then v % 2 ^ 17 + v / 2 ^ 31 * 2 ^ 31
  else v

/-- The bytes of a value: numbers in network byte order, strings and BLOBs as they are (16:R490). -/
def wireVal (ty len v : Nat) : List Byte := if ty = 12 || ty = 13 then natLe len v else natBe len v

/-- The value of wire bytes. -/
def valOf (ty : Nat) (bs : List Byte) : Nat := if ty = 12 || ty = 13 then leNat bs else beNat bs

/-- What an entry reads as: a write-only entry reads 0 (16:R478). -/
def Pkg.readVal (s : Pkg) (fmax : Nat → Nat) (e : Entry) : Nat :=
  if e.acc = 3 then 0 else (e.count.getD (s.entryVal fmax e.idx e.sub)) % 256 ^ e.len

end Sys2Proof
end

