-- ==== Sys2Proof/Machine/FwOps.lean ====
section
/-!
DEFINITION. Root firmware's shared operations: the hold-up bank, commits to N0, saved entries, images and updates, unlocked
writes (16:R480, 17).
-/

namespace Sys2Proof

/-- Change firmware's state. -/
def Pkg.onFw (s : Pkg) (f : Fw → Fw) : Pkg := { s with fw := f s.fw }

/-- A commit waits for its turn (17:R514). -/
def Pkg.addCommit (s : Pkg) (c : Commit) : Pkg := s.onFw (fun w => { w with commits := w.commits ++ [{ c with since := s.tempo.local_ }] })

/-- Energy in use in nJ; none while the counter is uncalibrated (17:R514, R515). -/
def Holdup.energy (h : Holdup) : Option Nat := if h.calibrated then some (min h.ev h.eq) else none

/-- E_need of a commit of b bytes in hundredths of nJ: 1.5 × 20 W × (1 ms + b / 64 MB/s) (17:R514). -/
def need100 (b : Nat) : Nat := 3000000000 + 46875 * b

/-- The bank can finish a commit of b bytes (17:R514). -/
def Holdup.allows (h : Holdup) (b : Nat) : Bool := match h.energy with
  | some e => decide (need100 b ≤ 100 * e)
  | none => false

/-- The bank's parameters: C in µF, V_full and V_floor in mV (17:R513). -/
def Pkg.bankC (s : Pkg) : Nat := s.ent 0x7010 8
def Pkg.bankFull (s : Pkg) : Nat := s.ent 0x7010 9
def Pkg.bankFloor (s : Pkg) : Nat := s.ent 0x7010 0x0A

/-- Voltage estimate in nJ (17:R514). -/
def Pkg.estV (s : Pkg) (mv : Nat) : Nat := s.bankC * (mv * mv - s.bankFloor * s.bankFloor) / 2000

/-- Charge estimate in nJ of a charge in nC (17:R514). -/
def Pkg.estQ (s : Pkg) (q : Int) : Nat := (q.toNat * s.bankFloor + q.toNat * q.toNat / (2 * max 1 s.bankC)) / 1000

/-- The samples that stand near V_full, with the present one (17:R515). -/
def Pkg.fullRun (s : Pkg) (mv : Nat) (ma : Int) : Option (Nat × List (Nat × Nat)) :=
  let now := s.tempo.local_
  let far := if mv < s.bankFull then s.bankFull - mv else mv - s.bankFull
  if 100 * far ≤ s.bankFull && decide (ma.natAbs < 10) then
    match s.fw.holdup.full with
    | none => some (now, [(now, mv)])
    | some (t, l) => some (t, (now, mv) :: l.filter (fun e => decide (now ≤ e.1 + 1000000000)))
  else none

/-- Those samples confirm a full bank: 1 s of them, varying by less than 0.1 % (17:R515). -/
def confirmsFull (now mv : Nat) : Option (Nat × List (Nat × Nat)) → Bool
  | none => false
  | some (t, l) => decide (t + 1000000000 ≤ now) && decide (1000 * (l.foldl (fun m e => max m e.2) mv - l.foldl (fun m e => min m e.2) mv) < mv)

/-- The two estimates conflict (17:R516). -/
def estConflict (ev eq : Nat) : Bool :=
  (decide (eq = 0) && decide (200000000 ≤ ev)) || decide (max ev eq < 5 * (max ev eq - min ev eq))

/-- HOLDUP_ESTIMATE, each 1 ms: VHOLD in mV and the bank's current in mA, positive in (17:R514 to R516). -/
def holdupEstimate (s : Pkg) (mv : Nat) (ma : Int) : Pkg :=
  let now := s.tempo.local_
  let h := s.fw.holdup
  if now < h.at_ + 1000000 then s
  else
    let q := h.q + ma * 1000
    let run := s.fullRun mv ma
    let h := { h with mv := mv, q := q, ev := s.estV mv, eq := s.estQ q, full := run, at_ := now }
    if h.calibrated && estConflict h.ev h.eq then
      ((s.onFw (fun w => { w with holdup := { h with calibrated := false, full := none } })).bump 0x7010 6 1).raise 0x0706 0xFF [h.ev / 1000000, h.eq / 1000000]
    else if !h.calibrated && confirmsFull now mv run then
      let q := s.bankC * (mv - s.bankFloor)
      (s.onFw (fun w => { w with holdup := { h with calibrated := true, q := q, eq := s.estQ q } })).raise 0x0708 0xFF [q / 1000]
    else s.onFw (fun w => { w with holdup := h })

/-- HOLDUP_DEFERRED: a commit has waited more than 100 ms (17:R515). -/
def holdupDeferred (s : Pkg) : Pkg :=
  let late (c : Commit) : Bool := !c.started && !c.told && decide (c.since + 100000000 < s.tempo.local_)
  match s.fw.commits.find? late with
  | none => s
  | some c =>
    let s := s.onFw (fun w => { w with commits := mapIf (fun (x : Commit) => x = c) (fun x => { x with told := true }) w.commits })
    (s.bump 0x7010 7 1).raise 0x0707 0xFF [c.kind, need100 c.bytes / 100000000, (s.fw.holdup.energy.getD 0) / 1000000]

/-- What the saved entries that wait hold now (16:R480). -/
def Pkg.pendingVals (s : Pkg) : Tab Nat := s.fw.pending.foldl (fun t k => Tab.insert t k (s.ent (k / 256) (k % 256))) []

/-- N0_COMMIT: the oldest commit starts, when the bank can finish it; on VHOLD alone none starts (17:R514, 18:R539). -/
def commitStart (s : Pkg) : Pkg :=
  match s.fw.commits with
  | [] => s
  | c :: rest =>
    if c.started || s.fw.n0.lost || !s.fw.vaux || !(s.fw.holdup.allows c.bytes) then s
    else
      let c := { c with started := true, vals := if c.kind = 2 then s.pendingVals else c.vals }
      s.onFw (fun w => { w with commits := c :: rest, epochCommit := w.epochCommit || decide (c.kind = 0), nextSince := if c.kind = 2 then none else w.nextSince })

/-- Bytes put over a string at an offset. -/
def splice (bs : List Byte) (off : Nat) (d : List Byte) : List Byte := padTo off bs ++ d ++ bs.drop (off + d.length)

/-- Header bytes of an image (17:R518). -/
def hdrLen : Nat := 512

/-- Bytes of a copy, for its digest: the spec gives no encoding of an area's contents (log entry 101). -/
def AreaCopy.bytes (c : AreaCopy) : List Byte :=
  c.nums.flatMap (natLe 8) ++ c.vals.flatMap (fun (e : Nat × Nat) => natLe 8 e.1 ++ natLe 256 e.2) ++ c.data

/-- A copy's digest checks; a copy as made holds nothing and is sound (17:R512). -/
def AreaCopy.sound (c : AreaCopy) : Bool := !c.spoilt && (decide (c.count = 0) || decide (c.digest = Config.sha384 c.bytes))

/-- Copy A (0) or B (1) of an area. -/
def N0.copy (n : N0) (area k : Nat) : AreaCopy := Tab.get {} n.copies (2 * area + k)

/-- The copy of an area that is in force: the one with the higher count whose digest checks (17:R512). -/
def N0.area (n : N0) (area : Nat) : Option AreaCopy :=
  let a := n.copy area 0
  let b := n.copy area 1
  if a.sound && (!b.sound || decide (b.count ≤ a.count)) then some a else if b.sound then some b else none

/-- What is in force of the boot record, the patch area, the saved entries and the fault map. -/
def N0.epoch (n : N0) : Nat := ((n.area 0).getD {}).nums.getD 0 0
def N0.boots (n : N0) : Nat := ((n.area 0).getD {}).nums.getD 1 0
def N0.patch (n : N0) : List Byte := ((n.area 1).getD {}).data
def N0.saved (n : N0) : Tab Nat := ((n.area 2).getD {}).vals
def N0.map (n : N0) : Tab Nat := ((n.area 3).getD {}).vals

/-- The copy of an area that a commit writes: the older one, an unsound one first (17:R512). -/
def N0.older (n : N0) (area : Nat) : Nat :=
  let a := n.copy area 0
  let b := n.copy area 1
  if !a.sound then 0 else if !b.sound || b.count ≤ a.count then 1 else 0

/-- A commit writes the older copy of an area completely, its trailer last (17:R512). -/
def N0.putArea (n : N0) (area len : Nat) (c : AreaCopy) : N0 :=
  let count := max (n.copy area 0).count (n.copy area 1).count + 1
  let c := { c with count := count, len := len, digest := Config.sha384 c.bytes, spoilt := false }
  { n with copies := Tab.set {} n.copies (2 * area + n.older area) c }

/-- A copy whose digest does not check any more. -/
def N0.spoil (n : N0) (k : Nat) : N0 := { n with copies := Tab.set {} n.copies k { (Tab.get {} n.copies k : AreaCopy) with spoilt := true } }

/-- The area with two copies that a commit writes (17:R512). -/
def Commit.area (c : Commit) : Option Nat := if c.kind < 4 then some c.kind else if c.kind = 7 then some 2 else none

/-- What a finished commit leaves in N0; `map` is the fault map in M-die memory (17:R512, R520, log entry 101). -/
def N0.after (n : N0) (c : Commit) (boots : Nat) (h : Holdup) (map : Tab Nat) : N0 :=
  match c.kind with
  | 0 => n.putArea 0 c.bytes { nums := [c.value, boots, b2n h.calibrated, ofSigned 64 h.q] }
  | 1 => n.putArea 1 c.bytes { data := c.data }
  | 2 => n.putArea 2 c.bytes { vals := c.vals.foldl (fun t (e : Nat × Nat) => Tab.insert t e.1 e.2) n.saved }
  | 3 => n.putArea 3 c.bytes { vals := map }
  | 4 => { n with records := (padTo 256 c.data :: n.records).take 4096 }
  | 7 => n.putArea 2 c.bytes { vals := Tab.insert n.saved c.key c.value }
  | k =>
    let old := Tab.get [] n.slots (k - 5)
    let img := if c.value = 1 then splice old 0 c.data else splice (splice old c.key c.data) 0 (natLe hdrLen 0)
    { n with slots := Tab.insert n.slots (k - 5) img }

/-- What a commit that is cut short leaves: its copy does not check; a service slot is not bootable until its header is committed; a record
is not written (17:R512). -/
def N0.cut (n : N0) (c : Commit) : N0 :=
  match c.area, c.kind with
  | some a, _ => n.spoil (2 * a + n.older a)
  | none, 4 => n
  | none, k => { n with slots := Tab.insert n.slots (k - 5) (splice (Tab.get [] n.slots (k - 5)) 0 (natLe hdrLen 0)) }

/-- The commits that a low RESET_N, or the end of VAUX and VHOLD, cuts short. -/
def Fw.cutCommits (w : Fw) : N0 := if w.n0.lost then w.n0 else (w.commits.filter (·.started)).foldl N0.cut w.n0

/-- N0_COMMIT_COMPLETE: the trailer is written (16:R480, 17:R512, 13:R417). -/
def commitDone (s : Pkg) (map : Tab Nat) : Pkg :=
  match s.fw.commits with
  | [] => s
  | c :: rest =>
    if !c.started then s
    else if s.fw.n0.lost then s.onFw (fun w => { w with commits := rest })
    else
      let s := s.onFw (fun w => { w with commits := rest, n0 := w.n0.after c w.boots w.holdup map })
      match c.kind with
      | 2 =>
        let left := s.fw.pending.filter (fun k => Tab.find c.vals k ≠ some (s.ent (k / 256) (k % 256)))
        (s.onFw (fun w => { w with pending := left, pendingSince := w.nextSince.getD s.tempo.local_, nextSince := none, failedTold := false
                                   byRequest := w.byRequest.filter left.contains })).setEnt 0x1200 3 s.tempo.now
      | 3 => { s with fault := { s.fault with pendingMap := false } }
      | _ => s

/-- The pending set is to be committed now: not where a commit that takes its values is on the way, unless entries have been written since it
took them (16:R480). -/
def persistNow (s : Pkg) : Pkg :=
  if s.fw.pending.isEmpty || s.fw.commits.any (fun c => decide (c.kind = 2) && !(c.started && s.fw.nextSince.isSome)) then s
  else s.addCommit { kind := 2, bytes := 1048576 }

/-- SAVED_ENTRY_COMMIT: pending entries are committed; 2 s after the first pending write without it, PERSIST_FAILED
(16:R480). -/
def savedCommit (s : Pkg) : Pkg :=
  let s := persistNow s
  if s.fw.pending.isEmpty || s.fw.failedTold || decide (s.tempo.local_ < s.fw.pendingSince + 2000000000) then s
  else ((s.onFw (fun w => { w with failedTold := true })).bump 0x1200 4 1).raise 0x0908 0xFF [s.fw.pending.length]

/-- A saved entry is written: it waits for its commit (16:R480). -/
def Pkg.markSaved (s : Pkg) (key : Nat) : Pkg :=
  s.onFw (fun w => { w with pending := if w.pending.contains key then w.pending else w.pending ++ [key]
                            pendingSince := if w.pending.isEmpty then s.tempo.local_ else w.pendingSince
                            nextSince := if w.nextSince.isNone && w.commits.any (fun c => c.started && decide (c.kind = 2)) then some s.tempo.local_ else w.nextSince
                            byRequest := w.byRequest.filter (· ≠ key) })

/-- Why root firmware rejects an image; 0 accepted: 1 header, 2 key, 3 signature, 4 digest, 5 version (17:R518, R519). -/
def Pkg.imageCheck (s : Pkg) (kind max : Nat) (bs : List Byte) : Nat :=
  let k := byteAt bs 5
  let n := fld bs 20 4
  let pk := Sys2Proof.slice bs 80 96
  if fld bs 0 4 ≠ 0x49574B59 || byteAt bs 4 ≠ kind || !(zeroAt bs 6 2) || !(zeroAt bs 272 240) || decide (bs.length < hdrLen) || decide (max < n) then 1
  else if 3 < k || bit s.fw.fuses.revoked k || Config.sha384 pk ≠ Config.fusedKeyHash k then 2
  else if !(Config.ecdsaVerify pk (Config.sha384 (bs.take 176)) (Sys2Proof.slice bs 176 96)) then 3
  else if Config.sha384 (Sys2Proof.slice bs hdrLen n) ≠ Sys2Proof.slice bs 32 48 then 4
  else if fld bs 8 8 < s.fw.fuses.minVersion then 5
  else 0

/-- The check of a slot's image: 0 A, 1 B, 2 the root patch (17:R518). -/
def Pkg.slotCheck (s : Pkg) (slot : Nat) (bs : List Byte) : Nat :=
  if slot = 2 then s.imageCheck 1 (524288 - hdrLen) bs else s.imageCheck 2 0x1800000 bs

/-- Bytes of a slot (17:R512). -/
def slotSize (slot : Nat) : Nat := if slot = 2 then 524288 else 0x4000000

/-- The update's target, and where its next chunk goes (17:R520). -/
def Pkg.updSlot (s : Pkg) : Nat := s.ent 0x7002 1
def Pkg.updOff (s : Pkg) : Nat := s.ent 0x7002 2

/-- A write of fw.update_slot takes effect. -/
def updateSlot (s : Pkg) (v : Nat) : Pkg := (s.onFw (fun w => { w with update := [] })).setEnt 0x7002 1 v

/-- A write of fw.update_offset: 0 begins an image (17:R520). -/
def updateOffset (s : Pkg) (v : Nat) : Pkg := (if v = 0 then s.onFw (fun w => { w with update := [] }) else s).setEnt 0x7002 2 v

/-- A write of fw.update_chunk: the bytes go to the offset, and a slot is unbootable until its header commit (17:R512, R520). -/
def updateChunk (s : Pkg) (d : List Byte) : Pkg :=
  let off := s.updOff
  let slot := s.updSlot
  let s := (s.onFw (fun w => { w with update := splice w.update off d })).setEnt 0x7002 2 (off + 4096)
  if slot = 2 then s else s.addCommit { kind := 5 + slot, bytes := d.length, key := off, data := d }

/-- A write of 1 to fw.update_commit: the whole slot is verified (17:R520). -/
def updateCommit (s : Pkg) : Pkg :=
  let slot := s.updSlot
  let img := s.fw.update
  let c := s.slotCheck slot img
  if c ≠ 0 then s.raise 0x0705 0xFF [slot, c]
  else
    let s := if slot = 2 then s.addCommit { kind := 1, bytes := 524288, data := img }
      else s.addCommit { kind := 5 + slot, bytes := hdrLen, data := img.take hdrLen, value := 1 }
    s.raise 0x0704 0xFF [slot, fld img 16 4]

/-- An unlock record names the revocation bits of the image keys. The spec gives their index and subindex nowhere; they are no entry of
its tables (17:R517, log entry 102). -/
def isRevoke (idx sub : Nat) : Bool := (plainEntry idx sub).isNone && decide (dkey idx sub = Config.revokeEntry)

/-- The fuse entries (17:R517, R528). -/
def isFuse (idx sub : Nat) : Bool :=
  (decide (idx = 0x7000) && decide (sub = 4)) || (decide (idx = 0x7020) && decide (sub = 3)) || isRevoke idx sub

/-- Why an unlock record is refused; 0 applied. Its fields are in network byte order, as those of every BLOB a PAP message carries
(17:R528, 16:R490, log entry 57). -/
def Pkg.unlockCheck (s : Pkg) (r : List Byte) : Nat :=
  let idx := beNat (Sys2Proof.slice r 0 2)
  let sub := byteAt r 2
  let n := beNat (Sys2Proof.slice r 4 4)
  let hash := Config.sha384 (r.take 128 ++ natBe 8 (Config.serialHash % 2 ^ 64))
  let by_ (k : List Byte) : Bool := Config.ecdsaByHash k hash (Sys2Proof.slice r 128 96)
  let fuse := isFuse idx sub
  let signed := if fuse then (List.range 4).any (fun k => !(bit s.fw.fuses.revoked k) && by_ (Config.fusedKeyHash k)) else by_ s.fw.fuses.platformKey
  let v := match plainEntry idx sub with
    | some e => valOf e.ty (Sys2Proof.slice r 56 n)
    | none => 0
  if !fuse && s.fw.fuses.platformKey.isEmpty then 5
  else if !signed then 1
  else if Sys2Proof.slice r 8 48 ≠ natLe 48 (Config.random s.fw.nonce) then 2
  else if isRevoke idx sub then
    (if n = 0 || 64 < n || !(zeroAt r (56 + n) (64 - n)) || decide (15 < beNat (Sys2Proof.slice r 56 n)) then 4 else 0)
  else
    match plainEntry idx sub with
    | none => 3
    | some e =>
      if (e.acc ≠ 4 && !fuse) then 3
      else if n ≠ e.len || !(zeroAt r (56 + n) (64 - n)) then 4
      else if idx = 0x7000 && (decide (v < s.fw.fuses.minVersion) || decide (64 < v)) then 4
      else if idx = 0x7020 && !s.fw.fuses.platformKey.isEmpty then 4
      else 0

/-- SEC_UNLOCK: an unlock record; every attempt replaces the nonce (17:R528). -/
def secUnlock (s : Pkg) (r : List Byte) : Pkg :=
  let c := s.unlockCheck r
  let s := s.onFw (fun w => { w with nonce := w.draws + 1, draws := w.draws + 1 })
  if c ≠ 0 then s.raise 0x070C 0xFF [c]
  else
    let idx := beNat (Sys2Proof.slice r 0 2)
    let sub := byteAt r 2
    let val := Sys2Proof.slice r 56 (beNat (Sys2Proof.slice r 4 4))
    let v := match plainEntry idx sub with
      | some e => valOf e.ty val
      | none => 0
    let s := if isRevoke idx sub then s.onFw (fun w => { w with fuses := { w.fuses with revoked := w.fuses.revoked ||| beNat val } })
      else if idx = 0x7000 then s.onFw (fun w => { w with fuses := { w.fuses with minVersion := v } })
      else if idx = 0x7020 then s.onFw (fun w => { w with fuses := { w.fuses with platformKey := val } })
      else (s.setEnt idx sub v).addCommit { kind := 7, bytes := 1048576, key := dkey idx sub, value := v }
    s.raise 0x070B 0xFF [dkey idx sub]

end Sys2Proof
end

