-- ==== Sys2Proof/Machine/DictWrite.lean ====
section
/-!
DEFINITION. Writes of dictionary entries: rights, ranges, states, invariants, and what a write does (16:R476 to R480, R486, R487,
R496, R497, R506, and the owning chapters' rules).
-/

namespace Sys2Proof

/-- Status codes (16:R496). -/
def pOK : Nat := 0
def pNotFound : Nat := 1
def pDenied : Nat := 2
def pExpert : Nat := 3
def pBadType : Nat := 4
def pRange : Nat := 5
def pBadState : Nat := 6
def pConflict : Nat := 7
def pOwned : Nat := 8
def pBusy : Nat := 9
def pLocked : Nat := 0x0A
def pOverridden : Nat := 0x0B
def pTruncated : Nat := 0x0C
def pNotApplied : Nat := 0x0D
def pMalformed : Nat := 0x0E

/-- The session may send more than READ and SUBSCRIBE: it is mutually authenticated and, on I3C, a key is set (16:R502, 17:R526). -/
def Pkg.mutual (s : Pkg) (x : Session) : Bool := x.mutual_ && !(decide (x.path = .i3c) && s.i3cKey.isEmpty)

/-- The session may write under the entry's access code: ownership and delegations as `k` has them (16:R478, R487). -/
def Pkg.mayWrite (k : Pkg) (x : Session) (e : Entry) : Bool :=
  k.mutual x && (k.mgmt.isOwner x || (decide (e.acc = 2) && decide (e.tag < 16) && decide (k.ent (0x1110 + e.tag) 1 = x.id)))

/-- The session holds an expert grant (16:R479). -/
def Pkg.granted (k : Pkg) (x : Session) : Bool := match k.session x.id with
  | some y => y.grant
  | none => false

/-- Highest value of an ENUM8 that its chapter lists (16:R476). -/
def enumTop (idx sub : Nat) : Nat :=
  if idx = 0x1010 then (if sub = 3 then 6 else 1)
  else if 0x5010 ≤ idx && idx < 0x5020 then 3
  else if 0x8000 ≤ idx && idx < 0x8010 then 2
  else 1

/-- Within bounds. -/
def inBounds (lo hi v : Nat) : Bool := decide (lo ≤ v) && decide (v ≤ hi)

/-- A value of the entry's type is in the range its chapter gives (16:R476, R497). -/
def valueOk (e : Entry) (v : Nat) : Bool :=
  let ty := match e.ty with
    | 9 => decide (v ≤ 1)
    | 10 => decide (v ≤ enumTop e.idx e.sub) && !(decide (e.idx = 0x1010) && decide (e.sub = 3) && decide (v = 0))
    | _ => true
  let own := match e.idx, e.sub with
    | 0x1100, 3 => inBounds 3000 60000 v
    | 0x1100, 5 => decide (v < 8)
    | 0x6000, 1 => inBounds 6000 22000 v
    | 0x6000, 2 => inBounds 6000 22000 v
    | 0x6000, 4 => decide (v ≤ 550)
    | 0x6000, 0x10 => inBounds 85 100 v
    | 0x7002, 1 => decide (v ≤ 2)
    | 0x5000, 7 => inBounds 1 255 (v % 256) && inBounds 1 255 (v / 256 % 256) && inBounds 1 255 (v / 65536)
    | 0x5000, 1 => decide (v < 2 ^ 17) || decide (v = 0xFFFFFFFF)
    | 0x2201, _ => decide (v < 2 ^ 17) || decide (v = 0xFFFFFFFF)
    | 0x2204, 2 => decide (v ≤ 127)
    | i, 2 => if 0x2000 ≤ i && i < 0x2010 then inBounds 1 (2 ^ 48 - 1) v else true
    | i, 3 =>
      if 0x2000 ≤ i && i < 0x2010 then decide (v ≤ 1520)
      else if 0x8410 ≤ i && i < 0x8420 then decide (v ≠ 0)
      else true
    | i, 4 => if 0x2000 ≤ i && i < 0x2010 then inBounds 4096 98304 v && decide (v % 64 = 0) else true
    | i, 5 => if 0x2000 ≤ i && i < 0x2010 then inBounds 1 0xFFFFFF v else true
    | _, _ => true
  ty && own

/-- Partitions whose bits a new mask changes. -/
def changedBits (a b : Nat) : List Nat := (List.range partMax).filter (fun p => bit a p != bit b p)

/-- The subsystem's state allows the write now (16:R497). -/
def Pkg.stateOk (s : Pkg) (idx sub v : Nat) : Bool :=
  let empty (p : Nat) : Bool := (s.part p).st == .empty
  let live (sts : List PState) : Bool := (List.range partMax).any (fun p => sts.contains (s.part p).st)
  if 0x2000 ≤ idx && idx < 0x2010 then empty (idx - 0x2000)
  else if 0x4110 ≤ idx && idx < 0x4120 then empty (idx - 0x4110)
  else if idx = 0x1010 && sub = 1 then (changedBits (s.ent 0x1010 1) v).all empty
  else if idx = 0x3881 || idx = 0x3882 then let st := (s.part (sub - 1)).st
    st == .empty || st == .loading
  else if 0x8400 ≤ idx && idx < 0x8420 then let x := s.part (idx % 16)
    decide (x.recd.mode = 0) && !x.mem.digest
  else if 0x5010 ≤ idx && idx < 0x5020 then (s.part (idx - 0x5010)).st != .running
  else if idx = 0x5000 && sub = 1 then !(live [.running])
  else if 0x5200 ≤ idx && idx < 0x5300 then !(live [.running, .holding, .checkpointing])
  else if idx = 0x7002 && sub = 1 then decide (v ≠ s.fw.slot)
  else if idx = 0x7002 && (sub = 3 || sub = 4) then decide (s.updSlot ≠ s.fw.slot) && (sub = 4 || decide (s.updOff + 4096 ≤ slotSize s.updSlot))
  else true

/-- A floor write keeps the pool's invariants (09:R275, R276). -/
def Pkg.floorOk (s : Pkg) (p v : Nat) : Bool :=
  let t := s.setEnt (0x4110 + p) 1 v
  let sum := (List.range partMax).foldl (fun n q => n + t.ent (0x4110 + q) 1) 0
  decide (sum ≤ s.extentsTotal) && decide (s.partExtents p (fun r => !r.borrowed) + s.promised (fun c => c.part = p && !c.borrowed) ≤ v) && decide (t.committed ≤ s.extentsTotal)

/-- The write keeps the owning chapter's invariant (16:R497). -/
def Pkg.invariantOk (s : Pkg) (idx sub v : Nat) : Bool :=
  if 0x4110 ≤ idx && idx < 0x4120 then s.floorOk (idx - 0x4110) v
  else if 0x4200 ≤ idx && idx < 0x4230 && sub = 2 then !(s.enableRefused (idx - 0x4200) v)
  else true

/-- Entries that name a session: it must exist, or be 0 where the delegation is revoked (16:R479, R487, R496). -/
def Pkg.namesSession (s : Pkg) (idx sub v : Nat) : Bool :=
  if idx = 0x1100 && (sub = 6 || sub = 7) then (s.session v).isSome
  else if 0x1110 ≤ idx && idx < 0x1120 then decide (v = 0) || (s.session v).isSome
  else true

/-- Status of a checked write, by a session with the rights it has in `k`, of a value of n bytes; 0 passes (16:R476 to R481,
R496, R497, 00:R15). -/
def Pkg.writeCheck (s k : Pkg) (x : Session) (idx sub n v : Nat) : Nat :=
  if 0xF000 ≤ idx then pLocked
  else
    match s.entryAt idx sub with
    | none => pNotFound
    | some e =>
      let v := e.value v
      if e.acc = 0 then pDenied
      else if e.acc = 4 then pLocked
      else if !(k.mayWrite x e) then pDenied
      else if e.lvl = 1 && !(k.granted x) then pExpert
      else if n ≠ e.len then pBadType
      else if !(valueOk e v) then pRange
      else if !(s.namesSession e.idx e.sub v) then pNotFound
      else if !(s.stateOk e.idx e.sub v) then pBadState
      else if !(s.invariantOk e.idx e.sub v) then pConflict
      else pOK

/-- Change a session. -/
def Pkg.setSession (s : Pkg) (id : Nat) (f : Session → Session) : Pkg :=
  { s with mgmt := { s.mgmt with sessions := mapIf (fun (x : Session) => x.id = id) f s.mgmt.sessions } }

/-- An expert grant is given or ends (16:R479, R508). -/
def Pkg.setGrant (s : Pkg) (id : Nat) (on : Bool) : Pkg :=
  match s.session id with
  | none => s
  | some x => if x.grant = on then s else (s.setSession id (fun x => { x with grant := on })).raise 0x0906 0xFF [id, b2n on]

/-- A delegation changes (16:R487, R508). -/
def Pkg.setDelegate (s : Pkg) (p id : Nat) : Pkg :=
  let old := s.ent (0x1110 + p) 1
  let s := s.setEnt (0x1110 + p) 1 id
  if old = id then s else s.raise 0x0905 p [old, id]

/-- ALERT_N causes are cleared; bits 0 and 1 have their own, and what recurs in the cycle stays set (16:R506). -/
def Pkg.clearAlerts (s : Pkg) (v : Nat) : Pkg :=
  let st := s.ent 0x1130 6
  s.putAlerts (maskOf ((List.range 8).filter (fun b => bit st b && (decide (b < 2) || !(bit v b) || bit s.mgmt.fresh b))))

/-- A plain write: the value stands, and a saved entry waits for its commit (16:R480). -/
def Pkg.putEntry (s : Pkg) (e : Entry) (v : Nat) : Pkg :=
  let s := s.setEnt e.idx e.sub v
  if e.sto = 1 then s.markSaved (dkey e.idx e.sub) else s

/-- persist.defaults was written with 1 (16:R480). -/
def persistDefaults (s : Pkg) : Pkg := s.onFw (fun w => { w with n0 := { w.n0 with defaults := true } })

/-- What a write that passed its check does. -/
def Pkg.entryWrite (s : Pkg) (e : Entry) (v : Nat) : Pkg :=
  let i := e.idx
  match i, e.sub with
  | 0x1100, 6 => s.setGrant v true
  | 0x1100, 7 => s.setGrant v false
  | 0x1130, 8 => s.clearAlerts v
  | 0x1200, 2 => if v = 1 then persistNow s else s
  | 0x1200, 5 => if v = 1 then persistDefaults s else s
  | 0x2201, _ => (s.putEntry e v).candidatesChanged
  | 0x7002, 1 => updateSlot s v
  | 0x7002, 2 => updateOffset s v
  | 0x7002, 3 => updateChunk s (natLe 4096 v)
  | 0x7002, 4 => if v = 1 then updateCommit s else s
  | 0x7020, 1 => secUnlock s (natLe 256 v)
  | 0x7030, n =>
    -- a session with the address that stood there is none for the port any more (17:R527)
    if v = s.ent 0x7030 n then s.putEntry e v
    else (s.putEntry e v).setPort (n - 1) { s.port (n - 1) with peer := 0, secret := none, rekeyGot := false }
  | _, 1 => if 0x1110 ≤ i && i < 0x1120 then s.setDelegate (i - 0x1110) v else s.putEntry e v
  | _, 2 =>
    if 0x4200 ≤ i && i < 0x4230 then (s.putEntry e v).lenpelEnable (i - 0x4200) v
    else if 0x5040 ≤ i && i < 0x5058 then (s.putEntry e v).atnikEnable (i - 0x5040) v
    else s.putEntry e v
  | _, _ => s.putEntry e v

/-- A hardware safety action stands on the entry: the value is stored and takes effect when it ends (16:R488, 15:R466, R472). -/
def Pkg.overridden (s : Pkg) (e : Entry) : Bool :=
  decide (e.idx = 0x6000) && decide (e.sub = 1) && (s.pow.brake || !s.pow.gate.isEmpty)

/-- A refused write is ignored; one of an RWL entry is counted (00:R18, log entry 82). -/
def Pkg.ignoreWrite (s : Pkg) (idx c : Nat) : Pkg :=
  if c = pLocked && decide (idx < 0xF000) then { s with mgmt := { s.mgmt with lockedWrites := s.mgmt.lockedWrites + 1 } } else s

/-- A checked write: the status and what it leaves. -/
def Pkg.checkedWrite (s k : Pkg) (x : Session) (idx sub n v : Nat) : Nat × Pkg :=
  let c := s.writeCheck k x idx sub n v
  if c ≠ 0 then (c, s.ignoreWrite idx c)
  else
    match s.entryAt idx sub with
    | none => (pNotFound, s)
    | some e => (if s.overridden e then pOverridden else pOK, s.entryWrite e (e.value v))

end Sys2Proof
end

