-- ==== Sys2Proof/Machine/Pap.lean ====
section
/-!
DEFINITION. The Parameter Access Protocol: messages as they arrive, sessions and their end, READ, WRITE, ownership, and the
dictionary cycle (16:R482 to R503).
-/

namespace Sys2Proof

/-- Header fields of a PAP message (16:R491). -/
def mType (m : List Byte) : Nat := byteAt m 1
def mSession (m : List Byte) : Nat := beNat (Sys2Proof.slice m 4 4)
def mSeq (m : List Byte) : Nat := beNat (Sys2Proof.slice m 8 4)
def mLen (m : List Byte) : Nat := beNat (Sys2Proof.slice m 12 2)

/-- Change the management state. -/
def Pkg.onMgmt (s : Pkg) (f : Mgmt → Mgmt) : Pkg := { s with mgmt := f s.mgmt }

/-- Hand a response to the path of its session: on the management port to where its request came from (16:R489, R498, R501). -/
def Pkg.respond (s : Pkg) (path : Path) (id : Nat) (m : List Byte) (peer : Peer := {}) : Pkg :=
  match path with
  | .ethernet => s.emit (.pap id peer m)
  | .mailbox k =>
    let b := s.mbox k
    let s := s.setMbox k { b with go := false, sent := false, done := true, rspLen := m.length, rsp := Mem.writeN [] 0 m }
    if b.irqRsp then s.emit (.msix k 0) else s
  | .i3c =>
    let s := s.onMgmt (fun g => { g with i3c := { g.i3c with rsp := some m } })
    if s.mgmt.i3c.ibi then s.emit (.ibi 0x01) else s

/-- Answer a request of a session: the response is stored for its sequence number (16:R491, R492). -/
def Pkg.papAnswer (s : Pkg) (x : Session) (type seq status : Nat) (body : List Byte) : Pkg :=
  let m := papMsg (s.keyOf x x.keyRsp) (type + 0x80) status 0 x.id seq body
  (s.setSession x.id (fun y => { y with stored := (seq, m) :: y.stored.filter (fun e => decide (y.high ≤ e.1 + 64) && decide (e.1 ≠ seq)) })).respond x.path x.id m x.peer

/-- A message is discarded: counted, and AUTH_FAILURES raised at most once per second; a mailbox shows it (16:R492, R498,
R508). -/
def Pkg.discardMsg (s : Pkg) (path : Path) (counted : Bool) : Pkg :=
  let s := match path with
    | .mailbox k => let b := s.mbox k
      s.setMbox k { b with go := false, sent := false, dropped := true }
    | _ => s
  if !counted then s
  else
    let s := s.bump 0x1130 5 1
    let c := path.cls
    let n := Tab.get 0 s.mgmt.fails c + 1
    if s.mgmt.failAt = 0 || s.mgmt.failAt + 1000000000 ≤ s.tempo.local_ + 1 then
      (s.onMgmt (fun g => { g with fails := Tab.erase g.fails c, failAt := s.tempo.local_ + 1 })).raise 0x0907 0xFF [c, n]
    else s.onMgmt (fun g => { g with fails := Tab.insert g.fails c n })

/-- Sessions of a path's limit: 16, 4 for each function, 8 (16:R482). -/
def pathLimit : Path → Nat
  | .ethernet => 16 | .mailbox _ => 4 | .i3c => 8

/-- A further session fits (16:R482). -/
def Pkg.roomFor (s : Pkg) (path : Path) : Bool :=
  decide ((s.mgmt.sessions.filter (fun x => x.path = path)).length < pathLimit path)

/-- A session ends, with its grant and its delegations (16:R479, R482, R487). -/
def Pkg.endSession (s : Pkg) (id : Nat) : Pkg :=
  let s := s.setGrant id false
  let s := (List.range partMax).foldl (fun s p => if s.ent (0x1110 + p) 1 = id then s.setDelegate p 0 else s) s
  s.onMgmt (fun g => { g with sessions := g.sessions.filter (fun x => x.id ≠ id), reqs := g.reqs.filter (fun r => r.session ≠ id) })

/-- Number the next I3C session takes: one that no session has (16:R502). -/
def Pkg.freshI3c (s : Pkg) : Nat :=
  ((List.range 33).map (fun i => 0x300 + (s.mgmt.nextI3c + i) % 2 ^ 24)).find? (fun id => (s.session id).isNone) |>.getD 0x300

/-- A RENEW with session 0 on I3C opens a session: its ID, the remaining lease, and a nonce from which its keys come (16:R495, R502). -/
def Pkg.openI3c (s : Pkg) (m : List Byte) : Pkg :=
  let key := s.i3cKey
  let head (status : Nat) (id : Nat) (nonce : List Byte) (k : List Byte) : List Byte :=
    papMsg k 0x84 status 0 0 (mSeq m) (natBe 4 id ++ natBe 4 s.leaseLeft ++ nonce)
  if m.drop (m.length - 16) ≠ macOf key (m.take (m.length - 16)) then s.discardMsg .i3c true
  else if !(s.roomFor .i3c) then s.respond .i3c 0 (head pBusy 0 (natLe 16 0) key)
  else
    let id := s.freshI3c
    let nonce := natLe 16 (Config.random (s.fw.draws + 1))
    let s := s.onFw (fun w => { w with draws := w.draws + 1 })
    let derive (label : String) : List Byte := if key.isEmpty then [] else padTo 48 (Config.hkdf key (nonce ++ ascii label) 48)
    let x : Session :=
      { id := id, path := .i3c, principal := if key.isEmpty then [] else padTo 48 (Config.sha384 key), mutual_ := !key.isEmpty, last := s.tempo.local_
        keyReq := derive "serlys pap req", keyRsp := derive "serlys pap rsp" }
    (s.onMgmt (fun g => { g with sessions := g.sessions ++ [x], nextI3c := g.nextI3c + 1 })).respond .i3c id (head pOK id nonce key)

/-- A message is a well-formed request of a session of the path, under its key; a session without one has none once an I3C key is set (16:R490
to R492, R502). -/
def Pkg.authentic (s : Pkg) (path : Path) (m : List Byte) : Option Session :=
  if m.length < 32 || 1232 < m.length || byteAt m 0 ≠ 1 || 0x80 ≤ mType m || mLen m + 32 ≠ m.length then none
  else
    match s.session (mSession m) with
    | none => none
    | some x =>
      if x.path = path && m.drop (m.length - 16) = macOf (s.keyOf x x.keyReq) (m.take (m.length - 16))
        && !(path = .i3c && !s.i3cKey.isEmpty && x.keyReq.isEmpty) then some x else none

/-- A PAP message arrives on a path, on the management port from an address and port (16:R489 to R492, R502, 17:R522, 18:R552). -/
def papArrive (s : Pkg) (path : Path) (m : List Byte) (peer : Peer := {}) : Pkg :=
  if !s.fw.dict then s.discardMsg path true
  else if path = .i3c && mType m = 4 && mSession m = 0 && decide (32 ≤ m.length) && byteAt m 0 = 1 && mLen m + 32 = m.length then s.openI3c m
  else
    match s.authentic path m with
    | none => s.discardMsg path true
    | some x =>
      let n := mSeq m
      let s := s.setSession x.id (fun y => { y with last := s.tempo.local_, peer := peer })
      if n = 0 || n + 64 < x.high then s.discardMsg path false
      else if n ≤ x.high && x.seen.contains n then
        match x.stored.find? (fun e => e.1 = n) with
        | some e =>
          let h := e.2.take (e.2.length - 16)
          let h := h.take 3 ++ natLe 1 1 ++ h.drop 4
          s.respond path x.id (h ++ macOf (s.keyOf x x.keyRsp) h) peer
        | none => s.discardMsg path false
      else
        let high := max n x.high
        let s := s.setSession x.id (fun y => { y with high := high, seen := n :: y.seen.filter (fun k => decide (high ≤ k + 64)) })
        let r : Request := { session := x.id, seq := n, type := mType m, body := Sys2Proof.slice m 16 (mLen m), peer := peer }
        s.onMgmt (fun g => { g with reqs := g.reqs ++ [r] })

/-- Length of a value in a body, with its padding to 4 bytes. -/
def pad4 (n : Nat) : Nat := (n + 3) / 4 * 4

/-- One item of a READ or WRITE body (16:R493). -/
structure PapItem where
  idx : Nat := 0
  sub : Nat := 0
  flags : Nat := 0
  off : Nat := 0
  max : Nat := 0
  val : List Byte := []
deriving DecidableEq, Repr, Inhabited

/-- Eight bytes of an item. -/
def papItem (b : List Byte) : PapItem :=
  { idx := beNat (Sys2Proof.slice b 0 2), sub := byteAt b 2, flags := byteAt b 3, off := beNat (Sys2Proof.slice b 4 2), max := beNat (Sys2Proof.slice b 6 2) }

/-- One item of a response: address, status, type, length, value (16:R493). -/
def rspItem (i : PapItem) (status ty : Nat) (val : List Byte) : List Byte :=
  natBe 2 i.idx ++ natBe 1 i.sub ++ natBe 1 status ++ natBe 1 ty ++ natBe 1 0 ++ natBe 2 val.length ++ padTo (pad4 val.length) val

/-- What one item of a READ gives: status, type, value. A mirror's value is described with its target's type and access, and its own level
E and store V (16:R478, R493, R507). -/
def Pkg.readItem (s : Pkg) (fmax : Nat → Nat) (x : Session) (i : PapItem) : Nat × Nat × List Byte :=
  if 0xF000 ≤ i.idx then (pLocked, 0, [])
  else
    match s.entryAt i.idx i.sub with
    | none => (pNotFound, 0, [])
    | some e =>
      let (lvl, sto) := if isMirror i.idx i.sub then (1, 0) else (e.lvl, e.sto)
      if bit i.flags 0 then (pOK, e.ty, natBe 1 e.ty ++ natBe 1 e.acc ++ natBe 1 lvl ++ natBe 1 sto ++ natBe 1 e.tag ++ natBe 1 0 ++ natBe 2 e.len)
      else if isMirror i.idx i.sub && !(s.granted x) then (pExpert, e.ty, [])
      else
        let v := wireVal e.ty e.len (s.readVal fmax e)
        let long := e.ty = 12 || e.ty = 13
        if long then
          if e.len < i.off then (pMalformed, e.ty, [])
          else (pOK, e.ty, if i.off = 0 && i.max = 0 then v else Sys2Proof.slice v i.off i.max)
        else if i.off ≠ 0 || i.max ≠ 0 then (pMalformed, e.ty, [])
        else (pOK, e.ty, v)

/-- The items of a READ's response: what does not fit is TRUNCATED; `used` counts the bytes so far (16:R493). -/
def Pkg.readItems (s : Pkg) (fmax : Nat → Nat) (x : Session) (used : Nat) : List PapItem → List Byte
  | [] => []
  | i :: rest =>
    let (c, ty, v) := s.readItem fmax x i
    let (c, v) := if used + 8 + pad4 v.length + 8 * rest.length ≤ 1200 then (c, v) else (pTruncated, [])
    rspItem i c ty v ++ Pkg.readItems s fmax x (used + 8 + pad4 v.length) rest

/-- The answer to a READ: message status and body (16:R493). -/
def Pkg.readRsp (s : Pkg) (fmax : Nat → Nat) (x : Session) (b : List Byte) : Nat × List Byte :=
  let n := byteAt b 0
  if n = 0 || 64 < n || b.length ≠ 4 + 8 * n then (pMalformed, [])
  else
    let items := (List.range n).map (fun i => papItem (Sys2Proof.slice b (4 + 8 * i) 8))
    (pOK, natBe 1 n ++ natBe 3 0 ++ s.readItems fmax x 4 items)

/-- The items of a WRITE body, each with its value; none where the layout is wrong. A value's length is its max_len, or the entry's
(16:R494). -/
def Pkg.writeItems (s : Pkg) : Nat → List Byte → Option (List PapItem)
  | 0, b => if b.isEmpty then some [] else none
  | n + 1, b =>
    if b.length < 8 then none
    else
      let i := papItem b
      let rest := b.drop 8
      let len := match s.entryAt i.idx i.sub with
        | some e => e.len
        | none => 4
      let k := if i.max ≠ 0 then i.max else if n = 0 && decide (rest.length ≠ pad4 len) then rest.length else len
      if rest.length < pad4 k then none
      else (Pkg.writeItems s n (rest.drop (pad4 k))).map (fun l => { i with val := rest.take k } :: l)

/-- One item of a WRITE, by rights as `k` has them: status and what it leaves. A fragment waits for the rest of its BLOB
(16:R494). -/
def Pkg.writeItem (s k : Pkg) (x : Session) (i : PapItem) : Nat × Pkg :=
  let key := dkey i.idx i.sub
  let ty := match s.entryAt i.idx i.sub with
    | some e => e.ty
    | none => 0
  let len := match s.entryAt i.idx i.sub with
    | some e => e.len
    | none => 0
  let part := bit i.flags 0 || decide (i.off ≠ 0)
  if !part then s.checkedWrite k x i.idx i.sub i.val.length (valOf ty i.val)
  else
    let blob := match s.session x.id with
      | some y => y.blob
      | none => none
    let c := s.writeCheck k x i.idx i.sub len 0
    if c ≠ 0 && c ≠ pRange && c ≠ pConflict then (c, s.ignoreWrite i.idx c)
    else if ty ≠ 13 then (pMalformed, s)
    else if len < i.off + i.val.length then (pBadType, s)
    else
      match blob with
      | none =>
        if i.off ≠ 0 then (pMalformed, s) else (pOK, s.setSession x.id (fun y => { y with blob := some (key, i.val, s.tempo.local_) }))
      | some (k', got, t) =>
        if k' ≠ key || i.off = 0 then (pBusy, s)
        else if i.off ≠ got.length then (pMalformed, s)
        else if bit i.flags 0 then (pOK, s.setSession x.id (fun y => { y with blob := some (key, got ++ i.val, t) }))
        else
          let v := got ++ i.val
          (s.setSession x.id (fun y => { y with blob := none })).checkedWrite k x i.idx i.sub v.length (leNat v)

/-- A status that leaves the write applied. -/
def applied (c : Nat) : Bool := c = pOK || c = pOverridden

/-- Every item in listed order, each checked against what the ones before it leave: their statuses, and what all of them leave
(16:R494). -/
def Pkg.writeAll (s k : Pkg) (x : Session) : List PapItem → List Nat × Pkg
  | [] => ([], s)
  | i :: rest =>
    let (c, s) := s.writeItem k x i
    let (cs, s) := Pkg.writeAll s k x rest
    (c :: cs, s)

/-- A WRITE: all items or none (16:R494). Answers the message status, the response body, and what it leaves. -/
def Pkg.writeRsp (s k : Pkg) (x : Session) (b : List Byte) : Nat × List Byte × Pkg :=
  let n := byteAt b 0
  if n = 0 || 64 < n || b.length < 4 then (pMalformed, [], s)
  else
    match s.writeItems n (b.drop 4) with
    | none => (pMalformed, [], s)
    | some items =>
      let (cs, t) := s.writeAll k x items
      let good := cs.all applied
      let ty (i : PapItem) : Nat := match s.entryAt i.idx i.sub with
        | some e => e.ty
        | none => 0
      let cs := if good then cs else cs.map (fun c => if applied c then pNotApplied else c)
      (pOK, natBe 1 n ++ natBe 3 0 ++ (items.zip cs).flatMap (fun e => rspItem e.1 e.2 (ty e.1) []), if good then t else { s with mgmt := { s.mgmt with lockedWrites := t.mgmt.lockedWrites } })

/-- In recovery root firmware serves these requests alone; a body it cannot parse is answered as such (17:R519). -/
def Pkg.recoveryServes (s : Pkg) (r : Request) : Bool :=
  let n := byteAt r.body 0
  match r.type with
  | 1 => ((List.range n).map (fun i => papItem (Sys2Proof.slice r.body (4 + 8 * i) 8))).all (fun i =>
      (decide (0x1000 ≤ i.idx) && decide (i.idx < 0x1200)) || (decide (0x7000 ≤ i.idx) && decide (i.idx < 0x7100)))
  | 2 => match s.writeItems n (r.body.drop 4) with
    | some l => l.all (fun i => (decide (i.idx = 0x1100) && (i.sub = 6 || i.sub = 7)) || (decide (i.idx = 0x7002) && decide (i.sub ≤ 4)))
    | none => true
  | t => decide (3 ≤ t) && decide (t ≤ 6)

/-- SUBSCRIBE: mask, first mirror slot, mirror count, period (16:R503). -/
def Pkg.subscribe (s : Pkg) (x : Session) (b : List Byte) : Nat × Pkg :=
  let cnt := beNat (Sys2Proof.slice b 6 2)
  let per := beNat (Sys2Proof.slice b 8 4)
  if b.length ≠ 12 then (pMalformed, s)
  else if 64 < cnt || (per ≠ 0 && (per < 10 || 60000 < per)) then (pRange, s)
  else
    (pOK, s.setSession x.id (fun y => { y with sub := some (beNat (Sys2Proof.slice b 0 2), beNat (Sys2Proof.slice b 4 2), cnt, per), teleAt := s.tempo.local_ }))

/-- Body of the answer to CLAIM, RENEW, RELEASE and HANDOVER (16:R495). -/
def Pkg.ownerBody (s : Pkg) : List Byte := natBe 4 s.ownerSession ++ natBe 4 s.leaseLeft

/-- The path's class is enabled (16:R484). -/
def Pkg.classOn (s : Pkg) (x : Session) : Bool := bit (s.ent 0x1100 5) x.path.cls

/-- Grants of a principal's sessions end (16:R486). -/
def Pkg.endGrants (s : Pkg) (principal : List Byte) : Pkg :=
  (s.mgmt.sessions.filter (fun x => x.principal = principal)).foldl (fun s x => s.setGrant x.id false) s

/-- The package has no owner. -/
def Pkg.noOwner (s : Pkg) : Pkg := (s.onMgmt (fun g => { g with owner := none, ownerSession := 0 })).bump 0x1100 8 1

/-- A session's principal owns, with a fresh lease (16:R484, R486). -/
def Pkg.setOwner (s : Pkg) (x : Session) : Pkg :=
  (s.onMgmt (fun g =>
    { g with owner := some (x.principal, x.path.cls), ownerSession := x.id, renewed := s.tempo.local_, renewedAt := s.tempo.now })).bump 0x1100 8 1

/-- RELEASE (16:R486). -/
def Pkg.ownRelease (s : Pkg) (x : Session) : Nat × Pkg :=
  if !(s.mgmt.isOwner x) || !(s.mutual x) then (pDenied, s)
  else (pOK, ((s.noOwner).endGrants x.principal).raise 0x0903 0xFF [x.id])

/-- HANDOVER to a session (16:R486). -/
def Pkg.handover (s : Pkg) (x : Session) (b : List Byte) : Nat × Pkg :=
  if !(s.mgmt.isOwner x) || !(s.mutual x) then (pDenied, s)
  else if b.length ≠ 4 then (pMalformed, s)
  else
    match s.session (beNat b) with
    | none => (pNotFound, s)
    | some y =>
      if !(s.classOn y) then (pDenied, s)
      else
        let s := s.setOwner y
        let s := if y.principal = x.principal then s else s.endGrants x.principal
        (pOK, s.raise 0x0902 0xFF [x.id, y.id])

/-- The lease ends at its time (16:R485). -/
def leaseExpire (s : Pkg) : Pkg :=
  if s.mgmt.owner.isSome && decide (s.leaseEnd ≤ s.tempo.local_) then
    let id := s.mgmt.ownerSession
    s.noOwner.raise 0x0904 0xFF [id, s.mgmt.renewedAt]
  else s

/-- CLAIM (16:R484, R502). -/
def Pkg.claim (s : Pkg) (x : Session) : Nat × Pkg :=
  if !(s.mutual x) then (pDenied, s)
  else
    match s.mgmt.owner with
    | some o => (if o.1 = x.principal then pOK else pOwned, s)
    | none => if s.classOn x then (pOK, (s.setOwner x).raise 0x0901 0xFF [x.id, x.path.cls]) else (pOwned, s)

/-- Requests in the order of step 2: delegated sessions' before owner sessions', then by sequence number, then session
(16:R483). -/
def Pkg.reqBefore (k : Pkg) (a b : Request) : Bool :=
  let own (r : Request) : Nat := match k.session r.session with
    | some x => b2n (k.mgmt.isOwner x)
    | none => 0
  if own a ≠ own b then decide (own a < own b) else if a.seq ≠ b.seq then decide (a.seq < b.seq) else decide (a.session ≤ b.session)

/-- Claims in their order: path class, then session ID (16:R484). -/
def Pkg.claimBefore (k : Pkg) (a b : Request) : Bool :=
  let cls (r : Request) : Nat := match k.session r.session with
    | some x => x.path.cls
    | none => 3
  if cls a ≠ cls b then decide (cls a < cls b) else decide (a.session ≤ b.session)

/-- One request with its session, where that still stands; it is answered to where it came from (16:R489). -/
def Pkg.withReq (s : Pkg) (r : Request) (f : Session → Pkg) : Pkg := match s.session r.session with
  | some x => f { x with peer := r.peer }
  | none => s

/-- Step 1: an authenticated request of an owner session renews the lease (16:R483, R485). -/
def renewStep (s k : Pkg) (rs : List Request) : Pkg :=
  let owner (r : Request) : Bool := match k.session r.session with
    | some x => k.mgmt.isOwner x && k.mutual x
    | none => false
  if rs.any owner then s.onMgmt (fun g => { g with renewed := s.tempo.local_, renewedAt := s.tempo.now }) else s

/-- A request of ownership: CLAIM, RENEW, HANDOVER, RELEASE (16:R491). -/
def ownType (t : Nat) : Bool := decide (3 ≤ t) && decide (t ≤ 6)

/-- Step 2, one request: READ, WRITE, SUBSCRIBE; and what is refused as a whole. Requests of ownership are answered after the cycle (16:R483,
R493 to R495, R503, 17:R519, R526). -/
def serveStep (k : Pkg) (fmax : Nat → Nat) (s : Pkg) (r : Request) : Pkg :=
  s.withReq r fun x =>
    if s.fw.st = 2 && !(s.recoveryServes r) then s.papAnswer x r.type r.seq pBadState []
    else if ownType r.type then s
    else if !(k.mutual x) && r.type ≠ 1 && r.type ≠ 7 then s.papAnswer x r.type r.seq pDenied []
    else
      match r.type with
      | 1 => let (c, b) := k.readRsp fmax x r.body
        s.papAnswer x 1 r.seq c b
      | 2 => let (c, b, t) := s.writeRsp k x r.body
        t.papAnswer x 2 r.seq c b
      | 7 => let (c, t) := s.subscribe x r.body
        t.papAnswer x 7 r.seq c []
      | _ => s.papAnswer x r.type r.seq pMalformed []

/-- The request is one of ownership, decided in steps 4 to 6. -/
def Pkg.owns (k : Pkg) (type : Nat) (r : Request) : Bool := r.type = type && (match k.session r.session with
  | some x => k.mutual x
  | none => false)

/-- The status of each ownership request as it is decided; answered after the cycle. CLAIM, RENEW and RELEASE have an empty body (16:R483,
R495). -/
def decideStep (f : Pkg → Session → Request → Nat × Pkg) (acc : Pkg × List (Request × Nat)) (r : Request) : Pkg × List (Request × Nat) :=
  match acc.1.session r.session with
  | none => acc
  | some x =>
    let (c, s) := if r.type ≠ 5 && !r.body.isEmpty then (pMalformed, acc.1) else f acc.1 x r
    (s, acc.2 ++ [(r, c)])

/-- One dictionary cycle over the requests that wait (16:R483). -/
def cycleBody (k : Pkg) (fmax : Nat → Nat) : Pkg :=
  let rs := k.mgmt.reqs
  let s := k.onMgmt (fun g => { g with reqs := [] })
  let s := renewStep s k rs
  let s := (sortBy k.reqBefore rs).foldl (serveStep k fmax) s
  let own (t : Nat) : List Request := rs.filter (k.owns t)
  let renew (s : Pkg) (x : Session) (_ : Request) : Nat × Pkg := (if k.mgmt.isOwner x then pOK else pDenied, s)
  let denied := rs.filter (fun r => ownType r.type && !(k.owns r.type r))
  let acc := (own 4).foldl (decideStep renew) (s, denied.map (fun r => (r, pDenied)))
  let acc := (sortBy k.reqBefore (own 6 ++ own 5)).foldl (decideStep (fun s x r => if r.type = 6 then s.ownRelease x else s.handover x r.body)) acc
  let acc := (leaseExpire acc.1, acc.2)
  let (s, cs) := (sortBy k.claimBefore (own 3)).foldl (decideStep (fun s x _ => s.claim x)) acc
  cs.foldl (fun s e => s.withReq e.1 fun x => s.papAnswer x e.1.type e.1.seq e.2 s.ownerBody) s

/-- A mailbox's request that has waited for the dictionary is given to it (18:R552). -/
def Pkg.takeBox (s : Pkg) (k : Nat) : Pkg :=
  let b := s.mbox k
  if b.go && !b.sent then papArrive (s.setMbox k { b with sent := true }) (.mailbox k) (b.req.readN 0 b.reqLen) else s

/-- DICTIONARY_CYCLE, each 100 µs while the dictionary is served: service firmware runs, or root firmware serves in recovery (16:R483,
17:R511, R519). -/
def dictionaryCycle (s : Pkg) (fmax : Nat → Nat) : Pkg :=
  if !s.fw.dict || !(s.fw.up || decide (s.fw.st = 2)) || decide (s.tempo.local_ < s.mgmt.cycleAt + 100000) then s
  else
    let s := (s.takeBox 0).takeBox 1
    (cycleBody s fmax).onMgmt (fun g => { g with cycleAt := s.tempo.local_, fresh := 0 })

end Sys2Proof
end

