-- ==== Sys2Proof/Machine/Mgmt.lean ====
section
/-!
DEFINITION. Management commands: PAP messages on the management port, the mailbox and I3C, writes of single entries, timers of
sessions and leases, telemetry, common commands of I3C, Neighbor Discovery and echo (16).
-/

namespace Sys2Proof

/-- The dictionary is served now (16:R483, 17:R511, R519, R522). -/
def Pkg.dictUp (s : Pkg) : Bool := s.fw.dict && (s.fw.up || decide (s.fw.st = 2))

/-- The management MAC address, and the link-local address formed from it (16:R489). -/
def ownMac : List Byte := natBe 6 (Config.macAddress % 2 ^ 48)
def ownLocal : List Byte :=
  natBe 2 0xFE80 ++ natBe 6 0 ++ (match ownMac with
    | b :: rest => (b ^^^ 2) :: rest.take 2
    | [] => []) ++ natBe 2 0xFFFE ++ ownMac.drop 3

/-- An address of the port: link-local, the static one, or one formed by SLAAC that has not expired (16:R489, log entry 100). -/
def Pkg.ownAddr (s : Pkg) (a : List Byte) : Bool :=
  a = ownLocal || (s.ent 0x1130 1 ≠ 0 && a = natLe 16 (s.ent 0x1130 1)) ||
    (s.ent 0x1130 3 = 1 && s.mgmt.slaac.any (fun e => decide (e.1 = a) && (decide (e.2 = 0) || decide (s.tempo.local_ < e.2))))

/-- A PAP request of a type on the management port, to UDP port 29417 of an address of the port; the answer goes where it came from. READ
stands for every type that no other row names (16:R489, R491). -/
def papOfType (s : Pkg) (type : Nat) (d : Datagram) : Pkg :=
  let t := mType d.bytes
  if d.dport ≠ 29417 || !(s.ownAddr d.dst) then s
  else if t = type || (type = 1 && (t = 0 || 7 < t)) then papArrive s .ethernet d.bytes ⟨d.addr, d.port⟩
  else s

/-- A WRITE of one entry by a session, as its next request, alone in its cycle: its bytes as the message carries them (16:R483,
R494). -/
def oneWrite (s : Pkg) (fmax : Nat → Nat) (id idx sub : Nat) (val : List Byte) : Pkg :=
  match s.session id with
  | none => s
  | some x =>
    if !s.dictUp then s
    else
      let n := x.high + 1
      let k := s.setSession id (fun y => { y with last := s.tempo.local_, high := n, seen := n :: y.seen.filter (fun j => decide (n ≤ j + 64)) })
      let body := natBe 1 1 ++ natBe 3 0 ++ natBe 2 idx ++ natBe 1 sub ++ natBe 1 0 ++ natBe 4 0 ++ padTo (pad4 val.length) val
      let r : Request := { session := id, seq := n, type := 2, body := body, peer := x.peer }
      serveStep k fmax (renewStep k k [r]) r

/-- The same with a number, in the entry's own length. -/
def oneNum (s : Pkg) (fmax : Nat → Nat) (id idx sub v : Nat) : Pkg :=
  match s.entryAt idx sub with
  | some e => oneWrite s fmax id idx sub (wireVal e.ty e.len v)
  | none => oneWrite s fmax id idx sub (natBe 4 v)

/-- A request waits for the dictionary cycle, in the engine or in a mailbox (16:R483). -/
def Pkg.cycleWaits (s : Pkg) : Bool :=
  !s.mgmt.reqs.isEmpty || ([0, 1] : List Nat).any (fun k => (s.mbox k).go && !(s.mbox k).sent)

/-- OWNER_LEASE_EXPIRED: leases do not expire while service firmware restarts; where a request waits, the lease ends in its cycle, after
RENEW, READ, WRITE, RELEASE and HANDOVER (16:R483, R485, R488, 17:R511). -/
def leaseTimer (s : Pkg) : Pkg := if s.dictUp && !s.cycleWaits then leaseExpire s else s

/-- SESSION_TIMEOUT: 60 s without an authenticated message (16:R482). -/
def sessionTimeout (s : Pkg) (id : Nat) : Pkg :=
  match s.session id with
  | some x => if s.dictUp && decide (x.last + 60000000000 ≤ s.tempo.local_) then s.endSession id else s
  | none => s

/-- BLOB_FRAGMENT_TIMEOUT: 1 s (16:R494). -/
def blobTimeout (s : Pkg) (id : Nat) : Pkg :=
  match s.session id with
  | some x => match x.blob with
    | some (_, _, t) => if t + 1000000000 ≤ s.tempo.local_ then s.setSession id (fun y => { y with blob := none }) else s
    | none => s
  | none => s

/-- A mirror's value as a telemetry item: integers in 8 bytes, the rest as they are (16:R503, R504). -/
def Pkg.mirrorItem (s : Pkg) (fmax : Nat → Nat) (slot : Nat) : List Byte :=
  match s.entryAt (0xA000 + slot) 2 with
  | none => []
  | some e =>
    let v := s.readVal fmax e
    if e.ty = 12 || e.ty = 13 then natLe e.len v
    else if e.ty = 5 || e.ty = 6 then natBe 8 (ofSigned 64 (toSigned (8 * e.len) v))
    else natBe 8 v

/-- TELEMETRY of a session, once per period; it is not logged (16:R503, R505). -/
def telemetry (s : Pkg) (fmax : Nat → Nat) (id : Nat) : Pkg :=
  match s.session id with
  | none => s
  | some x => match x.sub with
    | none => s
    | some (_, first, cnt, per) =>
      if per = 0 || !s.dictUp || decide (s.tempo.local_ < x.teleAt + per * 1000000) then s
      else
        let raw := ((List.range cnt).flatMap (fun i => s.mirrorItem fmax (first + i))).take 1136
        let e := s.eventNow 0x0910 0xFF [] raw
        (s.setSession id (fun y => { y with teleAt := s.tempo.local_ })).eventTo e.record x

/-- MB_GO: a write of MB_CTRL of function k, with what MB_REQ_LEN and MB_REQ then hold (16:R498, R499, 18:R552). -/
def mbGo (s : Pkg) (k ctrl len : Nat) (req : List Byte) : Pkg :=
  let b := s.mbox k
  let b := if b.go then b else { b with reqLen := len % 2048, req := Mem.writeN [] 0 (padTo 1232 req) }
  let fresh := bit ctrl 0 && !b.go
  let b := { b with irqRsp := bit ctrl 1, irqEvt := bit ctrl 2 }
  if !((s.pci k).up) then s
  else if !fresh then s.setMbox k b
  else if b.reqLen < 32 || 1232 < b.reqLen then s.setMbox k { b with badLen := true }
  else
    let s := s.setMbox k { b with go := true, sent := false }
    if s.fw.dict then s.takeBox k else s

/-- MB_STATUS_CLEAR: a write of 1 clears (16:R498). -/
def mbStatusClear (s : Pkg) (k v : Nat) : Pkg :=
  let b := s.mbox k
  if !((s.pci k).up) then s
  else s.setMbox k { b with done := b.done && !(bit v 0), badLen := b.badLen && !(bit v 1), dropped := b.dropped && !(bit v 2) }

/-- EVT_POP: the head event is discarded (16:R498). -/
def evtPop (s : Pkg) (k : Nat) : Pkg :=
  if !((s.pci k).up) then s else s.setMbox k { s.mbox k with events := (s.mbox k).events.drop 1 }

/-- Change the I3C target. -/
def Pkg.onI3c (s : Pkg) (f : I3C → I3C) : Pkg := s.onMgmt (fun g => { g with i3c := f g.i3c })

/-- I3C_PRIVATE_WRITE: one PAP request; NACKed until the dictionary is online (16:R501, 18:R545). -/
def i3cWrite (s : Pkg) (m : List Byte) : Pkg :=
  let c := s.mgmt.i3c
  if c.addr = 0 || !s.fw.dict || c.mwl < m.length then s else papArrive s .i3c m

/-- I3C_PRIVATE_READ: the pending response, else the head event, else a NACK (16:R501). -/
def i3cRead (s : Pkg) : Pkg :=
  let c := s.mgmt.i3c
  if c.addr = 0 || !s.fw.dict then s.emit (.i3c none)
  else match c.rsp with
    | some m => (s.onI3c (fun c => { c with rsp := none })).emit (.i3c (some (m.take c.mrl)))
    | none => match c.events with
      | [] => s.emit (.i3c none)
      | m :: rest => (s.onI3c (fun c => { c with events := rest })).emit (.i3c (some (m.take c.mrl)))

/-- ENTDAA and SETDASA: a dynamic address, for a target that has none; SETDASA by the static address 0x58 + slot (16:R500,
18:R541). -/
def i3cEntdaa (s : Pkg) (addr : Nat) : Pkg := if s.mgmt.i3c.addr = 0 then s.onI3c (fun c => { c with addr := addr % 128 + 1 }) else s
def i3cSetdasa (s : Pkg) (static addr : Nat) : Pkg := if static = 0x58 + s.net.slot then i3cEntdaa s addr else s

/-- A length may be set from 64 to 1,232 (16:R500). -/
def i3cLen (v old : Nat) : Nat := if 64 ≤ v && v ≤ 1232 then v else old

/-- A direct read CCC: answered by a target that has its address. -/
def i3cReply (s : Pkg) (b : List Byte) : Pkg := s.emit (.i3c (if s.mgmt.i3c.addr = 0 then none else some b))

/-- GETPID: 0 in [47:33], 1 in [32], the low 32 bits of id.serial_hash (16:R500). -/
def i3cPid : Nat := 2 ^ 32 + Config.serialHash % 2 ^ 32

/-- GETSTATUS: the two bytes are a free value (log entry 5). -/
def i3cStatus (s : Pkg) : Pkg :=
  let (v, s) := s.draw
  i3cReply s (natBe 2 (v % 65536))

/-- Sum of 16-bit words in ones' complement, for the checksum of ICMPv6 (log entry 30). -/
def sum16 : Nat → List Byte → Nat
  | acc, [] => acc
  | acc, [b] => acc + b.toNat * 256
  | acc, a :: b :: rest => sum16 (acc + a.toNat * 256 + b.toNat) rest
def fold16 (v : Nat) : Nat := let w := v % 65536 + v / 65536
  let w := w % 65536 + w / 65536
  w % 65536 + w / 65536

/-- Checksum over an IPv6 pseudo-header and an ICMPv6 message. -/
def icmpSum (src dst m : List Byte) : Nat := fold16 (sum16 0 (src ++ dst ++ natBe 4 m.length ++ natBe 4 58 ++ m))

/-- Parts of an Ethernet frame that carries ICMPv6: source MAC, source and destination address, hop limit, message. -/
def icmpOf (f : List Byte) : Option (List Byte × List Byte × List Byte × Nat × List Byte) :=
  let n := beNat (Sys2Proof.slice f 18 2)
  let src := Sys2Proof.slice f 22 16
  let dst := Sys2Proof.slice f 38 16
  let m := Sys2Proof.slice f 54 n
  if beNat (Sys2Proof.slice f 12 2) = 0x86DD && byteAt f 14 / 16 = 6 && byteAt f 20 = 58 && m.length = n && icmpSum src dst m = 0xFFFF then
    some (Sys2Proof.slice f 6 6, src, dst, byteAt f 21, m)
  else none

/-- A frame with an ICMPv6 message whose checksum field is still zero. -/
def icmpFrame (mac src dst : List Byte) (hop : Nat) (m : List Byte) : List Byte :=
  let c := 65535 - icmpSum src dst m
  mac ++ ownMac ++ natBe 2 0x86DD ++ natBe 4 0x60000000 ++ natBe 2 m.length ++ natBe 1 58 ++ natBe 1 hop ++ src ++ dst ++ m.take 2 ++ natBe 2 c ++ m.drop 4

/-- The port runs from service firmware's start (18:R545). -/
def Pkg.portRuns (s : Pkg) : Bool := s.fw.started && s.fw.up

/-- Prefixes of a Router Advertisement's options from which an address is formed: of 64 bits, for autonomous configuration, not the
link-local one, with their valid lifetimes in seconds (16:R489, log entry 100). -/
def raPrefixes : Nat → List Byte → List (List Byte × Nat)
  | 0, _ => []
  | n + 1, o =>
    let len := 8 * byteAt o 1
    if len = 0 || decide (o.length < len) then []
    else
      let valid := beNat (Sys2Proof.slice o 4 4)
      let fits := byteAt o 0 = 3 && len = 32 && byteAt o 2 = 64 && bit (byteAt o 3) 6 && beNat (Sys2Proof.slice o 8 4) ≤ valid &&
        beNat (Sys2Proof.slice o 16 2) / 64 ≠ 0xFE80 / 64
      (if fits then [(Sys2Proof.slice o 16 8, valid)] else []) ++ raPrefixes n (o.drop len)

/-- An address formed by SLAAC takes a valid lifetime: one above two hours or above what is left stands, a shorter one brings what is left
to two hours at the least (log entry 100). -/
def Pkg.slaacTake (s : Pkg) (p : List Byte) (valid : Nat) : Pkg :=
  let a := p ++ ownLocal.drop 8
  let now := s.tempo.local_
  let known := s.mgmt.slaac.find? (fun e => decide (e.1 = a) && (decide (e.2 = 0) || decide (now < e.2)))
  let at_ (sec : Nat) : Nat := if sec = 0xFFFFFFFF then 0 else now + 1000000000 * sec
  let end_ : Option Nat := match known with
    | none => if valid = 0 then none else some (at_ valid)
    | some (_, e) =>
      if 7200 < valid || (decide (e ≠ 0) && decide (e < at_ valid)) then some (at_ valid)
      else if decide (e ≠ 0) && decide (e ≤ at_ 7200) then some e
      else some (at_ 7200)
  match end_ with
  | none => s
  | some e => s.onMgmt (fun g => { g with slaac := (a, e) :: g.slaac.filter (fun x => decide (x.1 ≠ a)) })

/-- A Router Advertisement, while mgmt.slaac is set (16:R489, log entry 100). -/
def Pkg.routerAdvert (s : Pkg) (src : List Byte) (hop : Nat) (m : List Byte) : Pkg :=
  if s.ent 0x1130 3 ≠ 1 || hop ≠ 255 || byteAt m 1 ≠ 0 || m.length < 16 || beNat (Sys2Proof.slice src 0 2) / 64 ≠ 0xFE80 / 64 then s
  else (raPrefixes m.length (m.drop 16)).foldl (fun s e => s.slaacTake e.1 e.2) s

/-- NEIGHBOR_DISCOVERY: a Router Advertisement gives addresses (SLAAC); a solicitation of an address of the port is answered (16:R489, log
entry 30). -/
def neighbor (s : Pkg) (f : List Byte) : Pkg :=
  match icmpOf f with
  | none => s
  | some (mac, src, _, hop, m) =>
    let target := Sys2Proof.slice m 8 16
    if s.portRuns && byteAt m 0 = 134 then s.routerAdvert src hop m
    else if !s.portRuns || byteAt m 0 ≠ 135 || byteAt m 1 ≠ 0 || hop ≠ 255 || !(s.ownAddr target) then s
    else
      let anon := src.all (· == 0)
      let dst := if anon then natBe 2 0xFF02 ++ natBe 13 0 ++ natBe 1 1 else src
      let to_ := if anon then natBe 2 0x3333 ++ natBe 4 1 else mac
      s.emit (.ethernet (icmpFrame to_ target dst 255 (natBe 1 136 ++ natBe 3 0 ++ natBe 4 (if anon then 0x20000000 else 0x60000000) ++ target ++ natBe 1 2 ++ natBe 1 1 ++ ownMac)))

/-- ICMPV6_ECHO: an echo request to an address of the port is answered (16:R489, log entry 30). -/
def echo (s : Pkg) (f : List Byte) : Pkg :=
  match icmpOf f with
  | none => s
  | some (mac, src, dst, _, m) =>
    if !s.portRuns || byteAt m 0 ≠ 128 || byteAt m 1 ≠ 0 || !(s.ownAddr dst) then s
    else s.emit (.ethernet (icmpFrame mac dst src 64 (natBe 1 129 ++ natBe 3 0 ++ m.drop 4)))

end Sys2Proof

namespace Sys2Proof.Machine

open Sys2Proof

/-- The fused maximum of the site that serves a tile (15:R462). -/
def State.fmaxOf (s : State) (t : Nat) : Nat := Tab.get 0 s.sites.fmax (t / 128 * 144 + s.sites.siteOf t)

/-- DICTIONARY_CYCLE (16:R483). -/
def execDictionaryCycle (s : State) : Res := act true s (fun k => dictionaryCycle k s.fmaxOf)
/-- READ arrives on the management port (16:R493). -/
def execRead (d : Datagram) (s : State) : Res := act true s (fun k => papOfType k 1 d)
/-- WRITE (16:R494). -/
def execWrite (d : Datagram) (s : State) : Res := act true s (fun k => papOfType k 2 d)
/-- CLAIM (16:R484). -/
def execClaim (d : Datagram) (s : State) : Res := act true s (fun k => papOfType k 3 d)
/-- RENEW (16:R485). -/
def execRenew (d : Datagram) (s : State) : Res := act true s (fun k => papOfType k 4 d)
/-- HANDOVER (16:R486). -/
def execHandover (d : Datagram) (s : State) : Res := act true s (fun k => papOfType k 5 d)
/-- RELEASE (16:R486). -/
def execRelease (d : Datagram) (s : State) : Res := act true s (fun k => papOfType k 6 d)
/-- SUBSCRIBE (16:R503). -/
def execSubscribe (d : Datagram) (s : State) : Res := act true s (fun k => papOfType k 7 d)
/-- DICT_ENTRY_WRITE: a session writes the bytes of one entry (16:R478). -/
def execDictEntryWrite (sess idx sub : Nat) (val : List Byte) (s : State) : Res := act true s (fun k => oneWrite k s.fmaxOf sess idx sub val)
/-- OWNER_LEASE_EXPIRED (16:R485). -/
def execOwnerLeaseExpired (s : State) : Res := act true s leaseTimer
/-- SESSION_TIMEOUT (16:R482). -/
def execSessionTimeout (sess : Nat) (s : State) : Res := act true s (fun k => sessionTimeout k sess)
/-- BLOB_FRAGMENT_TIMEOUT (16:R494). -/
def execBlobFragmentTimeout (sess : Nat) (s : State) : Res := act true s (fun k => blobTimeout k sess)
/-- TELEMETRY (16:R503). -/
def execTelemetry (sess : Nat) (s : State) : Res := act true s (fun k => telemetry k s.fmaxOf sess)
/-- SAVED_ENTRY_COMMIT (16:R480). -/
def execSavedEntryCommit (s : State) : Res := actMgmt true s savedCommit
/-- PERSIST_COMMIT (16:R480). -/
def execPersistCommit (sess v : Nat) (s : State) : Res := act true s (fun k => oneNum k s.fmaxOf sess 0x1200 2 v)
/-- PERSIST_DEFAULTS (16:R480). -/
def execPersistDefaults (sess v : Nat) (s : State) : Res := act true s (fun k => oneNum k s.fmaxOf sess 0x1200 5 v)
/-- OWN_EXPERT_GRANT to a session (16:R479). -/
def execOwnExpertGrant (sess target : Nat) (s : State) : Res := act true s (fun k => oneNum k s.fmaxOf sess 0x1100 6 target)
/-- OWN_EXPERT_REVOKE (16:R479). -/
def execOwnExpertRevoke (sess target : Nat) (s : State) : Res := act true s (fun k => oneNum k s.fmaxOf sess 0x1100 7 target)
/-- OWN_DELEGATE of a partition to a session (16:R487). -/
def execOwnDelegate (sess p target : Nat) (s : State) : Res := onPart p s (fun k => oneNum k s.fmaxOf sess (0x1110 + p) 1 target)
/-- MGMT_ALERT_CLEAR (16:R506). -/
def execMgmtAlertClear (sess v : Nat) (s : State) : Res := act true s (fun k => oneNum k s.fmaxOf sess 0x1130 8 v)
/-- POWER_CAP_W_WRITE (15:R463). -/
def execPowerCapWWrite (sess w : Nat) (s : State) : Res := act true s (fun k => oneNum k s.fmaxOf sess 0x6000 1 w)
/-- TIER_FLOOR_EXTENTS_WRITE (09:R275). -/
def execTierFloorExtentsWrite (sess p v : Nat) (s : State) : Res := onPart p s (fun k => oneNum k s.fmaxOf sess (0x4110 + p) 1 v)
/-- PARTITION_PORT_WRITE (18:R549). -/
def execPartitionPortWrite (sess mask : Nat) (s : State) : Res := act true s (fun k => oneNum k s.fmaxOf sess 0x1010 1 mask)
/-- LENPEL_ENABLE_WRITE: a session writes lenpel.enable of a port (10:R324). -/
def execLenpelEnableWrite (q : Nat) (w : EntryWrite) (s : State) : Res :=
  onLport q s (fun k => oneNum k s.fmaxOf w.session (0x4200 + q) 2 w.value)
/-- ATNIK_ENABLE_WRITE: a session writes atnik.enable of a port (11:R335). -/
def execAtnikEnableWrite (n : Nat) (w : EntryWrite) (s : State) : Res :=
  onPort n s (fun k => oneNum k s.fmaxOf w.session (0x5040 + n) 2 w.value)
/-- MB_GO of function k: MB_CTRL, MB_REQ_LEN, MB_REQ (16:R499). -/
def execMbGo (k ctrl len : Nat) (req : List Byte) (s : State) : Res := act (decide (k < 2)) s (fun x => mbGo x k ctrl len req)
/-- MB_STATUS_CLEAR (16:R498). -/
def execMbStatusClear (k v : Nat) (s : State) : Res := act (decide (k < 2)) s (fun x => mbStatusClear x k v)
/-- EVT_POP (16:R498). -/
def execEvtPop (k : Nat) (s : State) : Res := act (decide (k < 2)) s (fun x => evtPop x k)
/-- I3C_PRIVATE_WRITE (16:R501). -/
def execI3cPrivateWrite (msg : List Byte) (s : State) : Res := actI3c s (fun k => i3cWrite k msg)
/-- I3C_PRIVATE_READ (16:R501). -/
def execI3cPrivateRead (s : State) : Res := actI3c s i3cRead
/-- ENTDAA (16:R500). -/
def execEntdaa (addr : Nat) (s : State) : Res := actI3c s (fun k => i3cEntdaa k addr)
/-- SETDASA (16:R500). -/
def execSetdasa (static addr : Nat) (s : State) : Res := actI3c s (fun k => i3cSetdasa k static addr)
/-- RSTDAA (16:R500). -/
def execRstdaa (s : State) : Res := actI3c s (fun k => k.onI3c (fun c => { c with addr := 0 }))
/-- ENEC (16:R500). -/
def execEnec (ev : Nat) (s : State) : Res := actI3c s (fun k => k.onI3c (fun c => { c with ibi := c.ibi || bit ev 0 }))
/-- DISEC (16:R500). -/
def execDisec (ev : Nat) (s : State) : Res := actI3c s (fun k => k.onI3c (fun c => { c with ibi := c.ibi && !(bit ev 0) }))
/-- SETMWL (16:R500). -/
def execSetmwl (v : Nat) (s : State) : Res := actI3c s (fun k => k.onI3c (fun c => { c with mwl := i3cLen v c.mwl }))
/-- SETMRL (16:R500). -/
def execSetmrl (v : Nat) (s : State) : Res := actI3c s (fun k => k.onI3c (fun c => { c with mrl := i3cLen v c.mrl }))
/-- GETMWL (16:R500). -/
def execGetmwl (s : State) : Res := actI3c s (fun k => i3cReply k (natBe 2 k.mgmt.i3c.mwl))
/-- GETMRL, with the length of an in-band interrupt's payload (16:R500). -/
def execGetmrl (s : State) : Res := actI3c s (fun k => i3cReply k (natBe 2 k.mgmt.i3c.mrl ++ natBe 1 1))
/-- GETPID (16:R500). -/
def execGetpid (s : State) : Res := actI3c s (fun k => i3cReply k (natBe 6 i3cPid))
/-- GETBCR (16:R500). -/
def execGetbcr (s : State) : Res := actI3c s (fun k => i3cReply k (natBe 1 0x06))
/-- GETDCR (16:R500). -/
def execGetdcr (s : State) : Res := actI3c s (fun k => i3cReply k (natBe 1 0x00))
/-- GETSTATUS (16:R500). -/
def execGetstatus (s : State) : Res := actI3c s i3cStatus
/-- RSTACT (16:R500). -/
def execRstact (v : Nat) (s : State) : Res := actI3c s (fun k => k.onI3c (fun c => { c with rst := v % 256 }))
/-- NEIGHBOR_DISCOVERY: a frame on the management port (16:R489). -/
def execNeighborDiscovery (frame : List Byte) (s : State) : Res := act true s (fun k => neighbor k frame)
/-- ICMPV6_ECHO: a frame on the management port (16:R489). -/
def execIcmpv6Echo (frame : List Byte) (s : State) : Res := act true s (fun k => echo k frame)

end Sys2Proof.Machine
end

