-- ==== Sys2Proof/Machine/Firmware.lean ====
section
/-!
DEFINITION. Firmware commands: requests of service firmware and its restart, the hold-up bank, updates and unlocks, the SPDM responder
(17).
-/

namespace Sys2Proof

/-- A request of service firmware is refused (17:R509, R533). -/
def Pkg.refuseService (s : Pkg) (kind cause : Nat) : Pkg := (s.bump 0x7020 4 1).raise 0x0709 0xFF [kind, cause]

/-- SERVICE_REQUEST: root firmware checks, then applies or refuses. Kinds: 1 compose partition a, or release it (b = 1); 2 commit the
pending set, where a session wrote each of its entries; 3 forward an unlock record; 4 a chunk of an image; 5 set a safety limit, subindex a
of 0x6000, to b (17:R509). -/
def serviceRequest (s : Pkg) (kind a b : Nat) (data : List Byte) : Pkg :=
  if !s.fw.up then s
  else
    match kind with
    | 1 =>
      if partMax ≤ a then s.refuseService 1 1
      else if b = 1 then (if (s.part a).st == .empty then s.refuseService 1 1 else s.releasePart a)
      else if (s.part a).st != .empty then s.refuseService 1 1
      else match s.beginRefusal a with
        | some k => s.refuseService 1 k
        | none => s.compose a none
    | 2 => if s.fw.byRequest.isEmpty then persistNow s else s.refuseService 2 1
    | 3 =>
      let c := s.unlockCheck (padTo 256 data)
      let s := secUnlock s (padTo 256 data)
      if c = 0 then s else s.refuseService 3 c
    | 4 => if s.stateOk 0x7002 3 0 then updateChunk s (padTo 4096 data) else s.refuseService 4 1
    | 5 =>
      match plainEntry 0x6000 a with
      | none => s.refuseService 5 1
      | some e => if (a = 4 || a = 0x10) && valueOk e b then (s.putEntry e b).onFw (fun w => { w with byRequest := dkey 0x6000 a :: w.byRequest.filter (· ≠ dkey 0x6000 a) }) else s.refuseService 5 1
    | k => s.refuseService k 1

/-- SERVICE_HEARTBEAT_TIMEOUT: root firmware restarts service firmware from the active slot (17:R511). -/
def serviceDown (s : Pkg) : Pkg :=
  if s.fw.up then (s.onFw (fun w => { w with up := false, restart := s.tempo.local_, service := Tab.get [] w.n0.slots w.slot })).serviceHarts false else s

/-- SERVICE_RESTARTED: it runs again, and every lease is longer by the restart (17:R511). -/
def serviceBack (s : Pkg) : Pkg :=
  if s.fw.up || !s.fw.started then s
  else
    let d := s.tempo.local_ - s.fw.restart
    let s := ((s.onFw (fun w => { w with up := true })).serviceHarts true).onMgmt (fun g =>
      { g with renewed := g.renewed + d, sessions := g.sessions.map (fun (x : Session) => { x with last := x.last + d }) })
    (s.bump 0x7002 5 1).raise 0x070A 0xFF [d / 1000000]

/-- The SPDM responder is online (17:R522). -/
def Pkg.spdmUp (s : Pkg) : Bool := s.fw.started || decide (s.fw.st = 2)

/-- A channel of the responder: 0 the management port, k + 1 the DOE mailbox of function k; and the path of its sessions (17:R525). -/
def Pkg.channelUp (s : Pkg) (ch : Nat) : Bool := s.spdmUp && (ch = 0 || (s.pci (ch - 1)).up)
def pathOf (ch : Nat) : Path := if ch = 0 then .ethernet else .mailbox (ch - 1)

/-- The channel of a session. -/
def Path.channel : Path → Nat
  | .mailbox k => k + 1
  | _ => 0

/-- An SPDM message of version 1.3 (17:R525, log entry 31). -/
def spdmMsg (code p1 p2 : Nat) (body : List Byte) : List Byte := natLe 1 0x13 ++ natLe 1 code ++ natLe 1 p1 ++ natLe 1 p2 ++ body

/-- An error response: 1 invalid request, 3 busy, 6 session limit (log entry 31). -/
def spdmError (code : Nat) : List Byte := spdmMsg 0x7F code 0 []

/-- Measurement registers M1 and M2, from which the alias key comes (17:R525). -/
def Pkg.m12 (s : Pkg) : List Byte := padTo 48 (Tab.get [] s.fw.meas 0) ++ padTo 48 (Tab.get [] s.fw.meas 1)

/-- The chain of slot 0, behind its length and the root's hash (17:R525, log entry 31). -/
def Pkg.chain (s : Pkg) : List Byte :=
  let certs := Config.certificateChain ++ Config.aliasCert s.m12
  natLe 2 (52 + certs.length) ++ natLe 2 0 ++ padTo 48 Config.rootCaHash ++ certs

/-- Answer on a channel; a datagram of the management port begins with its kind, 1 SPDM or 2 secured SPDM, and its length (17:R525). -/
def Pkg.spdmSay (s : Pkg) (ch : Nat) (m : List Byte) (kind : Nat := 1) : Pkg :=
  s.emit (.spdm ch (if ch = 0 then natBe 2 kind ++ natBe 2 m.length ++ m else m))

/-- What a channel keeps for its next signature. -/
def Pkg.spdmChan (s : Pkg) (ch : Nat) : SpdmChan := Tab.get {} s.fw.spdm ch
def Pkg.setSpdm (s : Pkg) (ch : Nat) (c : SpdmChan) : Pkg := s.onFw (fun w => { w with spdm := Tab.set {} w.spdm ch c })

/-- GET_CERTIFICATE: a part of the chain of slot 0; no other slot is supported (17:R525). -/
def getCertificate (s : Pkg) (ch slot off len : Nat) : Pkg :=
  if !(s.channelUp ch) then s
  else if slot ≠ 0 || s.chain.length ≤ off then s.spdmSay ch (spdmError 1)
  else
    let part := Sys2Proof.slice s.chain off len
    let m := spdmMsg 0x02 0 0 (natLe 2 part.length ++ natLe 2 (s.chain.length - off - part.length) ++ part)
    (s.setSpdm ch { certs := (s.spdmChan ch).certs ++ spdmMsg 0x82 slot 0 (natLe 2 off ++ natLe 2 len) ++ m }).spdmSay ch m

/-- A signature by the alias key over a transcript, under the name of its use (17:R525, log entry 31). -/
def Pkg.signature (s : Pkg) (use : String) (transcript : List Byte) : List Byte :=
  let u := ascii use
  let tag := (List.replicate 4 (ascii "dmtf-spdm-v1.3.*")).flatten ++ natLe (36 - u.length) 0 ++ u
  padTo 96 (Config.aliasSign s.m12 (Config.sha384 (tag ++ padTo 48 (Config.sha384 transcript))))

/-- The next number of M0's generator. -/
def Pkg.drawRandom (s : Pkg) : Nat × Pkg := (Config.random (s.fw.draws + 1), s.onFw (fun w => { w with draws := w.draws + 1 }))

/-- The requester's context in a nonce operand: the 8 bytes behind the 32 of the nonce. -/
def contextOf (nonce : List Byte) : List Byte := padTo 8 (nonce.drop 32)

/-- CHALLENGE: signed by the alias key over the messages of version, capabilities and algorithms, the certificate messages, and the request
and its answer (17:R525). -/
def challenge (s : Pkg) (ch slot : Nat) (nonce : List Byte) : Pkg :=
  if !(s.channelUp ch) then s
  else if slot ≠ 0 then s.spdmSay ch (spdmError 1)
  else
    let (r, s) := s.drawRandom
    let req := spdmMsg 0x83 slot 0 (padTo 32 nonce ++ contextOf nonce)
    let m := spdmMsg 0x03 0 1 (padTo 48 (Config.sha384 s.chain) ++ natLe 32 r ++ natLe 2 0 ++ contextOf nonce)
    let sig := s.signature "responder-challenge_auth signing" (Config.spdmVca ch ++ (s.spdmChan ch).certs ++ req ++ m)
    (s.setSpdm ch {}).spdmSay ch (m ++ sig)

/-- A measurement block: index, raw SHA-384 value (17:R525). -/
def Pkg.measBlock (s : Pkg) (k : Nat) : List Byte :=
  natLe 1 k ++ natLe 1 1 ++ natLe 2 51 ++ natLe 1 0 ++ natLe 2 48 ++ padTo 48 (Tab.get [] s.fw.meas (k - 1))

/-- GET_MEASUREMENTS: block idx, all of them (0xFF), or their number (0); a signature covers the measurement messages since the last
(17:R525). -/
def getMeasurements (s : Pkg) (ch idx : Nat) (sign : Bool) (nonce : List Byte) : Pkg :=
  if !(s.channelUp ch) then s
  else if 4 < idx && idx ≠ 0xFF then s.spdmSay ch (spdmError 1)
  else
    let ks : List Nat := if idx = 0 then [] else if idx = 0xFF then [1, 2, 3, 4] else [idx]
    let blocks := ks.flatMap s.measBlock
    let (r, s) := s.drawRandom
    let req := spdmMsg 0xE0 (b2n sign) idx ((if sign then padTo 32 nonce ++ natLe 1 0 else []) ++ contextOf nonce)
    let m := spdmMsg 0x60 (if idx = 0 then 4 else 0) 0
      (natLe 1 ks.length ++ natLe 3 blocks.length ++ blocks ++ natLe 32 r ++ natLe 2 0 ++ contextOf nonce)
    let c := s.spdmChan ch
    let l := c.meas ++ req ++ m
    if sign then (s.setSpdm ch { c with meas := [] }).spdmSay ch (m ++ s.signature "responder-measurements signing" (Config.spdmVca ch ++ l))
    else (s.setSpdm ch { c with meas := l }).spdmSay ch m

/-- Whether a requester's chain, by the hash of the CA it ends in, is accepted (17:R526). -/
def Pkg.anchored (s : Pkg) (ca : List Byte) : Bool :=
  let set_ := ([1, 2, 3, 4] : List Nat).filter (fun k => s.ent 0x7021 k ≠ 0)
  set_.isEmpty || set_.any (fun k => natLe 48 (s.ent 0x7021 k) = padTo 48 ca)

/-- KEY_EXCHANGE: a session is formed with its principal and its PAP keys; the answer is signed over the messages of version, capabilities
and algorithms, the chain's hash, the request and the answer (16:R482, 17:R525, R526). -/
def keyExchange (s : Pkg) (ch sid : Nat) (leaf ca : List Byte) (mutual_ : Bool) (kx : KeyExch) : Pkg :=
  if !(s.channelUp ch) || (s.session sid).isSome || sid = 0 then s
  else if mutual_ && !(s.anchored ca) then s.spdmSay ch (spdmError 1)
  else if !(s.roomFor (pathOf ch)) then s.spdmSay ch (spdmError 3)
  else
    let x : Session :=
      { id := sid, path := pathOf ch, principal := if mutual_ then padTo 48 leaf else [], mutual_ := mutual_, last := s.tempo.local_
        keyReq := padTo 48 (Config.hkdf kx.secret (ascii "serlys pap req") 48), keyRsp := padTo 48 (Config.hkdf kx.secret (ascii "serlys pap rsp") 48)
        dataReq := padTo 48 (Config.spdmData kx.secret 0), dataRsp := padTo 48 (Config.spdmData kx.secret 1) }
    let (r, s) := (s.onMgmt (fun g => { g with sessions := g.sessions ++ [x] })).drawRandom
    let (d, s) := s.drawRandom
    let m := spdmMsg 0x64 0 0 (natLe 2 (sid / 65536) ++ natLe 1 (b2n mutual_) ++ natLe 1 0 ++ natLe 32 r ++ padTo 96 (Config.dhePublic d) ++ natLe 2 0)
    let th := Config.spdmVca ch ++ padTo 48 (Config.sha384 s.chain) ++ kx.request ++ m
    let sig := s.signature "responder-key_exchange_rsp signing" th
    (s.setSpdm ch {}).spdmSay ch (m ++ sig ++ padTo 48 (Config.spdmVerify kx.secret (Config.sha384 (th ++ sig))))

/-- A request of an SPDM session; I3C sessions are none (16:R482). -/
def Pkg.inSpdm (s : Pkg) (sid : Nat) (f : Session → Pkg) : Pkg :=
  match s.session sid with
  | some x => if x.path = .i3c || !(s.channelUp x.path.channel) then s else f x
  | none => s

/-- A label of the SPDM key schedule, behind the length asked for (17:R525, log entry 31). -/
def spdmLabel (n : Nat) (l : String) : List Byte := natLe 2 n ++ ascii "spdm1.3 " ++ ascii l

/-- A secured answer of a session: session, length, then the encrypted message with its length, and the tag; its nonce counts the answers under
the key (17:R525, log entry 31). -/
def Pkg.spdmSecured (s : Pkg) (x : Session) (m : List Byte) : Pkg :=
  let key := padTo 32 (Config.hkdf x.dataRsp (spdmLabel 32 "key") 32)
  let nonce := List.zipWith (· ^^^ ·) (padTo 12 (Config.hkdf x.dataRsp (spdmLabel 12 "iv") 12)) (natLe 12 x.secured)
  let plain := natLe 2 m.length ++ m
  let head := natLe 4 x.id ++ natLe 2 (plain.length + 16)
  let s := s.setSession x.id (fun y => { y with secured := y.secured + 1 })
  s.spdmSay x.path.channel (head ++ Config.gcmCrypt key nonce plain ++ Config.gcmTag key nonce head plain) 2

/-- A secured answer of a session that has just changed. -/
def Pkg.spdmReply (s : Pkg) (sid : Nat) (m : List Byte) : Pkg :=
  match s.session sid with
  | some x => s.spdmSecured x m
  | none => s

/-- The keys of both directions of a session are replaced (17:R525). -/
def Session.newKeys (x : Session) : Session :=
  let next (k : List Byte) : List Byte := padTo 48 (Config.hkdf k (spdmLabel 48 "traffic upd") 48)
  { x with dataReq := next x.dataReq, dataRsp := next x.dataRsp, secured := 0 }

/-- KEY_UPDATE: the session's SPDM keys are replaced, and the answer comes under the new ones (17:R525). -/
def keyUpdate (s : Pkg) (sid : Nat) : Pkg :=
  s.inSpdm sid fun _ => (s.setSession sid (fun y => { y.newKeys with last := s.tempo.local_ })).spdmReply sid (spdmMsg 0x69 2 0 [])

/-- HEARTBEAT (17:R525). -/
def heartbeat (s : Pkg) (sid : Nat) : Pkg :=
  s.inSpdm sid fun _ => (s.setSession sid (fun y => { y with last := s.tempo.local_ })).spdmReply sid (spdmMsg 0x68 0 0 [])

/-- END_SESSION: the PAP session ends with its SPDM session (16:R479, R482, R487). -/
def endSession (s : Pkg) (sid : Nat) : Pkg :=
  s.inSpdm sid fun x => (s.spdmSecured x (spdmMsg 0x6C 0 0 [])).endSession sid

end Sys2Proof

namespace Sys2Proof.Machine

open Sys2Proof

/-- SERVICE_REQUEST (17:R509). -/
def execServiceRequest (kind a b : Nat) (data : List Byte) (s : State) : Res := act true s (fun k => serviceRequest k kind a b data)
/-- SERVICE_HEARTBEAT_TIMEOUT (17:R511). -/
def execServiceHeartbeatTimeout (s : State) : Res := act true s serviceDown
/-- SERVICE_RESTARTED (17:R511). -/
def execServiceRestarted (s : State) : Res := act true s serviceBack
/-- HOLDUP_ESTIMATE: VHOLD in mV, the bank's current in mA (17:R514). -/
def execHoldupEstimate (mv : Nat) (ma : Int) (s : State) : Res := actMgmt true s (fun k => holdupEstimate k mv ma)
/-- HOLDUP_DEFERRED (17:R515). -/
def execHoldupDeferred (s : State) : Res := actMgmt true s holdupDeferred
/-- N0_COMMIT (17:R512, R514). -/
def execN0Commit (s : State) : Res := actMgmt true s commitStart
/-- FW_UPDATE_SLOT (17:R520). -/
def execFwUpdateSlot (sess v : Nat) (s : State) : Res := act true s (fun k => oneNum k s.fmaxOf sess 0x7002 1 v)
/-- FW_UPDATE_OFFSET (17:R520). -/
def execFwUpdateOffset (sess v : Nat) (s : State) : Res := act true s (fun k => oneNum k s.fmaxOf sess 0x7002 2 v)
/-- FW_UPDATE_CHUNK, its fragments together (17:R520). -/
def execFwUpdateChunk (sess : Nat) (data : List Byte) (s : State) : Res := act true s (fun k => oneWrite k s.fmaxOf sess 0x7002 3 data)
/-- FW_UPDATE_COMMIT (17:R520). -/
def execFwUpdateCommit (sess v : Nat) (s : State) : Res := act true s (fun k => oneNum k s.fmaxOf sess 0x7002 4 v)
/-- SEC_UNLOCK with an unlock record (17:R528). -/
def execSecUnlock (sess : Nat) (record : List Byte) (s : State) : Res := act true s (fun k => oneWrite k s.fmaxOf sess 0x7020 1 record)
/-- GET_CERTIFICATE on a channel (17:R525). -/
def execGetCertificate (ch slot off len : Nat) (s : State) : Res := act (decide (ch < 3)) s (fun k => getCertificate k ch slot off len)
/-- CHALLENGE (17:R525). -/
def execChallenge (ch slot : Nat) (nonce : List Byte) (s : State) : Res := act (decide (ch < 3)) s (fun k => challenge k ch slot nonce)
/-- GET_MEASUREMENTS (17:R525). -/
def execGetMeasurements (ch idx : Nat) (sign : Bool) (nonce : List Byte) (s : State) : Res :=
  act (decide (ch < 3)) s (fun k => getMeasurements k ch idx sign nonce)
/-- KEY_EXCHANGE: session ID, requester's leaf key hash, hash of the CA its chain ends in, mutual, message and secret (17:R526). -/
def execKeyExchange (ch sid : Nat) (leaf ca : List Byte) (mutual_ : Bool) (kx : KeyExch) (s : State) : Res :=
  act (decide (ch < 3)) s (fun k => keyExchange k ch sid leaf ca mutual_ kx)
/-- KEY_UPDATE (17:R525). -/
def execKeyUpdate (sid : Nat) (s : State) : Res := act true s (fun k => keyUpdate k sid)
/-- HEARTBEAT (17:R525). -/
def execHeartbeat (sid : Nat) (s : State) : Res := act true s (fun k => heartbeat k sid)
/-- END_SESSION (16:R482). -/
def execEndSession (sid : Nat) (s : State) : Res := act true s (fun k => endSession k sid)

end Sys2Proof.Machine
end

