-- ==== Sys2Proof/Machine/Pins.lean ====
section
/-!
DEFINITION. The PCIe ports, supplies, clock and test access port (18:R539 to R557).
-/

namespace Sys2Proof

/-- The queue registers of a partition are reset: commands already read run on, their DMA abandoned, their completions discarded
(18:R553). -/
def Pkg.resetQueue (s : Pkg) (p : Nat) : Pkg := s.setQ p { gen := (s.part p).q.gen + 1, read := (s.part p).q.read }

/-- Partitions bound to a port (18:R549). -/
def Pkg.bound (s : Pkg) (k : Nat) : List Nat := (List.range partMax).filter (fun p => decide (s.hostPort p = k))

/-- The registers of a port's functions are reset and its mailbox sessions end (18:R553). -/
def Pkg.resetFunctions (s : Pkg) (k : Nat) : Pkg :=
  let s := (s.bound k).foldl Pkg.resetQueue s
  let s := (s.mgmt.sessions.filter (fun x => decide (x.path = .mailbox k))).foldl (fun s x => s.endSession x.id) s
  s.setMbox k {}

/-- A conventional reset of a port, or the loss of its link: cause 1 PERST_N, 2 hot reset, 3 link disable, 4 link loss (18:R543, R553,
R557). -/
def Pkg.linkDown (s : Pkg) (k cause : Nat) : Pkg :=
  let s := s.resetFunctions k
  let x := s.pci k
  let x := { x with up := false, rate := 0, width := 0, flit := false, vfs := 0 }
  let s := s.setPci k (if cause ≤ 2 then { x with refclk := s.ent 0x1010 2, maxRate := s.ent 0x1010 3 } else x)
  (s.bump (0x1011 + k) 6 1).raise 0x0912 0xFF [k, cause]

/-- PERST_N of a port goes low, or high (18:R541, R553). -/
def perst (s : Pkg) (k : Nat) (low : Bool) : Pkg :=
  let x := s.pci k
  if !low then s.setPci k { x with perst := false }
  else if x.perst then s
  else (s.setPci k { x with perst := true }).linkDown k 1

/-- PCIE_HOT_RESET: hot reset, link disable or link loss, of a link that is up (18:R553). -/
def hotReset (s : Pkg) (k cause : Nat) : Pkg := if (s.pci k).up && inBounds 2 4 cause then s.linkDown k cause else s

/-- PCIE_FLR: function 0 is the PF, n its VF n (18:R553). -/
def flr (s : Pkg) (k fn : Nat) : Pkg :=
  if !((s.pci k).up) then s
  else if fn = 0 then
    let s := s.resetFunctions k
    (s.setPci k { s.pci k with vfs := 0 }).raise 0x0913 0xFF [k, 0]
  else
    let p := fn - 1
    (if s.hostPort p = k then s.resetQueue p else s).raise 0x0913 0xFF [k, fn]

/-- PCIE_LINK_UP: a port has trained, at a rate and width the part has, in flit mode where 64 GT/s needs it (18:R547, R552). -/
def linkUp (s : Pkg) (k rate width : Nat) (flit : Bool) : Pkg :=
  let x := s.pci k
  if x.perst || x.up || !(inBounds 1 x.maxRate rate) || !(([1, 2, 4, 8, 16] : List Nat).contains width) || (rate = 6 && !flit) then s
  else (s.setPci k { x with up := true, rate := rate, width := width, flit := flit }).raise 0x0911 0xFF [k, rate, width, b2n flit]

/-- PCIE_CONFIG_REQUEST: retry status until service firmware has started; then the function's identity, its class code, any other
register a free value; or a write that enables VFs (18:R547, R552, log entry 5). -/
def configRequest (s : Pkg) (k off : Nat) (vfs : Option Nat) : Pkg :=
  let x := s.pci k
  if !x.up then s
  else if !s.fw.started then s.emit (.config k true 0)
  else
    match vfs with
    | some n => (s.setPci k { x with vfs := min 16 n }).emit (.config k false 0)
    | none =>
      let (v, s) := s.draw
      let d := match off with
        | 0 => Config.pciVendorId % 65536 + 0x0100 * 65536
        | 8 => v % 256 + 0x120000 * 256
        | _ => v % 2 ^ 32
      s.emit (.config k false d)

/-- VAUX_FAIL: the package shuts down; on VHOLD only the commit under way is finished; every land is at high impedance, and the regulators of
a boundary scan are off (18:R539, R545). -/
def vauxFail (s : Pkg) : Pkg :=
  let s := if s.fw.off = 0 then s.tripNow 2 66 else s
  let s := if s.fw.vaux && s.fw.off ≠ 4 && s.ent 0x1130 6 ≠ 0 then s.emit (.pin "ALERT_N" 0 true) else s
  { s with tap := { s.tap with regs := false } }.onFw (fun w => { w with vaux := false, off := if w.off = 0 then 2 else w.off, commits := w.commits.filter (fun (c : Commit) => c.started) })

/-- REFCLK_LOSS: more than 1 µs without REFCLK_MAIN (18:R544). -/
def refclkLoss (s : Pkg) (ns : Nat) : Pkg := if 1000 < ns then s.tripNow 2 66 else s

/-- VIN lies within its operating range (18:R538, R556). -/
def Pkg.vinOk (s : Pkg) : Bool := inBounds 40000 60000 s.pins.vin

/-- What a land shows (18:R545): high impedance, electrical idle, or driven by its unit. -/
inductive Drive where
  | highZ
  | idle
  | driven
deriving DecidableEq, Repr, Inhabited

/-- The package has left reset, with VAUX good, and its regulators are on. -/
def Pkg.powered (s : Pkg) : Bool := s.fw.vaux && decide (s.fw.off = 0) && !s.pins.resetLow

/-- A transmitter whose port is up to transmitting, or not (18:R545, R546). -/
def Pkg.drive (s : Pkg) (runs : Bool) : Drive := if !s.fw.vaux || s.pins.resetLow then .highZ else if s.powered && runs then .driven else .idle

/-- The transmitters of an Atnik, a Lenpel and a PCIe port, and of the management port (10:R314, 11:R335, 18:R545). -/
def Pkg.atnikTx (s : Pkg) (n : Nat) : Drive := s.drive ((s.port n).st != .down)
def Pkg.lenpelTx (s : Pkg) (q : Nat) : Drive := s.drive ((s.lport q).st != .down && (s.lport q).st != .detect)
def Pkg.pcieTx (s : Pkg) (k : Nat) : Drive := s.drive (!(s.pci k).perst)
def Pkg.sgmiiTx (s : Pkg) : Drive := s.drive s.fw.started

/-- The terminations of their receivers are on (18:R545). -/
def Pkg.atnikTerm (s : Pkg) (n : Nat) : Bool := s.powered && (s.port n).st != .down
def Pkg.lenpelTerm (s : Pkg) (q : Nat) : Bool := s.powered && (s.lport q).st != .down
def Pkg.pcieTerm (s : Pkg) (k : Nat) : Bool := s.powered && (s.pci k).up

/-- LP_RST_N of a port as the brick sees it: its pull-down holds it low where the package does not drive it (18:R541, R545). -/
def Pkg.lpRst (s : Pkg) (q : Nat) : Bool := s.powered && (s.lport q).rst

/-- ALERT_N is pulled low (16:R506, 18:R541, R545). -/
def Pkg.alertLow (s : Pkg) : Bool := s.fw.vaux && !s.pins.resetLow && s.ent 0x1130 6 ≠ 0

/-- Change the test access port. -/
def Pkg.onTap (s : Pkg) (f : Tap → Tap) : Pkg := { s with tap := f s.tap }

/-- BYPASS: one bit between TDI and TDO, captured 0 (18:R554). -/
def bypass (s : Pkg) : Pkg := (s.onTap (fun t => { t with ir := 0xFF, regs := false })).emit (.tdo 0 1)

/-- IDCODE (18:R554). -/
def idcode (s : Pkg) : Pkg := (s.onTap (fun t => { t with ir := 3, regs := false })).emit (.tdo jtagIdcode 32)

/-- An instruction other than BYPASS and IDCODE: accepted only while RESET_N is low, BYPASS otherwise; one that is no test drops the
regulators a test enabled (18:R554, R556). -/
def Pkg.tapLoad (s : Pkg) (f : Pkg → Pkg) : Pkg := if s.pins.resetLow then f s else bypass s

/-- EXTEST, EXTEST_PULSE and EXTEST_TRAIN: cells drive a pattern; the SerDes regulators are enabled from VIN; without VIN the 1149.6
cells capture 0 (18:R539, R556). -/
def extest (s : Pkg) (code cells dc ac : Nat) : Pkg :=
  s.tapLoad fun s => (s.onTap (fun t => { t with ir := code, cells := cells, regs := s.vinOk })).emit (.scan dc (if s.vinOk then ac else 0))

/-- SAMPLE: the cells capture the lands (18:R554). -/
def tapSample (s : Pkg) (dc ac : Nat) : Pkg :=
  s.tapLoad fun s => (s.onTap (fun t => { t with ir := 1, regs := false })).emit (.scan dc (if s.vinOk then ac else 0))

/-- PRELOAD: a pattern is shifted into the cells (18:R554). -/
def tapPreload (s : Pkg) (cells : Nat) : Pkg := s.tapLoad fun s => s.onTap (fun t => { t with ir := 2, cells := cells, regs := false })

/-- CLAMP and HIGHZ: outputs hold the cells' pattern, or none; BYPASS lies between TDI and TDO (18:R554). -/
def tapHold (s : Pkg) (code : Nat) : Pkg := s.tapLoad fun s => (s.onTap (fun t => { t with ir := code, regs := false })).emit (.tdo 0 1)

/-- TRST_N low: Test-Logic-Reset (18:R554, R556). -/
def trst (s : Pkg) : Pkg := s.onTap (fun t => { t with ir := 3, regs := false })

end Sys2Proof

namespace Sys2Proof.Machine

open Sys2Proof

/-- A command of a PCIe port. -/
def onPci (k : Nat) (s : State) (f : Pkg → Pkg) : Res := act (decide (k < 2)) s f

/-- A command of the test access port, which runs whenever VAUX is good (18:R556). -/
def onTap (s : State) (f : Pkg → Pkg) : Res := actAny true s (fun k => if k.fw.vaux then f k else k)

/-- VAUX_FAIL (18:R539). -/
def execVauxFail (s : State) : Res := actAny true s vauxFail
/-- REFCLK_LOSS for some ns (18:R544). -/
def execRefclkLoss (ns : Nat) (s : State) : Res := act true s (fun k => refclkLoss k ns)
/-- PERST_N (18:R553); a package that is off samples the pin alone. -/
def execPerstN (k : Nat) (low : Bool) (s : State) : Res :=
  actAny (decide (k < 2)) s (fun x => if x.fw.off = 0 then perst x k low else x.setPci k { x.pci k with perst := low })
/-- PCIE_HOT_RESET (18:R553). -/
def execPcieHotReset (k cause : Nat) (s : State) : Res := onPci k s (fun x => hotReset x k cause)
/-- PCIE_FLR of a function (18:R553). -/
def execPcieFlr (k fn : Nat) (s : State) : Res := act (decide (k < 2) && decide (fn ≤ 16)) s (fun x => flr x k fn)
/-- PCIE_CONFIG_REQUEST (18:R552). -/
def execPcieConfigRequest (k off : Nat) (vfs : Option Nat) (s : State) : Res := onPci k s (fun x => configRequest x k off vfs)
/-- PCIE_LINK_UP (18:R552). -/
def execPcieLinkUp (k rate width : Nat) (flit : Bool) (s : State) : Res := onPci k s (fun x => linkUp x k rate width flit)
/-- EXTEST: pattern to drive, what the two kinds of cells capture (18:R556). -/
def execExtest (cells dc ac : Nat) (s : State) : Res := onTap s (fun k => extest k 0 cells dc ac)
/-- SAMPLE (18:R554). -/
def execSample (dc ac : Nat) (s : State) : Res := onTap s (fun k => tapSample k dc ac)
/-- PRELOAD (18:R554). -/
def execPreload (cells : Nat) (s : State) : Res := onTap s (fun k => tapPreload k cells)
/-- IDCODE (18:R554). -/
def execIdcode (s : State) : Res := onTap s idcode
/-- CLAMP (18:R554). -/
def execClamp (s : State) : Res := onTap s (fun k => tapHold k 4)
/-- HIGHZ (18:R554). -/
def execHighz (s : State) : Res := onTap s (fun k => tapHold k 5)
/-- EXTEST_PULSE (18:R556). -/
def execExtestPulse (cells dc ac : Nat) (s : State) : Res := onTap s (fun k => extest k 6 cells dc ac)
/-- EXTEST_TRAIN (18:R556). -/
def execExtestTrain (cells dc ac : Nat) (s : State) : Res := onTap s (fun k => extest k 7 cells dc ac)
/-- BYPASS, and every other code (18:R554). -/
def execBypass (s : State) : Res := onTap s bypass
/-- TRST_N low (18:R554). -/
def execTrstN (s : State) : Res := onTap s trst

end Sys2Proof.Machine
end

