-- ==== Sys2Proof/Machine/ColdStart.lean ====
section
/-!
DEFINITION. Reset and the cold start (17:R519 to R524, 18:R541), the fault map as committed and rebuilt (13:R417, 01:R30), the passing of
time.
-/

namespace Sys2Proof

/-- What a low RESET_N leaves: fuses and N0, the hold-up measurement, the energy counters while VAUX stays, the saved trip
count, the pins and the test access port (15:R467, R469, 16:R480, 17:R515, 18:R541). -/
def Pkg.afterReset (s : Pkg) : Pkg :=
  let trips := s.ent 0x6000 0x13
  let k : Pkg :=
    { tempo := { local_ := s.tempo.local_ }
      dict := if trips = 0 then [] else [(dkey 0x6000 0x13, trips)]
      pow := { energy := s.pow.energy, aux := s.pow.aux }
      fw := { n0 := s.fw.cutCommits, fuses := s.fw.fuses, holdup := s.fw.holdup, vaux := s.fw.vaux, draws := s.fw.draws, nonce := s.fw.nonce, off := 4 }
      tap := s.tap
      pcie := s.pcie.filterMap (fun e => if e.2.perst then none else some (e.1, { perst := false }))
      lports := s.lports.filterMap (fun e => if e.2.present then some (e.1, { present := true }) else none)
      pins := { resetLow := true, vin := s.pins.vin }
      stamp := s.stamp, out := s.out, free := s.free }
  let k := (List.range lportMax).foldl (fun k q => if (s.lport q).rst then k.emit (.pin "LP_RST_N" q false) else k) k
  if s.ent 0x1130 6 = 0 || !s.fw.vaux then k else k.emit (.pin "ALERT_N" 0 true)

/-- RESET_N_ASSERT: 1 µs or more resets, under 100 ns is ignored, between the two the outcome is a free value (18:R541). -/
def resetAssert (s : Pkg) (ns : Nat) : Pkg :=
  if ns < 100 then s
  else if 1000 ≤ ns then s.afterReset
  else
    let (v, s) := s.draw
    if v % 2 = 0 then s else s.afterReset

/-- Extend a measurement register (17:R521). -/
def Fw.extend (w : Fw) (i : Nat) (d : List Byte) : Fw :=
  { w with meas := Tab.set [] w.meas i (Config.sha384 (padTo 48 (Tab.get [] w.meas i) ++ d)) }

/-- The fuse values other than the identity seed (17:R517). -/
def Fuses.bytes (f : Fuses) : List Byte :=
  (List.range 4).flatMap (fun k => padTo 48 (Config.fusedKeyHash k)) ++ natLe 1 f.revoked ++ natLe 8 (2 ^ f.minVersion - 1) ++ padTo 48 f.platformKey

/-- Every entry that only an unlock changes, and the requester anchors, in index order (17:R521). -/
def Pkg.lockedBytes (s : Pkg) : List Byte :=
  (dictRows.filter (fun r => decide (r.acc = 4) || decide (r.idx = 0x7021))).flatMap (fun r =>
    (List.range (r.hi + 1 - r.lo)).flatMap (fun i => natLe r.len (if r.idx = 0x7000 then s.fw.fuses.minVersion else s.ent r.idx (r.lo + i))))

/-- Saved entries take their committed values, or their defaults (16:R480). -/
def Pkg.loadSaved (s : Pkg) : Pkg :=
  let n := s.fw.n0
  let bad := (n.area 2).isNone
  if n.defaults || bad then
    (s.onFw (fun w => { w with n0 := { w.n0 with defaults := false } })).raise 0x0909 0xFF [if bad then 1 else 2]
  else n.saved.foldl (fun s e => s.setEnt (e.1 / 256) (e.1 % 256) e.2) s

/-- The patch is verified, M1 and M2 extended (17:R518, R519, R521). -/
def Pkg.bootPatch (s : Pkg) : Pkg :=
  let bs := s.fw.n0.patch
  let good := decide (s.slotCheck 2 bs = 0)
  let s := s.onFw (fun w => ((w.extend 0 Config.romDigest).extend 0 (Config.sha384 w.fuses.bytes)).extend 1 (if good then Sys2Proof.slice bs 32 48 else natLe 48 0))
  s.setEnt 0x1000 5 (if good then fld bs 16 4 else Config.rootFwVersion)

/-- The service slot is chosen: the higher version, A on a tie, the other where it is rejected; recovery where both are
(17:R519, R524). -/
def Pkg.bootService (s : Pkg) : Pkg :=
  let img (k : Nat) : List Byte := Tab.get [] s.fw.n0.slots k
  let ver (k : Nat) : Nat := fld (img k) 16 4
  let first := if ver 0 < ver 1 then 1 else 0
  let c := s.slotCheck first (img first)
  let c' := s.slotCheck (1 - first) (img (1 - first))
  let start (s : Pkg) (k : Nat) : Pkg :=
    (s.onFw (fun w => { w.extend 2 (Sys2Proof.slice (img k) 32 48) with started := true, up := true, slot := k, service := img k })).setEnt 0x1000 6 (ver k)
      |>.serviceHarts true
  let s := if c = 0 then start s first
    else if c' = 0 then start (s.raise 0x0702 0xFF [first, c]) (1 - first)
    else (s.onFw (fun w => { w with st := 2 })).raise 0x0703 0xFF [4, c]
  s.onFw (fun w => w.extend 3 (Config.sha384 s.lockedBytes))

/-- The cold start may begin: the package has just been released from reset, or VAUX has come back, and VIN is in range (17:R522). -/
def Pkg.canStart (s : Pkg) (o : ColdObs) : Bool :=
  inBounds 40000 60000 o.vin &&
    (decide (s.fw.off = 4) || !s.fw.vaux || (decide (s.fw.off = 0) && decide (s.fw.st = 0) && !s.fw.started && decide (s.fw.cold = none)))

/-- COLD_START, up to the boot epoch: straps, saved entries, patch, service slot, the epoch's commit queued (17:R522, R523). -/
def coldStart (s : Pkg) (o : ColdObs) : Pkg :=
  if !(s.canStart o) then s
  else
    let k := s.afterReset
    let k := if s.fw.vaux then k else { k with pow := {}, fw := { k.fw with holdup := {}, vaux := true } }
    let k := { k with tap := { k.tap with ir := 3, regs := false }, pins := { vin := o.vin }, net := { slot := o.slot % 4 } }
    let n := (o.badCopies.filter (fun c => decide (c < 8))).foldl N0.spoil k.fw.n0
    let k := k.onFw (fun w => { w with off := 0, t0 := k.tempo.local_, nonce := w.draws + 1, draws := w.draws + 1, cold := some o, n0 := n })
    let k := k.loadSaved
    let k := ([0, 1] : List Nat).foldl (fun k p => k.setPci p { k.pci p with refclk := k.ent 0x1010 2, maxRate := k.ent 0x1010 3 }) k
    let k := k.bootPatch.bootService
    let n := k.fw.n0
    let e := (n.epoch + 1) % 2 ^ 32
    let k := { k with net := { k.net with epoch := e } }
    (k.onFw (fun w => { w with boots := (n.boots + 1) % 2 ^ 32 })).addCommit { kind := 0, bytes := 32768, value := e }

/-- The elements of a list that occur in it more often than `old` says: one for each occurrence beyond. -/
def newOnes (old : Nat → Nat) : Tab Nat → List Nat → List Nat
  | _, [] => []
  | seen, k :: t =>
    let n := Tab.get 0 seen k
    (if old k ≤ n then [k] else []) ++ newOnes old (Tab.insert seen k (n + 1)) t

/-- How often each number occurs. -/
def counts (l : List Nat) : Tab Nat := l.foldl (fun t k => Tab.insert t k (Tab.get 0 t k + 1)) []

/-- Places of the kinds of unit in the committed fault map; sites stand at 0 (13:R417). -/
def mapLanes : Nat := 0x10000
def mapCores : Nat := 0x20000
def mapBanks : Nat := 0x30000
def mapSensors : Nat := 0x40000
def mapMesh : Nat := 0x50000
def mapSolver : Nat := 0x60000
def mapWays : Nat := 0x70000
def mapSpares : Nat := 0x80000

/-- Put a table's entries into the map from a place on. -/
def mapPut (m : Tab Nat) (base : Nat) (t : Tab Nat) : Tab Nat := t.foldl (fun m (e : Nat × Nat) => Tab.insert m (base + e.1) e.2) m

/-- What a start knows of failed units: what its self-test found with what the committed fault map names of each kind. Cores
stand in the map by P-die alone (01:R30, 13:R417, 17:R522, R524). -/
def ColdObs.withMap (o : ColdObs) (m : Tab Nat) : ColdObs :=
  let add (base : Nat) (l : List Nat) : List Nat :=
    l ++ (m.filter (fun e => decide (base ≤ e.1) && decide (e.1 < base + 0x10000))).flatMap (fun e =>
      List.replicate (e.2 - (l.filter (· = e.1 - base)).length) (e.1 - base))
  { o with failed := add 0 o.failed, lanes := add mapLanes o.lanes, banks := add mapBanks o.banks, sensors := add mapSensors o.sensors
           mesh := add mapMesh o.mesh, solver := add mapSolver o.solver }

/-- What the self-test found of the package's other units: each count against what the committed map knows gives a record
(13:R403, R413, R415, 17:R522, R524). `lanesOf` gives the lanes of a tile's engine. -/
def Pkg.selfTest (s : Pkg) (o : ColdObs) (old : Nat → Nat) (lanesOf : Nat → Nat) : Pkg :=
  let now := s.tempo.now
  let recs (s : Pkg) (cls base : Nat) (l : List Nat) (unit : Nat → Nat) : Pkg :=
    (newOnes (fun k => old (base + k)) [] l).foldl (fun s k => s.castlingRecord { cls := cls, unit := unit k, detected := now }) s
  let lanes := (List.range (2 * tileMax)).filterMap (fun u => if lanesOf u = 0 then none else some (u, lanesOf u))
  let s := { s with fault := { s.fault with lanes := lanes } }
  let s := lanes.foldl (fun s (e : Nat × Nat) => if e.1 % 2 = 0 then s.setTile (e.1 / 2) { s.tile (e.1 / 2) with mx := { badCols := e.2 } } else s) s
  let s := recs s 5 mapCores (o.cores.map (· / 48)) (· + 48)
  let s := { s with fault := { s.fault with cores := (List.range 4).filterMap (fun p =>
    let n := min 2 (max (old (mapCores + p)) (o.cores.filter (fun c => decide (c / 48 = p))).length)
    if n = 0 then none else some (p, n)) } }
  let s := o.cores.foldl (fun s c => if 2 < (o.cores.filter (fun d => d / 48 = c / 48)).length then
    { s with cores := Tab.set {} s.cores c { (Tab.get {} s.cores c : CoreSt) with failed := true } } else s) s
  let s := recs s 4 mapBanks o.banks (· / 256)
  let s := o.banks.foldl (fun s b =>
    let x := s.sdie (b / 256)
    let s := if x.spares = 0 then s.raise 0x0305 (s.partOfDie (b / 256)) [b / 256] else if x.spares = 1 then s.sparesLow 4 (b / 256) 0 else s
    s.setSdie (b / 256) { x with banks := Tab.insert x.banks (b % 256) (if x.spares = 0 then 3 else 2), spares := x.spares - 1 }) s
  let s := recs s 12 mapSensors o.sensors (· / 64)
  let s := s.onPow (fun w => { w with badSensor := o.sensors.foldl (fun t k => Tab.insert t k 1) w.badSensor })
  let s := recs s 7 mapMesh o.mesh (fun k => k)
  let s := { s with fault := { s.fault with other := counts o.mesh } }
  let s := recs s 3 mapSolver o.solver (fun k => k)
  let s := (counts o.solver).foldl (fun s (e : Nat × Nat) => s.setEngine e.1 { s.engine e.1 with lanes := e.2 }) s
  let s := (counts o.solver).foldl (fun s (e : Nat × Nat) => engineRemap s e.1) s
  let s := { s with slices := (List.range 64).filterMap (fun k =>
    if old (mapWays + k) = 0 then none else some (k, { retired := old (mapWays + k) })) }
  let s := (o.dead.filter (fun d => decide (d < 68))).foldl dieFailure s
  if o.mesh.any (fun k => decide (2 < Tab.get 0 s.fault.other k)) || s.fw.n0.lost then { s with fault := { s.fault with noLoad := true } } else s

/-- A random epoch with bit 31 set: the commit could not start within 20 s (17:R523). -/
def Pkg.randomEpoch (s : Pkg) : Pkg :=
  let (r, s) := s.drawRandom
  let e := r % 2 ^ 31 + 2 ^ 31
  let s := s.onFw (fun w => { w with commits := w.commits.filter (fun c => decide (c.kind ≠ 0)) })
  { s with net := { s.net with epoch := e } }.raise 0x070D 0xFF [e]

/-- The boot epoch's commit has not started 20 s after t₀ (17:R523). -/
def Pkg.epochLate (s : Pkg) : Bool :=
  s.fw.cold.isSome && !s.fw.epochCommit && decide (s.fw.t0 + 20000000000 ≤ s.tempo.local_)

/-- The commit that completes is the boot epoch's of a start under way. -/
def Pkg.epochDone (s : Pkg) : Bool :=
  s.fw.cold.isSome && decide (s.fw.off = 0) && (match s.fw.commits with
    | c :: _ => c.started && decide (c.kind = 0)
    | [] => false)

/-- Functional clocks and Tempo start, and the ports train (17:R522); settings that hold since a boundary or a reset are in force from
here. -/
def Pkg.online (s : Pkg) (o : ColdObs) (castled : Nat) : Pkg :=
  let ports := (List.range lportMax).filter (fun q => (s.lport q).present && s.lenOn q)
  let s := ports.foldl (fun s q => (s.lenter q .detect).setRst q false) s
  let s := { s with tier := { s.tier with forming := true } }.formGroups
  let s := { s with tempo := { s.tempo with pllLock := o.pllSpan } }
  let s := s.onPow (fun w => { w with cap := s.ent 0x6000 1, target := min 1500 (s.ent 0x6000 3) })
  s.onFw (fun w => { w with epochSet := true, cold := none, castled := castled })

/-- A port still trains: the groups of the board tier are not decided, or an Atnik port is in TRAIN or IDENTIFY (10:R314, 11:R335). -/
def Pkg.portsTrain (s : Pkg) : Bool :=
  s.tier.forming || (List.range aportMax).any (fun n => (s.port n).st == .train || (s.port n).st == .identify)

/-- The end of the start: the dictionary comes online and partitions are loadable; in recovery none is, and root firmware serves
(17:R519, R522). -/
def Pkg.bootDone (s : Pkg) : Pkg :=
  let ok : Bool := s.fw.st != 2
  let ms := (s.tempo.local_ - s.fw.t0) / 1000000
  let s := s.onFw (fun w => { w with st := if ok then 1 else 2, dict := true, loadable := ok })
  if ok then (s.setEnt 0x7000 2 ms).raise 0x0701 0xFF [ms, s.fw.slot, s.fw.castled] else s

/-- The start waits until its ports have trained, 65 s after t₀ at the latest, and then up to 30 s for Tempo to be LOCKED (17:R522, R524,
log entry 103). -/
def Pkg.bootWait (s : Pkg) : Pkg :=
  if !s.fw.epochSet || s.fw.dict || s.fw.off ≠ 0 then s
  else
    match s.fw.settled with
    | none =>
      if s.portsTrain && decide (s.tempo.local_ < s.fw.t0 + 65000000000) then s
      else if s.tempo.st == .locked then s.bootDone
      else s.onFw (fun w => { w with settled := some s.tempo.local_ })
    | some t => if s.tempo.st == .locked || decide (t + 30000000000 ≤ s.tempo.local_) then s.bootDone else s

/-- Nanoseconds of local time pass alone: the Tempo counter stands until a start-up has released it (17:R522). -/
def Pkg.localTick (s : Pkg) : Pkg := { s with tempo := { s.tempo with local_ := s.tempo.local_ + 1 } }

/-- With nothing else ready every ACTIVE port sends IDLE (10:R308, 11:R334, log entry 64). -/
def Pkg.sendIdles (s : Pkg) : Pkg :=
  let s := (List.range lportMax).foldl (fun s q => s.lreport q) s
  (List.range aportMax).foldl (fun s n => if (s.port n).st == .active then s.sendBare n 0 else s) s

/-- One nanosecond of the reference clock passes in the package: the creations of regions that came in it are handled (09:R277), the ports
send IDLE, a start that waits goes on (17:R522), Tempo advances (03:R75), and the replays that have regained their point of failure are
recorded (13:R418). DESIGN CHOICE 4. -/
def idle (s : Pkg) : Pkg :=
  let s := s.createAsked.sendIdles.bootWait
  if !s.fw.epochSet then s.localTick
  else s.fault.open_.foldl (fun s r => if r.tile < tileMax then s.recoverTile r.tile false else s) { s with tempo := s.tempo.tick }

end Sys2Proof

namespace Sys2Proof.Machine

open Sys2Proof

/-- Sites of a package. -/
def siteMax : Nat := 6912

/-- Fused maximum of a site as before this start (15:R462). -/
def Sites.fmaxBefore (z : Sites) (k : Nat) : Nat :=
  match Tab.get 0 z.fmax k with
  | 0 => Config.factoryFmax k
  | f => f

/-- Re-measured: never raised (15:R462). -/
def Sites.fmaxNow (z : Sites) (o : ColdObs) (k : Nat) : Nat := min (z.fmaxBefore k) ((Tab.find o.passing k).getD 1750 - 50)

/-- A site fails the self-test: by its checkers, by its clock, by a third lane of an engine (13:R413, 15:R462, 17:R522). -/
def Sites.failsTest (z : Sites) (o : ColdObs) (k : Nat) : Bool :=
  o.failed.contains k || decide (z.fmaxNow o k < 1400) || ([0, 1] : List Nat).any (fun e => decide (2 < (o.lanes.filter (fun l => l = 2 * k + e)).length))

/-- The sites as tested, every tile at its manufacture site. -/
def Sites.tested (z : Sites) (o : ColdObs) : Sites :=
  { moved := []
    failed := (List.range siteMax).filterMap (fun k => if z.failsTest o k then some (k, 1) else none)
    fmax := (List.range siteMax).filterMap (fun k => if z.fmaxNow o k = 0 then none else some (k, z.fmaxNow o k)) }

/-- The tiles whose manufacture sites failed, rank by rank. -/
def Sites.homeless (z : Sites) : List Nat :=
  (List.range tileMax).filter (fun t => decide (Tab.get 0 z.failed (t / 128 * 144 + rankOf t * 9 + t % 8) ≠ 0))

/-- Ranks whose spares can serve a tile, from the lowest up: taken in this order, rank by rank, they map every tile where a mapping
exists (01:R30, 13:R415). -/
def lowRanks (t : Nat) : List Nat :=
  let k := rankOf t
  (if k = 0 then [] else [k - 1]) ++ [k] ++ (if k = 15 then [] else [k + 1])

/-- Serve a list of tiles from spares; a tile for which none is free stays where it is. -/
def Sites.serveAll (z : Sites) (ts : List Nat) : Sites := ts.foldl (fun z t => (z.serve t (lowRanks t)).getD z) z

/-- The site maps that a cold start writes (01:R30, 17:R522). -/
def Sites.cold (z : Sites) (o : ColdObs) : Sites := (z.tested o).serveAll (z.tested o).homeless

/-- Failed lanes of a tile's engine, as its site has them. -/
def Sites.lanesOf (z : Sites) (o : ColdObs) (u : Nat) : Nat :=
  let k := u / 2 / 128 * 144 + z.siteOf (u / 2)
  (o.lanes.filter (fun l => l = 2 * k + u % 2)).length

/-- The fault map in M-die memory (13:R417). -/
def State.faultMap (s : State) : Tab Nat :=
  let k := s.pkg
  let m := mapPut s.sites.failed mapSpares s.sites.moved
  let m := k.fault.lanes.foldl (fun m (e : Nat × Nat) => Tab.insert m (mapLanes + 2 * (e.1 / 256 * 144 + s.sites.siteOf (e.1 / 2)) + e.1 % 2) e.2) m
  let m := mapPut m mapCores k.fault.cores
  let m := k.sdies.foldl (fun m (e : Nat × SDie) => mapPut m (mapBanks + 256 * e.1) (e.2.banks.map (fun (b : Nat × Nat) => (b.1, 1)))) m
  let m := mapPut m mapSensors k.pow.badSensor
  let m := mapPut m mapMesh k.fault.other
  let m := mapPut m mapSolver (k.engines.filterMap (fun (e : Nat × Engine) => if e.2.lanes = 0 then none else some (e.1, e.2.lanes)))
  mapPut m mapWays (k.slices.filterMap (fun (e : Nat × Slice) => if e.2.retired = 0 then none else some (e.1, e.2.retired)))

/-- The package part of self-test and castling: what it raises, records, counts (13:R415, R418, R420, 15:R462, 17:R524). `z` are the new
maps, `z₀` those before the start. -/
def testedPkg (s : Pkg) (z z₀ : Sites) (o : ColdObs) : Pkg :=
  let n := s.fw.n0
  let bad := (n.area 3).isNone
  let old (k : Nat) : Nat := if bad then 0 else Tab.get 0 n.map k
  let s := { s with tempo := { local_ := s.tempo.local_ } }
  let s := if bad then { s with fault := { s.fault with pendingMap := true } }.raise 0x070E 0xFF [] else s
  let fmaxOf (z : Sites) (t : Nat) : Nat := Tab.get 0 z.fmax (t / 128 * 144 + z.siteOf t)
  let fresh := (z.failed.map (·.1)).filter (fun k => decide (old k = 0))
  let lowered := (List.range tileMax).filter (fun t => let k := t / 128 * 144 + z.siteOf t
    decide (z₀.fmaxNow o k < z₀.fmaxBefore k))
  let s := if lowered.isEmpty && fresh.isEmpty then s
    else s.raise 0x0608 0xFF [lowered.length, (List.range tileMax).foldl (fun m t => min m (fmaxOf z t)) 1750, fresh.length]
  let served (t : Nat) : Bool := decide (Tab.get 0 z.moved t ≠ 0)
  let s := z.homeless.foldl
    (fun s t =>
      if served t then
        (if fresh.contains (t / 128 * 144 + rankOf t * 9 + t % 8) then s.castlingRecord
          { cls := 2, unit := t, detected := 0, adj := decide (z.siteOf t / 9 ≠ rankOf t), spares := z.reach (t / 128) (rankOf t) } else s)
      else ({ s with fault := { s.fault with noAssign := s.fault.noAssign ++ [t / 128] } }).outOfScope { cls := 2, unit := t } []) s
  let s := (List.range dieMax).foldl
    (fun s d => sparesTaken s 16 (fun _ => 1) z d ((z.moved.find? (fun e => e.1 / 128 = d)).map (·.1) |>.getD (d * 128))) s
  let s := (List.range tileMax).foldl (fun s t => servedAt s z t) s
  let s := s.onPow (fun w => { w with clocks := (List.range tileMax).filterMap (fun t => if 1500 ≤ fmaxOf z t then none else some (t, fmaxOf z t)) })
  faultMapCommit (s.selfTest o old (z.lanesOf o))

/-- The start goes on once the boot epoch is formed: self-test, castling, clocks, ports, dictionary (17:R522, log entry 12). -/
def coldFinish (s : State) : State :=
  match s.pkg.fw.cold with
  | none => s
  | some o =>
    let o := o.withMap s.pkg.fw.n0.map
    let z := s.sites.cold o
    { s with sites := z, pkg := (testedPkg s.pkg z s.sites o).online o z.moved.length }

/-- COLD_START (17:R522). -/
def execColdStart (o : ColdObs) (s : State) : Res := actAny true s (fun k => coldStart k o)
/-- RESET_N_ASSERT: low for some ns (18:R541). -/
def execResetNAssert (ns : Nat) (s : State) : Res := actAny true s (fun k => resetAssert k ns)
/-- N0_COMMIT_COMPLETE; where it is the boot epoch's, the start goes on (17:R512, R523). -/
def execN0CommitComplete (s : State) : Res :=
  if s.pkg.fw.off < 3 then
    let t : State := { s with pkg := commitDone s.pkg s.faultMap }
    .next (if s.pkg.epochDone then coldFinish t else t)
  else .next s
/-- BOOT_EPOCH_TIMEOUT (17:R523). -/
def execBootEpochTimeout (s : State) : Res :=
  .next (if s.pkg.fw.off = 0 && s.pkg.epochLate then coldFinish { s with pkg := s.pkg.randomEpoch } else s)

end Sys2Proof.Machine
end

