-- ==== Sys2Proof/Machine/Frames.lean ====
section
/-!
DEFINITION. The events of a member's frames: ticks, frame starts, tick reports, stalls, ramp slots, the record ring
(03:R84 to R91, R100, R107, R115, R116).
-/

namespace Sys2Proof

/-- TICK_FIRE: the next tick fires when Tempo reaches its due time, whether or not the frame before it has begun (03:R84). Inputs that
came before that cycle are bound to it; a tick that finds the member late discards its gambit plies (03:R87, R103, R112). -/
def tickFire (s : Pkg) (p : Nat) : Pkg :=
  let x := s.part p
  let m := x.mem
  let n := m.fired
  let at_ := m.fireAt n
  if !(x.ticking && decide (at_ ≤ s.tempo.now)) then s
  else
    let bind (i : Pend) : Pend := if i.target.isNone && decide (i.arrived < at_) then { i with target := some n } else i
    let s := s.setMem p { m with fired := n + 1, fires := Tab.insert m.fires n at_, inputs := m.inputs.map bind }
    if decide (n ≠ m.next) || (m.ended.isSome && decide (n ≤ m.repDone) && x.ringReady (s.ent (0x8400 + p) 3) n) then s else s.dropGambits p

/-- The start time of a frame whose conditions hold (03:R87), and the cause of a flag fall: 0 tile late, 1 report late,
2 replay wait. -/
def Part.startAt (x : Part) (due : Nat) : Nat × Nat :=
  let m := x.mem
  let e := (m.ended.getD (0, 0)).1
  let t := max e (max m.repAt x.recd.roomAt)
  (max due (max t (m.cutEnd - 1)), if e = t then 0 else if m.repAt = t then 1 else 2)

/-- The class of a recovery of the partition that has no record yet, or of the solver engine of its dies; 0 none (13:R423). -/
def Pkg.openClass (s : Pkg) (p : Nat) : Nat :=
  match s.fault.open_.find? (fun r => bit r.partsMask p && !r.recorded) with
  | some r => r.cls
  | none => if s.fault.groups.any (fun g => decide (g.1 = 3) && (s.part p).dies.contains (g.2 / 16)) then 3 else 0

/-- The partition whose pre-emption checkpoint ran in the frame that began at a Tempo, if not the one asked for (13:R424). -/
def Pkg.preemptedBy (s : Pkg) (p at_ : Nat) : Option Nat :=
  (List.range partMax).find? (fun q => decide (q ≠ p) && (match (s.part q).cap with
    | some c => decide (c.deadline ≠ 0)
    | none => decide (at_ + 1 < (s.part q).preemptEnd)))

/-- A flag fall (03:R87), with what made level 5 yield: the recovery of the last late tile in that frame, a recovery without a record,
a throttle reason, a pre-emption checkpoint of another partition (13:R423, R424, log entry 98). -/
def Pkg.flagFall (s : Pkg) (p due late cause tile : Nat) : Pkg :=
  let s := ((s.bump (0x2210 + p) 9 1).bump (0x2210 + p) 0x0A late).setEnt (0x2210 + p) 0x0B late
  let s := (s.raise 0x0101 p [late, cause, tile]).dropGambits p
  let yields (prevails cause : Nat) : Pkg := s.addYield p { prevails := prevails, level := 5, cause := cause, start := due, stop := some (due + late) }
  let since := (s.part p).mem.start
  match Tab.get 0 s.fault.recovered tile with
  | k + 1 => yields 3 (2 ^ 32 + k)
  | 0 =>
    if s.openClass p ≠ 0 then yields 3 (3 * 2 ^ 32 + s.openClass p)
    else if s.throttleSince since ≠ 0 then yields 1 (s.throttleSince since)
    else match s.preemptedBy p since with
      | some q => yields 4 (2 ^ 33 + q)
      | none => s

/-- FRAME_START: frame n begins, or a checkpoint stop for it applies (03:R87, R107, R112, R118, 14:R429, R445, R448, R449). -/
def frameStart (s : Pkg) (p : Nat) : Pkg :=
  let x := s.part p
  let m := x.mem
  let n := m.next
  let due := m.due n
  let (at_, cause) := x.startAt due
  if !((x.st == .running || (x.st == .ready && m.go)) && decide (n < m.fired) && m.ended.isSome && decide (n ≤ m.repDone)
      && x.ringReady (s.ent (0x8400 + p) 3) n && decide (at_ ≤ s.tempo.now)) then s
  else
    match (if m.cutEnd = 0 then m.applying.find? (fun c => decide (c.kind = 0x10) && decide (c.frame = n)) else none) with
    | some c => s.beginCut p n c
    | none =>
      let first := !m.begun
      let late := at_ - due
      let (endAt, tile) := m.ended.getD (0, 0xFFFF)
      let m' : Member := { m with n := n, begun := true, start := at_, state := 2, go := false, launch := none, ended := none, cutEnd := 0, lateTile := 0xFFFF, fires := m.fires.filter (fun e => decide (n ≤ e.1)) }
      let s := s.setPart p { x with st := .running, mem := m' }
      let s := if first then (s.startHarts p).setEnt (0x3860 + p) 9 0 else s
      let s :=
        if late = 0 then s
        else if m.cutEnd ≠ 0 then s.bump (0x2210 + p) 0x0A late
        else s.flagFall p due late cause (if due < endAt then tile else 0xFFFF)
      let ts := tilesOf x.dies
      let s := { s with fault := { s.fault with recovered := s.fault.recovered.filter (fun e => !ts.contains e.1) } }
      let s := if m.digest && !first then s.writeDigests p (n - 1) else s
      let s := if first then s.writeCoords p else s
      let cs := sortBy (fun (a b : Change) => decide (byteAt a.bytes 1 ≤ byteAt b.bytes 1)) (m.applying.filter (fun c => c.frame = n))
      let s := s.setMem p { (s.part p).mem with applying := m.applying.filter (fun c => c.frame ≠ n) }
      let s := if cs.isEmpty then s else s.dropGambits p
      let s := cs.foldl (fun s c => s.applyChange p n c) s
      let s := (s.tickInputs p n).autoStage p n
      let s := s.contributeReport p (n + 1) (s.tickRecord p n late (decide (0 < late) && cause = 2) (s.part p).streamLen)
      let dig := (s.part p).mem.digest
      s.eachTile ts (fun t => { t with frameEnd := false, digest := if dig then digestInit t.index n else t.digest })

/-- TICK_REPORT: the combined report of index `idx` − 1 is delivered: the launch is decided (`idx` = 0, report −1), or the schedule
moves and the slots are decided (03:R85, R86, R88, R107). A report that the member does not wait for is none of its own. -/
def tickReport (s : Pkg) (p idx : Nat) : Pkg :=
  let m := (s.part p).mem
  match m.awaiting, m.combined with
  | some (k, _), some rec_ =>
    if k ≠ idx then s else
    let now := s.tempo.now
    let m := { m with awaiting := none, combined := none }
    if k = 0 then
      let armed := bit (byteAt rec_ 24) 0
      let lo := fld rec_ 32 8
      if m.state = 1 && armed && decide (lo = fld rec_ 40 8) && decide (lo ≠ 0) then
        s.setMem p { m with go := true, repDone := m.n, repAt := now, ended := some (0, 0xFFFF), fired := m.n }
      else s.cancelLaunch p (if armed then 1 else 0)
    else
      let n := k - 1
      let late := fld rec_ 16 8
      let m := { m with repDone := k, repAt := now }
      if fld rec_ 0 8 ≠ fld rec_ 8 8 then ((s.setMem p m).hold p 0x0102).raise 0x0102 p [n]
      else
        let m := if late = 0 then m else { m with s := m.due (n + 1) + ceilDiv late 1000 * 1000, m := n + 1, schedAt := now }
        (s.setMem p m).decideSlots p (n + 1) rec_
  | _, _ => s

/-- TICK_REPORT_STALLED: 50 ms without the report (03:R89), or without the combined cut report of a capture, of whose frame it is
(14:R453, log entry 91). -/
def reportStalled (s : Pkg) (p : Nat) : Pkg :=
  let x := s.part p
  let due (t : Nat) : Bool := decide (t + 50000000 ≤ s.tempo.now)
  match x.st, x.mem.awaiting, x.cap with
  | .running, some (k + 1, t), _ => if due t then (s.hold p 0x0102).raise 0x0102 p [k] else s
  | .checkpointing, _, some c =>
    if c.step = 2 && x.mem.combined.isNone && due c.sent then
      (s.setPart p { x with st := .holding, holdCause := 0x0102, mem := { x.mem with state := 3 } }).raise 0x0102 p [fld c.bytes 8 8]
    else s
  | _, _, _ => s

/-- LAUNCH_REPORT_STALLED: 50 ms without report −1 (03:R85). -/
def launchStalled (s : Pkg) (p : Nat) : Pkg :=
  match (s.part p).mem.awaiting with
  | some (0, t) => if t + 50000000 ≤ s.tempo.now then (s.forgetReports p).cancelLaunch p 2 else s
  | _ => s

/-- RAMP_SLOT: the tile's slot of its frame has come: its ply begins, or its held gambit ply commits (03:R90, R91, R100). A tile whose
site has failed waits for its castling; a replay that waited for the slot begins (13:R409, R412). -/
def rampSlot (s : Pkg) (n : Nat) : Pkg :=
  let t := s.tile n
  let p := t.part - 1
  let st := (s.part p).st
  if t.part = 0 || !(st == .running || st == .holding) || !(s.ramped n) || s.fenced n then s
  else
    match t.mode with
    | .rampWait | .frameDone =>
      (s.mapRecovery n (fun r => if r.step = 1 && !r.recorded then { r with start := s.tempo.now } else r)).setTile n
        { t with mode := .running, entered := s.tempo.now, spanCyc := 0, spanFrom := s.tempo.now }
    | .gambitHeld => s.drain n
    | _ => s

/-- RECORD_RING_ROOM: the host moves its offset. In recording a gap entry and what waits are written; in replay, and before a replay
that is staged begins, the entries read are taken, and a gap entry refuses the replay (03:R113, R115, R116, log entries 61, 62). -/
def ringRoom (s : Pkg) (p off : Nat) (data : List Byte) : Pkg :=
  let r := (s.part p).recd
  let now := s.tempo.now
  let x := s.part p
  let soon := r.mode ≠ 2 && (x.mem.pendingChanges ++ x.mem.applying).any Change.replays
  if soon && (r.mode = 0 || !data.isEmpty) then
    let es := cutEntries data.length data
    if es.any (fun e => decide (byteAt e 0 = 0x0E)) then
      (s.setRec p { r with entries := [], refused := true, roomAt := now }).raise 0x010C p [1]
    else
      let was := x.ringReady 0 x.mem.next
      let s := s.setRec p { r with loaded := off, entries := r.entries ++ es }
      let s := s.emit (.hostWrite p (s.ent (0x8400 + p) 1 + 8) (natLe 8 off))
      if !was && (s.part p).ringReady 0 x.mem.next then s.setRec p { (s.part p).recd with roomAt := now } else s
  else if r.mode = 1 then
    let s := s.setRec p { r with cons := off }
    let s :=
      if r.gap = 0 then s
      else match s.ringPut p (recEntry 0x0E false r.gapFrame now 0 0 r.gap []) with
        | some s => s.setRec p { (s.part p).recd with gap := 0, gapFrame := 0 }
        | none => s
    let s := s.ringDrain p r.wait
    let r' := (s.part p).recd
    if !r.wait.isEmpty && r'.wait.isEmpty then s.setRec p { r' with roomAt := now } else s
  else if r.mode = 2 then
    let es := cutEntries data.length data
    if es.any (fun e => decide (byteAt e 0 = 0x0E)) then (s.setRec p { r with mode := 0, entries := [] }).raise 0x010C p [1]
    else
      let m := x.mem
      let was := x.ringReady 0 m.next
      let s := s.setRec p { r with prod := off, cons := off, entries := r.entries ++ es }
      let s := s.emit (.hostWrite p (s.ent (0x8400 + p) 1 + 8) (natLe 8 off))
      if !was && (s.part p).ringReady 0 m.next then s.setRec p { (s.part p).recd with roomAt := now } else s
  else s

end Sys2Proof

namespace Sys2Proof.Machine

open Sys2Proof

/-- TICK_FIRE (03:R84). -/
def execTickFire (p : Nat) (s : State) : Res := onPart p s (fun k => tickFire k p)
/-- RECORD_RING_ROOM (03:R115, R116): the host's new offset and, in replay, the ring's bytes up to it. -/
def execRecordRingRoom (p off : Nat) (data : List Byte) (s : State) : Res := onPart p s (fun k => ringRoom k p off data)
/-- FRAME_START (03:R87). -/
def execFrameStart (p : Nat) (s : State) : Res := onPart p s (fun k => frameStart k p)
/-- TICK_REPORT (03:R86). -/
def execTickReport (p idx : Nat) (s : State) : Res := onPart p s (fun k => tickReport k p idx)
/-- TICK_REPORT_STALLED (03:R89). -/
def execTickReportStalled (p : Nat) (s : State) : Res := onPart p s (fun k => reportStalled k p)
/-- LAUNCH_REPORT_STALLED (03:R85). -/
def execLaunchReportStalled (p : Nat) (s : State) : Res := onPart p s (fun k => launchStalled k p)
/-- RAMP_SLOT (03:R90). -/
def execRampSlot (t : Nat) (s : State) : Res := onTile t s (fun k => rampSlot k t)

end Sys2Proof.Machine
end

