-- ==== Sys2Proof/Machine/Tier.lean ====
section
/-!
DEFINITION. The S-dies' banks and the tier engines' own events: applied writes, scrub, failed banks and regions that close (09).
-/

namespace Sys2Proof

/-- Lines of one row are unreadable: no data, and the partitions that hold the C-die are faulted; the event names the first that holds
data (09:R263, 13:R415). -/
def Pkg.dstoreLost (s : Pkg) (die : Nat) (raws : List Nat) : Pkg :=
  let x := s.sdie die
  let s := s.setSdie die { x with lost := x.lost ++ raws.filter (fun r => !(x.lost.contains r)) }
  let l := ((raws.find? (fun r => decide (r / 93696 % 8 < 7))).map dataOf).getD 0
  (s.raise 0x0306 (s.partOfDie die) [die, l * 64]).outOfScope { cls := 4, unit := die, detected := s.tempo.now, spares := x.spares } (s.partsOfDie die)

/-- A bank of an S-die fails: its rows go to a spare bank, or stay read by reconstruction; beside another dead bank of the group every
row of both is lost, and the event names the first (09:R263). Banks are numbered
group × 8 + bank. -/
def Pkg.bankFail (s : Pkg) (die b : Nat) : Pkg :=
  let x := s.sdie die
  if x.dead b then s
  else
    let g := b / 8
    let other := (List.range 8).find? (fun k => decide (g * 8 + k ≠ b) && x.dead (g * 8 + k))
    let s :=
      if x.spares = 0 then (s.setSdie die { x with banks := Tab.insert x.banks b 3, recon := Tab.erase x.recon b }).raise 0x0305 (s.partOfDie die) [die]
      else
        let s := s.setSdie die { x with banks := Tab.insert x.banks b 1, recon := Tab.erase x.recon b, spares := x.spares - 1, failedAt := Tab.insert x.failedAt b s.tempo.now }
        if x.spares = 1 then s.sparesLow 4 die 0 else s
    let s := s.openGroup 4 (die * 32 + g)
    match other with
    | some k => s.dstoreLost die [rawLine b 0, rawLine (g * 8 + k) 0]
    | none => s

/-- A line an S-die reads has an error: 1 a single bit, 2 an uncorrectable word or a line the bank cannot read. With another line of its
row unreadable, in a dead bank or in bank `also` of the group, both give no data (09:R263). -/
def Pkg.lineError (s : Pkg) (die raw ecc : Nat) (also : Option Nat) : Pkg :=
  if ecc = 0 then s
  else if ecc = 1 then s.bump (0x4040 + die) 1 1
  else
    let x := s.sdie die
    let b := raw / 93696
    let others := (List.range 8).filter (fun k => decide (b / 8 * 8 + k ≠ b) && (x.dead (b / 8 * 8 + k) || also == some k))
    if !others.isEmpty then s.dstoreLost die (raw :: others.map (fun k => rawLine (b / 8 * 8 + k) (raw % 93696)))
    else
      let ts := within1s s.tempo.now (Tab.get [] x.recon b)
      let s := (s.setSdie die { x with recon := Tab.insert x.recon b ts }).bump (0x4040 + die) 2 1
      if 8 ≤ ts.length then s.bankFail die b else s

/-- The patrol scrub reads the next line of the S-die, parity and the hidden state among them; or, where a line of the window is named, an
access reads that one (09:R259, R263, log entry 96). -/
def patrolScrub (s : Pkg) (die : Nat) (f : ScrubFound) : Pkg :=
  let x := s.sdie die
  match f.line with
  | some l => s.lineError die (rawOf l) f.ecc f.also
  | none => (s.setSdie die { x with scrub := (x.scrub + 1) % 23986176 }).lineError die x.scrub f.ecc f.also

/-- A failed bank's rows are in a spare bank: rebuilt from the other banks of the group, which none but it may lack (09:R263, 13:R413). -/
def bankRebuilt (s : Pkg) (die b : Nat) : Pkg :=
  let x := s.sdie die
  if Tab.get 0 x.banks b = 1 && !(x.otherDead b) then
    let s := ((s.setSdie die { x with banks := Tab.insert x.banks b 2, failedAt := Tab.erase x.failedAt b }).bump (0x4040 + die) 3 1).repairGroup 4 (die * 32 + b / 8)
    s.castlingRecord { cls := 4, unit := die, detected := Tab.get 0 x.failedAt b, spares := x.spares, parts := maskOf (s.partsOfDie die) }
  else s

/-- A closing region whose references have ended (09:R272, R277). -/
def regionCloseDone (s : Pkg) (r : Nat) : Pkg := (s.closeDone r).finishCreates 1024

/-- Number of S-dies (01:R20). -/
def sdieMax : Nat := 48

end Sys2Proof

namespace Sys2Proof.Machine

open Sys2Proof

/-- MOVE_TIER_TO_DSTORE: kind 0x06 (04:R135, 09:R291). -/
def execMoveTierToDstore (t : Nat) (s : State) : Res := onTile t s (fun k => moveTier k t)
/-- DSTORE_WRITE_APPLY: the first n arrived writes reach the S-die in one cycle (09:R265). -/
def execDstoreWriteApply (die n : Nat) (s : State) : Res := act (decide (die < sdieMax)) s (fun k => k.dieApply die n)
/-- DSTORE_PATROL_SCRUB (09:R263). -/
def execDstorePatrolScrub (die : Nat) (found : ScrubFound) (s : State) : Res :=
  act (decide (die < sdieMax) && decide (found.line.getD 0 < 20971520)) s (fun k => patrolScrub k die found)
/-- DSTORE_BANK_FAIL (09:R263). -/
def execDstoreBankFail (die bank : Nat) (s : State) : Res :=
  act (decide (die < sdieMax) && decide (bank < 256)) s (fun k => k.bankFail die bank)
/-- DSTORE_BANK_REBUILD_DONE (09:R263). -/
def execDstoreBankRebuildDone (die bank : Nat) (s : State) : Res :=
  act (decide (die < sdieMax) && decide (bank < 256)) s (fun k => bankRebuilt k die bank)
/-- REGION_CLOSE_DONE (09:R272). -/
def execRegionCloseDone (r : Nat) (s : State) : Res := act (decide (r < 1024)) s (fun k => regionCloseDone k r)

end Sys2Proof.Machine
end

