-- ==== Sys2Proof/Machine/HartOps.lean ====
section
/-!
DEFINITION. What every hart instruction uses: registers, traps into S mode, interrupts, hart ply marks, address translation,
the decoding of physical addresses, and accesses in every direction (08:R233 to R246, 01:R38, R39, R42, R44). What the spec takes
from the RISC-V manuals is PRESUMED (log entry 14).
-/

namespace Sys2Proof

open Sys2Proof.Rv

/-- Registers. -/
def HArch.xr (a : HArch) (i : Nat) : Word := if i = 0 then 0 else Tab.get 0 a.x i
def HArch.setX (a : HArch) (i : Nat) (v : Word) : HArch := if i = 0 then a else { a with x := Tab.set 0 a.x i v }
def HArch.fr (a : HArch) (i : Nat) : Nat := Tab.get 0 a.f i

/-- Fields of sstatus: FS [14:13], VS [10:9] (the spec's mstatus.VS is the same field). -/
def HCsr.fs (c : HCsr) : Nat := bits c.sstatus 14 13
def HCsr.vs (c : HCsr) : Nat := bits c.sstatus 10 9

/-- Replace bits [hi:lo] of a value. -/
def putBits (v hi lo x : Nat) : Nat := v - bits v hi lo * 2 ^ lo + x % 2 ^ (hi + 1 - lo) * 2 ^ lo

/-- Write an f register; the float state becomes Dirty. -/
def HArch.setF (a : HArch) (i v : Nat) : HArch :=
  { a with f := Tab.set 0 a.f i v, csr := { a.csr with sstatus := putBits a.csr.sstatus 14 13 3 } }

/-- Write bytes of the vector registers; the vector state becomes Dirty. -/
def HArch.setV (a : HArch) (off : Nat) (bs : List Byte) : HArch :=
  { a with v := a.v.writeN off bs, csr := { a.csr with sstatus := putBits a.csr.sstatus 10 9 3 } }

/-- Raise fflags. -/
def HArch.fflag (a : HArch) (fl : Nat) : HArch :=
  if fl = 0 then a else { a with csr := { a.csr with fcsr := a.csr.fcsr ||| fl, sstatus := putBits a.csr.sstatus 14 13 3 } }

/-- A service-firmware hart: it belongs to no partition (08:R232). -/
def Pkg.svc (s : Pkg) (h : Nat) : Bool := decide ((s.hart h).part = 0)

/-- Grow a counter of the hart's partition; service-firmware harts have none. -/
def Pkg.hbump (s : Pkg) (h base i k : Nat) : Pkg := if s.svc h then s else s.bump (base + ((s.hart h).part - 1)) i k

/-- Count a refused access of a hart for its partition (01:R44). -/
def Pkg.hartAddrError (s : Pkg) (h a n : Nat) : Pkg := if s.svc h then s else s.addrError ((s.hart h).part - 1) a n

/-- The time a hart reads: a partition hart, the nominal time, its partition's frame index × 2^20; a service-firmware hart, Tempo
(08:R235). -/
def Pkg.nominal (s : Pkg) (h : Nat) : Nat :=
  if s.svc h then s.tempo.now % 2 ^ 64 else (s.part ((s.hart h).part - 1)).mem.n * 2 ^ 20 % 2 ^ 64

/-- The cycle count a hart reads: a partition hart, its retired instructions; a service-firmware hart, cycles of its P-die's cores
(08:R231, R235). -/
def Pkg.hartCycle (s : Pkg) (h : Nat) : Nat :=
  let d := 48 + h / 384
  if s.svc h then ((Tab.get 0 s.pow.coreCyc d + (s.tempo.local_ - s.pow.coreAt) * s.coreClock d) / 1000 + (s.hart h).a.csr.cycOff) % 2 ^ 64
  else (s.hart h).a.csr.instret

/-- Pending interrupts: the timer's bit follows stimecmp, unless menvcfg.STCE is clear (08:R233, R235). -/
def Pkg.hartSip (s : Pkg) (h : Nat) : Nat :=
  let c := (s.hart h).a.csr
  if bit c.menvcfg 63 then putBits c.sip 5 5 (b2n (decide (c.stimecmp ≤ s.nominal h))) else c.sip

/-- A trap goes to S mode: on a partition hart always, since the service firmware serves what M mode would see; on a service-firmware
hart, where it came from S or U and is delegated (08:R234, log entry 70). -/
def HArch.toS (a : HArch) (svc : Bool) (cause : Nat) (irq : Bool) : Bool :=
  !svc || (decide (a.priv ≤ 1) && bit (if irq then a.csr.mideleg else a.csr.medeleg) cause)

/-- Whether an interrupt can be taken in this mode. -/
def HArch.irqOn (a : HArch) (svc : Bool) (cause : Nat) : Bool :=
  if !svc || bit a.csr.mideleg cause then decide (a.priv = 0) || (decide (a.priv = 1) && bit a.csr.sstatus 1)
  else decide (a.priv ≤ 1) || bit a.csr.mstatus 3

/-- Trap into M mode. -/
def HArch.trapM (a : HArch) (cause tval : Nat) (irq : Bool) : HArch :=
  let c := a.csr
  let st := putBits (putBits (putBits c.mstatus 12 11 a.priv) 7 7 (b2n (bit c.mstatus 3))) 3 3 0
  let base := c.mtvec - c.mtvec % 4
  { a with priv := 3, pc := BitVec.ofNat 64 (if irq && c.mtvec % 4 = 1 then base + 4 * cause else base)
           csr := { c with mstatus := st, mepc := a.pc.toNat, mcause := (if irq then 2 ^ 63 else 0) + cause, mtval := tval } }

/-- Trap into S mode. -/
def HArch.trap (a : HArch) (cause tval : Nat) (irq : Bool) : HArch :=
  let c := a.csr
  let st := putBits (putBits (putBits c.sstatus 8 8 a.priv) 5 5 (b2n (bit c.sstatus 1))) 1 1 0
  let base := c.stvec - c.stvec % 4
  { a with priv := 1, pc := BitVec.ofNat 64 (if irq && c.stvec % 4 = 1 then base + 4 * cause else base)
           csr := { c with sstatus := st, sepc := a.pc.toNat, scause := (if irq then 2 ^ 63 else 0) + cause, stval := tval } }

/-- A trap into the mode that takes it. -/
def HArch.take (a : HArch) (svc : Bool) (cause tval : Nat) (irq : Bool) : HArch :=
  if a.toS svc cause irq then a.trap cause tval irq else a.trapM cause tval irq

/-- What a trap leaves beside the registers: no hint, and no reservation where it goes to M mode (08:R251, R256). -/
def Hart.trapped (x : Hart) (svc : Bool) (cause tval : Nat) (irq : Bool) : Hart :=
  { x with a := x.a.take svc cause tval irq, ntl := false, resv := if x.a.toS svc cause irq then x.resv else none }

/-- A hart takes an exception, or an interrupt. -/
def Pkg.hartTrap (s : Pkg) (h cause tval : Nat) : Pkg := let x := (s.hart h).trapped (s.svc h) cause tval false
  s.setHart h { x with n := x.n + 1 }
def Pkg.hartIrq (s : Pkg) (h cause : Nat) : Pkg := s.setHart h ((s.hart h).trapped (s.svc h) cause 0 true)

/-- Illegal instruction. -/
def Pkg.hartIllegal (s : Pkg) (h w : Nat) : Pkg := s.hartTrap h 2 w

/-- An access fault of a hart with no fabric cause: load 5, store 7. -/
def Pkg.hartAccessFault (s : Pkg) (h cause va : Nat) : Pkg := s.hartTrap h cause va

/-- Bytes cut at 64-byte lines. -/
def cutLines : Nat → List Byte → List (Nat × List Byte)
  | _, [] => []
  | a, b :: t => match cutLines (a + 1) t with
    | (c, d) :: r => if c % 64 = 0 then (a, [b]) :: (c, d) :: r else (a, b :: d) :: r
    | [] => [(a, [b])]

/-- Place a hart ply mark: the buffer starts to drain to its S-dies in program order, 64 B at most in a write, and the next ply's time
runs from here. Service-firmware harts have no plies (08:R244, R245). -/
def Pkg.hmark (s : Pkg) (h : Nat) : Pkg :=
  let x := s.hart h
  if x.marked || s.svc h then s
  else
    let ws := x.buf.flatMap (fun e => cutLines e.1 e.2)
    let s := ((List.range ws.length).zip ws).foldl
      (fun s w => s.sendWrite { src := 1, unit := h, part := x.part - 1, seq := x.seq, idx := w.1, addr := w.2.1, data := w.2.2 }) s
    s.setHart h { x with marked := true, resv := none, since := s.tempo.now }

/-- The hart may execute: it runs on its core, waits for nothing and has no mark to commit; a checkpoint lets it go on only to its
next mark; a service-firmware hart runs with the service firmware (08:R232, R242, R245, 14:R448, 17:R522). -/
def Pkg.hartMode (s : Pkg) (h : Nat) : Bool :=
  let x := s.hart h
  let p := s.part (x.part - 1)
  x.on && !(Tab.get {} s.cores (h / 8)).failed
    && (if s.svc h then s.fw.up && decide (h < 16)
        else p.st == .running || p.st == .holding || (p.st == .checkpointing && decide (x.n ≠ 0)))

/-- The timer interrupt can be taken: a partition hart takes it at a mark, a service-firmware hart at any instruction (08:R235). -/
def Pkg.timerDue (s : Pkg) (h : Nat) : Bool :=
  let x := s.hart h
  x.a.irqOn (s.svc h) 5 && bit x.a.csr.sie 5 && bit (s.hartSip h) 5 && (s.svc h || decide (x.n = 0))
def Pkg.hartReady (s : Pkg) (h : Nat) : Bool :=
  let x := s.hart h
  s.hartMode h && (x.wait == .none) && !x.marked && !(s.timerDue h)
def Pkg.hartRuns (s : Pkg) (h : Nat) : Bool :=
  s.hartReady h && decide ((Tab.get {} s.cores (h / 8)).cur = h % 8) && !(s.gated (48 + h / 384))

/-- An instruction retires: pc, the counts and the ply's length (08:R235). -/
def Pkg.hretire (s : Pkg) (h len : Nat) : Pkg :=
  let x := s.hart h
  let a := { x.a with pc := x.a.pc + BitVec.ofNat 64 len, csr := { x.a.csr with instret := (x.a.csr.instret + 1) % 2 ^ 64 } }
  (s.setHart h { x with a := a, n := x.n + 1 }).hbump h 0x38A0 2 1

/-- The hart goes on past an instruction that does not count as retired: an environment call. -/
def Pkg.hgo (s : Pkg) (h len : Nat) : Pkg :=
  let x := s.hart h
  s.setHart h { x with a := { x.a with pc := x.a.pc + BitVec.ofNat 64 len }, n := x.n + 1 }

/-- The hart is switched out by an access whose result it has already (08:R242). -/
def Pkg.switchOut (s : Pkg) (h : Nat) (long : Bool) : Pkg := if long then s.setHart h { s.hart h with wait := .access } else s

/-- An access to die-store parts misses the shared cache, or has its home slice on another P-die (08:R242). -/
def Pkg.isLong (s : Pkg) (h : Nat) (ps : List (Nat × Nat)) : Bool :=
  (ps.flatMap (fun p => linesOf p.1 p.2)).any (fun l => (Tab.find s.scache l).isNone || homeSlice l / 16 ≠ h / 384)

/-- Change a hart's registers. -/
def Pkg.onArch (s : Pkg) (h : Nat) (f : HArch → HArch) : Pkg := let x := s.hart h
  s.setHart h { x with a := f x.a }

/-- Registers change and the instruction retires. -/
def Pkg.retireWith (s : Pkg) (h len : Nat) (f : HArch → HArch) : Pkg := (s.onArch h f).hretire h len

/-- The access is a hart ply of its own: a mark stands before it where anything has happened since the last (08:R244). -/
def Pkg.ownPly (s : Pkg) (h : Nat) (f : Pkg → Pkg) : Pkg := if (s.hart h).n ≠ 0 && !(s.svc h) then s.hmark h else f s

/-- Where a physical access of a hart goes (01:R38, R39, R42). -/
inductive HTgt where
  /-- die-store memory of the partition -/
  | mem (a : Nat)
  /-- board-tier window of the own package -/
  | tier (a : Nat)
  /-- package control space, for service firmware -/
  | ctl (a : Nat)
  /-- another package: node, space, address -/
  | remote (node space a : Nat)
  /-- another package of the tray with no peer known (11:R346) -/
  | slotDown
  /-- refused: counted under R44 or not -/
  | refused (count : Bool) (a : Nat)
deriving DecidableEq, Repr, Inhabited

/-- The remap entry of an index (11:R374). -/
def Pkg.remap (s : Pkg) (i : Nat) : Nat := s.ent (0x5200 + i / 16) (i % 16 + 1)

/-- Decode a physical access (01:R32, R33, R38, R39, 17:R529). Service firmware reaches every die-store window and the control space of
its package (01:R35, 17:R510), and nothing else (log entry 70). An access through a remap entry that names the own node goes out by the
fabric's port choice as any other (DESIGN CHOICE, log entry 59). -/
def Pkg.hartTarget (s : Pkg) (h pa n : Nat) : HTgt :=
  let p := (s.hart h).part - 1
  if s.svc h then
    let a := bits pa 45 0
    if 2 ^ 48 ≤ pa || bits pa 47 46 ≠ s.net.slot then .refused false a
    else if (ctlDie a).isSome && (ctlDie (a + n - 1)).isSome then .ctl a
    else if dsOk a n then .mem a
    else .refused false a
  else if bit pa 55 then
    let e := s.remap (bits pa 54 43)
    if bit e 31 then .remote (bits e 16 0) 1 (bits pa 42 0) else .refused true 0
  else if 2 ^ 48 ≤ pa then .refused true 0
  else
    let a := bits pa 45 0
    let slot := bits pa 47 46
    if slot ≠ s.net.slot then
      match Tab.get 0 s.net.peers slot with
      | 0 => .slotDown
      | k + 1 => .remote k 0 a
    else if inControl a n then .refused true a
    else if inTier a then .tier a
    else if dsOk a n then (if s.ownRange p a n then .mem a else .refused false a)
    else .refused true a

/-- Result of a translation: a physical address, or a page fault or access fault. -/
inductive Xlat where
  | pa (a : Nat)
  | page
  | access
deriving DecidableEq, Repr, Inhabited

/-- The mode whose rights an access has: that of mstatus.MPP for a load or store in M mode with MPRV set. -/
def HArch.eff (a : HArch) (kind : Nat) : Nat :=
  if kind ≠ 0 && a.priv = 3 && bit a.csr.mstatus 17 then bits a.csr.mstatus 12 11 else a.priv

/-- What an access needs of a page: 0 fetch, 1 load, 2 store, 3 cache-block management. Accessed and dirty bits are never set by the
hardware: a clear one is a page fault (PRESUMED, log entry 14). -/
def pteAllows (a : HArch) (kind pte : Nat) : Bool :=
  let u := bit pte 4
  let r := bit pte 1 || (bit a.csr.sstatus 19 && bit pte 3)
  let perm := match kind with
    | 0 => bit pte 3
    | 1 => r
    | 2 => bit pte 2
    | _ => r || bit pte 2
  let mode := if a.eff kind = 0 then u else !u || (decide (kind ≠ 0) && bit a.csr.sstatus 18)
  perm && mode && bit pte 6 && (decide (kind ≠ 2) || bit pte 7)

/-- The range of PMP entry i, in bytes: first and past its last; none where it is off. -/
def HCsr.pmpRange (c : HCsr) (i : Nat) : Option (Nat × Nat) :=
  let at_ (k : Nat) : Nat := Tab.get 0 c.pmp k
  match bits (Tab.get 0 c.pmp (16 + i)) 4 3 with
  | 0 => none
  | 1 => some ((if i = 0 then 0 else at_ (i - 1) * 4), at_ i * 4)
  | 2 => some (at_ i * 4, at_ i * 4 + 4)
  | _ =>
    let k := ((List.range 54).takeWhile (fun j => bit (at_ i) j)).length
    some (at_ i / 2 ^ (k + 1) * 2 ^ (k + 1) * 4, (at_ i / 2 ^ (k + 1) + 1) * 2 ^ (k + 1) * 4)

/-- The PMP entries allow an access in a mode: the lowest-numbered entry that meets any of its bytes decides, and must cover them
all (08:R233; PRESUMED, log entry 14). -/
def HCsr.pmpAllows (c : HCsr) (mode kind pa n : Nat) : Bool :=
  let meets (i : Nat) : Bool := match c.pmpRange i with
    | some r => decide (r.1 < pa + n) && decide (pa < r.2)
    | none => false
  match (List.range 16).find? meets with
  | none => decide (mode = 3)
  | some i =>
    let cfg := Tab.get 0 c.pmp (16 + i)
    let whole := match c.pmpRange i with
      | some r => decide (r.1 ≤ pa) && decide (pa + n ≤ r.2)
      | none => false
    let right := match kind with
      | 0 => bit cfg 2
      | 1 => bit cfg 0
      | 2 => bit cfg 1
      | _ => bit cfg 0 || bit cfg 1
    whole && ((decide (mode = 3) && !(bit cfg 7)) || right)

/-- The table walk from a level down; page-table words are read through the home slices, and a refused one counts (01:R44). -/
def Pkg.walk (s : Pkg) (h kind va : Nat) : Nat → Nat → Xlat × Pkg
  | 0, _ => (.page, s)
  | lvl + 1, ppn =>
    let pa := ppn * 4096 + bits va (20 + 9 * lvl) (12 + 9 * lvl) * 8
    match (if (s.hart h).a.csr.pmpAllows 1 1 pa 8 then s.hartTarget h pa 8 else .refused false pa) with
    | .mem a =>
      let (bs, s) := s.loadBytes h a 8 false
      let pte := leNat bs
      let ppn := bits pte 53 10
      if !(bit pte 0) || (!(bit pte 1) && bit pte 2) || bits pte 60 54 ≠ 0 || bits pte 62 61 = 3 || (bits pte 62 61 ≠ 0 && !(bit (s.hart h).a.csr.menvcfg 62)) || bit pte 63 then (.page, s)
      else if bit pte 1 || bit pte 3 then
        if pteAllows (s.hart h).a kind pte && decide (ppn % 512 ^ lvl = 0) then (.pa (ppn * 4096 + va % (4096 * 512 ^ lvl)), s) else (.page, s)
      else if bit pte 4 || bit pte 6 || bit pte 7 || bits pte 62 61 ≠ 0 then (.page, s)
      else Pkg.walk s h kind va lvl ppn
    | .refused true a | .tier a => (.access, s.hartAddrError h a 8)
    | _ => (.access, s)

/-- Translate an address: Bare, Sv39 or Sv48 (08:R233). A physical address beyond 56 bits is an access fault. -/
def Pkg.translate (s : Pkg) (h kind va : Nat) : Xlat × Pkg :=
  let a := (s.hart h).a
  let satp := if a.eff kind = 3 then 0 else a.csr.satp
  let go (bitsN lvl : Nat) : Xlat × Pkg :=
    let top := va / 2 ^ (bitsN - 1)
    if top ≠ 0 && top ≠ 2 ^ (65 - bitsN) - 1 then (.page, s) else s.walk h kind va lvl (bits satp 43 0)
  match satp / 2 ^ 60 with
  | 8 => go 39 3
  | 9 => go 48 4
  | _ => (if va < 2 ^ 56 then .pa va else .access, s)

/-- Exception causes of the three kinds of access: page fault, access fault. -/
def pageCause (kind : Nat) : Nat := match kind with
  | 0 => 12
  | 1 => 13
  | _ => 15
def accessCause (kind : Nat) : Nat := match kind with
  | 0 => 1
  | 1 => 5
  | _ => 7

/-- The parts of an access that crosses a page: virtual address and length. -/
def pageParts (va n : Nat) : List (Nat × Nat) :=
  let k := 4096 - va % 4096
  if n ≤ k then [(va, n)] else [(va, k), ((va + k) % 2 ^ 64, n - k)]

/-- Outcome of resolving an access: its parts, or the fault and its address. -/
inductive HRes where
  | parts (ps : List (HTgt × Nat))
  | fault (cause va : Nat)
deriving DecidableEq, Repr, Inhabited

/-- Where the parts of an access go, with their virtual addresses and lengths, each allowed by the PMP; or the first fault. -/
inductive HTgts where
  | parts (ps : List (HTgt × Nat × Nat))
  | fault (cause va : Nat)
deriving DecidableEq, Repr, Inhabited

/-- Translate every part of an access. -/
def Pkg.targets (s : Pkg) (h kind : Nat) : List (Nat × Nat) → HTgts × Pkg
  | [] => (.parts [], s)
  | (va, n) :: t =>
    match s.translate h kind va with
    | (.page, s) => (.fault (pageCause kind) va, s)
    | (.access, s) => (.fault (accessCause kind) va, s)
    | (.pa pa, s) =>
      let a := (s.hart h).a
      if !(a.csr.pmpAllows (a.eff kind) kind pa n) then (.fault (accessCause kind) va, s)
      else match Pkg.targets s h kind t with
        | (.parts ps, s) => (.parts ((s.hartTarget h pa n, va, n) :: ps), s)
        | r => r

/-- Resolve an access: the first part that faults is the access's fault; one refused under R42 counts, and one with any byte in the
control space is an access to it, counted once (01:R44). -/
def Pkg.resolve (s : Pkg) (h kind : Nat) (vs : List (Nat × Nat)) : HRes × Pkg :=
  match s.targets h kind vs with
  | (.fault c va, s) => (.fault c va, s)
  | (.parts ps, s) =>
    let no (p : HTgt × Nat × Nat) : Bool := match p.1 with
      | .refused _ _ => true
      | _ => false
    let ctl (p : HTgt × Nat × Nat) : Bool := match p.1 with
      | .refused c a => c && inControl a p.2.2
      | _ => false
    match (match ps.find? ctl with
      | some p => some p
      | none => ps.find? no) with
    | some (.refused count a, va, n) => (.fault (accessCause kind) va, if count then s.hartAddrError h a n else s)
    | _ => (.parts (ps.map (fun p => (p.1, p.2.2))), s)

/-- Every part is die-store memory: its parts' addresses and lengths. -/
def localParts : List (HTgt × Nat) → Option (List (Nat × Nat))
  | [] => some []
  | (.mem a, n) :: t => (localParts t).map ((a, n) :: ·)
  | _ => none

/-- Bytes that the hart's own uncommitted stores give at an address (08:R243). -/
def forward (buf : List (Nat × List Byte)) (a : Nat) (d : List Byte) : List Byte :=
  buf.foldl (fun d e => (List.range d.length).map (fun i =>
    let b := a + i
    if decide (e.1 ≤ b) && decide (b < e.1 + e.2.length) then e.2.getD (b - e.1) 0 else d.getD i 0)) d

/-- A load from die-store parts. -/
def Pkg.loadLocal (s : Pkg) (h : Nat) (ps : List (Nat × Nat)) (stream : Bool) : List Byte × Pkg :=
  ps.foldl (fun (r : List Byte × Pkg) p => let (d, s) := r.2.loadBytes h p.1 p.2 stream
    (r.1 ++ forward (s.hart h).buf p.1 d, s)) ([], s)

/-- Units of the store buffer that the core's harts use, of 1,024 (08:R243). -/
def Pkg.bufUnits (s : Pkg) (core : Nat) : Nat := (List.range 8).foldl (fun k i => k + (s.hart (core * 8 + i)).lines.length) 0

/-- A store into the buffer, part by part; without free units a mark stands before it (08:R243, R244). A service-firmware hart has no
plies: its store goes through its home slice at once (log entry 70). -/
def Pkg.storeLocal (s : Pkg) (h : Nat) (ps : List (Nat × Nat)) (d : List Byte) (done : Pkg → Pkg) : Pkg :=
  let x := s.hart h
  if s.svc h then
    done (ps.foldl (fun (r : Pkg × List Byte) p => (r.1.writeThrough h p.1 (r.2.take p.2), r.2.drop p.2)) (s, d)).1
  else
  let want := ((ps.flatMap (fun p => linesOf p.1 p.2)).filter (fun l => !(x.lines.contains l))).eraseDups
  if 1024 < s.bufUnits (h / 8) + want.length then
    if x.n = 0 && x.buf.isEmpty then s else (s.hbump h 0x38A0 6 1).hmark h
  else
    let r := ps.foldl (fun (r : List (Nat × List Byte) × List Byte) p => (r.1 ++ [(p.1, r.2.take p.2)], r.2.drop p.2)) ([], d)
    done (s.setHart h { x with buf := x.buf ++ r.1, lines := x.lines ++ want })

/-- Split a part at 64-byte lines, as RD and WR carry them (11:R339); the address and the length. -/
def lineParts (a n : Nat) : List (Nat × Nat) :=
  if n = 0 then [] else if a / 64 = (a + n - 1) / 64 then [(a, n)] else [(a, 64 - a % 64), (a + (64 - a % 64), n - (64 - a % 64))]

/-- The hart's packet header (11:R338, R356). -/
def Pkg.hartHdr (s : Pkg) (h op node space addr spec : Nat) : Hdr :=
  let p := (s.hart h).part - 1
  let fence := if s.ent (0x5010 + p) 2 ≠ 0 && op ≠ opRD then 1 else 0
  { op := op, tc := 0, fence := fence, space := space, dst := node, addr := addr, agent := h + 0x2000, spec := spec }

/-- A completed access with a code other than OK: the fabric cause is kept, and the hart takes the access fault (11:R349, 17:R531). -/
def Pkg.hartFabFault (s : Pkg) (h : Nat) (a : HAcc) (code node : Nat) : Pkg :=
  let x := s.hart h
  (s.setHart h { x with wait := .none, fab := (code, node) }).hartTrap h (if a.store then 7 else 5) a.va

/-- Send one request for the hart; a request that cannot leave completes at once (11:R346). -/
def Pkg.hartSend (s : Pkg) (h : Nat) (hd : Hdr) (payload : List Byte) (a : HAcc) : Pkg :=
  let id := s.net.nextReq
  let x := s.hart h
  let (s, c) := s.sendReq (x.part - 1) (.hart h) hd payload
  if c = 0 then s.setHart h { s.hart h with wait := .remote id a } else s.hartFabFault h a c hd.dst

/-- Ask for the next part of an access that leaves the hart: a line of another package, or a packet of the board tier. Space 2
stands for the tier; 3 for a slot with no peer. -/
def Pkg.askPart (s : Pkg) (h : Nat) (a : HAcc) : Pkg :=
  match a.rest with
  | [] => s
  | (node, space, addr, d, n) :: t =>
    let a := { a with rest := t, size := n, off := addr % 64 }
    if space = 2 then
      let r := s.region (regionOf addr)
      let o := addr % 0x800000000
      let id := s.tier.next
      let s := (s.refer (regionOf addr)).setHart h { s.hart h with wait := .tier id { a with off := 0 } }
      s.readPacket (.hart h (o % r.P)) (regionOf addr) (o / r.P)
    else if space = 3 then (s.hbump h 0x5010 5 1).hartFabFault h a 2 0x1FFFF
    else if d.isEmpty then s.hartSend h (s.hartHdr h opRD node space (addr - addr % 64) 0) [] a
    else
      let mask := (2 ^ n - 1) * 2 ^ (addr % 64)
      s.hartSend h (s.hartHdr h opWR node space (addr - addr % 64) mask) (List.replicate (addr % 64) 0 ++ d ++ List.replicate (64 - addr % 64 - n) 0) a

/-- A load of the board-tier window is allowed: a sealed region of the partition, within its packets (09:R294). -/
def Pkg.tierOk (s : Pkg) (h addr n : Nat) : Bool :=
  let r := s.region (regionOf addr)
  let o := addr % 0x800000000
  !(s.svc h) && decide (regionOf addr < 1024) && decide (r.st = 2) && decide (r.part = (s.hart h).part - 1) && decide (o + n ≤ r.packets * r.P)

/-- A Ryquel access does not lie in one line of one part (01:R39). -/
def ryquelSplit (ps : List (HTgt × Nat)) : Bool :=
  ps.any (fun p => match p.1 with
    | .remote _ space a => decide (space = 1) && (decide (ps.length ≠ 1) || decide ((lineParts a p.2).length ≠ 1))
    | _ => false)

/-- The parts of an access that leaves the hart, in order; none where it is refused. -/
def Pkg.farParts (s : Pkg) (h : Nat) (store : Bool) : List (HTgt × Nat) → List Byte → Option (List (Nat × Nat × Nat × List Byte × Nat))
  | [], _ => some []
  | (g, n) :: t, d =>
    let one (node space a : Nat) : List (Nat × Nat × Nat × List Byte × Nat) :=
      ((lineParts a n).foldl (fun (r : List (Nat × Nat × Nat × List Byte × Nat) × List Byte) q =>
        (r.1 ++ [(node, space, q.1, if store then r.2.take q.2 else [], q.2)], r.2.drop q.2)) ([], d)).1
    let here : Option (List (Nat × Nat × Nat × List Byte × Nat)) := match g with
      | .remote node space a => some (one node space a)
      | .slotDown => some [(0, 3, 0, [], n)]
      | .tier a =>
        if store || !(s.tierOk h a n) then none
        else
          let P := (s.region (regionOf a)).P
          let o := a % 0x800000000
          let k := P - o % P
          some (if n ≤ k then [(0, 2, a, [], n)] else [(0, 2, a, [], k), (0, 2, a + k, [], n - k)])
      | _ => none
    match here, Pkg.farParts s h store t (d.drop n) with
    | some x, some y => some (x ++ y)
    | _, _ => none

/-- The access touches the board-tier window. -/
def touchesTier (ps : List (HTgt × Nat)) : Bool := ps.any (fun p => match p.1 with
  | .tier _ => true
  | _ => false)

/-- Pointer masking of U mode (Supm): senvcfg.PMM says how many high bits of a data address are not looked at; they take the sign of
the rest where translation is on, else zero. -/
def HArch.maskPtr (a : HArch) (va : Nat) : Nat :=
  let k := match bits a.csr.senvcfg 33 32 with
    | 2 => 7
    | 3 => 16
    | _ => 0
  if a.priv ≠ 0 || k = 0 then va
  else if a.csr.satp / 2 ^ 60 = 0 then va % 2 ^ (64 - k) else (sext (64 - k) va).toNat

/-- Bytes of the control space as service firmware reads them: the service memory of P0's block; of every other block a free value
(17:R522, log entries 5, 70). -/
def Pkg.ctlRead (s : Pkg) (a n : Nat) : List Byte × Pkg :=
  if ctlDie a = some 48 then
    ((List.range n).map (fun i => s.fw.service.getD (a % 0x2000000 + i) 0), s)
  else let (v, s) := s.draw
    (natLe n (v % 2 ^ (8 * n)), s)

/-- A write of the control space: the service memory changes; what any other block does is outside the model (log entry 70). -/
def Pkg.ctlWrite (s : Pkg) (a : Nat) (d : List Byte) : Pkg :=
  if ctlDie a = some 48 then
    let o := a % 0x2000000
    { s with fw := { s.fw with service := padTo o (s.fw.service.take o) ++ d ++ s.fw.service.drop (o + d.length) } }
  else s

/-- Put what an access brought where it belongs. -/
def HArch.deliver (a : HArch) (dst : HDst) (bs : List Byte) : HArch :=
  match dst with
  | .none => a
  | .x rd sg => a.setX rd (if sg then sext (8 * bs.length) (leNat bs) else BitVec.ofNat 64 (leNat bs))
  | .f rd => a.setF rd (leNat bs + (2 ^ 64 - 2 ^ (8 * bs.length)))
  | .v off eb stride => ((List.range (bs.length / eb)).foldl (fun (a : HArch) k => a.setV (off + k * stride) (Sys2Proof.slice bs (k * eb) eb)) a)
  | .pair rd => if rd = 0 then a else (a.setX rd (BitVec.ofNat 64 (fld bs 0 8))).setX (rd + 1) (BitVec.ofNat 64 (fld bs 8 8))

/-- The access is complete: its result, then the mark after it (08:R244, 11:R355). A vector element leaves its instruction to go on, and
a streaming hint with it (08:R251). -/
def Pkg.accessDone (s : Pkg) (h : Nat) (a : HAcc) (bs : List Byte) : Pkg :=
  let s := s.onArch h (fun x => x.deliver a.dst bs)
  let x := s.hart h
  let s := s.setHart h { x with wait := .none, ntl := x.ntl && decide (a.len = 0) }
  let s := if a.len = 0 then
      let x := s.hart h
      s.setHart h { x with n := x.n + 1, a := { x.a with csr := { x.a.csr with vstart := x.a.csr.vstart + 1 } } }
    else s.hretire h a.len
  s.hmark h

/-- An access of `n` bytes at a virtual address. Die-store parts are served by `near`; an access that leaves the hart is a ply of its
own and is asked for part by part (08:R244, 11:R355, 09:R294). `tier` says which row this is: the loads of the board tier are
HART_TIER_LOAD's, and nothing happens here for the other row. -/
def Pkg.access (s : Pkg) (h kind va n : Nat) (d : List Byte) (tier : Bool) (a : HAcc) (near : Pkg → List (Nat × Nat) → Pkg) : Pkg :=
  let va := (s.hart h).a.maskPtr va
  let (r, s') := s.resolve h kind (pageParts va n)
  match r with
  | .fault c v => if tier then s else s'.hartTrap h c v
  | .parts ps =>
    match ps, localParts ps with
    | [(.ctl c, _)], _ => if tier then s else
        let a := { a with store := decide (kind = 2), va := va }
        if kind = 2 then ((s'.ctlWrite c d).accessDone h a []).switchOut h true
        else let (bs, s') := s'.ctlRead c n
          (s'.accessDone h a bs).switchOut h true
    | _, some ls => if tier then s else near s' ls
    | _, none =>
      if tier ≠ (touchesTier ps && decide (kind ≠ 2)) then s
      else
        match (if ryquelSplit ps then none else s'.farParts h (kind = 2) ps d) with
        | none => (if touchesTier ps then s'.hartAddrError h 0 0 else s').hartTrap h (accessCause kind) va
        | some q => s'.ownPly h (fun s => s.askPart h { a with store := decide (kind = 2), va := va, rest := q })

/-- HART_ACCESS_COMPLETE: what a switched-out hart waited for has come, and it is ready (08:R242). -/
def accessComplete (s : Pkg) (h : Nat) : Pkg :=
  let x := s.hart h
  if !x.on then s
  else
    match x.wait with
    | .access | .wfi | .suspend => s.setHart h { x with wait := .none }
    | .answered a bs code node =>
      if code ≠ 0 then s.hartFabFault h a code node
      else
        let got := a.have_ ++ bs
        if a.rest.isEmpty then s.accessDone h a got else (s.setHart h { x with wait := .none }).askPart h { a with have_ := got }
    | _ => s

end Sys2Proof
end

