-- ==== Sys2Proof/Machine/HartInt.lean ====
section
/-!
DEFINITION. The scalar integer part of a hart (08:R233): RV64IMC with the bit-manipulation, conditional, hint, cache-block and
privileged instructions of the profile. The spec names the extensions and takes their meanings from the RISC-V manuals
(PRESUMED, log entry 14).
-/

namespace Sys2Proof

open Sys2Proof.Rv

/-- Carry-less product of two `n`-bit values. -/
def clmul : Nat → Nat → Nat → Nat
  | 0, _, _ => 0
  | n + 1, a, b => clmul n a b ^^^ (if bit b n then a * 2 ^ n else 0)

/-- Leading zeros, trailing zeros and population of the low `n` bits. -/
def clzN : Nat → Nat → Nat
  | 0, _ => 0
  | n + 1, v => if bit v n then 0 else clzN n v + 1
def ctzN : Nat → Nat → Nat
  | 0, _ => 0
  | n + 1, v => if v % 2 = 1 then 0 else ctzN n (v / 2) + 1
def popN : Nat → Nat → Nat
  | 0, _ => 0
  | n + 1, v => v % 2 + popN n (v / 2)

/-- Rotate an `n`-bit value left. -/
def rolN (n v k : Nat) : Nat := (v * 2 ^ (k % n) + v / 2 ^ (n - k % n)) % 2 ^ n

/-- Register operations of OP: I, M, Zba, Zbb, Zbc, Zbs, Zicond. -/
def hAlu (f7 f3 : Nat) (a b : Word) : Option Word :=
  let sh := b.toNat % 64
  let one : Word := BitVec.ofNat 64 (2 ^ sh)
  match f7, f3 with
  | 0x10, 2 => some (b + a <<< 1)
  | 0x10, 4 => some (b + a <<< 2)
  | 0x10, 6 => some (b + a <<< 3)
  | 0x20, 7 => some (a &&& ~~~b)
  | 0x20, 6 => some (a ||| ~~~b)
  | 0x20, 4 => some (~~~(a ^^^ b))
  | 0x05, 4 => some (if a.toInt < b.toInt then a else b)
  | 0x05, 5 => some (if a.toNat < b.toNat then a else b)
  | 0x05, 6 => some (if a.toInt < b.toInt then b else a)
  | 0x05, 7 => some (if a.toNat < b.toNat then b else a)
  | 0x30, 1 => some (BitVec.ofNat 64 (rolN 64 a.toNat sh))
  | 0x30, 5 => some (BitVec.ofNat 64 (rolN 64 a.toNat (64 - sh)))
  | 0x05, 1 => some (BitVec.ofNat 64 (clmul 64 a.toNat b.toNat))
  | 0x05, 2 => some (BitVec.ofNat 64 (clmul 64 a.toNat b.toNat / 2 ^ 63))
  | 0x05, 3 => some (BitVec.ofNat 64 (clmul 64 a.toNat b.toNat / 2 ^ 64))
  | 0x24, 1 => some (a &&& ~~~one)
  | 0x24, 5 => some (BitVec.ofNat 64 (b2n (bit a.toNat sh)))
  | 0x34, 1 => some (a ^^^ one)
  | 0x14, 1 => some (a ||| one)
  | 0x07, 5 => some (if b = 0 then 0 else a)
  | 0x07, 7 => some (if b = 0 then a else 0)
  | _, _ => alu64 f7 f3 a b

/-- Register operations of OP-32. -/
def hAlu32 (f7 f3 r2 : Nat) (a b : Word) : Option Word :=
  let x : Word := BitVec.ofNat 64 (a.toNat % 2 ^ 32)
  let k := b.toNat % 32
  match f7, f3 with
  | 0x04, 0 => some (b + x)
  | 0x10, 2 => some (b + x <<< 1)
  | 0x10, 4 => some (b + x <<< 2)
  | 0x10, 6 => some (b + x <<< 3)
  | 0x30, 1 => some (sext 32 (rolN 32 x.toNat k))
  | 0x30, 5 => some (sext 32 (rolN 32 x.toNat (32 - k)))
  | 0x04, 4 => if r2 = 0 then some (BitVec.ofNat 64 (a.toNat % 2 ^ 16)) else none
  | _, _ => alu32 f7 f3 a b

/-- Bytes that are nonzero become all ones: ORC.B. -/
def orcB (v : Nat) : Nat := leNat ((natLe 8 v).map (fun b => if b = 0 then 0 else 0xFF))

/-- Register-immediate operations, 64 bits. -/
def hImm (w : Nat) (a : Word) : Option Word :=
  let sh := bits w 25 20
  let one : Word := BitVec.ofNat 64 (2 ^ sh)
  let v := a.toNat
  match f3 w, bits w 31 26 with
  | 1, 0x12 => some (a &&& ~~~one)
  | 1, 0x1A => some (a ^^^ one)
  | 1, 0x0A => some (a ||| one)
  | 1, 0x18 =>
    match sh with
    | 0 => some (BitVec.ofNat 64 (clzN 64 v))
    | 1 => some (BitVec.ofNat 64 (ctzN 64 v))
    | 2 => some (BitVec.ofNat 64 (popN 64 v))
    | 4 => some (sext 8 v)
    | 5 => some (sext 16 v)
    | _ => none
  | 5, 0x12 => some (BitVec.ofNat 64 (b2n (bit v sh)))
  | 5, 0x18 => some (BitVec.ofNat 64 (rolN 64 v (64 - sh)))
  | 5, 0x0A => if sh = 7 then some (BitVec.ofNat 64 (orcB v)) else none
  | 5, 0x1A => if sh = 0x38 then some (BitVec.ofNat 64 (leNat (natLe 8 v).reverse)) else none
  | _, _ => aluImm64 w a

/-- Register-immediate operations, 32 bits. -/
def hImm32 (w : Nat) (a : Word) : Option Word :=
  let v := a.toNat % 2 ^ 32
  let sh := bits w 25 20
  match f3 w, bits w 31 26 with
  | 1, 0x02 => some (BitVec.ofNat 64 (v * 2 ^ sh))
  | 1, 0x18 =>
    match sh with
    | 0 => some (BitVec.ofNat 64 (clzN 32 v))
    | 1 => some (BitVec.ofNat 64 (ctzN 32 v))
    | 2 => some (BitVec.ofNat 64 (popN 32 v))
    | _ => none
  | 5, 0x18 => if sh < 32 then some (sext 32 (rolN 32 v (32 - sh))) else none
  | _, _ => aluImm32 w a

/-- sstatus as read: UXL is 2, SD says whether a state is Dirty. -/
def HCsr.status (c : HCsr) : Nat :=
  let k := c.sstatus &&& 0xDE762
  k + 2 * 2 ^ 32 + (if c.fs = 3 || c.vs = 3 then 2 ^ 63 else 0)

/-- Read a machine-mode CSR (08:R231, R233). The identification registers are those that SBI returns (17:R531). -/
def Pkg.csrReadM (s : Pkg) (h n : Nat) : Option Nat :=
  let c := (s.hart h).a.csr
  let byte (i : Nat) : Nat := Tab.get 0 c.pmp (16 + i)
  if 0x3B0 ≤ n && n ≤ 0x3BF then some (Tab.get 0 c.pmp (n - 0x3B0))
  else if (0xB03 ≤ n && n ≤ 0xB1F) || (0x323 ≤ n && n ≤ 0x33F) then some 0
  else match n with
    | 0xF11 => some 0
    | 0xF12 => some 0x64
    | 0xF13 => some 1
    | 0xF14 => some h
    | 0xF15 => some 0
    | 0x300 => some (c.status + c.mstatus + 2 * 2 ^ 34)
    | 0x301 => some (2 * 2 ^ 62 + 0x34112F)
    | 0x302 => some c.medeleg
    | 0x303 => some c.mideleg
    | 0x304 => some (c.sie + c.mie)
    | 0x305 => some c.mtvec
    | 0x306 => some c.mcounteren
    | 0x30A => some c.menvcfg
    | 0x320 => some 0
    | 0x340 => some c.mscratch
    | 0x341 => some (c.mepc - c.mepc % 2)
    | 0x342 => some c.mcause
    | 0x343 => some c.mtval
    | 0x344 => some (s.hartSip h &&& 0x222)
    | 0x3A0 => some (leNat ((List.range 8).map (fun i => BitVec.ofNat 8 (byte i))))
    | 0x3A2 => some (leNat ((List.range 8).map (fun i => BitVec.ofNat 8 (byte (8 + i)))))
    | 0xB00 => some (s.hartCycle h)
    | 0xB02 => some c.instret
    | _ => none

/-- Read a CSR in the hart's mode; none is illegal (08:R233, R235). -/
def Pkg.csrRead (s : Pkg) (h n : Nat) : Option Nat :=
  let a := (s.hart h).a
  let c := a.csr
  let counter (i v : Nat) : Option Nat :=
    if a.priv = 3 || (bit c.mcounteren i && (a.priv = 1 || bit c.scounteren i)) then some v else none
  let fp (v : Nat) : Option Nat := if c.fs = 0 then none else some v
  let vec (v : Nat) : Option Nat := if c.vs = 0 then none else some v
  let sup (v : Nat) : Option Nat := if 1 ≤ a.priv then some v else none
  if 0xC03 ≤ n && n ≤ 0xC1F then counter (n - 0xC00) 0
  else match n with
    | 0x001 => fp (c.fcsr % 32)
    | 0x002 => fp (bits c.fcsr 7 5)
    | 0x003 => fp (c.fcsr % 256)
    | 0x008 => vec c.vstart
    | 0x009 => vec (c.vcsr % 2)
    | 0x00A => vec (bits c.vcsr 2 1)
    | 0x00F => vec (c.vcsr % 8)
    | 0xC20 => vec c.vl
    | 0xC21 => vec c.vtype
    | 0xC22 => vec 512
    | 0xC00 => counter 0 (s.hartCycle h)
    | 0xC01 => counter 1 (s.nominal h)
    | 0xC02 => counter 2 c.instret
    | 0x100 => sup c.status
    | 0x104 => sup c.sie
    | 0x105 => sup c.stvec
    | 0x106 => sup c.scounteren
    | 0x10A => sup c.senvcfg
    | 0x140 => sup c.sscratch
    | 0x141 => sup (c.sepc - c.sepc % 2)
    | 0x142 => sup c.scause
    | 0x143 => sup c.stval
    | 0x144 => sup (s.hartSip h &&& 0x222)
    | 0x14D => if a.priv = 1 && !(bit c.menvcfg 63 && bit c.mcounteren 1) then none else sup c.stimecmp
    | 0x180 => if a.priv = 1 && bit c.mstatus 20 then none else sup c.satp
    | _ => if a.priv = 3 then s.csrReadM h n else none

/-- Write PMP configuration bytes from entry k on; a locked entry stands. -/
def HCsr.setPmpCfg (c : HCsr) (k v : Nat) : HCsr :=
  { c with pmp := (List.range 8).foldl (fun t i =>
      let b := bits v (8 * i + 7) (8 * i) &&& 0x9F
      let old := Tab.get 0 c.pmp (16 + k + i)
      if bit old 7 || (bit b 1 && !(bit b 0)) then t else Tab.set 0 t (16 + k + i) b) c.pmp }

/-- Write PMP address i; one whose entry is locked, or below a locked top-of-range entry, stands. -/
def HCsr.setPmpAddr (c : HCsr) (i v : Nat) : HCsr :=
  let cfg (k : Nat) : Nat := Tab.get 0 c.pmp (16 + k)
  if bit (cfg i) 7 || (bit (cfg (i + 1)) 7 && decide (bits (cfg (i + 1)) 4 3 = 1)) then c else { c with pmp := Tab.set 0 c.pmp i (v % 2 ^ 54) }

/-- Write a machine-mode CSR. A written minstret is not counted up by the instruction that wrote it. -/
def HCsr.csrWriteM (c : HCsr) (n v : Nat) : HCsr :=
  if 0x3B0 ≤ n && n ≤ 0x3BF then c.setPmpAddr (n - 0x3B0) v
  else match n with
    | 0x300 => { c with sstatus := v &&& 0xC6722, mstatus := (if bits v 12 11 = 2 then putBits (v &&& 0x720088) 12 11 (bits c.mstatus 12 11) else v &&& 0x721888) }
    | 0x302 => { c with medeleg := v &&& 0xB3FF }
    | 0x303 => { c with mideleg := v &&& 0x222 }
    | 0x304 => { c with sie := v &&& 0x222, mie := v &&& 0x888 }
    | 0x305 => { c with mtvec := v &&& (2 ^ 64 - 3) }
    | 0x306 => { c with mcounteren := v % 2 ^ 32 }
    | 0x30A => { c with menvcfg := v &&& 0xC0000000000000F1 }
    | 0x340 => { c with mscratch := v }
    | 0x341 => { c with mepc := v - v % 2 }
    | 0x342 => { c with mcause := v }
    | 0x343 => { c with mtval := v }
    | 0x344 =>
      let sip := putBits (putBits c.sip 1 1 (v / 2)) 9 9 (v / 512)
      { c with sip := if bit c.menvcfg 63 then sip else putBits sip 5 5 (v / 32) }
    | 0x3A0 => c.setPmpCfg 0 v
    | 0x3A2 => c.setPmpCfg 8 v
    | 0xB02 => { c with instret := (v + (2 ^ 64 - 1)) % 2 ^ 64 }
    | _ => c

/-- Write a CSR that can be read. -/
def HArch.csrWrite (a : HArch) (n v : Nat) : HArch :=
  let c := a.csr
  let set (c : HCsr) : HArch := { a with csr := c }
  let fpSet (x : Nat) : HArch := set { c with fcsr := x, sstatus := putBits c.sstatus 14 13 3 }
  let vecSet (c : HCsr) : HArch := set { c with sstatus := putBits c.sstatus 10 9 3 }
  match n with
  | 0x001 => fpSet (putBits (c.fcsr % 256) 4 0 v)
  | 0x002 => fpSet (putBits (c.fcsr % 256) 7 5 v)
  | 0x003 => fpSet (v % 256)
  | 0x008 => vecSet { c with vstart := v % 4096 }
  | 0x009 => vecSet { c with vcsr := putBits c.vcsr 0 0 v }
  | 0x00A => vecSet { c with vcsr := putBits c.vcsr 2 1 v }
  | 0x00F => vecSet { c with vcsr := v % 8 }
  | 0x100 => set { c with sstatus := v &&& 0xC6722 }
  | 0x104 => set { c with sie := v &&& 0x222 }
  | 0x105 => set { c with stvec := v &&& (2 ^ 64 - 3) }
  | 0x106 => set { c with scounteren := v % 2 ^ 32 }
  | 0x10A => set { c with senvcfg := (v &&& 0xF1) + (if bits v 33 32 = 1 then 0 else bits v 33 32) * 2 ^ 32 }
  | 0x140 => set { c with sscratch := v }
  | 0x141 => set { c with sepc := v - v % 2 }
  | 0x142 => set { c with scause := v }
  | 0x143 => set { c with stval := v }
  | 0x144 => set { c with sip := putBits c.sip 1 1 (v / 2) }
  | 0x14D => set { c with stimecmp := v }
  | 0x180 => if v / 2 ^ 60 = 0 || v / 2 ^ 60 = 8 || v / 2 ^ 60 = 9 then set { c with satp := v } else a
  | _ => if n / 256 % 4 = 3 then set (c.csrWriteM n v) else a

/-- A load of `n` bytes. -/
def Pkg.hLoad (s : Pkg) (h len : Nat) (va : Word) (n : Nat) (dst : HDst) (tier : Bool) : Pkg :=
  s.access h 1 va.toNat n [] tier { dst := dst, len := len } fun s ls =>
    let long := s.isLong h ls
    let (bs, s) := s.loadLocal h ls (s.hart h).ntl
    (s.retireWith h len (fun a => a.deliver dst bs)).switchOut h long

/-- A store of bytes. -/
def Pkg.hStore (s : Pkg) (h len : Nat) (va : Word) (d : List Byte) : Pkg :=
  s.access h 2 va.toNat d.length d false { len := len } fun s ls => s.storeLocal h ls d (fun s => (s.hretire h len).switchOut h (s.isLong h ls))

/-- Branches and jumps retire with a new pc. -/
def Pkg.hJump (s : Pkg) (h rd len : Nat) (target : Word) : Pkg :=
  let pc := (s.hart h).a.pc
  s.retireWith h 0 (fun a => { a.setX rd (pc + BitVec.ofNat 64 len) with pc := target })

/-- A CSR instruction (Zicsr). -/
def Pkg.hCsr (s : Pkg) (h w len : Nat) : Pkg :=
  let a := (s.hart h).a
  let n := bits w 31 20
  match s.csrRead h n with
  | none => s.hartIllegal h w
  | some old =>
    if csrWrites w && n / 1024 = 3 then s.hartIllegal h w
    else
      let new := csrNew w (BitVec.ofNat 64 old) (csrSrc w (a.xr (rs1 w)))
      let put (a : HArch) : HArch :=
        if !(csrWrites w) then a
        else if n = 0xB00 then { a with csr := { a.csr with cycOff := (a.csr.cycOff + new.toNat + (2 ^ 64 - old)) % 2 ^ 64 } }
        else a.csrWrite n new.toNat
      s.retireWith h len (fun a => (put a).setX (rd w) (BitVec.ofNat 64 old))

/-- Cache-block operations: zero writes 64 zero bytes; inval, clean and flush have nothing to write back and evict the line at its
home slice (08:R250, R251), and beyond the die store they find nothing cached (log entry 83). U mode needs senvcfg. -/
def Pkg.hCbo (s : Pkg) (h w len : Nat) : Pkg :=
  let a := (s.hart h).a
  let va := a.maskPtr (a.xr (rs1 w)).toNat
  let line := va - va % 64
  let on (e : Nat) : Bool := match bits w 31 20 with
    | 0 => bits e 5 4 ≠ 0
    | 4 => bit e 7
    | _ => bit e 6
  let ok := decide (a.priv = 3) || (on a.csr.menvcfg && (decide (a.priv = 1) || on a.csr.senvcfg))
  if rd w ≠ 0 || !ok then s.hartIllegal h w
  else match bits w 31 20 with
    | 4 => s.hStore h len (BitVec.ofNat 64 line) (List.replicate 64 0)
    | 0 | 1 | 2 =>
      match s.resolve h 3 [(line, 64)] with
      | (.fault c v, s) => s.hartTrap h c v
      | (.parts ps, s) =>
        if touchesTier ps && !(ps.all (fun p => match p.1 with
          | .tier t => s.tierOk h t p.2
          | _ => true)) then (s.hartAddrError h 0 0).hartTrap h 7 line
        else
          let lines := ((localParts ps).getD []).flatMap (fun p => linesOf p.1 p.2)
          (lines.foldl (fun s l => if bits w 31 20 = 1 || (Tab.find s.scache l).isNone then s else s.dropLine l) s).hretire h len
    | _ => s.hartIllegal h w

/-- A prefetch fills as a load does, without a fault and without switching (08:R251). -/
def Pkg.hPrefetch (s : Pkg) (h len : Nat) (va : Word) : Pkg :=
  let (r, s') := s.resolve h 1 [(va.toNat, 1)]
  match r with
  | .parts [(.mem a, _)] => (s'.loadBytes h a 1 (s.hart h).ntl).2.hretire h len
  | _ => s.hretire h len

/-- SRET. -/
def HArch.sret (a : HArch) : HArch :=
  let c := a.csr
  let st := c.sstatus
  { a with priv := b2n (bit st 8), pc := BitVec.ofNat 64 c.sepc
           csr := { c with sstatus := putBits (putBits (putBits st 1 1 (b2n (bit st 5))) 5 5 1) 8 8 0, mstatus := putBits c.mstatus 17 17 0 } }

/-- MRET. -/
def HArch.mret (a : HArch) : HArch :=
  let c := a.csr
  let st := c.mstatus
  let st' := putBits (putBits (putBits st 3 3 (b2n (bit st 7))) 7 7 1) 12 11 0
  { a with priv := bits st 12 11, pc := BitVec.ofNat 64 c.mepc
           csr := { c with mstatus := if bits st 12 11 = 3 then st' else putBits st' 17 17 0 } }

/-- SYSTEM with funct3 0. `w` is not an SBI call. -/
def Pkg.hSystem (s : Pkg) (h w len : Nat) : Pkg :=
  let a := (s.hart h).a
  let allowed (trap : Nat) (f : Pkg) : Pkg := if a.priv = 3 || (a.priv = 1 && !(bit a.csr.mstatus trap)) then f else s.hartIllegal h w
  let sup (f : Pkg) : Pkg := allowed 20 f
  if w = 0x00000073 then s.hartTrap h (8 + a.priv) 0
  else if w = 0x00100073 then s.hartTrap h 3 a.pc.toNat
  else if w = 0x10200073 then allowed 22 (s.retireWith h 0 HArch.sret)
  else if w = 0x30200073 then (if a.priv = 3 then s.retireWith h 0 HArch.mret else s.hartIllegal h w)
  else if w = 0x10500073 || w = 0x00D00073 || w = 0x01D00073 then
    let s := s.hretire h len
    s.setHart h { s.hart h with wait := .wfi }
  else if rd w = 0 && f7 w = 0x09 then sup ((s.hretire h len).hmark h)
  else if rd w = 0 && f7 w = 0x0B then sup (s.hretire h len)
  else if w = 0x18000073 || w = 0x18100073 then (if 1 ≤ a.priv then s.hretire h len else s.hartIllegal h w)
  else s.hartIllegal h w

/-- The may-be-operations of Zimop write 0. -/
def isMop (w : Nat) : Bool :=
  decide (f3 w = 4) && bit w 31 && decide (bits w 29 28 = 0) && (bit w 25 || decide (bits w 25 22 = 7))

/-- The hints NTL.PALL and NTL.ALL (08:R251). -/
def isHint (w : Nat) : Bool :=
  opc w = 0x33 && rd w = 0 && f7 w = 0 && f3 w = 0 && rs1 w = 0 && (rs2 w = 3 || rs2 w = 5)

/-- An integer instruction of a hart; none where the encoding belongs to another part. -/
def Pkg.hInt (s : Pkg) (h w len : Nat) (tier : Bool) : Option Pkg :=
  let a := (s.hart h).a
  let x := a.xr (rs1 w)
  let y := a.xr (rs2 w)
  let alu (v : Option Word) : Option Pkg := some (match v with
    | some v => s.retireWith h len (fun a => a.setX (rd w) v)
    | none => s.hartIllegal h w)
  let pcv := a.pc
  match opc w with
  | 0x37 => alu (some (immU w))
  | 0x17 => alu (some (pcv + immU w))
  | 0x6F => some (s.hJump h (rd w) len (pcv + immJ w))
  | 0x67 => some (if f3 w = 0 then s.hJump h (rd w) len ((x + immI w) &&& ~~~1) else s.hartIllegal h w)
  | 0x63 => some (match branchTaken (f3 w) x y with
      | some t => if t then s.retireWith h 0 (fun a => { a with pc := pcv + immB w }) else s.hretire h len
      | none => s.hartIllegal h w)
  | 0x03 => some (if f3 w = 7 then s.hartIllegal h w else s.hLoad h len (x + immI w) (accSize (f3 w)) (.x (rd w) (decide (f3 w < 4))) tier)
  | 0x23 => some (if 4 ≤ f3 w then s.hartIllegal h w else s.hStore h len (x + immS w) (natLe (accSize (f3 w)) y.toNat))
  | 0x13 =>
    if f3 w = 6 && rd w = 0 && (rs2 w = 0 || rs2 w = 1 || rs2 w = 3) then some (s.hPrefetch h len (x + immI w - BitVec.ofNat 64 (rs2 w)))
    else alu (hImm w x)
  | 0x33 =>
    (alu (hAlu (f7 w) (f3 w) x y)).map (fun s => if isHint w then s.setHart h { s.hart h with ntl := true } else s)
  | 0x1B => alu (hImm32 w x)
  | 0x3B => alu (hAlu32 (f7 w) (f3 w) (rs2 w) x y)
  | 0x0F =>
    match f3 w with
    | 0 => some (if bit w 24 then (s.hretire h len).hmark h else s.hretire h len)
    | 1 => some (s.hretire h len)
    | 2 => some (s.hCbo h w len)
    | _ => some (s.hartIllegal h w)
  | 0x73 =>
    match f3 w with
    | 0 => some (s.hSystem h w len)
    | 4 => some (if isMop w then s.retireWith h len (fun a => a.setX (rd w) 0) else s.hartIllegal h w)
    | _ => some (s.hCsr h w len)
  | _ => none

end Sys2Proof
end

