-- ==== Sys2Proof/Machine/HartFp.lean ====
section
/-!
DEFINITION. Floating point of the harts: RISC-V F, D, Zfh, Zfa, Zfbfmin, with all five rounding modes, the five fflags, full
subnormals and the canonical NaN (08:R237). Results are exact values rounded once.
-/

namespace Sys2Proof

open Sys2Proof.Rv

/-- fflags bits: NX 1, UF 2, OF 4, DZ 8, NV 16. -/
def fNX : Nat := 1
def fUF : Nat := 2
def fOF : Nat := 4
def fDZ : Nat := 8
def fNV : Nat := 16

/-- A flag where a condition holds. -/
def flagIf (b : Bool) (f : Nat) : Nat := if b then f else 0

/-- Round a finite magnitude, `st` where something lies below it, into a format; underflow is judged after rounding. -/
def rvFin (c : Nat) (rm : Rm) (neg : Bool) (m : Nat) (e : Int) (st : Bool) : Nat × Nat :=
  if m = 0 && !st then (packSign c neg 0, 0)
  else
    let m := 4 * m + b2n st
    let e := e - 2
    let g := roundGrid rm neg m e false (gridOf c m e)
    let u := roundGrid rm neg m e false (e + (Nat.log2 m : Int) - fmtMant c)
    let (mm, me) := match decodeFmt c (fmtMaxRaw c) with
      | .fin _ mm me => (mm, me)
      | _ => (0, 0)
    if magLt mm me g.t g.q then
      let toMax := match rm with
        | .rtz => true
        | .rdn => !neg
        | .rup => neg
        | _ => false
      (packSign c neg (if toMax then fmtMaxRaw c else (2 ^ fmtExp c - 1) <<< fmtMant c), fOF + fNX)
    else
      let tiny := magLt u.t u.q 1 (1 - (fmtBias c : Int))
      (packSign c neg (packMag c g.t g.q), flagIf g.inexact fNX ||| flagIf (g.inexact && tiny) fUF)

/-- Round any value into a format; a signalling NaN is invalid. -/
def rvPut (c : Nat) (rm : Rm) (v : FVal) : Nat × Nat :=
  match v with
  | .fin n m e => rvFin c rm n m e false
  | .inf n => (packSign c n ((2 ^ fmtExp c - 1) <<< fmtMant c), 0)
  | .nan sig => (fmtNan c, flagIf sig fNV)

/-- An exact zero sum is −0 when rounding down, unless both terms are +0. -/
def rvAddV (rm : Rm) (a b : FVal) : FVal × Bool :=
  match groupSum [a, b] with
  | (.fin n 0 e, i) => (.fin (if a.isZero && b.isZero && a.sign = b.sign then n else match rm with
      | .rdn => true
      | _ => false) 0 e, i)
  | r => r

def rvAdd (c : Nat) (rm : Rm) (a b : FVal) : Nat × Nat :=
  let (v, i) := rvAddV rm a b
  let (r, f) := rvPut c rm v
  (r, f ||| flagIf i fNV)
def rvMul (c : Nat) (rm : Rm) (a b : FVal) : Nat × Nat :=
  let (v, i) := fmulX a b
  let (r, f) := rvPut c rm v
  (r, f ||| flagIf i fNV)

/-- a × b + k, rounded once; ∞ × 0 is invalid even with a NaN addend. -/
def rvFma (c : Nat) (rm : Rm) (a b k : FVal) : Nat × Nat :=
  let (p, i) := fmulX a b
  if i then (fmtNan c, fNV)
  else
    let (r, f) := rvAdd c rm p k
    (r, f ||| flagIf (a.isSig || b.isSig || k.isSig) fNV)

def rvDiv (c : Nat) (rm : Rm) (a b : FVal) : Nat × Nat :=
  let sg := a.sign != b.sign
  if a.isNan || b.isNan then (fmtNan c, flagIf (a.isSig || b.isSig) fNV)
  else match a, b with
    | .inf _, .inf _ => (fmtNan c, fNV)
    | .inf _, _ => rvPut c rm (.inf sg)
    | _, .inf _ => rvPut c rm (.fin sg 0 0)
    | .fin _ m e, .fin _ n k =>
      if n = 0 then if m = 0 then (fmtNan c, fNV) else ((rvPut c rm (.inf sg)).1, fDZ)
      else if m = 0 then rvPut c rm (.fin sg 0 0)
      else let (q, x, st) := divMag m e n k
        rvFin c rm sg q x st
    | _, _ => (fmtNan c, 0)

def rvSqrt (c : Nat) (rm : Rm) (a : FVal) : Nat × Nat :=
  match a with
  | .nan s => (fmtNan c, flagIf s fNV)
  | .inf n => if n then (fmtNan c, fNV) else rvPut c rm a
  | .fin n m e =>
    if m = 0 then rvPut c rm a
    else if n then (fmtNan c, fNV)
    else let (r, x, st) := sqrtMag m e
      rvFin c rm false r x st

/-- minimumNumber and maximumNumber: a NaN gives way to a number. -/
def rvMinMax (c : Nat) (isMax : Bool) (x y : Nat) : Nat × Nat :=
  let a := decodeFmt c x
  let b := decodeFmt c y
  let nv := flagIf (a.isSig || b.isSig) fNV
  if a.isNan && b.isNan then (fmtNan c, nv)
  else if a.isNan then (y, nv)
  else if b.isNan then (x, nv)
  else if fLess a b != isMax then (x, nv) else (y, nv)

/-- minimum and maximum of Zfa: a NaN wins. -/
def rvMinMaxM (c : Nat) (isMax : Bool) (x y : Nat) : Nat × Nat :=
  let a := decodeFmt c x
  let b := decodeFmt c y
  if a.isNan || b.isNan then (fmtNan c, flagIf (a.isSig || b.isSig) fNV) else rvMinMax c isMax x y

/-- Values equal, and less; zeros of either sign are equal. -/
def fEq (a b : FVal) : Bool := !a.isNan && !b.isNan && ((a.isZero && b.isZero) || (!(fLess a b) && !(fLess b a)))
def fLt (a b : FVal) : Bool := !a.isNan && !b.isNan && !(a.isZero && b.isZero) && fLess a b

/-- Comparisons: 0 le, 1 lt, 2 eq; `quiet` ones are invalid for a signalling NaN only. -/
def rvCmp (op : Nat) (quiet : Bool) (a b : FVal) : Nat × Nat :=
  let nan := a.isNan || b.isNan
  let nv := flagIf (if quiet then a.isSig || b.isSig else nan) fNV
  (b2n (match op with
    | 0 => fLt a b || fEq a b
    | 1 => fLt a b
    | _ => fEq a b), nv)

/-- Sign injection: 0 copy, 1 negate, 2 exclusive or. -/
def rvSgn (c op x y : Nat) : Nat :=
  let w := fmtWidth c
  let sx := bit x (w - 1)
  let sy := bit y (w - 1)
  let sg := match op with
    | 0 => sy
    | 1 => !sy
    | _ => sx != sy
  x % 2 ^ (w - 1) + (if sg then 2 ^ (w - 1) else 0)

/-- Class of a value: one of ten bits. -/
def rvClass (c x : Nat) : Nat :=
  match decodeFmt c x with
  | .nan s => if s then 256 else 512
  | .inf n => if n then 1 else 128
  | .fin n m e =>
    if m = 0 then (if n then 8 else 16)
    else if magLt m e 1 (1 - (fmtBias c : Int)) then (if n then 4 else 32)
    else if n then 2 else 64

/-- A finite value as an integer under a mode, and whether it was inexact. -/
def rvRound (rm : Rm) (neg : Bool) (m : Nat) (e : Int) : Int × Bool :=
  let g := roundGrid rm neg m e false 0
  let t := if 0 ≤ g.q then g.t * 2 ^ g.q.toNat else g.t
  (if neg then -(t : Int) else t, g.inexact)

/-- Convert to an integer of `w` bits. -/
def rvToInt (w : Nat) (signed : Bool) (rm : Rm) (v : FVal) : Nat × Nat :=
  let lo : Int := if signed then -(2 ^ (w - 1) : Nat) else 0
  let hi : Int := (if signed then (2 ^ (w - 1) : Nat) else (2 ^ w : Nat)) - 1
  match v with
  | .nan _ => (ofSigned w hi, fNV)
  | .inf n => (ofSigned w (if n then lo else hi), fNV)
  | .fin n m e =>
    let (i, x) := rvRound rm n m e
    if i < lo then (ofSigned w lo, fNV) else if hi < i then (ofSigned w hi, fNV) else (ofSigned w i, flagIf x fNX)

/-- Convert from an integer. -/
def rvOfInt (c : Nat) (rm : Rm) (i : Int) : Nat × Nat := rvFin c rm (decide (i < 0)) i.natAbs 0 false

/-- Round to an integral value; `nx` raises inexact. -/
def rvIntegral (c : Nat) (rm : Rm) (nx : Bool) (x : Nat) : Nat × Nat :=
  match decodeFmt c x with
  | .nan s => (fmtNan c, flagIf s fNV)
  | .inf _ => (x, 0)
  | .fin n m e =>
    if m = 0 || 0 ≤ e then (x, 0)
    else
      let (i, ix) := rvRound rm n m e
      ((rvFin c .rne n i.natAbs 0 false).1, flagIf (nx && ix) fNX)

/-- The low 32 bits of a double truncated: FCVTMOD.W.D. -/
def rvMod (v : FVal) : Nat × Nat :=
  match v with
  | .fin n m e =>
    let (i, x) := rvRound .rtz n m e
    (ofSigned 32 i, if i < -(2 ^ 31 : Nat) || (2 ^ 31 : Nat) ≤ i then fNV else flagIf x fNX)
  | _ => (0, fNV)

/-- The constants of FLI: sign-free significand and exponent of entries 2 to 29. -/
def fliTable : List (Nat × Int) :=
  [(1, -16), (1, -15), (1, -8), (1, -7), (1, -4), (1, -3), (1, -2), (5, -4), (3, -3), (7, -4), (1, -1), (5, -3), (3, -2), (7, -3)
  , (1, 0), (5, -2), (3, -1), (7, -2), (1, 1), (5, -1), (3, 0), (1, 2), (1, 3), (1, 4), (1, 7), (1, 8), (1, 15), (1, 16)]
def rvFli (c i : Nat) : Nat :=
  match i with
  | 0 => (rvFin c .rne true 1 0 false).1
  | 1 => 2 ^ fmtMant c
  | 30 => (2 ^ fmtExp c - 1) <<< fmtMant c
  | 31 => fmtNan c
  | _ => let k := fliTable.getD (i - 2) (0, 0)
    (rvFin c .rne false k.1 k.2 false).1

/-- Rounding mode of a 3-bit code. -/
def rmOf : Nat → Option Rm
  | 0 => some .rne
  | 1 => some .rtz
  | 2 => some .rdn
  | 3 => some .rup
  | 4 => some .rmm
  | _ => none

/-- The mode an instruction rounds with: its field, or frm. -/
def HArch.rm (a : HArch) (w : Nat) : Option Rm := rmOf (if f3 w = 7 then bits a.csr.fcsr 7 5 else f3 w)

/-- Format of the fmt field. -/
def fmtField : Nat → Option Nat
  | 0 => some fpFP32
  | 1 => some fpFP64
  | 2 => some fpFP16
  | _ => none

/-- An f register as a code of a format: a value that is not NaN-boxed is the canonical NaN. -/
def HArch.fcode (a : HArch) (c i : Nat) : Nat :=
  let v := a.fr i
  let w := fmtWidth c
  if w = 64 || v / 2 ^ w = 2 ^ (64 - w) - 1 then v % 2 ^ w else fmtNan c
def HArch.fval (a : HArch) (c i : Nat) : FVal := decodeFmt c (a.fcode c i)

/-- NaN-boxing. -/
def boxF (c v : Nat) : Nat := v + (2 ^ 64 - 2 ^ fmtWidth c)

/-- Computational instructions of OP-FP: the new registers; none where the encoding is illegal. -/
def hFpOp (a : HArch) (w : Nat) : Option HArch :=
  match fmtField (bits w 26 25) with
  | none => none
  | some c =>
    let x := a.fcode c (rs1 w)
    let y := a.fcode c (rs2 w)
    let vx := decodeFmt c x
    let vy := decodeFmt c y
    let toF (k : Nat) (r : Nat × Nat) : Option HArch := some ((a.setF (rd w) (boxF k r.1)).fflag r.2)
    let toX (v : Word) (fl : Nat) : Option HArch := some ((a.setX (rd w) v).fflag fl)
    let rounded (f : Rm → Option HArch) : Option HArch := (a.rm w).bind f
    match bits w 31 27 with
    | 0x00 => rounded (fun r => toF c (rvAdd c r vx vy))
    | 0x01 => rounded (fun r => toF c (rvAdd c r vx vy.neg))
    | 0x02 => rounded (fun r => toF c (rvMul c r vx vy))
    | 0x03 => rounded (fun r => toF c (rvDiv c r vx vy))
    | 0x0B => if rs2 w = 0 then rounded (fun r => toF c (rvSqrt c r vx)) else none
    | 0x04 => if f3 w < 3 then toF c (rvSgn c (f3 w) x y, 0) else none
    | 0x05 =>
      match f3 w with
      | 0 => toF c (rvMinMax c false x y)
      | 1 => toF c (rvMinMax c true x y)
      | 2 => toF c (rvMinMaxM c false x y)
      | 3 => toF c (rvMinMaxM c true x y)
      | _ => none
    | 0x08 =>
      let src (k : Nat) : Option HArch := if k = c then none else rounded (fun r => toF c (rvPut c r (a.fval k (rs1 w))))
      match rs2 w with
      | 0 => src fpFP32
      | 1 => src fpFP64
      | 2 => src fpFP16
      | 4 => rounded (fun r => toF c (rvIntegral c r false x))
      | 5 => rounded (fun r => toF c (rvIntegral c r true x))
      | 6 => if c = fpFP32 then src fpBF16 else none
      | 8 => if c = fpFP16 then rounded (fun r => toF fpBF16 (rvPut fpBF16 r (a.fval fpFP32 (rs1 w)))) else none
      | _ => none
    | 0x14 =>
      match f3 w with
      | 0 => let r := rvCmp 0 false vx vy
        toX (BitVec.ofNat 64 r.1) r.2
      | 1 => let r := rvCmp 1 false vx vy
        toX (BitVec.ofNat 64 r.1) r.2
      | 2 => let r := rvCmp 2 true vx vy
        toX (BitVec.ofNat 64 r.1) r.2
      | 4 => let r := rvCmp 0 true vx vy
        toX (BitVec.ofNat 64 r.1) r.2
      | 5 => let r := rvCmp 1 true vx vy
        toX (BitVec.ofNat 64 r.1) r.2
      | _ => none
    | 0x18 =>
      match rs2 w with
      | 0 => rounded (fun r => let v := rvToInt 32 true r vx
          toX (sext 32 v.1) v.2)
      | 1 => rounded (fun r => let v := rvToInt 32 false r vx
          toX (sext 32 v.1) v.2)
      | 2 => rounded (fun r => let v := rvToInt 64 true r vx
          toX (BitVec.ofNat 64 v.1) v.2)
      | 3 => rounded (fun r => let v := rvToInt 64 false r vx
          toX (BitVec.ofNat 64 v.1) v.2)
      | 8 => if c = fpFP64 && f3 w = 1 then let v := rvMod vx
          toX (sext 32 v.1) v.2 else none
      | _ => none
    | 0x1A =>
      let i := a.xr (rs1 w)
      match rs2 w with
      | 0 => rounded (fun r => toF c (rvOfInt c r (toSigned 32 i.toNat)))
      | 1 => rounded (fun r => toF c (rvOfInt c r (i.toNat % 2 ^ 32 : Nat)))
      | 2 => rounded (fun r => toF c (rvOfInt c r i.toInt))
      | 3 => rounded (fun r => toF c (rvOfInt c r i.toNat))
      | _ => none
    | 0x1C =>
      if rs2 w ≠ 0 then none
      else match f3 w with
        | 0 => toX (sext (fmtWidth c) (a.fr (rs1 w))) 0
        | 1 => toX (BitVec.ofNat 64 (rvClass c x)) 0
        | _ => none
    | 0x1E =>
      if f3 w ≠ 0 then none
      else match rs2 w with
        | 0 => toF c ((a.xr (rs1 w)).toNat % 2 ^ fmtWidth c, 0)
        | 1 => toF c (rvFli c (rs1 w), 0)
        | _ => none
    | _ => none

/-- Fused multiply-add instructions. -/
def hFma (a : HArch) (w : Nat) : Option HArch :=
  match fmtField (bits w 26 25), a.rm w with
  | some c, some r =>
    let x := a.fval c (rs1 w)
    let y := a.fval c (rs2 w)
    let z := a.fval c (bits w 31 27)
    let v := match opc w with
      | 0x43 => rvFma c r x y z
      | 0x47 => rvFma c r x y z.neg
      | 0x4B => rvFma c r x.neg y z
      | _ => rvFma c r x.neg y z.neg
    some ((a.setF (rd w) (boxF c v.1)).fflag v.2)
  | _, _ => none

/-- A floating-point instruction of a hart; none where the encoding belongs to another part. -/
def Pkg.hFp (s : Pkg) (h w len : Nat) (tier : Bool) : Option Pkg :=
  let a := (s.hart h).a
  let x := a.xr (rs1 w)
  let on (f : Pkg) : Option Pkg := some (if a.csr.fs = 0 then s.hartIllegal h w else f)
  let reg (r : Option HArch) : Option Pkg := on (match r with
    | some b => s.retireWith h len (fun _ => b)
    | none => s.hartIllegal h w)
  let size := 2 ^ f3 w
  match opc w with
  | 0x07 => if f3 w = 1 || f3 w = 2 || f3 w = 3 then on (s.hLoad h len (x + immI w) size (.f (rd w)) tier) else none
  | 0x27 => if f3 w = 1 || f3 w = 2 || f3 w = 3 then on (s.hStore h len (x + immS w) (natLe size (a.fr (rs2 w)))) else none
  | 0x43 | 0x47 | 0x4B | 0x4F => reg (hFma a w)
  | 0x53 => reg (hFpOp a w)
  | _ => none

end Sys2Proof
end

