-- ==== Sys2Proof/Machine/HartVec.lean ====
section
/-!
DEFINITION. The vector unit of a hart (08:R236, R237): RISC-V V with Zvbb, Zvbc, Zvfh, Zvfbfmin and Zvfbfwma at VLEN = 4,096 and
ELEN = 64. Elements past vl and inactive ones keep their values (DESIGN CHOICE 29).
-/

namespace Sys2Proof

open Sys2Proof.Rv

/-- Selected width of an element in bits, and LMUL in eighths. -/
def HCsr.sew (c : HCsr) : Nat := 8 * 2 ^ bits c.vtype 5 3
def HCsr.lmul8 (c : HCsr) : Nat := match bits c.vtype 2 0 with
  | 0 => 8 | 1 => 16 | 2 => 32 | 3 => 64 | 5 => 1 | 6 => 2 | 7 => 4 | _ => 0
def HCsr.vill (c : HCsr) : Bool := bit c.vtype 63

/-- Most elements of a vtype; 0 where it is not legal. -/
def vlmaxOf (vtype : Nat) : Nat :=
  let c : HCsr := { vtype := vtype }
  if vtype / 256 ≠ 0 || 3 < bits vtype 5 3 || c.lmul8 = 0 || 8 * c.lmul8 < c.sew then 0 else 512 * c.lmul8 / c.sew

/-- Element i of width n (in bits) of the group at register r. -/
def HArch.ve (a : HArch) (n r i : Nat) : Nat := a.v.rd (512 * r + i * (n / 8)) (n / 8)
def HArch.vmask (a : HArch) (r i : Nat) : Bool := bit (a.v.read (512 * r + i / 8)).toNat (i % 8)

/-- An instruction is unmasked, or the element's mask bit is set. -/
def HArch.vact (a : HArch) (w i : Nat) : Bool := bit w 25 || a.vmask 0 i

/-- The elements the instruction works on. -/
def HArch.velems (a : HArch) (w : Nat) : List Nat := ((List.range a.csr.vl).drop a.csr.vstart).filter (a.vact w)

/-- A register group of `e` eighths is aligned and within the file. -/
def grpOk (r e : Nat) : Bool := decide (e ≤ 64) && decide (0 < e) && (decide (e ≤ 8) || decide (r % (e / 8) = 0)) && decide (r + ceilDiv e 8 ≤ 32)

/-- A destination group (register, eighths, element width) may overlap a source group. -/
def ovlOk (d s : Nat × Nat × Nat) : Bool :=
  let dn := ceilDiv d.2.1 8
  let sn := ceilDiv s.2.1 8
  !(overlap d.1 dn s.1 sn) || decide (d.2.2 = s.2.2) || (if d.2.2 < s.2.2 then decide (d.1 = s.1) else decide (8 ≤ s.2.1) && decide (s.1 + sn = d.1 + dn))

/-- What a vector instruction changes: bytes of the registers by offset, size and value; fflags; saturation. -/
structure VRes where
  ws : List (Nat × Nat × Nat) := []
  fl : Nat := 0
  sat : Bool := false
deriving DecidableEq, Repr, Inhabited

/-- Apply it; vstart returns to 0. -/
def HArch.vdone (a : HArch) (r : VRes) : HArch :=
  let a := { a with v := r.ws.foldl (fun (m : Mem) (w : Nat × Nat × Nat) => m.wr w.1 w.2.1 w.2.2) a.v }.fflag r.fl
  { a with csr := { a.csr with vstart := 0, vcsr := if r.sat then a.csr.vcsr ||| 1 else a.csr.vcsr, sstatus := putBits a.csr.sstatus 10 9 3 } }

/-- Elements of width n of the group at vd, each computed; a value with its flags and saturation. -/
def vmap (is : List Nat) (vd n : Nat) (f : Nat → Nat × Nat × Bool) : VRes :=
  is.foldl (fun r i => let (v, fl, sat) := f i
    { ws := r.ws ++ [(512 * vd + i * (n / 8), n / 8, v % 2 ^ n)], fl := r.fl ||| fl, sat := r.sat || sat }) {}

/-- Mask register vd with the bits of some elements replaced. -/
def HArch.vmaskSet (a : HArch) (is : List Nat) (vd : Nat) (f : Nat → Bool × Nat) : VRes :=
  let old := a.v.rd (512 * vd) 512
  let r := is.foldl (fun (m : Nat × Nat) i => let (b, fl) := f i
    (putBits m.1 i i (b2n b), m.2 ||| fl)) (old, 0)
  { ws := [(512 * vd, 512, r.1)], fl := r.2 }

/-- vsetvli, vsetivli, vsetvl. -/
def hVset (a : HArch) (w : Nat) : Option HArch :=
  let vtype := if !(bit w 31) then bits w 30 20 else if bit w 30 then bits w 29 20 else (a.xr (rs2 w)).toNat
  if bit w 31 && !(bit w 30) && bits w 30 25 ≠ 0 then none
  else
    let vm := vlmaxOf vtype
    let imm := bit w 31 && bit w 30
    let avl := if imm then rs1 w else if rs1 w ≠ 0 then (a.xr (rs1 w)).toNat else if rd w ≠ 0 then 2 ^ 64 else a.csr.vl
    let bad := vm = 0 || (!imm && rs1 w = 0 && rd w = 0 && (vlmaxOf a.csr.vtype ≠ vm))
    let vl := if bad then 0 else min avl vm
    let c := { a.csr with vtype := if bad then 2 ^ 63 else vtype, vl := vl, vstart := 0, sstatus := putBits a.csr.sstatus 10 9 3 }
    some ({ a with csr := c }.setX (rd w) (BitVec.ofNat 64 vl))

/-- Rounding increment of vxrm for dropping d low bits of v. -/
def vround (mode v d : Nat) : Nat :=
  if d = 0 then 0
  else match mode with
    | 0 => b2n (bit v (d - 1))
    | 1 => b2n (bit v (d - 1) && (decide (v % 2 ^ (d - 1) ≠ 0) || bit v d))
    | 2 => 0
    | _ => b2n (!(bit v d) && decide (v % 2 ^ d ≠ 0))

/-- Shift right by d with rounding; the value is taken with `k` bits of two's complement. -/
def vsrr (mode k : Nat) (v : Int) (d : Nat) : Int := v / (2 ^ d : Nat) + vround mode (ofSigned k v) d

/-- Saturate. -/
def vclipS (n : Nat) (v : Int) : Nat × Nat × Bool :=
  let hi : Int := (2 ^ (n - 1) : Nat) - 1
  if hi < v then (ofSigned n hi, 0, true) else if v < -hi - 1 then (ofSigned n (-hi - 1), 0, true) else (ofSigned n v, 0, false)
def vclipU (n : Nat) (v : Int) : Nat × Nat × Bool :=
  if v < 0 then (0, 0, true) else if (2 ^ n : Nat) ≤ v then (2 ^ n - 1, 0, true) else (v.toNat, 0, false)

/-- Bits of an n-bit value in reverse. -/
def brevN : Nat → Nat → Nat
  | 0, _ => 0
  | n + 1, v => v % 2 * 2 ^ n + brevN n (v / 2)

/-- OPI element operations of one width; x from vs2, y the other operand. -/
def vI (mode f6 n x y : Nat) : Option (Nat × Nat × Bool) :=
  let sx := toSigned n x
  let sy := toSigned n y
  let sh := y % n
  let nat (v : Nat) : Option (Nat × Nat × Bool) := some (v % 2 ^ n, 0, false)
  let int (v : Int) : Option (Nat × Nat × Bool) := some (ofSigned n v, 0, false)
  match f6 with
  | 0x00 => nat (x + y)
  | 0x01 => nat (x &&& (2 ^ n - 1 - y % 2 ^ n))
  | 0x02 => int (sx - sy)
  | 0x03 => int (sy - sx)
  | 0x04 => nat (min x y)
  | 0x05 => int (min sx sy)
  | 0x06 => nat (max x y)
  | 0x07 => int (max sx sy)
  | 0x09 => nat (x &&& y)
  | 0x0A => nat (x ||| y)
  | 0x0B => nat (x ^^^ y)
  | 0x14 => nat (rolN n x (n - sh))
  | 0x15 => nat (rolN n x sh)
  | 0x20 => some (vclipU n (x + y : Nat))
  | 0x21 => some (vclipS n (sx + sy))
  | 0x22 => some (vclipU n ((x : Int) - y))
  | 0x23 => some (vclipS n (sx - sy))
  | 0x25 => nat (x * 2 ^ sh)
  | 0x27 => some (vclipS n (vsrr mode (2 * n) (sx * sy) (n - 1)))
  | 0x28 => nat (x / 2 ^ sh)
  | 0x29 => int (sx / (2 ^ sh : Nat))
  | 0x2A => int (vsrr mode (n + 1) x sh)
  | 0x2B => int (vsrr mode n sx sh)
  | _ => none

/-- OPI narrowing operations: x of 2n bits. -/
def vNar (mode f6 n x y : Nat) : Option (Nat × Nat × Bool) :=
  let sh := y % (2 * n)
  let sx := toSigned (2 * n) x
  match f6 with
  | 0x2C => some (x / 2 ^ sh % 2 ^ n, 0, false)
  | 0x2D => some (ofSigned n (sx / (2 ^ sh : Nat)), 0, false)
  | 0x2E => some (vclipU n (vsrr mode (2 * n + 1) x sh))
  | 0x2F => some (vclipS n (vsrr mode (2 * n) sx sh))
  | _ => none

/-- Integer comparisons to masks. -/
def vCmp (f6 n x y : Nat) : Option Bool :=
  let sx := toSigned n x
  let sy := toSigned n y
  match f6 with
  | 0x18 => some (decide (x = y))
  | 0x19 => some (decide (x ≠ y))
  | 0x1A => some (decide (x < y))
  | 0x1B => some (decide (sx < sy))
  | 0x1C => some (decide (x ≤ y))
  | 0x1D => some (decide (sx ≤ sy))
  | 0x1E => some (decide (y < x))
  | 0x1F => some (decide (sy < sx))
  | _ => none

/-- OPM element operations of one width; z is the destination's old element. -/
def vM (mode f6 n x y z : Nat) : Option (Nat × Nat × Bool) :=
  let sx := toSigned n x
  let sy := toSigned n y
  let sz := toSigned n z
  let int (v : Int) : Option (Nat × Nat × Bool) := some (ofSigned n v, 0, false)
  match f6 with
  | 0x08 => int (vsrr mode (n + 1) ((x + y : Nat) : Int) 1)
  | 0x09 => int (vsrr mode (n + 1) (sx + sy) 1)
  | 0x0A => int (vsrr mode (n + 1) ((x : Int) - y) 1)
  | 0x0B => int (vsrr mode (n + 1) (sx - sy) 1)
  | 0x0C => int (clmul n x y % 2 ^ n : Nat)
  | 0x0D => int (clmul n x y / 2 ^ n : Nat)
  | 0x20 => int (divU n x y)
  | 0x21 => int (divS n sx sy)
  | 0x22 => int (remU x y)
  | 0x23 => int (remS n sx sy)
  | 0x24 => int (x * y / 2 ^ n : Nat)
  | 0x25 => int (sx * sy)
  | 0x26 => int (sx * y / (2 ^ n : Nat))
  | 0x27 => int (sx * sy / (2 ^ n : Nat))
  | 0x29 => int (sy * sz + sx)
  | 0x2B => int (-(sy * sz) + sx)
  | 0x2D => int (sy * sx + sz)
  | 0x2F => int (-(sy * sx) + sz)
  | _ => none

/-- OPM widening operations: results of 2n bits; x is of 2n bits for the .w forms. -/
def vWid (f6 n x y z : Nat) : Option Nat :=
  let sx := toSigned n x
  let sy := toSigned n y
  let lx := toSigned (2 * n) x
  let int (v : Int) : Option Nat := some (ofSigned (2 * n) v)
  match f6 with
  | 0x30 => int (x + y : Nat)
  | 0x31 => int (sx + sy)
  | 0x32 => int ((x : Int) - y)
  | 0x33 => int (sx - sy)
  | 0x34 => int (lx + y)
  | 0x35 => int (lx + sy)
  | 0x36 => int (lx - y)
  | 0x37 => int (lx - sy)
  | 0x38 => int (x * y : Nat)
  | 0x3A => int (sx * y)
  | 0x3B => int (sx * sy)
  | 0x3C => int (x * y + z : Nat)
  | 0x3D => int (sx * sy + z)
  | 0x3E => int (sx * y + z)
  | 0x3F => int (x * sy + z)
  | _ => none

/-- Integer reductions. -/
def vRed (f6 n acc x : Nat) : Option Nat :=
  match f6 with
  | 0 => some ((acc + x) % 2 ^ n)
  | 1 => some (acc &&& x)
  | 2 => some (acc ||| x)
  | 3 => some (acc ^^^ x)
  | 4 => some (min acc x)
  | 5 => some (if toSigned n acc < toSigned n x then acc else x)
  | 6 => some (max acc x)
  | 7 => some (if toSigned n acc < toSigned n x then x else acc)
  | _ => none

/-- Mask-register logic. -/
def vLogic (f6 : Nat) (x y : Bool) : Option Bool :=
  match f6 with
  | 0x18 => some (x && !y)
  | 0x19 => some (x && y)
  | 0x1A => some (x || y)
  | 0x1B => some (x != y)
  | 0x1C => some (x || !y)
  | 0x1D => some (!(x && y))
  | 0x1E => some (!(x || y))
  | 0x1F => some (x == y)
  | _ => none

/-- Fold of an optional operation over a list. -/
def foldOpt {β : Type} (f : β → Nat → Option β) : Option β → List Nat → Option β
  | acc, [] => acc
  | none, _ => none
  | some b, i :: t => foldOpt f (f b i) t

/-- Element results that may not exist for the encoding. -/
def vmapOpt (is : List Nat) (vd n : Nat) (f : Nat → Option (Nat × Nat × Bool)) : Option VRes :=
  foldOpt (fun (r : VRes) i => (f i).map (fun v =>
    { ws := r.ws ++ [(512 * vd + i * (n / 8), n / 8, v.1 % 2 ^ n)], fl := r.fl ||| v.2.1, sat := r.sat || v.2.2 })) (some {}) is

/-- The encoding exists for some operands. -/
def known {α : Type} (o : Option α) : Bool := o.isSome

/-- OPIVV, OPIVX, OPIVI. -/
def hOpi (a : HArch) (w : Nat) : Option HArch :=
  let c := a.csr
  let n := c.sew
  let e := c.lmul8
  let f6 := bits w 31 26
  let vd := rd w
  let v2 := rs2 w
  let kind := f3 w
  let vv := kind = 0
  let vi := kind = 3
  let masked := !(bit w 25)
  let simm := ofSigned 64 (toSigned 5 (rs1 w))
  let mode := bits c.vcsr 2 1
  let y (m i : Nat) : Nat := if vv then a.ve m (rs1 w) i else if vi then simm % 2 ^ m else (a.xr (rs1 w)).toNat % 2 ^ m
  let u (i : Nat) : Nat := if vi then rs1 w else y 64 i
  let x (i : Nat) : Nat := a.ve n v2 i
  let is := a.velems w
  let all := (List.range c.vl).drop c.vstart
  let okG := grpOk vd e && grpOk v2 e && (!vv || grpOk (rs1 w) e) && !(masked && vd = 0)
  let okM := grpOk v2 e && (!vv || grpOk (rs1 w) e) && ovlOk (vd, 8, 1) (v2, e, n) && (!vv || ovlOk (vd, 8, 1) (rs1 w, e, n))
  let okN := grpOk vd e && grpOk v2 (2 * e) && (!vv || grpOk (rs1 w) e) && n < 64 && !(masked && vd = 0) && ovlOk (vd, e, n) (v2, 2 * e, 2 * n)
  let vlmax := vlmaxOf c.vtype
  let done (ok : Bool) (r : Option VRes) : Option HArch := if ok then r.map a.vdone else none
  let shiftOp := f6 = 0x25 || f6 = 0x28 || f6 = 0x29 || f6 = 0x2A || f6 = 0x2B
  match f6 with
  | 0x0C =>
    done (okG && vd ≠ v2 && !(vv && vd = rs1 w) && !(overlap vd (ceilDiv e 8) v2 (ceilDiv e 8)))
      (some (vmap is vd n (fun i => let k := if vv then a.ve n (rs1 w) i else if vi then rs1 w else (a.xr (rs1 w)).toNat
        ((if k < vlmax then x k else 0), 0, false))))
  | 0x0E =>
    if vv then
      let ei := 16 * e / n
      done (grpOk vd e && grpOk v2 e && grpOk (rs1 w) ei && !(masked && vd = 0) && !(overlap vd (ceilDiv e 8) v2 (ceilDiv e 8)) && !(overlap vd (ceilDiv e 8) (rs1 w) (ceilDiv ei 8)))
        (some (vmap is vd n (fun i => let k := a.ve 16 (rs1 w) i
          ((if k < vlmax then x k else 0), 0, false))))
    else
      let off := u 0
      done (okG && !(overlap vd (ceilDiv e 8) v2 (ceilDiv e 8))) (some (vmap (is.filter (fun i => decide (off ≤ i))) vd n (fun i => (x (i - off), 0, false))))
  | 0x0F =>
    if vv then none
    else
      let off := u 0
      done okG (some (vmap is vd n (fun i => ((if i + off < vlmax then x (i + off) else 0), 0, false))))
  | 0x10 =>
    done (okG && masked) (some (vmap all vd n (fun i => (x i + y n i + b2n (a.vmask 0 i), 0, false))))
  | 0x12 =>
    if vi then none
    else done (okG && masked) (some (vmap all vd n (fun i => (ofSigned n ((x i : Int) - y n i - b2n (a.vmask 0 i)), 0, false))))
  | 0x11 =>
    done okM (some (a.vmaskSet all vd (fun i => (decide (2 ^ n ≤ x i + y n i + (if masked then b2n (a.vmask 0 i) else 0)), 0))))
  | 0x13 =>
    if vi then none
    else done okM (some (a.vmaskSet all vd (fun i => (decide (x i < y n i + (if masked then b2n (a.vmask 0 i) else 0)), 0))))
  | 0x17 =>
    if masked then done (okG) (some (vmap all vd n (fun i => (if a.vmask 0 i then y n i else x i, 0, false))))
    else done (grpOk vd e && (!vv || grpOk (rs1 w) e) && v2 = 0) (some (vmap all vd n (fun i => (y n i, 0, false))))
  | 0x14 => if vi then done okG (some (vmap is vd n (fun i => (rolN n (x i) (n - rs1 w % n), 0, false)))) else done okG (vmapOpt is vd n (fun i => vI mode f6 n (x i) (y n i)))
  | 0x15 => if vi then done okG (some (vmap is vd n (fun i => (rolN n (x i) (n - (rs1 w + 32) % n), 0, false)))) else done okG (vmapOpt is vd n (fun i => vI mode f6 n (x i) (y n i)))
  | 0x27 =>
    if vi then
      let nr := rs1 w + 1
      done ((nr = 1 || nr = 2 || nr = 4 || nr = 8) && !masked && vd % nr = 0 && v2 % nr = 0)
        (some { ws := ((List.range (512 * nr)).drop (c.vstart * n / 8)).map (fun i => (512 * vd + i, 1, (a.v.read (512 * v2 + i)).toNat)) })
    else done okG (vmapOpt is vd n (fun i => vI mode f6 n (x i) (y n i)))
  | 0x30 | 0x31 =>
    if !vv || c.vstart ≠ 0 || 64 ≤ n || !(grpOk v2 e) then none
    else if c.vl = 0 then done true (some {})
    else
      let ext (v : Nat) : Nat := if f6 = 0x31 then ofSigned (2 * n) (toSigned n v) else v
      let r := is.foldl (fun s i => (s + ext (x i)) % 2 ^ (2 * n)) (a.ve (2 * n) (rs1 w) 0)
      done true (some { ws := [(512 * vd, 2 * n / 8, r)] })
  | 0x35 =>
    done (grpOk vd (2 * e) && grpOk v2 e && (!vv || grpOk (rs1 w) e) && n < 64 && !(masked && vd = 0) && ovlOk (vd, 2 * e, 2 * n) (v2, e, n) && (!vv || ovlOk (vd, 2 * e, 2 * n) (rs1 w, e, n)))
      (some (vmap is vd (2 * n) (fun i => (x i * 2 ^ ((if vi then rs1 w else y n i) % (2 * n)), 0, false))))
  | 0x2C | 0x2D | 0x2E | 0x2F => done okN (vmapOpt is vd n (fun i => vNar mode f6 n (a.ve (2 * n) v2 i) (if vi then rs1 w else y n i)))
  | _ =>
    if 0x18 ≤ f6 && f6 ≤ 0x1F then
      let no := (vv && 0x1E ≤ f6) || (vi && (f6 = 0x1A || f6 = 0x1B))
      done (okM && !no) (some (a.vmaskSet is vd (fun i => ((vCmp f6 n (x i) (y n i)).getD false, 0))))
    else
      let no := (vv && f6 = 3) || (vi && (f6 = 1 || f6 = 2 || (4 ≤ f6 && f6 ≤ 7) || f6 = 0x22 || f6 = 0x23)) || !(known (vI mode f6 n 0 0))
      done (okG && !no) (vmapOpt is vd n (fun i => vI mode f6 n (x i) (if shiftOp && vi then rs1 w else y n i)))

/-- Unary operations of VXUNARY0 on one element. -/
def vUnary (op n x : Nat) : Option Nat :=
  match op with
  | 8 => some (leNat ((natLe (n / 8) x).map (fun b => BitVec.ofNat 8 (brevN 8 b.toNat))))
  | 9 => some (leNat (natLe (n / 8) x).reverse)
  | 10 => some (brevN n x)
  | 12 => some (clzN n x)
  | 13 => some (ctzN n x)
  | 14 => some (popN n x)
  | _ => none

/-- OPMVV, OPMVX. -/
def hOpm (a : HArch) (w : Nat) : Option HArch :=
  let c := a.csr
  let n := c.sew
  let e := c.lmul8
  let f6 := bits w 31 26
  let vd := rd w
  let v2 := rs2 w
  let v1 := rs1 w
  let vv := f3 w = 2
  let masked := !(bit w 25)
  let mode := bits c.vcsr 2 1
  let y (m i : Nat) : Nat := if vv then a.ve m v1 i else (a.xr v1).toNat % 2 ^ m
  let x (i : Nat) : Nat := a.ve n v2 i
  let is := a.velems w
  let all := (List.range c.vl).drop c.vstart
  let okG := grpOk vd e && grpOk v2 e && (!vv || grpOk v1 e) && !(masked && vd = 0)
  let wd (e2 n2 : Nat) : Bool :=
    grpOk vd (2 * e) && grpOk v2 e2 && (!vv || grpOk v1 e) && n < 64 && !(masked && vd = 0) && ovlOk (vd, 2 * e, 2 * n) (v2, e2, n2) && (!vv || ovlOk (vd, 2 * e, 2 * n) (v1, e, n))
  let done (ok : Bool) (r : Option VRes) : Option HArch := if ok then r.map a.vdone else none
  let scalar (v : Nat) : Option HArch := some ((a.vdone {}).setX vd (BitVec.ofNat 64 v))
  if vv && f6 < 8 then
    if c.vstart ≠ 0 || !(grpOk v2 e) then none
    else if c.vl = 0 then done true (some {})
    else done true ((foldOpt (fun acc i => vRed f6 n acc (x i)) (some (a.ve n v1 0)) is).map (fun v => { ws := [(512 * vd, n / 8, v)] }))
  else match f6 with
  | 0x0C | 0x0D => if n ≠ 64 then none else done okG (vmapOpt is vd n (fun i => vM mode f6 n (x i) (y n i) 0))
  | 0x0E =>
    if vv then none
    else done (okG && !(overlap vd (ceilDiv e 8) v2 (ceilDiv e 8))) (some (vmap is vd n (fun i => (if i = 0 then y n 0 else x (i - 1), 0, false))))
  | 0x0F =>
    if vv then none else done okG (some (vmap is vd n (fun i => (if i + 1 = c.vl then y n 0 else x (i + 1), 0, false))))
  | 0x10 =>
    if vv then
      match v1 with
      | 0 => if masked then none else scalar (ofSigned 64 (toSigned n (a.ve n v2 0)))
      | 16 => if c.vstart ≠ 0 then none else scalar (is.filter (a.vmask v2)).length
      | 17 => if c.vstart ≠ 0 then none else scalar (match is.find? (a.vmask v2) with
          | some i => i
          | none => 2 ^ 64 - 1)
      | _ => none
    else if v2 ≠ 0 || masked then none
    else done true (some { ws := if c.vstart < c.vl then [(512 * vd, n / 8, (a.xr v1).toNat % 2 ^ n)] else [] })
  | 0x12 =>
    if !vv then none
    else if 2 ≤ v1 && v1 ≤ 7 then
      let k := 2 ^ (4 - v1 / 2)
      let m := n / k
      done (8 ≤ m && 0 < e / k && grpOk vd e && grpOk v2 (e / k) && !(masked && vd = 0) && ovlOk (vd, e, n) (v2, e / k, m))
        (some (vmap is vd n (fun i => let b := a.ve m v2 i
          (if v1 % 2 = 1 then ofSigned n (toSigned m b) else b, 0, false))))
    else done (grpOk vd e && grpOk v2 e && !(masked && vd = 0) && known (vUnary v1 n 0)) (vmapOpt is vd n (fun i => (vUnary v1 n (x i)).map (fun v => (v, 0, false))))
  | 0x14 =>
    if !vv then none
    else match v1 with
    | 1 | 2 | 3 =>
      if c.vstart ≠ 0 || (masked && vd = 0) || vd = v2 then none
      else
        let first := is.find? (a.vmask v2)
        done true (some (a.vmaskSet is vd (fun i => match first with
          | none => (decide (v1 ≠ 2), 0)
          | some k => (match v1 with
            | 1 => decide (i < k)
            | 2 => decide (i = k)
            | _ => decide (i ≤ k), 0))))
    | 16 =>
      if c.vstart ≠ 0 || (masked && vd = 0) || !(grpOk vd e) || overlap vd (ceilDiv e 8) v2 1 then none
      else done true (some (vmap is vd n (fun i => (((is.filter (fun j => decide (j < i))).filter (a.vmask v2)).length, 0, false))))
    | 17 => if v2 ≠ 0 || (masked && vd = 0) || !(grpOk vd e) then none else done true (some (vmap is vd n (fun i => (i, 0, false))))
    | _ => none
  | 0x17 =>
    if !vv || masked || c.vstart ≠ 0 || !(grpOk vd e) || !(grpOk v2 e) || overlap vd (ceilDiv e 8) v2 (ceilDiv e 8) || overlap vd (ceilDiv e 8) v1 1 then none
    else
      let ks := (List.range c.vl).filter (a.vmask v1)
      done true (some (vmap (List.range ks.length) vd n (fun i => (x (ks.getD i 0), 0, false))))
  | 0x18 | 0x19 | 0x1A | 0x1B | 0x1C | 0x1D | 0x1E | 0x1F =>
    if !vv || masked then none
    else done true (some (a.vmaskSet all vd (fun i => ((vLogic f6 (a.vmask v2 i) (a.vmask v1 i)).getD false, 0))))
  | _ =>
    if f6 < 0x30 then done (okG && known (vM mode f6 n 0 0 0)) (vmapOpt is vd n (fun i => vM mode f6 n (x i) (y n i) (a.ve n vd i)))
    else
      let wide := 0x34 ≤ f6 && f6 ≤ 0x37
      let e2 := if wide then 2 * e else e
      let n2 := if wide then 2 * n else n
      let no := vv && f6 = 0x3E
      done (wd e2 n2 && !no && known (vWid f6 n 0 0 0))
        (vmapOpt is vd (2 * n) (fun i => (vWid f6 n (a.ve n2 v2 i) (y n i) (a.ve (2 * n) vd i)).map (fun v => (v, 0, false))))

/-- Format of a vector floating-point element. -/
def vfmt : Nat → Option Nat
  | 16 => some fpFP16
  | 32 => some fpFP32
  | 64 => some fpFP64
  | _ => none

/-- The 7-bit estimates of 1/x and 1/√x: entry of the table. -/
def rec7 (i : Nat) : Nat := (131072 + (257 + 2 * i)) / (2 * (257 + 2 * i)) - 128
def rsq7 (odd : Bool) (i : Nat) : Nat := (isqrt (2 ^ 25 / ((129 + 2 * i) * (if odd then 1 else 2))) + 1) / 2 - 128

/-- Normalised exponent and significand (without its leading one) of a nonzero finite code. -/
def normOf (c m : Nat) (e : Int) : Int × Nat :=
  let k := Nat.log2 m
  (e + k + fmtBias c, (m * 2 ^ fmtMant c / 2 ^ k) % 2 ^ fmtMant c)

/-- Reciprocal estimate. -/
def rvRec7 (c : Nat) (rm : Rm) (x : Nat) : Nat × Nat :=
  let B : Int := fmtBias c
  match decodeFmt c x with
  | .nan s => (fmtNan c, flagIf s fNV)
  | .inf n => (packSign c n 0, 0)
  | .fin n m e =>
    if m = 0 then (packSign c n ((2 ^ fmtExp c - 1) <<< fmtMant c), fDZ)
    else
      let (ex, sg) := normOf c m e
      if ex < -1 then
        let toMax := match rm with
          | .rtz => true
          | .rdn => !n
          | .rup => n
          | _ => false
        (packSign c n (if toMax then fmtMaxRaw c else (2 ^ fmtExp c - 1) <<< fmtMant c), fOF + fNX)
      else
        let o := 2 * B - 1 - ex
        let sig := rec7 (sg / 2 ^ (fmtMant c - 7)) * 2 ^ (fmtMant c - 7)
        let full := 2 ^ fmtMant c + sig
        let raw := if 1 ≤ o then o.toNat * 2 ^ fmtMant c + sig else full / 2 ^ (1 - o).toNat
        (packSign c n raw, 0)

/-- Reciprocal square-root estimate. -/
def rvRsq7 (c : Nat) (x : Nat) : Nat × Nat :=
  let B : Int := fmtBias c
  match decodeFmt c x with
  | .nan s => (fmtNan c, flagIf s fNV)
  | .inf n => if n then (fmtNan c, fNV) else (0, 0)
  | .fin n m e =>
    if m = 0 then (packSign c n ((2 ^ fmtExp c - 1) <<< fmtMant c), fDZ)
    else if n then (fmtNan c, fNV)
    else
      let (ex, sg) := normOf c m e
      let o := (3 * B - 1 - ex) / 2
      (o.toNat * 2 ^ fmtMant c + rsq7 (decide (ex % 2 ≠ 0)) (sg / 2 ^ (fmtMant c - 6)) * 2 ^ (fmtMant c - 7), 0)

/-- Round to odd: inexact results get an odd last bit. -/
def rvOdd (c : Nat) (v : FVal) : Nat × Nat :=
  let r := rvPut c .rtz v
  (if r.2 % 2 = 1 && r.1 % 2 = 0 then r.1 + 1 else r.1, r.2)

/-- OPF element operations of one width. -/
def vF (c : Nat) (rm : Rm) (f6 x y z : Nat) : Option (Nat × Nat) :=
  let a := decodeFmt c x
  let b := decodeFmt c y
  let d := decodeFmt c z
  match f6 with
  | 0x00 => some (rvAdd c rm a b)
  | 0x02 => some (rvAdd c rm a b.neg)
  | 0x04 => some (rvMinMax c false x y)
  | 0x06 => some (rvMinMax c true x y)
  | 0x08 => some (rvSgn c 0 x y, 0)
  | 0x09 => some (rvSgn c 1 x y, 0)
  | 0x0A => some (rvSgn c 2 x y, 0)
  | 0x20 => some (rvDiv c rm a b)
  | 0x21 => some (rvDiv c rm b a)
  | 0x24 => some (rvMul c rm a b)
  | 0x27 => some (rvAdd c rm b a.neg)
  | 0x28 => some (rvFma c rm b d a)
  | 0x29 => some (rvFma c rm b.neg d a.neg)
  | 0x2A => some (rvFma c rm b d a.neg)
  | 0x2B => some (rvFma c rm b.neg d a)
  | 0x2C => some (rvFma c rm b a d)
  | 0x2D => some (rvFma c rm b.neg a d.neg)
  | 0x2E => some (rvFma c rm b a d.neg)
  | 0x2F => some (rvFma c rm b.neg a d)
  | _ => none

/-- OPF widening operations: a and b exact, d of the wide format c. -/
def vFw (c : Nat) (rm : Rm) (f6 : Nat) (a b d : FVal) : Option (Nat × Nat) :=
  match f6 with
  | 0x30 | 0x34 => some (rvAdd c rm a b)
  | 0x32 | 0x36 => some (rvAdd c rm a b.neg)
  | 0x38 => some (rvMul c rm a b)
  | 0x3B | 0x3C => some (rvFma c rm b a d)
  | 0x3D => some (rvFma c rm b.neg a d.neg)
  | 0x3E => some (rvFma c rm b a d.neg)
  | 0x3F => some (rvFma c rm b.neg a d)
  | _ => none

/-- One round of the balanced tree: positions (2i, 2i + 1); a node with one absent child passes the other on (08:R237). -/
def treeRound (add : FVal × Nat → FVal × Nat → FVal × Nat) : List (Option (FVal × Nat)) → List (Option (FVal × Nat))
  | [] => []
  | [x] => [x]
  | x :: y :: t => (match x, y with
      | some a, some b => some (add a b)
      | some a, none => some a
      | none, b => b) :: treeRound add t
def treeSum (add : FVal × Nat → FVal × Nat → FVal × Nat) : Nat → List (Option (FVal × Nat)) → Option (FVal × Nat)
  | 0, l => l.headD none
  | k + 1, l => treeSum add k (treeRound add l)

/-- Sum of a reduction: the tree over positions with the scalar last, or in ascending order from the scalar (08:R237). The result is a
code of format c with its flags. -/
def fpReduce (c : Nat) (rm : Rm) (ordered : Bool) (scalar : Nat) (xs : List (Option FVal)) : Nat × Nat :=
  let add (a b : FVal × Nat) : FVal × Nat := let r := rvAdd c rm a.1 b.1
    (decodeFmt c r.1, a.2 ||| b.2 ||| r.2)
  let raw (v : FVal) : Nat := (rvPut c .rne v).1
  let sv := decodeFmt c scalar
  if ordered then
    let r := xs.foldl (fun (acc : Option (FVal × Nat)) x => match x with
      | some v => some (add (acc.getD (sv, 0)) (v, 0))
      | none => acc) none
    match r with
    | some v => (raw v.1, v.2)
    | none => (scalar, 0)
  else
    match treeSum add 13 (xs.map (fun x => x.map (fun v => (v, 0)))) with
    | some v => let r := add v (sv, 0)
      (raw r.1, r.2)
    | none => (scalar, 0)

/-- Conversions of VFUNARY0 in one width, widening and narrowing: format, mode and integer width as the code says. -/
def vCvt (op n : Nat) (rm : Rm) (x : Nat) : Option (Nat × Nat) :=
  let f (k : Nat) : Nat := (vfmt k).getD 0
  let fok (k : Nat) : Bool := (vfmt k).isSome
  let opt (b : Bool) (r : Nat × Nat) : Option (Nat × Nat) := if b then some r else none
  match op with
  | 0x00 => opt (fok n) (rvToInt n false rm (decodeFmt (f n) x))
  | 0x01 => opt (fok n) (rvToInt n true rm (decodeFmt (f n) x))
  | 0x02 => opt (fok n) (rvOfInt (f n) rm x)
  | 0x03 => opt (fok n) (rvOfInt (f n) rm (toSigned n x))
  | 0x06 => opt (fok n) (rvToInt n false .rtz (decodeFmt (f n) x))
  | 0x07 => opt (fok n) (rvToInt n true .rtz (decodeFmt (f n) x))
  | 0x08 => opt (fok n) (rvToInt (2 * n) false rm (decodeFmt (f n) x))
  | 0x09 => opt (fok n) (rvToInt (2 * n) true rm (decodeFmt (f n) x))
  | 0x0A => opt (fok (2 * n)) (rvOfInt (f (2 * n)) rm x)
  | 0x0B => opt (fok (2 * n)) (rvOfInt (f (2 * n)) rm (toSigned n x))
  | 0x0C => opt (fok n && fok (2 * n)) (rvPut (f (2 * n)) rm (decodeFmt (f n) x))
  | 0x0D => opt (decide (n = 16)) (rvPut fpFP32 rm (decodeFmt fpBF16 x))
  | 0x0E => opt (fok n) (rvToInt (2 * n) false .rtz (decodeFmt (f n) x))
  | 0x0F => opt (fok n) (rvToInt (2 * n) true .rtz (decodeFmt (f n) x))
  | 0x10 => opt (fok (2 * n)) (rvToInt n false rm (decodeFmt (f (2 * n)) x))
  | 0x11 => opt (fok (2 * n)) (rvToInt n true rm (decodeFmt (f (2 * n)) x))
  | 0x12 => opt (fok n) (rvOfInt (f n) rm x)
  | 0x13 => opt (fok n) (rvOfInt (f n) rm (toSigned (2 * n) x))
  | 0x14 => opt (fok n && fok (2 * n)) (rvPut (f n) rm (decodeFmt (f (2 * n)) x))
  | 0x15 => opt (fok n && fok (2 * n)) (rvOdd (f n) (decodeFmt (f (2 * n)) x))
  | 0x16 => opt (fok (2 * n)) (rvToInt n false .rtz (decodeFmt (f (2 * n)) x))
  | 0x17 => opt (fok (2 * n)) (rvToInt n true .rtz (decodeFmt (f (2 * n)) x))
  | 0x1D => opt (decide (n = 16)) (rvPut fpBF16 rm (decodeFmt fpFP32 x))
  | _ => none

/-- OPFVV, OPFVF. -/
def hOpf (a : HArch) (w : Nat) : Option HArch :=
  let cs := a.csr
  let n := cs.sew
  let e := cs.lmul8
  let f6 := bits w 31 26
  let vd := rd w
  let v2 := rs2 w
  let v1 := rs1 w
  let vv := f3 w = 1
  let masked := !(bit w 25)
  let is := a.velems w
  let all := (List.range cs.vl).drop cs.vstart
  let x (i : Nat) : Nat := a.ve n v2 i
  let okG := grpOk vd e && grpOk v2 e && (!vv || grpOk v1 e) && !(masked && vd = 0)
  let okU := grpOk vd e && grpOk v2 e && !(masked && vd = 0)
  let okM := grpOk v2 e && (!vv || grpOk v1 e) && ovlOk (vd, 8, 1) (v2, e, n) && (!vv || ovlOk (vd, 8, 1) (v1, e, n))
  let wd (e2 n2 : Nat) : Bool :=
    grpOk vd (2 * e) && grpOk v2 e2 && (!vv || grpOk v1 e) && n < 64 && !(masked && vd = 0) && ovlOk (vd, 2 * e, 2 * n) (v2, e2, n2) && (!vv || ovlOk (vd, 2 * e, 2 * n) (v1, e, n))
  let done (ok : Bool) (r : Option VRes) : Option HArch := if ok then r.map a.vdone else none
  let lift (r : Option (Nat × Nat)) : Option (Nat × Nat × Bool) := r.map (fun v => (v.1, v.2, false))
  match rmOf (bits cs.fcsr 7 5) with
  | none => none
  | some rm =>
    if f6 = 0x12 then
      if !vv then none
      else if !(known (vCvt v1 n rm 0)) then none
      else if v1 < 8 then done okU (vmapOpt is vd n (fun i => lift (vCvt v1 n rm (x i))))
      else if v1 < 16 then
        done (grpOk vd (2 * e) && grpOk v2 e && n < 64 && !(masked && vd = 0) && ovlOk (vd, 2 * e, 2 * n) (v2, e, n)) (vmapOpt is vd (2 * n) (fun i => lift (vCvt v1 n rm (x i))))
      else
        done (grpOk vd e && grpOk v2 (2 * e) && n < 64 && !(masked && vd = 0) && ovlOk (vd, e, n) (v2, 2 * e, 2 * n)) (vmapOpt is vd n (fun i => lift (vCvt v1 n rm (a.ve (2 * n) v2 i))))
    else
      match vfmt n with
      | none => none
      | some c =>
        let y (i : Nat) : Nat := if vv then a.ve n v1 i else a.fcode c v1
        let fpRed (wide ord : Bool) : Option HArch :=
          let cw := if wide then (vfmt (2 * n)).getD c else c
          let nw := if wide then 2 * n else n
          if !vv || cs.vstart ≠ 0 || !(grpOk v2 e) || (wide && n = 64) then none
          else if cs.vl = 0 then done true (some {})
          else
            let r := fpReduce cw rm ord (a.ve nw v1 0) ((List.range cs.vl).map (fun i => if a.vact w i then some (decodeFmt c (x i)) else none))
            done true (some { ws := [(512 * vd, nw / 8, r.1)], fl := r.2 })
        let cmp (f : FVal → FVal → Nat × Nat) : Option HArch := done okM (some (a.vmaskSet is vd (fun i => let r := f (decodeFmt c (x i)) (decodeFmt c (y i))
          (decide (r.1 = 1), r.2))))
        match f6 with
        | 0x01 => fpRed false false
        | 0x03 => fpRed false true
        | 0x31 => fpRed true false
        | 0x33 => fpRed true true
        | 0x05 | 0x07 =>
          if !vv || cs.vstart ≠ 0 || !(grpOk v2 e) then none
          else if cs.vl = 0 then done true (some {})
          else
            let r := is.foldl (fun (acc : Nat × Nat) i => let m := rvMinMax c (decide (f6 = 7)) acc.1 (x i)
              (m.1, acc.2 ||| m.2)) (a.ve n v1 0, 0)
            done true (some { ws := [(512 * vd, n / 8, r.1)], fl := r.2 })
        | 0x0E =>
          if vv then none
          else done (okG && !(overlap vd (ceilDiv e 8) v2 (ceilDiv e 8))) (some (vmap is vd n (fun i => (if i = 0 then y 0 else x (i - 1), 0, false))))
        | 0x0F => if vv then none else done okG (some (vmap is vd n (fun i => (if i + 1 = cs.vl then y 0 else x (i + 1), 0, false))))
        | 0x10 =>
          if vv then if v1 ≠ 0 || masked then none else some ((a.vdone {}).setF vd (boxF c (a.ve n v2 0)))
          else if v2 ≠ 0 || masked then none
          else done true (some { ws := if cs.vstart < cs.vl then [(512 * vd, n / 8, y 0)] else [] })
        | 0x13 =>
          if !vv then none
          else match v1 with
          | 0x00 => done okU (some (vmap is vd n (fun i => let r := rvSqrt c rm (decodeFmt c (x i))
              (r.1, r.2, false))))
          | 0x04 => done okU (some (vmap is vd n (fun i => let r := rvRsq7 c (x i)
              (r.1, r.2, false))))
          | 0x05 => done okU (some (vmap is vd n (fun i => let r := rvRec7 c rm (x i)
              (r.1, r.2, false))))
          | 0x10 => done okU (some (vmap is vd n (fun i => (rvClass c (x i), 0, false))))
          | _ => none
        | 0x17 =>
          if vv then none
          else if masked then done okG (some (vmap all vd n (fun i => (if a.vmask 0 i then y i else x i, 0, false))))
          else if v2 ≠ 0 then none
          else done (grpOk vd e) (some (vmap all vd n (fun i => (y i, 0, false))))
        | 0x18 => cmp (rvCmp 2 true)
        | 0x19 => cmp (rvCmp 0 false)
        | 0x1B => cmp (rvCmp 1 false)
        | 0x1C => cmp (fun p q => let r := rvCmp 2 true p q
            (1 - r.1, r.2))
        | 0x1D => if vv then none else cmp (fun p q => rvCmp 1 false q p)
        | 0x1F => if vv then none else cmp (fun p q => rvCmp 0 false q p)
        | _ =>
          if f6 < 0x30 then
            let no := vv && (f6 = 0x21 || f6 = 0x27)
            done (okG && !no && known (vF c rm f6 0 0 0)) (vmapOpt is vd n (fun i => lift (vF c rm f6 (x i) (y i) (a.ve n vd i))))
          else
            match vfmt (2 * n) with
            | none => none
            | some cw =>
              let wide := f6 = 0x34 || f6 = 0x36
              let bf := f6 = 0x3B
              let cx := if bf then fpBF16 else c
              let yv (i : Nat) : FVal := if vv then decodeFmt cx (a.ve n v1 i) else a.fval cx v1
              let xv (i : Nat) : FVal := if wide then decodeFmt cw (a.ve (2 * n) v2 i) else decodeFmt cx (x i)
              done (wd (if wide then 2 * e else e) (if wide then 2 * n else n) && !(bf && n ≠ 16) && known (vFw cw rm f6 (.inf false) (.inf false) (.inf false)))
                (vmapOpt is vd (2 * n) (fun i => lift (vFw cw rm f6 (xv i) (yv i) (decodeFmt cw (a.ve (2 * n) vd i)))))

/-- A vector memory instruction: elements to move, their width and fields, addresses, whether masked and fault-only-first. -/
structure VMem where
  store : Bool := false
  /-- bytes of an element of the data, fields, registers of a field's group -/
  eb : Nat := 1
  nf : Nat := 1
  regs : Nat := 1
  evl : Nat := 0
  masked : Bool := false
  first : Bool := false
  addr : List Nat := []
deriving DecidableEq, Repr, Inhabited

/-- Decode a vector load or store; none where it is illegal. -/
def vmemOf (a : HArch) (w : Nat) : Option VMem :=
  let c := a.csr
  let base := (a.xr (rs1 w)).toNat
  let store := opc w = 0x27
  let eb := match f3 w with
    | 0 => 1 | 5 => 2 | 6 => 4 | _ => 8
  let nf := bits w 31 29 + 1
  let masked := !(bit w 25)
  let unit (n : Nat) (size : Nat) : List Nat := (List.range n).map (fun i => (base + i * size) % 2 ^ 64)
  if bit w 28 then none
  else match bits w 27 26 with
  | 0 =>
    match rs2 w with
    | 0 | 0x10 =>
      let e := eb * 8 * c.lmul8 / c.sew
      if c.vill || (rs2 w = 0x10 && store) || !(grpOk (rd w) e) || eb * 8 * c.lmul8 < c.sew || 64 < nf * max e 8 || 32 < rd w + nf * ceilDiv e 8 || (masked && rd w = 0 && !store) then none
      else some { store := store, eb := eb, nf := nf, regs := ceilDiv e 8, evl := c.vl, masked := masked, first := decide (rs2 w = 0x10), addr := unit c.vl (nf * eb) }
    | 0x08 =>
      if masked || !(nf = 1 || nf = 2 || nf = 4 || nf = 8) || rd w % nf ≠ 0 || (store && eb ≠ 1) then none
      else some { store := store, eb := eb, evl := nf * 512 / eb, addr := unit (nf * 512 / eb) eb }
    | 0x0B =>
      if c.vill || masked || nf ≠ 1 || eb ≠ 1 then none
      else some { store := store, evl := ceilDiv c.vl 8, addr := unit (ceilDiv c.vl 8) 1 }
    | _ => none
  | 2 =>
    let e := eb * 8 * c.lmul8 / c.sew
    if c.vill || !(grpOk (rd w) e) || eb * 8 * c.lmul8 < c.sew || 64 < nf * max e 8 || 32 < rd w + nf * ceilDiv e 8 || (masked && rd w = 0 && !store) then none
    else some { store := store, eb := eb, nf := nf, regs := ceilDiv e 8, evl := c.vl, masked := masked
                addr := (List.range c.vl).map (fun i => (base + i * (a.xr (rs2 w)).toNat) % 2 ^ 64) }
  | _ =>
    let ei := eb * 8 * c.lmul8 / c.sew
    let db := c.sew / 8
    if c.vill || !(grpOk (rd w) c.lmul8) || !(grpOk (rs2 w) ei) || eb * 8 * c.lmul8 < c.sew || 64 < nf * max c.lmul8 8 || 32 < rd w + nf * ceilDiv c.lmul8 8
      || (masked && rd w = 0 && !store) || (!store && !(ovlOk (rd w, c.lmul8, c.sew) (rs2 w, ei, 8 * eb))) then none
    else some { store := store, eb := db, nf := nf, regs := ceilDiv c.lmul8 8, evl := c.vl, masked := masked
                addr := (List.range c.vl).map (fun i => (base + a.ve (8 * eb) (rs2 w) i) % 2 ^ 64) }

/-- Elements of a vector memory instruction in order, from vstart; each that completes moves vstart past it, and the first that
faults, waits or leaves the hart ends the step (08:R236: vector traps are precise). An element that is served here belongs to the ply
that a later one ends (08:R244). -/
def Pkg.vmemRun (s : Pkg) (h w len : Nat) (m : VMem) : List Nat → Pkg
  | [] => s.retireWith h len (fun a => { a with csr := { a.csr with vstart := 0, sstatus := if m.store then a.csr.sstatus else putBits a.csr.sstatus 10 9 3 } })
  | i :: t =>
    let a := (s.hart h).a
    let at_ (s : Pkg) (k : Nat) : Pkg := s.onArch h (fun a => { a with csr := { a.csr with vstart := k } })
    if m.masked && !(a.vmask 0 i) then Pkg.vmemRun (at_ s (i + 1)) h w len m t
    else
      let va := m.addr.getD i 0
      let n := m.nf * m.eb
      let off := 512 * rd w + i * m.eb
      let stop := m.first && decide (0 < i) && (match (s.resolve h 1 (pageParts va n)).1 with
        | .fault _ _ => true
        | _ => false)
      if stop then s.retireWith h len (fun a => { a with csr := { a.csr with vl := i, vstart := 0, sstatus := putBits a.csr.sstatus 10 9 3 } })
      else
        let s := at_ s i
        let done (s : Pkg) (long : Bool) : Pkg :=
          let s := at_ s (i + 1)
          (s.setHart h { s.hart h with n := (s.hart h).n + 1 }).switchOut h long
        let s := if m.store then
            let d := (List.range m.nf).flatMap (fun k => a.v.readN (off + k * m.regs * 512) m.eb)
            s.access h 2 va n d false {} (fun s ls => s.storeLocal h ls d (fun s => done s (s.isLong h ls)))
          else s.access h 1 va n [] false { dst := .v off m.eb (m.regs * 512) } (fun s ls =>
            let long := s.isLong h ls
            let (bs, s) := s.loadLocal h ls (s.hart h).ntl
            done (s.onArch h (fun a => a.deliver (.v off m.eb (m.regs * 512)) bs)) long)
        if (s.hart h).a.csr.vstart = i + 1 then Pkg.vmemRun s h w len m t else s

/-- The same for the row of the board tier's loads: only the element at vstart, where it lies in the window. -/
def Pkg.vmemTier (s : Pkg) (h w : Nat) (m : VMem) : Pkg :=
  let a := (s.hart h).a
  match ((List.range m.evl).drop a.csr.vstart).find? (fun i => !m.masked || a.vmask 0 i) with
  | some i => if m.store then s
      else (s.onArch h (fun a => { a with csr := { a.csr with vstart := i } })).access h 1 (m.addr.getD i 0) (m.nf * m.eb) [] true
        { dst := .v (512 * rd w + i * m.eb) m.eb (m.regs * 512) } (fun s _ => s)
  | none => s

/-- A vector instruction of a hart; none where the encoding belongs to another part. -/
def Pkg.hVec (s : Pkg) (h w len : Nat) (tier : Bool) : Option Pkg :=
  let a := (s.hart h).a
  let mem := (opc w = 0x07 || opc w = 0x27) && (f3 w = 0 || 5 ≤ f3 w)
  if opc w ≠ 0x57 && !mem then none
  else if a.csr.vs = 0 then some (s.hartIllegal h w)
  else if mem then
    match vmemOf a w with
    | none => some (s.hartIllegal h w)
    | some m => some (if tier then s.vmemTier h w m else s.vmemRun h w len m ((List.range m.evl).drop a.csr.vstart))
  else
    let fp := f3 w = 1 || f3 w = 5
    let move := bits w 31 26 = 0x27 && f3 w = 3
    let r := if f3 w = 7 then hVset a w
      else if (a.csr.vill && !move) || (fp && a.csr.fs = 0) then none
      else match f3 w with
        | 0 | 3 | 4 => hOpi a w
        | 2 | 6 => hOpm a w
        | _ => hOpf a w
    some (match r with
      | some b => s.retireWith h len (fun _ => b)
      | none => s.hartIllegal h w)

end Sys2Proof
end

