-- ==== Sys2Proof/Machine/Harts.lean ====
section
/-!
DEFINITION. The rows of the P-die harts: instructions, switches, vendor instructions, hart plies, atomics, reservations, the timer and
the SBI services (08, 17:R531).
-/

namespace Sys2Proof

open Sys2Proof.Rv

/-- What a fetch gives: the instruction with its length and the bits as fetched, or a fault. -/
inductive HFetch where
  | instr (w len raw : Nat)
  | fault (cause va : Nat)
deriving DecidableEq, Repr, Inhabited

/-- Two bytes of code at a virtual address. -/
def Pkg.fetch2 (s : Pkg) (h va : Nat) : (Nat ⊕ Nat) × Pkg :=
  match s.resolve h 0 [(va, 2)] with
  | (.parts [(.mem a, _)], s) => let (bs, s) := s.loadBytes h a 2 false
    (.inr (leNat bs), s)
  | (.parts [(.ctl a, _)], s) => let (bs, s) := s.ctlRead a 2
    (.inr (leNat bs), s)
  | (.fault c _, s) => (.inl c, s)
  | (.parts [(.tier a, _)], s) => (.inl 1, s.hartAddrError h a 2)
  | (_, s) => (.inl 1, s)

/-- Fetch at pc. A compressed encoding that stands for nothing gives word 0, which is illegal. -/
def Pkg.hFetch (s : Pkg) (h : Nat) : HFetch × Pkg :=
  let pc := (s.hart h).a.pc.toNat
  match s.fetch2 h pc with
  | (.inl c, s) => (.fault c pc, s)
  | (.inr lo, s) =>
    if lo % 4 ≠ 3 then (.instr ((expandC true true lo).getD 0) 2 lo, s)
    else match s.fetch2 h ((pc + 2) % 2 ^ 64) with
      | (.inl c, s) => (.fault c ((pc + 2) % 2 ^ 64), s)
      | (.inr hi, s) => (.instr (lo + hi * 65536) 4 (lo + hi * 65536), s)

/-- The external or software interrupt that waits to be taken, the external one first (08:R233). -/
def Pkg.irqDue (s : Pkg) (h : Nat) : Option Nat :=
  let a := (s.hart h).a
  [9, 1].find? (fun c => a.irqOn (s.svc h) c && bit a.csr.sie c && bit a.csr.sip c)
def Pkg.softDue (s : Pkg) (h : Nat) : Bool := (s.irqDue h).isSome

/-- The hint of NTL.ALL and NTL.PALL holds for one instruction, which may be another hint. -/
def Pkg.endHint (s : Pkg) (h w : Nat) (old : Hart) : Pkg := let x := s.hart h
  if old.ntl && decide (x.a.pc ≠ old.a.pc) && !(isHint w) then s.setHart h { x with ntl := false } else s

/-- The hart's next instruction, if it is one of this row. -/
def Pkg.hartRow (s : Pkg) (h : Nat) (mine : HArch → Nat → Bool) (f : Pkg → Nat → Nat → Pkg) : Pkg :=
  if !(s.hartRuns h) || s.softDue h then s
  else match s.hFetch h with
    | (.instr w len _, s') => if mine (s.hart h).a w then (f s' w len).endHint h w (s.hart h) else s
    | _ => s

/-- Extension IDs of the SBI services (17:R531). -/
def eidBase : Nat := 0x10
def eidTime : Nat := 0x54494D45
def eidIpi : Nat := 0x735049
def eidRfence : Nat := 0x52464E43
def eidHsm : Nat := 0x48534D
def eidSrst : Nat := 0x53525354
def eidSerlys : Nat := 0x09594B01

/-- An environment call from S mode, its extension and its function. -/
def isCall (a : HArch) (w : Nat) : Bool := decide (w = 0x73) && decide (a.priv = 1)
def HArch.eid (a : HArch) : Nat := (a.xr 17).toNat % 2 ^ 32
def HArch.fid (a : HArch) : Nat := (a.xr 16).toNat % 2 ^ 32

/-- Rows of the SBI calls: extension and functions. -/
def sbiRows : List (Nat × List Nat) :=
  [(eidBase, [0, 1, 2, 3, 4, 5, 6]), (eidTime, [0]), (eidIpi, [0]), (eidRfence, [0, 1, 2]), (eidHsm, [0, 1, 2, 3]), (eidSrst, [0]), (eidSerlys, [0, 1, 2])]

/-- A call that is some SBI row's. -/
def listedCall (a : HArch) (w : Nat) : Bool := isCall a w && sbiRows.any (fun r => decide (r.1 = a.eid) && r.2.contains a.fid)

/-- An SBI call: a trap into M mode and the return from it, so a mark stands before it and after it; a0 takes the error and a1 the
value, and the call is no retired instruction (08:R234, R235, R244, 17:R531). -/
def Pkg.sbi (s : Pkg) (h : Nat) (f : Pkg → HArch → Int × Nat × Pkg) : Pkg :=
  s.ownPly h fun s =>
    let (err, v, s) := f s (s.hart h).a
    ((s.onArch h (fun a => (a.setX 10 (BitVec.ofInt 64 err)).setX 11 (BitVec.ofNat 64 v))).hgo h 4).hmark h

/-- An SBI row; a service-firmware hart calls nobody. -/
def Pkg.sbiRow (s : Pkg) (h eid : Nat) (fids : List Nat) (f : Pkg → HArch → Int × Nat × Pkg) : Pkg :=
  if s.svc h then s else s.hartRow h (fun a w => isCall a w && decide (a.eid = eid) && fids.contains a.fid) (fun s _ _ => s.sbi h f)

/-- Errors of the SBI. -/
def sbiNotSupported : Int := -2
def sbiInvalid : Int := -3
def sbiDenied : Int := -4

/-- Vendor instructions that the cores decode (08:R238). -/
def vendorOk (w : Nat) : Bool :=
  let f6 := bits w 31 26
  decide (opc w = 0x5B) && match f3 w with
    | 0 | 4 => decide (f6 < 2)
    | 1 => decide (f6 = 2) && decide (rs1 w = 0)
    | 2 => decide (f6 = 0) && bit w 25
    | 7 => decide (w = 0x705B)
    | _ => false

/-- Atomic encodings: the function of funct5 and the width. -/
def amoFn (w : Nat) : Option Nat :=
  if opc w ≠ 0x2F || !(f3 w = 2 || f3 w = 3 || (f3 w = 4 && bits w 31 27 = 5)) then none
  else match bits w 31 27 with
    | 0x00 => some 0
    | 0x0C => some 1
    | 0x08 => some 2
    | 0x04 => some 3
    | 0x10 => some 4
    | 0x14 => some 5
    | 0x18 => some 6
    | 0x1C => some 7
    | 0x01 => some 8
    | 0x05 => if f3 w = 4 && (rd w % 2 = 1 || rs2 w % 2 = 1) then none else some 9
    | 0x02 => if rs2 w = 0 then some 10 else none
    | 0x03 => some 11
    | _ => none

/-- HART_INSTRUCTION: an interrupt, a fetch fault, or the next instruction where it belongs to no other row: an illegal one, an
unlisted SBI call (08:R233, 17:R531). -/
def hartInstruction (s : Pkg) (h : Nat) : Pkg :=
  if !(s.hartRuns h) then s
  else match s.irqDue h with
  | some c => s.hartIrq h c
  | none => match s.hFetch h with
    | (.fault c va, s) => s.hartTrap h c va
    | (.instr w len raw, s') =>
      let a := (s.hart h).a
      if vendorOk w || (amoFn w).isSome || (listedCall a w && !(s.svc h)) then s
      else if isCall a w && !(s.svc h) then s'.sbi h (fun s _ => (sbiNotSupported, 0, s))
      else
        (match s'.hInt h w len false with
        | some r => r
        | none => match s'.hFp h w len false with
          | some r => r
          | none => match s'.hVec h w len false with
            | some r => r
            | none => s'.hartIllegal h raw).endHint h w (s.hart h)

/-- HART_TIER_LOAD: the next instruction is a load of the board-tier window (09:R294). -/
def hartTierLoad (s : Pkg) (h : Nat) : Pkg :=
  s.hartRow h
    (fun a w => (decide (opc w = 0x03) && decide (f3 w ≠ 7)) || (decide (opc w = 0x07) && (if f3 w = 0 || 5 ≤ f3 w then decide (a.csr.vs ≠ 0) && (vmemOf a w).isSome
      else decide (a.csr.fs ≠ 0) && decide (1 ≤ f3 w) && decide (f3 w ≤ 3))))
    (fun s w len => match s.hInt h w len true with
      | some r => r
      | none => match s.hFp h w len true with
        | some r => r
        | none => (s.hVec h w len true).getD s)

/-- THREAD_SWITCH: the core goes to the next ready hart, in ascending order and wrapping, where the present one is not ready or has
run for 256 cycles of its clock (08:R242). -/
def threadSwitch (s : Pkg) (c : Nat) : Pkg :=
  let x : CoreSt := Tab.get {} s.cores c
  match ((List.range 7).map (fun i => (x.cur + 1 + i) % 8)).find? (fun i => s.hartReady (c * 8 + i)) with
  | none => s
  | some i =>
    if s.hartReady (c * 8 + x.cur) && decide (s.tempo.local_ < x.since + ceilDiv 256000 (s.coreClock (48 + c / 48))) then s
    else
      let p := (s.hart (c * 8 + x.cur)).part
      let s := if p = 0 then s else s.bump (0x38A0 + (p - 1)) 3 1
      { s with cores := Tab.set {} s.cores c { x with cur := i, since := s.tempo.local_ } }

/-- The sums of absolute differences (08:R239): `f6` 0 unsigned, 1 signed; against a vector or a scalar. -/
def sadOf (a : HArch) (w : Nat) (scalar : Bool) : Option HArch :=
  let n := a.csr.sew
  let e := a.csr.lmul8
  if a.csr.vs = 0 || a.csr.vill || n = 64 || !(grpOk (rs2 w) e) || !(scalar || grpOk (rs1 w) e) then none
  else
    let y (i : Nat) : Nat := if scalar then (a.xr (rs1 w)).toNat % 2 ^ n else a.ve n (rs1 w) i
    let d (i : Nat) : Nat := if bits w 31 26 = 0 then (((a.ve n (rs2 w) i : Nat) : Int) - (y i : Nat)).natAbs else (toSigned n (a.ve n (rs2 w) i) - toSigned n (y i)).natAbs
    let v := (a.velems w).foldl (fun t i => t + d i) 0
    some ({ a with csr := { a.csr with vstart := 0 } }.setX (rd w) (BitVec.ofNat 64 v))
def sad (s : Pkg) (h f6 : Nat) (scalar : Bool) : Pkg :=
  s.hartRow h (fun _ w => vendorOk w && decide (f3 w = if scalar then 4 else 0) && decide (bits w 31 26 = f6))
    (fun s w len => match sadOf (s.hart h).a w scalar with
      | some b => s.retireWith h len (fun _ => b)
      | none => s.hartIllegal h w)

/-- YKV.SUMM: the summary of the active elements (08:R240, 06:R199). -/
def summOf (a : HArch) (w : Nat) : Option HArch :=
  let n := a.csr.sew
  let e := a.csr.lmul8
  match vfmt n with
  | none => none
  | some c =>
    if a.csr.vs = 0 || a.csr.vill || !(grpOk (rs2 w) e) || overlap (rd w) 1 (rs2 w) (ceilDiv e 8) || (!(bit w 25) && rd w = 0) then none
    else
      let is := a.velems w
      let m := summaryOf (is.map (fun i => decodeFmt c (a.ve n (rs2 w) i))) 0
      let arg := if bit m.arg 63 then is.getD (m.arg % 2 ^ 63) 0 + 2 ^ 63 else m.arg
      let b := a.setV (512 * rd w) ([m.maxabs, m.sum, m.cnta, m.cntb, arg].flatMap (natLe 8))
      some { b with csr := { b.csr with vstart := 0 } }
def ykvSumm (s : Pkg) (h : Nat) : Pkg :=
  s.hartRow h (fun _ w => vendorOk w && decide (f3 w = 1))
    (fun s w len => match summOf (s.hart h).a w with
      | some b => s.retireWith h len (fun _ => b)
      | none => s.hartIllegal h w)

/-- YKV.SUMH: a ply of its own that stores the handoff record, its word last (08:R241). -/
def ykvSumh (s : Pkg) (h : Nat) : Pkg :=
  s.hartRow h (fun _ w => vendorOk w && decide (f3 w = 2))
    (fun s w len =>
      let a := (s.hart h).a
      let va := a.maskPtr (a.xr (rs1 w)).toNat
      if a.csr.vs = 0 then s.hartIllegal h w
      else if va % 64 ≠ 0 then s.hartAccessFault h 7 va
      else match s.resolve h 2 [(va, 64)] with
        | (.fault c v, s) => s.hartTrap h c v
        | (.parts [(.mem m, _)], s) =>
          s.ownPly h fun s =>
            let d := a.v.readN (512 * rd w) 40 ++ List.replicate 8 0
            let long := s.isLong h [(m, 64)]
            (s.storeLocal h [(m, 48)] d (fun s => s.storeLocal h [(m + 56, 8)] (List.replicate 8 0) (fun s => s.storeLocal h [(m + 48, 8)] (natLe 8 (a.xr (rs2 w)).toNat)
              (fun s => ((s.hretire h len).hmark h).switchOut h (s.svc h && long)))))
        | (.parts [(.tier m, _)], s) => (s.hartAddrError h m 64).hartAccessFault h 7 va
        | (_, s) => s.hartAccessFault h 7 va)

/-- YK.HPLY (08:R244). -/
def ykHply (s : Pkg) (h : Nat) : Pkg :=
  s.hartRow h (fun _ w => vendorOk w && decide (f3 w = 7)) (fun s _ len => (s.hretire h len).hmark h)

/-- HART_PLY_CAP: the ply has lasted 40 µs of Tempo time (08:R244). -/
def hartPlyCap (s : Pkg) (h : Nat) : Pkg :=
  let x := s.hart h
  let idle := x.wait == .none || x.wait == .access || x.wait == .wfi || x.wait == .suspend
  if !(s.svc h) && s.hartMode h && !x.marked && idle && decide (x.since + 40000 ≤ s.tempo.now) then (s.hbump h 0x38A0 7 1).hmark h else s

/-- ONCE_RELEASE for the remote atomic of a committed ply; with no port usable it waits for one (11:R358). -/
def Pkg.onceRelease (s : Pkg) (h node key : Nat) : Pkg :=
  let hd : Hdr := { s.hartHdr h opREL node 0 0 (key % 2 ^ 32) with fence := 0, src := s.node, job := s.ent (0x2000 + ((s.hart h).part - 1)) 5, epoch := Tab.get 0 s.net.epochs node - 1 }
  match s.choosePort node opREL 0 0 with
  | some n => s.post n 0 hd.enc
  | none => { s with net := { s.net with owedRel := s.net.owedRel ++ [(node, hd.enc)] } }

/-- HART_PLY_COMMIT: the rest of the buffer reaches its S-dies in program order, the record of the next ply and, where VS is Dirty, the
vector image are written, and the ply is committed (08:R245, R246). A core's recovery ends with its last hart (13:R404). -/
def hartPlyCommit (s : Pkg) (h : Nat) : Pkg :=
  let x := s.hart h
  let (_, busy) : Unit × Bool := ((), match x.wait with
    | .remote _ _ | .tier _ _ | .answered _ _ _ _ => true
    | _ => false)
  if x.part = 0 || !x.on || !x.marked || busy || (Tab.get {} s.cores (h / 8)).failed then s
  else
    let (ws, s) := s.takeWrites (fun w => decide (w.src = 1) && decide (w.unit = h))
    let s := ((sortBy (fun (a b : DWrite) => decide (a.idx ≤ b.idx)) ws)).foldl Pkg.applyWrite s
    let x := s.hart h
    let dirty := decide (x.a.csr.vs = 3)
    let half := if dirty then 1 - x.vhalf else x.vhalf
    let a := if dirty then { x.a with csr := { x.a.csr with sstatus := putBits x.a.csr.sstatus 10 9 2 } } else x.a
    let s := s.dstorePut (s.hartRecAddr h (x.seq + 1)) (a.record (x.seq + 1) half)
    let s := if dirty then s.dstorePut (s.hartVecAddr h half) (a.v.readN 0 16384) else s
    let s := if x.once = 0 then s else s.onceRelease h (x.once - 1) x.seq
    let s := s.setHart h { x with a := a, vhalf := half, seq := x.seq + 1, marked := false, n := 0, buf := [], lines := [], once := 0 }
    let s := s.bump (0x38A0 + (x.part - 1)) 4 1
    let c := h / 8
    (s.mapCore c (fun r => if r.step = 1 then { r with active := r.active - (if bit r.active (h % 8) then 2 ^ (h % 8) else 0) } else r)).coreDone c

/-- An SC keeps its reservation through the mark that opens its ply (08:R256). -/
def Pkg.ownPlySc (s : Pkg) (h : Nat) (f : Pkg → Pkg) : Pkg :=
  let r := (s.hart h).resv
  if (s.hart h).n ≠ 0 && !(s.svc h) then let s := s.hmark h
    s.setHart h { s.hart h with resv := r }
  else f s

/-- A local atomic at its home slice, once for the ply; a replay receives the value stored there (08:R255, R256). -/
def Pkg.localAtomic (s : Pkg) (h a size : Nat) (f : Nat → Option Nat) (fin : Pkg → Nat → Pkg) : Pkg :=
  let x := s.hart h
  let k := homeSlice (a / 64)
  let p := if s.svc h then partMax else x.part - 1
  match Tab.get (0, 0) x.atoms k with
  | (q, v) =>
    if q = x.seq + 1 && !(s.svc h) then (fin (s.bump (0x38A0 + p) 9 1) v).hmark h
    else
      let (old, s) := s.atomicAt h p a size x.ntl f
      let s := s.setHart h { s.hart h with atoms := Tab.insert (s.hart h).atoms k (x.seq + 1, old) }
      ((fin s old).hmark h).switchOut h (s.svc h)

/-- The atomics other than LR and SC (08:R254 to R257, 11:R346, R357): a ply of its own; within 16 B; in the die store, or at a tray
peer. -/
def amo (s : Pkg) (h fn f3v : Nat) : Pkg :=
  s.hartRow h (fun _ w => amoFn w = some fn && (f3v = 0 || f3 w = f3v))
    (fun s w len =>
      let a := (s.hart h).a
      let va := a.maskPtr (a.xr (rs1 w)).toNat
      let n := 2 ^ f3 w
      let reg (r : Nat) : Nat := if n = 16 then (if r = 0 then 0 else (a.xr r).toNat + (a.xr (r + 1)).toNat * 2 ^ 64) else (a.xr r).toNat % 2 ^ (8 * n)
      let v := reg (rs2 w)
      let cmp := reg (rd w)
      let dst : HDst := if n = 16 then .pair (rd w) else .x (rd w) true
      if 16 < va % 16 + n then s.hartAccessFault h 7 va
      else match s.resolve h 2 [(va, n)] with
        | (.fault c va, s) => s.hartTrap h c va
        | (.parts [(.mem m, _)], s) =>
          s.ownPly h (fun s => s.localAtomic h m n (fun old => if fn = 9 then (if old = cmp then some v else none) else some (amoOp fn (8 * n) old v))
            (fun s old => s.retireWith h len (fun a => a.deliver dst (natLe n old))))
        | (.parts [(.remote node 0 m, _)], s) =>
          s.ownPly h (fun s =>
            let wide := match n with
              | 4 => 0 | 8 => 1 | _ => 2
            let spec := (s.hart h).seq % 2 ^ 32 + fn * 2 ^ 32 + wide * 2 ^ 36
            let pay := if n = 16 then natLe 16 v ++ natLe 16 cmp else natLe 8 v ++ natLe 8 (if fn = 9 then cmp else 0)
            let s := s.setHart h { s.hart h with once := node + 1 }
            s.hartSend h (s.hartHdr h opATOMIC node 0 m spec) pay { dst := dst, size := n, store := true, len := len, va := va })
        | (.parts [(.slotDown, _)], s) => s.ownPly h (fun s => s.askPart h { store := true, len := len, va := va, rest := [(0, 3, 0, [], n)] })
        | (.parts [(.tier m, _)], s) => (s.hartAddrError h m n).hartAccessFault h 7 va
        | (_, s) => s.hartAccessFault h 7 va)

/-- LR: the word, and a reservation on its line where it is local; a remote LR is a load (08:R256, 11:R360). -/
def lrRow (s : Pkg) (h : Nat) : Pkg :=
  s.hartRow h (fun _ w => amoFn w = some 10)
    (fun s w len =>
      let a := (s.hart h).a
      let va := a.maskPtr (a.xr (rs1 w)).toNat
      let n := 2 ^ f3 w
      if 16 < va % 16 + n then s.hartAccessFault h 5 va
      else match s.resolve h 1 [(va, n)] with
        | (.fault c va, s) => s.hartTrap h c va
        | (.parts [(.mem m, _)], s) =>
          let (bs, s) := s.loadLocal h [(m, n)] (s.hart h).ntl
          let s := (s.hbump h 0x38A0 8 1).retireWith h len (fun a => a.deliver (.x (rd w) true) bs)
          s.setHart h { s.hart h with resv := some (m / 64, s.tempo.local_), wait := .access }
        | (.parts [(.remote node 0 m, _)], s) =>
          s.ownPly h (fun s => s.askPart h { dst := .x (rd w) true, len := len, va := va, rest := (lineParts m n).map (fun q => (node, 0, q.1, [], q.2)) })
        | (.parts [(.slotDown, _)], s) => s.ownPly h (fun s => s.askPart h { len := len, va := va, rest := [(0, 3, 0, [], n)] })
        | (.parts [(.tier m, _)], s) => (s.hartAddrError h m n).hartAccessFault h 5 va
        | (_, s) => s.hartAccessFault h 5 va)

/-- SC: a ply of its own that writes only with a reservation on the line; a remote SC fails (08:R256, 11:R360). -/
def scRow (s : Pkg) (h : Nat) : Pkg :=
  s.hartRow h (fun _ w => amoFn w = some 11)
    (fun s w len =>
      let a := (s.hart h).a
      let va := a.maskPtr (a.xr (rs1 w)).toNat
      let n := 2 ^ f3 w
      let ret (s : Pkg) (v : Nat) : Pkg := s.retireWith h len (fun a => a.setX (rd w) (BitVec.ofNat 64 v))
      if 16 < va % 16 + n then s.hartAccessFault h 7 va
      else match s.resolve h 2 [(va, n)] with
        | (.fault c va, s) => s.hartTrap h c va
        | (.parts [(.mem m, _)], s) =>
          s.ownPlySc h (fun s =>
            let x := s.hart h
            let k := homeSlice (m / 64)
            let p := if s.svc h then partMax else x.part - 1
            let has := match x.resv with
              | some r => decide (r.1 = m / 64) && !(s.invals.contains r.1)
              | none => false
            match Tab.get (0, 0) x.atoms k with
            | (q, v) =>
              if q = x.seq + 1 && !(s.svc h) then (ret (s.bump (0x38A0 + p) 9 1) v).hmark h
              else
                let (_, s) := s.atomicAt h p m n x.ntl (fun _ => if has then some ((a.xr (rs2 w)).toNat % 2 ^ (8 * n)) else none)
                let s := s.setHart h { s.hart h with resv := none, atoms := Tab.insert (s.hart h).atoms k (x.seq + 1, b2n (!has)) }
                ((ret s (b2n (!has))).hmark h).switchOut h (s.svc h))
        | (.parts [(.remote _ 0 _, _)], s) => s.ownPlySc h (fun s => (ret s 1).hmark h)
        | (.parts [(.tier m, _)], s) => (s.hartAddrError h m n).hartAccessFault h 7 va
        | (.parts [(.slotDown, _)], s) => s.ownPlySc h (fun s => (ret s 1).hmark h)
        | (_, s) => s.hartAccessFault h 7 va)

/-- LR_RESERVATION_TIMEOUT: 4,096 core cycles, 1,707 ns, after the LR (08:R256). -/
def lrTimeout (s : Pkg) (h : Nat) : Pkg :=
  let x := s.hart h
  match x.resv with
  | some r => if r.2 + 1707 ≤ s.tempo.local_ then s.setHart h { x with resv := none } else s
  | none => s

/-- HART_TIMER_INTERRUPT: taken at the first mark at which the nominal time has reached stimecmp; on a service-firmware hart, once Tempo
has (08:R235). -/
def hartTimer (s : Pkg) (h : Nat) : Pkg :=
  let x := s.hart h
  if s.hartMode h && x.wait == .none && !x.marked && s.timerDue h then s.hartIrq h 5 else s

/-- Harts of the caller's partition that a mask names; none where it names another (17:R531). -/
def Pkg.sbiHarts (s : Pkg) (h : Nat) (a : HArch) : Option (List Nat) :=
  let own := s.hartsOfPart ((s.hart h).part - 1)
  let base := (a.xr 11).toNat
  if base = 2 ^ 64 - 1 then some own
  else
    let named := ((List.range 64).filter (fun i => bit (a.xr 10).toNat i)).map (fun i => base + i)
    if named.all own.contains then some named else none

def sbiBase (s : Pkg) (h : Nat) : Pkg :=
  s.sbiRow h eidBase [0, 1, 2, 3, 4, 5, 6] fun s a =>
    (0, (match a.fid with
      | 0 => Config.sbiSpecVersion
      | 1 => 0x5359
      | 2 => Config.sbiImplVersion
      | 3 => b2n (sbiRows.any (fun r => decide (r.1 = (a.xr 10).toNat % 2 ^ 32)))
      | 4 => 0
      | 5 => 0x64
      | _ => 1), s)
def sbiSetTimer (s : Pkg) (h : Nat) : Pkg :=
  s.sbiRow h eidTime [0] fun s a => (0, 0, s.onArch h (fun b => { b with csr := { b.csr with stimecmp := (a.xr 10).toNat } }))
def sbiSendIpi (s : Pkg) (h : Nat) : Pkg :=
  s.sbiRow h eidIpi [0] fun s a => match s.sbiHarts h a with
    | none => (sbiInvalid, 0, s)
    | some hs => (0, 0, hs.foldl (fun s k => s.onArch k (fun b => { b with csr := { b.csr with sip := putBits b.csr.sip 1 1 1 } })) s)
def sbiRemoteFence (s : Pkg) (h : Nat) : Pkg :=
  s.sbiRow h eidRfence [0, 1, 2] fun s a => (if (s.sbiHarts h a).isSome then 0 else sbiInvalid, 0, s)
def sbiGetStatus (s : Pkg) (h : Nat) : Pkg :=
  s.sbiRow h eidHsm [2] fun s a =>
    let k := (a.xr 10).toNat
    if (s.hartsOfPart ((s.hart h).part - 1)).contains k then (0, if (s.hart k).wait == .suspend then 4 else 0, s) else (sbiInvalid, 0, s)
def sbiSuspend (s : Pkg) (h : Nat) : Pkg :=
  s.sbiRow h eidHsm [3] fun s a =>
    let t := (a.xr 10).toNat % 2 ^ 32
    if t = 0 || (0x10000000 ≤ t && t < 0x80000000) then (0, 0, s.setHart h { s.hart h with wait := .suspend })
    else if t = 0x80000000 || 0x90000000 ≤ t then (sbiNotSupported, 0, s) else (sbiInvalid, 0, s)
def sbiStartStop (s : Pkg) (h : Nat) : Pkg := s.sbiRow h eidHsm [0, 1] fun s _ => (sbiNotSupported, 0, s)
def sbiReset (s : Pkg) (h : Nat) : Pkg := s.sbiRow h eidSrst [0] fun s _ => (sbiDenied, 0, s)
def sbiFabric (s : Pkg) (h : Nat) : Pkg :=
  s.sbiRow h eidSerlys [0] fun s _ => let f := (s.hart h).fab
    (0, if f.1 = 0 then 0 else f.1 + f.2 * 2 ^ 24, s)
def sbiRank (s : Pkg) (h : Nat) : Pkg := s.sbiRow h eidSerlys [1] fun s _ => (0, (s.part ((s.hart h).part - 1)).rank, s)
def sbiIndex (s : Pkg) (h : Nat) : Pkg := s.sbiRow h eidSerlys [2] fun s _ => (0, (s.hart h).index, s)

end Sys2Proof

namespace Sys2Proof.Machine

open Sys2Proof

/-- A command of a hart. -/
def onHart (h : Nat) (s : State) (f : Pkg → Pkg) : Res := act (decide (h < hartMax)) s f

/-- HART_INSTRUCTION (08:R233). -/
def execHartInstruction (h : Nat) (s : State) : Res := onHart h s (fun k => hartInstruction k h)
/-- HART_TIER_LOAD (09:R294). -/
def execHartTierLoad (h : Nat) (s : State) : Res := onHart h s (fun k => hartTierLoad k h)
/-- HART_ACCESS_COMPLETE (08:R242). -/
def execHartAccessComplete (h : Nat) (s : State) : Res := onHart h s (fun k => accessComplete k h)
/-- YKV.SADU.VV (08:R239). -/
def execYkvSaduVv (h : Nat) (s : State) : Res := onHart h s (fun k => sad k h 0 false)
/-- YKV.SADS.VV (08:R239). -/
def execYkvSadsVv (h : Nat) (s : State) : Res := onHart h s (fun k => sad k h 1 false)
/-- YKV.SADU.VX (08:R239). -/
def execYkvSaduVx (h : Nat) (s : State) : Res := onHart h s (fun k => sad k h 0 true)
/-- YKV.SADS.VX (08:R239). -/
def execYkvSadsVx (h : Nat) (s : State) : Res := onHart h s (fun k => sad k h 1 true)
/-- YKV.SUMM (08:R240). -/
def execYkvSumm (h : Nat) (s : State) : Res := onHart h s (fun k => ykvSumm k h)
/-- YKV.SUMH (08:R241). -/
def execYkvSumh (h : Nat) (s : State) : Res := onHart h s (fun k => ykvSumh k h)
/-- YK.HPLY (08:R244). -/
def execYkHply (h : Nat) (s : State) : Res := onHart h s (fun k => ykHply k h)
/-- HART_PLY_CAP (08:R244). -/
def execHartPlyCap (h : Nat) (s : State) : Res := onHart h s (fun k => hartPlyCap k h)
/-- HART_PLY_COMMIT (08:R245). -/
def execHartPlyCommit (h : Nat) (s : State) : Res := onHart h s (fun k => hartPlyCommit k h)
/-- AMOADD (08:R254). -/
def execAmoadd (h : Nat) (s : State) : Res := onHart h s (fun k => amo k h 0 0)
/-- AMOAND (08:R254). -/
def execAmoand (h : Nat) (s : State) : Res := onHart h s (fun k => amo k h 1 0)
/-- AMOOR (08:R254). -/
def execAmoor (h : Nat) (s : State) : Res := onHart h s (fun k => amo k h 2 0)
/-- AMOXOR (08:R254). -/
def execAmoxor (h : Nat) (s : State) : Res := onHart h s (fun k => amo k h 3 0)
/-- AMOMIN (08:R254). -/
def execAmomin (h : Nat) (s : State) : Res := onHart h s (fun k => amo k h 4 0)
/-- AMOMAX (08:R254). -/
def execAmomax (h : Nat) (s : State) : Res := onHart h s (fun k => amo k h 5 0)
/-- AMOMINU (08:R254). -/
def execAmominu (h : Nat) (s : State) : Res := onHart h s (fun k => amo k h 6 0)
/-- AMOMAXU (08:R254). -/
def execAmomaxu (h : Nat) (s : State) : Res := onHart h s (fun k => amo k h 7 0)
/-- AMOSWAP (08:R254). -/
def execAmoswap (h : Nat) (s : State) : Res := onHart h s (fun k => amo k h 8 0)
/-- AMOCAS.W (08:R254). -/
def execAmocasW (h : Nat) (s : State) : Res := onHart h s (fun k => amo k h 9 2)
/-- AMOCAS.D (08:R254). -/
def execAmocasD (h : Nat) (s : State) : Res := onHart h s (fun k => amo k h 9 3)
/-- AMOCAS.Q (08:R254). -/
def execAmocasQ (h : Nat) (s : State) : Res := onHart h s (fun k => amo k h 9 4)
/-- LR (08:R256). -/
def execLr (h : Nat) (s : State) : Res := onHart h s (fun k => lrRow k h)
/-- SC (08:R256). -/
def execSc (h : Nat) (s : State) : Res := onHart h s (fun k => scRow k h)
/-- LR_RESERVATION_TIMEOUT (08:R256). -/
def execLrReservationTimeout (h : Nat) (s : State) : Res := onHart h s (fun k => lrTimeout k h)
/-- HART_TIMER_INTERRUPT (08:R235). -/
def execHartTimerInterrupt (h : Nat) (s : State) : Res := onHart h s (fun k => hartTimer k h)
/-- SbiBase (17:R531). -/
def execSbiBase (h : Nat) (s : State) : Res := onHart h s (fun k => sbiBase k h)
/-- SbiSetTimer (17:R531). -/
def execSbiSetTimer (h : Nat) (s : State) : Res := onHart h s (fun k => sbiSetTimer k h)
/-- SbiSendIpi (17:R531). -/
def execSbiSendIpi (h : Nat) (s : State) : Res := onHart h s (fun k => sbiSendIpi k h)
/-- SbiRemoteFence (17:R531). -/
def execSbiRemoteFence (h : Nat) (s : State) : Res := onHart h s (fun k => sbiRemoteFence k h)
/-- SbiHartGetStatus (17:R531). -/
def execSbiHartGetStatus (h : Nat) (s : State) : Res := onHart h s (fun k => sbiGetStatus k h)
/-- SbiHartSuspend (17:R531). -/
def execSbiHartSuspend (h : Nat) (s : State) : Res := onHart h s (fun k => sbiSuspend k h)
/-- SbiHartStartStop (17:R531). -/
def execSbiHartStartStop (h : Nat) (s : State) : Res := onHart h s (fun k => sbiStartStop k h)
/-- SbiSystemReset (17:R531). -/
def execSbiSystemReset (h : Nat) (s : State) : Res := onHart h s (fun k => sbiReset k h)
/-- SbiFabricError (17:R531). -/
def execSbiFabricError (h : Nat) (s : State) : Res := onHart h s (fun k => sbiFabric k h)
/-- SbiMemberRank (17:R531). -/
def execSbiMemberRank (h : Nat) (s : State) : Res := onHart h s (fun k => sbiRank k h)
/-- SbiHartIndex (17:R531). -/
def execSbiHartIndex (h : Nat) (s : State) : Res := onHart h s (fun k => sbiIndex k h)
/-- THREAD_SWITCH (08:R242). -/
def execThreadSwitch (c : Nat) (s : State) : Res := act (decide (c < coreMax)) s (fun k => threadSwitch k c)

end Sys2Proof.Machine
end

