-- ==== Sys2Proof/Machine/Vector.lean ====
section
/-!
DEFINITION. The vector engine: descriptors and their checks, every operation, conversion, summaries, completion in issue
order (06).
-/

namespace Sys2Proof

open Rv

/-- A vector descriptor with its operation code (06:R191). -/
structure VopDesc where
  op : Nat := 0
  sf : Nat := 0
  df : Nat := 0
  attr : Nat := 0
  rsv : Nat := 0
  n : Nat := 0
  src0 : Nat := 0
  src1 : Nat := 0
  src2 : Nat := 0
  dst : Nat := 0
  imm : Nat := 0
deriving DecidableEq, Repr, Inhabited

/-- Read a descriptor. -/
def vopDesc (op : Nat) (d : List Byte) : VopDesc :=
  { op := op, sf := byteAt d 0 % 16, df := byteAt d 0 / 16, attr := byteAt d 1, rsv := fld d 2 2, n := fld d 4 4
    src0 := fld d 8 4, src1 := fld d 12 4, src2 := fld d 16 4, dst := fld d 20 4, imm := fld d 24 8 }

/-- Fields and classes of operations (06:R191, R193). -/
def VopDesc.ss (d : VopDesc) : Bool := bit d.attr 0
def VopDesc.ds (d : VopDesc) : Bool := bit d.attr 1
def VopDesc.stoch (d : VopDesc) : Bool := bit d.attr 2
def VopDesc.mode (d : VopDesc) : Nat := bits d.attr 4 3
def VopDesc.p (d : VopDesc) : Nat := d.imm % 2 ^ 32
def VopDesc.reads0 (d : VopDesc) : Bool := d.op ≠ 0x19
def VopDesc.uses1 (d : VopDesc) : Bool := decide (d.op ≤ 7)
def VopDesc.uses2 (d : VopDesc) : Bool := d.op = 4 || d.op = 5
def VopDesc.seg (d : VopDesc) : Bool := d.op = 0x10 || d.op = 0x11
def VopDesc.takesP (d : VopDesc) : Bool := d.seg || (d.uses1 && decide (2 ≤ d.mode))
def VopDesc.usesImm (d : VopDesc) : Bool := d.takesP || d.op = 0x19 || (d.uses1 && d.mode = 1)

/-- Elements of src1 by its mode (06:R191). -/
def VopDesc.n1 (d : VopDesc) : Nat :=
  match d.mode with
  | 0 => d.n
  | 1 => 0
  | 2 => d.p
  | _ => d.n / max 1 d.p

/-- Elements of dst. -/
def VopDesc.nd (d : VopDesc) : Nat := if d.seg then d.n / max 1 d.p else d.n

/-- Ranges read: src0, src1, src2, each marked as one that dst may coincide with (06:R192). -/
def VopDesc.srcs (d : VopDesc) : List (Bool × Nat × Nat) :=
  (if !d.reads0 then [] else [(true, d.src0, elemBytes d.sf d.ss d.n)])
  ++ (if d.uses1 && d.mode ≠ 1 then [(false, d.src1, elemBytes d.sf false d.n1)] else [])
  ++ (if d.uses2 then [(true, d.src2, elemBytes d.sf false d.n)] else [])

/-- The range written. -/
def VopDesc.writes (d : VopDesc) : Bool := d.op ≠ 0x1A
def VopDesc.dsts (d : VopDesc) : List (Nat × Nat) := if !d.writes then [] else [(d.dst, elemBytes d.df d.ds d.nd)]

/-- Formats of rows marked W (06:R193). -/
def wide (c : Nat) : Bool := decide (c ≤ 3)

/-- Cause 0x04: format, scaled bit or src1 mode not allowed (06:R193, R207). -/
def VopDesc.badFmt (d : VopDesc) : Bool :=
  !(fmtOk d.sf) || !(fmtOk d.df) || (!d.uses1 && decide (d.mode ≠ 0))
  || (if d.op = 0x18 then !(scaledOk d.sf d.ss) || !(scaledOk d.df d.ds)
      else if d.op = 0x1A then decide (d.df ≠ d.sf) || !(scaledOk d.sf d.ss)
      else !(wide d.sf) || !(wide d.df) || d.ss || d.ds || (d.op = 0x19 && decide (d.sf ≠ d.df)))

/-- The causes of DESC_INVALID in rising order, with whether each applies (06:R192, R207). -/
def VopDesc.causes (d : VopDesc) : List (Nat × Bool) :=
  let rs := d.srcs.map (·.2) ++ d.dsts
  [ (1, decide (d.n = 0) || rs.any (fun r => decide (r.2 % 64 ≠ 0)) || (((d.reads0 && d.ss) || (d.writes && d.ds)) && decide (d.n % 4096 ≠ 0))),
    (2, rs.any (fun r => decide (r.1 % 64 ≠ 0) || !(inCache r.1 r.2))),
    (3, decide (d.rsv ≠ 0) || decide (d.attr / 32 ≠ 0)
        || ((!d.uses1 || d.mode = 1) && decide (d.src1 ≠ 0)) || (!d.uses2 && decide (d.src2 ≠ 0))
        || (d.op = 0x1A && (decide (d.dst ≠ 0) || d.ds)) || (d.op = 0x19 && decide (d.src0 ≠ 0))
        || (!d.usesImm && decide (d.imm ≠ 0)) || (d.takesP && decide (d.imm / 2 ^ 32 ≠ 0))),
    (4, d.badFmt),
    (5, d.stoch && !(d.op = 0x18 && decide (2 ≤ d.df) && decide (d.df ≤ 7))),
    (6, d.dsts.any (fun w => d.srcs.any (fun r =>
        overlap w.1 w.2 r.2.1 r.2.2 && !(r.1 && decide (r.2.1 = w.1) && decide (fmtWidth d.df = fmtWidth d.sf))))),
    (7, d.takesP && (decide (d.p = 0) || (d.seg && decide (d.p < 2)) || ((d.seg || d.mode = 3) && decide (d.n % max 1 d.p ≠ 0)))) ]

/-- The lowest-numbered cause that applies; 0 where none does. -/
def VopDesc.cause (d : VopDesc) : Nat := ((d.causes.find? (·.2)).map (·.1)).getD 0

/-- An element's result: its code, flags and vanished count (06:R194, R195). -/
def vopElem (cfg : NumCfg) (op df : Nat) (a b c : FVal) : NumRes :=
  let out (v : FVal) (inv : Bool) : NumRes := let r := deliver cfg df .rne v
    { r with fl := r.fl.or { inv := inv } }
  let nan (inv : Bool) : NumRes := { raw := fmtNan df, fl := { inv := inv } }
  let infO (neg : Bool) : NumRes := { raw := (deliver cfg df .rne (.inf neg)).raw, fl := { ovf := true } }
  let mag (neg : Bool) (x : Nat × Int × Bool) : NumRes := deliverFin cfg df .rne neg x.1 x.2.1 x.2.2
  match op with
  | 0x01 => deliverSum cfg df .rne [a, b] false
  | 0x02 => deliverSum cfg df .rne [a, b.neg] false
  | 0x03 => let (v, i) := fmulX a b
    out v i
  | 0x04 => let (v, i) := fmulX a b
    deliverSum cfg df .rne [v, c] i
  | 0x05 => let (v, i) := fmulX a b
    deliverSum cfg df .rne [v.neg, c] i
  | 0x06 => let (v, i) := fMin a b
    out v i
  | 0x07 => let (v, i) := fMax a b
    out v i
  | 0x08 => out a.abs false
  | 0x09 => out a.neg false
  | 0x0A =>
    match a with
    | .nan s => nan s
    | .inf neg => if neg then nan true else out a false
    | .fin neg m e => if m = 0 then out a false else if neg then nan true else mag false (sqrtMag m e)
  | 0x0B =>
    match a with
    | .nan s => nan s
    | .inf neg => out (.fin neg 0 0) false
    | .fin neg m e => if m = 0 then infO neg else mag neg (divMag 1 0 m e)
  | 0x0C =>
    match a with
    | .nan s => nan s
    | .inf neg => if neg then nan true else out (.fin false 0 0) false
    | .fin neg m e => if m = 0 then infO neg else if neg then nan true else mag false (rsqrtMag m e)
  | 0x0D =>
    match a with
    | .nan s => nan s
    | .inf neg => if neg then out (.fin false 0 0) false else out a false
    | .fin neg m e => mag false (expMag neg m e)
  | 0x0E =>
    match a with
    | .nan s => nan s
    | .inf neg => out (.fin neg 1 0) false
    | .fin neg m e => if m = 0 then out a false else mag neg (tanhMag m e)
  | _ => out a false

/-- FP32 subnormal operands read as zero under the setting: the values, and how many were flushed (06:R198). -/
def flushIn (cfg : NumCfg) (sf : Nat) (vs : List FVal) : List FVal × Nat :=
  if cfg.ftz && sf = 1 then
    let sub (v : FVal) : Bool := match v with
      | .fin _ m e => decide (m ≠ 0) && magLt m e 1 (-126)
      | _ => false
    (vs.map (fun v => if sub v then .fin v.sign 0 0 else v), (vs.filter sub).length)
  else (vs, 0)

/-- src1 as element i uses it (06:R191). -/
def spread (d : VopDesc) (vs : List FVal) : List FVal :=
  match d.mode with
  | 0 => vs
  | 1 => List.replicate d.n (vs.headD (.fin false 0 0))
  | 2 => (List.range d.n).map (fun i => vs.getD (i % max 1 d.p) (.fin false 0 0))
  | _ => vs.flatMap (fun v => List.replicate d.p v)

/-- What an operation writes and covers: bytes, flags, vanished count, covered values (06:R193 to R199). `rd` reads the
operand cache; `seed`, `frame` and `base` give the stochastic numbers. A converted scalar that is an FP32 subnormal counts once (06:R560),
one that VFILL rounds to zero with every element delivered (02:R70, log entry 80). -/
def vopRun (cfg : NumCfg) (d : VopDesc) (rd : Nat → Nat → List Byte) (seed frame base : Nat) : Written :=
  let src (a n : Nat) (sc : Bool) := flushIn cfg d.sf (readVals d.sf sc n (rd a (elemBytes d.sf sc n)))
  let fx (k : Nat) : Flags := { unf := decide (0 < k) }
  let pack (rs : List NumRes) (van : Nat) (fl : Flags) : Written :=
    { bytes := wrCodes d.df (rs.map (·.raw)), fl := rs.foldl (fun f r => f.or r.fl) fl
      van := rs.foldl (fun n r => n + r.van) van, vals := rs.map (fun r => decodeFmt d.df r.raw) }
  if d.op = 0x1A then
    let (vs, k) := src d.src0 d.n d.ss
    { fl := (fx k).or { inv := vs.any FVal.isSig }, van := k, vals := vs }
  else if d.op = 0x19 then
    let r := deliver cfg d.df .rne (decodeFmt 0 d.imm)
    let once := decide (d.df = 1) && decide ((deliver { cfg with ftz := false } 1 .rne (decodeFmt 0 d.imm)).van = 0)
    { pack (List.replicate d.n r) 0 {} with van := if once then r.van else d.n * r.van }
  else if d.op = 0x18 then
    let (vs, k) := src d.src0 d.n d.ss
    if d.sf = d.df && d.ss = d.ds then
      let bs := rd d.src0 (elemBytes d.sf d.ss d.n)
      let bs := if k = 0 then bs
        else wrCodes 1 ((rdCodes 1 d.n bs).map (fun c => if (flushIn cfg 1 [decodeFmt 1 c]).2 = 0 then c else c / 2 ^ 31 * 2 ^ 31))
      { bytes := bs, fl := (fx k).or { inv := vs.any FVal.isSig }, van := k, vals := vs }
    else
      let modes := if d.stoch then (List.range d.n).map (fun i => Rm.stoch (stochR seed frame ((base + i) % 2 ^ 64))) else nearest d.n
      let w := writeVals cfg d.df d.ds vs modes
      { w with fl := w.fl.or (fx k), van := w.van + k }
  else if d.seg then
    let (vs, k) := src d.src0 d.n false
    let segs := pieces d.p d.nd vs
    let one (g : List FVal) : NumRes :=
      if d.op = 0x10 then deliverSum cfg d.df .rne (.fin false 0 0 :: g) false
      else
        let (v, i) := (g.drop 1).foldl (fun acc x => let (v, i) := fMax acc.1 x; (v, acc.2 || i)) (g.headD (.fin false 0 0), false)
        let r := deliver cfg d.df .rne v
        { r with fl := r.fl.or { inv := i } }
    pack (segs.map one) k (fx k)
  else
    let (as, ka) := src d.src0 d.n false
    let (bs, fb, kb) :=
      if !d.uses1 then ([], ({} : Flags), 0)
      else if d.mode = 1 then
        let r := deliver cfg d.sf .rne (decodeFmt 0 d.imm)
        ([decodeFmt d.sf r.raw], r.fl, r.van)
      else let (v, k) := src d.src1 d.n1 false
        (v, fx k, k)
    let (cs, kc) := if d.uses2 then src d.src2 d.n false else ([], 0)
    let z : FVal := .fin false 0 0
    let bs := if d.uses1 then spread d bs else List.replicate d.n z
    let cs := if d.uses2 then cs else List.replicate d.n z
    let rs := (as.zip (bs.zip cs)).map (fun x => vopElem cfg d.op d.df x.1 x.2.1 x.2.2)
    pack rs (ka + kb + kc) ((fx (ka + kc)).or fb)

/-- Issue of YK.VOP with operation code `op` (04:R127, 06:R190 to R192). -/
def vopIssue (s : Pkg) (n op : Nat) : Pkg :=
  s.withInstr n fun w _ _ =>
    let t := s.tile n
    let a := (t.xr (rs1 w)).toNat
    if !(decide (opc w = 0x0B) && decide (f3 w = 1) && decide (f7 w = op)) then s
    else if t.waits (rs1 w) || t.waits (rs2 w) || (inData a 32 && t.descBusy a 32) || !(t.mayIssue true) then s
    else
      let r2 := (t.xr (rs2 w)).toNat
      let o : EngOp := { kind := .vop, code := op, r2 := r2, sibase := t.core.sibase.toNat, frame := t.frame }
      let k := t.ticket
      match t.descAt a 32 with
      | none => s.issueBad n (rd w) 2 .vop
      | some d =>
        let v := vopDesc op d
        let o := if v.cause = 0 then { o with desc := d, reads := v.srcs.map (·.2), writes := v.dsts } else { o with desc := d, r1 := v.cause }
        let s := s.issue n (rd w) o
        let t := s.tile n
        if bit r2 2 then s.setTile n { t with slotTkt := Tab.insert t.slotTkt (r2 % 4) (k + 1) } else s

/-- A vector operation completes: the oldest one in issue order that has not, once R130 lets it (06:R190, R199, R200). -/
def vectorComplete (s : Pkg) (n : Nat) : Pkg :=
  let t := s.tile n
  match t.ops.find? (fun o => o.kind == .vop && o.staged.isNone) with
  | none => s
  | some o =>
    if t.mode != .running || !(t.free o) || !(t.room o) then s
    else
      let p := t.part - 1
      let slot := o.r2 % 4
      if o.r1 ≠ 0 then s.finishOp n o { status := 5, detail := o.r1 }
      else
        let d := vopDesc o.code o.desc
        let w := vopRun (s.num p) d (fun a l => t.ocache.readN a l) (s.part p).img.seed o.frame o.sibase
        s.finishOp n o
          { writes := (List.range w.bytes.length).zip w.bytes |>.map (fun x => (d.dst + x.1, x.2)), fl := w.fl, van := w.van
            summ := if bit o.r2 2 then some (slot, summaryOf w.vals w.van) else none }

end Sys2Proof

namespace Sys2Proof.Machine

open Sys2Proof

/-- VADD (06:R193). -/
def execVadd (t : Nat) (s : State) : Res := onTile t s (fun k => vopIssue k t 0x01)
/-- VSUB (06:R193). -/
def execVsub (t : Nat) (s : State) : Res := onTile t s (fun k => vopIssue k t 0x02)
/-- VMUL (06:R193). -/
def execVmul (t : Nat) (s : State) : Res := onTile t s (fun k => vopIssue k t 0x03)
/-- VFMA (06:R193). -/
def execVfma (t : Nat) (s : State) : Res := onTile t s (fun k => vopIssue k t 0x04)
/-- VFNMA (06:R193). -/
def execVfnma (t : Nat) (s : State) : Res := onTile t s (fun k => vopIssue k t 0x05)
/-- VMIN (06:R194). -/
def execVmin (t : Nat) (s : State) : Res := onTile t s (fun k => vopIssue k t 0x06)
/-- VMAX (06:R194). -/
def execVmax (t : Nat) (s : State) : Res := onTile t s (fun k => vopIssue k t 0x07)
/-- VABS (06:R193). -/
def execVabs (t : Nat) (s : State) : Res := onTile t s (fun k => vopIssue k t 0x08)
/-- VNEG (06:R193). -/
def execVneg (t : Nat) (s : State) : Res := onTile t s (fun k => vopIssue k t 0x09)
/-- VSQRT (06:R194). -/
def execVsqrt (t : Nat) (s : State) : Res := onTile t s (fun k => vopIssue k t 0x0A)
/-- VRECIP (06:R195). -/
def execVrecip (t : Nat) (s : State) : Res := onTile t s (fun k => vopIssue k t 0x0B)
/-- VRSQRT (06:R195). -/
def execVrsqrt (t : Nat) (s : State) : Res := onTile t s (fun k => vopIssue k t 0x0C)
/-- VEXP (06:R193). -/
def execVexp (t : Nat) (s : State) : Res := onTile t s (fun k => vopIssue k t 0x0D)
/-- VTANH (06:R193). -/
def execVtanh (t : Nat) (s : State) : Res := onTile t s (fun k => vopIssue k t 0x0E)
/-- VSEGSUM (06:R195). -/
def execVsegsum (t : Nat) (s : State) : Res := onTile t s (fun k => vopIssue k t 0x10)
/-- VSEGMAX (06:R195). -/
def execVsegmax (t : Nat) (s : State) : Res := onTile t s (fun k => vopIssue k t 0x11)
/-- VCVT (06:R196). -/
def execVcvt (t : Nat) (s : State) : Res := onTile t s (fun k => vopIssue k t 0x18)
/-- VFILL (06:R193). -/
def execVfill (t : Nat) (s : State) : Res := onTile t s (fun k => vopIssue k t 0x19)
/-- VSCAN (06:R193). -/
def execVscan (t : Nat) (s : State) : Res := onTile t s (fun k => vopIssue k t 0x1A)
/-- VECTOR_OP_COMPLETE (06:R190). -/
def execVectorOpComplete (t : Nat) (s : State) : Res := onTile t s (fun k => vectorComplete k t)

end Sys2Proof.Machine
end

