-- ==== Sys2Proof/Machine/MatrixE.lean ====
section
/-!
DEFINITION. The matrix engine: program buffer and swaps, the walk of a run, the micro-operations, completion (05).
-/

namespace Sys2Proof

open Rv

/-- Rows and columns of the output tile of a set kind (05:R158). -/
def kindRows (k : Nat) : Nat := if k = 2 then 64 else 32
def kindCols (k : Nat) : Nat := match k with
  | 0 => 16
  | 1 => 32
  | _ => 64

/-- Accumulator format of a kind: FP64 or FP32 (05:R158). -/
def kindFmt (k : Nat) : Nat := if k = 0 then fpFP64 else fpFP32

/-- Set kind of an operand format (05:R158). -/
def fmtKind (c : Nat) : Nat := match c with
  | 0 => 0
  | 1 => 1
  | _ => 2

/-- Group size of an operand format (05:R160). -/
def groupK (c : Nat) : Nat := match c with
  | 0 => 4
  | 1 => 2
  | 2 => 4
  | 3 => 4
  | _ => 32

/-- A micro-operation's fields (05:R167). -/
def moOp (w : Nat) : Nat := bits w 7 0
def moSet (w : Nat) : Nat := bits w 8 8
def moKind (w : Nat) : Nat := bits w 10 9
def moFmt (w : Nat) : Nat := bits w 12 9
def moScaled (w : Nat) : Bool := bit w 13
def moTrans (w : Nat) : Bool := bit w 13
def moInc (w : Nat) : Bool := bit w 14
def moRa (w : Nat) : Nat := bits w 18 16
def moRb (w : Nat) : Nat := bits w 21 19
def moK (w : Nat) : Nat := bits w 39 24
def moOff (w : Nat) : Nat := bits w 83 64
def moBoff (w : Nat) : Nat := bits w 103 84
def moStride (w : Nat) : Nat := bits w 115 96

/-- A set bit outside the listed fields: reserved (05:R167). -/
def outside (w : Nat) (fs : List (Nat × Nat)) : Bool :=
  fs.foldl (fun v f => v - bits v f.1 f.2 * 2 ^ f.2) w ≠ 0

/-- Reserved opcode or field of a micro-operation, cause 0x01 (05:R167, R187). -/
def moReserved (w : Nat) : Bool :=
  match moOp w with
  | 0 => outside w [(7, 0)]
  | 1 => outside w [(7, 0), (11, 8), (63, 32)] || decide (12 ≤ bits w 11 8)
  | 2 => outside w [(7, 0), (10, 8), (63, 32)]
  | 3 => outside w [(7, 0), (8, 8), (10, 9)] || moKind w = 3
  | 4 => outside w [(7, 0), (8, 8), (10, 9), (13, 13), (18, 16), (83, 64), (115, 96)] || moKind w = 3
  | 5 => outside w [(7, 0), (8, 8), (12, 9), (13, 13), (14, 14), (18, 16), (21, 19), (39, 24), (83, 64), (103, 84)]
  | 6 => outside w [(7, 0), (8, 8), (12, 9), (13, 13), (14, 14), (18, 16), (83, 64), (115, 96)]
  | 7 => outside w [(7, 0), (9, 8), (23, 16)]
  | 8 => outside w [(7, 0)]
  | _ => true

/-- The run descriptor's ranges and registers (05:R175). -/
def runReads (d : List Byte) : List (Nat × Nat) :=
  [(fld d 8 4, fld d 12 4), (fld d 16 4, fld d 20 4)].filter (fun r => r.2 ≠ 0)
def runWrites (d : List Byte) : List (Nat × Nat) := [(fld d 24 4, fld d 28 4)].filter (fun r => r.2 ≠ 0)

/-- A descriptor rule of R175 is broken. -/
def runBad (d : List Byte) : Bool :=
  let rs := [(fld d 8 4, fld d 12 4), (fld d 16 4, fld d 20 4), (fld d 24 4, fld d 28 4)]
  decide (byteAt d 0 / 2 ≠ 0) || !(zeroAt d 2 6) || !(zeroAt d 56 8)
  || rs.any (fun r => decide (r.1 % 64 ≠ 0) || decide (r.2 % 64 ≠ 0) || !(inCache r.1 r.2))
  || meets (runReads d) (runWrites d)

/-- What the walk carries: registers, counters, which address registers are defined, set states, steps (05:R176). -/
structure Walk where
  a : Tab Nat := []
  c : Tab Nat := []
  defd : List Nat := [0, 1, 2, 3]
  live0 : Option Nat := none
  live1 : Option Nat := none
  entry : Nat := 0
  n : Nat := 0
deriving DecidableEq, Repr, Inhabited

/-- Liveness and kind of a set. -/
def Walk.live (k : Walk) (s : Nat) : Option Nat := if s = 0 then k.live0 else k.live1
def Walk.setLive (k : Walk) (s kind : Nat) : Walk := if s = 0 then { k with live0 := some kind } else { k with live1 := some kind }

/-- Effective stride of LDACC and STACC: rows apart, or columns apart when transposed (05:R165). -/
def accStride (w kind v : Nat) : Nat :=
  if moStride w ≠ 0 then moStride w else (if moTrans w then kindRows kind else kindCols kind) * v

/-- The ranges an accumulator transfer touches: one per line of the output tile (05:R165). -/
def accRanges (w base kind v : Nat) : List (Nat × Nat) :=
  let s := accStride w kind v
  if moTrans w then (List.range (kindCols kind)).map (fun c => (base + c * s, kindRows kind * v))
  else (List.range (kindRows kind)).map (fun r => (base + r * s, kindCols kind * v))

/-- The ranges an MMA reads of one strip: its lines of each panel, and their scales (05:R163, R164, R168). -/
def stripRanges (c : Nat) (scaled : Bool) (base lines k : Nat) : List (Nat × Nat) :=
  let P := panelP c scaled
  (List.range (ceilDiv k 64)).flatMap (fun i =>
    [(base + i * P, lines * panelL c)] ++ (if scaled then [(base + i * P + 64 * panelL c, 2 * lines)] else []))

/-- What is left of a range outside another: a piece below it and a piece above it. -/
def cutRange (d r : Nat × Nat) : List (Nat × Nat) :=
  let hi := max r.1 (d.1 + d.2)
  [(r.1, min r.2 (d.1 - r.1)), (hi, r.1 + r.2 - hi)].filter (fun x => x.2 ≠ 0)

/-- Every byte of a range lies in one of the declared ranges (05:R176): nothing of it is left outside them. -/
def covered (rs : List (Nat × Nat)) (r : Nat × Nat) : Bool := (rs.foldl (fun l d => l.flatMap (cutRange d)) [r]).isEmpty

/-- Address register value. -/
def areg (a : Tab Nat) (r : Nat) : Nat := Tab.get 0 a r

/-- The first rule a micro-operation breaks, in the order of the causes (05:R176, R187); 0 where it breaks none. -/
def walkCause (k : Walk) (w : Nat) (rds wrs : List (Nat × Nat)) : Nat :=
  let set := moSet w
  if moReserved w then 1
  else
    match moOp w with
    | 4 =>
      let v := fmtWidth (kindFmt (moKind w)) / 8
      let base := areg k.a (moRa w) + moOff w
      if (accRanges w base (moKind w) v).any (fun r => !(covered rds r)) then 3
      else if base % 64 ≠ 0 || accStride w (moKind w) v % 64 ≠ 0 then 4 else 0
    | 5 =>
      let c := moFmt w
      let a := areg k.a (moRa w) + moOff w
      let b := areg k.a (moRb w) + moBoff w
      let kind := fmtKind c
      if fmtOk c && (stripRanges c (moScaled w) a (kindRows kind) (moK w) ++ stripRanges c (moScaled w) b (kindCols kind) (moK w)).any (fun r => !(covered rds r)) then 3
      else if a % 64 ≠ 0 || b % 64 ≠ 0 then 4
      else if !(fmtOk c) || !(scaledOk c (moScaled w)) || moK w = 0 || moK w % groupK c ≠ 0 then 5
      else match k.live set with
        | none => 6
        | some kd =>
          if kd ≠ kind then 5
          else if moInc w && !(k.defd.contains (moRa w) && k.defd.contains (moRb w)) then 7 else 0
      | 6 =>
      let c := moFmt w
      let base := areg k.a (moRa w) + moOff w
      let skew := decide (base % 64 ≠ 0) || decide (moStride w % 64 ≠ 0)
      match k.live set with
      | none => if skew then 4 else if 3 < c then 5 else 6
      | some kd =>
        let okF := if kd = 0 then c ≤ 1 else c = 1 || c = 2 || c = 3
        let v := fmtWidth c / 8
        if okF && (accRanges w base kd v).any (fun r => !(covered wrs r)) then 3
        else if skew || (okF && accStride w kd v % 64 ≠ 0) then 4
        else if !okF then 5 else 0
    | _ => 0

/-- Registers and control flow after a micro-operation (05:R167, R168). -/
def walkStep (k : Walk) (w : Nat) : Walk :=
  let e := k.entry + 1
  match moOp w with
  | 1 =>
    let r := bits w 11 8
    let imm := bits w 63 32
    if r < 8 then { k with a := Tab.set 0 k.a r imm, defd := if r < 4 then k.defd else r :: k.defd, entry := e }
    else { k with c := Tab.set 0 k.c (r - 8) (imm % 65536), entry := e }
  | 2 => { k with a := Tab.set 0 k.a (bits w 10 8) ((areg k.a (bits w 10 8) + bits w 63 32) % 2 ^ 32), entry := e }
  | 3 => { k.setLive (moSet w) (moKind w) with entry := e }
  | 4 => { k.setLive (moSet w) (moKind w) with entry := e }
  | 5 =>
    if moInc w then
      let d := ceilDiv (moK w) 64 * panelP (moFmt w) (moScaled w)
      let a := Tab.set 0 k.a (moRa w) ((areg k.a (moRa w) + d) % 2 ^ 32)
      { k with a := Tab.set 0 a (moRb w) ((areg a (moRb w) + d) % 2 ^ 32), entry := e }
    else { k with entry := e }
  | 7 =>
    let i := bits w 9 8
    let c := Tab.get 0 k.c i
    if 2 ≤ c then { k with c := Tab.set 0 k.c i (c - 1), entry := bits w 23 16 }
    else { k with c := Tab.set 0 k.c i 0, entry := e }
  | _ => { k with entry := e }

/-- The walk: none where it reaches END, else the cause and the entry at which it failed (05:R176, R187). -/
def walkRun (pb : Tab Nat) (bank : Nat) (rds wrs : List (Nat × Nat)) : Nat → Walk → Option (Nat × Nat)
  | 0, k => some (7, k.entry % 256)
  | fuel + 1, k =>
    if 256 ≤ k.entry then some (2, 0)
    else
      match Tab.find pb (bank * 256 + k.entry) with
      | none => some (2, k.entry)
      | some w =>
        let cause := walkCause k w rds wrs
        if cause ≠ 0 then some (cause, k.entry)
        else if moOp w = 8 then none
        else if k.n = 65536 then some (7, k.entry)
        else walkRun pb bank rds wrs fuel { walkStep k w with n := k.n + 1 }

/-- What the timing of a run carries, in cycles counted from the end of its walk: the cycle of the last issue, the last cycle in
which the array input and the transfer path are taken, the kind and last cycle of the last MMA, the last cycles of transfers and
MMAs of each set, and the last cycle of all (05:R181). -/
structure MxTime where
  issued : Nat := 0
  input : Nat := 0
  path : Nat := 0
  kind : Option Nat := none
  mma : Nat := 0
  moved0 : Nat := 0
  moved1 : Nat := 0
  mma0 : Nat := 0
  mma1 : Nat := 0
  last : Nat := 0
deriving DecidableEq, Repr, Inhabited

/-- Elements of k that the array takes in one cycle (05:R158, R181). -/
def kPerCycle (c : Nat) : Nat := if c ≤ 3 then 1 else if c = 6 || c = 7 then 4 else 2

/-- The timing after the micro-operation w, which the walk has reached with the state k (05:R181). -/
def MxTime.next (m : MxTime) (k : Walk) (w : Nat) : MxTime :=
  let set := moSet w
  let moved := if set = 0 then m.moved0 else m.moved1
  let mmas := if set = 0 then m.mma0 else m.mma1
  let transfer (kind v : Nat) : MxTime :=
    let st := max (m.issued + 1) (max (mmas + 1) (max (moved + 1) (m.path + 1)))
    let done := st + kindRows kind * kindCols kind * v / 256 - 1
    let m := { m with issued := st, path := done, last := max m.last done }
    if set = 0 then { m with moved0 := done } else { m with moved1 := done }
  match moOp w with
  | 3 =>
    let st := max (m.issued + 1) (moved + 1)
    let m := { m with issued := st, last := max m.last st }
    if set = 0 then { m with moved0 := st } else { m with moved1 := st }
  | 4 => transfer (moKind w) (fmtWidth (kindFmt (moKind w)) / 8)
  | 5 =>
    let kind := fmtKind (moFmt w)
    let other := if m.kind = some kind then 0 else m.mma
    let st := max (m.issued + 1) (max (m.input + 1) (max (moved + 1) (other + 1)))
    let fin := st + ceilDiv (moK w) (kPerCycle (moFmt w)) - 1
    let done := fin + 126
    let m := { m with issued := st, input := fin, kind := some kind, mma := done, last := max m.last done }
    if set = 0 then { m with mma0 := max m.mma0 done } else { m with mma1 := max m.mma1 done }
  | 6 => transfer ((k.live set).getD 0) (fmtWidth (moFmt w) / 8)
  | _ => { m with issued := m.issued + 1, last := max m.last (m.issued + 1) }

/-- Cycles of a run that has passed its walk, without bank conflicts: the walk at 4 micro-operations a cycle, then the execution
(05:R176, R181). -/
def runCycles (pb : Tab Nat) (bank : Nat) : Nat → Walk → MxTime → Nat
  | 0, _, m => m.last
  | fuel + 1, k, m =>
    match Tab.find pb (bank * 256 + k.entry) with
    | none => m.last
    | some w =>
      let m := m.next k w
      if moOp w = 8 then ceilDiv (k.n + 1) 4 + m.last
      else runCycles pb bank fuel { walkStep k w with n := k.n + 1 } m

/-- a0–a3 and c0–c3 of a run descriptor (05:R175). -/
def runRegs (d : List Byte) : Tab Nat × Tab Nat :=
  ((List.range 4).foldl (fun t i => Tab.set 0 t i (fld d (32 + 4 * i) 4)) [],
   (List.range 4).foldl (fun t i => Tab.set 0 t i (fld d (48 + 2 * i) 2)) [])

/-- Start or refuse the oldest run: it waits for earlier runs and swaps, and a speculative one for sets that are not live;
then it is walked (05:R173, R175, R176, R179). -/
def runStart (s : Pkg) (n : Nat) : Pkg :=
  let t := s.tile n
  match t.ops.find? (fun o => o.kind == .mxrun && o.staged.isNone) with
  | none => s
  | some o =>
    let before := opsBefore t.ops o.ticket
    let blocked := before.any (fun x => (x.kind == .mxrun && x.staged.isNone) || x.kind == .mxswap)
    let underRegion := o.spec && t.core.region.isSome
    if t.mode != .running || t.mx.run.isSome || blocked || !(t.free o) || !(t.room o)
        || (underRegion && (t.mx.set0.live || t.mx.set1.live)) then s
    else
      let p := t.part - 1
      let fail (cause entry : Nat) (s : Pkg) :=
        (s.bump (0x3840 + p) 4 1).finishOp n o { status := 5, detail := cause + entry * 256 }
      if o.r1 ≠ 0 then fail 8 o.r2 s
      else
        let d := o.desc
        let self := bit (byteAt d 0) 0
        let (a, c) := runRegs d
        let live (x : AccSet) : Option Nat := if x.live && !self then some x.kind else none
        let k : Walk := { a := a, c := c, live0 := live t.mx.set0, live1 := live t.mx.set1, entry := byteAt d 1 }
        match walkRun t.mx.pbuf t.mx.active (runReads d) (runWrites d) 65538 k with
        | some (cause, entry) => fail cause entry s
        | none =>
          let run : MxRun := { ticket := o.ticket, bank := t.mx.active, entry := byteAt d 1, self := self, spec := underRegion }
          let m := { t.mx with run := some run, a := a, c := c }
          let m := if self then { m with set0 := { m.set0 with live := false }, set1 := { m.set1 with live := false } } else m
          (s.bump (0x3840 + p) 3 (runCycles t.mx.pbuf t.mx.active 65538 k {})).setTile n { t with mx := m }

/-- The micro-operation a run executes next, with what `f` makes of it, where its opcode is `op`. -/
def Pkg.withMicro (s : Pkg) (n op : Nat) (f : MxRun → Nat → Pkg) : Pkg :=
  let t := s.tile n
  match t.mx.run with
  | none => s
  | some run =>
    if run.ended || t.mode != .running then s
    else match Tab.find t.mx.pbuf (run.bank * 256 + run.entry) with
      | none => s
      | some w => if moOp w = op then f run w else s

/-- Store an engine's state with its run. -/
def Pkg.putRun (s : Pkg) (n : Nat) (m : Matrix) (run : MxRun) : Pkg :=
  s.setTile n { s.tile n with mx := { m with run := some run } }

/-- NOP, SETR, ADDR and LOOP: registers and control flow alone. -/
def microFlow (s : Pkg) (n op : Nat) : Pkg :=
  s.withMicro n op fun run w =>
    let m := (s.tile n).mx
    let k := walkStep { a := m.a, c := m.c, entry := run.entry } w
    s.putRun n { m with a := k.a, c := k.c } { run with entry := k.entry }

/-- A set of the engine. -/
def Matrix.set (m : Matrix) (i : Nat) : AccSet := if i = 0 then m.set0 else m.set1
def Matrix.putSet (m : Matrix) (i : Nat) (x : AccSet) : Matrix := if i = 0 then { m with set0 := x } else { m with set1 := x }

/-- No MMA into a set is in flight. -/
def MxRun.quiet (r : MxRun) (set : Nat) : Bool := r.inflight.all (fun x => x.1 ≠ set)

/-- ZACC (05:R167). -/
def microZacc (s : Pkg) (n : Nat) : Pkg :=
  s.withMicro n 3 fun run w =>
    let m := (s.tile n).mx
    s.putRun n (m.putSet (moSet w) { live := true, kind := moKind w, el := [] }) { run with entry := run.entry + 1 }

/-- Local address of element (r, c) of an output tile (05:R165). -/
def accAddr (w base kind v r c : Nat) : Nat :=
  let s := accStride w kind v
  if moTrans w then base + c * s + r * v else base + r * s + c * v

/-- The elements of an output tile, row by row. -/
def tileIx (kind : Nat) : List (Nat × Nat) :=
  (List.range (kindRows kind)).flatMap (fun r => (List.range (kindCols kind)).map (fun c => (r, c)))

/-- LDACC: it waits for every MMA into its set (05:R167, R181). -/
def microLdacc (s : Pkg) (n : Nat) : Pkg :=
  s.withMicro n 4 fun run w =>
    let t := s.tile n
    let m := t.mx
    let kind := moKind w
    let v := fmtWidth (kindFmt kind) / 8
    let base := areg m.a (moRa w) + moOff w
    if !(run.quiet (moSet w)) then s
    else
      let el := (tileIx kind).foldl (fun e rc => Tab.set 0 e (rc.1 * kindCols kind + rc.2) (t.ocache.rd (accAddr w base kind v rc.1 rc.2) v)) []
      s.putRun n (m.putSet (moSet w) { live := true, kind := kind, el := el }) { run with entry := run.entry + 1 }

/-- Decoded line of a strip: line o, elements k0 to k0 + len − 1 of the run of panels from `base`, with their exact values
(05:R163, R164). -/
def stripLine (rd : Nat → Nat → List Byte) (c : Nat) (scaled : Bool) (base o k : Nat) : List FVal :=
  let P := panelP c scaled
  let L := panelL c
  ((List.range (ceilDiv k 64)).flatMap (fun i =>
    let codes := unpackN (fmtWidth c) 64 (leNat (rd (base + i * P + o * L) L))
    let e b := leNat (rd (base + i * P + 64 * L + 2 * o + b) 1)
    if scaled then (codes.take 32).map (decodeScaled c (e 0)) ++ (codes.drop 32).map (decodeScaled c (e 1))
    else codes.map (decodeFmt c))).take k

/-- A product as a term: an integer zero has no sign (02:R64). -/
def asTerm (int : Bool) (v : FVal) : FVal := if int && v.isZero then .fin false 0 0 else v

/-- Sum a row and a column into an accumulator code, group by group (05:R160, 02:R64). I8 products of a block are one
exact term, which the exact group sum makes the same as the sum of its products; `int` says that they are integers. -/
def accGroups (int : Bool) (kind g : Nat) : Nat → List FVal → List FVal → Nat → Flags → Nat × Flags
  | 0, _, _, acc, fl => (acc, fl)
  | n + 1, xs, ys, acc, fl =>
    let ps := ((xs.take g).zip (ys.take g)).map (fun p => fmulX p.1 p.2)
    let r := deliverSum {} (kindFmt kind) .rne (decodeFmt (kindFmt kind) acc :: ps.map (fun p => asTerm int p.1)) (ps.any (·.2))
    accGroups int kind g n (xs.drop g) (ys.drop g) r.raw (fl.or r.fl)

/-- Accumulate A × B into a set (05:R160, R168). -/
def mmaInto (rd : Nat → Nat → List Byte) (x : AccSet) (c : Nat) (scaled : Bool) (a b k : Nat) : AccSet × Flags :=
  let kind := x.kind
  let cols := (List.range (kindCols kind)).map (fun j => stripLine rd c scaled b j k)
  let g := groupK c
  (List.range (kindRows kind)).foldl
    (fun acc i =>
      let row := stripLine rd c scaled a i k
      (cols.zip (List.range cols.length)).foldl
        (fun acc cj =>
          let ix := i * kindCols kind + cj.2
          let (v, fl) := accGroups (decide (c = fpI8)) kind g (k / g) row cj.1 (Tab.get 0 acc.1.el ix) acc.2
          ({ acc.1 with el := Tab.set 0 acc.1.el ix v }, fl))
        acc)
    (x, {})

/-- MMA: it waits for MMAs of another kind in flight; its address registers move on with inc (05:R160, R168, R181). -/
def microMma (s : Pkg) (n : Nat) : Pkg :=
  s.withMicro n 5 fun run w =>
    let t := s.tile n
    let m := t.mx
    let kind := fmtKind (moFmt w)
    if run.inflight.any (fun x => x.2 ≠ kind) then s
    else
      let (x, fl) := mmaInto (fun a l => t.ocache.readN a l) (m.set (moSet w)) (moFmt w) (moScaled w)
        (areg m.a (moRa w) + moOff w) (areg m.a (moRb w) + moBoff w) (moK w)
      let k := walkStep { a := m.a, c := m.c, entry := run.entry } w
      let run :=
        { run with entry := k.entry, fl := run.fl.or fl, inflight := run.inflight ++ [(moSet w, kind)]
                   macs := run.macs + kindRows kind * kindCols kind * moK w }
      s.putRun n { m.putSet (moSet w) x with a := k.a } run

/-- The oldest MMA in flight completes (05:R181). -/
def mmaComplete (s : Pkg) (n : Nat) : Pkg :=
  let t := s.tile n
  match t.mx.run with
  | some run => if t.mode != .running then s else s.putRun n t.mx { run with inflight := run.inflight.drop 1 }
  | none => s

/-- STACC: it waits for every MMA into its set; its bytes go to the operand cache, or wait with a speculative run
(05:R167, R178, R181). -/
def microStacc (s : Pkg) (n : Nat) : Pkg :=
  s.withMicro n 6 fun run w =>
    let t := s.tile n
    let m := t.mx
    let x := m.set (moSet w)
    let c := moFmt w
    let v := fmtWidth c / 8
    let base := areg m.a (moRa w) + moOff w
    if !(run.quiet (moSet w)) then s
    else
      let res := (tileIx x.kind).map (fun rc =>
        (accAddr w base x.kind v rc.1 rc.2, deliver {} c .rne (decodeFmt (kindFmt x.kind) (Tab.get 0 x.el (rc.1 * kindCols x.kind + rc.2)))))
      let bs := res.flatMap (fun r => (List.range v).zip (natLe v r.2.raw) |>.map (fun b => (r.1 + b.1, b.2)))
      let fl := res.foldl (fun f r => f.or r.2.fl) run.fl
      let m := if moInc w then m.putSet (moSet w) { x with el := [] } else m
      let run := { run with entry := run.entry + 1, fl := fl }
      if run.spec then s.putRun n m { run with out := run.out ++ bs }
      else s.setTile n { t.wrEach bs with mx := { m with run := some run } }

/-- END: the run ends; a self-contained run clears both sets (05:R167, R177). -/
def microEnd (s : Pkg) (n : Nat) : Pkg :=
  s.withMicro n 8 fun run _ =>
    let m := (s.tile n).mx
    let m := if run.self then { m with set0 := {}, set1 := {} } else m
    s.putRun n m { run with ended := true }

/-- The run's ticket completes once END has executed and nothing is in flight (05:R178). -/
def runComplete (s : Pkg) (n : Nat) : Pkg :=
  let t := s.tile n
  match t.mx.run with
  | none => s
  | some run =>
    if t.mode != .running || !run.ended || !run.inflight.isEmpty then s
    else
      match t.ops.find? (fun o => o.ticket = run.ticket) with
      | none => s
      | some o =>
        let s := s.setTile n { t with mx := { t.mx with run := none } }
        s.finishOp n o { writes := run.out, fl := run.fl, van := run.macs }

/-- Issue of YK.MXRUN (04:R127, R132, 05:R175). -/
def mxrunIssue (s : Pkg) (n : Nat) : Pkg :=
  s.withInstr n fun w _ _ =>
    let t := s.tile n
    let a := (t.xr (rs1 w)).toNat
    if !(isEngineIssue w && decide (opc w = 0x0B) && decide (f3 w = 2) && decide (f7 w = 1)) then s
    else if t.waits (rs1 w) || (inData a 64 && t.descBusy a 64) then s
    else
      let o : EngOp := { kind := .mxrun }
      match t.descAt a 64 with
      | none => if t.mayIssue false then (s.issueBad n (rd w) 8 .mxrun).bump (0x3840 + (t.part - 1)) 4 1 else s
      | some d =>
        if !(t.mayIssue (bit (byteAt d 0) 0)) then s
        else if runBad d then s.issue n (rd w) { o with r1 := 8, r2 := byteAt d 1 }
        else s.issue n (rd w) { o with desc := d, reads := runReads d, writes := runWrites d }

/-- Issue of YK.MXPB (04:R127, 05:R171). -/
def mxpbIssue (s : Pkg) (n : Nat) : Pkg :=
  s.withInstr n fun w _ _ =>
    let t := s.tile n
    if !(isEngineIssue w && decide (opc w = 0x0B) && decide (f3 w = 2) && decide (f7 w = 0)) then s
    else if t.waits (rs1 w) || t.waits (rs2 w) || !(t.mayIssue false) then s
    else
      let a := (t.xr (rs1 w)).toNat
      let r2 := (t.xr (rs2 w)).toNat
      let count := bits r2 16 8 + 1
      let o : EngOp := { kind := .mxpb, r1 := a, r2 := r2 }
      s.issue n (rd w) (if inData a (16 * count) then { o with reads := [(a, 16 * count)] } else o)

/-- Completion of YK.MXPB: it waits for earlier swaps; checks; then the copy, or PB_ACTIVE_REJECT (05:R171, R173). -/
def mxpbComplete (s : Pkg) (n : Nat) (o : EngOp) : Pkg :=
  let t := s.tile n
  let first := bits o.r2 7 0
  let count := bits o.r2 16 8 + 1
  let bank := bits o.r2 17 17
  if (opsBefore t.ops o.ticket).any (fun x => x.kind == .mxswap) then s
  else if o.r1 % 16 ≠ 0 || !(inData o.r1 (16 * count)) || 256 < first + count then
    s.finishOp n o { status := 5, detail := 9 + first * 256 }
  else if bank = t.mx.active then (s.bump (0x3840 + (t.part - 1)) 5 1).finishOp n o { status := 6 }
  else
    let pb := (List.range count).foldl
      (fun pb i => Tab.insert pb (bank * 256 + first + i) (leNat (t.rd (o.r1 + 16 * i) 16))) t.mx.pbuf
    (s.setTile n { t with mx := { t.mx with pbuf := pb } }).finishOp n o {}

/-- Issue of YK.MXSWAP (04:R127). -/
def mxswapIssue (s : Pkg) (n : Nat) : Pkg :=
  s.withInstr n fun w _ _ =>
    let t := s.tile n
    if isEngineIssue w && decide (opc w = 0x0B) && decide (f3 w = 2) && decide (f7 w = 2) && t.mayIssue false then
      s.issue n (rd w) { kind := .mxswap }
    else s

/-- The bank swap: every earlier run has executed its END and every earlier copy has completed (05:R172 to R174). -/
def bankSwap (s : Pkg) (n : Nat) : Pkg :=
  let t := s.tile n
  match t.ops.find? (fun o => o.kind == .mxswap) with
  | none => s
  | some o =>
    let before := opsBefore t.ops o.ticket
    let runEnded (x : EngOp) : Bool := match t.mx.run with
      | some r => decide (r.ticket = x.ticket) && r.ended && r.inflight.isEmpty
      | none => false
    if t.mode != .running || before.any (fun x => x.kind == .mxpb || (x.kind == .mxrun && !(runEnded x))) then s
    else (s.setTile n { t with mx := { t.mx with active := 1 - t.mx.active } }).finishOp n o {}

end Sys2Proof

namespace Sys2Proof.Machine

open Sys2Proof

/-- ENGINE_OP_COMPLETE (04:R133). -/
def execEngineOpComplete (t ticket : Nat) (s : State) : Res :=
  onTile t s (fun k => engineComplete k t ticket (mxpbComplete k t))
/-- YK_MXPB (05:R171). -/
def execYkMxpb (t : Nat) (s : State) : Res := onTile t s (fun k => mxpbIssue k t)
/-- YK_MXRUN (05:R175). -/
def execYkMxrun (t : Nat) (s : State) : Res := onTile t s (fun k => mxrunIssue k t)
/-- MATRIX_RUN_START (05:R176). -/
def execMatrixRunStart (t : Nat) (s : State) : Res := onTile t s (fun k => runStart k t)
/-- NOP (05:R167). -/
def execMNop (t : Nat) (s : State) : Res := onTile t s (fun k => microFlow k t 0)
/-- SETR (05:R167). -/
def execMSetr (t : Nat) (s : State) : Res := onTile t s (fun k => microFlow k t 1)
/-- ADDR (05:R167). -/
def execMAddr (t : Nat) (s : State) : Res := onTile t s (fun k => microFlow k t 2)
/-- ZACC (05:R167). -/
def execMZacc (t : Nat) (s : State) : Res := onTile t s (fun k => microZacc k t)
/-- LDACC (05:R167). -/
def execMLdacc (t : Nat) (s : State) : Res := onTile t s (fun k => microLdacc k t)
/-- MMA (05:R168). -/
def execMMma (t : Nat) (s : State) : Res := onTile t s (fun k => microMma k t)
/-- MMA_COMPLETE (05:R181). -/
def execMMmaComplete (t : Nat) (s : State) : Res := onTile t s (fun k => mmaComplete k t)
/-- STACC (05:R167). -/
def execMStacc (t : Nat) (s : State) : Res := onTile t s (fun k => microStacc k t)
/-- LOOP (05:R167). -/
def execMLoop (t : Nat) (s : State) : Res := onTile t s (fun k => microFlow k t 7)
/-- END (05:R167). -/
def execMEnd (t : Nat) (s : State) : Res := onTile t s (fun k => microEnd k t)
/-- MATRIX_RUN_COMPLETE (05:R178). -/
def execMatrixRunComplete (t : Nat) (s : State) : Res := onTile t s (fun k => runComplete k t)
/-- YK_MXSWAP (05:R172). -/
def execYkMxswap (t : Nat) (s : State) : Res := onTile t s (fun k => mxswapIssue k t)
/-- BANK_SWAP (05:R172). -/
def execBankSwap (t : Nat) (s : State) : Res := onTile t s (fun k => bankSwap k t)

end Sys2Proof.Machine
end

