-- ==== Sys2Proof/Machine/Dispatch.lean ====
section
/-!
DEFINITION. One arm per command: its meaning, by its own name.
-/

namespace Sys2Proof.Machine

def exec (i : Instr) (s : State) : Host.Outcome State Fault Refusal :=
  match i with
  | .coldStart o => Sys2Proof.Machine.execColdStart o s
  | .bootEpochTimeout => Sys2Proof.Machine.execBootEpochTimeout s
  | .cdcFifoRelease => Sys2Proof.Machine.execCdcFifoRelease s
  | .resetNAssert ns => Sys2Proof.Machine.execResetNAssert ns s
  | .vauxFail => Sys2Proof.Machine.execVauxFail s
  | .refclkLoss ns => Sys2Proof.Machine.execRefclkLoss ns s
  | .rootAnnounceTimer => Sys2Proof.Machine.execRootAnnounceTimer s
  | .rootAnnounce n => Sys2Proof.Machine.execRootAnnounce n s
  | .rootTakeover => Sys2Proof.Machine.execRootTakeover s
  | .standaloneRoot => Sys2Proof.Machine.execStandaloneRoot s
  | .syncExchangeTimer => Sys2Proof.Machine.execSyncExchangeTimer s
  | .syncReq n => Sys2Proof.Machine.execSyncReq n s
  | .syncRsp n rFwd => Sys2Proof.Machine.execSyncRsp n rFwd s
  | .tempoHoldover => Sys2Proof.Machine.execTempoHoldover s
  | .tempoDegraded => Sys2Proof.Machine.execTempoDegraded s
  | .ptpSync x => Sys2Proof.Machine.execPtpSync x s
  | .ptpUnsynced => Sys2Proof.Machine.execPtpUnsynced s
  | .tickFire p => Sys2Proof.Machine.execTickFire p s
  | .recordRingRoom p off data => Sys2Proof.Machine.execRecordRingRoom p off data s
  | .frameStart p => Sys2Proof.Machine.execFrameStart p s
  | .tickReport p idx => Sys2Proof.Machine.execTickReport p idx s
  | .tickReportStalled p => Sys2Proof.Machine.execTickReportStalled p s
  | .launchReportStalled p => Sys2Proof.Machine.execLaunchReportStalled p s
  | .rampSlot t => Sys2Proof.Machine.execRampSlot t s
  | .tileInstruction t => Sys2Proof.Machine.execTileInstruction t s
  | .tileCsrAccess t => Sys2Proof.Machine.execTileCsrAccess t s
  | .fence t => Sys2Proof.Machine.execFence t s
  | .wfi t => Sys2Proof.Machine.execWfi t s
  | .fenceI t => Sys2Proof.Machine.execFenceI t s
  | .ecall t => Sys2Proof.Machine.execEcall t s
  | .ebreak t => Sys2Proof.Machine.execEbreak t s
  | .mret t => Sys2Proof.Machine.execMret t s
  | .speculationRegionOpen t => Sys2Proof.Machine.execSpeculationRegionOpen t s
  | .branchResolve t => Sys2Proof.Machine.execBranchResolve t s
  | .moveDstoreToLocal t => Sys2Proof.Machine.execMoveDstoreToLocal t s
  | .moveLocalToDstore t => Sys2Proof.Machine.execMoveLocalToDstore t s
  | .moveAccumulateInto t => Sys2Proof.Machine.execMoveAccumulateInto t s
  | .moveTierToDstore t => Sys2Proof.Machine.execMoveTierToDstore t s
  | .moveLocalToRemote t => Sys2Proof.Machine.execMoveLocalToRemote t s
  | .moveRemoteToLocal t => Sys2Proof.Machine.execMoveRemoteToLocal t s
  | .moveLocalToLocal t => Sys2Proof.Machine.execMoveLocalToLocal t s
  | .engineOpComplete t ticket => Sys2Proof.Machine.execEngineOpComplete t ticket s
  | .vadd t => Sys2Proof.Machine.execVadd t s
  | .vsub t => Sys2Proof.Machine.execVsub t s
  | .vmul t => Sys2Proof.Machine.execVmul t s
  | .vfma t => Sys2Proof.Machine.execVfma t s
  | .vfnma t => Sys2Proof.Machine.execVfnma t s
  | .vmin t => Sys2Proof.Machine.execVmin t s
  | .vmax t => Sys2Proof.Machine.execVmax t s
  | .vabs t => Sys2Proof.Machine.execVabs t s
  | .vneg t => Sys2Proof.Machine.execVneg t s
  | .vsqrt t => Sys2Proof.Machine.execVsqrt t s
  | .vrecip t => Sys2Proof.Machine.execVrecip t s
  | .vrsqrt t => Sys2Proof.Machine.execVrsqrt t s
  | .vexp t => Sys2Proof.Machine.execVexp t s
  | .vtanh t => Sys2Proof.Machine.execVtanh t s
  | .vsegsum t => Sys2Proof.Machine.execVsegsum t s
  | .vsegmax t => Sys2Proof.Machine.execVsegmax t s
  | .vcvt t => Sys2Proof.Machine.execVcvt t s
  | .vfill t => Sys2Proof.Machine.execVfill t s
  | .vscan t => Sys2Proof.Machine.execVscan t s
  | .vectorOpComplete t => Sys2Proof.Machine.execVectorOpComplete t s
  | .ykMxpb t => Sys2Proof.Machine.execYkMxpb t s
  | .ykMxrun t => Sys2Proof.Machine.execYkMxrun t s
  | .matrixRunStart t => Sys2Proof.Machine.execMatrixRunStart t s
  | .mNop t => Sys2Proof.Machine.execMNop t s
  | .mSetr t => Sys2Proof.Machine.execMSetr t s
  | .mAddr t => Sys2Proof.Machine.execMAddr t s
  | .mZacc t => Sys2Proof.Machine.execMZacc t s
  | .mLdacc t => Sys2Proof.Machine.execMLdacc t s
  | .mMma t => Sys2Proof.Machine.execMMma t s
  | .mMmaComplete t => Sys2Proof.Machine.execMMmaComplete t s
  | .mStacc t => Sys2Proof.Machine.execMStacc t s
  | .mLoop t => Sys2Proof.Machine.execMLoop t s
  | .mEnd t => Sys2Proof.Machine.execMEnd t s
  | .matrixRunComplete t => Sys2Proof.Machine.execMatrixRunComplete t s
  | .ykMxswap t => Sys2Proof.Machine.execYkMxswap t s
  | .bankSwap t => Sys2Proof.Machine.execBankSwap t s
  | .ykSolve t => Sys2Proof.Machine.execYkSolve t s
  | .ykColl t => Sys2Proof.Machine.execYkColl t s
  | .ykEload t => Sys2Proof.Machine.execYkEload t s
  | .ykWait t => Sys2Proof.Machine.execYkWait t s
  | .ykWaitall t => Sys2Proof.Machine.execYkWaitall t s
  | .ykPly t => Sys2Proof.Machine.execYkPly t s
  | .ykFend t => Sys2Proof.Machine.execYkFend t s
  | .ykRelw t => Sys2Proof.Machine.execYkRelw t s
  | .ykWaitw t => Sys2Proof.Machine.execYkWaitw t s
  | .waitwWake t => Sys2Proof.Machine.execWaitwWake t s
  | .waitwTimeout t => Sys2Proof.Machine.execWaitwTimeout t s
  | .plyCommit t => Sys2Proof.Machine.execPlyCommit t s
  | .plyWatchdog t => Sys2Proof.Machine.execPlyWatchdog t s
  | .replay t => Sys2Proof.Machine.execReplay t s
  | .ocacheScrub t line meets => Sys2Proof.Machine.execOcacheScrub t line meets s
  | .ocacheUncorrectable t => Sys2Proof.Machine.execOcacheUncorrectable t s
  | .solverBatchStart e => Sys2Proof.Machine.execSolverBatchStart e s
  | .solverProblemStart e => Sys2Proof.Machine.execSolverProblemStart e s
  | .solverProblemComplete e => Sys2Proof.Machine.execSolverProblemComplete e s
  | .solverBatchComplete e => Sys2Proof.Machine.execSolverBatchComplete e s
  | .solverStepRepeat e lane => Sys2Proof.Machine.execSolverStepRepeat e lane s
  | .solverProblemRestart e => Sys2Proof.Machine.execSolverProblemRestart e s
  | .solverEngineRemap e => Sys2Proof.Machine.execSolverEngineRemap e s
  | .hartInstruction h => Sys2Proof.Machine.execHartInstruction h s
  | .threadSwitch c => Sys2Proof.Machine.execThreadSwitch c s
  | .hartAccessComplete h => Sys2Proof.Machine.execHartAccessComplete h s
  | .ykvSaduVv h => Sys2Proof.Machine.execYkvSaduVv h s
  | .ykvSadsVv h => Sys2Proof.Machine.execYkvSadsVv h s
  | .ykvSaduVx h => Sys2Proof.Machine.execYkvSaduVx h s
  | .ykvSadsVx h => Sys2Proof.Machine.execYkvSadsVx h s
  | .ykvSumm h => Sys2Proof.Machine.execYkvSumm h s
  | .ykvSumh h => Sys2Proof.Machine.execYkvSumh h s
  | .ykHply h => Sys2Proof.Machine.execYkHply h s
  | .hartPlyCap h => Sys2Proof.Machine.execHartPlyCap h s
  | .hartPlyCommit h => Sys2Proof.Machine.execHartPlyCommit h s
  | .amoadd h => Sys2Proof.Machine.execAmoadd h s
  | .amoand h => Sys2Proof.Machine.execAmoand h s
  | .amoor h => Sys2Proof.Machine.execAmoor h s
  | .amoxor h => Sys2Proof.Machine.execAmoxor h s
  | .amomin h => Sys2Proof.Machine.execAmomin h s
  | .amomax h => Sys2Proof.Machine.execAmomax h s
  | .amominu h => Sys2Proof.Machine.execAmominu h s
  | .amomaxu h => Sys2Proof.Machine.execAmomaxu h s
  | .amoswap h => Sys2Proof.Machine.execAmoswap h s
  | .amocasW h => Sys2Proof.Machine.execAmocasW h s
  | .amocasD h => Sys2Proof.Machine.execAmocasD h s
  | .amocasQ h => Sys2Proof.Machine.execAmocasQ h s
  | .lr h => Sys2Proof.Machine.execLr h s
  | .sc h => Sys2Proof.Machine.execSc h s
  | .lrReservationTimeout h => Sys2Proof.Machine.execLrReservationTimeout h s
  | .hartTimerInterrupt h => Sys2Proof.Machine.execHartTimerInterrupt h s
  | .scacheInvalidation line => Sys2Proof.Machine.execScacheInvalidation line s
  | .scacheEccError slice set way kind => Sys2Proof.Machine.execScacheEccError slice set way kind s
  | .coreFailure c => Sys2Proof.Machine.execCoreFailure c s
  | .sbiBase h => Sys2Proof.Machine.execSbiBase h s
  | .sbiSetTimer h => Sys2Proof.Machine.execSbiSetTimer h s
  | .sbiSendIpi h => Sys2Proof.Machine.execSbiSendIpi h s
  | .sbiRemoteFence h => Sys2Proof.Machine.execSbiRemoteFence h s
  | .sbiHartGetStatus h => Sys2Proof.Machine.execSbiHartGetStatus h s
  | .sbiHartSuspend h => Sys2Proof.Machine.execSbiHartSuspend h s
  | .sbiHartStartStop h => Sys2Proof.Machine.execSbiHartStartStop h s
  | .sbiSystemReset h => Sys2Proof.Machine.execSbiSystemReset h s
  | .sbiFabricError h => Sys2Proof.Machine.execSbiFabricError h s
  | .sbiMemberRank h => Sys2Proof.Machine.execSbiMemberRank h s
  | .sbiHartIndex h => Sys2Proof.Machine.execSbiHartIndex h s
  | .dstoreWriteApply die n => Sys2Proof.Machine.execDstoreWriteApply die n s
  | .dstorePatrolScrub die found => Sys2Proof.Machine.execDstorePatrolScrub die found s
  | .dstoreBankFail die bank => Sys2Proof.Machine.execDstoreBankFail die bank s
  | .dstoreBankRebuildDone die bank => Sys2Proof.Machine.execDstoreBankRebuildDone die bank s
  | .dstoreClearDone die => Sys2Proof.Machine.execDstoreClearDone die s
  | .regionCloseDone r => Sys2Proof.Machine.execRegionCloseDone r s
  | .tierPacketLanded job => Sys2Proof.Machine.execTierPacketLanded job s
  | .hartTierLoad h => Sys2Proof.Machine.execHartTierLoad h s
  | .lenpelRebuildDone q => Sys2Proof.Machine.execLenpelRebuildDone q s
  | .lenpelPresenceAssert q => Sys2Proof.Machine.execLenpelPresenceAssert q s
  | .lenpelDetectTimer q => Sys2Proof.Machine.execLenpelDetectTimer q s
  | .lenpelTrainDone q => Sys2Proof.Machine.execLenpelTrainDone q s
  | .lenpelTrainTimeout q => Sys2Proof.Machine.execLenpelTrainTimeout q s
  | .lenpelAlignDone q rtt => Sys2Proof.Machine.execLenpelAlignDone q rtt s
  | .lenpelAlignTimeout q => Sys2Proof.Machine.execLenpelAlignTimeout q s
  | .discovery q f => Sys2Proof.Machine.execDiscovery q f s
  | .readData q f => Sys2Proof.Machine.execReadData q f s
  | .writeAck q f => Sys2Proof.Machine.execWriteAck q f s
  | .lenpelNak q f => Sys2Proof.Machine.execLenpelNak q f s
  | .lenpelIdle q f => Sys2Proof.Machine.execLenpelIdle q f s
  | .lenpelRetrainTimeout q => Sys2Proof.Machine.execLenpelRetrainTimeout q s
  | .lenpelPresenceLost q => Sys2Proof.Machine.execLenpelPresenceLost q s
  | .lenpelReadLost q tag => Sys2Proof.Machine.execLenpelReadLost q tag s
  | .lenpelWriteAckTimeout q tag => Sys2Proof.Machine.execLenpelWriteAckTimeout q tag s
  | .lenpelEnableWrite q w => Sys2Proof.Machine.execLenpelEnableWrite q w s
  | .atnikSignalDetect n => Sys2Proof.Machine.execAtnikSignalDetect n s
  | .atnikTrainDone n bad => Sys2Proof.Machine.execAtnikTrainDone n bad s
  | .atnikTrainTimeout n => Sys2Proof.Machine.execAtnikTrainTimeout n s
  | .trainId n record => Sys2Proof.Machine.execTrainId n record s
  | .atnikIdentifyTimeout n => Sys2Proof.Machine.execAtnikIdentifyTimeout n s
  | .atnikLoss n => Sys2Proof.Machine.execAtnikLoss n s
  | .atnikRetrainTimeout n => Sys2Proof.Machine.execAtnikRetrainTimeout n s
  | .returnWindowExpiry n => Sys2Proof.Machine.execReturnWindowExpiry n s
  | .atnikLaneFail n lane => Sys2Proof.Machine.execAtnikLaneFail n lane s
  | .atnikEnableWrite n w => Sys2Proof.Machine.execAtnikEnableWrite n w s
  | .atnikDataEnvelope n link body => Sys2Proof.Machine.execAtnikDataEnvelope n link body s
  | .atnikNak n link => Sys2Proof.Machine.execAtnikNak n link s
  | .atnikIdle n link => Sys2Proof.Machine.execAtnikIdle n link s
  | .rd n => Sys2Proof.Machine.execRd n s
  | .wr n => Sys2Proof.Machine.execWr n s
  | .rdBulk n => Sys2Proof.Machine.execRdBulk n s
  | .wrBulk n => Sys2Proof.Machine.execWrBulk n s
  | .atomic n => Sys2Proof.Machine.execAtomic n s
  | .rsp n => Sys2Proof.Machine.execRsp n s
  | .ack n => Sys2Proof.Machine.execAck n s
  | .retry n => Sys2Proof.Machine.execRetry n s
  | .onceRelease n => Sys2Proof.Machine.execOnceRelease n s
  | .onceEntryExpiry f => Sys2Proof.Machine.execOnceEntryExpiry f s
  | .e2eRetryTimer r => Sys2Proof.Machine.execE2eRetryTimer r s
  | .contextIdleTimer node => Sys2Proof.Machine.execContextIdleTimer node s
  | .close n => Sys2Proof.Machine.execClose n s
  | .linkNotice n => Sys2Proof.Machine.execLinkNotice n s
  | .cancel msg => Sys2Proof.Machine.execCancel msg s
  | .linkRekey n secret => Sys2Proof.Machine.execLinkRekey n secret s
  | .linkSessionSetup n secret identity => Sys2Proof.Machine.execLinkSessionSetup n secret identity s
  | .collAdmit p => Sys2Proof.Machine.execCollAdmit p s
  | .windowSlotGrant p f => Sys2Proof.Machine.execWindowSlotGrant p f s
  | .grant n => Sys2Proof.Machine.execGrant n s
  | .hdrUp n => Sys2Proof.Machine.execHdrUp n s
  | .hdrDown n => Sys2Proof.Machine.execHdrDown n s
  | .expUp n => Sys2Proof.Machine.execExpUp n s
  | .expDown n => Sys2Proof.Machine.execExpDown n s
  | .dataUp n => Sys2Proof.Machine.execDataUp n s
  | .dataDown n => Sys2Proof.Machine.execDataDown n s
  | .resend n => Sys2Proof.Machine.execResend n s
  | .abort n => Sys2Proof.Machine.execAbort n s
  | .collStalemate p seq => Sys2Proof.Machine.execCollStalemate p seq s
  | .reductionEccError p seq chunk corrected => Sys2Proof.Machine.execReductionEccError p seq chunk corrected s
  | .siteHeartbeatTimeout t => Sys2Proof.Machine.execSiteHeartbeatTimeout t s
  | .tileCoreChecker t => Sys2Proof.Machine.execTileCoreChecker t s
  | .matrixResidueMismatch t lane => Sys2Proof.Machine.execMatrixResidueMismatch t lane s
  | .vectorResidueMismatch t lane => Sys2Proof.Machine.execVectorResidueMismatch t lane s
  | .castlingCommit t => Sys2Proof.Machine.execCastlingCommit t s
  | .coreChecker c => Sys2Proof.Machine.execCoreChecker c s
  | .meshLaneFail a b => Sys2Proof.Machine.execMeshLaneFail a b s
  | .thermalSensorCheck d => Sys2Proof.Machine.execThermalSensorCheck d s
  | .faultMapCommit => Sys2Proof.Machine.execFaultMapCommit s
  | .guaranteeYielded p => Sys2Proof.Machine.execGuaranteeYielded p s
  | .cmdqTailWrite k p tail read => Sys2Proof.Machine.execCmdqTailWrite k p tail read s
  | .cplqHeadWrite k p head => Sys2Proof.Machine.execCplqHeadWrite k p head s
  | .queueCfgWrite k p off v => Sys2Proof.Machine.execQueueCfgWrite k p off v s
  | .inputDbWrite k p w v => Sys2Proof.Machine.execInputDbWrite k p w v s
  | .completionPost p => Sys2Proof.Machine.execCompletionPost p s
  | .loadBegin p => Sys2Proof.Machine.execLoadBegin p s
  | .dstoreWrite p data => Sys2Proof.Machine.execDstoreWrite p data s
  | .dstoreRead p => Sys2Proof.Machine.execDstoreRead p s
  | .loadCommit p => Sys2Proof.Machine.execLoadCommit p s
  | .launch p rec_ => Sys2Proof.Machine.execLaunch p rec_ s
  | .stage p => Sys2Proof.Machine.execStage p s
  | .inputWrite p data => Sys2Proof.Machine.execInputWrite p data s
  | .regionCreate p => Sys2Proof.Machine.execRegionCreate p s
  | .regionSeal p => Sys2Proof.Machine.execRegionSeal p s
  | .regionUnseal p => Sys2Proof.Machine.execRegionUnseal p s
  | .regionDestroy p => Sys2Proof.Machine.execRegionDestroy p s
  | .regionPin p => Sys2Proof.Machine.execRegionPin p s
  | .packetWrite p data => Sys2Proof.Machine.execPacketWrite p data s
  | .packetRead p => Sys2Proof.Machine.execPacketRead p s
  | .preempt p => Sys2Proof.Machine.execPreempt p s
  | .restore p list => Sys2Proof.Machine.execRestore p list s
  | .rollback p => Sys2Proof.Machine.execRollback p s
  | .resume p => Sys2Proof.Machine.execResume p s
  | .unload p => Sys2Proof.Machine.execUnload p s
  | .cutReportContribute p => Sys2Proof.Machine.execCutReportContribute p s
  | .cutReport p n => Sys2Proof.Machine.execCutReport p n s
  | .checkpointDone p => Sys2Proof.Machine.execCheckpointDone p s
  | .captureLimitTimeout p => Sys2Proof.Machine.execCaptureLimitTimeout p s
  | .checkpointLate p => Sys2Proof.Machine.execCheckpointLate p s
  | .vinSample mv ma auxMw => Sys2Proof.Machine.execVinSample mv ma auxMw s
  | .fastLoopSample mas => Sys2Proof.Machine.execFastLoopSample mas s
  | .powerCapLoop debt => Sys2Proof.Machine.execPowerCapLoop debt s
  | .frequencyStep t => Sys2Proof.Machine.execFrequencyStep t s
  | .brakeAsserted => Sys2Proof.Machine.execBrakeAsserted s
  | .brakeReleased => Sys2Proof.Machine.execBrakeReleased s
  | .droopDetect die det => Sys2Proof.Machine.execDroopDetect die det s
  | .droopRelease die det => Sys2Proof.Machine.execDroopRelease die det s
  | .thermalSample die codes => Sys2Proof.Machine.execThermalSample die codes s
  | .thermalStep die => Sys2Proof.Machine.execThermalStep die s
  | .regulatorPhaseLost reg => Sys2Proof.Machine.execRegulatorPhaseLost reg s
  | .dictionaryCycle => Sys2Proof.Machine.execDictionaryCycle s
  | .read d => Sys2Proof.Machine.execRead d s
  | .write d => Sys2Proof.Machine.execWrite d s
  | .dictEntryWrite sess idx sub val => Sys2Proof.Machine.execDictEntryWrite sess idx sub val s
  | .claim d => Sys2Proof.Machine.execClaim d s
  | .renew d => Sys2Proof.Machine.execRenew d s
  | .handover d => Sys2Proof.Machine.execHandover d s
  | .release d => Sys2Proof.Machine.execRelease d s
  | .subscribe d => Sys2Proof.Machine.execSubscribe d s
  | .ownerLeaseExpired => Sys2Proof.Machine.execOwnerLeaseExpired s
  | .sessionTimeout sess => Sys2Proof.Machine.execSessionTimeout sess s
  | .blobFragmentTimeout sess => Sys2Proof.Machine.execBlobFragmentTimeout sess s
  | .telemetry sess => Sys2Proof.Machine.execTelemetry sess s
  | .savedEntryCommit => Sys2Proof.Machine.execSavedEntryCommit s
  | .persistCommit sess v => Sys2Proof.Machine.execPersistCommit sess v s
  | .persistDefaults sess v => Sys2Proof.Machine.execPersistDefaults sess v s
  | .ownExpertGrant sess target => Sys2Proof.Machine.execOwnExpertGrant sess target s
  | .ownExpertRevoke sess target => Sys2Proof.Machine.execOwnExpertRevoke sess target s
  | .ownDelegate sess p target => Sys2Proof.Machine.execOwnDelegate sess p target s
  | .mgmtAlertClear sess v => Sys2Proof.Machine.execMgmtAlertClear sess v s
  | .powerCapWWrite sess w => Sys2Proof.Machine.execPowerCapWWrite sess w s
  | .tierFloorExtentsWrite sess p v => Sys2Proof.Machine.execTierFloorExtentsWrite sess p v s
  | .partitionPortWrite sess mask => Sys2Proof.Machine.execPartitionPortWrite sess mask s
  | .mbGo k ctrl len req => Sys2Proof.Machine.execMbGo k ctrl len req s
  | .mbStatusClear k v => Sys2Proof.Machine.execMbStatusClear k v s
  | .evtPop k => Sys2Proof.Machine.execEvtPop k s
  | .i3cPrivateWrite msg => Sys2Proof.Machine.execI3cPrivateWrite msg s
  | .i3cPrivateRead => Sys2Proof.Machine.execI3cPrivateRead s
  | .entdaa addr => Sys2Proof.Machine.execEntdaa addr s
  | .setdasa static addr => Sys2Proof.Machine.execSetdasa static addr s
  | .rstdaa => Sys2Proof.Machine.execRstdaa s
  | .enec ev => Sys2Proof.Machine.execEnec ev s
  | .disec ev => Sys2Proof.Machine.execDisec ev s
  | .setmwl v => Sys2Proof.Machine.execSetmwl v s
  | .setmrl v => Sys2Proof.Machine.execSetmrl v s
  | .getmwl => Sys2Proof.Machine.execGetmwl s
  | .getmrl => Sys2Proof.Machine.execGetmrl s
  | .getpid => Sys2Proof.Machine.execGetpid s
  | .getbcr => Sys2Proof.Machine.execGetbcr s
  | .getdcr => Sys2Proof.Machine.execGetdcr s
  | .getstatus => Sys2Proof.Machine.execGetstatus s
  | .rstact v => Sys2Proof.Machine.execRstact v s
  | .neighborDiscovery frame => Sys2Proof.Machine.execNeighborDiscovery frame s
  | .icmpv6Echo frame => Sys2Proof.Machine.execIcmpv6Echo frame s
  | .serviceRequest kind a b data => Sys2Proof.Machine.execServiceRequest kind a b data s
  | .serviceHeartbeatTimeout => Sys2Proof.Machine.execServiceHeartbeatTimeout s
  | .holdupEstimate mv ma => Sys2Proof.Machine.execHoldupEstimate mv ma s
  | .holdupDeferred => Sys2Proof.Machine.execHoldupDeferred s
  | .n0Commit => Sys2Proof.Machine.execN0Commit s
  | .fwUpdateSlot sess v => Sys2Proof.Machine.execFwUpdateSlot sess v s
  | .fwUpdateOffset sess v => Sys2Proof.Machine.execFwUpdateOffset sess v s
  | .fwUpdateChunk sess data => Sys2Proof.Machine.execFwUpdateChunk sess data s
  | .fwUpdateCommit sess v => Sys2Proof.Machine.execFwUpdateCommit sess v s
  | .secUnlock sess record => Sys2Proof.Machine.execSecUnlock sess record s
  | .getCertificate ch slot off len => Sys2Proof.Machine.execGetCertificate ch slot off len s
  | .challenge ch slot nonce => Sys2Proof.Machine.execChallenge ch slot nonce s
  | .getMeasurements ch idx sign nonce => Sys2Proof.Machine.execGetMeasurements ch idx sign nonce s
  | .keyExchange ch sid leaf ca mutual_ kx => Sys2Proof.Machine.execKeyExchange ch sid leaf ca mutual_ kx s
  | .keyUpdate sid => Sys2Proof.Machine.execKeyUpdate sid s
  | .heartbeat sid => Sys2Proof.Machine.execHeartbeat sid s
  | .perstN k low => Sys2Proof.Machine.execPerstN k low s
  | .pcieHotReset k cause => Sys2Proof.Machine.execPcieHotReset k cause s
  | .pcieFlr k fn => Sys2Proof.Machine.execPcieFlr k fn s
  | .pcieConfigRequest k off vfs => Sys2Proof.Machine.execPcieConfigRequest k off vfs s
  | .extest cells dc ac => Sys2Proof.Machine.execExtest cells dc ac s
  | .sample dc ac => Sys2Proof.Machine.execSample dc ac s
  | .preload cells => Sys2Proof.Machine.execPreload cells s
  | .idcode => Sys2Proof.Machine.execIdcode s
  | .clamp => Sys2Proof.Machine.execClamp s
  | .highz => Sys2Proof.Machine.execHighz s
  | .extestPulse cells dc ac => Sys2Proof.Machine.execExtestPulse cells dc ac s
  | .extestTrain cells dc ac => Sys2Proof.Machine.execExtestTrain cells dc ac s
  | .bypass => Sys2Proof.Machine.execBypass s
  | .pcieLinkUp k rate width flit => Sys2Proof.Machine.execPcieLinkUp k rate width flit s
  | .dieFailure d => Sys2Proof.Machine.execDieFailure d s
  | .serviceRestarted => Sys2Proof.Machine.execServiceRestarted s
  | .n0CommitComplete => Sys2Proof.Machine.execN0CommitComplete s
  | .endSession sid => Sys2Proof.Machine.execEndSession sid s
  | .trstN => Sys2Proof.Machine.execTrstN s

end Sys2Proof.Machine
end

