-- ==== Sys2Proof/WellFormed.lean ====
section
/-!
DEFINITION. Which commands name existing units: tiles 0–6,143, partitions 0–15, Atnik ports 0–23, Lenpel ports 0–47, harts 0–1,535, solver
engines 0–767, cores 0–191, C-dies 0–47, die codes 0–67 and the edges of the mesh between them, PCIe ports 0–1 (01:R34, R45, 07:R206, 08:R231).
-/

namespace Sys2Proof

/-- Every unit that a command names exists. -/
def Instr.wf (c : Instr) : Bool :=
  match c with
  | .coldStart _ => true
  | .bootEpochTimeout => true
  | .cdcFifoRelease => true
  | .resetNAssert _ => true
  | .vauxFail => true
  | .refclkLoss _ => true
  | .rootAnnounceTimer => true
  | .rootAnnounce n => decide (n < 24)
  | .rootTakeover => true
  | .standaloneRoot => true
  | .syncExchangeTimer => true
  | .syncReq n => decide (n < 24)
  | .syncRsp n _ => decide (n < 24)
  | .tempoHoldover => true
  | .tempoDegraded => true
  | .ptpSync _ => true
  | .ptpUnsynced => true
  | .tickFire p => decide (p < 16)
  | .recordRingRoom p _ _ => decide (p < 16)
  | .frameStart p => decide (p < 16)
  | .tickReport p _ => decide (p < 16)
  | .tickReportStalled p => decide (p < 16)
  | .launchReportStalled p => decide (p < 16)
  | .rampSlot t => decide (t < 6144)
  | .tileInstruction t => decide (t < 6144)
  | .tileCsrAccess t => decide (t < 6144)
  | .fence t => decide (t < 6144)
  | .wfi t => decide (t < 6144)
  | .fenceI t => decide (t < 6144)
  | .ecall t => decide (t < 6144)
  | .ebreak t => decide (t < 6144)
  | .mret t => decide (t < 6144)
  | .speculationRegionOpen t => decide (t < 6144)
  | .branchResolve t => decide (t < 6144)
  | .moveDstoreToLocal t => decide (t < 6144)
  | .moveLocalToDstore t => decide (t < 6144)
  | .moveAccumulateInto t => decide (t < 6144)
  | .moveTierToDstore t => decide (t < 6144)
  | .moveLocalToRemote t => decide (t < 6144)
  | .moveRemoteToLocal t => decide (t < 6144)
  | .moveLocalToLocal t => decide (t < 6144)
  | .engineOpComplete t _ => decide (t < 6144)
  | .vadd t => decide (t < 6144)
  | .vsub t => decide (t < 6144)
  | .vmul t => decide (t < 6144)
  | .vfma t => decide (t < 6144)
  | .vfnma t => decide (t < 6144)
  | .vmin t => decide (t < 6144)
  | .vmax t => decide (t < 6144)
  | .vabs t => decide (t < 6144)
  | .vneg t => decide (t < 6144)
  | .vsqrt t => decide (t < 6144)
  | .vrecip t => decide (t < 6144)
  | .vrsqrt t => decide (t < 6144)
  | .vexp t => decide (t < 6144)
  | .vtanh t => decide (t < 6144)
  | .vsegsum t => decide (t < 6144)
  | .vsegmax t => decide (t < 6144)
  | .vcvt t => decide (t < 6144)
  | .vfill t => decide (t < 6144)
  | .vscan t => decide (t < 6144)
  | .vectorOpComplete t => decide (t < 6144)
  | .ykMxpb t => decide (t < 6144)
  | .ykMxrun t => decide (t < 6144)
  | .matrixRunStart t => decide (t < 6144)
  | .mNop t => decide (t < 6144)
  | .mSetr t => decide (t < 6144)
  | .mAddr t => decide (t < 6144)
  | .mZacc t => decide (t < 6144)
  | .mLdacc t => decide (t < 6144)
  | .mMma t => decide (t < 6144)
  | .mMmaComplete t => decide (t < 6144)
  | .mStacc t => decide (t < 6144)
  | .mLoop t => decide (t < 6144)
  | .mEnd t => decide (t < 6144)
  | .matrixRunComplete t => decide (t < 6144)
  | .ykMxswap t => decide (t < 6144)
  | .bankSwap t => decide (t < 6144)
  | .ykSolve t => decide (t < 6144)
  | .ykColl t => decide (t < 6144)
  | .ykEload t => decide (t < 6144)
  | .ykWait t => decide (t < 6144)
  | .ykWaitall t => decide (t < 6144)
  | .ykPly t => decide (t < 6144)
  | .ykFend t => decide (t < 6144)
  | .ykRelw t => decide (t < 6144)
  | .ykWaitw t => decide (t < 6144)
  | .waitwWake t => decide (t < 6144)
  | .waitwTimeout t => decide (t < 6144)
  | .plyCommit t => decide (t < 6144)
  | .plyWatchdog t => decide (t < 6144)
  | .replay t => decide (t < 6144)
  | .ocacheScrub t _ _ => decide (t < 6144)
  | .ocacheUncorrectable t => decide (t < 6144)
  | .solverBatchStart e => decide (e < 768)
  | .solverProblemStart e => decide (e < 768)
  | .solverProblemComplete e => decide (e.engine < 768)
  | .solverBatchComplete e => decide (e < 768)
  | .solverStepRepeat e _ => decide (e.engine < 768)
  | .solverProblemRestart e => decide (e.engine < 768)
  | .solverEngineRemap e => decide (e < 768)
  | .hartInstruction h => decide (h < 1536)
  | .threadSwitch c => decide (c < 192)
  | .hartAccessComplete h => decide (h < 1536)
  | .ykvSaduVv h => decide (h < 1536)
  | .ykvSadsVv h => decide (h < 1536)
  | .ykvSaduVx h => decide (h < 1536)
  | .ykvSadsVx h => decide (h < 1536)
  | .ykvSumm h => decide (h < 1536)
  | .ykvSumh h => decide (h < 1536)
  | .ykHply h => decide (h < 1536)
  | .hartPlyCap h => decide (h < 1536)
  | .hartPlyCommit h => decide (h < 1536)
  | .amoadd h => decide (h < 1536)
  | .amoand h => decide (h < 1536)
  | .amoor h => decide (h < 1536)
  | .amoxor h => decide (h < 1536)
  | .amomin h => decide (h < 1536)
  | .amomax h => decide (h < 1536)
  | .amominu h => decide (h < 1536)
  | .amomaxu h => decide (h < 1536)
  | .amoswap h => decide (h < 1536)
  | .amocasW h => decide (h < 1536)
  | .amocasD h => decide (h < 1536)
  | .amocasQ h => decide (h < 1536)
  | .lr h => decide (h < 1536)
  | .sc h => decide (h < 1536)
  | .lrReservationTimeout h => decide (h < 1536)
  | .hartTimerInterrupt h => decide (h < 1536)
  | .scacheInvalidation _ => true
  | .scacheEccError slice set way kind => decide (slice < 64) && decide (set < 16384) && decide (way < 16) && decide (kind < 3)
  | .coreFailure c => decide (c < 192)
  | .sbiBase h => decide (h < 1536)
  | .sbiSetTimer h => decide (h < 1536)
  | .sbiSendIpi h => decide (h < 1536)
  | .sbiRemoteFence h => decide (h < 1536)
  | .sbiHartGetStatus h => decide (h < 1536)
  | .sbiHartSuspend h => decide (h < 1536)
  | .sbiHartStartStop h => decide (h < 1536)
  | .sbiSystemReset h => decide (h < 1536)
  | .sbiFabricError h => decide (h < 1536)
  | .sbiMemberRank h => decide (h < 1536)
  | .sbiHartIndex h => decide (h < 1536)
  | .dstoreWriteApply die _ => decide (die < 48)
  | .dstorePatrolScrub die found => decide (die < 48) && decide (found.line.getD 0 < 20971520)
  | .dstoreBankFail die bank => decide (die < 48) && decide (bank < 256)
  | .dstoreBankRebuildDone die bank => decide (die < 48) && decide (bank < 256)
  | .dstoreClearDone die => decide (die < 48)
  | .regionCloseDone r => decide (r < 1024)
  | .tierPacketLanded _ => true
  | .hartTierLoad h => decide (h < 1536)
  | .lenpelRebuildDone q => decide (q < 48)
  | .lenpelPresenceAssert q => decide (q < 48)
  | .lenpelDetectTimer q => decide (q < 48)
  | .lenpelTrainDone q => decide (q < 48)
  | .lenpelTrainTimeout q => decide (q < 48)
  | .lenpelAlignDone q _ => decide (q < 48)
  | .lenpelAlignTimeout q => decide (q < 48)
  | .discovery q _ => decide (q < 48)
  | .readData q _ => decide (q < 48)
  | .writeAck q _ => decide (q < 48)
  | .lenpelNak q _ => decide (q < 48)
  | .lenpelIdle q _ => decide (q < 48)
  | .lenpelRetrainTimeout q => decide (q < 48)
  | .lenpelPresenceLost q => decide (q < 48)
  | .lenpelReadLost q _ => decide (q < 48)
  | .lenpelWriteAckTimeout q _ => decide (q < 48)
  | .lenpelEnableWrite q _ => decide (q < 48)
  | .atnikSignalDetect n => decide (n < 24)
  | .atnikTrainDone n _ => decide (n < 24)
  | .atnikTrainTimeout n => decide (n < 24)
  | .trainId n _ => decide (n < 24)
  | .atnikIdentifyTimeout n => decide (n < 24)
  | .atnikLoss n => decide (n < 24)
  | .atnikRetrainTimeout n => decide (n < 24)
  | .returnWindowExpiry n => decide (n < 24)
  | .atnikLaneFail n lane => decide (n < 24) && decide (lane < 8)
  | .atnikEnableWrite n _ => decide (n < 24)
  | .atnikDataEnvelope n _ _ => decide (n < 24)
  | .atnikNak n _ => decide (n < 24)
  | .atnikIdle n _ => decide (n < 24)
  | .rd n => decide (n < 24)
  | .wr n => decide (n < 24)
  | .rdBulk n => decide (n < 24)
  | .wrBulk n => decide (n < 24)
  | .atomic n => decide (n < 24)
  | .rsp n => decide (n < 24)
  | .ack n => decide (n < 24)
  | .retry n => decide (n < 24)
  | .onceRelease n => decide (n < 24)
  | .onceEntryExpiry f => decide (f < 8)
  | .e2eRetryTimer _ => true
  | .contextIdleTimer node => decide (node < 131072)
  | .close n => decide (n < 24)
  | .linkNotice n => decide (n < 24)
  | .cancel _ => true
  | .linkRekey n _ => decide (n < 24)
  | .linkSessionSetup n _ _ => decide (n < 24)
  | .collAdmit p => decide (p < 16)
  | .windowSlotGrant p f => decide (p < 16) && decide (f < 8)
  | .grant n => decide (n < 24)
  | .hdrUp n => decide (n < 24)
  | .hdrDown n => decide (n < 24)
  | .expUp n => decide (n < 24)
  | .expDown n => decide (n < 24)
  | .dataUp n => decide (n < 24)
  | .dataDown n => decide (n < 24)
  | .resend n => decide (n < 24)
  | .abort n => decide (n < 24)
  | .collStalemate p _ => decide (p < 16)
  | .reductionEccError p _ _ _ => decide (p < 16)
  | .siteHeartbeatTimeout t => decide (t < 6144)
  | .tileCoreChecker t => decide (t < 6144)
  | .matrixResidueMismatch t _ => decide (t < 6144)
  | .vectorResidueMismatch t _ => decide (t < 6144)
  | .castlingCommit t => decide (t < 6144)
  | .coreChecker c => decide (c < 192)
  | .meshLaneFail a b => meshEdge a b
  | .thermalSensorCheck d => decide (d < 68)
  | .faultMapCommit => true
  | .guaranteeYielded p => decide (p < 16)
  | .cmdqTailWrite _ p _ _ => decide (p < 16)
  | .cplqHeadWrite _ p _ => decide (p < 16)
  | .queueCfgWrite _ p _ _ => decide (p < 16)
  | .inputDbWrite _ p _ _ => decide (p < 16)
  | .completionPost p => decide (p < 16)
  | .loadBegin p => decide (p < 16)
  | .dstoreWrite p _ => decide (p < 16)
  | .dstoreRead p => decide (p < 16)
  | .loadCommit p => decide (p < 16)
  | .launch p _ => decide (p < 16)
  | .stage p => decide (p < 16)
  | .inputWrite p _ => decide (p < 16)
  | .regionCreate p => decide (p < 16)
  | .regionSeal p => decide (p < 16)
  | .regionUnseal p => decide (p < 16)
  | .regionDestroy p => decide (p < 16)
  | .regionPin p => decide (p < 16)
  | .packetWrite p _ => decide (p < 16)
  | .packetRead p => decide (p < 16)
  | .preempt p => decide (p < 16)
  | .restore p _ => decide (p < 16)
  | .rollback p => decide (p < 16)
  | .resume p => decide (p < 16)
  | .unload p => decide (p < 16)
  | .cutReportContribute p => decide (p < 16)
  | .cutReport p _ => decide (p < 16)
  | .checkpointDone p => decide (p < 16)
  | .captureLimitTimeout p => decide (p < 16)
  | .checkpointLate p => decide (p < 16)
  | .vinSample _ _ _ => true
  | .fastLoopSample _ => true
  | .powerCapLoop _ => true
  | .frequencyStep t => decide (t < 6144)
  | .brakeAsserted => true
  | .brakeReleased => true
  | .droopDetect die det => decide (die < 48) && decide (det < 8)
  | .droopRelease die det => decide (die < 48) && decide (det < 8)
  | .thermalSample die _ => decide (die < 68)
  | .thermalStep die => decide (die < 66)
  | .regulatorPhaseLost reg => decide (reg < 66)
  | .dictionaryCycle => true
  | .read _ => true
  | .write _ => true
  | .dictEntryWrite _ _ _ _ => true
  | .claim _ => true
  | .renew _ => true
  | .handover _ => true
  | .release _ => true
  | .subscribe _ => true
  | .ownerLeaseExpired => true
  | .sessionTimeout _ => true
  | .blobFragmentTimeout _ => true
  | .telemetry _ => true
  | .savedEntryCommit => true
  | .persistCommit _ _ => true
  | .persistDefaults _ _ => true
  | .ownExpertGrant _ _ => true
  | .ownExpertRevoke _ _ => true
  | .ownDelegate _ p _ => decide (p < 16)
  | .mgmtAlertClear _ _ => true
  | .powerCapWWrite _ _ => true
  | .tierFloorExtentsWrite _ p _ => decide (p < 16)
  | .partitionPortWrite _ _ => true
  | .mbGo k _ _ _ => decide (k < 2)
  | .mbStatusClear k _ => decide (k < 2)
  | .evtPop k => decide (k < 2)
  | .i3cPrivateWrite _ => true
  | .i3cPrivateRead => true
  | .entdaa _ => true
  | .setdasa _ _ => true
  | .rstdaa => true
  | .enec _ => true
  | .disec _ => true
  | .setmwl _ => true
  | .setmrl _ => true
  | .getmwl => true
  | .getmrl => true
  | .getpid => true
  | .getbcr => true
  | .getdcr => true
  | .getstatus => true
  | .rstact _ => true
  | .neighborDiscovery _ => true
  | .icmpv6Echo _ => true
  | .serviceRequest _ _ _ _ => true
  | .serviceHeartbeatTimeout => true
  | .holdupEstimate _ _ => true
  | .holdupDeferred => true
  | .n0Commit => true
  | .fwUpdateSlot _ _ => true
  | .fwUpdateOffset _ _ => true
  | .fwUpdateChunk _ _ => true
  | .fwUpdateCommit _ _ => true
  | .secUnlock _ _ => true
  | .getCertificate ch _ _ _ => decide (ch < 3)
  | .challenge ch _ _ => decide (ch < 3)
  | .getMeasurements ch _ _ _ => decide (ch < 3)
  | .keyExchange ch _ _ _ _ _ => decide (ch < 3)
  | .keyUpdate _ => true
  | .heartbeat _ => true
  | .perstN k _ => decide (k < 2)
  | .pcieHotReset k _ => decide (k < 2)
  | .pcieFlr k fn => decide (k < 2) && decide (fn ≤ 16)
  | .pcieConfigRequest k _ _ => decide (k < 2)
  | .extest _ _ _ => true
  | .sample _ _ => true
  | .preload _ => true
  | .idcode => true
  | .clamp => true
  | .highz => true
  | .extestPulse _ _ _ => true
  | .extestTrain _ _ _ => true
  | .bypass => true
  | .pcieLinkUp k _ _ _ => decide (k < 2)
  | .dieFailure d => decide (d < 68)
  | .serviceRestarted => true
  | .n0CommitComplete => true
  | .endSession _ => true
  | .trstN => true

end Sys2Proof
end

