-- ==== Sys2Proof/Safety.lean ====
section
/-!
DEFINITION. What claims speak of: the site-map invariant (01:R30), the canonical form of the memories, what a command leaves, what an event
report may touch.
-/

namespace Sys2Proof.Machine

open Sys2Proof

/-- A tile that has left its manufacture site is served by the spare of its own rank or of an adjacent one (01:R30). -/
def Sites.entryOk (e : Nat × Nat) : Bool :=
  decide (e.1 < 6144) && decide (e.2 % 9 = 0) && decide (9 ≤ e.2) && decide (e.2 ≤ 144)
    && decide (e.2 / 9 ≤ e.1 % 128 / 8 + 2) && decide (e.1 % 128 / 8 ≤ e.2 / 9)

/-- The site maps keep their canonical form, tiles move to spares in reach only, and no spare serves two tiles (01:R30). -/
def Sites.sound (z : Sites) : Bool :=
  Tab.wf 0 z.moved && z.moved.all Sites.entryOk
    && z.moved.all (fun a => z.moved.all (fun b => decide (a.1 = b.1) || decide (a.1 / 128 ≠ b.1 / 128) || decide (a.2 ≠ b.2)))

end Sys2Proof.Machine

namespace Sys2Proof

/-- The memories of the package are in canonical form. -/
def Pkg.memSound (s : Pkg) : Prop := Memory.wf s.dstore = true ∧ ∀ e ∈ s.tiles, Memory.wf e.2.dsram = true ∧ Memory.wf e.2.ocache = true

/-- The commands of pins and of the test access port, which act at all times (18:R541, R556), with the two that a start under way waits for
(17:R523). -/
def Instr.ofPins : Instr → Bool
  | .coldStart _ | .resetNAssert _ | .vauxFail | .perstN _ _ | .lenpelPresenceAssert _ | .lenpelPresenceLost _ | .extest _ _ _ | .sample _ _
  | .preload _ | .vinSample _ _ _ | .idcode | .clamp | .highz | .extestPulse _ _ _ | .extestTrain _ _ _ | .bypass | .trstN => true
  | _ => false

/-- The package without what an event report touches: the alert causes and the event sequence in the dictionary, the log, messages to
sessions, what was shown to the outside. The dictionary is left out whole; claims speak of its entries by `SameEnts`. -/
def Pkg.bare (s : Pkg) : Pkg :=
  { s with dict := [], log := [], out := [], mgmt := { s.mgmt with sessions := [], boxes := [], i3c := {}, fresh := 0 } }

/-- The package is on and serves partition p, the next command of whose queue to start has the opcode and good flags; `rest` are the others
that were read: those before it wait (14:R433). -/
abbrev Pkg.takes (s : Pkg) (p op : Nat) (e : List Byte) (rest : List (List Byte)) : Prop :=
  p < 16 ∧ s.fw.off = 0 ∧ s.served = true ∧ (s.nextCmd p [] (s.part p).q.read).map (fun c => (c.2.1, c.1 ++ c.2.2)) = some (e, rest)
    ∧ byteAt e 0 = op ∧ byteAt e 1 ≤ 1 ∧ zeroAt e 2 2 = true

/-- The command is taken from the queue; `rest` stay. -/
def Pkg.took (s : Pkg) (p : Nat) (rest : List (List Byte)) : Pkg := s.setQ p { (s.part p).q with read := rest }

/-- The package is on, and tile t executes the instruction with the 32-bit form w, of len bytes, bits raw as fetched (04:R121). -/
abbrev Pkg.fetches (s : Pkg) (t w len raw : Nat) : Prop :=
  t < 6144 ∧ s.fw.off = 0 ∧ s.runs t = true ∧ (s.tile t).fetch = .instr w len raw

/-- The package is on, and hart h executes the instruction with the 32-bit form w, of len bytes, bits raw as fetched; k is the package after the
fetch, whose page-table and code reads go through the shared cache (08:R233, R242, R250). -/
abbrev Pkg.hFetches (s : Pkg) (h w len raw : Nat) (k : Pkg) : Prop :=
  h < 1536 ∧ s.fw.off = 0 ∧ s.hartRuns h = true ∧ s.softDue h = false ∧ s.hFetch h = (.instr w len raw, k)

/-- Hart h calls function fid of the SBI extension eid (17:R531). -/
abbrev Pkg.hCalls (s : Pkg) (h eid fid : Nat) (k : Pkg) : Prop :=
  s.hFetches h 0x73 4 0x73 k ∧ (s.hart h).part ≠ 0 ∧ (k.hart h).part ≠ 0 ∧ (s.hart h).a.priv = 1 ∧ (s.hart h).a.eid = eid ∧ (s.hart h).a.fid = fid ∧ (k.hart h).n = 0

/-- An SBI call has ended: a0 holds the error and a1 the value, it counts as no retired instruction, and a mark follows (08:R235, R244,
17:R531). -/
def Pkg.sbiEnds (s : Pkg) (h : Nat) (err : Int) (v : Nat) : Pkg :=
  ((s.onArch h (fun a => (a.setX 10 (BitVec.ofInt 64 err)).setX 11 (BitVec.ofNat 64 v))).hgo h 4).hmark h

/-- The package is on, and packet r stands first among those received on port n, with `rest` behind it; no checkpoint holds it (11:R333, 14:R448). -/
abbrev Pkg.arrives (s : Pkg) (n : Nat) (r : RxPkt) (rest : List RxPkt) : Prop :=
  n < 24 ∧ s.fw.off = 0 ∧ (s.port n).rx = r :: rest ∧ s.holdsBack (Hdr.dec r.packet) = false

/-- The packet is taken from the port: its credits are owed (11:R333). -/
def Pkg.received (s : Pkg) (n : Nat) (r : RxPkt) (rest : List RxPkt) : Pkg :=
  s.setPort n { s.port n with rx := rest, owed := if r.vc < 8 then Tab.modify 0 (s.port n).owed r.vc (· + creditsOf r.packet) else (s.port n).owed }

/-- The header of a request as its target uses it: a Ryquel address keeps 43 bits (01:R39, 11:R347). -/
def Hdr.here (h : Hdr) : Hdr := { h with addr := if h.space = 1 then h.addr % 2 ^ 43 else h.addr }

/-- No register of the tile waits for a summary slot, and no speculation region is open (04:R140, R145). -/
abbrev Tile.quiet (t : Tile) : Prop := t.core.pend = [] ∧ t.core.region = none

end Sys2Proof

namespace Sys2Proof.Machine

open Sys2Proof

/-- The command leaves this package, and the queue and the site maps as they were. -/
def Gives (i : Instr) (s : State) (k : Pkg) : Prop := exec i s = .next { s with pkg := k }

/-- The command leaves a package of which `P` holds, and the queue and the site maps as they were. -/
def Leaves (i : Instr) (s : State) (P : Pkg → Prop) : Prop := ∃ k, Gives i s k ∧ P k

/-- Entries that a report of an event touches: mgmt.alert_causes and log.next_seq (16:R505, R506). -/
def reportEnts : List (Nat × Nat) := [(0x1130, 6), (0x1140, 1)]

/-- Every entry but those listed holds what it held. -/
def SameEnts (s t : Pkg) (but : List (Nat × Nat)) : Prop := ∀ i j, (i, j) ∉ but → j < 256 → t.ent i j = s.ent i j

/-- The newest event of the log is this one (16:R504, R505). -/
def Reports (s : Pkg) (code part : Nat) (items : List Nat) : Prop :=
  ∃ e, s.log.head? = some e ∧ e.code = code ∧ e.part = part ∧ e.items = items

end Sys2Proof.Machine
end

