-- ==== Sys2Proof/Certificates/Slice0/Obligations.lean ====
section
/-!
DEFINITION. The statements for the provers.
-/

open Sys2Proof Sys2Proof.Machine

/-- Each step runs the command at the front of the queue, over the state with the queue's rest (log entry 4: the model's own queue). -/
def Obligations.StepRunsFront : Prop :=
  ∀ (c : Instr) (s : State), step { s with pending := c :: s.pending } = exec c s

/-- With no command waiting one nanosecond of the reference clock passes (the model's choice, log entry 4): the Tempo counter stands until a
start-up has released it (17:R522) and then counts nanoseconds modulo 2⁶⁴ (03:R75). -/
def Obligations.IdleStepPassesTime : Prop :=
  ∀ s : State, s.pending = [] → s.pkg.tier.asked = [] → (∀ n, (s.pkg.port n).st ≠ .active) →
    ((∀ q, (s.pkg.lport q).st ≠ .active) → s.pkg.fw.epochSet = false → step s = .next { s with pkg := { s.pkg with tempo := { s.pkg.tempo with local_ := s.pkg.tempo.local_ + 1 } } })
    ∧ ((∀ q, (s.pkg.lport q).st ≠ .active) → s.pkg.fw.epochSet = true → s.pkg.fw.dict = true → s.pkg.fault.open_ = [] → s.pkg.tempo.rateNow = 0 → s.pkg.tempo.acc = 0 →
        step s = .next { s with pkg := { s.pkg with tempo := { s.pkg.tempo with
          now := (s.pkg.tempo.now + 1) % 2 ^ 64, acc := 0, local_ := s.pkg.tempo.local_ + 1 } } })
    ∧ (∀ q, q < 48 → (∀ j, (s.pkg.lport j).st = .active ↔ j = q) → ∃ t, step s = .next t ∧ ∃ body, .frame q 0 body ∈ t.pkg.out)

/-- Every command whose units exist answers a next state, whatever the state; every other stops with the one fault there is (01:R45, log
entry 17).
A command acts on everything but the queue of waiting commands. -/
def Obligations.CommandsRunWhereUnitsExist : Prop :=
  (∀ (i : Instr) (s : State), (i.wf = true → ∃ t, exec i s = .next t) ∧ (i.wf = false → exec i s = .fault .noSuchUnit))
  ∧ (∀ (i : Instr) (s t : State), exec i s = .next t → t.pending = s.pending)

/-- Only root firmware writes the site maps: by a castling commit, or at a cold start (01:R30, 17:R522). -/
def Obligations.SiteMapWriters : Prop :=
  ∀ (i : Instr) (s t : State), exec i s = .next t → t.sites ≠ s.sites →
    (∃ n, i = .castlingCommit n) ∨ ((i = .n0CommitComplete ∨ i = .bootEpochTimeout) ∧ s.pkg.fw.cold ≠ none)

/-- At reset the site maps are sound, and tile t of a C-die stands at rank t / 8, file t mod 8 (01:R28, R30). -/
def Obligations.SiteMapSoundAtReset : Prop :=
  State.reset.sites.sound = true ∧ ∀ t, State.reset.sites.siteOf t = t % 128 / 8 * 9 + t % 8

/-- The invariant of the site maps holds at all times: every step keeps it, from any state that has it (01:R30). -/
def Obligations.SiteMapSoundEachStep : Prop :=
  ∀ s t : State, s.sites.sound = true → step s = .next t → t.sites.sound = true

/-- The rows of R30's table, read from a sound site map: one tile per site, rank reach, file reach; a site number below 144 is a site of the
tile's own C-die (01:R28, R30). -/
def Obligations.SiteMapInvariants : Prop :=
  ∀ z : Sites, z.sound = true →
    (∀ t u, t < 6144 → u < 6144 → t / 128 = u / 128 → z.siteOf t = z.siteOf u → t = u)
    ∧ ∀ t, t < 6144 →
      z.siteOf t < 144
      ∧ (z.siteOf t / 9 = t % 128 / 8 ∨ (z.siteOf t % 9 = 8 ∧ (z.siteOf t / 9 + 1 = t % 128 / 8 ∨ z.siteOf t / 9 = t % 128 / 8 + 1)))
      ∧ (z.siteOf t = t % 128 / 8 * 9 + t % 8 ∨ z.siteOf t % 9 = 8)

/-- With the M-die lost the package stops (13:R415), as it does while RESET_N is low (18:R541): only pins and the test access port act. -/
def Obligations.LostManagementDieStops : Prop :=
  ∀ (i : Instr) (s : State), 3 ≤ s.pkg.fw.off → i.wf = true → i.ofPins = false → exec i s = .next s

/-- BYPASS, IDCODE and TRST_N act in reset or not while VAUX is good (18:R554, R556); without VAUX the port does nothing.
The Y100 accepts instructions other than BYPASS and IDCODE only while RESET_N is low, and treats them as BYPASS otherwise (18:R554, R556). -/
def Obligations.TestPortAlwaysAccepts : Prop :=
  (∀ s : State,
    (s.pkg.fw.vaux = true →
      Gives .bypass s { s.pkg with tap := { s.pkg.tap with ir := 0xFF, regs := false }, out := .tdo 0 1 :: s.pkg.out }
      ∧ Gives .idcode s { s.pkg with tap := { s.pkg.tap with ir := 3, regs := false }, out := .tdo jtagIdcode 32 :: s.pkg.out }
      ∧ Gives .trstN s { s.pkg with tap := { s.pkg.tap with ir := 3, regs := false } })
    ∧ (s.pkg.fw.vaux = false → ∀ c dc ac,
        ∀ i ∈ [Instr.bypass, .idcode, .trstN, .clamp, .highz, .preload c, .sample dc ac, .extest c dc ac, .extestPulse c dc ac, .extestTrain c dc ac],
          exec i s = .next s))
  ∧ (∀ (s : State) (c dc ac : Nat), s.pkg.fw.vaux = true →
    (s.pkg.pins.resetLow = true →
      (∀ e ∈ [(Instr.extest c dc ac, 0), (.extestPulse c dc ac, 6), (.extestTrain c dc ac, 7)],
        Gives e.1 s { s.pkg with
          tap := { ir := e.2, cells := c, regs := decide (40000 ≤ s.pkg.pins.vin) && decide (s.pkg.pins.vin ≤ 60000) }
          out := .scan dc (if 40000 ≤ s.pkg.pins.vin ∧ s.pkg.pins.vin ≤ 60000 then ac else 0) :: s.pkg.out })
      ∧ Gives (.sample dc ac) s { s.pkg with
          tap := { s.pkg.tap with ir := 1, regs := false }
          out := .scan dc (if 40000 ≤ s.pkg.pins.vin ∧ s.pkg.pins.vin ≤ 60000 then ac else 0) :: s.pkg.out }
      ∧ Gives (.preload c) s { s.pkg with tap := { ir := 2, cells := c, regs := false } }
      ∧ ∀ e ∈ [(Instr.clamp, 4), (.highz, 5)],
          Gives e.1 s { s.pkg with tap := { s.pkg.tap with ir := e.2, regs := false }, out := .tdo 0 1 :: s.pkg.out })
    ∧ (s.pkg.pins.resetLow = false →
        ∀ i ∈ [Instr.extest c dc ac, .extestPulse c dc ac, .extestTrain c dc ac, .sample dc ac, .preload c, .clamp, .highz],
          exec i s = exec .bypass s))

/-- Low for 1 µs or more resets the Y100; pulses under 100 ns are ignored (18:R541). What lies between the spec leaves open: one of the two,
by a free value (log entry 5).
When REFCLK_MAIN stops for more than 1 µs, the Y100 shuts down as 15:R469 states, with cause supply (18:R544). VAUX lost shuts it down too,
and only the commit under way is finished (18:R539). -/
def Obligations.ResetPulse : Prop :=
  (∀ (s : State) (ns : Nat),
    (1000 ≤ ns → Leaves (.resetNAssert ns) s fun k =>
      k.fw = { n0 := s.pkg.fw.cutCommits, fuses := s.pkg.fw.fuses, holdup := s.pkg.fw.holdup, vaux := s.pkg.fw.vaux, draws := s.pkg.fw.draws
               nonce := s.pkg.fw.nonce, off := 4 }
      ∧ k.tempo = { local_ := s.pkg.tempo.local_ } ∧ k.pow = { energy := s.pkg.pow.energy, aux := s.pkg.pow.aux }
      ∧ k.ent 0x6000 0x13 = s.pkg.ent 0x6000 0x13 ∧ k.parts = [] ∧ k.tiles = [] ∧ k.harts = [] ∧ k.dstore = [] ∧ k.net = {} ∧ k.tier = {}
      ∧ k.mgmt = {} ∧ k.fault = {} ∧ k.log = [] ∧ k.pins = { resetLow := true, vin := s.pkg.pins.vin }
      ∧ (s.pkg.ent 0x1130 6 = 0 → (∀ q, (s.pkg.lport q).rst = false) → k.out = s.pkg.out)
      ∧ (s.pkg.ent 0x1130 6 ≠ 0 → s.pkg.fw.vaux = true → .pin "ALERT_N" 0 true ∈ k.out)
      ∧ ((∀ c ∈ s.pkg.fw.commits, c.started = false) → k.fw.n0 = s.pkg.fw.n0)
      ∧ ∀ c a, s.pkg.fw.commits = [c] → c.started = true → c.area = some a → s.pkg.fw.n0.area a ≠ none → k.fw.n0.area a = s.pkg.fw.n0.area a)
    ∧ (ns < 100 → exec (.resetNAssert ns) s = .next s)
    ∧ (100 ≤ ns → ns < 1000 → Leaves (.resetNAssert ns) s fun k =>
        k = { s.pkg with free := s.pkg.free + 1 } ∨ (k.fw.off = 4 ∧ k.pins.resetLow = true ∧ k.parts = [] ∧ k.tiles = [])))
  ∧ (∀ s : State, s.pkg.fw.off = 0 →
    (∀ ns, 1000 < ns → Leaves (.refclkLoss ns) s fun k =>
      k.fw.off = 2 ∧ ∃ e ∈ k.log, e.code = 0x0605 ∧ e.items = [66, ofSigned 64 ((s.pkg.dieTemp 66).getD 0), 2])
    ∧ (∀ ns, ns ≤ 1000 → exec (.refclkLoss ns) s = .next s)
    ∧ Leaves .vauxFail s fun k => k.fw.off = 2 ∧ k.fw.vaux = false ∧ (∀ c ∈ k.fw.commits, c.started = true) ∧ k.tap.regs = false ∧ k.alertLow = false
        ∧ k.sgmiiTx = .highZ ∧ ∀ n, k.atnikTx n = .highZ ∧ k.lenpelTx n = .highZ ∧ k.pcieTx n = .highZ
          ∧ k.atnikTerm n = false ∧ k.lenpelTerm n = false ∧ k.pcieTerm n = false ∧ k.lpRst n = false)

/-- The rows of a PCIe port (18:R547, R552, R553, R557). -/
def Obligations.PciePortRows : Prop :=
  ∀ (s : State) (k : Nat), k < 2 → s.pkg.fw.off = 0 →
    (∀ rate width flit, (s.pkg.pci k).up = false → (s.pkg.pci k).perst = false → 1 ≤ rate → rate ≤ (s.pkg.pci k).maxRate → rate < 6 →
      width ∈ [1, 2, 4, 8, 16] → Leaves (.pcieLinkUp k rate width flit) s fun x =>
        x.pci k = { s.pkg.pci k with up := true, rate := rate, width := width, flit := flit }
        ∧ (∀ j, j ≠ k → x.pci j = s.pkg.pci j) ∧ SameEnts s.pkg x reportEnts ∧ Reports x 0x0911 0xFF [k, rate, width, b2n flit])
    ∧ ((s.pkg.pci k).perst = false → Leaves (.perstN k true) s fun x =>
        (x.pci k).up = false ∧ (x.pci k).perst = true ∧ x.ent (0x1011 + k) 6 = s.pkg.ent (0x1011 + k) 6 + 1 ∧ Reports x 0x0912 0xFF [k, 1])
    ∧ Gives (.perstN k false) s (s.pkg.setPci k { s.pkg.pci k with perst := false })
    ∧ (∀ cause, 2 ≤ cause → cause ≤ 4 → (s.pkg.pci k).up = true → Leaves (.pcieHotReset k cause) s fun x =>
        (x.pci k).up = false ∧ (x.pci k).vfs = 0 ∧ (∀ y ∈ x.mgmt.sessions, y.path ≠ .mailbox k) ∧ x.ent (0x1011 + k) 6 = s.pkg.ent (0x1011 + k) 6 + 1 ∧ Reports x 0x0912 0xFF [k, cause])
    ∧ ((s.pkg.pci k).up = true →
        (Leaves (.pcieFlr k 0) s fun x => (x.pci k).vfs = 0 ∧ (∀ y ∈ x.mgmt.sessions, y.path ≠ .mailbox k) ∧ (x.pci k).up = true ∧ Reports x 0x0913 0xFF [k, 0])
        ∧ (∀ p, p < 16 → s.pkg.hostPort p = k → Leaves (.pcieFlr k (p + 1)) s fun x =>
            (x.part p).q.cmdEn = false ∧ (x.part p).q.cplEn = false ∧ (x.part p).q.tail = 0 ∧ Reports x 0x0913 0xFF [k, p + 1])
        ∧ (s.pkg.fw.started = false → ∀ off v, Gives (.pcieConfigRequest k off v) s (s.pkg.emit (.config k true 0)))
        ∧ (s.pkg.fw.started = true → ∀ off n, Gives (.pcieConfigRequest k off (some n)) s
            ((s.pkg.setPci k { s.pkg.pci k with vfs := min 16 n }).emit (.config k false 0)))
        ∧ (s.pkg.fw.started = true → Leaves (.pcieConfigRequest k 8 none) s fun x =>
            ∃ v, x = { s.pkg with free := s.pkg.free + 1, out := .config k false (v % 256 + 0x120000 * 256) :: s.pkg.out }))

/-- The start of a cold start (01:R37, 17:R519, R522, R523). -/
def Obligations.ColdStartToEpoch : Prop :=
  ∀ (s : State) (o : ColdObs),
    ((o.vin < 40000 ∨ 60000 < o.vin) → exec (.coldStart o) s = .next s)
    ∧ (40000 ≤ o.vin → o.vin ≤ 60000 → s.pkg.fw.off = 4 → s.pkg.fw.commits = [] → o.badCopies = [] → Leaves (.coldStart o) s fun k =>
        k.net.slot = o.slot % 4 ∧ k.net.epoch = (s.pkg.fw.n0.epoch + 1) % 2 ^ 32 ∧ k.fw.boots = (s.pkg.fw.n0.boots + 1) % 2 ^ 32
        ∧ (∀ p, p < 2 → (k.pci p).refclk = k.ent 0x1010 2 ∧ (k.pci p).maxRate = k.ent 0x1010 3)
        ∧ k.fw.t0 = s.pkg.tempo.local_ ∧ k.fw.off = 0 ∧ k.fw.vaux = true ∧ k.fw.cold = some o ∧ k.fw.dict = false ∧ k.fw.loadable = false
        ∧ k.pins = { vin := o.vin } ∧ k.tap.ir = 3
        ∧ (∃ c, k.fw.commits = [c] ∧ c.kind = 0 ∧ c.bytes = 32768 ∧ c.value = (s.pkg.fw.n0.epoch + 1) % 2 ^ 32 ∧ c.started = false)
        ∧ (s.pkg.fw.n0.slots = [] → k.fw.st = 2 ∧ k.fw.started = false ∧ Reports k 0x0703 0xFF [4, 1]))

/-- The self-test and what follows the boot epoch (15:R462, 17:R522, R523). That the rest of a start is one step is the model's choice (log
entry 12).
The end of a start: the ports have trained, Tempo is LOCKED or 30 s have passed (17:R519, R522, R524; the order of the checks is log entry
103's). -/
def Obligations.ColdStartGoesOn : Prop :=
  (∀ (s : State) (o : ColdObs), s.pkg.fw.cold = some o → s.pkg.fw.off = 0 →
    (∀ c rest, s.pkg.fw.commits = c :: rest → c.kind = 0 → c.started = true → s.pkg.fw.n0.lost = false →
      ∃ t, exec .n0CommitComplete s = .next t ∧ t.sites = s.sites.cold (o.withMap s.pkg.fw.n0.map) ∧ t.pending = s.pending ∧ t.pkg.fw.cold = none
        ∧ t.pkg.fw.epochSet = true ∧ t.pkg.fw.castled = t.sites.moved.length ∧ (s.pkg.fw.dict = false → t.pkg.fw.dict = false))
    ∧ (s.pkg.fw.epochCommit = false → s.pkg.fw.t0 + 20000000000 ≤ s.pkg.tempo.local_ →
      exec .bootEpochTimeout s = .next (coldFinish { s with pkg := s.pkg.randomEpoch })
      ∧ 2 ^ 31 ≤ s.pkg.randomEpoch.net.epoch ∧ s.pkg.randomEpoch.net.epoch < 2 ^ 32 ∧ (∀ c ∈ s.pkg.randomEpoch.fw.commits, c.kind ≠ 0)
      ∧ Reports s.pkg.randomEpoch 0x070D 0xFF [s.pkg.randomEpoch.net.epoch]
      ∧ (coldFinish { s with pkg := s.pkg.randomEpoch }).sites = s.sites.cold (o.withMap s.pkg.fw.n0.map) ∧ (coldFinish { s with pkg := s.pkg.randomEpoch }).pkg.fw.cold = none)
    ∧ (s.pkg.tempo.local_ < s.pkg.fw.t0 + 20000000000 → exec .bootEpochTimeout s = .next s)
    ∧ (∀ k, k < 6912 →
        (Tab.get 0 (s.sites.cold o).failed k = 1 ↔ (k ∈ o.failed ∨ (Tab.get 0 (s.sites.cold o).fmax k) < 1400
          ∨ ∃ e, e < 2 ∧ 2 < (o.lanes.filter (fun l => l = 2 * k + e)).length))
        ∧ Tab.get 0 (s.sites.cold o).fmax k = min (s.sites.fmaxBefore k) ((Tab.find o.passing k).getD 1750 - 50)))
  ∧ (∀ s : State, s.pending = [] → s.pkg.tier.asked = [] → (∀ n < 24, (s.pkg.port n).st ≠ .active) → (∀ q < 48, (s.pkg.lport q).st ≠ .active) → s.pkg.fault.open_ = [] →
    s.pkg.fw.epochSet = true → s.pkg.fw.dict = false → s.pkg.fw.off = 0 → s.pkg.portsTrain = false →
    (s.pkg.tempo.st = .locked → ∃ t, step s = .next t ∧ t.pkg.fw.dict = true ∧ (s.pkg.fw.st = 2 → t.pkg.fw.loadable = false ∧ t.pkg.fw.st = 2)
      ∧ (s.pkg.fw.st ≠ 2 → t.pkg.fw.loadable = true ∧ t.pkg.fw.st = 1 ∧ t.pkg.ent 0x7000 2 = (s.pkg.tempo.local_ - s.pkg.fw.t0) / 1000000
          ∧ Reports t.pkg 0x0701 0xFF [(s.pkg.tempo.local_ - s.pkg.fw.t0) / 1000000, s.pkg.fw.slot, s.pkg.fw.castled]))
    ∧ (s.pkg.tempo.st ≠ .locked → (∀ u ∈ s.pkg.fw.settled, s.pkg.tempo.local_ < u + 30000000000) →
        ∃ t, step s = .next t ∧ t.pkg.fw.dict = false ∧ t.pkg.fw.settled = some (s.pkg.fw.settled.getD s.pkg.tempo.local_)))

/-- Commits (16:R480, 17:R512, R514). -/
def Obligations.CommitsToN0 : Prop :=
  ∀ (s : State) (c : Commit) (rest : List Commit), s.pkg.fw.off < 3 → s.pkg.fw.commits = c :: rest →
    (c.started = false → s.pkg.fw.n0.lost = false → s.pkg.fw.vaux = true →
      (∀ e, s.pkg.fw.holdup.energy = some e → 3000000000 + 46875 * c.bytes ≤ 100 * e → Leaves .n0Commit s fun k =>
        ∃ d, k.fw.commits = d :: rest ∧ d.started = true ∧ d.kind = c.kind ∧ d.bytes = c.bytes ∧ d.value = c.value ∧ d.data = c.data
          ∧ k = { s.pkg with fw := { s.pkg.fw with commits := d :: rest, epochCommit := k.fw.epochCommit, nextSince := k.fw.nextSince } })
      ∧ ((∀ e ∈ s.pkg.fw.holdup.energy, 100 * e < 3000000000 + 46875 * c.bytes) →
          exec .n0Commit s = .next s))
    ∧ (c.started = true → s.pkg.fw.n0.lost = false → s.pkg.fw.cold = none →
      (c.kind = 4 → Leaves .n0CommitComplete s fun k =>
        k = { s.pkg with fw := { s.pkg.fw with commits := rest, n0 := { s.pkg.fw.n0 with records := (padTo 256 c.data :: s.pkg.fw.n0.records).take 4096 } } })
      ∧ (c.kind = 0 → Leaves .n0CommitComplete s fun k =>
          k.fw.commits = rest ∧ k.fw.n0.epoch = c.value ∧ k.fw.n0.boots = s.pkg.fw.boots ∧ k.fw.n0.saved = s.pkg.fw.n0.saved)
      ∧ (c.kind = 2 → Leaves .n0CommitComplete s fun k =>
          k.fw.commits = rest ∧ k.ent 0x1200 3 = s.pkg.tempo.now ∧ k.fw.n0.saved = c.vals.foldl (fun t e => Tab.insert t e.1 e.2) s.pkg.fw.n0.saved
          ∧ ∀ key, key ∈ k.fw.pending ↔ key ∈ s.pkg.fw.pending ∧ Tab.find c.vals key ≠ some (s.pkg.ent (key / 256) (key % 256)))
      ∧ ∀ a, c.area = some a → Leaves .n0CommitComplete s fun k => ∃ x, k.fw.n0.area a = some x
          ∧ x.count = max (s.pkg.fw.n0.copy a 0).count (s.pkg.fw.n0.copy a 1).count + 1 ∧ x.len = c.bytes)

/-- The rows of the Tempo tree (03:R76, R77, 11:R366, R367). -/
def Obligations.TempoFollowsItsRoot : Prop :=
  ∀ s : State, s.pkg.fw.off = 0 →
    let t := s.pkg.tempo
    let talks (k : Pkg) (m : Nat) : Bool := (k.port m).st == .active && decide (2 ≤ (k.port m).version)
    (∀ k, s.pkg.candidate = some k → (t.role = .follower ∨ t.role = .standalone) → (k = 0 ∨ t.lastAnn + 3000000 ≤ t.local_) → Leaves .rootTakeover s fun x =>
      x.bare = { s.pkg with tempo := { t with role := .root k, st := .locked, parent := 0, annAt := t.local_ - 1000000, root := s.pkg.node, rank := k } }.bare
      ∧ SameEnts s.pkg x reportEnts)
    ∧ (t.role = .follower → (∀ k < 4, s.pkg.ent 0x2201 (k + 1) = 0xFFFFFFFF) → t.lastAnn + 3000000 ≤ t.local_ → Leaves .standaloneRoot s fun x =>
        x.bare = { s.pkg with tempo := { t with role := .standalone, st := .locked, parent := 0, root := s.pkg.node, rank := 0xFF } }.bare)
    ∧ (∀ k, t.role = .root k → t.annAt + 1000000 ≤ t.local_ →
        Gives .rootAnnounceTimer s (((List.range 24).filter (talks s.pkg)).foldl
          (fun (x : Pkg) n => x.sendCtrl n 3 (padTo 32 (natLe 1 k ++ natLe 1 0 ++ natLe 2 0 ++ natLe 4 s.pkg.node ++ natLe 8 (t.annCount + 1))))
          { s.pkg with tempo := { t with annAt := t.local_, annCount := t.annCount + 1 } }))
    ∧ (∀ n r k, n < 24 → s.pkg.takeRx n (fun h => decide (h.op = 10) && decide (h.spec % 256 = 3)) = some (r, k) →
        let pay := r.packet.drop 32
        (32 < byteAt pay 1 → Gives (.rootAnnounce n) s (k.pump n))
        ∧ (byteAt pay 1 ≤ 32 → k.candidate = none → t.role = .follower → t.parent = n + 1 → t.root = fld pay 4 4 → t.rank = byteAt pay 0 →
            (∀ c ∈ t.counts, ¬(c.1 = byteAt pay 0 ∧ c.2.1 = fld pay 4 4)) →
            Gives (.rootAnnounce n) s ((((List.range 24).filter (fun m => decide (m ≠ n) && talks k m)).foldl
              (fun (x : Pkg) m => x.sendCtrl m 3 (pay.take 1 ++ natLe 1 (byteAt pay 1 + 1) ++ pay.drop 2))
              { k with tempo := { t with counts := t.counts ++ [(byteAt pay 0, fld pay 4 4, fld pay 8 8)], lastAnn := t.local_
                                         heard := Tab.set none t.heard n (some (byteAt pay 0, byteAt pay 1, t.local_)) } }).pump n)))
    ∧ (∀ n, t.role = .follower → t.parent = n + 1 → t.syncAt + 1000000 ≤ t.local_ →
        Gives .syncExchangeTimer s ({ s.pkg with tempo := { t with syncAt := t.local_, xid := (t.xid + 1) % 65536, sent := none } }.sendCtrl
          n 1 (padTo 32 (natLe 2 t.xid))))
    ∧ (∀ m : List Byte, (Hdr.dec m).op = 10 →
        ((Hdr.dec m).spec % 256 = 1 → s.pkg.stampSync m = ({ s.pkg with tempo := { t with sent := some (fld m 32 2, t.fine) } }, m))
        ∧ ((Hdr.dec m).spec % 256 = 2 → s.pkg.stampSync m = (s.pkg, m.take 56 ++ natLe 8 (t.fine % 2 ^ 64) ++ m.drop 64)))
    ∧ ∀ n r k, n < 24 → s.pkg.takeRx n (fun h => decide (h.op = 10) && decide (h.spec % 256 = 1)) = some (r, k) →
        Gives (.syncReq n) s ((k.sendCtrl n 2 (padTo 32 (natLe 2 (fld (r.packet.drop 32) 0 2) ++ natLe 6 0 ++ natLe 8 0 ++ natLe 8 (r.at_ % 2 ^ 64)))).pump n)

/-- The Tempo states and UTC (03:R77 to R79, R81, R82, R109). -/
def Obligations.TempoStatesAndUtc : Prop :=
  ∀ s : State, s.pkg.fw.off = 0 →
    let t := s.pkg.tempo
    (t.role = .follower → t.st = .locked → t.lastAcc + 3000000 ≤ t.local_ → Leaves .tempoHoldover s fun x =>
      x.bare = { s.pkg with tempo := { t with st := .holdover, holdSince := t.local_, degraded := false, accRun := 0 } }.bare
      ∧ Reports x 0x0108 0xFF [ofSigned 64 (t.offset / tempoUnit)])
    ∧ (t.st = .holdover → t.degraded = false → t.holdSince + 10000000 ≤ t.local_ → Leaves .tempoDegraded s fun x =>
        x.bare = { s.pkg with tempo := { t with degraded := true } }.bare ∧ Reports x 0x0109 0xFF [t.local_ - t.holdSince])
    ∧ (t.degraded = true → exec .tempoDegraded s = .next s)
    ∧ (t.cdc = false → ∀ k, t.pllLock + 4096 ≤ 4096 * k → 4096 * k ≤ t.now → 4096 * k < t.pllLock + 8192 →
        Gives .cdcFifoRelease s { s.pkg with tempo := { t with cdc := true, cdcBehind := Config.cdcDepth, cdcAt := 4096 * k } })
    ∧ (4096 * (t.now / 4096) < t.pllLock + 4096 → exec .cdcFifoRelease s = .next s)
    ∧ (s.pkg.ent 0x2204 1 = 1 → ∀ m : PtpExchange, (m.domain ≠ s.pkg.ent 0x2204 2 → exec (.ptpSync m) s = .next s)
        ∧ (m.domain = s.pkg.ent 0x2204 2 → Leaves (.ptpSync m) s fun x =>
        x.bare = { s.pkg with tempo := { t with ptpAt := t.now } }.bare ∧ x.ent 0x2204 4 = ofSigned 64 (m.utcOffset t.now) ∧ .delayReq m.domain (t.now - m.ago3) ∈ x.out ∧ x.ent 0x2204 3 = 1
        ∧ SameEnts s.pkg x [(0x2204, 3), (0x2204, 4)]))
    ∧ (s.pkg.ent 0x2204 3 = 1 → Leaves .ptpUnsynced s fun x =>
        x.bare = s.pkg.bare ∧ x.ent 0x2204 3 = 0 ∧ SameEnts s.pkg x ((0x2204, 3) :: reportEnts) ∧ Reports x 0x010E 0xFF [t.now - t.ptpAt])
    ∧ ∀ n r k xs id t1 fwd rev, n < 24 → s.pkg.takeRx n (fun h => decide (h.op = 10) && decide (h.spec % 256 = 2)) = some (r, k) →
        t.sent = some (id, t1) → t.role = .follower → t.parent = n + 1 → id = fld (r.packet.drop 32) 0 2 → t.gather = some xs → xs.length < 7 → (s.pkg.port n).queue = [] →
        fwd = fineDiff (fld (r.packet.drop 32) 16 8) t1 - rev →
        Gives (.syncRsp n rev) s { k.pump n with tempo := { t with sent := none, gather := some (xs ++ [
          { delay := (fwd + (fineDiff r.at_ (fld (r.packet.drop 32) 24 8) - toSigned 64 (fld (r.packet.drop 32) 8 8))) * 125
            offset := (fwd - (fineDiff r.at_ (fld (r.packet.drop 32) 24 8) - toSigned 64 (fld (r.packet.drop 32) 8 8))) * 125
              - toSigned 32 (k.ent 0x2202 (n + 1)) * 64 }]) } }

/-- Frames of a member (03:R84 to R90, R112, R115). Which node combines the records is the model's choice (log entry 11). -/
def Obligations.TicksAndFrames : Prop :=
  (∀ (k : Pkg) (p job node : Nat) (r : List Byte), (k.part p).img.members = [k.node] → node = k.node → (k.part p).mem.awaiting ≠ none →
    Tab.get [] k.net.gathered job = [] → ((k.gatherReport (some p) job node r).part p).mem.combined = some r)
  ∧ (∀ (k : Pkg) (p job node : Nat) (r q : List Byte), node ≠ k.node → (k.part p).img.members = [k.node, node] → (k.part p).mem.awaiting ≠ none →
    Tab.get [] k.net.gathered job = [(k.node, r)] → ((k.gatherReport (some p) job node q).part p).mem.combined = some (combineReports r q))
  ∧ (∀ a b : List Byte,
    let c := combineReports a b
    fld c 0 8 = min (fld a 0 8) (fld b 0 8) ∧ fld c 8 8 = max (fld a 8 8) (fld b 8 8) ∧ fld c 16 8 = max (fld a 16 8) (fld b 16 8)
    ∧ byteAt c 24 = byteAt a 24 &&& byteAt b 24 ∧ byteAt c 25 = byteAt a 25 ||| byteAt b 25
    ∧ ∀ i, i < 4 → fld c (32 + 16 * i) 8 = min (fld a (32 + 16 * i) 8) (fld b (32 + 16 * i) 8)
        ∧ fld c (40 + 16 * i) 8 = max (fld a (40 + 16 * i) 8) (fld b (40 + 16 * i) 8))
  ∧
  ∀ (s : State) (p : Nat), p < 16 → s.pkg.fw.off = 0 →
    let x := s.pkg.part p
    let m := x.mem
    let n := m.fired
    let due := max (m.s + (n - m.m) * m.f) m.schedAt
    let ticked := s.pkg.setMem p { m with
      fired := n + 1, fires := Tab.insert m.fires n due
      inputs := m.inputs.map (fun i => if i.target.isNone && decide (i.arrived < due) then { i with target := some n } else i) }
    (s.pkg.tempo.now < due → exec (.tickFire p) s = .next s)
    ∧ (x.ticking = false → exec (.tickFire p) s = .next s)
    ∧ (x.ticking = true → due ≤ s.pkg.tempo.now → n ≠ m.next → Gives (.tickFire p) s ticked)
    ∧ (x.ticking = true → due ≤ s.pkg.tempo.now → n = m.next → (m.ended = none ∨ m.repDone < n) → Gives (.tickFire p) s (ticked.dropGambits p))
    ∧ (x.ticking = true → due ≤ s.pkg.tempo.now → n = m.next → m.ended ≠ none → n ≤ m.repDone → x.recd.mode = 0 → m.applying = [] → Gives (.tickFire p) s ticked)
    ∧ (m.ended = none → exec (.frameStart p) s = .next s)
    ∧ (x.st = .ready → m.go = false → exec (.frameStart p) s = .next s)
    ∧ (∀ e, x.st = .running → m.begun = true → m.fired = m.next + 1 → m.ended = some e → m.next ≤ m.repDone → x.recd.mode = 0 → m.cutEnd = 0 →
        m.applying = [] → m.inputs = [] → m.digest = false → (∀ r ∈ s.pkg.tier.regions, r.2.sealing = none) → s.pkg.ent (0x8000 + p) 1 = 0 → s.pkg.ent (0x8000 + p) 2 = 0 →
        e.1 ≤ m.s + (m.next - m.m) * m.f → m.repAt ≤ m.s + (m.next - m.m) * m.f → x.recd.roomAt ≤ m.s + (m.next - m.m) * m.f →
        m.s + (m.next - m.m) * m.f ≤ s.pkg.tempo.now → Leaves (.frameStart p) s fun k =>
          (k.part p).st = .running ∧ (k.part p).mem.n = m.next ∧ (k.part p).mem.begun = true ∧ (k.part p).mem.start = m.s + (m.next - m.m) * m.f
          ∧ (k.part p).mem.awaiting = some (m.next + 1, s.pkg.tempo.now) ∧ (k.part p).mem.ended = none ∧ (∀ q, q ≠ p → k.part q = s.pkg.part q)
          ∧ k.dstore = s.pkg.dstore)
    ∧ (∀ j at_ r, m.awaiting = some (j + 1, at_) → m.combined = some r →
        let k := s.pkg.setMem p { m with awaiting := none, combined := none, repDone := j + 1, repAt := s.pkg.tempo.now }
        (fld r 0 8 = fld r 8 8 → fld r 16 8 = 0 → Gives (.tickReport p (j + 1)) s (k.decideSlots p (j + 1) r))
        ∧ (fld r 0 8 ≠ fld r 8 8 → Gives (.tickReport p (j + 1)) s ((k.hold p 0x0102).raise 0x0102 p [j])))
    ∧ (∀ i, (m.combined = none ∨ m.awaiting.map (fun a => a.1) ≠ some i) → exec (.tickReport p i) s = .next s)
    ∧ (∀ j at_, m.awaiting = some (j + 1, at_) → x.st = .running → at_ + 50000000 ≤ s.pkg.tempo.now → Leaves (.tickReportStalled p) s fun k =>
        (k.part p).st = .holding ∧ (k.part p).holdCause = 0x0102 ∧ (k.part p).mem.state = 3 ∧ (∀ q, q ≠ p → k.part q = s.pkg.part q)
        ∧ Reports k 0x0102 p [j])
    ∧ (∀ at_, m.awaiting = some (0, at_) → at_ + 50000000 ≤ s.pkg.tempo.now → Leaves (.launchReportStalled p) s fun k =>
        k.part p = { x with mem := { m with state := 0, launch := none, go := false, awaiting := none, combined := none } } ∧ Reports k 0x0105 p [2])
    ∧ (∀ t, t < 6144 → (s.pkg.tile t).part = p + 1 → x.st = .running → s.pkg.ramped t = true → ((s.pkg.tile t).mode = .rampWait ∨ (s.pkg.tile t).mode = .frameDone) →
        (s.pkg.fenced t = true → exec (.rampSlot t) s = .next s)
        ∧ (s.pkg.fenced t = false → Gives (.rampSlot t) s ((s.pkg.mapRecovery t (fun r => if r.step = 1 && !r.recorded then { r with start := s.pkg.tempo.now } else r)).setTile t { s.pkg.tile t with
          mode := .running, entered := s.pkg.tempo.now, spanCyc := 0, spanFrom := s.pkg.tempo.now })))
    ∧ (∀ c, x.st = .checkpointing → x.cap = some c → c.step = 2 → m.combined = none → c.sent + 50000000 ≤ s.pkg.tempo.now → Leaves (.tickReportStalled p) s fun k =>
        k.part p = { x with st := .holding, holdCause := 0x0102, mem := { m with state := 3 } } ∧ Reports k 0x0102 p [fld c.bytes 8 8])
    ∧ (∀ off d, x.recd.mode = 0 → exec (.recordRingRoom p off d) s = .next s)
    ∧ (∀ off d, x.recd.mode = 1 → x.recd.gap = 0 → x.recd.wait = [] →
        Gives (.recordRingRoom p off d) s (s.pkg.setPart p { x with recd := { x.recd with cons := off } }))

/-- The registers and queues of a virtual function (14:R432, R433, R436, 18:R549). -/
def Obligations.QueueRegisters : Prop :=
  ∀ (s : State) (k p : Nat), p < 16 → s.pkg.fw.off = 0 →
    let q := (s.pkg.part p).q
    (s.pkg.hostPort p ≠ k → ∀ v w d, ∀ i ∈ [Instr.cmdqTailWrite k p v d, .cplqHeadWrite k p v, .queueCfgWrite k p w v, .inputDbWrite k p w v],
      exec i s = .next s)
    ∧ (s.pkg.hostPort p = k →
      (∀ v, Gives (.cplqHeadWrite k p v) s (s.pkg.setQ p { q with cplHead := v % 65536 }))
      ∧ (∀ v, Gives (.queueCfgWrite k p 0 v) s (s.pkg.setQ p { q with cmdBase := v % 2 ^ 64 / 4096 * 4096 })
          ∧ Gives (.queueCfgWrite k p 0x10 v) s (s.pkg.setQ p { q with cplBase := v % 2 ^ 64 / 4096 * 4096 })
          ∧ Gives (.queueCfgWrite k p 0x2C v) s (s.pkg.setQ p { q with error := q.error && !(bit v 3) })
          ∧ Gives (.queueCfgWrite k p 0x30 v) s (s.pkg.setQ p { q with irq := bit v 0 }))
      ∧ (∀ l, 4 ≤ l → l ≤ 12 → q.cmdEn = false → q.cplEn = false →
          (q.tail < 2 ^ l → Gives (.queueCfgWrite k p 8 (2 ^ 31 + l)) s (s.pkg.setQ p { q with cmdLog := l, cmdEn := true, stopped := false }))
          ∧ (2 ^ l ≤ q.tail → Gives (.queueCfgWrite k p 8 (2 ^ 31 + l)) s (s.pkg.setQ p { q with cmdLog := l, cmdEn := true, stopped := true, error := true }))
          ∧ Gives (.queueCfgWrite k p 0x18 (2 ^ 31 + l)) s (s.pkg.setQ p { q with cplLog := l, cplEn := true, stopped := false }))
      ∧ (∀ l, l < 4 ∨ 12 < l → l < 16 → q.cmdEn = false → q.cplEn = false →
          Gives (.queueCfgWrite k p 8 (2 ^ 31 + l)) s (s.pkg.setQ p { q with cmdLog := l, cmdEn := true, stopped := true, error := true }))
      ∧ (∀ l, l < 16 → q.cplEn = false → Gives (.queueCfgWrite k p 8 l) s (s.pkg.setQ p { q with cmdLog := l, cmdEn := false }))
      ∧ (q.cmdEn = true → q.stopped = false →
          (∀ v d, v < 65536 → 2 ^ q.cmdLog ≤ v → Gives (.cmdqTailWrite k p v d) s (s.pkg.setQ p { q with tail := v, error := true, stopped := true }))
          ∧ (s.pkg.served = true → (s.pkg.pci k).up = true → ∀ v, v < 2 ^ q.cmdLog → v < 65536 → v ≠ q.head →
            (∀ b, Gives (.cmdqTailWrite k p v (.ok b)) s ((s.pkg.setQ p { q with
              tail := v, head := v
              read := q.read ++ (List.range ((v + 2 ^ q.cmdLog - q.head) % 2 ^ q.cmdLog)).map
                (fun i => padTo 64 (slice b (64 * i) 64) ++ natLe 8 q.gen) }).settled p))
            ∧ ∀ c, Leaves (.cmdqTailWrite k p v (.error c)) s fun x =>
              (x.part p).q = { q with tail := v, error := true, stopped := true } ∧ x.ent (0x1011 + k) 9 = s.pkg.ent (0x1011 + k) 9 + 1
              ∧ Reports x 0x0914 p [k, p + 1, c]))
      ∧ (∀ i v, i < 8 → Leaves (.inputDbWrite k p i v) s fun x =>
          (x.part p).q = { q with doors := Tab.set 0 q.doors i (v % 2 ^ 64) } ∧ x.dstore = s.pkg.dstore ∧ x.dict = s.pkg.dict
          ∧ (x.part p).mem.inputs = (s.pkg.part p).mem.inputs ++ (if (s.pkg.part p).st = .empty then [] else
              [({ kind := 2, addr := i, len := 8, data := natLe 8 v, arrived := s.pkg.tempo.now } : Pend)])))
    ∧ (q.cplEn = true → 4 ≤ q.cplLog → q.cplLog ≤ 12 → (s.pkg.pci (s.pkg.hostPort p)).up = true → ∀ c rest, q.wait = c :: rest →
      ((q.cplTail + 1) % 2 ^ q.cplLog ≠ q.cplHead % 2 ^ q.cplLog → Gives (.completionPost p) s
        ((s.pkg.setQ p { q with
          wait := rest, cplTail := (q.cplTail + 1) % 2 ^ q.cplLog, phase := if q.cplTail + 1 = 2 ^ q.cplLog then !q.phase else q.phase }).emit
          (.completion p q.cplTail (c.take 6 ++ [BitVec.ofNat 8 (b2n q.phase)] ++ c.drop 7) q.irq)))
      ∧ ((q.cplTail + 1) % 2 ^ q.cplLog = q.cplHead % 2 ^ q.cplLog → exec (.completionPost p) s = .next s))

/-- States in which each host command may be issued (14:R434); any other gives BAD_STATE (14:R435).
A command with a reserved opcode completes BAD_OPERAND (14:R433, R435). -/
def Obligations.CommandsByState : Prop :=
  (∀ (s : State) (p : Nat) (e : List Byte) (rest : List (List Byte)) (d : DmaRes),
    ∀ c ∈ ([(1, Instr.loadBegin p, [PState.empty]), (2, .dstoreWrite p d, [.loading]),
        (3, .dstoreRead p, [.loading, .ready, .holding, .faulted, .running, .checkpointing]), (4, .loadCommit p, [.loading]), (5, .launch p d, [.ready]),
        (6, .stage p, [.running]), (0x10, .preempt p, [.running]), (7, .inputWrite p d, [.running, .checkpointing]), (8, .regionCreate p, [.loading, .ready, .running, .holding]),
        (9, .regionSeal p, [.loading, .ready, .running, .holding, .checkpointing, .faulted]),
        (0x0A, .regionUnseal p, [.loading, .ready, .running, .holding, .checkpointing, .faulted]),
        (0x0B, .regionDestroy p, [.loading, .ready, .running, .holding, .checkpointing, .faulted]),
        (0x0C, .regionPin p, [.loading, .ready, .running, .holding]),
        (0x0D, .packetWrite p d, [.loading, .ready, .running, .holding, .checkpointing, .faulted]),
        (0x0E, .packetRead p, [.loading, .ready, .running, .holding, .checkpointing, .faulted]),
        (0x11, .restore p d, [.loading, .ready]), (0x12, .rollback p, [.ready, .running, .holding, .checkpointing, .faulted]),
        (0x13, .resume p, [.holding]), (0x14, .unload p, [.loading, .ready, .running, .holding, .checkpointing, .faulted])] : List (Nat × Instr × List PState)),
      s.pkg.takes p c.1 e rest → (s.pkg.part p).st ∉ c.2.2 →
        Gives c.2.1 s (((s.pkg.took p rest).complete p (cmdId e) c.1 1 0).settled p))
  ∧ (∀ (s : Pkg) (p : Nat) (e : List Byte) (rest : List (List Byte)), (s.part p).q.read = e :: rest →
    (byteAt e 0 ∈ hostOps → s.cmdWaits p e = false → s.settled p = s)
    ∧ (byteAt e 0 ∈ hostOps → s.cmdWaits p e = true → s.settled p = s.settleQ p [e] rest)
    ∧ (∀ pre f more, byteAt f 0 ∉ hostOps → s.settleQ p pre (f :: more) = ((s.took p (pre ++ more)).complete p (cmdId f) (byteAt f 0) 2 0).settleQ p pre more)
    ∧ (byteAt e 0 ∉ hostOps → s.settled p = ((s.took p rest).complete p (cmdId e) (byteAt e 0) 2 0).settled p)
    ∧ ∀ id op st res, id / 2 ^ 32 = (s.part p).q.gen →
        ((s.complete p id op st res).part p).q.wait = (s.part p).q.wait ++ [natLe 4 id ++ natLe 2 st ++ natLe 1 0 ++ natLe 1 op ++ natLe 8 res]
        ∧ (s.complete p id op st res).ent (0x2000 + p) 0x0A = st)

/-- Host commands that touch the die store (09:R266, 14:R434, R436, 18:R553). -/
def Obligations.StoreCommands : Prop :=
  ∀ (s : State) (p : Nat) (e : List Byte) (rest : List (List Byte)),
    let k := s.pkg.took p rest
    let a := fld e 24 8
    let n := fld e 32 4
    (s.pkg.takes p 2 e rest → (s.pkg.part p).st = .loading →
      (k.dsOperand p e 64 0x40000000 = true → ∀ b,
        Gives (.dstoreWrite p (.ok b)) s ((((k.countWrite p 48 a (padTo n b).length).dstorePut a (padTo n b)).complete p (cmdId e) 2 0 0).settled p)
        ∧ Gives (.dstoreWrite p (.abandoned b)) s (((k.countWrite p 48 a (b.take n).length).dstorePut a (b.take n)).settled p)
        ∧ ∀ c, Gives (.dstoreWrite p (.error c)) s (((k.dmaError p c).complete p (cmdId e) 2 2 1).settled p))
      ∧ (k.dsOperand p e 64 0x40000000 = false → ∀ d, Gives (.dstoreWrite p d) s ((k.complete p (cmdId e) 2 2 0).settled p)))
    ∧ (s.pkg.takes p 3 e rest → k.dsOperand p e 64 0x40000000 = true →
      ((s.pkg.part p).st ∈ [PState.loading, .ready, .holding, .faulted] → Gives (.dstoreRead p) s
        ((((k.countRead p n).hostDma p (cmdId e) (fld e 16 8) (k.dsBytes a n)).complete p (cmdId e) 3 0 (s.pkg.part p).mem.n).settled p))
      ∧ ((s.pkg.part p).st ∈ [PState.running, .checkpointing] → Gives (.dstoreRead p) s ((k.queueInput p
          { kind := 4, target := cmdTarget e, cmd := cmdId e, op := 3, addr := a, host := fld e 16 8, len := n, targeted := bit (byteAt e 1) 0 }).settled p)))
    ∧ (s.pkg.takes p 7 e rest → (s.pkg.part p).st ∈ [PState.running, .checkpointing] → k.dsOperand p e 1 65536 = true → ∀ b, Gives (.inputWrite p (.ok b)) s
        ((k.queueInput p { kind := 1, target := cmdTarget e, cmd := cmdId e, op := 7, addr := a, len := n, data := padTo n b
                           targeted := bit (byteAt e 1) 0 }).settled p))
    ∧ ∀ d, d < 48 → s.pkg.fw.off = 0 →
        ((s.pkg.sdie d).clearing = false → exec (.dstoreClearDone d) s = .next s)
        ∧ ((s.pkg.sdie d).clearing = true → (∀ q, q < 16 → d ∉ (s.pkg.part q).clearing) → Gives (.dstoreClearDone d) s
            (({ s.pkg.setSdie d { s.pkg.sdie d with clearing := false, lost := [] } with
                dstore := s.pkg.dstore.clear (d * 0x80000000) 0x50000000 }).invalidate
              ((s.pkg.cached.filter (fun (e : Nat × Nat) => decide (e.1 * 64 / 0x80000000 = d))).map (fun (e : Nat × Nat) => e.1))))

/-- The bytes a store command changes, and no other (14:R434, 09:R266); the canonical form of the die store stays. -/
def Obligations.StoreBytes : Prop :=
  (∀ (k : Pkg) (a : Nat) (b : List Byte),
    (∀ i, i < b.length → (k.dstorePut a b).dstore.read (a + i) = b.getD i 0)
    ∧ (∀ x, x < a ∨ a + b.length ≤ x → (k.dstorePut a b).dstore.read x = k.dstore.read x)
    ∧ (Memory.wf k.dstore = true → Memory.wf (k.dstorePut a b).dstore = true))
  ∧ (∀ (s : State) (p : Nat) (e : List Byte) (rest : List (List Byte)) (b : List Byte), s.pkg.takes p 2 e rest → (s.pkg.part p).st = .loading →
      (s.pkg.took p rest).dsOperand p e 64 0x40000000 = true → b.length = fld e 32 4 →
      Leaves (.dstoreWrite p (.ok b)) s fun k =>
        (∀ i, i < b.length → k.dstore.read (fld e 24 8 + i) = b.getD i 0)
        ∧ ∀ x, x < fld e 24 8 ∨ fld e 24 8 + fld e 32 4 ≤ x → k.dstore.read x = s.pkg.dstore.read x)
  ∧ ∀ (s : State) (d : Nat), d < 48 → s.pkg.fw.off = 0 → (s.pkg.sdie d).clearing = true → Memory.wf s.pkg.dstore = true →
      Leaves (.dstoreClearDone d) s fun k =>
        Memory.wf k.dstore = true
        ∧ (∀ x, x / 0x80000000 = d → x % 0x80000000 < 0x50000000 → k.dstore.read x = 0)
        ∧ ∀ x, x / 0x80000000 ≠ d ∨ 0x50000000 ≤ x % 0x80000000 → k.dstore.read x = s.pkg.dstore.read x

/-- Region commands (09:R272 to R277, R293, R295, 14:R434).
Creation and closing of regions (09:R272, R274 to R277). -/
def Obligations.RegionCommands : Prop :=
  (∀ (s : State) (p : Nat) (e : List Byte) (rest : List (List Byte)),
    let k := s.pkg.took p rest
    let r := fld e 16 2
    let st := (s.pkg.part p).st
    (s.pkg.takes p 8 e rest → st ∈ [PState.loading, .ready, .running, .holding] → fld e 16 4 ≠ 0 → byteAt e 20 < 32 → byteAt e 21 < 2 →
      fmtOk (byteAt e 20 % 16) = true → scaledOk (byteAt e 20 % 16) (bit (byteAt e 20) 4) = true →
      fld e 16 4 * panOf (byteAt e 20 % 16) (bit (byteAt e 20) 4) ≤ 0x800000000 → Gives (.regionCreate p) s
        ((k.askCreate { part := p, cmd := cmdId e, packets := fld e 16 4, fmt := byteAt e 20 % 16, scaled := bit (byteAt e 20) 4, pin := decide (byteAt e 21 = 1) }).settled p))
    ∧ (∀ c ∈ ([(9, 5, Instr.regionSeal p, Pkg.sealNow), (0x0A, 6, .regionUnseal p, Pkg.unsealNow), (0x0B, 7, .regionDestroy p, Pkg.destroyNow)]
          : List (Nat × Nat × Instr × (Pkg → Nat → Nat → Nat → Pkg))),
        s.pkg.takes p c.1 e rest →
        (st ∈ [PState.running, .holding, .checkpointing] → Gives c.2.2.1 s
          ((k.queueInput p { kind := c.2.1, target := cmdTarget e, cmd := cmdId e, op := c.1, addr := r, targeted := bit (byteAt e 1) 0 }).settled p))
        ∧ (st ∈ [PState.loading, .ready, .faulted] → k.regionMine p r = true →
            Gives c.2.2.1 s ((c.2.2.2 k p (cmdId e) r).settled p))
        ∧ (st ∈ [PState.loading, .ready, .faulted] → k.regionMine p r = false →
            Gives c.2.2.1 s ((k.complete p (cmdId e) c.1 12 0).settled p)))
    ∧ (k.regionMine p r = true →
        ((k.region r).st = 2 → k.poolHolds r { k.region r with st := 3, toward := 1 } = true → ∀ id,
          k.unsealNow p id r = (k.closeRegion r 1 false).complete p id 0x0A 0 (k.part p).mem.n)
        ∧ ((k.region r).st = 2 → (k.region r).sealing = none → ∀ id, k.destroyNow p id r =
            (((k.setRegion r { k.region r with hold := [], sealing := none }).closeRegion r 0 false).finishCreates 1024).complete p id 0x0B 0 (k.part p).mem.n)
        ∧ ((k.region r).st = 1 → (k.region r).hold = [] → (k.region r).sealing = none → ∀ id,
            k.sealNow p id r = (k.setRegion r { k.region r with sealing := some id }).sealReady (some p)))
    ∧ (s.pkg.takes p 0x0C e rest → st ∈ [PState.loading, .ready, .running, .holding] → k.regionMine p r = true → (k.region r).st ≠ 3 →
        (byteAt e 18 = 0 → Gives (.regionPin p) s (((k.setRegion r { k.region r with pinned := false }).complete p (cmdId e) 0x0C 0 0).settled p))
        ∧ (byteAt e 18 = 1 → k.poolHolds r { k.region r with pinned := true } = true →
            Gives (.regionPin p) s (((k.setRegion r { k.region r with pinned := true }).complete p (cmdId e) 0x0C 0 0).settled p))
        ∧ (byteAt e 18 = 1 → k.poolHolds r { k.region r with pinned := true } = false →
            Gives (.regionPin p) s ((k.complete p (cmdId e) 0x0C 11 0).settled p)))
    ∧ (∀ b, s.pkg.takes p 0x0D e rest → st ≠ .empty → k.regionMine p r = true → (k.region r).st = 1 → (k.region r).sealing = none →
        fld e 20 4 + fld e 24 4 ≤ (k.region r).packets → b.length = fld e 24 4 * (k.region r).P → Gives (.packetWrite p (.ok b)) s
          ((((List.range (b.length / (k.region r).P)).foldl
            (fun (x : Pkg) i => x.hostPacket r (fld e 20 4 + i) (Sys2Proof.slice b (i * (k.region r).P) (k.region r).P)) k).complete p (cmdId e) 0x0D 0 0).settled p))
    ∧ (s.pkg.takes p 0x0E e rest → st ≠ .empty → r < 1024 → (k.region r).st = 2 → (k.region r).part = p →
        fld e 20 4 + fld e 24 4 ≤ (k.region r).packets → 0 < fld e 24 4 → Gives (.packetRead p) s
          (((List.range (fld e 24 4)).foldl (fun (x : Pkg) i => x.readPacket (.host p k.tier.next i) r (fld e 20 4 + i))
            { k.refer r with tier := { (k.refer r).tier with
                next := k.tier.next + 1
                host := k.tier.host ++ [({ part := p, cmd := k.tier.next, left := fld e 24 4, addr := fld e 28 8, pan := (k.region r).P, region := r
                                           id := cmdId e } : THost)] } }).settled p))
    ∧ (s.pkg.fw.off = 0 → ∀ id j, s.pkg.job id = some j →
        ((match j.use with | .restore _ _ => false | _ => true) = true → Gives (.tierPacketLanded id) s (s.pkg.land id))
        ∧ ∀ q i, j.use = .restore q i → Gives (.tierPacketLanded id) s ((s.pkg.land id).restoreStep q)))
  ∧ ((∀ (s : Pkg) (c d : TCreate), s.tier.asked = [] → d.part < c.part →
    let make (k : Pkg) (x : TCreate) : Pkg := k.createRegion x.part x.cmd x.packets x.fmt x.scaled x.pin
    (s.askCreate c).createAsked = make s c ∧ ((s.askCreate c).askCreate d).createAsked = make (make s d) c
    ∧ ((s.askCreate d).askCreate c).createAsked = make (make s d) c)
  ∧ ∀ (s : Pkg) (p id n fmt r : Nat) (scaled pin : Bool),
    let e := extentsOf fmt scaled n
    (s.partExtents p (fun _ => true) + e ≤ s.ent (0x4110 + p) 1 → s.tier.creating = [] → e ≤ s.extentsFree → s.freeRegion = some r →
      s.createRegion p id n fmt scaled pin =
        (({ s with tier := { s.tier with creating := [] } }.setRegion r
          { st := 1, part := p, fmt := fmt, scaled := scaled, packets := n, borrowed := false, pinned := pin, gen := ((s.region r).gen + 1) % 2 ^ 32
            last := s.tempo.now }).takeExtents r e).complete p id 8 0 (r + ((s.region r).gen + 1) % 2 ^ 32 * 65536))
    ∧ (s.ent (0x4110 + p) 1 < s.partExtents p (fun _ => true) + e → (∀ x ∈ s.tier.regions, x.2.evictable = false) → s.extentsFree < e → p < 16 →
      (s.createRegion p id n fmt scaled pin) = ((s.bump (0x4110 + p) 0x0F 1).raise 0x0302 p [e, (s.bump (0x4110 + p) 0x0F 1).extentsFree]).complete p id 8 11 0)
    ∧ (s.regionRefs r = 0 → ∀ ev,
        (s.closeRegion r 1 ev).region r = { s.region r with st := 1, toward := 0, evicted := ev }
        ∧ (s.closeRegion r 0 ev).region r = { gen := (s.region r).gen, freed := s.tier.next + 1 }))

/-- LOAD_BEGIN (14:R425 to R427, 09:R266). -/
def Obligations.LoadBeginComposes : Prop :=
  ∀ (s : State) (p : Nat) (e : List Byte) (rest : List (List Byte)),
    let k := s.pkg.took p rest
    (s.pkg.takes p 1 e rest → (s.pkg.part p).st = .empty →
      (∀ c, k.beginRefusal p = some c → Gives (.loadBegin p) s ((k.complete p (cmdId e) 1 3 c).settled p))
      ∧ (k.beginRefusal p = none →
          Gives (.loadBegin p) s ((k.compose p (some (cmdId e, 1))).settled p)
          ∧ ((k.compose p (some (cmdId e, 1))).part p).st = .loading
          ∧ ((k.compose p (some (cmdId e, 1))).part p).dies = k.namedDies p
          ∧ ((k.compose p (some (cmdId e, 1))).part p).harts = k.freeHarts.take (k.ent (0x2000 + p) 3)
          ∧ ((k.compose p (some (cmdId e, 1))).part p).clearing = k.namedDies p
          ∧ ((k.compose p (some (cmdId e, 1))).part p).clearCmd = some (cmdId e, 1)
          ∧ (∀ d ∈ k.namedDies p, ((k.compose p (some (cmdId e, 1))).sdie d).clearing = true)
          ∧ ∀ q, q ≠ p → (k.compose p (some (cmdId e, 1))).part q = s.pkg.part q))
    ∧ (k.beginRefusal p = none ↔
        (k.fault.noLoad = false ∧ ∀ d ∈ k.namedDies p, k.partsOfDie d = [] ∧ d ∉ k.fault.noAssign)
        ∧ k.ent (0x2000 + p) 3 ≤ k.freeHarts.length
        ∧ k.partsLive.foldl (fun n q => n + k.ent (0x2000 + q) 4) (k.ent (0x2000 + p) 4) ≤ 98304
        ∧ (∀ q ∈ k.partsLive, k.ent (0x2000 + q) 5 ≠ k.ent (0x2000 + p) 5)
        ∧ k.namedDies p ≠ [] ∧ 0 < k.ent (0x2000 + p) 5 ∧ k.ent (0x2000 + p) 5 < 2 ^ 24)
    ∧ ∀ d c, p < 16 → d < 48 → s.pkg.fw.off = 0 → (s.pkg.sdie d).clearing = true → (s.pkg.part p).clearing = [d] → (s.pkg.part p).clearCmd = some (c, 1) →
        (∀ q, q < 16 → q ≠ p → d ∉ (s.pkg.part q).clearing) → Leaves (.dstoreClearDone d) s fun x =>
          (x.part p).clearing = [] ∧ (x.part p).clearCmd = none ∧ (x.sdie d).clearing = false ∧ (x.sdie d).lost = []
          ∧ (x.part p).st = (s.pkg.part p).st ∧ x.ent (0x2000 + p) 0x0A = 0
          ∧ (c / 2 ^ 32 = (s.pkg.part p).q.gen → (x.part p).q.wait = (s.pkg.part p).q.wait ++ [natLe 4 c ++ natLe 2 0 ++ natLe 1 0 ++ natLe 1 1 ++ natLe 8 0])

/-- LOAD_COMMIT (14:R426, R437 to R439, 02:R73, 04:R152). -/
def Obligations.LoadCommitMakesReady : Prop :=
  ∀ (s : State) (p : Nat) (e : List Byte) (rest : List (List Byte)), s.pkg.takes p 4 e rest → (s.pkg.part p).st = .loading →
    (s.pkg.part p).clearing = [] → (s.pkg.part p).rst = none →
    let k := s.pkg.took p rest
    let a := fld e 16 8
    (k.ownRange p a 256 = false → Gives (.loadCommit p) s ((k.complete p (cmdId e) 4 2 0).settled p))
    ∧ (k.ownRange p a 256 = true → ∀ c, k.imageRefusal p a = some c → Gives (.loadCommit p) s ((k.complete p (cmdId e) 4 4 c).settled p))
    ∧ (k.ownRange p a 256 = true → k.imageRefusal p a = none →
      let m := k.readImage p a
      let x := s.pkg.part p
      let img := m.image (k.numNow p)
      let y : Part := ({ k.part p with img := img, layout := 0, rank := k.rankIn m.members } : Part).settle 0
      let ts := tilesOf x.dies
      let bound := (k.setPart p y).bindUnits p
      let tiled := ((List.range ts.length).zip ts).foldl (fun (s : Pkg) t => s.loadTile t.2 t.1 (m.tiles.getD t.1 [])) bound
      let whole := ((List.range x.harts.length).zip x.harts).foldl
        (fun (s : Pkg) h => s.dstorePut (s.hartRecAddr h.2 0) (hartRecord0 h.1 img.hartPc)) tiled
      Gives (.loadCommit p) s (((whole.writeCoords p).complete p (cmdId e) 4 0 0).settled p)
      ∧ (y.st = .ready ∧ y.startFrame = 0 ∧ y.holdCause = 0 ∧ y.dies = x.dies ∧ y.harts = x.harts ∧ y.mem.f = fld m.h 16 4 * 1000 ∧ y.mem.w = fld m.h 20 4
          ∧ y.mem.b = fld m.h 24 8 ∧ y.mem.cap = byteAt m.h 32 ∧ y.mem.gambit = bit (byteAt m.h 7) 0 ∧ y.mem.digest = bit (byteAt m.h 7) 1 ∧ y.mem.n = 0)
      ∧ ∀ (z : Pkg) (t i : Nat) (row : List Byte), ((z.loadTile t i row).tile t).mode = .rampWait ∧ ((z.loadTile t i row).tile t).frameEnd = true)

/-- LAUNCH (03:R80, R85, 14:R440) and RESTORE (14:R452).
RESUME, ROLLBACK, UNLOAD (14:R430, R431, R453).
LAUNCH, RESTORE, RESUME, ROLLBACK and UNLOAD complete (03:R80, R85, 14:R429 to R431, R440, R452, R453). -/
def Obligations.LaunchAndRestore : Prop :=
  (∀ (s : State) (p : Nat) (e : List Byte) (rest : List (List Byte)), (s.pkg.part p).rst = none →
    let k := s.pkg.took p rest
    let x := k.part p
    (s.pkg.takes p 5 e rest → x.st = .ready →
      (x.mem.state ≠ 0 → ∀ d, Gives (.launch p d) s ((k.complete p (cmdId e) 5 1 0).settled p))
      ∧ (x.mem.state = 0 → ∀ r, r.length = 64 →
        ((zeroAt r 34 2 = false ∨ zeroAt r 40 24 = false) → Gives (.launch p (.ok r)) s ((k.complete p (cmdId e) 5 2 0).settled p))
        ∧ (zeroAt r 34 2 = true → zeroAt r 40 24 = true →
          (k.launchOk p r = false → Gives (.launch p (.ok r)) s (((k.launchReport p false 0).complete p (cmdId e) 5 7 0).settled p))
          ∧ (k.launchOk p r = true → Gives (.launch p (.ok r)) s
              ((((k.setPart p { x with
                mem := { x.mem with state := 1, launch := some (r, cmdId e), launchHash := x.launchHash r, s := fld r 0 8, m := fld r 8 8, n := fld r 8 8 }
                ckptBase := fld r 0 8, ckptTried := false }).launchReport p true (x.launchHash r)).complete p (cmdId e) 5 0 0).settled p))
          ∧ (k.launchOk p r = true → s.pkg.tempo.now + 1000000 ≤ fld r 0 8 ∧ fld r 8 8 = x.startFrame ∧ fld r 16 4 = x.img.fUs
              ∧ (s.pkg.tempo.st = .locked ∨ s.pkg.tempo.st = .holdover)))))
    ∧ (s.pkg.takes p 0x11 e rest → x.clearing = [] → x.st = .loading ∨ x.st = .ready →
      let rs := ((List.range 4).map (fun i => fld e (16 + 2 * i) 2)).filter (· ≠ 0xFFFF)
      (rs = [] → ∀ d, Gives (.restore p d) s ((k.complete p (cmdId e) 0x11 2 0).settled p))
      ∧ (rs ≠ [] → fld e 32 4 = 0 →
        ((∃ r ∈ rs, 1024 ≤ r ∨ (k.region r).st ≠ 2 ∨ (k.region r).part ≠ p) → ∀ d, Gives (.restore p d) s ((k.complete p (cmdId e) 0x11 12 0).settled p))
        ∧ ((∀ r ∈ rs, r < 1024 ∧ (k.region r).st = 2 ∧ (k.region r).part = p) → ∀ d, Gives (.restore p d) s
            (((rs.foldl Pkg.refer (k.setPart p { x with rst := some { cmd := cmdId e, regions := rs } })).restoreAsk p
              { cmd := cmdId e, regions := rs } 0).settled p)))))
  ∧ (∀ (s : State) (p : Nat) (e : List Byte) (rest : List (List Byte)),
    let k := s.pkg.took p rest
    let x := k.part p
    (s.pkg.takes p 0x13 e rest → x.st = .holding →
      (x.holdCause ≠ 0x0102 → Gives (.resume p) s ((k.complete p (cmdId e) 0x13 1 0).settled p))
      ∧ (x.holdCause = 0x0102 → (∀ c, x.cap = some c → Gives (.resume p) s
          (((k.setPart p { x with st := .checkpointing, holdCause := 0, mem := { x.mem with state := 2 }, cap := some { c with sent := k.tempo.now } }).complete
            p (cmdId e) 0x13 0 0).settled p))
        ∧ (x.cap = none → Gives (.resume p) s
          ((((k.leaveHold p).setPart p { (k.leaveHold p).part p with
            st := .running, holdCause := 0
            mem := { ((k.leaveHold p).part p).mem with
              state := 2, awaiting := ((k.leaveHold p).part p).mem.awaiting.map (fun a => (a.1, (k.leaveHold p).tempo.now)) } }).complete
            p (cmdId e) 0x13 0 0).settled p))))
    ∧ (s.pkg.takes p 0x12 e rest → x.st ∈ [PState.ready, .running, .holding, .checkpointing, .faulted] →
      (x.st = .faulted → (∃ d ∈ x.dies, d ∈ k.fault.noAssign) → Gives (.rollback p) s ((k.complete p (cmdId e) 0x12 3 0).settled p))
      ∧ (∀ pre behind, x.st ≠ .faulted ∨ (∀ d ∈ x.dies, d ∉ k.fault.noAssign) → s.pkg.nextCmd p [] (s.pkg.part p).q.read = some (pre, e, behind) →
        let h := ((((pre.foldl (fun (z : Pkg) c => z.complete p (cmdId c) (byteAt c 0) 13 0) (k.took p behind)).captureFailed p 1 13).discardCmds p).countGambits p).haltPart p
        Gives (.rollback p) s (((h.setPart p { st := .loading, dies := (h.part p).dies, harts := (h.part p).harts, q := (h.part p).q, yields := (h.part p).yields, lateCaps := (h.part p).lateCaps, preemptEnd := (h.part p).preemptEnd }).startClear
          p (h.part p).dies (some (cmdId e, 0x12))).settled p)))
    ∧ (s.pkg.takes p 0x14 e rest → x.st ≠ .empty →
        let h := (k.forgetReports p).releasePart p
        Gives (.unload p) s (((h.part p).q.read.foldl (fun (s : Pkg) c => s.complete p (cmdId c) (byteAt c 0) 13 0)
          ((h.took p []).complete p (cmdId e) 0x14 0 0)).settled p)
        ∧ (h.part p).st = .empty ∧ (h.part p).dies = [] ∧ (h.part p).harts = [])
    ∧ ∀ t, ((s.pkg.tile t).part ≠ p + 1 → (s.pkg.stopUnits p).tile t = s.pkg.tile t)
        ∧ ((s.pkg.tile t).part = p + 1 → ((s.pkg.stopUnits p).tile t).mode = .stopped ∧ ((s.pkg.stopUnits p).tile t).buf = []
            ∧ ((s.pkg.stopUnits p).tile t).ops = [] ∧ ((s.pkg.stopUnits p).tile t).waitw = none ∧ ((s.pkg.stopUnits p).tile t).mx.run = none
            ∧ ((s.pkg.stopUnits p).tile t).dsram = (s.pkg.tile t).dsram ∧ ((s.pkg.stopUnits p).tile t).ocache = (s.pkg.tile t).ocache))
  ∧ (∀ (s : State) (p : Nat) (e : List Byte), p < 16 → s.pkg.fw.off = 0 → s.pkg.fw.loadable = true → s.pkg.fw.up = true →
    (s.pkg.part p).q.read = [e] → byteAt e 1 ≤ 1 → zeroAt e 2 2 = true →
    let x := s.pkg.part p
    (∀ r, byteAt e 0 = 5 → x.st = .ready → x.rst = none → x.mem.state = 0 → r.length = 64 → zeroAt r 34 2 = true → zeroAt r 40 24 = true →
      (s.pkg.tempo.st = .locked ∨ s.pkg.tempo.st = .holdover) → (s.pkg.tempo.role = .standalone → x.img.members.length = 1) →
      s.pkg.tempo.now + 1000000 ≤ fld r 0 8 → fld r 8 8 = x.startFrame → fld r 16 4 = x.img.fUs → fld r 20 4 = x.img.w → fld r 24 8 = x.img.b →
      byteAt r 32 = x.img.cap → byteAt r 33 = b2n (bit x.img.flags 0) →
      ∃ t, exec (.launch p (.ok r)) s = .next t ∧ (t.pkg.part p).mem.s = fld r 0 8 ∧ (t.pkg.part p).mem.m = fld r 8 8
        ∧ (t.pkg.part p).mem.state = 1 ∧ (t.pkg.part p).mem.launch = some (r, cmdId e))
    ∧ (∀ d, byteAt e 0 = 0x11 → x.st = .loading → x.clearing = [] → x.rst = none → fld e 32 4 = 0 →
        let rs := ((List.range 4).map (fun i => fld e (16 + 2 * i) 2)).filter (· ≠ 0xFFFF)
        rs ≠ [] → (∀ r ∈ rs, r < 1024 ∧ (s.pkg.region r).st = 2 ∧ (s.pkg.region r).part = p) →
        ∃ t, exec (.restore p d) s = .next t ∧ ∃ z, (t.pkg.part p).rst = some z ∧ z.cmd = cmdId e ∧ z.regions = rs ∧ z.given = none)
    ∧ (byteAt e 0 = 0x13 → x.st = .holding → x.holdCause = 0x0102 → x.cap = none →
        ∃ t, exec (.resume p) s = .next t ∧ (t.pkg.part p).st = .running ∧ (t.pkg.part p).mem.state = 2 ∧ t.pkg.ent (0x2000 + p) 0x0A = 0)
    ∧ (byteAt e 0 = 0x12 → x.st ∈ [PState.ready, .running, .holding, .checkpointing] →
        ∃ t, exec (.rollback p) s = .next t ∧ (t.pkg.part p).st = .loading ∧ (t.pkg.part p).dies = x.dies ∧ (t.pkg.part p).harts = x.harts
          ∧ (t.pkg.part p).clearing = x.dies ∧ (t.pkg.part p).clearCmd = some (cmdId e, 0x12) ∧ ∀ d ∈ x.dies, (t.pkg.sdie d).clearing = true)
    ∧ (byteAt e 0 = 0x14 → x.st ≠ .empty →
        ∃ t, exec (.unload p) s = .next t ∧ (t.pkg.part p).st = .empty ∧ (t.pkg.part p).dies = [] ∧ (t.pkg.part p).harts = []
          ∧ t.pkg.ent (0x2000 + p) 0x0A = 0))

/-- Staging (03:R104, R105, 14:R446, R447). -/
def Obligations.ChangesAreStaged : Prop :=
  ∀ (s : State) (p : Nat) (e : List Byte) (rest : List (List Byte)), (s.pkg.part p).st = .running →
    let k := s.pkg.took p rest
    let b := Sys2Proof.slice e 16 32
    let x := k.part p
    let form : Prop := byteAt b 0 ∈ changeKinds ∧ byteAt b 1 ≤ 3 ∧ zeroAt b 2 2 = true ∧ (byteAt b 0 = 0x10 → zeroAt b 18 2 = true)
    let good : Prop := (s.pkg.tempo.st = .locked ∨ s.pkg.tempo.st = .holdover) ∧ x.mem.n + 2 ≤ fld b 8 8 ∧ Tab.get none x.mem.slots (byteAt b 1) = none
      ∧ (∀ c ∈ x.mem.pendingChanges ++ x.mem.applying, c.kind ≠ byteAt b 0 ∨ c.frame ≠ fld b 8 8)
      ∧ (byteAt b 0 = 0x10 → ∀ r ∈ stopRegions b, r ∉ x.locked)
    let change (origin deadline : Nat) : Change :=
      { bytes := b, kind := byteAt b 0, id := fld b 4 4, frame := fld b 8 8, arrived := s.pkg.tempo.now, origin := origin, cmd := cmdId e
        deadline := deadline }
    let held (origin deadline : Nat) : Pkg :=
      k.setPart p { x with mem := { x.mem with slots := Tab.set none x.mem.slots (byteAt b 1) (some (change origin deadline)) } }
    (s.pkg.takes p 6 e rest →
      (form → good → byteAt b 0 ≠ 0x10 → Gives (.stage p) s (((held 0 0).complete p (cmdId e) 6 0 0).settled p))
      ∧ (form → good → byteAt b 0 = 0x10 → Gives (.stage p) s ((held 0 0).settled p))
      ∧ (¬ form → Gives (.stage p) s ((k.complete p (cmdId e) 6 2 0).settled p))
      ∧ (form → ¬ good → Gives (.stage p) s ((k.complete p (cmdId e) 6 6 0).settled p)))
    ∧ (s.pkg.takes p 0x10 e rest →
      (s.pkg.ent (0x2000 + p) 6 = 0 → Gives (.preempt p) s ((k.complete p (cmdId e) 0x10 10 0).settled p))
      ∧ (s.pkg.ent (0x2000 + p) 6 ≠ 0 → byteAt b 0 ≠ 0x10 → Gives (.preempt p) s ((k.complete p (cmdId e) 0x10 2 0).settled p))
      ∧ (s.pkg.ent (0x2000 + p) 6 ≠ 0 → byteAt b 0 = 0x10 → form → good → Gives (.preempt p) s ((held 2 (fld e 48 8 + 1)).settled p)))

/-- The capture (14:R447 to R449) and the report of yielded guarantees (13:R423). -/
def Obligations.CheckpointCapture : Prop :=
  ∀ (s : State) (p : Nat) (c : Capture), p < 16 → s.pkg.fw.off = 0 →
    let x := s.pkg.part p
    let N := fld c.bytes 8 8
    (x.cap = some c →
      (c.step = 1 → s.pkg.cutDrained p = true → Gives (.cutReportContribute p) s
        ((s.pkg.setPart p { x with cap := some { c with step := 2, sent := s.pkg.tempo.now }, mem := { x.mem with combined := none } }).enterReport p true
          (natLe 8 N ++ natLe 8 N ++ natLe 8 0 ++ natLe 1 15 ++ natLe 7 0 ++ natLe 64 0)))
      ∧ (s.pkg.cutDrained p = false → exec (.cutReportContribute p) s = .next s)
      ∧ (c.step = 2 → x.mem.combined ≠ none → x.st = .checkpointing → s.pkg.recoveryHolds p = false →
          let k := s.pkg.setPart p { x with mem := { x.mem with combined := none } }
          let b := k.stream p (byteAt c.bytes 16) (fld c.bytes 20 4) N c.dataPos
          Gives (.cutReport p N) s ((k.writeStream b (stopRegions c.bytes)).setCap p (some { c with step := 3, stream := b })))
      ∧ (∀ n, x.mem.combined = none ∨ n ≠ N ∨ s.pkg.recoveryHolds p = true → exec (.cutReport p n) s = .next s)
      ∧ (c.step = 3 → (∀ r ∈ stopRegions c.bytes, s.pkg.writesDone r = true) → Leaves (.checkpointDone p) s fun k =>
          (k.part p).cap = none ∧ (∀ r ∈ stopRegions c.bytes, (k.region r).st = 2) ∧ (k.part p).ckptBase = c.since ∧ k.ent (0x8000 + p) 0x0B = N ∧ k.ent (0x8000 + p) 0x0C = c.stream.length
          ∧ k.ent (0x8000 + p) 0x0A = s.pkg.ent (0x8000 + p) 0x0A + 1 ∧ k.ent (0x8000 + p) 0x0D = s.pkg.tempo.now - c.since
          ∧ Reports k 0x0801 p [fld c.bytes 20 4, N, c.stream.length, s.pkg.tempo.now - c.since]
          ∧ (byteAt c.bytes 17 = 1 → (k.part p).st = .holding ∧ (k.part p).holdCause = 0x0801)
          ∧ (byteAt c.bytes 17 ≠ 1 → (k.part p).st = .running))
      ∧ (s.pkg.tempo.now ≤ c.begun + s.pkg.ent (0x8000 + p) 9 * 1000000 → exec (.captureLimitTimeout p) s = .next s)
      ∧ (c.begun + s.pkg.ent (0x8000 + p) 9 * 1000000 < s.pkg.tempo.now → Leaves (.captureLimitTimeout p) s fun k =>
          (k.part p).cap = none ∧ (k.part p).st = .holding ∧ (k.part p).holdCause = 0x0803 ∧ Reports k 0x0803 p [fld c.bytes 20 4, N, 0]))
    ∧ (∀ l more, x.lateCaps = l :: more → Leaves (.checkpointLate p) s fun k =>
        (k.part p).lateCaps = more ∧ Reports k 0x0804 p [l.id, l.deadline, l.ended]
        ∧ (l.recovery = 0 → (k.part p).yields = x.yields)
        ∧ (l.recovery ≠ 0 → (k.part p).yields = x.yields ++
            [{ prevails := 3, level := 4, cause := 2 ^ 32 + (l.recovery - 1), start := l.deadline, stop := some l.ended }]))
    ∧ (x.lateCaps = [] → x.cap = none → exec (.checkpointLate p) s = .next s)
    ∧ (x.cap = none →
        exec (.cutReportContribute p) s = .next s ∧ (∀ n, exec (.cutReport p n) s = .next s) ∧ exec (.checkpointDone p) s = .next s
        ∧ exec (.captureLimitTimeout p) s = .next s)
    ∧ (∀ y, x.yields = [y] → y.told = false →
        (∀ z, y.stop = some z → Leaves (.guaranteeYielded p) s fun k =>
          (k.part p) = { x with yields := [] } ∧ k.ent 0x3003 y.level = s.pkg.ent 0x3003 y.level + 1
          ∧ Reports k 0x0204 p [y.level, y.prevails, y.cause, y.start, z - y.start])
        ∧ (y.stop = none → y.start + 1000000000 ≤ s.pkg.tempo.now → Leaves (.guaranteeYielded p) s fun k =>
          (k.part p) = { x with yields := [{ y with told := true }] }
          ∧ Reports k 0x0204 p [y.level, y.prevails, y.cause, y.start, s.pkg.tempo.now - y.start])
        ∧ (y.stop = none → s.pkg.tempo.now < y.start + 1000000000 → exec (.guaranteeYielded p) s = .next s))

/-- The integer base, M and C instructions of a tile core (04:R121, R122, R131).
RV64IM results (04:R121, 08:R233), as the RISC-V manual has them (log entry 10: the model's source). -/
def Obligations.TileIntegerResults : Prop :=
  (∀ (s : State) (n w len raw : Nat), s.pkg.fetches n w len raw → (s.pkg.tile n).quiet →
    let t := s.pkg.tile n
    let a := t.xr (Rv.rs1 w)
    let b := t.xr (Rv.rs2 w)
    let st := t.useStall [Rv.rs1 w]
    let st2 := t.useStall [Rv.rs1 w, Rv.rs2 w]
    (Rv.opc w = 0x37 → Gives (.tileInstruction n) s (s.pkg.retire n (t.setX (Rv.rd w) (Rv.immU w)) len 1))
    ∧ (Rv.opc w = 0x17 → Gives (.tileInstruction n) s (s.pkg.retire n (t.setX (Rv.rd w) (t.core.pc + Rv.immU w)) len 1))
    ∧ (∀ v, Rv.opc w = 0x13 → Rv.aluImm64 w a = some v → Gives (.tileInstruction n) s (s.pkg.retire n (t.setX (Rv.rd w) v) len (st + 1)))
    ∧ (∀ v, Rv.opc w = 0x1B → Rv.aluImm32 w a = some v → Gives (.tileInstruction n) s (s.pkg.retire n (t.setX (Rv.rd w) v) len (st + 1)))
    ∧ (∀ v, Rv.opc w = 0x33 → Rv.alu64 (Rv.f7 w) (Rv.f3 w) a b = some v → Gives (.tileInstruction n) s
        (s.pkg.retire n (t.setX (Rv.rd w) v) len (st2 + opCycles 64 (Rv.f7 w) (Rv.f3 w) a b)))
    ∧ (∀ v, Rv.opc w = 0x3B → Rv.alu32 (Rv.f7 w) (Rv.f3 w) a b = some v → Gives (.tileInstruction n) s
        (s.pkg.retire n (t.setX (Rv.rd w) v) len (st2 + opCycles 32 (Rv.f7 w) (Rv.f3 w) a b)))
    ∧ (Rv.opc w = 0x6F → Gives (.tileInstruction n) s ((s.pkg.cycles n 1).setTile n
        { t.setX (Rv.rd w) (t.core.pc + BitVec.ofNat 64 len) with
          core := { (t.setX (Rv.rd w) (t.core.pc + BitVec.ofNat 64 len)).core with pc := t.core.pc + Rv.immJ w }
          active := (t.setX (Rv.rd w) (t.core.pc + BitVec.ofNat 64 len)).active + 1 }))
    ∧ (Rv.opc w = 0x67 → Rv.f3 w = 0 → Gives (.tileInstruction n) s ((s.pkg.cycles n (st + 1)).setTile n
        { t.setX (Rv.rd w) (t.core.pc + BitVec.ofNat 64 len) with
          core := { (t.setX (Rv.rd w) (t.core.pc + BitVec.ofNat 64 len)).core with pc := (a + Rv.immI w) &&& ~~~1#64 }
          active := (t.setX (Rv.rd w) (t.core.pc + BitVec.ofNat 64 len)).active + (st + 1) }))
    ∧ (∀ tk, Rv.opc w = 0x63 → Rv.branchTaken (Rv.f3 w) a b = some tk → Gives (.tileInstruction n) s ((s.pkg.cycles n (st2 + 1)).setTile n
        { t with core := { t.core.train t.core.pc tk with pc := t.core.pc + (if tk then Rv.immB w else BitVec.ofNat 64 len) }
                 active := t.active + (st2 + 1) }))
    ∧ (Rv.opc w = 0x03 → Rv.f3 w ≠ 7 →
        let x := (a + Rv.immI w).toNat
        let z := Rv.accSize (Rv.f3 w)
        x % z = 0 → inLocal x z = true → t.lineBusy x z = false → Leaves (.tileInstruction n) s fun k =>
          (k.tile n).core.x = (t.setX (Rv.rd w) (Rv.loadExt (Rv.f3 w) (leNat (t.rd x z)))).core.x
          ∧ (k.tile n).core.pc = t.core.pc + BitVec.ofNat 64 len ∧ (k.tile n).active = t.active + st + 1
          ∧ k = (s.pkg.cycles n (st + 1)).setTile n { t with core := (k.tile n).core, active := t.active + st + 1 })
    ∧ (Rv.opc w = 0x23 → Rv.f3 w < 4 →
        let x := (a + Rv.immS w).toNat
        let z := Rv.accSize (Rv.f3 w)
        x % z = 0 → inLocal x z = true → t.lineBusy x z = false → Gives (.tileInstruction n) s
          (s.pkg.retire n (t.wr x (natLe z b.toNat)) len (st2 + 1))))
  ∧ ((∀ a b : Word,
    Rv.alu64 0 0 a b = some (a + b) ∧ Rv.alu64 0x20 0 a b = some (a - b) ∧ Rv.alu64 0 2 a b = some (if a.toInt < b.toInt then 1 else 0)
    ∧ Rv.alu64 0 3 a b = some (if a.toNat < b.toNat then 1 else 0) ∧ Rv.alu64 0 4 a b = some (a ^^^ b) ∧ Rv.alu64 0 6 a b = some (a ||| b)
    ∧ Rv.alu64 0 7 a b = some (a &&& b) ∧ Rv.alu64 1 0 a b = some (a * b)
    ∧ (b = 0 → Rv.alu64 1 4 a b = some (BitVec.allOnes 64) ∧ Rv.alu64 1 5 a b = some (BitVec.allOnes 64) ∧ Rv.alu64 1 6 a b = some a
        ∧ Rv.alu64 1 7 a b = some a)
    ∧ (b ≠ 0 → Rv.alu64 1 5 a b = some (a / b) ∧ Rv.alu64 1 7 a b = some (a % b))
    ∧ (b ≠ 0 → ¬(a.toInt = -2 ^ 63 ∧ b.toInt = -1) →
        Rv.alu64 1 4 a b = some (BitVec.ofInt 64 (a.toInt.tdiv b.toInt)) ∧ Rv.alu64 1 6 a b = some (BitVec.ofInt 64 (a.toInt.tmod b.toInt)))
    ∧ (a.toInt = -2 ^ 63 → b.toInt = -1 → Rv.alu64 1 4 a b = some a ∧ Rv.alu64 1 6 a b = some 0))
  ∧ ∀ (t : Tile) (i : Nat) (v : Word), t.xr 0 = 0 ∧ t.setX 0 v = t ∧ (i ≠ 0 → (t.setX i v).xr i = v) ∧ ∀ j, j ≠ i → (t.setX i v).xr j = t.xr j)

/-- The counters read 0 (04:R124). -/
def Obligations.TileCountersReadZero : Prop :=
  (∀ (t : Tile) (n : Nat), ∀ a ∈ [0xB00, 0xB02, 0xC00, 0xC02], t.csrRead n a = some 0)
  ∧ ∀ (s : State) (n w len raw : Nat), s.pkg.fetches n w len raw → (s.pkg.tile n).quiet → Rv.opc w = 0x73 → Rv.f3 w = 2 → Rv.rs1 w = 0 →
      bits w 31 20 ∈ [0xB00, 0xB02, 0xC00, 0xC02] → Leaves (.tileCsrAccess n) s fun k =>
        k = s.pkg.retire n ((s.pkg.tile n).setX (Rv.rd w) 0) len ((s.pkg.tile n).useStall [0] + 1)

/-- CSRs (04:R123, R147, R148).
Exceptions of the tile core (04:R122, R125, R126, R128, R140). -/
def Obligations.TileCsrs : Prop :=
  ((∀ (s : State) (n w len raw : Nat), s.pkg.fetches n w len raw → (s.pkg.tile n).quiet → Rv.opc w = 0x73 → Rv.f3 w % 4 ≠ 0 →
    let t := s.pkg.tile n
    let a := bits w 31 20
    let st := if Rv.f3 w < 4 then t.useStall [Rv.rs1 w] else 0
    (∀ old, t.csrRead n a = some old → (a < 0xBC0 ∨ 0xBDF < a) →
      (Rv.csrWrites w = false → Gives (.tileCsrAccess n) s (s.pkg.retire n (t.setX (Rv.rd w) (BitVec.ofNat 64 old)) len (st + 1)))
      ∧ (Rv.csrWrites w = true → bits a 11 10 ≠ 3 → Gives (.tileCsrAccess n) s
          (s.pkg.retire n ({ t with core := t.core.csrWrite a (Rv.csrNew w (BitVec.ofNat 64 old) (Rv.csrSrc w (t.xr (Rv.rs1 w)))) }.setX (Rv.rd w)
            (BitVec.ofNat 64 old)) len (st + 1)))
      ∧ (Rv.csrWrites w = true → bits a 11 10 = 3 → Gives (.tileCsrAccess n) s (s.pkg.trap n 2 (BitVec.ofNat 64 raw))))
    ∧ (t.csrRead n a = none → Gives (.tileCsrAccess n) s (s.pkg.trap n 2 (BitVec.ofNat 64 raw))))
  ∧ ∀ (c : Core) (v : Word),
      c.csrWrite 0x300 v = c ∧ c.csrWrite 0x305 v = { c with mtvec := v &&& ~~~3#64 } ∧ c.csrWrite 0x340 v = { c with mscratch := v }
      ∧ c.csrWrite 0x341 v = { c with mepc := v &&& ~~~1#64 } ∧ c.csrWrite 0x342 v = { c with mcause := v } ∧ c.csrWrite 0x343 v = { c with mtval := v }
      ∧ c.csrWrite 0x7C1 v = { c with sibase := v }
      ∧ c.csrWrite 0x7C0 v = { c with flags := { inv := c.flags.inv && !v.getLsbD 0, ovf := c.flags.ovf && !v.getLsbD 1, unf := c.flags.unf && !v.getLsbD 2 } }
      ∧ c.csrWrite 0x7C6 v = { c with pbReject := c.pbReject && !v.getLsbD 8, moveErr := c.moveErr && !v.getLsbD 9 }
      ∧ ∀ a ∈ [0x7C2, 0x7C3, 0x7C4, 0x7C5, 0x7C7, 0x7C8], c.csrWrite a v = c)
  ∧ (∀ (s : State) (n : Nat),
    let t := s.pkg.tile n
    let refused := s.pkg.bump (0x3040 + (t.part - 1)) 1 1
    (∀ w len raw, s.pkg.fetches n w len raw →
      (Rv.opc w = 0x0F → Rv.f3 w = 0 → Gives (.fence n) s (s.pkg.retire n t len 1))
      ∧ (w = 0x10500073 → Gives (.wfi n) s (s.pkg.retire n t len 1))
      ∧ (t.core.region = none →
        (Rv.opc w = 0x0F → Rv.f3 w = 1 → Gives (.fenceI n) s (s.pkg.trap n 2 (BitVec.ofNat 64 raw)))
        ∧ (w = 0x73 → Gives (.ecall n) s (s.pkg.trap n 11 0))
        ∧ (w = 0x100073 → Gives (.ebreak n) s (s.pkg.trap n 3 t.core.pc))
        ∧ (w = 0x30200073 → Gives (.mret n) s ((s.pkg.cycles n 1).setTile n
            { t with core := { t.core with pc := t.core.mepc, trapActive := false }, active := t.active + 1 }))
        ∧ (t.core.pend = [] → Rv.opc w = 0x03 → Rv.f3 w ≠ 7 →
            let x := (t.xr (Rv.rs1 w) + Rv.immI w).toNat
            (x % Rv.accSize (Rv.f3 w) ≠ 0 → Gives (.tileInstruction n) s (s.pkg.trap n 4 (BitVec.ofNat 64 x)))
            ∧ (x % Rv.accSize (Rv.f3 w) = 0 → inLocal x (Rv.accSize (Rv.f3 w)) = false → Gives (.tileInstruction n) s (refused.trap n 5 (BitVec.ofNat 64 x))))
        ∧ (t.core.pend = [] → Rv.opc w = 0x23 → Rv.f3 w < 4 →
            let x := (t.xr (Rv.rs1 w) + Rv.immS w).toNat
            (x % Rv.accSize (Rv.f3 w) ≠ 0 → Gives (.tileInstruction n) s (s.pkg.trap n 6 (BitVec.ofNat 64 x)))
            ∧ (x % Rv.accSize (Rv.f3 w) = 0 → inLocal x (Rv.accSize (Rv.f3 w)) = false → Gives (.tileInstruction n) s (refused.trap n 7 (BitVec.ofNat 64 x))))
        ∧ (Rv.opc w ∉ [0x37, 0x17, 0x6F, 0x67, 0x63, 0x03, 0x23, 0x13, 0x1B, 0x33, 0x3B, 0x0F, 0x73] → isEngineIssue w = false →
            Gives (.tileInstruction n) s (s.pkg.trap n 2 (BitVec.ofNat 64 raw))))
      ∧ (t.core.region ≠ none → w = 0x73 → exec (.ecall n) s = .next s))
    ∧ (∀ c, n < 6144 → s.pkg.fw.off = 0 → s.pkg.runs n = true → t.core.region = none → t.fetch = .fault c →
        Gives (.tileInstruction n) s ((if c = 1 then refused else s.pkg).trap n c (t.core.pc + BitVec.ofNat 64 t.faultAt)))
    ∧ (∀ c v tw, t.core.trapActive = false → t.core.mtvec ≠ 0 → s.pkg.trap n c v tw =
        ((s.pkg.setTile n { t with active := t.active + (t.trapStall c + 1)
                                   core := { t.core with mepc := t.core.pc, mcause := BitVec.ofNat 64 c, mtval := v, trapActive := true
                                                         pc := t.core.mtvec } }).cycles n (t.trapStall c + 1)).bump (0x3020 + (t.part - 1)) 4 1)
    ∧ (∀ c v, t.core.trapActive = true ∨ t.core.mtvec = 0 →
        let k := s.pkg.trap n c v
        k.tile n = { t with mode := .stopped, buf := [], units := 0, ops := [], waitw := none, core := { t.core with region := none } }
        ∧ (∀ u, u ≠ n → k.tile u = s.pkg.tile u) ∧ k.dstore = s.pkg.dstore
        ∧ k.ent (0x3020 + (t.part - 1)) 5 = s.pkg.ent (0x3020 + (t.part - 1)) 5 + 1
        ∧ Reports k 0x010F (t.part - 1) [n, t.seq, if t.core.trapActive then 1 else 2]
        ∧ ((s.pkg.part (t.part - 1)).st = .running → (k.part (t.part - 1)).st = .holding ∧ (k.part (t.part - 1)).holdCause = 0x010F)))

/-- Speculation regions (04:R140, R142, R143). -/
def Obligations.Speculation : Prop :=
  ∀ (s : State) (n : Nat), n < 6144 → s.pkg.fw.off = 0 →
    let t := s.pkg.tile n
    let c := t.core
    (∀ w len raw, s.pkg.fetches n w len raw → Rv.opc w = 0x63 → (Rv.branchTaken (Rv.f3 w) 0 0).isSome = true → c.region = none →
      t.lacks (Rv.rs1 w) = true ∨ t.lacks (Rv.rs2 w) = true → Gives (.speculationRegionOpen n) s ((s.pkg.cycles n 1).setTile n
        { t with
          core := { c with region := some { x := c.x, pend := c.pend, ready := c.ready, active := t.active + 1, pc := c.pc, instr := w, len := len, taken := c.predict c.pc, ticket := t.ticket
                                            slotTkt := t.slotTkt }
                           pc := c.pc + (if c.predict c.pc then Rv.immB w else BitVec.ofNat 64 len) }
          active := t.active + 1 }))
    ∧ (c.region = none → exec (.branchResolve n) s = .next s)
    ∧ ∀ r tk, c.region = some r → t.mode = .running →
        let val (i : Nat) : Word := if i = 0 then 0 else Tab.get 0 r.x i
        let squashed := (t.ops.filter (fun o => o.spec && o.kind == .mxrun && (o.staged.map (·.status)) == some 0)).length
        let wait (i : Nat) : Prop := i ≠ 0 ∧ (Tab.find r.pend i).isSome = true
        (wait (Rv.rs1 r.instr) ∨ wait (Rv.rs2 r.instr) → exec (.branchResolve n) s = .next s)
        ∧ (¬ wait (Rv.rs1 r.instr) → ¬ wait (Rv.rs2 r.instr) →
            Rv.branchTaken (Rv.f3 r.instr) (val (Rv.rs1 r.instr)) (val (Rv.rs2 r.instr)) = some tk →
          (tk = r.taken → t.mx.run = none → Gives (.branchResolve n) s
            ((t.ops.map (fun (o : EngOp) => { o with spec := false })).filter (fun o => o.staged.isSome) |>.foldl (fun (k : Pkg) o => k.mergeOp n o)
              (s.pkg.setTile n { t with core := { c.train r.pc tk with region := none }, ops := t.ops.map (fun (o : EngOp) => { o with spec := false }) })))
          ∧ (tk = r.taken → ∀ run, t.mx.run = some run → Gives (.branchResolve n) s
            ((t.ops.map (fun (o : EngOp) => { o with spec := false })).filter (fun o => o.staged.isSome) |>.foldl (fun (k : Pkg) o => k.mergeOp n o)
              (s.pkg.setTile n { t.wrEach run.out with
                core := { c.train r.pc tk with region := none }, mx := { t.mx with run := some { run with spec := false, out := [] } }
                ops := t.ops.map (fun (o : EngOp) => { o with spec := false }) })))
          ∧ (tk ≠ r.taken → (∀ run ∈ t.mx.run, run.spec = false) → Gives (.branchResolve n) s
            (((s.pkg.uncycle n (t.active - r.active)).setTile n { t with
              active := r.active
              core := { c.train r.pc tk with
                region := none, x := r.x, pend := r.pend, ready := r.ready, pc := r.pc + (if tk then Rv.immB r.instr else BitVec.ofNat 64 r.len) }
              ops := t.ops.filter (fun o => !o.spec), ticket := r.ticket
              slotTkt := r.slotTkt.filter (fun e => t.ops.any (fun o => decide (o.ticket + 1 = e.2))) }).bump (0x3020 + (t.part - 1)) 2 1 |>.bump (0x3840 + (t.part - 1)) 6 squashed))
          ∧ (tk ≠ r.taken → ∀ run, t.mx.run = some run → run.spec = true → Leaves (.branchResolve n) s fun k =>
            (k.tile n).mx.run = none ∧ (k.tile n).mx.set0 = {} ∧ (k.tile n).mx.set1 = {} ∧ (k.tile n).core.x = r.x ∧ (k.tile n).ticket = r.ticket ∧ (k.tile n).active = r.active
            ∧ k.ent (0x3840 + (t.part - 1)) 6 = s.pkg.ent (0x3840 + (t.part - 1)) 6 + 1 + squashed))

/-- The frame of the tile core: TILE_INSTRUCTION, CSR accesses, fences, exceptions, MRET and the opening of a region (04:R121 to R125, R140). -/
def Obligations.TileCoreFrame : Prop :=
  ∀ (s : State) (n : Nat), n < 6144 →
    ∀ i ∈ [Instr.tileInstruction n, .tileCsrAccess n, .fence n, .wfi n, .fenceI n, .ecall n, .ebreak n, .mret n, .speculationRegionOpen n],
      Leaves i s fun k =>
        k.dstore = s.pkg.dstore ∧ k.net = s.pkg.net ∧ k.harts = s.pkg.harts ∧ k.sdies = s.pkg.sdies ∧ k.engines = s.pkg.engines ∧ k.tier = s.pkg.tier
        ∧ (∀ u, u ≠ n → k.tile u = s.pkg.tile u) ∧ (k.tile n).isram = (s.pkg.tile n).isram
        ∧ (∀ q, q ≠ (s.pkg.tile n).part - 1 → k.part q = s.pkg.part q)
        ∧ let x := s.pkg.part ((s.pkg.tile n).part - 1)
          let y := k.part ((s.pkg.tile n).part - 1)
          y = { x with st := y.st, holdCause := y.holdCause, heldAt := y.heldAt, mem := { x.mem with state := y.mem.state } }

/-- The issue of moves (04:R127, R129, R130, R135 to R137, 09:R291, R292).
Completion of moves (04:R130, R132 to R137, 06:R205). -/
def Obligations.MovesAreIssued : Prop :=
  (∀ (s : State) (n w len raw : Nat), s.pkg.fetches n w len raw →
    let t := s.pkg.tile n
    let a := (t.xr (Rv.rs1 w)).toNat
    let d := t.rd a 32
    let m := moveDesc d
    isMove w = true → t.waits (Rv.rs1 w) = false → t.descBusy a 32 = false →
    (∀ e ∈ ([(1, Instr.moveDstoreToLocal n), (2, .moveLocalToDstore n), (3, .moveAccumulateInto n), (7, .moveLocalToRemote n),
          (8, .moveRemoteToLocal n), (9, .moveLocalToLocal n)] : List (Nat × Instr)),
      t.moveKind w = some e.1 → t.mayIssue (decide (e.1 = 1) || decide (e.1 = 9)) = true →
      let o : EngOp := { kind := .move, code := e.1, desc := d, frame := t.frame
                         reads := if e.1 = 9 then [(m.far, m.length)] else if e.1 = 1 ∨ e.1 = 8 then [] else [(m.loc, m.length)]
                         writes := if e.1 = 9 ∨ e.1 = 1 ∨ e.1 = 8 then [(m.loc, m.dstLen)] else [] }
      let farLen := if e.1 = 2 then m.dstLen else m.length
      (m.invalid = none → (e.1 ≤ 3 → s.pkg.ownRange (t.part - 1) m.far farLen = true) → Gives e.2 s (s.pkg.issue n (Rv.rd w) o))
      ∧ (m.invalid = none → e.1 ≤ 3 → s.pkg.ownRange (t.part - 1) m.far farLen = false →
          let b : EngOp := { o with reads := [], writes := [], r1 := m.far, r2 := farLen }
          Gives e.2 s ((s.pkg.issue n (Rv.rd w) b).finishOp n
            { b with ticket := t.ticket, spec := ((s.pkg.issue n (Rv.rd w) b).tile n).core.region.isSome } { status := 1 }))
      ∧ ∀ c, m.invalid = some c → Gives e.2 s (s.pkg.issueBad n (Rv.rd w) c .move))
    ∧ (t.moveKind w = some 6 → t.mayIssue false = true →
      (∀ c, m.invalid = some c → Gives (.moveTierToDstore n) s (s.pkg.issueBad n (Rv.rd w) c .move))
      ∧ (m.invalid = none → dsOk m.done (64 + m.length) = true → dieOf m.done = n / 128 → s.pkg.regionCheck (t.part - 1) m = none →
          Gives (.moveTierToDstore n) s ((s.pkg.refer (regionOf m.far)).issue n (Rv.rd w) { kind := .move, code := 6, desc := d })))
    ∧ ∀ (o : EngOp) (r : Nat), r ≠ 0 → ((s.pkg.issue n r o).tile n).xr r = BitVec.ofNat 64 t.ticket
        ∧ ((s.pkg.issue n r o).tile n).ticket = t.ticket + 1
        ∧ ((s.pkg.issue n r o).tile n).ops = t.ops ++ [{ o with ticket := t.ticket, spec := t.core.region.isSome }]
        ∧ ((s.pkg.issue n r o).tile n).core.pc = t.core.pc + 4)
  ∧ (∀ (s : State) (n k : Nat) (o : EngOp), n < 6144 → s.pkg.fw.off = 0 →
    let t := s.pkg.tile n
    let m := moveDesc o.desc
    let p := t.part - 1
    let cv (bs : List Byte) : Written := if m.conv then convert { s.pkg.num p with ftz := false } m.sf m.ss m.df m.ds m.elems bs else { bytes := bs }
    let put (w : Written) : Staged := { writes := ((List.range w.bytes.length).zip w.bytes).map (fun x => (m.loc + x.1, x.2)), fl := w.fl }
    let hold (h : Held) (fl : Flags) : Pkg := ((s.pkg.peak (0x3860 + p) 9 (t.units + (1 + m.length / 64))).setTile n
      { t with buf := t.buf ++ [(o.ticket, h)], units := t.units + (1 + m.length / 64) }).finishOp n o { fl := fl }
    let full : Pkg := (s.pkg.bump (0x3860 + p) 0x0A 1).killTile n 0x0107 []
    (t.ops.find? (fun o => o.ticket = k && o.staged.isNone) = none → exec (.engineOpComplete n k) s = .next s)
    ∧ (t.ops.find? (fun o => o.ticket = k && o.staged.isNone) = some o →
      (t.mode ≠ .running ∨ t.free o = false ∨ t.room o = false → exec (.engineOpComplete n k) s = .next s)
      ∧ (t.mode = .running → t.free o = true → t.room o = true → o.kind = .move →
        (m.kind = 9 → Gives (.engineOpComplete n k) s (s.pkg.finishOp n o (put (cv (t.rd m.far m.length)))))
        ∧ (t.heldBefore o.ticket = true → m.kind ≠ 9 → exec (.engineOpComplete n k) s = .next s)
        ∧ (t.heldBefore o.ticket = false →
          (m.kind = 1 → t.ownPending o.ticket m.far m.length = true → Gives (.engineOpComplete n k) s (s.pkg.finishOp n o { status := 2 }))
          ∧ (m.kind = 1 → t.ownPending o.ticket m.far m.length = false → Gives (.engineOpComplete n k) s
              ((s.pkg.dsRead p n m.far m.length).2.finishOp n o (put (cv (s.pkg.dstore.readN m.far m.length)))))
          ∧ (m.kind = 2 → Gives (.engineOpComplete n k) s (if t.units + (1 + m.length / 64) ≤ 2032
              then hold (.store m.far (cv (t.rd m.loc m.length)).bytes false) (cv (t.rd m.loc m.length)).fl else full))
          ∧ (m.kind = 3 → Gives (.engineOpComplete n k) s (if t.units + (1 + m.length / 64) ≤ 2032
              then hold (.store m.far (t.rd m.loc m.length) true) {} else full))
          ∧ (m.kind = 7 → Gives (.engineOpComplete n k) s (if t.units + (1 + m.length / 64) ≤ 2032
              then hold (.send m.node m.far (t.rd m.loc m.length)) {} else full))
          ∧ (m.kind = 8 → m.node = s.pkg.node → t.ownPending o.ticket m.far m.length = false → t.sendPending o.ticket m.node m.far m.length = false →
              s.pkg.ownRange p m.far m.length = true → Gives (.engineOpComplete n k) s
                ((s.pkg.dsRead p n m.far m.length).2.finishOp n o
                  { writes := ((List.range (s.pkg.dstore.readN m.far m.length).length).zip (s.pkg.dstore.readN m.far m.length)).map
                      (fun x => (m.loc + x.1, x.2)) }))))))

/-- The issue of vector operations (04:R127, 06:R190 to R192, R207).
Completion of vector operations (06:R190, R193, R199, R208, 04:R142). -/
def Obligations.VectorOperationsIssue : Prop :=
  (∀ (s : State) (n w len raw : Nat), s.pkg.fetches n w len raw → Rv.opc w = 0x0B → Rv.f3 w = 1 →
    ∀ e ∈ ([(0x01, Instr.vadd n), (0x02, .vsub n), (0x03, .vmul n), (0x04, .vfma n), (0x05, .vfnma n), (0x06, .vmin n), (0x07, .vmax n), (0x08, .vabs n),
        (0x09, .vneg n), (0x0A, .vsqrt n), (0x0B, .vrecip n), (0x0C, .vrsqrt n), (0x0D, .vexp n), (0x0E, .vtanh n), (0x10, .vsegsum n), (0x11, .vsegmax n),
        (0x18, .vcvt n), (0x19, .vfill n), (0x1A, .vscan n)] : List (Nat × Instr)),
      let t := s.pkg.tile n
      let a := (t.xr (Rv.rs1 w)).toNat
      let r2 := (t.xr (Rv.rs2 w)).toNat
      let o : EngOp := { kind := .vop, code := e.1, r2 := r2, sibase := t.core.sibase.toNat, frame := t.frame }
      let sum (k : Pkg) : Pkg := if bit r2 2 then k.setTile n { k.tile n with slotTkt := Tab.insert (k.tile n).slotTkt (r2 % 4) (t.ticket + 1) } else k
      Rv.f7 w = e.1 → t.waits (Rv.rs1 w) = false → t.waits (Rv.rs2 w) = false → t.descBusy a 32 = false → t.mayIssue true = true →
        (∀ d, t.descAt a 32 = some d → (vopDesc e.1 d).cause = 0 → Gives e.2 s
          (sum (s.pkg.issue n (Rv.rd w) { o with desc := d, reads := (vopDesc e.1 d).srcs.map (fun r => r.2), writes := (vopDesc e.1 d).dsts })))
        ∧ (∀ d, t.descAt a 32 = some d → (vopDesc e.1 d).cause ≠ 0 → Gives e.2 s (sum (s.pkg.issue n (Rv.rd w) { o with desc := d, r1 := (vopDesc e.1 d).cause })))
        ∧ (t.descAt a 32 = none → Gives e.2 s (s.pkg.issueBad n (Rv.rd w) 2 .vop)))
  ∧ (∀ (s : State) (n : Nat) (o : EngOp), n < 6144 → s.pkg.fw.off = 0 →
    let t := s.pkg.tile n
    let p := t.part - 1
    let d := vopDesc o.code o.desc
    let v := vopRun (s.pkg.num p) d (fun a l => t.ocache.readN a l) (s.pkg.part p).img.seed o.frame o.sibase
    let g : Staged := { writes := ((List.range v.bytes.length).zip v.bytes).map (fun x => (d.dst + x.1, x.2)), fl := v.fl, van := v.van
                        summ := if bit o.r2 2 then some (o.r2 % 4, summaryOf v.vals v.van) else none }
    (t.ops.find? (fun o => o.kind == .vop && o.staged.isNone) = none → exec (.vectorOpComplete n) s = .next s)
    ∧ (t.ops.find? (fun o => o.kind == .vop && o.staged.isNone) = some o → t.mode = .running → t.free o = true → t.room o = true →
      (o.r1 ≠ 0 → Gives (.vectorOpComplete n) s (s.pkg.finishOp n o { status := 5, detail := o.r1 }))
      ∧ (o.r1 = 0 → Gives (.vectorOpComplete n) s (s.pkg.finishOp n o g)))
    ∧ (o.kind = .vop → t.core.region = none → bit o.r2 2 = false → s.pkg.finishOp n o g =
        ((s.pkg.countVop p o g).setTile n ((t.wrEach g.writes).addFlags g.fl)).endOp n o.ticket 0 0 false))

/-- What each vector operation computes of an element (06:R193 to R195). -/
def Obligations.VectorElementResults : Prop :=
  ∀ (cfg : NumCfg) (df : Nat) (a b c : FVal),
    vopElem cfg 1 df a b c = deliverSum cfg df .rne [a, b] false ∧ vopElem cfg 2 df a b c = deliverSum cfg df .rne [a, b.neg] false
    ∧ (vopElem cfg 3 df a b c).raw = (deliver cfg df .rne (fmulX a b).1).raw
    ∧ vopElem cfg 4 df a b c = deliverSum cfg df .rne [(fmulX a b).1, c] (fmulX a b).2
    ∧ vopElem cfg 5 df a b c = deliverSum cfg df .rne [(fmulX a b).1.neg, c] (fmulX a b).2
    ∧ (vopElem cfg 6 df a b c).raw = (deliver cfg df .rne (fMin a b).1).raw ∧ (vopElem cfg 7 df a b c).raw = (deliver cfg df .rne (fMax a b).1).raw
    ∧ (vopElem cfg 8 df a b c).raw = (deliver cfg df .rne a.abs).raw ∧ (vopElem cfg 9 df a b c).raw = (deliver cfg df .rne a.neg).raw
    ∧ (∀ m e, m ≠ 0 → ∀ op ∈ [0x0A, 0x0C], vopElem cfg op df (.fin true m e) b c = { raw := fmtNan df, fl := { inv := true } })
    ∧ (∀ g e, (vopElem cfg 0x0B df (.fin g 0 e) b c).fl.ovf = true ∧ (vopElem cfg 0x0B df (.fin g 0 e) b c).raw = (deliver cfg df .rne (.inf g)).raw)
    ∧ (∀ g, (vopElem cfg 0x0B df (.inf g) b c).raw = (deliver cfg df .rne (.fin g 0 0)).raw)
    ∧ (vopElem cfg 0x0D df (.inf true) b c).raw = (deliver cfg df .rne (.fin false 0 0)).raw
    ∧ (vopElem cfg 0x0D df (.inf false) b c).raw = (deliver cfg df .rne (.inf false)).raw
    ∧ (∀ g, (vopElem cfg 0x0E df (.inf g) b c).raw = (deliver cfg df .rne (.fin g 1 0)).raw)
    ∧ (∀ g, ∀ op ∈ [0x0A, 0x0B, 0x0C, 0x0D, 0x0E], vopElem cfg op df (.nan g) b c = { raw := fmtNan df, fl := { inv := g } })

/-- Decoding and delivery agree on every finite code (02:R48 to R52, R60, R61, R74): no bit of a format is lost or misplaced. -/
def Obligations.DeliveryIsExact : Prop :=
  ∀ (c raw : Nat) (g : Bool) (m : Nat) (e : Int), c ≤ 8 → raw < 2 ^ fmtWidth c → decodeFmt c raw = .fin g m e →
    ¬(c = 3 ∧ bits raw 14 7 = 0 ∧ m ≠ 0) → ¬(c = 8 ∧ raw = 128) → deliver {} c .rne (decodeFmt c raw) = { raw := raw, fl := {}, van := 0 }

/-- The matrix engine's operations (05:R171 to R176, R179, 04:R127). -/
def Obligations.MatrixIssueAndStart : Prop :=
  ∀ (s : State) (n : Nat), n < 6144 → s.pkg.fw.off = 0 →
    let t := s.pkg.tile n
    let p := t.part - 1
    (∀ w len raw, s.pkg.fetches n w len raw → Rv.opc w = 0x0B → Rv.f3 w = 2 → isEngineIssue w = true → t.waits (Rv.rs1 w) = false →
      t.waits (Rv.rs2 w) = false →
      let a := (t.xr (Rv.rs1 w)).toNat
      let r2 := (t.xr (Rv.rs2 w)).toNat
      (Rv.f7 w = 0 → t.mayIssue false = true → Gives (.ykMxpb n) s (s.pkg.issue n (Rv.rd w)
          { kind := .mxpb, r1 := a, r2 := r2, reads := if inData a (16 * (bits r2 16 8 + 1)) then [(a, 16 * (bits r2 16 8 + 1))] else [] }))
      ∧ (Rv.f7 w = 2 → t.mayIssue false = true → Gives (.ykMxswap n) s (s.pkg.issue n (Rv.rd w) { kind := .mxswap }))
      ∧ (Rv.f7 w = 1 → t.descBusy a 64 = false → ∀ d, t.descAt a 64 = some d → t.mayIssue (bit (byteAt d 0) 0) = true →
          Gives (.ykMxrun n) s (s.pkg.issue n (Rv.rd w)
            (if runBad d then { kind := .mxrun, r1 := 8, r2 := byteAt d 1 } else { kind := .mxrun, desc := d, reads := runReads d, writes := runWrites d })))
      ∧ (Rv.f7 w = 1 → t.descBusy a 64 = false → t.descAt a 64 = none → t.mayIssue false = true →
          Gives (.ykMxrun n) s ((s.pkg.issueBad n (Rv.rd w) 8 .mxrun).bump (0x3840 + p) 4 1)))
    ∧ (∀ o k, t.ops.find? (fun o => o.ticket = k && o.staged.isNone) = some o → o.kind = .mxpb → t.mode = .running → t.free o = true → t.room o = true →
      (∀ x ∈ opsBefore t.ops o.ticket, x.kind ≠ .mxswap) →
      let first := bits o.r2 7 0
      let count := bits o.r2 16 8 + 1
      let bank := bits o.r2 17 17
      (o.r1 % 16 ≠ 0 ∨ inData o.r1 (16 * count) = false ∨ 256 < first + count →
        Gives (.engineOpComplete n k) s (s.pkg.finishOp n o { status := 5, detail := 9 + first * 256 }))
      ∧ (o.r1 % 16 = 0 → inData o.r1 (16 * count) = true → first + count ≤ 256 →
        (bank = t.mx.active → Gives (.engineOpComplete n k) s ((s.pkg.bump (0x3840 + p) 5 1).finishOp n o { status := 6 }))
        ∧ (bank ≠ t.mx.active → Gives (.engineOpComplete n k) s ((s.pkg.setTile n { t with mx := { t.mx with
            pbuf := (List.range count).foldl (fun pb i => Tab.insert pb (bank * 256 + first + i) (leNat (t.rd (o.r1 + 16 * i) 16))) t.mx.pbuf } }).finishOp
            n o {}))))
    ∧ (∀ o, t.ops.find? (fun o => o.kind == .mxrun && o.staged.isNone) = some o → t.mode = .running → t.mx.run = none → t.free o = true → t.room o = true →
      o.spec = false → (∀ x ∈ opsBefore t.ops o.ticket, x.kind ≠ .mxrun ∧ x.kind ≠ .mxswap) →
      (o.r1 ≠ 0 → Gives (.matrixRunStart n) s ((s.pkg.bump (0x3840 + p) 4 1).finishOp n o { status := 5, detail := 8 + o.r2 * 256 }))
      ∧ (o.r1 = 0 →
        let self := bit (byteAt o.desc 0) 0
        let live (x : AccSet) : Option Nat := if x.live && !self then some x.kind else none
        let k : Walk := { a := (runRegs o.desc).1, c := (runRegs o.desc).2, live0 := live t.mx.set0, live1 := live t.mx.set1, entry := byteAt o.desc 1 }
        let run : MxRun := { ticket := o.ticket, bank := t.mx.active, entry := byteAt o.desc 1, self := self }
        let m : Matrix := { t.mx with run := some run, a := (runRegs o.desc).1, c := (runRegs o.desc).2 }
        (∀ c e, walkRun t.mx.pbuf t.mx.active (runReads o.desc) (runWrites o.desc) 65538 k = some (c, e) →
          Gives (.matrixRunStart n) s ((s.pkg.bump (0x3840 + p) 4 1).finishOp n o { status := 5, detail := c + e * 256 }))
        ∧ (walkRun t.mx.pbuf t.mx.active (runReads o.desc) (runWrites o.desc) 65538 k = none → Gives (.matrixRunStart n) s
          ((s.pkg.bump (0x3840 + p) 3 (runCycles t.mx.pbuf t.mx.active 65538 k {})).setTile n { t with
            mx := if self then { m with set0 := { t.mx.set0 with live := false }, set1 := { t.mx.set1 with live := false } } else m }))))
    ∧ (∀ o, t.ops.find? (fun o => o.kind == .mxswap) = some o → t.mode = .running →
      ((∀ x ∈ opsBefore t.ops o.ticket, x.kind ≠ .mxpb ∧ x.kind ≠ .mxrun) → Gives (.bankSwap n) s
        ((s.pkg.setTile n { t with mx := { t.mx with active := 1 - t.mx.active } }).finishOp n o {}))
      ∧ ((∃ x ∈ opsBefore t.ops o.ticket, x.kind = .mxpb) → exec (.bankSwap n) s = .next s))

/-- Micro-operations (05:R160, R165, R167, R168, R177, R178, R181). -/
def Obligations.MatrixMicroOperations : Prop :=
  ∀ (s : State) (n w : Nat) (run : MxRun), n < 6144 → s.pkg.fw.off = 0 →
    let t := s.pkg.tile n
    let m := t.mx
    m.run = some run → t.mode = .running →
    (run.ended = false → Tab.find m.pbuf (run.bank * 256 + run.entry) = some w →
      let put (m : Matrix) (r : MxRun) : Pkg := s.pkg.setTile n { t with mx := { m with run := some r } }
      (∀ e ∈ ([(0, Instr.mNop n), (1, .mSetr n), (2, .mAddr n), (3, .mZacc n), (4, .mLdacc n), (5, .mMma n), (6, .mStacc n), (7, .mLoop n), (8, .mEnd n)]
          : List (Nat × Instr)), moOp w ≠ e.1 → exec e.2 s = .next s)
      ∧ (moOp w = 0 → Gives (.mNop n) s (put m { run with entry := run.entry + 1 }))
      ∧ (moOp w = 1 → bits w 11 8 < 8 → Gives (.mSetr n) s (put { m with a := Tab.set 0 m.a (bits w 11 8) (bits w 63 32) } { run with entry := run.entry + 1 }))
      ∧ (moOp w = 1 → 8 ≤ bits w 11 8 → Gives (.mSetr n) s
          (put { m with c := Tab.set 0 m.c (bits w 11 8 - 8) (bits w 63 32 % 65536) } { run with entry := run.entry + 1 }))
      ∧ (moOp w = 2 → Gives (.mAddr n) s (put { m with a := Tab.set 0 m.a (bits w 10 8) ((Tab.get 0 m.a (bits w 10 8) + bits w 63 32) % 2 ^ 32) }
          { run with entry := run.entry + 1 }))
      ∧ (moOp w = 7 → let i := bits w 9 8
          (2 ≤ Tab.get 0 m.c i → Gives (.mLoop n) s (put { m with c := Tab.set 0 m.c i (Tab.get 0 m.c i - 1) } { run with entry := bits w 23 16 }))
          ∧ (Tab.get 0 m.c i < 2 → Gives (.mLoop n) s (put { m with c := Tab.set 0 m.c i 0 } { run with entry := run.entry + 1 })))
      ∧ (moOp w = 3 → Gives (.mZacc n) s (put (m.putSet (moSet w) { live := true, kind := moKind w, el := [] }) { run with entry := run.entry + 1 }))
      ∧ (moOp w = 4 → run.quiet (moSet w) = true →
          let v := fmtWidth (kindFmt (moKind w)) / 8
          let el := (tileIx (moKind w)).foldl (fun e rc => Tab.set 0 e (rc.1 * kindCols (moKind w) + rc.2)
            (t.ocache.rd (accAddr w (areg m.a (moRa w) + moOff w) (moKind w) v rc.1 rc.2) v)) []
          Gives (.mLdacc n) s (put (m.putSet (moSet w) { live := true, kind := moKind w, el := el }) { run with entry := run.entry + 1 }))
      ∧ (moOp w = 5 → (∀ x ∈ run.inflight, x.2 = fmtKind (moFmt w)) →
          let r := mmaInto (fun a l => t.ocache.readN a l) (m.set (moSet w)) (moFmt w) (moScaled w) (areg m.a (moRa w) + moOff w) (areg m.a (moRb w) + moBoff w) (moK w)
          let k := walkStep { a := m.a, c := m.c, entry := run.entry } w
          Gives (.mMma n) s (put { m.putSet (moSet w) r.1 with a := k.a }
            { run with entry := k.entry, fl := run.fl.or r.2, inflight := run.inflight ++ [(moSet w, fmtKind (moFmt w))]
                       macs := run.macs + kindRows (fmtKind (moFmt w)) * kindCols (fmtKind (moFmt w)) * moK w }))
      ∧ (moOp w = 6 → run.quiet (moSet w) = true → run.spec = false → moInc w = false →
          let x := m.set (moSet w)
          let v := fmtWidth (moFmt w) / 8
          let res := (tileIx x.kind).map (fun rc => (accAddr w (areg m.a (moRa w) + moOff w) x.kind v rc.1 rc.2,
            deliver {} (moFmt w) .rne (decodeFmt (kindFmt x.kind) (Tab.get 0 x.el (rc.1 * kindCols x.kind + rc.2)))))
          Gives (.mStacc n) s (s.pkg.setTile n
            { t.wrEach (res.flatMap (fun r => ((List.range v).zip (natLe v r.2.raw)).map (fun b => (r.1 + b.1, b.2)))) with
              mx := { m with run := some { run with entry := run.entry + 1, fl := res.foldl (fun f r => f.or r.2.fl) run.fl } } }))
      ∧ (moOp w = 8 → Gives (.mEnd n) s (put (if run.self then { m with set0 := {}, set1 := {} } else m) { run with ended := true })))
    ∧ Gives (.mMmaComplete n) s (s.pkg.setTile n { t with mx := { m with run := some { run with inflight := run.inflight.drop 1 } } })
    ∧ (run.ended = true → run.inflight = [] → ∀ o, t.ops.find? (fun o => o.ticket = run.ticket) = some o → Gives (.matrixRunComplete n) s
        ((s.pkg.setTile n { t with mx := { m with run := none } }).finishOp n o { writes := run.out, fl := run.fl, van := run.macs }))
    ∧ (run.ended = false ∨ run.inflight ≠ [] → exec (.matrixRunComplete n) s = .next s)

/-- Engine-issue instructions that hold, wait and mark (04:R127, R129, R138, R139, R153 to R155, 07:R210, 12:R377). -/
def Obligations.PlyInstructions : Prop :=
  ∀ (s : State) (n : Nat),
    let t := s.pkg.tile n
    let p := t.part - 1
    (∀ w len raw, s.pkg.fetches n w len raw → t.quiet →
      let a := (t.xr (Rv.rs1 w)).toNat
      let b := (t.xr (Rv.rs2 w)).toNat
      let st := t.useStall [Rv.rs1 w, Rv.rs2 w]
      (isYk w 0x0B 3 0 = true → t.mayIssue false = true →
        (a % 64 ≠ 0 ∨ dsOk a 128 = false ∨ dieOf a ≠ n / 128 → Gives (.ykSolve n) s (s.pkg.issueBad n (Rv.rd w) 1 .held))
        ∧ (a % 64 = 0 → dsOk a 128 = true → dieOf a = n / 128 → b = 0 ∨ 4096 < b → Gives (.ykSolve n) s (s.pkg.issueBad n (Rv.rd w) 2 .held))
        ∧ (a % 64 = 0 → dsOk a 128 = true → dieOf a = n / 128 → 0 < b → b ≤ 4096 → Gives (.ykSolve n) s (s.pkg.issueHeld n (Rv.rd w) (.solve a b))))
      ∧ (isYk w 0x0B 4 0 = true → t.mayIssue false = true → t.descBusy a 64 = false →
        (t.descAt a 64 = none → Gives (.ykColl n) s (s.pkg.issueBad n (Rv.rd w) 4 .held))
        ∧ (∀ d c, t.descAt a 64 = some d → s.pkg.collCause p (collDesc d) = some c → Gives (.ykColl n) s (s.pkg.issueBad n (Rv.rd w) c .held))
        ∧ (∀ d, t.descAt a 64 = some d → s.pkg.collCause p (collDesc d) = none → Gives (.ykColl n) s (s.pkg.issueHeld n (Rv.rd w) (.coll d))))
      ∧ (isYk w 0x0B 5 0 = true →
        (32 ≤ t.elist.length → Gives (.ykEload n) s (s.pkg.trap n 2 (BitVec.ofNat 64 raw) true))
        ∧ (t.elist.length < 32 → a % 64 = 0 → dsOk a (b % 2 ^ 32) = true → 64 ≤ b % 2 ^ 32 → b % 2 ^ 32 ≤ 0x80000 → b % 2 ^ 32 % 64 = 0 →
            b / 2 ^ 32 % 64 = 0 → inLocal (b / 2 ^ 32) (b % 2 ^ 32) = true → Gives (.ykEload n) s
              (s.pkg.retire n { t with elist := t.elist ++ [(a, b % 2 ^ 32, b / 2 ^ 32)] } len (st + 1)))
        ∧ (t.elist.length < 32 → a % 64 ≠ 0 → Gives (.ykEload n) s (s.pkg.trap n 2 (BitVec.ofNat 64 raw))))
      ∧ (isYk w 0x0B 6 0 = true →
        (∀ v, t.status (a % 65536) = some v → Gives (.ykWait n) s
          (s.pkg.retire n (t.setX (Rv.rd w) (BitVec.ofNat 64 v)) len (t.useStall [Rv.rs1 w] + 1)))
        ∧ (t.status (a % 65536) = none → exec (.ykWait n) s = .next s))
      ∧ (isYk w 0x0B 6 1 = true →
        (t.ops = [] → Gives (.ykWaitall n) s (s.pkg.retire n (t.setX (Rv.rd w) (BitVec.ofNat 64 ((t.lowBad.map (fun x => x.2)).getD 0))) len 1))
        ∧ (t.ops ≠ [] → exec (.ykWaitall n) s = .next s))
      ∧ (t.ops = [] → t.gambit = false →
        let marked (f : Option Bool) : Pkg := (s.pkg.cycles n 1).setTile n { t.adv len 1 with fend := f }
        (t.active + 1 < (s.pkg.part p).mem.cap * 1500 →
          (isYk w 0x2B 0 0 = true → Gives (.ykPly n) s ((marked none).drain n))
          ∧ (isYk w 0x2B 1 0 = true → Gives (.ykFend n) s ((marked (some false)).drain n))
          ∧ (isYk w 0x2B 1 1 = true → Gives (.ykFend n) s ((marked (some true)).drain n)))
        ∧ ((s.pkg.part p).mem.cap * 1500 ≤ t.active + 1 →
          (isYk w 0x2B 0 0 = true → Gives (.ykPly n) s ((marked none).killTile n 0x0106 []))
          ∧ (isYk w 0x2B 1 0 = true → Gives (.ykFend n) s ((marked (some false)).killTile n 0x0106 []))))
      ∧ (isYk w 0x2B 2 0 = true →
        (a % 8 ≠ 0 → Gives (.ykRelw n) s (s.pkg.trap n 7 (BitVec.ofNat 64 a)))
        ∧ (a % 8 = 0 → s.pkg.ownRange p a 8 = false → Gives (.ykRelw n) s ((s.pkg.addrError p a 8).trap n 7 (BitVec.ofNat 64 a)))
        ∧ (a % 8 = 0 → s.pkg.ownRange p a 8 = true → t.mayIssue false = true → Gives (.ykRelw n) s (s.pkg.issueHeld n 0 (.rel a b))))
      ∧ (isYk w 0x2B 3 0 = true →
        (a % 8 ≠ 0 → Gives (.ykWaitw n) s (s.pkg.trap n 5 (BitVec.ofNat 64 a)))
        ∧ (a % 8 = 0 → s.pkg.ownRange p a 8 = true → b ≤ s.pkg.dword a → Gives (.ykWaitw n) s
            (s.pkg.retire n ({ t with waitw := none }.setX (Rv.rd w) (BitVec.ofNat 64 (s.pkg.dword a))) len (t.issueStall + 1)))
        ∧ (a % 8 = 0 → s.pkg.ownRange p a 8 = true → s.pkg.dword a < b → Gives (.ykWaitw n) s
            (s.pkg.setTile n { t with waitw := some (Rv.rd w, a, b, s.pkg.tempo.now), spanCyc := s.pkg.span n, spanFrom := s.pkg.tempo.now }))))
    ∧ (∀ r h, t.heldBefore t.ticket = false → 2032 < t.units + 1 → s.pkg.issueHeld n r h = (s.pkg.bump (0x3860 + p) 0x0A 1).killTile n 0x0107 [])
    ∧ (∀ r h, t.heldBefore t.ticket = false → t.units + 1 ≤ 2032 → t.core.region = none →
        ((s.pkg.issueHeld n r h).tile n).buf = t.buf ++ [(t.ticket, h)] ∧ ((s.pkg.issueHeld n r h).tile n).units = t.units + 1
        ∧ ((s.pkg.issueHeld n r h).tile n).ticket = t.ticket + 1 ∧ Tab.find ((s.pkg.issueHeld n r h).tile n).done t.ticket = some 0)
    ∧ ∀ r a v since, n < 6144 → s.pkg.fw.off = 0 → t.waitw = some (r, a, v, since) →
        (s.pkg.dword a < v → exec (.waitwWake n) s = .next s)
        ∧ (v ≤ s.pkg.dword a → Leaves (.waitwWake n) s fun k =>
            (k.tile n).waitw = none ∧ (r ≠ 0 → (k.tile n).xr r = BitVec.ofNat 64 (s.pkg.dword a)) ∧ (k.tile n).core.pc = t.core.pc + 4
            ∧ (k.tile n).spanCyc = t.spanCyc ∧ (k.tile n).spanFrom = s.pkg.tempo.now ∧ k.dstore = s.pkg.dstore)
        ∧ (since + 50000000 ≤ s.pkg.tempo.now → s.pkg.dword a < v → Gives (.waitwTimeout n) s (s.pkg.stopTile n 3))
        ∧ (s.pkg.tempo.now < since + 50000000 → exec (.waitwTimeout n) s = .next s)

/-- Every ply entry leaves the matrix engine so (05:R170). -/
def Obligations.PlyEntryClearsMatrix : Prop :=
  let clear (k : Pkg) (n : Nat) : Prop := (∀ b i, b < 2 → i < 256 → Tab.find (k.tile n).mx.pbuf (b * 256 + i) = none) ∧ (k.tile n).mx.active = 0
    ∧ (k.tile n).mx.set0.live = false ∧ (k.tile n).mx.set1.live = false ∧ (∀ i, Tab.get 0 (k.tile n).mx.set0.el i = 0)
    ∧ ∀ i, Tab.get 0 (k.tile n).mx.set1.el i = 0
  (∀ (s : State) (n : Nat), n < 6144 → s.pkg.fw.off = 0 →
    ((s.pkg.tile n).mode = .draining → Leaves (.plyCommit n) s fun k => clear k n)
    ∧ ((s.pkg.tile n).mode = .faulted → (∀ r ∈ s.pkg.fault.open_, r.tile = n → r.step = 1) → Leaves (.replay n) s fun k => clear k n))
  ∧ ∀ (k : Pkg) (n i : Nat) (e : List Byte), clear (k.recordTile n) n ∧ clear (k.restoreTile n) n ∧ clear (k.loadTile n i e) n
      ∧ ((k.tile n).gambit = true → (k.tile n).mode = .running ∨ (k.tile n).mode = .gambitHeld → clear (k.dropGambit n) n)

/-- Events of plies (03:R94 to R96, 06:R203, 13:R406). -/
def Obligations.PlyEvents : Prop :=
  ∀ (s : State) (n : Nat), n < 6144 → s.pkg.fw.off = 0 →
    let t := s.pkg.tile n
    let p := t.part - 1
    (t.mode ≠ .draining → exec (.plyCommit n) s = .next s)
    ∧ (t.mode = .draining → Leaves (.plyCommit n) s fun k =>
        (k.tile n).seq = t.seq + 1 ∧ (k.tile n).frame = (if t.fend.isSome then t.frame + 1 else t.frame) ∧ (k.tile n).buf = [] ∧ (k.tile n).ops = []
        ∧ (k.tile n).ticket = 0 ∧ (k.tile n).elist = [] ∧ (k.tile n).active = 0 ∧ (k.tile n).entered = s.pkg.tempo.now
        ∧ ((k.tile n).mode = .running ∨ (t.fend.isSome = true ∧ (k.tile n).mode = .frameDone)))
    ∧ (t.mode = .draining → t.buf = [] → (∀ d ∈ s.pkg.sdies, d.2.arriving = []) → t.fend = none → s.pkg.fault.open_ = [] → s.pkg.net.sends = [] →
        Leaves (.plyCommit n) s fun k =>
          k.dstore = (s.pkg.dstorePut (s.pkg.recAddr n (t.seq + 1)) (t.record (t.seq + 1) t.frame t.core.pc false)).dstore
          ∧ k.ent (0x2210 + p) 0x0C = s.pkg.ent (0x2210 + p) 0x0C + 1 ∧ ∀ u, u ≠ n → k.tile u = s.pkg.tile u)
    ∧ (t.mode = .running → (s.pkg.part p).mem.cap * 1500 ≤ t.active → Leaves (.plyWatchdog n) s fun k =>
        k.tile n = { t with mode := .stopped, buf := [], units := 0, ops := [], waitw := none, core := { t.core with region := none } }
        ∧ (∀ u, u ≠ n → k.tile u = s.pkg.tile u) ∧ k.dstore = s.pkg.dstore ∧ Reports k 0x0106 p [n, t.seq]
        ∧ ((s.pkg.part p).st = .running → (k.part p).st = .holding ∧ (k.part p).holdCause = 0x0106))
    ∧ (t.active < (s.pkg.part p).mem.cap * 1500 → exec (.plyWatchdog n) s = .next s)
    ∧ (t.mode = .faulted → (∀ r ∈ s.pkg.fault.open_, r.tile = n → r.step = 1) → Gives (.replay n) s (s.pkg.replayTile n)
        ∧ ((s.pkg.replayTile n).tile n).gambit = false ∧ ((s.pkg.replayTile n).tile n).seq = t.seq
        ∧ (((s.pkg.replayTile n).tile n).mode = .running ∨ ((s.pkg.replayTile n).tile n).mode = .rampWait))
    ∧ (∀ l m, t.part ≠ 0 → l < 8192 → Memory.wf t.ocache = true → Leaves (.ocacheScrub n l m) s fun k =>
        k.tile n = t ∧ k.ent (0x3860 + p) 6 = s.pkg.ent (0x3860 + p) 6 + 1 ∧ k.dstore = s.pkg.dstore)
    ∧ (∀ l m, t.part ≠ 0 → 8192 ≤ l → l < 11264 → Gives (.ocacheScrub n l m) s (s.pkg.bump (0x3860 + p) 8 1))
    ∧ (t.busy = false → exec (.ocacheUncorrectable n) s = .next s)
    ∧ (t.busy = true →
        let e := (s.pkg.bump (0x3860 + p) 7 1).noteError (0x1000000 + n)
        (e.1 < 3 → Gives (.ocacheUncorrectable n) s (e.2.replayInPlace n))
        ∧ (3 ≤ e.1 → Gives (.ocacheUncorrectable n) s ((e.2.clearErrors (0x1000000 + n)).siteFail n 0))
        ∧ ((e.2.replayInPlace n).tile n).mode = .faulted ∧ ((e.2.replayInPlace n).tile n).buf = [])

/-- The solver engine (07:R210 to R217, R227 to R229, 13:R403, R406). -/
def Obligations.SolverBatches : Prop :=
  ∀ (s : State) (e : Nat), e < 768 → s.pkg.fw.off = 0 →
    let x := s.pkg.engine e
    (s.pkg.nextBatch e = none → exec (.solverBatchStart e) s = .next s)
    ∧ (∀ r, s.pkg.nextBatch e = some r →
      let k := s.pkg.setEngine e { x with queue := x.queue.drop 1 }
      let raw := s.pkg.dstore.readN r.hdr 128
      let h := solverHdr raw
      (h.doneOk (winOf r.tile) = false → Gives (.solverBatchStart e) s ((k.bump (0x3800 + r.part) 4 1).fillQueues))
      ∧ (h.doneOk (winOf r.tile) = true → h.check r.count (winOf r.tile) ≠ 0 → Gives (.solverBatchStart e) s
          ((((k.bump (0x3800 + r.part) 4 1).batchResult e r (h.check r.count (winOf r.tile)) 0).batchDone e r h.done).fillQueues))
      ∧ (h.doneOk (winOf r.tile) = true → h.check r.count (winOf r.tile) = 0 → Gives (.solverBatchStart e) s
          ((k.setEngine e { x with queue := x.queue.drop 1, batches := x.batches ++ [{ req := r, hdr := raw }] }).fillQueues)))
    ∧ (∀ b, x.batches.find? (fun b => decide (b.next < b.req.count)) = some b → s.pkg.slotsUsed e + (solverHdr b.hdr).slots ≤ 32 →
        x.probs.all (·.loaded) = true → s.pkg.engineUp e = true → Gives (.solverProblemStart e) s ((s.pkg.setEngine e { x with
          probs := x.probs ++ [{ stamp := b.req.stamp, idx := b.next, slots := (solverHdr b.hdr).slots, input := s.pkg.problemInput (solverHdr b.hdr) b.next }]
          batches := mapIf (fun (y : Batch) => y.req.stamp = b.req.stamp) (fun y => { y with next := y.next + 1 }) x.batches }).countInput
          b.req.part (solverHdr b.hdr) b.next))
    ∧ (∀ b, x.batches.find? (fun b => decide (b.next < b.req.count)) = some b → 32 < s.pkg.slotsUsed e + (solverHdr b.hdr).slots →
        x.probs.all (·.loaded) = true → exec (.solverProblemStart e) s = .next s)
    ∧ (∀ (p : Prob) (b : Batch) (c place : Nat), s.pkg.engineUp e = true → x.resident place = some p → x.batches.find? (fun b => decide (b.req.stamp = p.stamp)) = some b →
      let h := solverHdr b.hdr
      let out := h.base + p.idx * h.stride + h.outOff
      let r := match p.input with
        | some d => solverRun h d
        | none => (statusRec 1 {} 0 0 0 false false, {})
      let k := ((((((s.pkg.setEngine e { x with
          probs := x.probs.filter (fun q => !(p.same q)), batches := mapIf (fun (y : Batch) => y.req.stamp = b.req.stamp) (fun y => { y with completed := y.completed + 1 }) x.batches }).solverPut
          e b.req { addr := out, data := r.1 }).countWrite b.req.part (b.req.tile / 128) out r.1.length).bump (0x3800 + b.req.part) 2 1).bump
          (0x3800 + b.req.part) 3 h.cycles).bump (0x3800 + b.req.part) 7 r.2.tiny).bump (0x3800 + b.req.part) 0x0A c
      Gives (.solverProblemComplete ⟨e, c, place⟩) s ((if p.input.isNone then k.bump (0x3800 + b.req.part) 6 1 else k).remapDone e))
    ∧ (∀ b, x.batches.find? (fun b => decide (b.completed = b.req.count)) = some b → Gives (.solverBatchComplete e) s
        (((((s.pkg.setEngine e { x with batches := x.batches.filter (fun y => y.req.stamp ≠ b.req.stamp) }).batchResult e b.req 0 b.completed).batchDone
          e b.req (solverHdr b.hdr).done).bump (0x3800 + b.req.part) 1 1).fillQueues))
    ∧ (∀ (p : Prob) (b : Batch) (lane place : Nat), x.resident place = some p → x.batches.find? (fun b => decide (b.req.stamp = p.stamp)) = some b →
      let d := s.pkg.servedBy e
      let y := s.pkg.engine d
      let n := (s.pkg.bump (0x3800 + b.req.part) 8 1).noteError (0x3000000 + d * 64 + lane)
      (n.1 < 2 → Gives (.solverStepRepeat ⟨e, place⟩ lane) s n.2)
      ∧ (2 ≤ n.1 → y.lanes < 2 → Leaves (.solverStepRepeat ⟨e, place⟩ lane) s fun k =>
          k.engine d = { y with lanes := y.lanes + 1 } ∧ k.ent 0x3000 1 = s.pkg.ent 0x3000 1 + 1 ∧ k.ent 0x3001 1 = s.pkg.ent 0x3001 1 + 1
          ∧ (y.lanes = 1 → Reports k 0x0205 0xFF [1, b.req.tile, 0]))
      ∧ Gives (.solverProblemRestart ⟨e, place⟩) s ((((s.pkg.setEngine e { x with
          probs := mapIf (Prob.same p) (fun q => { q with input := s.pkg.problemInput (solverHdr b.hdr) p.idx, loaded := true }) x.probs }).countInput b.req.part
          (solverHdr b.hdr) p.idx).bump (0x3800 + b.req.part) 3 (solverHdr b.hdr).cycles).bump (0x3800 + b.req.part) 9 1))
    ∧ (∀ p, x.probs = [p] → p.loaded = false →
        (32 < s.pkg.slotsUsed e + p.slots → exec (.solverProblemStart e) s = .next s)
        ∧ (s.pkg.slotsUsed e + p.slots ≤ 32 → s.pkg.engineUp e = true → Gives (.solverProblemStart e) s (s.pkg.problemAgain e p)))
    ∧ (x.probs = [] → ∀ place, (∀ c, exec (.solverProblemComplete ⟨e, c, place⟩) s = .next s)
        ∧ (∀ lane, exec (.solverStepRepeat ⟨e, place⟩ lane) s = .next s) ∧ exec (.solverProblemRestart ⟨e, place⟩) s = .next s)
    ∧ (x.batches = [] → exec (.solverProblemStart e) s = .next s ∧ exec (.solverBatchComplete e) s = .next s)
    ∧ (s.pkg.engineUp e = true → exec (.solverEngineRemap e) s = .next s)
    ∧ (2 < x.lanes → x.mapped = 0 → s.pkg.sharers e = [e] → x.probs = [] →
        (s.pkg.engine (if e % 16 = 15 then e - 1 else e + 1)).lanes ≤ 2 → Leaves (.solverEngineRemap e) s fun k =>
          k.engine e = { x with mapped := (if e % 16 = 15 then e - 1 else e + 1) + 1, probs := [], redo := false, redoAt := s.pkg.tempo.now }
          ∧ (∀ d, d ≠ e → k.engine d = s.pkg.engine d) ∧ k.ent 0x3001 3 = s.pkg.ent 0x3001 3 + 1)

/-- Solver engine numbers (01:R29). -/
def Obligations.SolverNumbersFollowTheTile : Prop :=
  (∀ d l, d < 48 → l < 128 → engineOf (tileNo d l) = d * 16 + l / 8 ∧ engineOf (tileNo d l) < 768)
  ∧ (∀ (k : Pkg) (r : SolveReq), (∀ e, e ≠ engineOf r.tile → (k.solveSubmit r).engine e = k.engine e)
      ∧ (r ∈ ((k.solveSubmit r).engine (engineOf r.tile)).queue ∨ r ∈ (k.solveSubmit r).solveWait)
      ∧ let all := insertBy SolveReq.before r ((k.engine (engineOf r.tile)).queue ++ k.solveWait.filter (fun w => decide (engineOf w.tile = engineOf r.tile)))
        ((k.solveSubmit r).engine (engineOf r.tile)).queue = all.take 16
        ∧ (k.solveSubmit r).solveWait = k.solveWait.filter (fun w => !(decide (engineOf w.tile = engineOf r.tile))) ++ all.drop 16)
  ∧ ∀ (s : State) (t : Nat) (r : SolveReq), r.tile < 6144 → ∀ u, exec (.castlingCommit t) s = .next u →
      ∀ e, e ≠ engineOf r.tile → (u.pkg.solveSubmit r).engine e = u.pkg.engine e

/-- Store dies (09:R263, R265), the shared cache (08:R252, R253) and closing regions (09:R272). -/
def Obligations.StoreDies : Prop :=
  (∀ (s : State) (d : Nat), d < 48 → s.pkg.fw.off = 0 →
    let x := s.pkg.sdie d
    (∀ n, (∀ w ∈ x.arriving, w.reply = none) →
      Gives (.dstoreWriteApply d n) s ((tieSort (x.arriving.take n)).foldl (fun k w => k.applyOne d 0 w) s.pkg))
    ∧ (∀ w, x.arriving = [w] → s.pkg.mustWait d w = false → w.reply = none →
      Gives (.dstoreWriteApply d 1) s ((s.pkg.setSdie d { x with arriving := [] }).applyWrite w))
    ∧ (∀ w h code, x.arriving = [w] → s.pkg.mustWait d w = false → w.src = 4 → w.reply = some (h, code) →
      Gives (.dstoreWriteApply d 1) s (((s.pkg.setSdie d { x with arriving := [] }).applyWrite w).answer (Hdr.dec h) opACK 0 code []))
    ∧ (∀ w, x.arriving = [w] → s.pkg.mustWait d w = true → exec (.dstoreWriteApply d 1) s = .next s)
    ∧ Gives (.dstorePatrolScrub d ⟨0, none, none⟩) s (s.pkg.setSdie d { x with scrub := (x.scrub + 1) % 23986176 })
    ∧ Gives (.dstorePatrolScrub d ⟨1, none, none⟩) s ((s.pkg.setSdie d { x with scrub := (x.scrub + 1) % 23986176 }).bump (0x4040 + d) 1 1)
    ∧ (∀ l, l < 20971520 → exec (.dstorePatrolScrub d ⟨0, some l, none⟩) s = .next s ∧ Gives (.dstorePatrolScrub d ⟨1, some l, none⟩) s (s.pkg.bump (0x4040 + d) 1 1))
    ∧ (∀ b, b < 256 → (∀ i, i < 8 → x.dead (b / 8 * 8 + i) = false) →
      (x.spares = 0 → Leaves (.dstoreBankFail d b) s fun k =>
        k.sdie d = { x with banks := Tab.insert x.banks b 3, recon := Tab.erase x.recon b } ∧ Reports k 0x0305 (s.pkg.partOfDie d) [d]
        ∧ k.groupOpen 4 (d * 32 + b / 8) = true ∧ k.dstore = s.pkg.dstore)
      ∧ (1 < x.spares → Gives (.dstoreBankFail d b) s
          ((s.pkg.setSdie d { x with banks := Tab.insert x.banks b 1, recon := Tab.erase x.recon b, spares := x.spares - 1,
                                         failedAt := Tab.insert x.failedAt b s.pkg.tempo.now }).openGroup 4 (d * 32 + b / 8))))
    ∧ (∀ b, b < 256 → x.dead b = true → exec (.dstoreBankFail d b) s = .next s)
    ∧ (∀ b, b < 256 → Tab.get 0 x.banks b = 1 → x.otherDead b = false → Leaves (.dstoreBankRebuildDone d b) s fun k =>
        k.sdie d = { x with banks := Tab.insert x.banks b 2, failedAt := Tab.erase x.failedAt b } ∧ k.groupOpen 4 (d * 32 + b / 8) = false
        ∧ k.ent (0x4040 + d) 3 = s.pkg.ent (0x4040 + d) 3 + 1 ∧ k.ent 0x3001 4 = s.pkg.ent 0x3001 4 + 1 ∧ k.dstore = s.pkg.dstore)
    ∧ (∀ b, b < 256 → Tab.get 0 x.banks b ≠ 1 → exec (.dstoreBankRebuildDone d b) s = .next s))
  ∧ (∀ (k : Pkg) (w : DWrite), w.src ≤ 1 → (k.applyWrite w).applyWrite w = k.applyWrite w)
  ∧ (∀ s : State, s.pkg.fw.off = 0 →
    (∀ l, l ∉ s.pkg.invals → exec (.scacheInvalidation l) s = .next s)
    ∧ (∀ l, l ∈ s.pkg.invals → s.pkg.relWait = [] → s.pkg.colls = [] → Leaves (.scacheInvalidation l) s fun k =>
        l ∉ k.invals ∧ (∀ m, m ≠ l → (m ∈ k.invals ↔ m ∈ s.pkg.invals)) ∧ Tab.find k.scache l = none ∧ Tab.find k.cached l = none
        ∧ (∀ m, m ≠ l → Tab.find k.scache m = Tab.find s.pkg.scache m) ∧ k.dstore = s.pkg.dstore ∧ k.ent 0x38C0 4 = s.pkg.ent 0x38C0 4 + 1)
    ∧ (∀ c set way kind, c < 64 → set < 16384 → way < 16 → kind < 3 →
      (bit (s.pkg.cslice c).retired way = true → exec (.scacheEccError c set way kind) s = .next s)
      ∧ (bit (s.pkg.cslice c).retired way = false → Tab.get 0 (s.pkg.cslice c).errs way + 1 < 16 → Leaves (.scacheEccError c set way kind) s fun k =>
          k.ent 0x38C0 (5 + kind) = s.pkg.ent 0x38C0 (5 + kind) + 1 ∧ 1 ≤ Tab.get 0 (k.cslice c).errs way
          ∧ (k.cslice c).retired = (s.pkg.cslice c).retired ∧ k.dstore = s.pkg.dstore ∧ (kind = 0 → k.scache = s.pkg.scache)
          ∧ (kind ≠ 0 → ∀ l v, Tab.find k.scache l = some v → Tab.find s.pkg.scache l = some v)))
    ∧ ∀ r, r < 1024 → (s.pkg.region r).st = 3 → s.pkg.regionRefs r = 0 → s.pkg.tier.creating = [] →
      ((s.pkg.region r).toward = 1 → Gives (.regionCloseDone r) s (s.pkg.setRegion r { s.pkg.region r with st := 1, toward := 0 }))
      ∧ ((s.pkg.region r).toward ≠ 1 → Leaves (.regionCloseDone r) s fun k =>
          (k.region r).st = 0 ∧ (k.region r).gen = (s.pkg.region r).gen ∧ (k.region r).ext = [] ∧ ∀ q, q ≠ r → k.region q = s.pkg.region q))

/-- HART_INSTRUCTION (08:R233 to R235, R243, R244); results of the RISC-V manuals are the model's source (log entry 14).
Registers of a hart, and its traps (08:R233, R234; the privileged architecture of the RISC-V manual, log entry 14). -/
def Obligations.HartInstructions : Prop :=
  ((∀ (s : State) (h w len raw : Nat) (k : Pkg), s.pkg.hFetches h w len raw k →
    let x := (k.hart h).a
    let a := x.xr (Rv.rs1 w)
    let b := x.xr (Rv.rs2 w)
    let fin (f : HArch → HArch) (n : Nat) : Pkg := (k.retireWith h n f).endHint h w (s.pkg.hart h)
    (Rv.opc w = 0x37 → Gives (.hartInstruction h) s (fin (fun x => x.setX (Rv.rd w) (Rv.immU w)) len))
    ∧ (Rv.opc w = 0x17 → Gives (.hartInstruction h) s (fin (fun y => y.setX (Rv.rd w) (x.pc + Rv.immU w)) len))
    ∧ (∀ v, Rv.opc w = 0x13 → Rv.f3 w ≠ 6 → hImm w a = some v → Gives (.hartInstruction h) s (fin (fun y => y.setX (Rv.rd w) v) len))
    ∧ (∀ v, Rv.opc w = 0x1B → hImm32 w a = some v → Gives (.hartInstruction h) s (fin (fun y => y.setX (Rv.rd w) v) len))
    ∧ (∀ v, Rv.opc w = 0x33 → Rv.rd w ≠ 0 → hAlu (Rv.f7 w) (Rv.f3 w) a b = some v → Gives (.hartInstruction h) s (fin (fun y => y.setX (Rv.rd w) v) len))
    ∧ (∀ v, Rv.opc w = 0x3B → hAlu32 (Rv.f7 w) (Rv.f3 w) (Rv.rs2 w) a b = some v → Gives (.hartInstruction h) s (fin (fun y => y.setX (Rv.rd w) v) len))
    ∧ (Rv.opc w = 0x6F → Gives (.hartInstruction h) s
        (fin (fun y => { y.setX (Rv.rd w) (x.pc + BitVec.ofNat 64 len) with pc := x.pc + Rv.immJ w }) 0))
    ∧ (Rv.opc w = 0x67 → Rv.f3 w = 0 → Gives (.hartInstruction h) s
        (fin (fun y => { y.setX (Rv.rd w) (x.pc + BitVec.ofNat 64 len) with pc := (a + Rv.immI w) &&& ~~~1#64 }) 0))
    ∧ (Rv.opc w = 0x63 → Rv.branchTaken (Rv.f3 w) a b = some true → Gives (.hartInstruction h) s (fin (fun y => { y with pc := x.pc + Rv.immB w }) 0))
    ∧ (Rv.opc w = 0x63 → Rv.branchTaken (Rv.f3 w) a b = some false → Gives (.hartInstruction h) s ((k.hretire h len).endHint h w (s.pkg.hart h)))
    ∧ (∀ z m, Rv.opc w = 0x03 → Rv.f3 w < 7 → Rv.accSize (Rv.f3 w) = z →
        let va := x.maskPtr (a + Rv.immI w).toNat
        k.resolve h 1 (pageParts va z) = (.parts [(.mem m, z)], k) → (Tab.find k.scache (m / 64)).isSome = true →
        m / 64 = (m + z - 1) / 64 → homeSlice (m / 64) / 16 = h / 384 →
        let (d, t) := k.loadBytes h m z (k.hart h).ntl
        Gives (.hartInstruction h) s
          ((t.retireWith h len (fun y => y.deliver (.x (Rv.rd w) (decide (Rv.f3 w < 4))) (forward (t.hart h).buf m d))).endHint h w (s.pkg.hart h)))
    ∧ (∀ z m, Rv.opc w = 0x23 → Rv.f3 w < 4 → Rv.accSize (Rv.f3 w) = z →
        let va := x.maskPtr (a + Rv.immS w).toNat
        k.resolve h 2 (pageParts va z) = (.parts [(.mem m, z)], k) →
        let want := ((linesOf m z).filter (fun l => !((k.hart h).lines.contains l))).eraseDups
        let end_ (r : Pkg) : Pkg := ((r.hretire h len).switchOut h (r.isLong h [(m, z)])).endHint h w (s.pkg.hart h)
        ((k.hart h).part ≠ 0 → k.bufUnits (h / 8) + want.length ≤ 1024 → Gives (.hartInstruction h) s
          (end_ (k.setHart h { k.hart h with buf := (k.hart h).buf ++ [(m, (natLe z b.toNat).take z)], lines := (k.hart h).lines ++ want })))
        ∧ ((k.hart h).part = 0 → Gives (.hartInstruction h) s (end_ (k.writeThrough h m ((natLe z b.toNat).take z)))))
    ∧ (Rv.opc w = 0x0F → Rv.f3 w = 0 → bit w 24 = true → Gives (.hartInstruction h) s (((k.hretire h len).hmark h).endHint h w (s.pkg.hart h)))
    ∧ (Rv.opc w = 0x0F → Rv.f3 w = 0 → bit w 24 = false → Gives (.hartInstruction h) s ((k.hretire h len).endHint h w (s.pkg.hart h)))
    ∧ (Rv.opc w = 0x73 → Rv.f3 w = 0 → Rv.rd w = 0 → Rv.f7 w = 9 → x.priv = 1 → Gives (.hartInstruction h) s (((k.hretire h len).hmark h).endHint h w (s.pkg.hart h)))
    ∧ (w = 0x73 → x.priv = 0 ∨ s.pkg.svc h = true → Gives (.hartInstruction h) s ((k.hartTrap h (8 + x.priv) 0).endHint h w (s.pkg.hart h)))
    ∧ (w = 0x100073 → Gives (.hartInstruction h) s ((k.hartTrap h 3 x.pc.toNat).endHint h w (s.pkg.hart h)))
    ∧ (Rv.opc w = 0x0B → Gives (.hartInstruction h) s ((k.hartTrap h 2 raw).endHint h w (s.pkg.hart h))))
  ∧ (∀ (s : State) (h : Nat), h < 1536 → s.pkg.fw.off = 0 → s.pkg.hartRuns h = true →
      (∀ c, s.pkg.irqDue h = some c → Gives (.hartInstruction h) s (s.pkg.hartIrq h c))
      ∧ ∀ c va k, s.pkg.irqDue h = none → s.pkg.hFetch h = (.fault c va, k) → Gives (.hartInstruction h) s (k.hartTrap h c va))
  ∧ ∀ (s : State) (h : Nat), h < 1536 → s.pkg.hartRuns h = false →
      ∀ i ∈ ([.hartInstruction h, .hartTierLoad h, .ykvSaduVv h, .ykvSadsVv h, .ykvSaduVx h, .ykvSadsVx h, .ykvSumm h, .ykvSumh h, .ykHply h,
        .amoadd h, .amoand h, .amoor h, .amoxor h, .amomin h, .amomax h, .amominu h, .amomaxu h, .amoswap h, .amocasW h, .amocasD h, .amocasQ h,
        .lr h, .sc h, .sbiBase h, .sbiSetTimer h, .sbiSendIpi h, .sbiRemoteFence h, .sbiHartGetStatus h, .sbiHartSuspend h, .sbiHartStartStop h,
        .sbiSystemReset h, .sbiFabricError h, .sbiMemberRank h, .sbiHartIndex h] : List Instr), exec i s = .next s)
  ∧ ((∀ (a : HArch) (i : Nat) (v : Word), a.xr 0 = 0 ∧ a.setX 0 v = a ∧ (i ≠ 0 → (a.setX i v).xr i = v) ∧ ∀ j, j ≠ i → (a.setX i v).xr j = a.xr j)
  ∧ (∀ (a : HArch) (c t : Nat) (q : Bool), a.priv < 2 →
      let b := a.trap c t q
      b.priv = 1 ∧ b.csr.sepc = a.pc.toNat ∧ b.csr.stval = t ∧ b.csr.scause = (if q then 2 ^ 63 else 0) + c ∧ b.x = a.x ∧ b.f = a.f ∧ b.v = a.v
      ∧ bit b.csr.sstatus 1 = false ∧ bit b.csr.sstatus 5 = bit a.csr.sstatus 1 ∧ bit b.csr.sstatus 8 = decide (a.priv = 1)
      ∧ (a.csr.stvec % 4 = 0 → b.pc = BitVec.ofNat 64 a.csr.stvec)
      ∧ b.sret.pc = a.pc ∧ b.sret.priv = a.priv ∧ bit b.sret.csr.sstatus 1 = bit a.csr.sstatus 1)
  ∧ (∀ (a : HArch) (c t : Nat) (q : Bool), a.priv < 4 → a.priv ≠ 2 →
      let b := a.trapM c t q
      b.priv = 3 ∧ b.csr.mepc = a.pc.toNat ∧ b.csr.mtval = t ∧ b.csr.mcause = (if q then 2 ^ 63 else 0) + c ∧ b.x = a.x ∧ b.f = a.f ∧ b.v = a.v
      ∧ bit b.csr.mstatus 3 = false ∧ bit b.csr.mstatus 7 = bit a.csr.mstatus 3 ∧ bits b.csr.mstatus 12 11 = a.priv
      ∧ (a.csr.mtvec % 4 = 0 → b.pc = BitVec.ofNat 64 a.csr.mtvec)
      ∧ b.mret.pc = a.pc ∧ b.mret.priv = a.priv ∧ bit b.mret.csr.mstatus 3 = bit a.csr.mstatus 3)
  ∧ (∀ (k : Pkg) (h c t : Nat),
      let x := k.hart h
      let b := x.a.take (k.svc h) c t false
      ((k.hartTrap h c t).hart h) = { x with a := b, ntl := false, n := x.n + 1, resv := if x.a.toS (k.svc h) c false then x.resv else none }
      ∧ ((k.hartIrq h c).hart h) = { x with a := x.a.take (k.svc h) c 0 true, ntl := false, resv := if x.a.toS (k.svc h) c true then x.resv else none }
      ∧ ∀ j, j ≠ h → (k.hartTrap h c t).hart j = k.hart j ∧ (k.hartIrq h c).hart j = k.hart j)
  ∧ ∀ (a : HArch) (c t : Nat) (q : Bool), a.take false c t q = a.trap c t q
      ∧ (a.priv ≤ 1 → bit (if q then a.csr.mideleg else a.csr.medeleg) c = true → a.take true c t q = a.trap c t q)
      ∧ (a.priv = 3 ∨ bit (if q then a.csr.mideleg else a.csr.medeleg) c = false → a.take true c t q = a.trapM c t q))

/-- YK.HPLY, HART_PLY_CAP, HART_PLY_COMMIT, HART_ACCESS_COMPLETE, THREAD_SWITCH (08:R242 to R246). -/
def Obligations.HartMarks : Prop :=
  (∀ (s : State) (h len raw : Nat) (k : Pkg), s.pkg.hFetches h 0x705B len raw k →
    Gives (.ykHply h) s (((k.hretire h len).hmark h).endHint h 0x705B (s.pkg.hart h)))
  ∧ (∀ (s : State) (h : Nat), h < 1536 → s.pkg.fw.off = 0 → s.pkg.hartMode h = true → (s.pkg.hart h).marked = false → (s.pkg.hart h).part ≠ 0 →
      (s.pkg.hart h).wait ∈ [.none, .access, .wfi, .suspend] → ((s.pkg.hart h).since + 40000 ≤ s.pkg.tempo.now →
        Gives (.hartPlyCap h) s ((s.pkg.bump (0x38A0 + ((s.pkg.hart h).part - 1)) 7 1).hmark h))
      ∧ (s.pkg.tempo.now < (s.pkg.hart h).since + 40000 → exec (.hartPlyCap h) s = .next s))
  ∧ (∀ (k : Pkg) (h : Nat), ((k.hart h).marked = true ∨ (k.hart h).part = 0 → k.hmark h = k)
      ∧ (k.hmark h).dstore = k.dstore ∧ ((k.hart h).marked = false → (k.hart h).part ≠ 0 →
        (k.hmark h).hart h = { k.hart h with marked := true, resv := none, since := k.tempo.now })
      ∧ ∀ j, j ≠ h → (k.hmark h).hart j = k.hart j)
  ∧ (∀ (s : State) (h : Nat), h < 1536 → s.pkg.fw.off = 0 →
      let x := s.pkg.hart h
      x.part ≠ 0 → x.on = true → x.marked = true → x.wait = .none → (Tab.get {} s.pkg.cores (h / 8)).failed = false → Leaves (.hartPlyCommit h) s fun k =>
        let y := k.hart h
        y.seq = x.seq + 1 ∧ y.marked = false ∧ y.n = 0 ∧ y.buf = [] ∧ y.lines = [] ∧ y.a.pc = x.a.pc ∧ y.a.x = x.a.x ∧ y.a.csr.vs ≠ 3
        ∧ k.dstore.readN (s.pkg.hartRecAddr h (x.seq + 1)) 1024 = y.a.record (x.seq + 1) y.vhalf)
  ∧ (∀ (s : State) (h : Nat), h < 1536 → s.pkg.fw.off = 0 → (s.pkg.hart h).on = true →
      ((s.pkg.hart h).wait = .access ∨ (s.pkg.hart h).wait = .wfi ∨ (s.pkg.hart h).wait = .suspend →
        Gives (.hartAccessComplete h) s (s.pkg.setHart h { s.pkg.hart h with wait := .none }))
      ∧ (∀ a d node, (s.pkg.hart h).wait = .answered a d 0 node → a.rest = [] → Gives (.hartAccessComplete h) s (s.pkg.accessDone h a (a.have_ ++ d)))
      ∧ (∀ a d c node, c ≠ 0 → (s.pkg.hart h).wait = .answered a d c node → Gives (.hartAccessComplete h) s (s.pkg.hartFabFault h a c node)))
  ∧ ∀ (s : State) (c i : Nat), c < 192 → s.pkg.fw.off = 0 →
      let x : CoreSt := Tab.get {} s.pkg.cores c
      x.cur < 8 → i < 8 → i ≠ x.cur → s.pkg.hartReady (c * 8 + i) = true → s.pkg.hartReady (c * 8 + x.cur) = false →
      (∀ j, j < 8 → (j + 8 - (x.cur + 1)) % 8 < (i + 8 - (x.cur + 1)) % 8 → s.pkg.hartReady (c * 8 + j) = false) →
      Leaves (.threadSwitch c) s fun k => k.cores = Tab.set {} s.pkg.cores c { x with cur := i, since := s.pkg.tempo.local_ } ∧ k.harts = s.pkg.harts
        ∧ k.dstore = s.pkg.dstore

/-- The vendor instructions (08:R238 to R241). -/
def Obligations.VendorInstructions : Prop :=
  ∀ (s : State) (h w raw : Nat) (k : Pkg), s.pkg.hFetches h w 4 raw k → vendorOk w = true →
    let x := (k.hart h).a
    let n := x.csr.sew
    let va := x.maskPtr (x.xr (Rv.rs1 w)).toNat
    (∀ f6 sc i, (f6, sc, i) ∈ ([(0, false, .ykvSaduVv h), (1, false, .ykvSadsVv h), (0, true, .ykvSaduVx h), (1, true, .ykvSadsVx h)] : List (Nat × Bool × Instr)) →
      Rv.f3 w = (if sc then 4 else 0) → bits w 31 26 = f6 → x.csr.vs ≠ 0 → x.csr.vill = false →
      (n = 64 → Gives i s ((k.hartTrap h 2 w).endHint h w (s.pkg.hart h)))
      ∧ (n ≠ 64 → grpOk (Rv.rs2 w) x.csr.lmul8 = true → (sc = true ∨ grpOk (Rv.rs1 w) x.csr.lmul8 = true) →
          let e (r j : Nat) : Int := if f6 = 0 then (x.ve n r j : Int) else toSigned n (x.ve n r j)
          let y (j : Nat) : Int := if sc then (if f6 = 0 then ((x.xr (Rv.rs1 w)).toNat % 2 ^ n : Nat) else toSigned n ((x.xr (Rv.rs1 w)).toNat % 2 ^ n))
            else e (Rv.rs1 w) j
          let v := ((x.velems w).map (fun j => (e (Rv.rs2 w) j - y j).natAbs)).sum
          Gives i s ((k.retireWith h 4 (fun _ => { x with csr := { x.csr with vstart := 0 } }.setX (Rv.rd w) (BitVec.ofNat 64 v))).endHint h w (s.pkg.hart h))
          ∧ (x.csr.vl = 0 → v = 0)))
    ∧ (∀ c, Rv.f3 w = 1 → vfmt n = some c → x.csr.vs ≠ 0 → x.csr.vill = false → grpOk (Rv.rs2 w) x.csr.lmul8 = true →
        overlap (Rv.rd w) 1 (Rv.rs2 w) (ceilDiv x.csr.lmul8 8) = false → (bit w 25 = true ∨ Rv.rd w ≠ 0) →
        let is := x.velems w
        let m := summaryOf (is.map (fun j => decodeFmt c (x.ve n (Rv.rs2 w) j))) 0
        let arg := if bit m.arg 63 then is.getD (m.arg % 2 ^ 63) 0 + 2 ^ 63 else m.arg
        let y := x.setV (512 * Rv.rd w) ([m.maxabs, m.sum, m.cnta, m.cntb, arg].flatMap (natLe 8))
        Gives (.ykvSumm h) s ((k.retireWith h 4 (fun _ => { y with csr := { y.csr with vstart := 0 } })).endHint h w (s.pkg.hart h)))
    ∧ (Rv.f3 w = 2 → x.csr.vs ≠ 0 → va % 64 ≠ 0 → Gives (.ykvSumh h) s ((k.hartTrap h 7 va).endHint h w (s.pkg.hart h)))
    ∧ (∀ m t, Rv.f3 w = 2 → x.csr.vs ≠ 0 → va % 64 = 0 → k.resolve h 2 [(va, 64)] = (.parts [(.mem m, 64)], t) → m % 64 = 0 → (t.hart h).n = 0 →
        (t.hart h).marked = false → (t.hart h).part ≠ 0 → t.bufUnits (h / 8) + 1 ≤ 1024 → Leaves (.ykvSumh h) s fun q =>
          let y := q.hart h
          y.buf = (t.hart h).buf ++ [(m, (t.hart h).a.v.readN (512 * Rv.rd w) 40 ++ List.replicate 8 0), (m + 56, List.replicate 8 0),
            (m + 48, natLe 8 ((t.hart h).a.xr (Rv.rs2 w)).toNat)]
          ∧ y.marked = true ∧ y.a.pc = (t.hart h).a.pc + 4 ∧ q.dstore = t.dstore)

/-- The atomics (08:R254 to R256).
LR_RESERVATION_TIMEOUT, HART_TIMER_INTERRUPT, HART_TIER_LOAD (08:R235, R256, 09:R294). -/
def Obligations.HartAtomics : Prop :=
  (∀ (s : State) (h w raw : Nat) (k t : Pkg), s.pkg.hFetches h w 4 raw k →
    let x := (k.hart h).a
    let va := x.maskPtr (x.xr (Rv.rs1 w)).toNat
    let n := 2 ^ Rv.f3 w
    let two (r : Nat) : Nat := if n = 16 then (if r = 0 then 0 else (x.xr r).toNat + (x.xr (r + 1)).toNat * 2 ^ 64) else (x.xr r).toNat % 2 ^ (8 * n)
    let v := two (Rv.rs2 w)
    let dst : HDst := if n = 16 then .pair (Rv.rd w) else .x (Rv.rd w) true
    let p := if t.svc h then partMax else (t.hart h).part - 1
    let fresh : Prop := (t.hart h).n = 0 ∨ t.svc h = true
    (∀ fn f3 i, (fn, f3, i) ∈ ([(0, 0, .amoadd h), (1, 0, .amoand h), (2, 0, .amoor h), (3, 0, .amoxor h), (4, 0, .amomin h), (5, 0, .amomax h), (6, 0, .amominu h),
        (7, 0, .amomaxu h), (8, 0, .amoswap h), (9, 2, .amocasW h), (9, 3, .amocasD h), (9, 4, .amocasQ h)] : List (Nat × Nat × Instr)) →
      amoFn w = some fn → (f3 = 0 ∨ Rv.f3 w = f3) →
      (16 < va % 16 + n → Gives i s ((k.hartTrap h 7 va).endHint h w (s.pkg.hart h)))
      ∧ (∀ m, va % 16 + n ≤ 16 → k.resolve h 2 [(va, n)] = (.parts [(.mem m, n)], t) → fresh →
          let slot := Tab.get (0, 0) (t.hart h).atoms (homeSlice (m / 64))
          (slot.1 = (t.hart h).seq + 1 → t.svc h = false → Gives i s
            ((((t.bump (0x38A0 + p) 9 1).retireWith h 4 (fun a => a.deliver dst (natLe n slot.2))).hmark h).endHint h w (s.pkg.hart h)))
          ∧ (slot.1 ≠ (t.hart h).seq + 1 ∨ t.svc h = true → Leaves i s fun q =>
              let old := t.dstore.rd m n
              let new := if fn = 9 then (if old = two (Rv.rd w) then v else old) else amoOp fn (8 * n) old v
              q.dstore.rd m n = new % 2 ^ (8 * n) ∧ (∀ b, (b < m ∨ m + n ≤ b) → q.dstore.rd b 1 = t.dstore.rd b 1)
              ∧ (q.hart h).a = (let a := (t.hart h).a.deliver dst (natLe n old)
                  { a with pc := a.pc + 4, csr := { a.csr with instret := (a.csr.instret + 1) % 2 ^ 64 } })
              ∧ (q.hart h).marked = !(t.svc h) ∧ (q.hart h).atoms = Tab.insert (t.hart h).atoms (homeSlice (m / 64)) ((t.hart h).seq + 1, old))))
    ∧ (∀ m, amoFn w = some 10 → va % 16 + n ≤ 16 → k.resolve h 1 [(va, n)] = (.parts [(.mem m, n)], t) → Leaves (.lr h) s fun q =>
        (q.hart h).resv = some (m / 64, t.tempo.local_) ∧ q.dstore = t.dstore ∧ (q.hart h).a.pc = (t.hart h).a.pc + 4
        ∧ (q.hart h).a.x = ((t.hart h).a.deliver (.x (Rv.rd w) true) (t.loadLocal h [(m, n)] (t.hart h).ntl).1).x)
    ∧ ∀ m, amoFn w = some 11 → va % 16 + n ≤ 16 → k.resolve h 2 [(va, n)] = (.parts [(.mem m, n)], t) → fresh →
        (Tab.get (0, 0) (t.hart h).atoms (homeSlice (m / 64))).1 ≠ (t.hart h).seq + 1 ∨ t.svc h = true → Leaves (.sc h) s fun q =>
          let ok := match (t.hart h).resv with
            | some r => decide (r.1 = m / 64) && !(t.invals.contains r.1)
            | none => false
          (q.hart h).resv = none ∧ q.dstore.rd m n = (if ok then (x.xr (Rv.rs2 w)).toNat % 2 ^ (8 * n) else t.dstore.rd m n)
          ∧ (∀ b, (b < m ∨ m + n ≤ b) → q.dstore.rd b 1 = t.dstore.rd b 1)
          ∧ (q.hart h).a.x = ((t.hart h).a.setX (Rv.rd w) (if ok then 0 else 1)).x ∧ (q.hart h).marked = !(t.svc h))
  ∧ ((∀ (s : State) (h l t : Nat), h < 1536 → s.pkg.fw.off = 0 → (s.pkg.hart h).resv = some (l, t) →
    (t + 1707 ≤ s.pkg.tempo.local_ → Gives (.lrReservationTimeout h) s (s.pkg.setHart h { s.pkg.hart h with resv := none }))
    ∧ (s.pkg.tempo.local_ < t + 1707 → exec (.lrReservationTimeout h) s = .next s))
  ∧ (∀ (s : State) (h : Nat), h < 1536 → s.pkg.fw.off = 0 → s.pkg.hartMode h = true → (s.pkg.hart h).wait = .none → (s.pkg.hart h).marked = false →
      (s.pkg.timerDue h = true → Gives (.hartTimerInterrupt h) s (s.pkg.hartIrq h 5))
      ∧ (s.pkg.svc h = false → (s.pkg.hart h).n ≠ 0 → exec (.hartTimerInterrupt h) s = .next s))
  ∧ ∀ (s : State) (h w len raw : Nat) (k : Pkg), s.pkg.hFetches h w len raw k → Rv.opc w = 0x03 → Rv.f3 w < 7 →
      let x := (k.hart h).a
      let z := Rv.accSize (Rv.f3 w)
      let va := x.maskPtr (x.xr (Rv.rs1 w) + Rv.immI w).toNat
      ∀ m, k.resolve h 1 (pageParts va z) = (.parts [(.tier m, z)], k) →
        let r := k.region (regionOf m)
        (k.tierOk h m z = true → m % 0x800000000 % r.P + z ≤ r.P → (k.hart h).n = 0 → Gives (.hartTierLoad h) s
          ((((k.refer (regionOf m)).setHart h { k.hart h with wait := .tier k.tier.next { dst := .x (Rv.rd w) (decide (Rv.f3 w < 4)), len := len, va := va, rest := [], size := z, off := 0 } }).readPacket
            (.hart h (m % 0x800000000 % r.P)) (regionOf m) (m % 0x800000000 / r.P)).endHint h w (s.pkg.hart h)))
        ∧ (k.tierOk h m z = false → (k.hart h).part ≠ 0 → Gives (.hartTierLoad h) s
            (((k.hartAddrError h 0 0).hartTrap h 5 va).endHint h w (s.pkg.hart h))))

/-- The SBI services (17:R531). -/
def Obligations.SbiServices : Prop :=
  ∀ (s : State) (h fid : Nat) (k : Pkg),
    let fin (r : Pkg) : Pkg := r.endHint h 0x73 (s.pkg.hart h)
    let a := (k.hart h).a
    let own := k.hartsOfPart ((k.hart h).part - 1)
    (s.pkg.hCalls h 0x10 fid k →
      (fid = 0 → Gives (.sbiBase h) s (fin (k.sbiEnds h 0 Config.sbiSpecVersion))) ∧ (fid = 1 → Gives (.sbiBase h) s (fin (k.sbiEnds h 0 0x5359)))
      ∧ (fid = 2 → Gives (.sbiBase h) s (fin (k.sbiEnds h 0 Config.sbiImplVersion)))
      ∧ (fid = 4 → Gives (.sbiBase h) s (fin (k.sbiEnds h 0 0))) ∧ (fid = 5 → Gives (.sbiBase h) s (fin (k.sbiEnds h 0 0x64)))
      ∧ (fid = 6 → Gives (.sbiBase h) s (fin (k.sbiEnds h 0 1))))
    ∧ (s.pkg.hCalls h 0x54494D45 0 k → Gives (.sbiSetTimer h) s
        (fin ((k.onArch h (fun b => { b with csr := { b.csr with stimecmp := (a.xr 10).toNat } })).sbiEnds h 0 0)))
    ∧ (s.pkg.hCalls h 0x735049 0 k →
        (a.xr 11 = BitVec.allOnes 64 → Gives (.sbiSendIpi h) s (fin ((own.foldl (fun (r : Pkg) j => r.onArch j (fun b =>
          { b with csr := { b.csr with sip := putBits b.csr.sip 1 1 1 } })) k).sbiEnds h 0 0)))
        ∧ (∀ j, j < 64 → bit (a.xr 10).toNat j = true → (a.xr 11).toNat < 2 ^ 32 → (a.xr 11).toNat + j ∉ own → Gives (.sbiSendIpi h) s (fin (k.sbiEnds h (-3) 0))))
    ∧ (fid < 3 → s.pkg.hCalls h 0x52464E43 fid k → a.xr 11 = BitVec.allOnes 64 → Gives (.sbiRemoteFence h) s (fin (k.sbiEnds h 0 0)))
    ∧ (s.pkg.hCalls h 0x48534D 2 k →
        ((a.xr 10).toNat ∈ own → Gives (.sbiHartGetStatus h) s (fin (k.sbiEnds h 0 (if (k.hart (a.xr 10).toNat).wait == .suspend then 4 else 0))))
        ∧ ((a.xr 10).toNat ∉ own → Gives (.sbiHartGetStatus h) s (fin (k.sbiEnds h (-3) 0))))
    ∧ (s.pkg.hCalls h 0x48534D 3 k → (a.xr 10).toNat % 2 ^ 32 = 0 → Gives (.sbiHartSuspend h) s
        (fin ((k.setHart h { k.hart h with wait := .suspend }).sbiEnds h 0 0)))
    ∧ (fid < 2 → s.pkg.hCalls h 0x48534D fid k → Gives (.sbiHartStartStop h) s (fin (k.sbiEnds h (-2) 0)))
    ∧ (s.pkg.hCalls h 0x53525354 0 k → Gives (.sbiSystemReset h) s (fin (k.sbiEnds h (-4) 0)))
    ∧ (s.pkg.hCalls h 0x09594B01 0 k → Gives (.sbiFabricError h) s
        (fin (k.sbiEnds h 0 (if (k.hart h).fab.1 = 0 then 0 else (k.hart h).fab.1 + (k.hart h).fab.2 * 2 ^ 24))))
    ∧ (s.pkg.hCalls h 0x09594B01 1 k → Gives (.sbiMemberRank h) s (fin (k.sbiEnds h 0 (k.part ((k.hart h).part - 1)).rank)))
    ∧ (s.pkg.hCalls h 0x09594B01 2 k → Gives (.sbiHartIndex h) s (fin (k.sbiEnds h 0 (k.hart h).index)))
    ∧ (∀ e, listedCall (s.pkg.hart h).a 0x73 = false → s.pkg.hCalls h e fid k → Gives (.hartInstruction h) s (k.sbiEnds h (-2) 0))

/-- SITE_HEARTBEAT_TIMEOUT, TILE_CORE_CHECKER, MATRIX_RESIDUE_MISMATCH, VECTOR_RESIDUE_MISMATCH (13:R406, R407, R409, R413). -/
def Obligations.FaultDeclared : Prop :=
  ∀ (s : State) (t : Nat), t < 6144 → s.pkg.fw.off = 0 →
    let x := s.pkg.tile t
    let f := s.pkg.fault
    let r0 : Recovery := { tile := t, unit := t, declared := s.pkg.tempo.now, start := s.pkg.tempo.now, seq := x.seq, active := x.active,
                           partsMask := s.pkg.tileMask t, ahead := (f.open_.filter (fun (r : Recovery) => r.step = 0)).length, ready := s.pkg.tempo.now }
    let lost (k : Pkg) : Prop := (k.tile t).mode = .faulted ∧ (k.tile t).buf = [] ∧ (k.tile t).ops = [] ∧ (k.tile t).seq = x.seq ∧ (k.tile t).part = x.part
      ∧ (∀ e ∈ k.sdies, ∀ w ∈ e.2.arriving, ¬(w.src = 0 ∧ w.unit = t))
    let kept (k : Pkg) : Prop := k.dstore = s.pkg.dstore ∧ (∀ u, u ≠ t → k.tile u = s.pkg.tile u) ∧ k.parts = s.pkg.parts ∧ k.harts = s.pkg.harts
    (∀ i b, (i, b) ∈ ([(.siteHeartbeatTimeout t, 700), (.tileCoreChecker t, 2)] : List (Instr × Nat)) →
      ((∀ r ∈ f.open_, ¬(r.tile = t ∧ r.cls = 2 ∧ r.step = 0)) → Leaves i s fun k =>
        k.fault.open_ = f.open_ ++ [{ r0 with cls := 2, bound := b, outside := s.pkg.pairOpen t, grp := t / 128 * 16 + rankOf t }]
        ∧ (2, t / 128 * 16 + rankOf t) ∈ k.fault.groups ∧ kept k ∧ (x.mode = .running → lost k)
        ∧ k.ent (0x3100 + t / 128) (t % 128 + 1) = s.pkg.ent (0x3100 + t / 128) (t % 128 + 1) % 65536
            + min 0xFFFF (s.pkg.ent (0x3100 + t / 128) (t % 128 + 1) / 65536 + 1) * 65536)
      ∧ ((∃ r ∈ f.open_, r.tile = t ∧ r.cls = 2 ∧ r.step = 0) → exec i s = .next s))
    ∧ (∀ lane i e b, lane < 256 → (i, e, b) ∈ ([(.matrixResidueMismatch t lane, 0, 200), (.vectorResidueMismatch t lane, 1, 54)] : List (Instr × Nat × Nat)) →
        x.part ≠ 0 → x.mode = .running →
        let key := 0x10000000 + (t * 2 + e) * 256 + lane
        (Tab.get [] f.times key = [] → Leaves i s fun k =>
          k.fault.open_ = f.open_ ++ [{ r0 with cls := 0, step := 1 }] ∧ k.fault.lanes = f.lanes ∧ Tab.get [] k.fault.times key = [s.pkg.tempo.now]
          ∧ kept k ∧ lost k ∧ k.dict = s.pkg.dict)
        ∧ (∀ t0, Tab.get [] f.times key = [t0] → s.pkg.tempo.now < t0 + 1000000000 →
            (Tab.get 0 f.lanes (t * 2 + e) = 0 → Leaves i s fun k =>
              k.fault.open_ = f.open_ ++ [{ r0 with cls := 1, step := 1, bound := b, spares := 1, outside := s.pkg.groupOpen 1 (t * 2 + e), grp := t * 2 + e }]
              ∧ Tab.get 0 k.fault.lanes (t * 2 + e) = 1 ∧ kept k ∧ lost k)
            ∧ (Tab.get 0 f.lanes (t * 2 + e) = 2 → (∀ r ∈ f.open_, ¬(r.tile = t ∧ r.cls = 2 ∧ r.step = 0)) → Leaves i s fun k =>
                k.fault.open_ = f.open_ ++ [{ r0 with cls := 2, bound := b, outside := s.pkg.pairOpen t, grp := t / 128 * 16 + rankOf t }]
                ∧ kept k ∧ lost k)))

/-- CASTLING_COMMIT (13:R408, R414, R415): rank × 9 + 8 is the spare site of a rank; a spare that serves the tile fails as any site does. -/
def Obligations.CastlingChoosesSpare : Prop :=
  ∀ (s : State) (t : Nat) (r : Recovery), t < 6144 → s.pkg.fw.off = 0 → s.sites.sound = true →
    s.pkg.fault.open_.find? (fun r => decide (r.cls = 2) && decide (r.step = 0)) = some r →
    let die := t / 128
    let k := t % 128 / 8
    let z := s.sites.fail t
    let free (q : Nat) : Prop := z.spareFree die q = true
    let served (site : Nat) : Prop := ∃ s', exec (.castlingCommit t) s = .next s' ∧ s'.pending = s.pending ∧ s'.sites.siteOf t = site
      ∧ (∀ u, u ≠ t → s'.sites.siteOf u = s.sites.siteOf u) ∧ Tab.get 0 s'.sites.failed (die * 144 + s.sites.siteOf t) = 1
      ∧ (s.sites.siteOf t % 9 ≠ 8 ∨ s'.sites.spareFree die (s.sites.siteOf t / 9) = false)
      ∧ s'.pkg.dstore = s.pkg.dstore
    (r.tile = t →
      (free k → served (k * 9 + 8))
      ∧ (¬ free k → 0 < k → free (k - 1) → served ((k - 1) * 9 + 8))
      ∧ (¬ free k → (k = 0 ∨ ¬ free (k - 1)) → k < 15 → free (k + 1) → served ((k + 1) * 9 + 8))
      ∧ (¬ free k → (k = 0 ∨ ¬ free (k - 1)) → (k = 15 ∨ ¬ free (k + 1)) → ∃ s', exec (.castlingCommit t) s = .next s' ∧ s'.pending = s.pending
          ∧ s'.sites = z ∧ Reports s'.pkg 0x0203 0xFF [maskOf (s.pkg.partsOfDie die)] ∧ die ∈ s'.pkg.fault.noAssign))
    ∧ (r.tile ≠ t → exec (.castlingCommit t) s = .next s)

/-- CORE_CHECKER, CORE_FAILURE, MESH_LANE_FAIL, THERMAL_SENSOR_CHECK, FAULT_MAP_COMMIT, DIE_FAILURE (08:R247, 13:R407, R413, R415, R417). The
class of a lost die's record is a free value (log entry 5).
The castling record (13:R418, R420). -/
def Obligations.OtherFaults : Prop :=
  (∀ (s : State), s.pkg.fw.off = 0 →
    (∀ c, c < 192 →
      let x : CoreSt := Tab.get {} s.pkg.cores c
      let used := Tab.get 0 s.pkg.fault.cores (c / 48)
      (x.failed = false → Leaves (.coreChecker c) s fun k => k.cores = Tab.set {} s.pkg.cores c { x with failed := true }
        ∧ k.fault.open_.length = s.pkg.fault.open_.length + 1 ∧ (5, c / 48) ∈ k.fault.groups ∧ k.harts = s.pkg.harts ∧ k.dstore = s.pkg.dstore)
      ∧ (x.failed = true → exec (.coreChecker c) s = .next s)
      ∧ (x.failed = false → exec (.coreFailure c) s = .next s)
      ∧ (x.failed = true → used < 2 → Leaves (.coreFailure c) s fun k =>
          (Tab.get {} k.cores c).failed = false ∧ Tab.get 0 k.fault.cores (c / 48) = used + 1 ∧ k.dstore = s.pkg.dstore
          ∧ (∀ e ∈ k.sdies, ∀ w ∈ e.2.arriving, ¬(w.src = 1 ∧ w.unit / 8 = c))
          ∧ ∀ h, h / 8 = c → (s.pkg.hart h).on = true →
              (k.hart h).buf = [] ∧ (k.hart h).marked = false ∧ (k.hart h).wait = .none ∧ (k.hart h).seq = (s.pkg.hart h).seq
              ∧ (k.hart h).a.pc = BitVec.ofNat 64 (fld (s.pkg.dstore.readN (s.pkg.hartRecAddr h (s.pkg.hart h).seq) 1024) 8 8))
      ∧ (x.failed = true → 2 ≤ used → Leaves (.coreFailure c) s fun k =>
          (∃ l, Reports k 0x0203 0xFF l) ∧ ∀ p, p < 16 → (∃ h ∈ (s.pkg.part p).harts, h / 8 = c) → (k.part p).st = .faulted))
    ∧ (∀ a b, meshEdge a b = true →
        let n := Tab.get 0 s.pkg.fault.other (a * 256 + b)
        (n < 2 → Leaves (.meshLaneFail a b) s fun k => Tab.get 0 k.fault.other (a * 256 + b) = n + 1 ∧ k.fault.noLoad = s.pkg.fault.noLoad
          ∧ k.parts = s.pkg.parts ∧ k.tiles = s.pkg.tiles ∧ k.ent 0x3001 7 = s.pkg.ent 0x3001 7 + 1)
        ∧ (2 ≤ n → Leaves (.meshLaneFail a b) s fun k => k.fault.noLoad = true ∧ ∃ l, Reports k 0x0203 0xFF l))
    ∧ (∀ d i, d < 66 → i < sensorsOf d → Tab.get 0 s.pkg.pow.badSensor (d * 64 + i) = 0 →
        Leaves (.thermalSensorCheck d) s fun k => k.pow.temps = s.pkg.pow.temps
          ∧ (Config.sensorInRange (s.pkg.sensor d i) = false → Tab.get 0 k.pow.badSensor (d * 64 + i) = 1)
          ∧ ((∀ j, j < sensorsOf d → Config.sensorInRange (s.pkg.sensor d j) = true) →
              (∀ j m, j < sensorsOf d → m < sensorsOf d → s.pkg.sensor d j - s.pkg.sensor d m ≤ 1500) → k = s.pkg))
    ∧ (s.pkg.fault.pendingMap = true → (∀ c ∈ s.pkg.fw.commits, c.kind ≠ 3) → s.pkg.fw.n0.lost = false → Gives .faultMapCommit s
        { s.pkg with fw := { s.pkg.fw with commits := s.pkg.fw.commits ++ [{ kind := 3, bytes := 262144, since := s.pkg.tempo.local_ }] } })
    ∧ (s.pkg.fault.pendingMap = false → exec .faultMapCommit s = .next s)
    ∧ (∀ d, d < 66 → Leaves (.dieFailure d) s fun k => k.fault.noLoad = true ∧ bit (k.ent 0x3000 (8 + d / 32)) (d % 32) = true
        ∧ (∀ p ∈ s.pkg.partsLive, (k.part p).st = .faulted) ∧ ∃ l, Reports k 0x0203 0xFF l)
    ∧ (Leaves (.dieFailure 66) s fun k => k.fault.stopped = true ∧ k.fw.off = 3 ∧ (∀ n, (Tab.find k.net.ports n).isSome = true → (k.port n).st = .down)
        ∧ k.dstore = s.pkg.dstore)
    ∧ (Leaves (.dieFailure 67) s fun k => k.fw.n0.lost = true ∧ k.fault.noLoad = s.pkg.fault.noLoad ∧ k.parts = s.pkg.parts ∧ k.tiles = s.pkg.tiles
        ∧ ∃ l, Reports k 0x0203 0xFF l))
  ∧ (∀ (s : Pkg) (r : CRec), 1 ≤ r.cls → r.cls ≤ 12 → r.outcome ≤ 2 → s.ent 0x3000 7 < 2 ^ 32 →
    let k := s.castlingRecord r
    let b := Tab.get [] k.fault.records (s.ent 0x3000 7 % 64)
    let f (i n : Nat) : Nat := beNat (Sys2Proof.slice b i n)
    b.length = 32 ∧ byteAt b 0 = r.cls ∧ byteAt b 1 = r.outcome ∧ bit (byteAt b 2) 0 = r.adj ∧ bit (byteAt b 2) 2 = ((decide (r.cls ≤ 7) || decide (r.cls = 12)) && (!r.mapped || s.fault.pendingMap)) ∧ f 4 4 = r.unit % 2 ^ 32
    ∧ f 8 8 = r.detected % 2 ^ 64 ∧ f 16 4 = r.setup % 2 ^ 32 ∧ f 20 4 = r.redo % 2 ^ 32 ∧ f 24 2 = r.parts % 2 ^ 16
    ∧ f 26 2 = r.spares % 2 ^ 16 ∧ f 28 4 = s.ent 0x3000 7
    ∧ k.ent 0x3000 7 = s.ent 0x3000 7 + 1 ∧ k.ent 0x3000 1 = s.ent 0x3000 1 + 1 ∧ k.ent 0x3001 r.cls = s.ent 0x3001 r.cls + 1
    ∧ k.ent 0x3000 4 = r.bound + r.setup + r.redo ∧ k.ent 0x3000 5 = max (s.ent 0x3000 5) (r.bound + r.setup + r.redo)
    ∧ (r.outcome = 1 → k.ent 0x3000 2 = s.ent 0x3000 2 + 1 ∧ Reports k 0x0202 0xFF r.more)
    ∧ (r.outcome = 2 → k.ent 0x3000 3 = s.ent 0x3000 3 + 1 ∧ Reports k 0x0203 0xFF r.more)
    ∧ (r.outcome = 0 → s.ent 0x3000 6 = 0 → k.log = s.log) ∧ (r.outcome = 0 → s.ent 0x3000 6 = 1 → Reports k 0x0201 0xFF []))

/-- The Lenpel rows (10:R305 to R325). -/
def Obligations.LenpelPorts : Prop :=
  (∀ (s : State) (q : Nat), q < 48 → s.pkg.fw.off = 0 →
    let x := s.pkg.lport q
    let now := s.pkg.tempo.local_
    let enter (st : LPState) : Pkg := s.pkg.setLport q { x with st := st, since := now }
    (x.st = .down → s.pkg.ent (0x4200 + q) 2 = 1 → s.pkg.fw.epochSet = true → Gives (.lenpelPresenceAssert q) s
        ((s.pkg.setLport q { x with present := true, st := .detect, since := now }).setRst q false))
    ∧ (x.st = .detect → x.since + 10000000 ≤ now → Gives (.lenpelDetectTimer q) s ((s.pkg.setLport q { x with
          st := .train, since := now, cls := s.pkg.ent (0x4200 + q) 3, txEq := s.pkg.ent (0x4200 + q) 4 }).setRst q true))
    ∧ (∀ v, x.rst = v → s.pkg.setRst q v = s.pkg) ∧ (∀ v, x.rst ≠ v → s.pkg.setRst q v = (s.pkg.setLport q { x with rst := v }).emit (.pin "LP_RST_N" q v))
    ∧ (x.st = .detect → now < x.since + 10000000 → exec (.lenpelDetectTimer q) s = .next s)
    ∧ (x.st = .train → Gives (.lenpelTrainDone q) s (enter .align))
    ∧ (∀ rtt, x.st = .align → Gives (.lenpelAlignDone q rtt) s (s.pkg.setLport q { x with st := .discover, since := now, rtt := rtt }))
    ∧ (s.pkg.tier.forming = false →
        (x.st = .train → x.since + 500000000 ≤ now → Gives (.lenpelTrainTimeout q) s (enter .failed))
        ∧ (x.st = .align → x.since + 1000000 ≤ now → Gives (.lenpelAlignTimeout q) s (enter .failed)))
    ∧ (x.st = .train → now < x.since + 500000000 → exec (.lenpelTrainTimeout q) s = .next s)
    ∧ (x.st = .align → now < x.since + 1000000 → exec (.lenpelAlignTimeout q) s = .next s)
    ∧ (∀ lr : LRecv, let f := lr.frame
        let words := lr.words
        x.st = .discover → lframeOk f = true → wordsLost words = false → (lhdr f).ftype = 7 → (lhdr f).units = 4 → s.pkg.tier.forming = false →
        let d := Sys2Proof.slice f 16 256
        (s.pkg.refuses q d = 0 → Leaves (.discovery q lr) s fun k => (k.lport q).st = .active ∧ (k.lport q).disc = some d ∧ (k.lport q).rx = 0
          ∧ (∃ e ∈ k.log, e.code = 0x0308) ∧ k.dstore = s.pkg.dstore)
        ∧ (s.pkg.refuses q d ≠ 0 → Leaves (.discovery q lr) s fun k => (k.lport q).st = .failed ∧ Reports k 0x030A 0xFF [q, s.pkg.refuses q d]))
    ∧ (∀ lr : LRecv, x.st = .discover → lframeOk lr.frame = false ∨ wordsLost lr.words = true → x.nakSent = true →
        Gives (.discovery q lr) s (s.pkg.fecFail q lr.words))
    ∧ (x.st = .retrain → x.since + 2000000 ≤ now → Leaves (.lenpelRetrainTimeout q) s fun k => (k.lport q).st = .train ∧ (k.lport q).stale = true
        ∧ (k.lport q).cmds = [] ∧ (k.lport q).cls = k.ent (0x4200 + q) 3)
    ∧ (x.st = .retrain → now < x.since + 2000000 → exec (.lenpelRetrainTimeout q) s = .next s)
    ∧ (x.st = .active → (s.pkg.group (grpOf q)).formed = false → x.cmds = [] → x.queue = [] → s.pkg.tier.forming = false →
        Leaves (.lenpelPresenceLost q) s fun k => (k.lport q).st = .down ∧ (k.lport q).present = false ∧ (k.lport q).stale = true
          ∧ Reports k 0x0307 0xFF [q, LPState.active.code, 1])
    ∧ (let g := s.pkg.group (grpOf q)
       bit g.rebuilding (posOf q) = true → s.pkg.nextBuild q = none → (∀ j ∈ s.pkg.tier.jobs, j.use ≠ TierUse.rebuild q) →
        Leaves (.lenpelRebuildDone q) s fun k => bit (k.group (grpOf q)).rebuilding (posOf q) = false ∧ (k.group (grpOf q)).missing = g.missing
          ∧ Reports k 0x030B 0xFF [q, grpOf q, (Tab.get [] g.built (posOf q)).length]
          ∧ (g.weak = [posOf q] → (10, grpOf q) ∉ k.fault.groups)))
  ∧ (∀ (s : State) (q : Nat) (lr : LRecv), q < 48 → s.pkg.fw.off = 0 → (s.pkg.lport q).st = .active →
      let f := lr.frame
      let words := lr.words
      let x := s.pkg.lport q
      let h := lhdr f
      let a := x.acked h.ack
      let turn : LPort := { a with rx := (a.rx + 1) % 1024, nakSent := false }
      let k0 := s.pkg.fecNote q words
      let k1 := k0.setLport q turn
      (∀ i ∈ ([.readData q lr, .writeAck q lr, .lenpelNak q lr, .lenpelIdle q lr] : List Instr), lframeOk f = false ∨ wordsLost words = true →
        x.nakSent = true → Gives i s (s.pkg.fecFail q words))
      ∧ (lframeOk f = true → wordsLost words = false → a.queue = [] →
          (h.ftype = 0 → Gives (.lenpelIdle q lr) s (k0.setLport q a))
          ∧ (h.ftype = 4 → h.seq ≠ a.rx → a.nakSent = true → Gives (.readData q lr) s (k0.setLport q a))
          ∧ (h.ftype = 4 → h.seq ≠ a.rx → a.nakSent = false → a.naks.length < 1000 → Leaves (.readData q lr) s fun k =>
              (k.lport q).nakSent = true ∧ (k.lport q).rx = a.rx ∧ k.ent (0x4200 + q) 0x0D = s.pkg.ent (0x4200 + q) 0x0D + 1
              ∧ k.tier = s.pkg.tier)
          ∧ (∀ c, h.ftype = 4 → h.seq = a.rx → a.cmds.find? (fun c => decide (c.tag = h.tag) && decide (c.ftype ≠ 3)) = some c →
              let c' := { c with got := c.got ++ Sys2Proof.slice f 16 (64 * h.units), idx := c.idx + 1 }
              (h.last = false → c.idx ≠ 0 → Gives (.readData q lr) s
                ((k1.setLport q { turn with cmds := mapIf (fun (k : LCmd) => k.tag = c.tag) (fun _ => c') a.cmds }).lreport q))
              ∧ (h.last = true → c.idx ≠ 0 → c.dead = false → h.status = 0 → c'.got.length = 64 * h.len → Gives (.readData q lr) s
                  (((k1.setLport q { turn with cmds := a.cmds.filter (fun k => k.tag ≠ c.tag) }).slotCame c' c'.got).lreport q))
              ∧ (h.last = true → c.idx ≠ 0 → c.dead = true → Gives (.readData q lr) s
                  ((k1.setLport q { turn with cmds := a.cmds.filter (fun k => k.tag ≠ c.tag) }).lreport q))
              ∧ (h.last = true → c.idx ≠ 0 → c.dead = false → h.status ≠ 0 → Gives (.readData q lr) s
                  ((((k1.setLport q { turn with cmds := a.cmds.filter (fun k => k.tag ≠ c.tag) }).loseRead q c').noteLost q).lreport q)))
          ∧ (∀ c, h.ftype = 5 → h.seq = a.rx → a.cmds.find? (fun c => decide (c.tag = h.tag) && decide (c.ftype = 3)) = some c →
              s.pkg.job c.job = none → Gives (.writeAck q lr) s ((k1.setLport q { turn with cmds := a.cmds.filter (fun k => k.tag ≠ c.tag) }).lreport q))
          ∧ (h.ftype = 6 → a.unacked = [] → a.naks.length < 1000 → Gives (.lenpelNak q lr) s
              (let noted : LPort := { a with naks := s.pkg.tempo.local_ :: a.naks.filter (fun t => decide (s.pkg.tempo.local_ < t + 1000000)) }
               (k0.setLport q noted).bump (0x4200 + q) 0x0D 1))
          ∧ (∀ u, h.ftype = 6 → a.unacked = [u] → 8 ≤ u.resends → a.naks.length < 1000 → a.cmds = [] → Leaves (.lenpelNak q lr) s fun k =>
              (k.lport q).st = .retrain ∧ Reports k 0x0309 0xFF [q, 0]))
      ∧ (∀ tag c, x.cmds.find? (fun c => decide (c.tag = tag) && decide (c.ftype ≠ 3) && !c.dead) = some c →
          (c.sentAt + 2 * x.rtt + 4 * x.latency < s.pkg.tempo.local_ → Gives (.lenpelReadLost q tag) s
            (((s.pkg.setLport q { x with cmds := mapIf (fun (k : LCmd) => k.tag = tag) (fun k => { k with dead := true }) x.cmds }).loseRead q c).noteLost q))
          ∧ (s.pkg.tempo.local_ ≤ c.sentAt + 2 * x.rtt + 4 * x.latency → exec (.lenpelReadLost q tag) s = .next s))
      ∧ (∀ tag c, x.cmds.find? (fun c => decide (c.tag = tag) && decide (c.ftype = 3)) = some c →
          (s.pkg.tempo.local_ < c.sentAt + 100000 → exec (.lenpelWriteAckTimeout q tag) s = .next s)
          ∧ (c.sentAt + 100000 ≤ s.pkg.tempo.local_ → Leaves (.lenpelWriteAckTimeout q tag) s fun k => (k.lport q).st = .failed ∧ (k.lport q).stale = true)))
  ∧ (∀ (w r : List Nat) (n : Nat), rsDecode w = some (r, n) →
      (∀ v ∈ rsSyndromes r, v = 0) ∧ n ≤ 15 ∧ r.length = w.length ∧ ((r.zip w).filter (fun (e : Nat × Nat) => decide (e.1 ≠ e.2))).length = n)
  ∧ (∀ w : List Nat, (∀ v ∈ rsSyndromes w, v = 0) → rsDecode w = some (w, 0))
  ∧ (∀ (n : Nat) (line b : List Byte), 0 < n → (laneOut n line b).1 = (line ++ b).drop (1285 * n * ((line ++ b).length / (1285 * n)))
      ∧ (laneOut n line b).2.length = 2 * n * ((line ++ b).length / (1285 * n)) ∧ (laneOut n line b).2.all (fun w => decide (w.length = 544)) = true)
  ∧ (∀ (b : List Byte), ({ bytes := b } : LRecv).frame = b)
  ∧ ∀ (h : LHdr) (data : List Byte), h.ftype < 9 → h.seq < 1024 → h.ack < 1024 → h.tag < 4096 → h.units ≤ 64 → h.idx < 8 → h.off < 2 ^ 34 → h.len < 512 →
      h.status < 8 → data.length = 64 * h.units → lhdr (h.frame data) = h ∧ lframeOk (h.frame data) = true

/-- The rows of an Atnik port (11:R330 to R337, R364, R371, R372, 17:R527). -/
def Obligations.AtnikLinks : Prop :=
  (∀ (s : State) (n : Nat), n < 24 → s.pkg.fw.off = 0 →
    let x := s.pkg.port n
    let now := s.pkg.tempo.local_
    (s.pkg.fw.epochSet = true → s.pkg.ent (0x5040 + n) 2 = 1 → (x.st = .down ∨ x.st = .failed) → Leaves (.atnikSignalDetect n) s fun k =>
        (k.port n).st = .train ∧ (k.port n).since = now ∧ (k.port n).badLanes = 0 ∧ (k.port n).unacked = []
        ∧ (k.port n).node = s.pkg.ent 0x5000 1 ∧ (k.port n).protect = s.pkg.ent (0x5040 + n) 0x0B)
    ∧ (s.pkg.fw.epochSet = false → exec (.atnikSignalDetect n) s = .next s)
    ∧ (∀ bad, x.st = .train → x.badLanes = 0 → bad < 256 → now < x.since + 500000000 →
        (bad = 0 → (∀ g ∈ s.pkg.fault.groups, g ≠ (8, n)) → Leaves (.atnikTrainDone n bad) s fun k => (k.port n).st = .identify ∧ (k.port n).width = 8
          ∧ ∃ r, k.out.head? = some (.envelope n 0 (linkHdr 3 0 0 0 0 r) r) ∧ r.length = 64 ∧ byteAt r 3 = n ∧ byteAt r 20 = 8)
        ∧ (bad ≠ 0 → bad % 16 = 0 ∨ bad / 16 = 0 → Leaves (.atnikTrainDone n bad) s fun k => (k.port n).st = .identify ∧ (k.port n).width = 4)
        ∧ (bad % 16 ≠ 0 → bad / 16 ≠ 0 → Gives (.atnikTrainDone n bad) s ((s.pkg.setPort n { x with badLanes := bad, width := 0 }).trainFailed n 5)))
    ∧ (x.st = .train → x.since + 500000000 ≤ now → Gives (.atnikTrainTimeout n) s (s.pkg.trainFailed n 6))
    ∧ (∀ cause, Leaves (.atnikTrainTimeout n) s fun _ => (s.pkg.trainFailed n cause).port n = { x with st := .failed, since := now }
        ∧ ∃ e ∈ (s.pkg.trainFailed n cause).log, e.code = 0x0401 ∧ e.items = [n, x.st.code, cause])
    ∧ (x.st = .train → now < x.since + 500000000 → exec (.atnikTrainTimeout n) s = .next s)
    ∧ (x.st = .identify → x.kept = false → x.since + 1000000 ≤ now → Gives (.atnikIdentifyTimeout n) s ((s.pkg.enterTrain n).settleWaiting))
    ∧ (x.st = .active ∨ x.st = .retrain → x.queue = [] → s.pkg.net.reqs = [] → Leaves (.atnikLoss n) s fun k => (k.port n).st = .absent ∧ (k.port n).kept = true
        ∧ (k.port n).partner = x.partner ∧ (k.port n).unacked = x.unacked ∧ (9, n) ∈ k.fault.groups ∧ ∃ e ∈ k.log, e.code = 0x0401 ∧ e.items = [n, x.st.code, 1])
    ∧ (x.st = .retrain → x.since + 2000000 ≤ now → x.queue = [] → s.pkg.net.reqs = [] → Leaves (.atnikRetrainTimeout n) s fun k =>
        (k.port n).st = .absent ∧ ∃ e ∈ k.log, e.code = 0x0401 ∧ e.items = [n, x.st.code, 2])
    ∧ (∀ old, x.st = .absent → x.partner = some old → x.since + 1000000 * s.pkg.ent 0x5000 5 ≤ now → s.pkg.net.reqs = [] → s.pkg.net.sends = [] →
        Leaves (.returnWindowExpiry n) s fun k => (k.port n).st = .train ∧ (k.port n).partner = none ∧ (k.port n).txSeq = 0 ∧ (k.port n).rxNext = 0
          ∧ (k.port n).key = none ∧ k.ent (0x5040 + n) 0x10 = s.pkg.ent (0x5040 + n) 0x10 + 1 ∧ Reports k 0x0404 0xFF [n, old.identity, 0, 0])
    ∧ (x.st = .absent → now < x.since + 1000000 * s.pkg.ent 0x5000 5 → exec (.returnWindowExpiry n) s = .next s)
    ∧ (∀ lr : LRecv, lr.words ≠ [] →
        let e := s.pkg.came n lr (List.replicate 64 0)
        (e.sound = true → bits (leNat e.link) 27 24 = 3 → exec (.trainId n lr) s = exec (.trainId n { bytes := e.body }) s)
        ∧ (e.sound = false → exec (.trainId n lr) s = .next s))
    ∧ (∀ r : List Byte, r.length = 64 → x.st = .identify → x.kept = false → now < x.since + 1000000 → s.pkg.net.reqs = [] → s.pkg.net.owedRel = [] →
        (s.pkg.refusesPartner n r ≠ 0 → Leaves (.trainId n { bytes := r }) s fun k => (k.port n).st = .failed ∧ Reports k 0x0406 0xFF [n, s.pkg.refusesPartner n r])
        ∧ (s.pkg.refusesPartner n r = 0 → x.partner = none → x.queue = [] → bit (byteAt r 0) 1 = true → Leaves (.trainId n { bytes := r }) s fun k => (k.port n).st = .active
            ∧ (k.port n).partner = some (partnerOf r) ∧ (k.port n).txSeq = 0 ∧ (k.port n).rxNext = 0 ∧ (k.port n).unacked = []
            ∧ (9, n) ∉ k.fault.groups ∧ Reports k 0x0402 0xFF [n, (partnerOf r).identity, (partnerOf r).node, x.width, 2]))
    ∧ (∀ lane, lane < 8 → x.st = .active → x.badLanes = 0 → x.width = 8 → Leaves (.atnikLaneFail n lane) s fun k => (k.port n).st = .retrain
        ∧ (k.port n).badLanes = 2 ^ lane ∧ (8, n) ∈ k.fault.groups ∧ k.ent 0x3001 8 = s.pkg.ent 0x3001 8 + 1 ∧ ∃ e ∈ k.log, e.code = 0x0405 ∧ e.items = [n, 4])
    ∧ (∀ d i, s.pkg.ent 0x7030 (n + 1) ≠ 0 → Gives (.linkSessionSetup n d i) s (s.pkg.setPort n { x with peer := i % 2 ^ 64 + 1, secret := some d }))
    ∧ (∀ d key, x.st = .active → x.key = some key → x.rekeyGot = false → x.keySince + 60000000000 ≤ now → Gives (.linkRekey n d) s ((s.pkg.setPort n { x with secret := some d }).sendTrainId n))
    ∧ (∀ d, x.key = none → exec (.linkRekey n d) s = .next s))
  ∧ ∀ (s : State) (n : Nat) (lr : LRecv) (raw : List Byte), n < 24 → s.pkg.fw.off = 0 → (s.pkg.port n).st = .active → (s.pkg.port n).key = none →
      let x := s.pkg.port n
      let e := s.pkg.came n lr raw
      let e0 := s.pkg.came n lr []
      let link := lr.bytes
      let body := e.body
      let v := leNat (e.link.take 16)
      let a : APort := { x.acked (bits v 23 12) with credits := Tab.modify 0 (x.acked (bits v 23 12)).credits (bits v 34 32) (· + bits v 47 36) }
      let good (b : List Byte) : Prop := e0.link = e.link ∧ e.lost = e0.lost ∧ e.lost = false ∧ bits v 127 96 = crc32c (e.link.take 12 ++ b)
      (lr.words = [] → e = ⟨link, raw, false⟩ ∧ e0 = ⟨link, [], false⟩)
      ∧ (lr.words ≠ [] → e.link = (lr.stream (max 1 x.width) (16 + raw.length)).take 16 ∧ e.body = (lr.stream (max 1 x.width) (16 + raw.length)).drop 16
          ∧ e.lost = wordsLost lr.words)
      ∧ (good body → bits v 27 24 = 1 → bits v 11 0 = a.rxNext → packetKnown body = true → (Hdr.dec body).op ≠ opCTRL → x.queue = [] →
        Leaves (.atnikDataEnvelope n lr raw) s fun k => (k.port n).rxNext = (a.rxNext + 1) % 4096 ∧ (k.port n).nakSent = false
          ∧ (k.port n).rx = x.rx ++ [{ vc := (Hdr.dec body).vc, packet := body, at_ := s.pkg.tempo.fine }] ∧ (k.port n).unacked = a.unacked)
      ∧ (good body → bits v 27 24 = 1 → bits v 11 0 ≠ a.rxNext → x.nakSent = true → Gives (.atnikDataEnvelope n lr raw) s (s.pkg.setPort n { a with tagRun := 0 }))
      ∧ (good body → bits v 27 24 = 1 → bits v 11 0 ≠ a.rxNext → x.nakSent = false → x.naks.length < 1000 → Leaves (.atnikDataEnvelope n lr raw) s fun k =>
          (k.port n).nakSent = true ∧ (k.port n).rxNext = x.rxNext ∧ (k.port n).rx = x.rx ∧ k.ent (0x5040 + n) 0x0D = s.pkg.ent (0x5040 + n) 0x0D + 1)
      ∧ (e.sound = false → x.nakSent = true → Gives (.atnikDataEnvelope n lr raw) s (s.pkg.bump (0x5040 + n) 0x0C 1))
      ∧ (good [] → e0.body = [] → bits v 27 24 = 0 → Gives (.atnikIdle n lr) s ((s.pkg.setPort n a).pump n))
      ∧ (x.queue = [] → x.owed = [] → s.pkg.pump n = s.pkg)
      ∧ (good [] → e0.body = [] → bits v 27 24 = 2 → a.unacked = [] → x.naks.length < 1000 → Gives (.atnikNak n lr) s
          ((((s.pkg.setPort n { a with naks := s.pkg.tempo.local_ :: x.naks.filter (fun t => decide (s.pkg.tempo.local_ < t + 1000000)) }).bump (0x5040 + n) 0x0D 1).setPort n
            { a with naks := s.pkg.tempo.local_ :: x.naks.filter (fun t => decide (s.pkg.tempo.local_ < t + 1000000)) }).pump n))
      ∧ (∀ u, good [] → e0.body = [] → bits v 27 24 = 2 → a.unacked = [u] → 8 ≤ u.resends → Leaves (.atnikNak n lr) s fun k => (k.port n).st = .retrain
          ∧ (k.port n).txSeq = x.txSeq ∧ (k.port n).rxNext = x.rxNext)

/-- RD, RD_BULK, WR, WR_BULK, ATOMIC (11:R347, R350 to R352, R357, 03:R112, 09:R265). -/
def Obligations.AtnikTargets : Prop :=
  ∀ (s : State) (n : Nat) (r : RxPkt) (rest : List RxPkt), s.pkg.arrives n r rest →
    let k := s.pkg.received n r rest
    let h := (Hdr.dec r.packet).here
    let d := r.packet.drop 32
    let x := k.ctx h.src
    let same (t : Pkg) : Prop := t.dstore = s.pkg.dstore
    let room : Prop := s.pkg.ctxFree h.src = true
    (∀ op i, (op, i) ∈ ([(opRD, .rd n), (opRDB, .rdBulk n), (opWR, .wr n), (opWRB, .wrBulk n), (opATOMIC, .atomic n)] : List (Nat × Instr)) → h.op = op →
      s.pkg.ctxFree h.src = false → k.linkCheck n h = 0 → rest = [] → exec i s = .next s)
    ∧ (∀ op i, (op, i) ∈ ([(opRD, .rd n), (opRDB, .rdBulk n)] : List (Nat × Instr)) → h.op = op →
      let len := if op = opRD then 64 else 64 * (h.spec % 4 + 1)
      (∀ c, k.linkCheck n h = c → c ≠ 0 → Gives i s ((k.answer h opRSP c 0 []).pump n))
      ∧ (∀ p, room → k.linkCheck n h = 0 → k.jobCheck h len 64 = (0, p) → Gives i s
          (((((k.setCtx h.src x).bump (0x4010 + p) 1 len).bump (0x4010 + p) 3 len).answer h opRSP 0 0 (k.dsBytes h.addr len)).pump n))
      ∧ (∀ p, room → k.linkCheck n h = 0 → k.jobCheck h len 64 = (4, p) → Gives i s ((((k.setCtx h.src x).bump 0x5000 0x0A 1).answer h opRSP 4 0 []).pump n)))
    ∧ (h.op = opWR → d.length = 64 →
        (∀ c, k.linkCheck n h = c → c ≠ 0 → Gives (.wr n) s ((k.answer h opACK c x.rx0 []).pump n))
        ∧ (∀ p, room → k.linkCheck n h = 0 → k.jobCheck h 64 64 = (0, p) → h.seq = x.rx0 → k.outsider p h = false → Leaves (.wr n) s fun t =>
            same t ∧ (t.ctx h.src).rx0 = (x.rx0 + 1) % 65536 ∧ t.tiles = s.pkg.tiles
            ∧ ∃ w, (t.sdie (dieOf h.addr)).arriving = (s.pkg.sdie (dieOf h.addr)).arriving ++ [w] ∧ w.addr = h.addr ∧ w.data = d ∧ w.mask = some h.spec
                ∧ w.part = p ∧ w.src = 4 ∧ w.reply = some (h.enc, (x.rx0 + 1) % 65536))
        ∧ (∀ p, room → k.linkCheck n h = 0 → k.jobCheck h 64 64 = (0, p) → h.seq = x.rx0 → k.outsider p h = true →
            Leaves (.wr n) s fun t => same t ∧ t.sdies = s.pkg.sdies ∧ (t.ctx h.src).rx0 = (x.rx0 + 1) % 65536
              ∧ ∃ i, (t.part p).mem.inputs = (s.pkg.part p).mem.inputs ++ [i] ∧ i.kind = 3 ∧ i.data = h.enc ++ d)
        ∧ (∀ c p, room → k.linkCheck n h = 0 → k.jobCheck h 64 64 = (c, p) → seqPlace x.rx0 h.seq = 1 →
            (k.writeComing h = false → Gives (.wr n) s ((((k.setCtx h.src x).bump 0x5000 0x0D 1).answer h opACK c x.rx0 []).pump n))
            ∧ (k.writeComing h = true → Gives (.wr n) s ((k.setCtx h.src x).pump n)))
        ∧ (room → k.linkCheck n h = 0 → seqPlace x.rx0 h.seq = 2 → Gives (.wr n) s (((k.setCtx h.src x).answer h opACK 0 x.rx0 []).pump n)))
    ∧ (h.op = opWRB → room → k.linkCheck n h = 0 →
        let next := winApply x.rx1 x.rx1set h.seq
        (∀ p, k.jobCheck h d.length 64 = (0, p) → winCheck x.rx1 x.rx1set h.seq = 0 → k.outsider p h = false → h.addr % 0x80000000 + d.length ≤ 0x80000000 →
          Leaves (.wrBulk n) s fun t => same t ∧ winCheck (t.ctx h.src).rx1 (t.ctx h.src).rx1set h.seq = 1
            ∧ ∃ w, (t.sdie (dieOf h.addr)).arriving = (s.pkg.sdie (dieOf h.addr)).arriving ++ [w] ∧ w.addr = h.addr ∧ w.data = d ∧ w.mask = none
                ∧ w.part = p ∧ w.src = 4 ∧ w.reply = some (h.enc, next.1))
        ∧ (∀ c p, k.jobCheck h d.length 64 = (c, p) → winCheck x.rx1 x.rx1set h.seq = 1 →
            (k.writeComing h = false → Gives (.wrBulk n) s ((((k.setCtx h.src x).bump 0x5000 0x0D 1).answer h opACK c x.rx1 []).pump n))
            ∧ (k.writeComing h = true → Gives (.wrBulk n) s ((k.setCtx h.src x).pump n)))
        ∧ (winCheck x.rx1 x.rx1set h.seq = 2 → Gives (.wrBulk n) s (k.pump n)))
    ∧ (∀ p, h.op = opATOMIC → room → k.linkCheck n h = 0 → k.jobCheck h h.width 1 = (0, p) → h.addr % 16 + h.width ≤ 16 → h.seq = x.rx0 →
        let f := h.src % 8
        let w := h.width
        let fn := bits h.spec 35 32
        let half := if w = 16 then 16 else 8
        let v := fld d 0 half % 2 ^ (8 * w)
        let old := s.pkg.dstore.rd h.addr w
        let next := k.setCtx h.src { x with rx0 := (x.rx0 + 1) % 65536 }
        (((s.pkg.onces f).find? (fun o => o.is h)) = none → (s.pkg.onces f).length < 4096 → k.outsider p h = false → Leaves (.atomic n) s fun t =>
          t.dstore.rd h.addr w = (if fn = 9 then (if old = fld d half half % 2 ^ (8 * w) then v else old) else amoOp fn (8 * w) old v % 2 ^ (8 * w))
          ∧ (∀ b, (b < h.addr ∨ h.addr + w ≤ b) → t.dstore.rd b 1 = s.pkg.dstore.rd b 1)
          ∧ (∃ o ∈ t.onces f, o.is h = true ∧ o.result = natLe 16 old) ∧ (t.ctx h.src).rx0 = (x.rx0 + 1) % 65536)
        ∧ (((s.pkg.onces f).find? (fun o => o.is h)) = none → (s.pkg.onces f).length < 4096 → k.outsider p h = true → Leaves (.atomic n) s fun t =>
            same t ∧ (∃ o ∈ t.onces f, o.is h = true ∧ o.result = []) ∧ (t.ctx h.src).rx0 = (x.rx0 + 1) % 65536
            ∧ ∃ i, (t.part p).mem.inputs = (s.pkg.part p).mem.inputs ++ [i] ∧ i.kind = 3 ∧ i.data = h.enc ++ d)
        ∧ (∀ o, (s.pkg.onces f).find? (fun o => o.is h) = some o → o.result ≠ [] → Leaves (.atomic n) s fun t =>
            same t ∧ t.ent 0x5000 0x0D = s.pkg.ent 0x5000 0x0D + 1 ∧ (t.ctx h.src).rx0 = (x.rx0 + 1) % 65536)
        ∧ (∀ o, (s.pkg.onces f).find? (fun o => o.is h) = some o → o.result = [] → Gives (.atomic n) s (next.pump n))
        ∧ (((s.pkg.onces f).find? (fun o => o.is h)) = none → 4096 ≤ (s.pkg.onces f).length → Gives (.atomic n) s (((k.bump 0x5000 0x0C 1).answer h opRSP 0x0B 0 []).pump n)))

/-- RSP, ACK, RETRY, ONCE_RELEASE, ONCE_ENTRY_EXPIRY, E2E_RETRY_TIMER, CONTEXT_IDLE_TIMER, CLOSE, LINK_NOTICE, CANCEL (11:R338, R344, R349 to R366). -/
def Obligations.AtnikSources : Prop :=
  (∀ (s : State) (n : Nat) (r : RxPkt) (rest : List RxPkt), s.pkg.arrives n r rest →
    let k := s.pkg.received n r rest
    let h := Hdr.dec r.packet
    (∀ q, h.op = opRSP → h.status ≠ 0x0B → s.pkg.answered h = some q →
      (Gives (.rsp n) s ((k.finish q h.status (r.packet.drop 32)).pump n))
      ∧ (∀ g a, q.src = .hart g → h.status = 0 → s.pkg.net.sends = [] → (s.pkg.port n).queue = [] → (s.pkg.hart g).wait = .remote q.id a → Leaves (.rsp n) s fun t =>
          (t.hart g).wait = .answered a (Sys2Proof.slice (r.packet.drop 32) a.off a.size) 0 q.node ∧ t.net.reqs = s.pkg.net.reqs.filter (fun o => !(decide (o.id = q.id)))))
    ∧ (∀ p, h.op = opRSP → h.status ≠ 0x0B → s.pkg.answered h = none → s.pkg.partOfJob h.job = some p → Gives (.rsp n) s ((k.bump (0x5010 + p) 9 1).pump n))
    ∧ (∀ q, h.op = opRSP → h.status = 0x0B → s.pkg.answered h = some q → Gives (.retry n) s ((k.setReq { q with retryAt := s.pkg.tempo.local_ + 1 }).pump n))
    ∧ (∀ q, h.op = opACK → s.pkg.answered h = some q →
        (h.tc = 1 → h.status = 0 → Gives (.ack n) s ((k.finish q 0 []).pump n))
        ∧ (h.tc = 0 → h.status = 0 → seqPlace (h.spec % 65536) h.seq = 1 → Gives (.ack n) s ((k.finish q 0 []).pump n))
        ∧ (h.tc = 0 → h.status = 0 → seqPlace (h.spec % 65536) h.seq ≠ 1 → Gives (.ack n) s ((k.resendFrom h.src (h.spec % 65536)).pump n)))
    ∧ (h.op = opREL → k.linkCheck n h = 0 → Gives (.onceRelease n) s ((k.setOnces (h.src % 8) ((k.onces (h.src % 8)).filter (fun o => !(o.is h)))).pump n))
    ∧ (h.op = opCTRL → h.spec % 256 = 6 → Gives (.close n) s (Pkg.pump { k with net := { k.net with ctxs := Tab.erase k.net.ctxs h.src } } n))
    ∧ (h.op = opCTRL → h.spec % 256 = 5 →
        let a := fld (r.packet.drop 32) 4 4
        let b := fld (r.packet.drop 32) 8 4
        (byteAt (r.packet.drop 32) 0 = 0 → (s.pkg.port n).queue = [] → s.pkg.net.reqs = [] → Leaves (.linkNotice n) s fun t =>
          (t.port n).notices = (s.pkg.port n).notices ++ [(a, b)])
        ∧ (byteAt (r.packet.drop 32) 0 ≠ 0 → s.pkg.net.reqs = [] → Leaves (.linkNotice n) s fun t =>
            (t.port n).notices = (s.pkg.port n).notices.flatMap (fun q => rangeMinus q a b))))
  ∧ (∀ (s : State), s.pkg.fw.off = 0 →
      (∀ f, f < 8 → Gives (.onceEntryExpiry f) s (s.pkg.setOnces f ((s.pkg.onces f).filter (fun o => o.result.isEmpty || decide (s.pkg.tempo.local_ < o.sentAt + 2000000 * s.pkg.ent 0x5000 5)))))
      ∧ (∀ id q, s.pkg.req id = some q → q.waiting = false → q.noRoute = 0 → q.retryAt = 0 → s.pkg.inTurn q = false →
          (q.sentAt + 1000 * s.pkg.ent 0x5000 6 ≤ s.pkg.tempo.local_ → Gives (.e2eRetryTimer id) s ((s.pkg.unqueue q).resendReq q))
          ∧ (s.pkg.tempo.local_ < q.sentAt + 1000 * s.pkg.ent 0x5000 6 → exec (.e2eRetryTimer id) s = .next s))
      ∧ (∀ node, node < 131072 → (s.pkg.ctx node).live = true → s.pkg.net.reqs = [] → s.pkg.net.sends = [] →
          (s.pkg.tempo.local_ < (s.pkg.ctx node).used + 1000000 * (s.pkg.ent 0x5000 5 + 1) → exec (.contextIdleTimer node) s = .next s)
          ∧ ((s.pkg.ctx node).used + 1000000 * (s.pkg.ent 0x5000 5 + 1) ≤ s.pkg.tempo.local_ → Leaves (.contextIdleTimer node) s fun k => Tab.find k.net.ctxs node = none))
      ∧ (∀ m, m ≠ 0 → m < s.pkg.net.nextMsg → Leaves (.cancel m) s fun k =>
          k.net.lastCancel = (if Tab.get 0 s.pkg.net.granted m = 0 then 9 else 0x0A, Tab.get 0 s.pkg.net.granted m) ∧ k.dstore = s.pkg.dstore
          ∧ (∀ r ∈ k.net.reqs, r.msg = m → r.sent = true) ∧ (∀ x ∈ k.net.sends, x.msg ≠ m))
      ∧ exec (.cancel 0) s = .next s)
  ∧ ∀ (h : Hdr) (p : List Byte), h.op < 16 → h.tc < 4 → h.fence < 2 → h.space < 2 → h.dst < 2 ^ 17 → h.src < 2 ^ 17 → h.job < 2 ^ 24 → h.addr < 2 ^ 46 →
      h.seq < 2 ^ 16 → h.agent < 2 ^ 16 → h.epoch < 2 ^ 32 → h.len < 256 → h.status < 256 → h.spec < 2 ^ 64 → Hdr.dec (h.enc ++ p) = { h with agent := h.agent % 2 ^ 14 }

/-- The collective rows (12:R377 to R400). -/
def Obligations.Collectives : Prop :=
  (∀ (s : State) (p tile stamp : Nat) (desc : List Byte), p < 16 → s.pkg.fw.off = 0 →
    let d := collDesc desc
    (64 ≤ s.pkg.collCount p → exec (.collAdmit p) s = .next s)
    ∧ ((∀ w ∈ s.pkg.collWait, w.1 ≠ p) → exec (.collAdmit p) s = .next s)
    ∧ (s.pkg.collCount p < 64 → s.pkg.collWait = [(p, tile, desc, stamp)] → s.pkg.coll p d.seq = none →
        let raw := (List.range d.mcount).map (fun i => s.pkg.dstore.rd (d.members + 4 * i) 4)
        let bad := raw.any (fun m => decide (2 ^ 17 ≤ m)) || !(ascending raw) || !(raw.contains s.pkg.node) || s.pkg.unreadable d.members (4 * d.mcount)
        (bad = true → Leaves (.collAdmit p) s fun k => k.coll p d.seq = none ∧ k.collWait = [] ∧ bit (k.dword d.record) 63 = true
          ∧ k.ent (0x5810 + p) 4 = s.pkg.ent (0x5810 + p) 4 + 1 ∧ Reports k 0x0503 p [d.seq, 5, s.pkg.node, 0])
        ∧ (bad = false → (∀ g ∈ s.pkg.collGone, ¬(g.1 = p ∧ g.2.1 = d.seq)) → 1 < d.lcount → 0 < d.n → d.sf < 4 → d.clog = 16 → d.mode < 2 →
            (childrenOf raw s.pkg.node).flatten = [] → Leaves (.collAdmit p) s fun k => k.collWait = [] ∧ k.collCount p = s.pkg.collCount p + 1
              ∧ k.coll p d.seq = some { part := p, seq := d.seq, desc := desc, locals := [(tile, d.src)], members := raw.map (· % 2 ^ 17)
                                        hash := d.hash (raw.map (· % 2 ^ 17)), admitted := true, progress := s.pkg.tempo.now, ready := stamp }))
    ∧ (∀ f, f < 8 → (∀ c ∈ s.pkg.colls, c.part ≠ p) → exec (.windowSlotGrant p f) s = .next s)
    ∧ (∀ f c k, f < 8 → s.pkg.colls = [c] → c.part = p → c.admitted = true → c.current.find? (fun k => decide ((k + c.seq) % 8 = f)) = some k →
        c.allowed k < c.d.segs k → c.winHeld k = 0 → 64 < s.pkg.ent (0x2000 + p) 4 / 64 → Gives (.windowSlotGrant p f) s
          (((s.pkg.setColl (c.setChunk k { c.chunk k with win := c.allowed k :: (c.chunk k).win })).peak (0x5810 + p) 8 1).collGo p c.seq))
    ∧ (∀ c q, s.pkg.coll p q = some c → c.admitted = true → (s.pkg.part p).st = .running →
        (c.progress + c.paused + 50000000 ≤ s.pkg.tempo.now → Leaves (.collStalemate p q) s fun k => k.coll p q = none ∧ bit (k.dword c.d.record) 63 = true
          ∧ k.ent (0x5810 + p) 4 = s.pkg.ent (0x5810 + p) 4 + 1 ∧ k.ent (0x5810 + p) 5 = s.pkg.ent (0x5810 + p) 5 + 1
          ∧ Reports k 0x0503 p [q, 1, s.pkg.node, c.flagged])
        ∧ (s.pkg.tempo.now < c.progress + c.paused + 50000000 → exec (.collStalemate p q) s = .next s))
    ∧ (∀ q k, Gives (.reductionEccError p q k true) s (s.pkg.bump 0x5800 3 1) ∧ (s.pkg.coll p q = none → exec (.reductionEccError p q k false) s = .next s)))
  ∧ (∀ (s : State) (n : Nat) (r : RxPkt) (rest : List RxPkt), s.pkg.arrives n r rest → (Hdr.dec r.packet).op = opCOLL →
      let k := s.pkg.received n r rest
      let h := Hdr.dec r.packet
      let x := k.ctx h.src
      let kind := bits h.spec 35 32
      let q := bits h.spec 31 0
      let idx := bits h.spec 63 36
      let pay := r.packet.drop 32
      let w := winApply x.rx2 x.rx2set h.seq
      let ack := (k.setCtx h.src { x with rx2 := w.1, rx2set := w.2 }).answer h opACK 0 w.1 []
      let rows : List (Nat × Instr) := [(0, .grant n), (1, .hdrUp n), (2, .hdrDown n), (3, .expUp n), (4, .expDown n), (5, .dataUp n), (6, .dataDown n), (7, .resend n), (8, .abort n)]
      let alone := ∀ e ∈ s.pkg.net.ports, ∀ y ∈ e.2.rx, e.1 = n ∧ y = r ∨ (Hdr.dec y.packet).op ≠ opCOLL
      let Sends (i : Instr) (t : Pkg) : Prop := Gives i s (t.pump n)
      (∀ i, (kind, i) ∈ rows →
        (∀ c, k.linkCheck n h = c → c ≠ 0 → Sends i (k.answer h opACK c 0 []))
        ∧ (k.linkCheck n h = 0 → winCheck x.rx2 x.rx2set h.seq = 1 → Sends i (((k.setCtx h.src x).bump 0x5000 0x0D 1).answer h opACK (if (s.pkg.partOfJob h.job).isSome then 0 else 3) x.rx2 []))
        ∧ (k.linkCheck n h = 0 → winCheck x.rx2 x.rx2set h.seq = 2 → Sends i k))
      ∧ (∀ j i, (j, i) ∈ rows → j ≠ kind → exec i s = .next s)
      ∧ (∀ p, k.linkCheck n h = 0 → winCheck x.rx2 x.rx2set h.seq = 0 → s.pkg.partOfJob h.job = some p →
          (s.pkg.coll p q = none →
            (kind = 0 → Sends (.grant n) { ack with colls := ack.colls ++ [{ part := p, seq := q, early := [(h.src, pay)] }] })
            ∧ (kind = 8 → alone → Sends (.abort n) (ack.collRemember p q (byteAt pay 8) (fld pay 12 4) true))
            ∧ (∀ i, (kind, i) ∈ rows → kind ≠ 0 → kind ≠ 8 → Sends i ack))
          ∧ (∀ c, s.pkg.coll p q = some c → c.admitted = true → c.part = p → c.seq = q →
              let c1 := c.note s.pkg.tempo.now
              let on := ack.setColl c1
              let up := (c.kids s.pkg.node).contains h.src
              let down := c.parent s.pkg.node = some h.src
              (∀ i, (kind, i) ∈ rows → (kind = 1 ∨ kind = 3 ∨ kind = 5) → up = false → Sends i (ack.collAbort p q 2 s.pkg.node false h.src))
              ∧ (kind = 0 → down → fld pay 0 8 = c.hash → Sends (.grant n)
                  ((ack.modChunk p q (fld pay 8 4) (fun x => { x with grant := max x.grant (fld pay 12 4) })).collGo p q))
              ∧ (kind = 1 → up = true → fld pay 0 8 = c.hash → Sends (.hdrUp n)
                  ((on.modChunk p q (fld pay 8 4) (fun x => { x with hdr := Tab.insert x.hdr h.src pay })).collGo p q))
              ∧ (kind = 2 → down → fld pay 0 8 = c.hash → Sends (.hdrDown n)
                  (((on.modChunk p q (fld pay 8 4) (fun x => { x with down := pay })).collOutKids c1 2 idx pay).collGo p q))
              ∧ (kind = 3 → up = true → Sends (.expUp n)
                  ((on.modChunk p q (idx / max 1 c.d.expUnits) (fun x => { x with exp := Tab.insert x.exp (kidKey h.src idx) pay })).collGo p q))
              ∧ (kind = 4 → down →
                  let j := idx / max 1 c.d.expUnits
                  Sends (.expDown n) ((((on.modChunk p q j (fun x => { x with expIn := Tab.insert x.expIn idx pay })).modColl p q (fun v =>
                    match gather (v.chunk j).expIn (j * c.d.expUnits) (ceilDiv (2 * c.d.blocks j) 256) with
                    | some tot => v.withExp j (tot.take (2 * c.d.blocks j))
                    | none => v)).collOutKids c1 4 idx pay).collGo p q))
              ∧ (∀ j, kind = 5 → up = true → c1.chunkOf idx c1.current = some j → Sends (.dataUp n)
                  ((on.modChunk p q j (fun x => { x with dat := Tab.insert x.dat (kidKey h.src idx) pay })).collGo p q))
              ∧ (kind = 6 → down → Sends (.dataDown n)
                  ((((on.dstorePut (c.d.dst + idx * 256) (pay.take (c.d.n * c.d.rw - idx * 256))).modChunk p q (idx / max 1 c.d.resUnits)
                    (fun x => { x with res := Tab.insert x.res idx 1 })).collOutKids c1 6 idx pay).collGo p q))
              ∧ (kind = 7 → down →
                  let j := fld pay 0 4
                  let again (t : Pkg) (g : Nat) : Pkg := if g < (c.chunk j).sentDat then (match t.collTotal c j g, c.dataAt j g with
                    | some v, some a => (t.modColl p q (·.note s.pkg.tempo.now)).collOut p q h.src 5 a (Seg.bytes c.d v)
                    | _, _ => t) else t
                  Sends (.resend n) ((((List.range (fld pay 8 4)).map (· + fld pay 4 4)).foldl again (ack.setColl c)).collGo p q))
              ∧ (kind = 8 → alone → Sends (.abort n) (ack.collAbort p q (byteAt pay 8) (fld pay 12 4) true)))))
  ∧ ∀ (d : CollDesc) (a b c : Seg), d.mode = 1 → a.ints.length = b.ints.length → b.ints.length = c.ints.length → a.masks.length = b.masks.length →
      b.masks.length = c.masks.length →
      (Seg.add d a b).ints = (Seg.add d b a).ints ∧ (Seg.add d a b).masks = (Seg.add d b a).masks
      ∧ (Seg.add d (Seg.add d a b) c).ints = (Seg.add d a (Seg.add d b c)).ints ∧ (Seg.add d (Seg.add d a b) c).masks = (Seg.add d a (Seg.add d b c)).masks

/-- The power rows (15:R460 to R470, 13:R403, R415). -/
def Obligations.PowerAndHeat : Prop :=
  ∀ s : State, s.pkg.fw.off = 0 →
    let w := s.pkg.pow
    let now := s.pkg.tempo.local_
    let tripped (k : Pkg) (cause d : Nat) : Prop := k.fw.off = cause ∧ k.fw.up = false ∧ (∀ j, j < 66 → Tab.get 16 k.pow.duty j = 0)
      ∧ (∃ c ∈ k.fw.commits, c.kind = 4) ∧ (∃ e ∈ k.log, e.code = 0x0605 ∧ e.items = [d, ofSigned 64 ((k.dieTemp d).getD 0), cause])
    let steep (ma : Nat) : Nat := (if ma < w.ma then w.ma - ma else ma - w.ma)
    (∀ mv ma aux, s.pkg.fw.vaux = false → Gives (.vinSample mv ma aux) s { s.pkg with pins := { s.pkg.pins with vin := mv } })
    ∧ (∀ mv ma aux, s.pkg.fw.vaux = true → now < w.sampleAt + 1000 ∨ 150 * (now - w.sampleAt) < steep ma → exec (.vinSample mv ma aux) s = .next s)
    ∧ (∀ mv ma aux, s.pkg.fw.vaux = true → w.sampleAt + 1000 ≤ now → steep ma ≤ 150 * (now - w.sampleAt) → 38000 ≤ mv → mv ≤ 62000 → Gives (.vinSample mv ma aux) s
        { s.pkg with
          pins := { s.pkg.pins with vin := mv }
          pow := { w with sampleAt := now, sampleNow := s.pkg.tempo.now, ma := ma, inputW := mv * ma / 1000000, energy := w.energy + mv * ma, aux := w.aux + 1000 * aux
                          periodPj := w.periodPj + mv * ma, periodN := w.periodN + 1, badVin := 0 } })
    ∧ (∀ mv ma aux, s.pkg.fw.vaux = true → w.sampleAt + 1000 ≤ now → steep ma ≤ 150 * (now - w.sampleAt) → (mv < 38000 ∨ 62000 < mv) →
        (w.badVin = 9 → Leaves (.vinSample mv ma aux) s fun k => tripped k 2 66)
        ∧ (w.badVin ≠ 9 → Leaves (.vinSample mv ma aux) s fun k => k.pow.badVin = w.badVin + 1 ∧ k.fw = s.pkg.fw ∧ k.pow.duty = w.duty))
    ∧ (∀ mas, now < w.fastAt + 1000 → exec (.fastLoopSample mas) s = .next s)
    ∧ (∀ mas d, w.fastAt + 1000 ≤ now → d < 66 → Leaves (.fastLoopSample mas) s fun k => k.tiles = s.pkg.tiles ∧ k.dstore = s.pkg.dstore ∧ k.pow.target = w.target
        ∧ (w.regLimit d < mas.getD d 0 ∨ 1000 * s.pkg.ent 0x6000 4 < w.ma → Tab.get 16 k.pow.duty d = Tab.get 16 w.duty d / 2)
        ∧ (100 * w.ma < 95 * (1000 * s.pkg.ent 0x6000 4) → 100 * (10 * s.pkg.pins.vin * w.ma) < 95 * (1000000 * s.pkg.guard10) →
            100 * mas.getD d 0 < 95 * w.regLimit d →
            Tab.get 16 k.pow.duty d = if 9 ≤ Tab.get 0 w.calm d then min 16 (Tab.get 16 w.duty d + 1) else Tab.get 16 w.duty d))
    ∧ (∀ debt, s.pkg.tempo.now < w.loopAt + 1000000 → exec (.powerCapLoop debt) s = .next s)
    ∧ (∀ debt, w.loopAt + 1000000 ≤ s.pkg.tempo.now → 50 ≤ w.slope → 600 ≤ w.target → w.target ≤ s.pkg.topMhz → Leaves (.powerCapLoop debt) s fun k =>
        k.pow.loopAt = s.pkg.tempo.now ∧ k.pow.cap = s.pkg.ent 0x6000 1 ∧ k.pow.periodPj = 0 ∧ k.pow.periodN = 0 ∧ k.pow.release = false
        ∧ k.pow.brake = (w.brake && !w.release) ∧ 600 ≤ k.pow.target ∧ k.pow.target ≤ s.pkg.topMhz ∧ k.pow.target ≤ w.target + 100
        ∧ w.target ≤ k.pow.target + 200 ∧ 50 ≤ k.pow.slope ∧ (w.slope ≤ 1000 → k.pow.slope ≤ 1000)
        ∧ (w.duty ≠ [] → k.pow.target = max 600 (w.target - 200)) ∧ k.tiles = s.pkg.tiles ∧ k.dstore = s.pkg.dstore)
    ∧ (∀ t, t < 6144 →
        let fmax := Tab.get 0 s.sites.fmax (t / 128 * 144 + s.sites.siteOf t)
        let c := Tab.get 1500 w.clocks t
        let goal := s.pkg.tileGoal t fmax
        (c = goal ∨ now < Tab.get 0 w.clockAt t + 1000 → exec (.frequencyStep t) s = .next s)
        ∧ (fmax ≠ 0 → c ≠ goal → Tab.get 0 w.clockAt t + 1000 ≤ now → Leaves (.frequencyStep t) s fun k =>
            Tab.get 1500 k.pow.clocks t = (if c < goal then min goal (c + 25) else max goal (c - 25)) ∧ Tab.get 0 k.pow.clockAt t = now
            ∧ (∀ u, u ≠ t → Tab.get 1500 k.pow.clocks u = Tab.get 1500 w.clocks u) ∧ k.tiles = (s.pkg.spanMark t).tiles ∧ (∀ u, u ≠ t → k.tile u = s.pkg.tile u)))
    ∧ (w.brake = false → Leaves .brakeAsserted s fun k => k.pow.brake = true ∧ k.pow.brakeAt = s.pkg.tempo.now ∧ ∃ e ∈ k.log, e.code = 0x0603 ∧ e.items = [s.pkg.ent 0x6000 2])
    ∧ (w.brake = true → Gives .brakeAsserted s { s.pkg with pow := { w with release := false } })
    ∧ (w.brake = true → Gives .brakeReleased s { s.pkg with pow := { w with release := true } })
    ∧ (w.brake = false → exec .brakeReleased s = .next s)
    ∧ (∀ d i, d < 48 → i < 8 →
        let since := Tab.get 0 w.stretch (d * 8 + i)
        (since = 0 → exec (.droopRelease d i) s = .next s)
        ∧ (since = 0 → Leaves (.droopDetect d i) s fun k => Tab.get 0 k.pow.stretch (d * 8 + i) = now + 1
            ∧ k.ent 0x6020 (d + 1) = s.pkg.ent 0x6020 (d + 1) + 1 ∧ k.pow.clocks = w.clocks)
        ∧ (since ≠ 0 → exec (.droopDetect d i) s = .next s)
        ∧ (since ≠ 0 → Leaves (.droopRelease d i) s fun k => Tab.find k.pow.stretch (d * 8 + i) = none
            ∧ Tab.get 0 k.pow.stretched d = Tab.get 0 w.stretched d + (now + 1 - since)))
    ∧ (∀ d codes, d < 66 → codes.length = sensorsOf d → (∀ i, i < sensorsOf d → Tab.get 0 w.badSensor (d * 64 + i) = 0) →
        (∀ c ∈ codes, 2 ^ 31 ≤ c % 2 ^ 32 ∨ c % 2 ^ 32 < 11500) → Leaves (.thermalSample d codes) s fun k => k.fw = s.pkg.fw
          ∧ (∀ i, i < sensorsOf d → Tab.get 0 k.pow.temps (d * 64 + i) = codes.getD i 0 % 2 ^ 32)
          ∧ (∃ c ∈ codes, k.ent 0x6200 (d + 1) = c % 2 ^ 32) ∧ (∀ c ∈ codes, toSigned 32 (c % 2 ^ 32) ≤ toSigned 32 (k.ent 0x6200 (d + 1))))
    ∧ (∀ d codes, d < 66 → codes.length = sensorsOf d → (∀ i, i < sensorsOf d → Tab.get 0 w.badSensor (d * 64 + i) = 0) →
        (∃ c ∈ codes, 11500 ≤ c % 2 ^ 32 ∧ c % 2 ^ 32 < 2 ^ 31) → Leaves (.thermalSample d codes) s fun k => tripped k 1 d)
    ∧ (∀ d t, d < 66 → s.pkg.dieTemp d = some t →
        let h := Tab.get 0 w.heat d
        let at_ := Tab.get 0 w.stepAt d
        (s.pkg.throttleTemp ≤ t → at_ + 100000 ≤ now → Leaves (.thermalStep d) s fun k =>
          Tab.get 0 k.pow.heat d = min (if dutyDie d then 16 else if d < 48 then 44 else 72) (h + 1) ∧ Tab.get 0 k.pow.stepAt d = now ∧ k.tiles = s.pkg.tiles)
        ∧ (s.pkg.throttleTemp ≤ t → now < at_ + 100000 → exec (.thermalStep d) s = .next s)
        ∧ (t < s.pkg.throttleTemp - 200 → h ≠ 0 → at_ + 1000000 ≤ now → Leaves (.thermalStep d) s fun k => Tab.get 0 k.pow.heat d = h - 1)
        ∧ (t < s.pkg.throttleTemp → s.pkg.throttleTemp - 200 ≤ t → exec (.thermalStep d) s = .next s))
    ∧ (∀ r, r < 66 →
        (w.good r = 0 → exec (.regulatorPhaseLost r) s = .next s)
        ∧ (w.good r ≠ 0 → Leaves (.regulatorPhaseLost r) s fun k => k.pow.regLimit r + 40000 = w.regLimit r ∧ (11, r) ∈ k.fault.groups
            ∧ k.parts = s.pkg.parts)
        ∧ (w.good r ≠ 0 → (11, r) ∉ s.pkg.fault.groups → Leaves (.regulatorPhaseLost r) s fun k => Reports k 0x0205 0xFF [11, r, 0]
            ∧ k.ent 0x3001 11 = s.pkg.ent 0x3001 11 + 1)
        ∧ (w.good r ≠ 0 → (11, r) ∈ s.pkg.fault.groups → Leaves (.regulatorPhaseLost r) s fun k => Reports k 0x0203 0xFF [0]))

/-- The rows of chapter 16, and 15:R463, 09:R275, 18:R549 (entries written through the dictionary).
The mailbox, I3C and the management port's own frames (16:R489, R498 to R501; ICMPv6 and Neighbor Discovery are of the RFCs, log entry 30;
GETSTATUS is a free value, log entry 5). -/
def Obligations.ParametersAndOwnership : Prop :=
  ((∀ (s : State) (d : Datagram), s.pkg.fw.off = 0 → s.pkg.fw.dict = true →
    let m := d.bytes
    ∀ t i, (t, i) ∈ ([(1, .read d), (2, .write d), (3, .claim d), (4, .renew d), (5, .handover d), (6, .release d), (7, .subscribe d)] : List (Nat × Instr)) →
      (d.dport ≠ 29417 ∨ s.pkg.ownAddr d.dst = false → exec i s = .next s)
      ∧ (d.dport = 29417 → s.pkg.ownAddr d.dst = true → mType m = t →
      (∀ x, s.pkg.authentic .ethernet m = some x → 0 < mSeq m → x.high ≤ mSeq m + 64 → mSeq m ∉ x.seen → (s.pkg.mgmt.sessions.filter (fun y => y.id = x.id)) = [x] →
        Leaves i s fun k => k.mgmt.reqs = s.pkg.mgmt.reqs ++ [{ session := x.id, seq := mSeq m, type := t, body := Sys2Proof.slice m 16 (mLen m), peer := ⟨d.addr, d.port⟩ }]
          ∧ (∃ y, k.session x.id = some y ∧ y.last = s.pkg.tempo.local_ ∧ y.high = max (mSeq m) x.high ∧ mSeq m ∈ y.seen) ∧ k.dict = s.pkg.dict ∧ k.out = s.pkg.out)
      ∧ (s.pkg.authentic .ethernet m = none → Leaves i s fun k => k.ent 0x1130 5 = s.pkg.ent 0x1130 5 + 1 ∧ k.mgmt.reqs = s.pkg.mgmt.reqs
          ∧ k.mgmt.owner = s.pkg.mgmt.owner ∧ k.fw = s.pkg.fw)))
  ∧ (∀ s : State, s.pkg.fw.off = 0 → s.pkg.dictUp = true →
      let g := s.pkg.mgmt
      let now := s.pkg.tempo.local_
      (now < g.cycleAt + 100000 → exec .dictionaryCycle s = .next s)
      ∧ (g.cycleAt + 100000 ≤ now → (s.pkg.mbox 0).go = false → (s.pkg.mbox 1).go = false → (g.owner = none ∨ now < s.pkg.leaseEnd) → s.pkg.fw.st ≠ 2 →
          (g.reqs = [] → Gives .dictionaryCycle s { s.pkg with mgmt := { g with cycleAt := now, fresh := 0 } })
          ∧ (∀ r x, g.reqs = [r] → s.pkg.session r.session = some x → x.mutual_ = true → x.path = .ethernet → Leaves .dictionaryCycle s fun k =>
              k.mgmt.reqs = [] ∧ k.mgmt.cycleAt = now ∧ k.out ≠ s.pkg.out ∧ k.fw.boots = s.pkg.fw.boots
              ∧ (r.type = 3 → r.body = [] → g.owner = none → s.pkg.classOn x = true → k.mgmt.owner = some (x.principal, 0) ∧ k.mgmt.ownerSession = x.id ∧ k.mgmt.renewed = now
                  ∧ k.ent 0x1100 8 = s.pkg.ent 0x1100 8 + 1 ∧ Reports k 0x0901 0xFF [x.id, 0])
              ∧ (∀ o, r.type = 3 → g.owner = some o → k.mgmt.owner = some o ∧ k.dict = s.pkg.dict)
              ∧ (r.type = 4 → g.isOwner x = true → k.mgmt.owner = g.owner ∧ k.mgmt.renewed = now)
              ∧ (r.type = 4 → g.isOwner x = false → k.mgmt.renewed = g.renewed)
              ∧ (r.type = 6 → r.body = [] → g.isOwner x = true → k.mgmt.owner = none ∧ ∃ e ∈ k.log, e.code = 0x0903 ∧ e.items = [x.id])
              ∧ (∀ y, r.type = 5 → g.isOwner x = true → r.body.length = 4 → s.pkg.session (beNat r.body) = some y → s.pkg.classOn y = true →
                  k.mgmt.owner = some (y.principal, y.path.cls) ∧ k.mgmt.ownerSession = y.id)
              ∧ (r.type = 3 ∨ r.type = 6 → r.body ≠ [] → k.mgmt.owner = g.owner ∧ k.dict = s.pkg.dict)
              ∧ ((r.type = 5 ∨ r.type = 6) → g.isOwner x = false → k.mgmt.owner = g.owner ∧ k.dict = s.pkg.dict)
              ∧ (r.type = 1 → k.dict = s.pkg.dict ∧ k.mgmt.owner = g.owner)
              ∧ (r.type = 7 → k.dict = s.pkg.dict ∧ (r.body.length = 12 → beNat (Sys2Proof.slice r.body 6 2) ≤ 64 → beNat (Sys2Proof.slice r.body 8 4) = 0 →
                  ∃ y, k.session x.id = some y ∧ y.sub = some (beNat (Sys2Proof.slice r.body 0 2), beNat (Sys2Proof.slice r.body 4 2), beNat (Sys2Proof.slice r.body 6 2), 0))))))
  ∧ (∀ (s : State) (id : Nat) (x : Session), s.pkg.fw.off = 0 → s.pkg.dictUp = true → s.pkg.fw.st ≠ 2 → s.pkg.session id = some x → x.mutual_ = true → x.path = .ethernet →
      let checks (i j n v : Nat) : Nat := s.pkg.writeCheck s.pkg x i j n v
      (∀ i j v e, s.pkg.entryAt i j = some e → i < 65536 → j < 256 → e.idx = i → e.sub = j → 0 < e.len → e.len ≤ 8 → v < 256 ^ e.len →
          (∀ k : Pkg, k.entryWrite e v = k.putEntry e v) → s.pkg.overridden e = false →
          checks i j e.len v = 0 → Leaves (.dictEntryWrite id i j (wireVal e.ty e.len v)) s fun k => k.ent i j = v ∧ SameEnts s.pkg k [(i, j)]
            ∧ (e.sto = 1 → dkey i j ∈ k.fw.pending) ∧ k.parts = s.pkg.parts ∧ k.tiles = s.pkg.tiles)
      ∧ (∀ v, v < 2 ^ 32 → checks 0x6000 1 4 v = 0 → Leaves (.powerCapWWrite id v) s fun k => k.ent 0x6000 1 = v ∧ SameEnts s.pkg k [(0x6000, 1)])
      ∧ (∀ p v, p < 16 → v < 2 ^ 32 → checks (0x4110 + p) 1 4 v = 0 → Leaves (.tierFloorExtentsWrite id p v) s fun k =>
          k.ent (0x4110 + p) 1 = v ∧ SameEnts s.pkg k [(0x4110 + p, 1)])
      ∧ (∀ v, v < 2 ^ 32 → checks 0x1010 1 4 v = 0 → Leaves (.partitionPortWrite id v) s fun k => k.ent 0x1010 1 = v ∧ SameEnts s.pkg k [(0x1010, 1)])
      ∧ (∀ q v, q < 48 → v < 2 → checks (0x4200 + q) 2 1 v = 0 → s.pkg.tier.forming = false → (s.pkg.lport q).cmds = [] → (s.pkg.lport q).queue = [] →
          Leaves (.lenpelEnableWrite q ⟨id, v⟩) s fun k => k.ent (0x4200 + q) 2 = v ∧ dkey (0x4200 + q) 2 ∈ k.fw.pending
            ∧ (v = 0 → (k.lport q).st = .down ∧ (k.lport q).stale = true ∧ ((s.pkg.lport q).st ≠ .down → (k.lport q).rst = false))
            ∧ (v = 1 → (s.pkg.lport q).st = .down → (s.pkg.lport q).present = true → (k.lport q).st = .detect ∧ (k.lport q).since = s.pkg.tempo.local_
                ∧ (k.lport q).rst = false)
            ∧ (v = 1 → (s.pkg.lport q).st ≠ .down → k.lport q = s.pkg.lport q))
      ∧ (∀ q, q < 48 → s.pkg.enableRefused q 0 = true → checks (0x4200 + q) 2 1 0 ≠ 0)
      ∧ (∀ n v, n < 24 → v < 2 → checks (0x5040 + n) 2 1 v = 0 → (s.pkg.port n).st = .failed → Leaves (.atnikEnableWrite n ⟨id, v⟩) s fun k =>
          k.ent (0x5040 + n) 2 = v ∧ dkey (0x5040 + n) 2 ∈ k.fw.pending ∧ (k.port n).st = (if v = 0 then .down else .train)
          ∧ (k.port n).since = s.pkg.tempo.local_)
      ∧ (∀ t y, t < 2 ^ 32 → checks 0x1100 6 4 t = 0 → s.pkg.session t = some y → y.grant = false → Leaves (.ownExpertGrant id t) s fun k =>
          (∃ z, k.session t = some z ∧ z.grant = true) ∧ Reports k 0x0906 0xFF [t, 1])
      ∧ (∀ t y, t < 2 ^ 32 → checks 0x1100 7 4 t = 0 → s.pkg.session t = some y → y.grant = true → Leaves (.ownExpertRevoke id t) s fun k =>
          (∃ z, k.session t = some z ∧ z.grant = false) ∧ Reports k 0x0906 0xFF [t, 0])
      ∧ (∀ p t, p < 16 → t < 2 ^ 32 → checks (0x1110 + p) 1 4 t = 0 → s.pkg.ent (0x1110 + p) 1 ≠ t → Leaves (.ownDelegate id p t) s fun k =>
          k.ent (0x1110 + p) 1 = t ∧ Reports k 0x0905 p [s.pkg.ent (0x1110 + p) 1, t])
      ∧ (∀ v, v < 2 ^ 32 → checks 0x1130 8 4 v = 0 → s.pkg.mgmt.fresh = 0 → s.pkg.ent 0x1130 6 < 256 → Leaves (.mgmtAlertClear id v) s fun k => ∀ b, b < 8 →
          bit (k.ent 0x1130 6) b = (bit (s.pkg.ent 0x1130 6) b && (decide (b < 2) || !(bit v b))))
      ∧ (∀ q, s.pkg.fw.pending = q → q ≠ [] → (∀ c ∈ s.pkg.fw.commits, c.kind ≠ 2) → checks 0x1200 2 1 1 = 0 → Leaves (.persistCommit id 1) s fun k =>
          k.fw.commits = s.pkg.fw.commits ++ [{ kind := 2, bytes := 1048576, since := s.pkg.tempo.local_ }] ∧ SameEnts s.pkg k [])
      ∧ (checks 0x1200 5 1 1 = 0 → Leaves (.persistDefaults id 1) s fun k => k.fw.n0.defaults = true ∧ SameEnts s.pkg k [])
      ∧ (∀ i j b v p, p < 16 → s.pkg.mgmt.isOwner x = false → (∀ q, q < 16 → s.pkg.ent (0x1110 + q) 1 ≠ id) →
          ∀ c ∈ ([.dictEntryWrite id i j b, .persistCommit id v, .persistDefaults id v, .ownExpertGrant id v, .ownExpertRevoke id v, .ownDelegate id p v, .mgmtAlertClear id v,
            .powerCapWWrite id v, .tierFloorExtentsWrite id p v, .partitionPortWrite id v, .lenpelEnableWrite p ⟨id, v⟩, .atnikEnableWrite p ⟨id, v⟩, .fwUpdateSlot id v, .fwUpdateOffset id v, .fwUpdateChunk id b, .fwUpdateCommit id v,
            .secUnlock id b] : List Instr), Leaves c s fun k => k.dict = s.pkg.dict ∧ k.fw = s.pkg.fw ∧ k.parts = s.pkg.parts ∧ k.lports = s.pkg.lports
              ∧ k.net = s.pkg.net ∧ k.log = s.pkg.log))
  ∧ (∀ s : State, s.pkg.fw.off = 0 → s.pkg.dictUp = true →
      let g := s.pkg.mgmt
      let now := s.pkg.tempo.local_
      (∀ o, g.owner = some o → s.pkg.leaseEnd ≤ now → s.pkg.cycleWaits = false → Leaves .ownerLeaseExpired s fun k => k.mgmt.owner = none ∧ k.mgmt.ownerSession = 0 ∧ k.mgmt.sessions.length = g.sessions.length
          ∧ ∃ e ∈ k.log, e.code = 0x0904)
      ∧ (g.owner = none ∨ now < s.pkg.leaseEnd ∨ s.pkg.cycleWaits = true → exec .ownerLeaseExpired s = .next s)
      ∧ (∀ id x, s.pkg.session id = some x →
          (x.last + 60000000000 ≤ now → Leaves (.sessionTimeout id) s fun k => k.session id = none)
          ∧ (now < x.last + 60000000000 → exec (.sessionTimeout id) s = .next s)
          ∧ (∀ e, x.blob = some e → e.2.2 + 1000000000 ≤ now → Gives (.blobFragmentTimeout id) s (s.pkg.setSession id (fun y => { y with blob := none })))
          ∧ (∀ e, x.blob = some e → now < e.2.2 + 1000000000 → exec (.blobFragmentTimeout id) s = .next s)
          ∧ (∀ a b c per, x.sub = some (a, b, c, per) → per ≠ 0 → x.path = .ethernet →
              (now < x.teleAt + per * 1000000 → exec (.telemetry id) s = .next s)
              ∧ (x.teleAt + per * 1000000 ≤ now → Leaves (.telemetry id) s fun k => (∃ y, k.session id = some y ∧ y.teleAt = now) ∧ k.log = s.pkg.log ∧ k.dict = s.pkg.dict)))
      ∧ (s.pkg.fw.pending ≠ [] → s.pkg.fw.commits = [] → now < s.pkg.fw.pendingSince + 2000000000 → Gives .savedEntryCommit s
          { s.pkg with fw := { s.pkg.fw with commits := [{ kind := 2, bytes := 1048576, since := now }] } })
      ∧ (s.pkg.fw.pending = [] → exec .savedEntryCommit s = .next s)))
  ∧ (∀ s : State, s.pkg.fw.off = 0 →
    let c := s.pkg.mgmt.i3c
    let i3c (f : I3C) : Pkg := { s.pkg with mgmt := { s.pkg.mgmt with i3c := f } }
    let aux := s.pkg.fw.vaux = true
    let say (b : List Byte) : Pkg := s.pkg.emit (.i3c (if c.addr = 0 then none else some b))
    (∀ k v, k < 2 → (s.pkg.pci k).up = true →
      let b := s.pkg.mbox k
      (Gives (.mbStatusClear k v) s (s.pkg.setMbox k { b with done := b.done && !(bit v 0), badLen := b.badLen && !(bit v 1), dropped := b.dropped && !(bit v 2) }))
      ∧ (Gives (.evtPop k) s (s.pkg.setMbox k { b with events := b.events.drop 1 }))
      ∧ (∀ ctrl len req, b.go = false → bit ctrl 0 = true → (len % 2048 < 32 ∨ 1232 < len % 2048) → Leaves (.mbGo k ctrl len req) s fun t =>
          (t.mbox k).badLen = true ∧ (t.mbox k).go = false ∧ t.mgmt.reqs = s.pkg.mgmt.reqs)
      ∧ (∀ ctrl len req, b.go = false → bit ctrl 0 = true → 32 ≤ len % 2048 → len % 2048 ≤ 1232 → s.pkg.fw.dict = false → Leaves (.mbGo k ctrl len req) s fun t =>
          (t.mbox k).go = true ∧ (t.mbox k).reqLen = len % 2048 ∧ (t.mbox k).irqRsp = bit ctrl 1 ∧ (t.mbox k).irqEvt = bit ctrl 2))
    ∧ (s.pkg.fw.vaux = false → ∀ i ∈ ([.entdaa 9, .setdasa 0x58 9, .rstdaa, .enec 1, .disec 1, .rstact 1, .setmwl 70, .setmrl 70, .getmwl, .getmrl, .getbcr, .getdcr, .getpid, .getstatus,
        .i3cPrivateRead, .i3cPrivateWrite []] : List Instr), exec i s = .next s)
    ∧ (∀ a, aux → c.addr = 0 → Gives (.entdaa a) s (i3c { c with addr := a % 128 + 1 }) ∧ Gives (.setdasa (0x58 + s.pkg.net.slot) a) s (i3c { c with addr := a % 128 + 1 }))
    ∧ (∀ a st, st ≠ 0x58 + s.pkg.net.slot → exec (.setdasa st a) s = .next s)
    ∧ (aux → Gives .rstdaa s (i3c { c with addr := 0 }))
    ∧ (∀ v, aux → Gives (.enec v) s (i3c { c with ibi := c.ibi || bit v 0 }) ∧ Gives (.disec v) s (i3c { c with ibi := c.ibi && !(bit v 0) })
        ∧ Gives (.rstact v) s (i3c { c with rst := v % 256 })
        ∧ (64 ≤ v → v ≤ 1232 → Gives (.setmwl v) s (i3c { c with mwl := v }) ∧ Gives (.setmrl v) s (i3c { c with mrl := v })))
    ∧ (aux → Gives .getmwl s (say (natBe 2 c.mwl)) ∧ Gives .getmrl s (say (natBe 2 c.mrl ++ natBe 1 1)) ∧ Gives .getbcr s (say (natBe 1 0x06))
        ∧ Gives .getdcr s (say (natBe 1 0x00)) ∧ Gives .getpid s (say (natBe 6 (2 ^ 32 + Config.serialHash % 2 ^ 32))))
    ∧ (aux → Leaves .getstatus s fun k => k.mgmt = s.pkg.mgmt ∧ k.dict = s.pkg.dict ∧ (c.addr ≠ 0 → ∃ b : List Byte, b.length = 2 ∧ k.out = .i3c (some b) :: s.pkg.out))
    ∧ (aux → c.addr = 0 → Gives .i3cPrivateRead s (s.pkg.emit (.i3c none)))
    ∧ (∀ m, aux → c.addr ≠ 0 → s.pkg.fw.dict = true → c.rsp = some m → Gives .i3cPrivateRead s ((i3c { c with rsp := none }).emit (.i3c (some (m.take c.mrl)))))
    ∧ (∀ m q, aux → c.addr ≠ 0 → s.pkg.fw.dict = true → c.rsp = none → c.events = m :: q → Gives .i3cPrivateRead s ((i3c { c with events := q }).emit (.i3c (some (m.take c.mrl)))))
    ∧ (∀ m, c.addr = 0 ∨ s.pkg.fw.dict = false ∨ c.mwl < m.length → exec (.i3cPrivateWrite m) s = .next s)
    ∧ (∀ m, aux → c.addr ≠ 0 → s.pkg.fw.dict = true → m.length ≤ c.mwl → Gives (.i3cPrivateWrite m) s (papArrive s.pkg .i3c m))
    ∧ (∀ f mac src dst hop m, icmpOf f = some (mac, src, dst, hop, m) → s.pkg.portRuns = true →
        (byteAt m 0 = 128 → byteAt m 1 = 0 → s.pkg.ownAddr dst = true → Gives (.icmpv6Echo f) s
          (s.pkg.emit (.ethernet (icmpFrame mac dst src 64 (natBe 1 129 ++ natBe 3 0 ++ m.drop 4)))))
        ∧ (s.pkg.ownAddr dst = false → exec (.icmpv6Echo f) s = .next s)
        ∧ (byteAt m 0 = 135 → byteAt m 1 = 0 → hop = 255 → s.pkg.ownAddr (Sys2Proof.slice m 8 16) = true → src.all (· == 0) = false → Gives (.neighborDiscovery f) s
            (s.pkg.emit (.ethernet (icmpFrame mac (Sys2Proof.slice m 8 16) src 255 (natBe 1 136 ++ natBe 3 0 ++ natBe 4 0x60000000 ++ Sys2Proof.slice m 8 16 ++ natBe 1 2 ++ natBe 1 1
              ++ ownMac)))))
        ∧ (hop ≠ 255 → exec (.neighborDiscovery f) s = .next s)))

/-- The rows of chapter 17 (R509 to R528); the SPDM messages are of DSP0274 (log entry 31), their cryptography opaque (log entry 6). -/
def Obligations.FirmwareAndSecurity : Prop :=
  (∀ s : State, s.pkg.fw.off = 0 →
    let w := s.pkg.fw
    let now := s.pkg.tempo.local_
    let refused (k : Pkg) (kind cause : Nat) : Prop := k.ent 0x7020 4 = s.pkg.ent 0x7020 4 + 1 ∧ Reports k 0x0709 0xFF [kind, cause] ∧ k.fw = w ∧ k.parts = s.pkg.parts
    (∀ kind a b d, w.up = false → exec (.serviceRequest kind a b d) s = .next s)
    ∧ (∀ a b d, w.up = true →
        (16 ≤ a → Leaves (.serviceRequest 1 a b d) s fun k => refused k 1 1)
        ∧ (a < 16 → b = 1 → (s.pkg.part a).st ≠ .empty → Gives (.serviceRequest 1 a b d) s (s.pkg.releasePart a))
        ∧ (a < 16 → b = 0 → (s.pkg.part a).st = .empty → s.pkg.beginRefusal a = none → Gives (.serviceRequest 1 a b d) s (s.pkg.compose a none))
        ∧ (∀ c, a < 16 → b = 0 → (s.pkg.part a).st = .empty → s.pkg.beginRefusal a = some c → Leaves (.serviceRequest 1 a b d) s fun k => refused k 1 c)
        ∧ (w.byRequest = [] → w.pending = [] → exec (.serviceRequest 2 a b d) s = .next s)
        ∧ (w.byRequest = [] → w.pending ≠ [] → w.commits = [] → Leaves (.serviceRequest 2 a b d) s fun k =>
            k.fw.commits = [{ kind := 2, bytes := 1048576, since := now }] ∧ SameEnts s.pkg k [])
        ∧ (w.byRequest ≠ [] → Leaves (.serviceRequest 2 a b d) s fun k => refused k 2 1)
        ∧ (s.pkg.unlockCheck (padTo 256 d) ≠ 0 → Leaves (.serviceRequest 3 a b d) s fun k => k.ent 0x7020 4 = s.pkg.ent 0x7020 4 + 1
            ∧ Reports k 0x0709 0xFF [3, s.pkg.unlockCheck (padTo 256 d)] ∧ k.fw.fuses = w.fuses ∧ k.fw.nonce = w.draws + 1)
        ∧ (b ≤ 550 → Leaves (.serviceRequest 5 4 b d) s fun k => k.ent 0x6000 4 = b ∧ dkey 0x6000 4 ∈ k.fw.byRequest ∧ SameEnts s.pkg k [(0x6000, 4)])
        ∧ (550 < b → Leaves (.serviceRequest 5 4 b d) s fun k => refused k 5 1)
        ∧ (∀ kind, 5 < kind → Leaves (.serviceRequest kind a b d) s fun k => refused k kind 1))
    ∧ (w.up = true → Gives .serviceHeartbeatTimeout s { s.pkg with fw := { w with up := false, restart := now } })
    ∧ (w.up = false → exec .serviceHeartbeatTimeout s = .next s)
    ∧ (w.up = false → w.started = true → Leaves .serviceRestarted s fun k => k.fw.up = true ∧ k.mgmt.renewed = s.pkg.mgmt.renewed + (now - w.restart)
        ∧ k.mgmt.owner = s.pkg.mgmt.owner ∧ k.ent 0x7002 5 = s.pkg.ent 0x7002 5 + 1 ∧ Reports k 0x070A 0xFF [(now - w.restart) / 1000000] ∧ k.parts = s.pkg.parts ∧ k.tiles = s.pkg.tiles)
    ∧ (∀ mv ma, now < w.holdup.at_ + 1000000 → exec (.holdupEstimate mv ma) s = .next s)
    ∧ (∀ mv, ∀ ma : Int, w.holdup.at_ + 1000000 ≤ now → w.holdup.calibrated = false → ma.natAbs ≥ 10 → Leaves (.holdupEstimate mv ma) s fun k =>
        k.fw.holdup = { w.holdup with mv := mv, q := w.holdup.q + ma * 1000, ev := s.pkg.estV mv, eq := s.pkg.estQ (w.holdup.q + ma * 1000), full := none, at_ := now }
        ∧ k.fw.commits = w.commits)
    ∧ (∀ c, w.commits = [c] → c.started = false → c.told = false → c.since + 100000000 < now → Leaves .holdupDeferred s fun k => k.fw.commits = [{ c with told := true }]
        ∧ k.ent 0x7010 7 = s.pkg.ent 0x7010 7 + 1 ∧ ∃ l, Reports k 0x0707 0xFF (c.kind :: l))
    ∧ (w.commits = [] → exec .holdupDeferred s = .next s))
  ∧ (∀ (s : State) (id : Nat) (x : Session), s.pkg.fw.off = 0 → s.pkg.dictUp = true → s.pkg.fw.st ≠ 2 → s.pkg.session id = some x → x.mutual_ = true → x.path = .ethernet →
      let w := s.pkg.fw
      let checks (i j n v : Nat) : Nat := s.pkg.writeCheck s.pkg x i j n v
      (∀ v, v < 256 → checks 0x7002 1 1 v = 0 → Leaves (.fwUpdateSlot id v) s fun k => k.ent 0x7002 1 = v ∧ k.fw.update = [] ∧ k.fw.slot = w.slot ∧ k.fw.commits = w.commits)
      ∧ (∀ v, v < 2 ^ 32 → checks 0x7002 2 4 v = 0 → Leaves (.fwUpdateOffset id v) s fun k => k.ent 0x7002 2 = v ∧ (v = 0 → k.fw.update = []) ∧ (v ≠ 0 → k.fw.update = w.update))
      ∧ (∀ d, d.length = 4096 → checks 0x7002 3 4096 (leNat d) = 0 → Leaves (.fwUpdateChunk id d) s fun k => k.ent 0x7002 2 = s.pkg.updOff + 4096
          ∧ k.fw.update = splice w.update s.pkg.updOff d ∧ k.fw.slot = w.slot
          ∧ (s.pkg.updSlot = 2 → k.fw.commits = w.commits)
          ∧ (s.pkg.updSlot < 2 → k.fw.commits = w.commits ++ [{ kind := 5 + s.pkg.updSlot, bytes := 4096, key := s.pkg.updOff, data := d, since := s.pkg.tempo.local_ }]))
      ∧ (checks 0x7002 4 1 1 = 0 → Leaves (.fwUpdateCommit id 1) s fun k => k.fw.slot = w.slot
          ∧ (s.pkg.slotCheck s.pkg.updSlot w.update ≠ 0 → k.fw.commits = w.commits ∧ Reports k 0x0705 0xFF [s.pkg.updSlot, s.pkg.slotCheck s.pkg.updSlot w.update])
          ∧ (s.pkg.slotCheck s.pkg.updSlot w.update = 0 → k.fw.commits.length = w.commits.length + 1 ∧ Reports k 0x0704 0xFF [s.pkg.updSlot, fld w.update 16 4]))
      ∧ (∀ r, r.length = 256 → checks 0x7020 1 256 (leNat r) = 0 → Leaves (.secUnlock id r) s fun k => k.fw.nonce = w.draws + 1 ∧ k.fw.draws = w.draws + 1
          ∧ (s.pkg.unlockCheck r ≠ 0 → k.fw.fuses = w.fuses ∧ k.fw.commits = w.commits ∧ Reports k 0x070C 0xFF [s.pkg.unlockCheck r])
          ∧ (s.pkg.unlockCheck r = 0 → Reports k 0x070B 0xFF [dkey (fld r 0 2) (byteAt r 2)])))
  ∧ ∀ s : State, s.pkg.fw.off = 0 →
      (∀ ch, ch < 3 → s.pkg.channelUp ch = true →
        let c := s.pkg.spdmChan ch
        let shown (m : List Byte) : Out := .spdm ch (if ch = 0 then natBe 2 1 ++ natBe 2 m.length ++ m else m)
        (∀ off len, (s.pkg.chain.length ≤ off → Gives (.getCertificate ch 0 off len) s (s.pkg.spdmSay ch (spdmError 1)))
          ∧ (off < s.pkg.chain.length →
              let m := spdmMsg 0x02 0 0 (natLe 2 (Sys2Proof.slice s.pkg.chain off len).length ++ natLe 2 (s.pkg.chain.length - off - (Sys2Proof.slice s.pkg.chain off len).length)
                ++ Sys2Proof.slice s.pkg.chain off len)
              Gives (.getCertificate ch 0 off len) s ((s.pkg.setSpdm ch { certs := c.certs ++ spdmMsg 0x82 0 0 (natLe 2 off ++ natLe 2 len) ++ m }).spdmSay ch m)))
        ∧ (∀ slot off len n, slot ≠ 0 → Gives (.getCertificate ch slot off len) s (s.pkg.spdmSay ch (spdmError 1)) ∧ Gives (.challenge ch slot n) s (s.pkg.spdmSay ch (spdmError 1)))
        ∧ (∀ n, Leaves (.challenge ch 0 n) s fun k => k.fw.draws = s.pkg.fw.draws + 1 ∧ k.mgmt = s.pkg.mgmt ∧ k.spdmChan ch = {}
            ∧ ∃ m, k.out = shown (m ++ s.pkg.signature "responder-challenge_auth signing" (Config.spdmVca ch ++ c.certs ++ spdmMsg 0x83 0 0 (padTo 32 n ++ contextOf n) ++ m)) :: s.pkg.out
              ∧ byteAt m 0 = 0x13 ∧ byteAt m 1 = 0x03 ∧ byteAt m 3 = 1)
        ∧ (∀ i n sg, 4 < i → i ≠ 0xFF → Gives (.getMeasurements ch i sg n) s (s.pkg.spdmSay ch (spdmError 1)))
        ∧ (∀ i n, 1 ≤ i → i ≤ 4 → Leaves (.getMeasurements ch i false n) s fun k => k.fw.meas = s.pkg.fw.meas
            ∧ ∃ m, k.out = shown m :: s.pkg.out ∧ (∃ q, (k.spdmChan ch).meas = c.meas ++ q ++ m) ∧ byteAt m 1 = 0x60 ∧ byteAt m 4 = 1 ∧ fld m 5 3 = 55 ∧ byteAt m 8 = i
              ∧ Sys2Proof.slice m 15 48 = padTo 48 (Tab.get [] s.pkg.fw.meas (i - 1)))
        ∧ (∀ sid leaf ca d, sid ≠ 0 → s.pkg.session sid = none → s.pkg.roomFor (pathOf ch) = true → (∀ j ∈ [1, 2, 3, 4], s.pkg.ent 0x7021 j = 0) →
            Leaves (.keyExchange ch sid leaf ca true d) s fun k => ∃ x, k.mgmt.sessions = s.pkg.mgmt.sessions ++ [x] ∧ x.id = sid ∧ x.path = pathOf ch
              ∧ x.principal = padTo 48 leaf ∧ x.mutual_ = true ∧ x.grant = false ∧ x.high = 0
              ∧ x.keyReq = padTo 48 (Config.hkdf d.secret (ascii "serlys pap req") 48) ∧ x.keyRsp = padTo 48 (Config.hkdf d.secret (ascii "serlys pap rsp") 48))
        ∧ (∀ sid leaf ca m d, s.pkg.session sid ≠ none ∨ sid = 0 → exec (.keyExchange ch sid leaf ca m d) s = .next s)
        ∧ (∀ sid leaf ca d, sid ≠ 0 → s.pkg.session sid = none → s.pkg.roomFor (pathOf ch) = false → Gives (.keyExchange ch sid leaf ca false d) s (s.pkg.spdmSay ch (spdmError 3))))
      ∧ (∀ sid x, s.pkg.session sid = some x → x.path ≠ .i3c → s.pkg.channelUp x.path.channel = true →
          Gives (.keyUpdate sid) s ((s.pkg.setSession sid (fun y => { y.newKeys with last := s.pkg.tempo.local_ })).spdmSecured { x.newKeys with last := s.pkg.tempo.local_ } (spdmMsg 0x69 2 0 []))
          ∧ Gives (.heartbeat sid) s ((s.pkg.setSession sid (fun y => { y with last := s.pkg.tempo.local_ })).spdmSecured { x with last := s.pkg.tempo.local_ } (spdmMsg 0x68 0 0 []))
          ∧ (x.newKeys.keyReq = x.keyReq ∧ x.newKeys.keyRsp = x.keyRsp ∧ x.newKeys.secured = 0 ∧ x.newKeys.principal = x.principal)
          ∧ Leaves (.endSession sid) s fun k => k.session sid = none ∧ ∀ p, p < 16 → k.ent (0x1110 + p) 1 ≠ sid ∨ sid = 0)
end

