-- ==== Sys2Proof/Laws/Exec.lean ====
section
/-!
SUPPORT. What exec is at each command: the change of the package it makes, and the unit it names.
-/

namespace Sys2Proof.Machine

open Sys2Proof Sys2Proof.Rv

theorem exec_coldStart (o : ColdObs) (s : State) : exec (.coldStart o) s = actAny true s (fun k => coldStart k o) := rfl
theorem exec_bootEpochTimeout (s : State) : exec .bootEpochTimeout s = .next (if s.pkg.fw.off = 0 && s.pkg.epochLate then coldFinish { s with pkg := s.pkg.randomEpoch } else s) := rfl
theorem exec_cdcFifoRelease (s : State) : exec .cdcFifoRelease s = act true s cdcRelease := rfl
theorem exec_resetNAssert (ns : Nat) (s : State) : exec (.resetNAssert ns) s = actAny true s (fun k => resetAssert k ns) := rfl
theorem exec_vauxFail (s : State) : exec .vauxFail s = actAny true s vauxFail := rfl
theorem exec_refclkLoss (ns : Nat) (s : State) : exec (.refclkLoss ns) s = act true s (fun k => refclkLoss k ns) := rfl
theorem exec_rootAnnounceTimer (s : State) : exec .rootAnnounceTimer s = act true s announceTimer := rfl
theorem exec_rootAnnounce (n : Nat) (s : State) : exec (.rootAnnounce n) s = act (decide (n < aportMax)) s (fun k => rootAnnounce k n) := rfl
theorem exec_rootTakeover (s : State) : exec .rootTakeover s = act true s rootTakeover := rfl
theorem exec_standaloneRoot (s : State) : exec .standaloneRoot s = act true s standaloneRoot := rfl
theorem exec_syncExchangeTimer (s : State) : exec .syncExchangeTimer s = act true s syncTimer := rfl
theorem exec_syncReq (n : Nat) (s : State) : exec (.syncReq n) s = act (decide (n < aportMax)) s (fun k => syncReq k n) := rfl
theorem exec_syncRsp (n : Nat) (rFwd : Int) (s : State) : exec (.syncRsp n rFwd) s = act (decide (n < aportMax)) s (fun k => syncRsp k n rFwd) := rfl
theorem exec_tempoHoldover (s : State) : exec .tempoHoldover s = act true s tempoHoldover := rfl
theorem exec_tempoDegraded (s : State) : exec .tempoDegraded s = act true s tempoDegraded := rfl
theorem exec_ptpSync (x : PtpExchange) (s : State) : exec (.ptpSync x) s = act true s (fun k => ptpSync k x) := rfl
theorem exec_ptpUnsynced (s : State) : exec .ptpUnsynced s = act true s ptpUnsynced := rfl
theorem exec_tickFire (p : Nat) (s : State) : exec (.tickFire p) s = act (decide (p < partMax)) s (fun k => tickFire k p) := rfl
theorem exec_recordRingRoom (p : Nat) (off : Nat) (data : List Byte) (s : State) : exec (.recordRingRoom p off data) s = act (decide (p < partMax)) s (fun k => ringRoom k p off data) := rfl
theorem exec_frameStart (p : Nat) (s : State) : exec (.frameStart p) s = act (decide (p < partMax)) s (fun k => frameStart k p) := rfl
theorem exec_tickReport (p : Nat) (idx : Nat) (s : State) : exec (.tickReport p idx) s = act (decide (p < partMax)) s (fun k => tickReport k p idx) := rfl
theorem exec_tickReportStalled (p : Nat) (s : State) : exec (.tickReportStalled p) s = act (decide (p < partMax)) s (fun k => reportStalled k p) := rfl
theorem exec_launchReportStalled (p : Nat) (s : State) : exec (.launchReportStalled p) s = act (decide (p < partMax)) s (fun k => launchStalled k p) := rfl
theorem exec_rampSlot (t : Nat) (s : State) : exec (.rampSlot t) s = act (decide (t < tileMax)) s (fun k => rampSlot k t) := rfl
theorem exec_tileInstruction (t : Nat) (s : State) : exec (.tileInstruction t) s = act (decide (t < tileMax)) s (fun k => tileInstr k t) := rfl
theorem exec_tileCsrAccess (t : Nat) (s : State) : exec (.tileCsrAccess t) s = act (decide (t < tileMax)) s (fun k => tileCsr k t) := rfl
theorem exec_fence (t : Nat) (s : State) : exec (.fence t) s = act (decide (t < tileMax)) s (fun k => tileNop k t (fun w => decide (opc w = 0x0F) && decide (f3 w = 0))) := rfl
theorem exec_wfi (t : Nat) (s : State) : exec (.wfi t) s = act (decide (t < tileMax)) s (fun k => tileNop k t (fun w => decide (w = 0x10500073))) := rfl
theorem exec_fenceI (t : Nat) (s : State) : exec (.fenceI t) s = act (decide (t < tileMax)) s (fun k => tileRaise k t (fun w => decide (opc w = 0x0F) && decide (f3 w = 1)) 2 (fun raw => BitVec.ofNat 64 raw)) := rfl
theorem exec_ecall (t : Nat) (s : State) : exec (.ecall t) s = act (decide (t < tileMax)) s (fun k => tileRaise k t (fun w => decide (w = 0x73)) 11 (fun _ => 0)) := rfl
theorem exec_ebreak (t : Nat) (s : State) : exec (.ebreak t) s = act (decide (t < tileMax)) s (fun k => tileRaise k t (fun w => decide (w = 0x100073)) 3 (fun _ => (k.tile t).core.pc)) := rfl
theorem exec_mret (t : Nat) (s : State) : exec (.mret t) s = act (decide (t < tileMax)) s (fun k => tileMret k t) := rfl
theorem exec_speculationRegionOpen (t : Nat) (s : State) : exec (.speculationRegionOpen t) s = act (decide (t < tileMax)) s (fun k => regionOpen k t) := rfl
theorem exec_branchResolve (t : Nat) (s : State) : exec (.branchResolve t) s = act (decide (t < tileMax)) s (fun k => branchResolve k t) := rfl
theorem exec_moveDstoreToLocal (t : Nat) (s : State) : exec (.moveDstoreToLocal t) s = act (decide (t < tileMax)) s (fun k => moveIssue k t 1) := rfl
theorem exec_moveLocalToDstore (t : Nat) (s : State) : exec (.moveLocalToDstore t) s = act (decide (t < tileMax)) s (fun k => moveIssue k t 2) := rfl
theorem exec_moveAccumulateInto (t : Nat) (s : State) : exec (.moveAccumulateInto t) s = act (decide (t < tileMax)) s (fun k => moveIssue k t 3) := rfl
theorem exec_moveTierToDstore (t : Nat) (s : State) : exec (.moveTierToDstore t) s = act (decide (t < tileMax)) s (fun k => moveTier k t) := rfl
theorem exec_moveLocalToRemote (t : Nat) (s : State) : exec (.moveLocalToRemote t) s = act (decide (t < tileMax)) s (fun k => moveIssue k t 7) := rfl
theorem exec_moveRemoteToLocal (t : Nat) (s : State) : exec (.moveRemoteToLocal t) s = act (decide (t < tileMax)) s (fun k => moveIssue k t 8) := rfl
theorem exec_moveLocalToLocal (t : Nat) (s : State) : exec (.moveLocalToLocal t) s = act (decide (t < tileMax)) s (fun k => moveIssue k t 9) := rfl
theorem exec_engineOpComplete (t : Nat) (ticket : Nat) (s : State) : exec (.engineOpComplete t ticket) s = act (decide (t < tileMax)) s (fun k => engineComplete k t ticket (mxpbComplete k t)) := rfl
theorem exec_vadd (t : Nat) (s : State) : exec (.vadd t) s = act (decide (t < tileMax)) s (fun k => vopIssue k t 0x01) := rfl
theorem exec_vsub (t : Nat) (s : State) : exec (.vsub t) s = act (decide (t < tileMax)) s (fun k => vopIssue k t 0x02) := rfl
theorem exec_vmul (t : Nat) (s : State) : exec (.vmul t) s = act (decide (t < tileMax)) s (fun k => vopIssue k t 0x03) := rfl
theorem exec_vfma (t : Nat) (s : State) : exec (.vfma t) s = act (decide (t < tileMax)) s (fun k => vopIssue k t 0x04) := rfl
theorem exec_vfnma (t : Nat) (s : State) : exec (.vfnma t) s = act (decide (t < tileMax)) s (fun k => vopIssue k t 0x05) := rfl
theorem exec_vmin (t : Nat) (s : State) : exec (.vmin t) s = act (decide (t < tileMax)) s (fun k => vopIssue k t 0x06) := rfl
theorem exec_vmax (t : Nat) (s : State) : exec (.vmax t) s = act (decide (t < tileMax)) s (fun k => vopIssue k t 0x07) := rfl
theorem exec_vabs (t : Nat) (s : State) : exec (.vabs t) s = act (decide (t < tileMax)) s (fun k => vopIssue k t 0x08) := rfl
theorem exec_vneg (t : Nat) (s : State) : exec (.vneg t) s = act (decide (t < tileMax)) s (fun k => vopIssue k t 0x09) := rfl
theorem exec_vsqrt (t : Nat) (s : State) : exec (.vsqrt t) s = act (decide (t < tileMax)) s (fun k => vopIssue k t 0x0A) := rfl
theorem exec_vrecip (t : Nat) (s : State) : exec (.vrecip t) s = act (decide (t < tileMax)) s (fun k => vopIssue k t 0x0B) := rfl
theorem exec_vrsqrt (t : Nat) (s : State) : exec (.vrsqrt t) s = act (decide (t < tileMax)) s (fun k => vopIssue k t 0x0C) := rfl
theorem exec_vexp (t : Nat) (s : State) : exec (.vexp t) s = act (decide (t < tileMax)) s (fun k => vopIssue k t 0x0D) := rfl
theorem exec_vtanh (t : Nat) (s : State) : exec (.vtanh t) s = act (decide (t < tileMax)) s (fun k => vopIssue k t 0x0E) := rfl
theorem exec_vsegsum (t : Nat) (s : State) : exec (.vsegsum t) s = act (decide (t < tileMax)) s (fun k => vopIssue k t 0x10) := rfl
theorem exec_vsegmax (t : Nat) (s : State) : exec (.vsegmax t) s = act (decide (t < tileMax)) s (fun k => vopIssue k t 0x11) := rfl
theorem exec_vcvt (t : Nat) (s : State) : exec (.vcvt t) s = act (decide (t < tileMax)) s (fun k => vopIssue k t 0x18) := rfl
theorem exec_vfill (t : Nat) (s : State) : exec (.vfill t) s = act (decide (t < tileMax)) s (fun k => vopIssue k t 0x19) := rfl
theorem exec_vscan (t : Nat) (s : State) : exec (.vscan t) s = act (decide (t < tileMax)) s (fun k => vopIssue k t 0x1A) := rfl
theorem exec_vectorOpComplete (t : Nat) (s : State) : exec (.vectorOpComplete t) s = act (decide (t < tileMax)) s (fun k => vectorComplete k t) := rfl
theorem exec_ykMxpb (t : Nat) (s : State) : exec (.ykMxpb t) s = act (decide (t < tileMax)) s (fun k => mxpbIssue k t) := rfl
theorem exec_ykMxrun (t : Nat) (s : State) : exec (.ykMxrun t) s = act (decide (t < tileMax)) s (fun k => mxrunIssue k t) := rfl
theorem exec_matrixRunStart (t : Nat) (s : State) : exec (.matrixRunStart t) s = act (decide (t < tileMax)) s (fun k => runStart k t) := rfl
theorem exec_mNop (t : Nat) (s : State) : exec (.mNop t) s = act (decide (t < tileMax)) s (fun k => microFlow k t 0) := rfl
theorem exec_mSetr (t : Nat) (s : State) : exec (.mSetr t) s = act (decide (t < tileMax)) s (fun k => microFlow k t 1) := rfl
theorem exec_mAddr (t : Nat) (s : State) : exec (.mAddr t) s = act (decide (t < tileMax)) s (fun k => microFlow k t 2) := rfl
theorem exec_mZacc (t : Nat) (s : State) : exec (.mZacc t) s = act (decide (t < tileMax)) s (fun k => microZacc k t) := rfl
theorem exec_mLdacc (t : Nat) (s : State) : exec (.mLdacc t) s = act (decide (t < tileMax)) s (fun k => microLdacc k t) := rfl
theorem exec_mMma (t : Nat) (s : State) : exec (.mMma t) s = act (decide (t < tileMax)) s (fun k => microMma k t) := rfl
theorem exec_mMmaComplete (t : Nat) (s : State) : exec (.mMmaComplete t) s = act (decide (t < tileMax)) s (fun k => mmaComplete k t) := rfl
theorem exec_mStacc (t : Nat) (s : State) : exec (.mStacc t) s = act (decide (t < tileMax)) s (fun k => microStacc k t) := rfl
theorem exec_mLoop (t : Nat) (s : State) : exec (.mLoop t) s = act (decide (t < tileMax)) s (fun k => microFlow k t 7) := rfl
theorem exec_mEnd (t : Nat) (s : State) : exec (.mEnd t) s = act (decide (t < tileMax)) s (fun k => microEnd k t) := rfl
theorem exec_matrixRunComplete (t : Nat) (s : State) : exec (.matrixRunComplete t) s = act (decide (t < tileMax)) s (fun k => runComplete k t) := rfl
theorem exec_ykMxswap (t : Nat) (s : State) : exec (.ykMxswap t) s = act (decide (t < tileMax)) s (fun k => mxswapIssue k t) := rfl
theorem exec_bankSwap (t : Nat) (s : State) : exec (.bankSwap t) s = act (decide (t < tileMax)) s (fun k => bankSwap k t) := rfl
theorem exec_ykSolve (t : Nat) (s : State) : exec (.ykSolve t) s = act (decide (t < tileMax)) s (fun k => solveIssue k t) := rfl
theorem exec_ykColl (t : Nat) (s : State) : exec (.ykColl t) s = act (decide (t < tileMax)) s (fun k => collIssue k t) := rfl
theorem exec_ykEload (t : Nat) (s : State) : exec (.ykEload t) s = act (decide (t < tileMax)) s (fun k => eloadIssue k t) := rfl
theorem exec_ykWait (t : Nat) (s : State) : exec (.ykWait t) s = act (decide (t < tileMax)) s (fun k => waitIssue k t) := rfl
theorem exec_ykWaitall (t : Nat) (s : State) : exec (.ykWaitall t) s = act (decide (t < tileMax)) s (fun k => waitallIssue k t) := rfl
theorem exec_ykPly (t : Nat) (s : State) : exec (.ykPly t) s = act (decide (t < tileMax)) s (fun k => plyMark k t) := rfl
theorem exec_ykFend (t : Nat) (s : State) : exec (.ykFend t) s = act (decide (t < tileMax)) s (fun k => frameEnd k t) := rfl
theorem exec_ykRelw (t : Nat) (s : State) : exec (.ykRelw t) s = act (decide (t < tileMax)) s (fun k => relwIssue k t) := rfl
theorem exec_ykWaitw (t : Nat) (s : State) : exec (.ykWaitw t) s = act (decide (t < tileMax)) s (fun k => waitwIssue k t) := rfl
theorem exec_waitwWake (t : Nat) (s : State) : exec (.waitwWake t) s = act (decide (t < tileMax)) s (fun k => waitwWake k t) := rfl
theorem exec_waitwTimeout (t : Nat) (s : State) : exec (.waitwTimeout t) s = act (decide (t < tileMax)) s (fun k => waitwTimeout k t) := rfl
theorem exec_plyCommit (t : Nat) (s : State) : exec (.plyCommit t) s = act (decide (t < tileMax)) s (fun k => plyCommit k t) := rfl
theorem exec_plyWatchdog (t : Nat) (s : State) : exec (.plyWatchdog t) s = act (decide (t < tileMax)) s (fun k => plyWatchdog k t) := rfl
theorem exec_replay (t : Nat) (s : State) : exec (.replay t) s = act (decide (t < tileMax)) s (fun k => replay k t) := rfl
theorem exec_ocacheScrub (t : Nat) (line : Nat) (meets : Bool) (s : State) : exec (.ocacheScrub t line meets) s = act (decide (t < tileMax)) s (fun k => ocacheScrub k t line meets) := rfl
theorem exec_ocacheUncorrectable (t : Nat) (s : State) : exec (.ocacheUncorrectable t) s = act (decide (t < tileMax)) s (fun k => ocacheUncorrectable k t) := rfl
theorem exec_solverBatchStart (e : Nat) (s : State) : exec (.solverBatchStart e) s = act (decide (e < engineMax)) s (fun k => batchStart k e) := rfl
theorem exec_solverProblemStart (e : Nat) (s : State) : exec (.solverProblemStart e) s = act (decide (e < engineMax)) s (fun k => problemStart k e) := rfl
theorem exec_solverProblemComplete (e : SolverEnd) (s : State) : exec (.solverProblemComplete e) s = act (decide (e.engine < engineMax)) s (fun k => problemComplete k e.engine e.place e.corrected) := rfl
theorem exec_solverBatchComplete (e : Nat) (s : State) : exec (.solverBatchComplete e) s = act (decide (e < engineMax)) s (fun k => batchComplete k e) := rfl
theorem exec_solverStepRepeat (e : SolverAt) (lane : Nat) (s : State) : exec (.solverStepRepeat e lane) s = act (decide (e.engine < engineMax)) s (fun k => stepRepeat k e.engine e.place lane) := rfl
theorem exec_solverProblemRestart (e : SolverAt) (s : State) : exec (.solverProblemRestart e) s = act (decide (e.engine < engineMax)) s (fun k => problemRestart k e.engine e.place) := rfl
theorem exec_solverEngineRemap (e : Nat) (s : State) : exec (.solverEngineRemap e) s = act (decide (e < engineMax)) s (fun k => engineRemap k e) := rfl
theorem exec_hartInstruction (h : Nat) (s : State) : exec (.hartInstruction h) s = act (decide (h < hartMax)) s (fun k => hartInstruction k h) := rfl
theorem exec_threadSwitch (c : Nat) (s : State) : exec (.threadSwitch c) s = act (decide (c < coreMax)) s (fun k => threadSwitch k c) := rfl
theorem exec_hartAccessComplete (h : Nat) (s : State) : exec (.hartAccessComplete h) s = act (decide (h < hartMax)) s (fun k => accessComplete k h) := rfl
theorem exec_ykvSaduVv (h : Nat) (s : State) : exec (.ykvSaduVv h) s = act (decide (h < hartMax)) s (fun k => sad k h 0 false) := rfl
theorem exec_ykvSadsVv (h : Nat) (s : State) : exec (.ykvSadsVv h) s = act (decide (h < hartMax)) s (fun k => sad k h 1 false) := rfl
theorem exec_ykvSaduVx (h : Nat) (s : State) : exec (.ykvSaduVx h) s = act (decide (h < hartMax)) s (fun k => sad k h 0 true) := rfl
theorem exec_ykvSadsVx (h : Nat) (s : State) : exec (.ykvSadsVx h) s = act (decide (h < hartMax)) s (fun k => sad k h 1 true) := rfl
theorem exec_ykvSumm (h : Nat) (s : State) : exec (.ykvSumm h) s = act (decide (h < hartMax)) s (fun k => ykvSumm k h) := rfl
theorem exec_ykvSumh (h : Nat) (s : State) : exec (.ykvSumh h) s = act (decide (h < hartMax)) s (fun k => ykvSumh k h) := rfl
theorem exec_ykHply (h : Nat) (s : State) : exec (.ykHply h) s = act (decide (h < hartMax)) s (fun k => ykHply k h) := rfl
theorem exec_hartPlyCap (h : Nat) (s : State) : exec (.hartPlyCap h) s = act (decide (h < hartMax)) s (fun k => hartPlyCap k h) := rfl
theorem exec_hartPlyCommit (h : Nat) (s : State) : exec (.hartPlyCommit h) s = act (decide (h < hartMax)) s (fun k => hartPlyCommit k h) := rfl
theorem exec_amoadd (h : Nat) (s : State) : exec (.amoadd h) s = act (decide (h < hartMax)) s (fun k => amo k h 0 0) := rfl
theorem exec_amoand (h : Nat) (s : State) : exec (.amoand h) s = act (decide (h < hartMax)) s (fun k => amo k h 1 0) := rfl
theorem exec_amoor (h : Nat) (s : State) : exec (.amoor h) s = act (decide (h < hartMax)) s (fun k => amo k h 2 0) := rfl
theorem exec_amoxor (h : Nat) (s : State) : exec (.amoxor h) s = act (decide (h < hartMax)) s (fun k => amo k h 3 0) := rfl
theorem exec_amomin (h : Nat) (s : State) : exec (.amomin h) s = act (decide (h < hartMax)) s (fun k => amo k h 4 0) := rfl
theorem exec_amomax (h : Nat) (s : State) : exec (.amomax h) s = act (decide (h < hartMax)) s (fun k => amo k h 5 0) := rfl
theorem exec_amominu (h : Nat) (s : State) : exec (.amominu h) s = act (decide (h < hartMax)) s (fun k => amo k h 6 0) := rfl
theorem exec_amomaxu (h : Nat) (s : State) : exec (.amomaxu h) s = act (decide (h < hartMax)) s (fun k => amo k h 7 0) := rfl
theorem exec_amoswap (h : Nat) (s : State) : exec (.amoswap h) s = act (decide (h < hartMax)) s (fun k => amo k h 8 0) := rfl
theorem exec_amocasW (h : Nat) (s : State) : exec (.amocasW h) s = act (decide (h < hartMax)) s (fun k => amo k h 9 2) := rfl
theorem exec_amocasD (h : Nat) (s : State) : exec (.amocasD h) s = act (decide (h < hartMax)) s (fun k => amo k h 9 3) := rfl
theorem exec_amocasQ (h : Nat) (s : State) : exec (.amocasQ h) s = act (decide (h < hartMax)) s (fun k => amo k h 9 4) := rfl
theorem exec_lr (h : Nat) (s : State) : exec (.lr h) s = act (decide (h < hartMax)) s (fun k => lrRow k h) := rfl
theorem exec_sc (h : Nat) (s : State) : exec (.sc h) s = act (decide (h < hartMax)) s (fun k => scRow k h) := rfl
theorem exec_lrReservationTimeout (h : Nat) (s : State) : exec (.lrReservationTimeout h) s = act (decide (h < hartMax)) s (fun k => lrTimeout k h) := rfl
theorem exec_hartTimerInterrupt (h : Nat) (s : State) : exec (.hartTimerInterrupt h) s = act (decide (h < hartMax)) s (fun k => hartTimer k h) := rfl
theorem exec_scacheInvalidation (line : Nat) (s : State) : exec (.scacheInvalidation line) s = act true s (fun k => (k.invalidated line).collFlagAll) := rfl
theorem exec_scacheEccError (slice : Nat) (set : Nat) (way : Nat) (kind : Nat) (s : State) : exec (.scacheEccError slice set way kind) s = act (decide (slice < 64) && decide (set < 16384) && decide (way < 16) && decide (kind < 3)) s (fun k => scacheError k slice set way kind) := rfl
theorem exec_coreFailure (c : Nat) (s : State) : exec (.coreFailure c) s = act (decide (c < coreMax)) s (fun k => coreFailure k c) := rfl
theorem exec_sbiBase (h : Nat) (s : State) : exec (.sbiBase h) s = act (decide (h < hartMax)) s (fun k => sbiBase k h) := rfl
theorem exec_sbiSetTimer (h : Nat) (s : State) : exec (.sbiSetTimer h) s = act (decide (h < hartMax)) s (fun k => sbiSetTimer k h) := rfl
theorem exec_sbiSendIpi (h : Nat) (s : State) : exec (.sbiSendIpi h) s = act (decide (h < hartMax)) s (fun k => sbiSendIpi k h) := rfl
theorem exec_sbiRemoteFence (h : Nat) (s : State) : exec (.sbiRemoteFence h) s = act (decide (h < hartMax)) s (fun k => sbiRemoteFence k h) := rfl
theorem exec_sbiHartGetStatus (h : Nat) (s : State) : exec (.sbiHartGetStatus h) s = act (decide (h < hartMax)) s (fun k => sbiGetStatus k h) := rfl
theorem exec_sbiHartSuspend (h : Nat) (s : State) : exec (.sbiHartSuspend h) s = act (decide (h < hartMax)) s (fun k => sbiSuspend k h) := rfl
theorem exec_sbiHartStartStop (h : Nat) (s : State) : exec (.sbiHartStartStop h) s = act (decide (h < hartMax)) s (fun k => sbiStartStop k h) := rfl
theorem exec_sbiSystemReset (h : Nat) (s : State) : exec (.sbiSystemReset h) s = act (decide (h < hartMax)) s (fun k => sbiReset k h) := rfl
theorem exec_sbiFabricError (h : Nat) (s : State) : exec (.sbiFabricError h) s = act (decide (h < hartMax)) s (fun k => sbiFabric k h) := rfl
theorem exec_sbiMemberRank (h : Nat) (s : State) : exec (.sbiMemberRank h) s = act (decide (h < hartMax)) s (fun k => sbiRank k h) := rfl
theorem exec_sbiHartIndex (h : Nat) (s : State) : exec (.sbiHartIndex h) s = act (decide (h < hartMax)) s (fun k => sbiIndex k h) := rfl
theorem exec_dstoreWriteApply (die : Nat) (n : Nat) (s : State) : exec (.dstoreWriteApply die n) s = act (decide (die < sdieMax)) s (fun k => k.dieApply die n) := rfl
theorem exec_dstorePatrolScrub (die : Nat) (found : ScrubFound) (s : State) : exec (.dstorePatrolScrub die found) s = act (decide (die < sdieMax) && decide (found.line.getD 0 < 20971520)) s (fun k => patrolScrub k die found) := rfl
theorem exec_dstoreBankFail (die : Nat) (bank : Nat) (s : State) : exec (.dstoreBankFail die bank) s = act (decide (die < sdieMax) && decide (bank < 256)) s (fun k => k.bankFail die bank) := rfl
theorem exec_dstoreBankRebuildDone (die : Nat) (bank : Nat) (s : State) : exec (.dstoreBankRebuildDone die bank) s = act (decide (die < sdieMax) && decide (bank < 256)) s (fun k => bankRebuilt k die bank) := rfl
theorem exec_dstoreClearDone (die : Nat) (s : State) : exec (.dstoreClearDone die) s = act (decide (die < dieMax)) s (fun x => clearDone x die) := rfl
theorem exec_regionCloseDone (r : Nat) (s : State) : exec (.regionCloseDone r) s = act (decide (r < 1024)) s (fun k => regionCloseDone k r) := rfl
theorem exec_tierPacketLanded (job : Nat) (s : State) : exec (.tierPacketLanded job) s = act true s (fun k => packetLanded k job) := rfl
theorem exec_hartTierLoad (h : Nat) (s : State) : exec (.hartTierLoad h) s = act (decide (h < hartMax)) s (fun k => hartTierLoad k h) := rfl
theorem exec_lenpelRebuildDone (q : Nat) (s : State) : exec (.lenpelRebuildDone q) s = act (decide (q < lportMax)) s (fun k => rebuildDone k q) := rfl
theorem exec_lenpelPresenceAssert (q : Nat) (s : State) : exec (.lenpelPresenceAssert q) s = onPresence q true s (fun k => presenceAssert k q) := rfl
theorem exec_lenpelDetectTimer (q : Nat) (s : State) : exec (.lenpelDetectTimer q) s = act (decide (q < lportMax)) s (fun k => detectTimer k q) := rfl
theorem exec_lenpelTrainDone (q : Nat) (s : State) : exec (.lenpelTrainDone q) s = act (decide (q < lportMax)) s (fun k => trainDone k q) := rfl
theorem exec_lenpelTrainTimeout (q : Nat) (s : State) : exec (.lenpelTrainTimeout q) s = act (decide (q < lportMax)) s (fun k => stateTimeout k q .train 500000000) := rfl
theorem exec_lenpelAlignDone (q : Nat) (rtt : Nat) (s : State) : exec (.lenpelAlignDone q rtt) s = act (decide (q < lportMax)) s (fun k => alignDone k q rtt) := rfl
theorem exec_lenpelAlignTimeout (q : Nat) (s : State) : exec (.lenpelAlignTimeout q) s = act (decide (q < lportMax)) s (fun k => stateTimeout k q .align 1000000) := rfl
theorem exec_discovery (q : Nat) (f : LRecv) (s : State) : exec (.discovery q f) s = act (decide (q < lportMax)) s (fun k => discovery k q f.frame f.words) := rfl
theorem exec_readData (q : Nat) (f : LRecv) (s : State) : exec (.readData q f) s = act (decide (q < lportMax)) s (fun k => readData k q f.frame f.words) := rfl
theorem exec_writeAck (q : Nat) (f : LRecv) (s : State) : exec (.writeAck q f) s = act (decide (q < lportMax)) s (fun k => writeAck k q f.frame f.words) := rfl
theorem exec_lenpelNak (q : Nat) (f : LRecv) (s : State) : exec (.lenpelNak q f) s = act (decide (q < lportMax)) s (fun k => lenpelNak k q f.frame f.words) := rfl
theorem exec_lenpelIdle (q : Nat) (f : LRecv) (s : State) : exec (.lenpelIdle q f) s = act (decide (q < lportMax)) s (fun k => lenpelIdle k q f.frame f.words) := rfl
theorem exec_lenpelRetrainTimeout (q : Nat) (s : State) : exec (.lenpelRetrainTimeout q) s = act (decide (q < lportMax)) s (fun k => k.retrainTimeout q) := rfl
theorem exec_lenpelPresenceLost (q : Nat) (s : State) : exec (.lenpelPresenceLost q) s = onPresence q false s (fun k => presenceLost k q) := rfl
theorem exec_lenpelReadLost (q : Nat) (tag : Nat) (s : State) : exec (.lenpelReadLost q tag) s = act (decide (q < lportMax)) s (fun k => readLost k q tag) := rfl
theorem exec_lenpelWriteAckTimeout (q : Nat) (tag : Nat) (s : State) : exec (.lenpelWriteAckTimeout q tag) s = act (decide (q < lportMax)) s (fun k => writeAckTimeout k q tag) := rfl
theorem exec_lenpelEnableWrite (q : Nat) (w : EntryWrite) (s : State) : exec (.lenpelEnableWrite q w) s = act (decide (q < lportMax)) s (fun k => oneNum k s.fmaxOf w.session (0x4200 + q) 2 w.value) := rfl
theorem exec_atnikSignalDetect (n : Nat) (s : State) : exec (.atnikSignalDetect n) s = act (decide (n < aportMax)) s (fun k => signalDetect k n) := rfl
theorem exec_atnikTrainDone (n : Nat) (bad : Nat) (s : State) : exec (.atnikTrainDone n bad) s = act (decide (n < aportMax)) s (fun k => atnikTrained k n bad) := rfl
theorem exec_atnikTrainTimeout (n : Nat) (s : State) : exec (.atnikTrainTimeout n) s = act (decide (n < aportMax)) s (fun k => atnikTrainTimeout k n) := rfl
theorem exec_trainId (n : Nat) (record : LRecv) (s : State) : exec (.trainId n record) s = act (decide (n < aportMax)) s (fun k => k.trainFrame n record) := rfl
theorem exec_atnikIdentifyTimeout (n : Nat) (s : State) : exec (.atnikIdentifyTimeout n) s = act (decide (n < aportMax)) s (fun k => atnikIdentifyTimeout k n) := rfl
theorem exec_atnikLoss (n : Nat) (s : State) : exec (.atnikLoss n) s = act (decide (n < aportMax)) s (fun k => atnikLoss k n) := rfl
theorem exec_atnikRetrainTimeout (n : Nat) (s : State) : exec (.atnikRetrainTimeout n) s = act (decide (n < aportMax)) s (fun k => atnikRetrainTimeout k n) := rfl
theorem exec_returnWindowExpiry (n : Nat) (s : State) : exec (.returnWindowExpiry n) s = act (decide (n < aportMax)) s (fun k => windowExpiry k n) := rfl
theorem exec_atnikLaneFail (n : Nat) (lane : Nat) (s : State) : exec (.atnikLaneFail n lane) s = act (decide (n < aportMax) && decide (lane < 8)) s (fun k => atnikLaneFail k n lane) := rfl
theorem exec_atnikEnableWrite (n : Nat) (w : EntryWrite) (s : State) : exec (.atnikEnableWrite n w) s = act (decide (n < aportMax)) s (fun k => oneNum k s.fmaxOf w.session (0x5040 + n) 2 w.value) := rfl
theorem exec_atnikDataEnvelope (n : Nat) (link : LRecv) (body : List Byte) (s : State) : exec (.atnikDataEnvelope n link body) s = act (decide (n < aportMax)) s (fun k => dataEnvelope k n (k.came n link body)) := rfl
theorem exec_atnikNak (n : Nat) (link : LRecv) (s : State) : exec (.atnikNak n link) s = act (decide (n < aportMax)) s (fun k => atnikNak k n (k.came n link [])) := rfl
theorem exec_atnikIdle (n : Nat) (link : LRecv) (s : State) : exec (.atnikIdle n link) s = act (decide (n < aportMax)) s (fun k => atnikIdle k n (k.came n link [])) := rfl
theorem exec_rd (n : Nat) (s : State) : exec (.rd n) s = act (decide (n < aportMax)) s (fun k => readReq k n opRD) := rfl
theorem exec_wr (n : Nat) (s : State) : exec (.wr n) s = act (decide (n < aportMax)) s (fun k => writeReq k n) := rfl
theorem exec_rdBulk (n : Nat) (s : State) : exec (.rdBulk n) s = act (decide (n < aportMax)) s (fun k => readReq k n opRDB) := rfl
theorem exec_wrBulk (n : Nat) (s : State) : exec (.wrBulk n) s = act (decide (n < aportMax)) s (fun k => bulkReq k n) := rfl
theorem exec_atomic (n : Nat) (s : State) : exec (.atomic n) s = act (decide (n < aportMax)) s (fun k => atomicReq k n) := rfl
theorem exec_rsp (n : Nat) (s : State) : exec (.rsp n) s = act (decide (n < aportMax)) s (fun k => rspRow k n) := rfl
theorem exec_ack (n : Nat) (s : State) : exec (.ack n) s = act (decide (n < aportMax)) s (fun k => ackRow k n) := rfl
theorem exec_retry (n : Nat) (s : State) : exec (.retry n) s = act (decide (n < aportMax)) s (fun k => retryRow k n) := rfl
theorem exec_onceRelease (n : Nat) (s : State) : exec (.onceRelease n) s = act (decide (n < aportMax)) s (fun k => onceRelease k n) := rfl
theorem exec_onceEntryExpiry (f : Nat) (s : State) : exec (.onceEntryExpiry f) s = act (decide (f < 8)) s (fun k => onceExpiry k f) := rfl
theorem exec_e2eRetryTimer (r : Nat) (s : State) : exec (.e2eRetryTimer r) s = act true s (fun k => e2eTimer k r) := rfl
theorem exec_contextIdleTimer (node : Nat) (s : State) : exec (.contextIdleTimer node) s = act (decide (node < 131072)) s (fun k => contextIdle k node) := rfl
theorem exec_close (n : Nat) (s : State) : exec (.close n) s = act (decide (n < aportMax)) s (fun k => closeRow k n) := rfl
theorem exec_linkNotice (n : Nat) (s : State) : exec (.linkNotice n) s = act (decide (n < aportMax)) s (fun k => linkNotice k n) := rfl
theorem exec_cancel (msg : Nat) (s : State) : exec (.cancel msg) s = act true s (fun k => cancelMsg k msg) := rfl
theorem exec_linkRekey (n : Nat) (secret : List Byte) (s : State) : exec (.linkRekey n secret) s = act (decide (n < aportMax)) s (fun k => linkRekey k n secret) := rfl
theorem exec_linkSessionSetup (n : Nat) (secret : List Byte) (identity : Nat) (s : State) : exec (.linkSessionSetup n secret identity) s = act (decide (n < aportMax)) s (fun k => linkSession k n secret identity) := rfl
theorem exec_collAdmit (p : Nat) (s : State) : exec (.collAdmit p) s = act (decide (p < partMax)) s (fun k => collAdmit k p) := rfl
theorem exec_windowSlotGrant (p : Nat) (f : Nat) (s : State) : exec (.windowSlotGrant p f) s = act (decide (p < partMax) && decide (f < 8)) s (fun k => windowGrant k p f) := rfl
theorem exec_grant (n : Nat) (s : State) : exec (.grant n) s = act (decide (n < aportMax)) s (fun k => grant k n) := rfl
theorem exec_hdrUp (n : Nat) (s : State) : exec (.hdrUp n) s = act (decide (n < aportMax)) s (fun k => hdrUp k n) := rfl
theorem exec_hdrDown (n : Nat) (s : State) : exec (.hdrDown n) s = act (decide (n < aportMax)) s (fun k => hdrDown k n) := rfl
theorem exec_expUp (n : Nat) (s : State) : exec (.expUp n) s = act (decide (n < aportMax)) s (fun k => expUp k n) := rfl
theorem exec_expDown (n : Nat) (s : State) : exec (.expDown n) s = act (decide (n < aportMax)) s (fun k => expDown k n) := rfl
theorem exec_dataUp (n : Nat) (s : State) : exec (.dataUp n) s = act (decide (n < aportMax)) s (fun k => dataUp k n) := rfl
theorem exec_dataDown (n : Nat) (s : State) : exec (.dataDown n) s = act (decide (n < aportMax)) s (fun k => dataDown k n) := rfl
theorem exec_resend (n : Nat) (s : State) : exec (.resend n) s = act (decide (n < aportMax)) s (fun k => resend k n) := rfl
theorem exec_abort (n : Nat) (s : State) : exec (.abort n) s = act (decide (n < aportMax)) s (fun k => collAborted k n) := rfl
theorem exec_collStalemate (p : Nat) (seq : Nat) (s : State) : exec (.collStalemate p seq) s = act (decide (p < partMax)) s (fun k => stalemate k p seq) := rfl
theorem exec_reductionEccError (p : Nat) (seq : Nat) (chunk : Nat) (corrected : Bool) (s : State) : exec (.reductionEccError p seq chunk corrected) s = act (decide (p < partMax)) s (fun k => reductionEcc k p seq chunk corrected) := rfl
theorem exec_siteHeartbeatTimeout (t : Nat) (s : State) : exec (.siteHeartbeatTimeout t) s = act (decide (t < tileMax)) s (fun k => k.siteFail t 700) := rfl
theorem exec_tileCoreChecker (t : Nat) (s : State) : exec (.tileCoreChecker t) s = act (decide (t < tileMax)) s (fun k => k.siteFail t 2) := rfl
theorem exec_matrixResidueMismatch (t : Nat) (lane : Nat) (s : State) : exec (.matrixResidueMismatch t lane) s = act (decide (t < tileMax)) s (fun k => k.laneMismatch t lane 0 200) := rfl
theorem exec_vectorResidueMismatch (t : Nat) (lane : Nat) (s : State) : exec (.vectorResidueMismatch t lane) s = act (decide (t < tileMax)) s (fun k => k.laneMismatch t lane 1 54) := rfl
theorem exec_castlingCommit (t : Nat) (s : State) : exec (.castlingCommit t) s = if t < tileMax then .next (if s.pkg.fw.off = 0 then castlingCommit s t else s) else .fault .noSuchUnit := rfl
theorem exec_coreChecker (c : Nat) (s : State) : exec (.coreChecker c) s = act (decide (c < coreMax)) s (fun k => coreChecker k c) := rfl
theorem exec_meshLaneFail (a : Nat) (b : Nat) (s : State) : exec (.meshLaneFail a b) s = act (meshEdge a b) s (fun k => meshLaneFail k a b) := rfl
theorem exec_thermalSensorCheck (d : Nat) (s : State) : exec (.thermalSensorCheck d) s = act (decide (d < 68)) s (fun k => sensorCheck k d) := rfl
theorem exec_faultMapCommit (s : State) : exec .faultMapCommit s = actMgmt true s faultMapCommit := rfl
theorem exec_guaranteeYielded (p : Nat) (s : State) : exec (.guaranteeYielded p) s = act (decide (p < partMax)) s (fun x => guaranteeYielded x p) := rfl
theorem exec_cmdqTailWrite (k : Nat) (p : Nat) (tail : Nat) (read : DmaRes) (s : State) : exec (.cmdqTailWrite k p tail read) s = act (decide (p < partMax)) s (fun x => cmdqTail x k p tail read) := rfl
theorem exec_cplqHeadWrite (k : Nat) (p : Nat) (head : Nat) (s : State) : exec (.cplqHeadWrite k p head) s = act (decide (p < partMax)) s (fun x => cplqHead x k p head) := rfl
theorem exec_queueCfgWrite (k : Nat) (p : Nat) (off : Nat) (v : Nat) (s : State) : exec (.queueCfgWrite k p off v) s = act (decide (p < partMax)) s (fun x => queueCfg x k p off v) := rfl
theorem exec_inputDbWrite (k : Nat) (p : Nat) (w : Nat) (v : Nat) (s : State) : exec (.inputDbWrite k p w v) s = act (decide (p < partMax)) s (fun x => inputDb x k p w v) := rfl
theorem exec_completionPost (p : Nat) (s : State) : exec (.completionPost p) s = act (decide (p < partMax)) s (fun x => completionPost x p) := rfl
theorem exec_loadBegin (p : Nat) (s : State) : exec (.loadBegin p) s = act (decide (p < partMax)) s (fun x => loadBegin x p) := rfl
theorem exec_dstoreWrite (p : Nat) (data : DmaRes) (s : State) : exec (.dstoreWrite p data) s = act (decide (p < partMax)) s (fun x => dstoreWrite x p data) := rfl
theorem exec_dstoreRead (p : Nat) (s : State) : exec (.dstoreRead p) s = act (decide (p < partMax)) s (fun x => dstoreRead x p) := rfl
theorem exec_loadCommit (p : Nat) (s : State) : exec (.loadCommit p) s = act (decide (p < partMax)) s (fun x => loadCommit x p) := rfl
theorem exec_launch (p : Nat) (rec_ : DmaRes) (s : State) : exec (.launch p rec_) s = act (decide (p < partMax)) s (fun x => launch x p rec_) := rfl
theorem exec_stage (p : Nat) (s : State) : exec (.stage p) s = act (decide (p < partMax)) s (fun x => stageCmd x p) := rfl
theorem exec_inputWrite (p : Nat) (data : DmaRes) (s : State) : exec (.inputWrite p data) s = act (decide (p < partMax)) s (fun x => inputWrite x p data) := rfl
theorem exec_regionCreate (p : Nat) (s : State) : exec (.regionCreate p) s = act (decide (p < partMax)) s (fun x => regionCreate x p) := rfl
theorem exec_regionSeal (p : Nat) (s : State) : exec (.regionSeal p) s = act (decide (p < partMax)) s (fun x => x.regionCmd p 9 5 (fun y c r => y.sealNow p c r)) := rfl
theorem exec_regionUnseal (p : Nat) (s : State) : exec (.regionUnseal p) s = act (decide (p < partMax)) s (fun x => x.regionCmd p 0x0A 6 (fun y c r => y.unsealNow p c r)) := rfl
theorem exec_regionDestroy (p : Nat) (s : State) : exec (.regionDestroy p) s = act (decide (p < partMax)) s (fun x => x.regionCmd p 0x0B 7 (fun y c r => y.destroyNow p c r)) := rfl
theorem exec_regionPin (p : Nat) (s : State) : exec (.regionPin p) s = act (decide (p < partMax)) s (fun x => regionPin x p) := rfl
theorem exec_packetWrite (p : Nat) (data : DmaRes) (s : State) : exec (.packetWrite p data) s = act (decide (p < partMax)) s (fun x => packetWrite x p data) := rfl
theorem exec_packetRead (p : Nat) (s : State) : exec (.packetRead p) s = act (decide (p < partMax)) s (fun x => packetRead x p) := rfl
theorem exec_preempt (p : Nat) (s : State) : exec (.preempt p) s = act (decide (p < partMax)) s (fun x => preempt x p) := rfl
theorem exec_restore (p : Nat) (list : DmaRes) (s : State) : exec (.restore p list) s = act (decide (p < partMax)) s (fun x => restore x p list) := rfl
theorem exec_rollback (p : Nat) (s : State) : exec (.rollback p) s = act (decide (p < partMax)) s (fun x => rollback x p) := rfl
theorem exec_resume (p : Nat) (s : State) : exec (.resume p) s = act (decide (p < partMax)) s (fun x => resume x p) := rfl
theorem exec_unload (p : Nat) (s : State) : exec (.unload p) s = act (decide (p < partMax)) s (fun x => unload x p) := rfl
theorem exec_cutReportContribute (p : Nat) (s : State) : exec (.cutReportContribute p) s = act (decide (p < partMax)) s (fun x => cutContribute x p) := rfl
theorem exec_cutReport (p : Nat) (n : Nat) (s : State) : exec (.cutReport p n) s = act (decide (p < partMax)) s (fun x => cutReport x p n) := rfl
theorem exec_checkpointDone (p : Nat) (s : State) : exec (.checkpointDone p) s = act (decide (p < partMax)) s (fun x => checkpointDone x p) := rfl
theorem exec_captureLimitTimeout (p : Nat) (s : State) : exec (.captureLimitTimeout p) s = act (decide (p < partMax)) s (fun x => captureLimit x p) := rfl
theorem exec_checkpointLate (p : Nat) (s : State) : exec (.checkpointLate p) s = act (decide (p < partMax)) s (fun x => checkpointLate x p) := rfl
theorem exec_vinSample (mv : Nat) (ma : Nat) (auxMw : Nat) (s : State) : exec (.vinSample mv ma auxMw) s = actAny true s (fun k => vinSample k mv ma auxMw) := rfl
theorem exec_fastLoopSample (mas : List Nat) (s : State) : exec (.fastLoopSample mas) s = act true s (fun k => fastLoop k mas) := rfl
theorem exec_powerCapLoop (debt : Nat) (s : State) : exec (.powerCapLoop debt) s = act true s (fun k => capLoop k debt) := rfl
theorem exec_frequencyStep (t : Nat) (s : State) : exec (.frequencyStep t) s = act (decide (t < tileMax)) s (fun k => freqStep k (Tab.get 0 s.sites.fmax (t / 128 * 144 + s.sites.siteOf t)) t) := rfl
theorem exec_brakeAsserted (s : State) : exec .brakeAsserted s = act true s brakeOn := rfl
theorem exec_brakeReleased (s : State) : exec .brakeReleased s = act true s brakeOff := rfl
theorem exec_droopDetect (die : Nat) (det : Nat) (s : State) : exec (.droopDetect die det) s = act (decide (die < dieMax) && decide (det < 8)) s (fun k => droopDetect k die det) := rfl
theorem exec_droopRelease (die : Nat) (det : Nat) (s : State) : exec (.droopRelease die det) s = act (decide (die < dieMax) && decide (det < 8)) s (fun k => droopRelease k die det) := rfl
theorem exec_thermalSample (die : Nat) (codes : List Nat) (s : State) : exec (.thermalSample die codes) s = act (decide (die < 68)) s (fun k => thermalSample k die codes) := rfl
theorem exec_thermalStep (die : Nat) (s : State) : exec (.thermalStep die) s = act (decide (die < 66)) s (fun k => thermalStep k die) := rfl
theorem exec_regulatorPhaseLost (reg : Nat) (s : State) : exec (.regulatorPhaseLost reg) s = act (decide (reg < regMax)) s (fun k => phaseLost k reg) := rfl
theorem exec_dictionaryCycle (s : State) : exec .dictionaryCycle s = act true s (fun k => dictionaryCycle k s.fmaxOf) := rfl
theorem exec_read (d : Datagram) (s : State) : exec (.read d) s = act true s (fun k => papOfType k 1 d) := rfl
theorem exec_write (d : Datagram) (s : State) : exec (.write d) s = act true s (fun k => papOfType k 2 d) := rfl
theorem exec_dictEntryWrite (sess : Nat) (idx : Nat) (sub : Nat) (val : List Byte) (s : State) : exec (.dictEntryWrite sess idx sub val) s = act true s (fun k => oneWrite k s.fmaxOf sess idx sub val) := rfl
theorem exec_claim (d : Datagram) (s : State) : exec (.claim d) s = act true s (fun k => papOfType k 3 d) := rfl
theorem exec_renew (d : Datagram) (s : State) : exec (.renew d) s = act true s (fun k => papOfType k 4 d) := rfl
theorem exec_handover (d : Datagram) (s : State) : exec (.handover d) s = act true s (fun k => papOfType k 5 d) := rfl
theorem exec_release (d : Datagram) (s : State) : exec (.release d) s = act true s (fun k => papOfType k 6 d) := rfl
theorem exec_subscribe (d : Datagram) (s : State) : exec (.subscribe d) s = act true s (fun k => papOfType k 7 d) := rfl
theorem exec_ownerLeaseExpired (s : State) : exec .ownerLeaseExpired s = act true s leaseTimer := rfl
theorem exec_sessionTimeout (sess : Nat) (s : State) : exec (.sessionTimeout sess) s = act true s (fun k => sessionTimeout k sess) := rfl
theorem exec_blobFragmentTimeout (sess : Nat) (s : State) : exec (.blobFragmentTimeout sess) s = act true s (fun k => blobTimeout k sess) := rfl
theorem exec_telemetry (sess : Nat) (s : State) : exec (.telemetry sess) s = act true s (fun k => telemetry k s.fmaxOf sess) := rfl
theorem exec_savedEntryCommit (s : State) : exec .savedEntryCommit s = actMgmt true s savedCommit := rfl
theorem exec_persistCommit (sess : Nat) (v : Nat) (s : State) : exec (.persistCommit sess v) s = act true s (fun k => oneNum k s.fmaxOf sess 0x1200 2 v) := rfl
theorem exec_persistDefaults (sess : Nat) (v : Nat) (s : State) : exec (.persistDefaults sess v) s = act true s (fun k => oneNum k s.fmaxOf sess 0x1200 5 v) := rfl
theorem exec_ownExpertGrant (sess : Nat) (target : Nat) (s : State) : exec (.ownExpertGrant sess target) s = act true s (fun k => oneNum k s.fmaxOf sess 0x1100 6 target) := rfl
theorem exec_ownExpertRevoke (sess : Nat) (target : Nat) (s : State) : exec (.ownExpertRevoke sess target) s = act true s (fun k => oneNum k s.fmaxOf sess 0x1100 7 target) := rfl
theorem exec_ownDelegate (sess : Nat) (p : Nat) (target : Nat) (s : State) : exec (.ownDelegate sess p target) s = act (decide (p < partMax)) s (fun k => oneNum k s.fmaxOf sess (0x1110 + p) 1 target) := rfl
theorem exec_mgmtAlertClear (sess : Nat) (v : Nat) (s : State) : exec (.mgmtAlertClear sess v) s = act true s (fun k => oneNum k s.fmaxOf sess 0x1130 8 v) := rfl
theorem exec_powerCapWWrite (sess : Nat) (w : Nat) (s : State) : exec (.powerCapWWrite sess w) s = act true s (fun k => oneNum k s.fmaxOf sess 0x6000 1 w) := rfl
theorem exec_tierFloorExtentsWrite (sess : Nat) (p : Nat) (v : Nat) (s : State) : exec (.tierFloorExtentsWrite sess p v) s = act (decide (p < partMax)) s (fun k => oneNum k s.fmaxOf sess (0x4110 + p) 1 v) := rfl
theorem exec_partitionPortWrite (sess : Nat) (mask : Nat) (s : State) : exec (.partitionPortWrite sess mask) s = act true s (fun k => oneNum k s.fmaxOf sess 0x1010 1 mask) := rfl
theorem exec_mbGo (k : Nat) (ctrl : Nat) (len : Nat) (req : List Byte) (s : State) : exec (.mbGo k ctrl len req) s = act (decide (k < 2)) s (fun x => mbGo x k ctrl len req) := rfl
theorem exec_mbStatusClear (k : Nat) (v : Nat) (s : State) : exec (.mbStatusClear k v) s = act (decide (k < 2)) s (fun x => mbStatusClear x k v) := rfl
theorem exec_evtPop (k : Nat) (s : State) : exec (.evtPop k) s = act (decide (k < 2)) s (fun x => evtPop x k) := rfl
theorem exec_i3cPrivateWrite (msg : List Byte) (s : State) : exec (.i3cPrivateWrite msg) s = actI3c s (fun k => i3cWrite k msg) := rfl
theorem exec_i3cPrivateRead (s : State) : exec .i3cPrivateRead s = actI3c s i3cRead := rfl
theorem exec_entdaa (addr : Nat) (s : State) : exec (.entdaa addr) s = actI3c s (fun k => i3cEntdaa k addr) := rfl
theorem exec_setdasa (static : Nat) (addr : Nat) (s : State) : exec (.setdasa static addr) s = actI3c s (fun k => i3cSetdasa k static addr) := rfl
theorem exec_rstdaa (s : State) : exec .rstdaa s = actI3c s (fun k => k.onI3c (fun c => { c with addr := 0 })) := rfl
theorem exec_enec (ev : Nat) (s : State) : exec (.enec ev) s = actI3c s (fun k => k.onI3c (fun c => { c with ibi := c.ibi || bit ev 0 })) := rfl
theorem exec_disec (ev : Nat) (s : State) : exec (.disec ev) s = actI3c s (fun k => k.onI3c (fun c => { c with ibi := c.ibi && !(bit ev 0) })) := rfl
theorem exec_setmwl (v : Nat) (s : State) : exec (.setmwl v) s = actI3c s (fun k => k.onI3c (fun c => { c with mwl := i3cLen v c.mwl })) := rfl
theorem exec_setmrl (v : Nat) (s : State) : exec (.setmrl v) s = actI3c s (fun k => k.onI3c (fun c => { c with mrl := i3cLen v c.mrl })) := rfl
theorem exec_getmwl (s : State) : exec .getmwl s = actI3c s (fun k => i3cReply k (natBe 2 k.mgmt.i3c.mwl)) := rfl
theorem exec_getmrl (s : State) : exec .getmrl s = actI3c s (fun k => i3cReply k (natBe 2 k.mgmt.i3c.mrl ++ natBe 1 1)) := rfl
theorem exec_getpid (s : State) : exec .getpid s = actI3c s (fun k => i3cReply k (natBe 6 i3cPid)) := rfl
theorem exec_getbcr (s : State) : exec .getbcr s = actI3c s (fun k => i3cReply k (natBe 1 0x06)) := rfl
theorem exec_getdcr (s : State) : exec .getdcr s = actI3c s (fun k => i3cReply k (natBe 1 0x00)) := rfl
theorem exec_getstatus (s : State) : exec .getstatus s = actI3c s i3cStatus := rfl
theorem exec_rstact (v : Nat) (s : State) : exec (.rstact v) s = actI3c s (fun k => k.onI3c (fun c => { c with rst := v % 256 })) := rfl
theorem exec_neighborDiscovery (frame : List Byte) (s : State) : exec (.neighborDiscovery frame) s = act true s (fun k => neighbor k frame) := rfl
theorem exec_icmpv6Echo (frame : List Byte) (s : State) : exec (.icmpv6Echo frame) s = act true s (fun k => echo k frame) := rfl
theorem exec_serviceRequest (kind : Nat) (a : Nat) (b : Nat) (data : List Byte) (s : State) : exec (.serviceRequest kind a b data) s = act true s (fun k => serviceRequest k kind a b data) := rfl
theorem exec_serviceHeartbeatTimeout (s : State) : exec .serviceHeartbeatTimeout s = act true s serviceDown := rfl
theorem exec_holdupEstimate (mv : Nat) (ma : Int) (s : State) : exec (.holdupEstimate mv ma) s = actMgmt true s (fun k => holdupEstimate k mv ma) := rfl
theorem exec_holdupDeferred (s : State) : exec .holdupDeferred s = actMgmt true s holdupDeferred := rfl
theorem exec_n0Commit (s : State) : exec .n0Commit s = actMgmt true s commitStart := rfl
theorem exec_fwUpdateSlot (sess : Nat) (v : Nat) (s : State) : exec (.fwUpdateSlot sess v) s = act true s (fun k => oneNum k s.fmaxOf sess 0x7002 1 v) := rfl
theorem exec_fwUpdateOffset (sess : Nat) (v : Nat) (s : State) : exec (.fwUpdateOffset sess v) s = act true s (fun k => oneNum k s.fmaxOf sess 0x7002 2 v) := rfl
theorem exec_fwUpdateChunk (sess : Nat) (data : List Byte) (s : State) : exec (.fwUpdateChunk sess data) s = act true s (fun k => oneWrite k s.fmaxOf sess 0x7002 3 data) := rfl
theorem exec_fwUpdateCommit (sess : Nat) (v : Nat) (s : State) : exec (.fwUpdateCommit sess v) s = act true s (fun k => oneNum k s.fmaxOf sess 0x7002 4 v) := rfl
theorem exec_secUnlock (sess : Nat) (record : List Byte) (s : State) : exec (.secUnlock sess record) s = act true s (fun k => oneWrite k s.fmaxOf sess 0x7020 1 record) := rfl
theorem exec_getCertificate (ch : Nat) (slot : Nat) (off : Nat) (len : Nat) (s : State) : exec (.getCertificate ch slot off len) s = act (decide (ch < 3)) s (fun k => getCertificate k ch slot off len) := rfl
theorem exec_challenge (ch : Nat) (slot : Nat) (nonce : List Byte) (s : State) : exec (.challenge ch slot nonce) s = act (decide (ch < 3)) s (fun k => challenge k ch slot nonce) := rfl
theorem exec_getMeasurements (ch : Nat) (idx : Nat) (sign : Bool) (nonce : List Byte) (s : State) : exec (.getMeasurements ch idx sign nonce) s = act (decide (ch < 3)) s (fun k => getMeasurements k ch idx sign nonce) := rfl
theorem exec_keyExchange (ch : Nat) (sid : Nat) (leaf : List Byte) (ca : List Byte) (mutual_ : Bool) (kx : KeyExch) (s : State) : exec (.keyExchange ch sid leaf ca mutual_ kx) s = act (decide (ch < 3)) s (fun k => keyExchange k ch sid leaf ca mutual_ kx) := rfl
theorem exec_keyUpdate (sid : Nat) (s : State) : exec (.keyUpdate sid) s = act true s (fun k => keyUpdate k sid) := rfl
theorem exec_heartbeat (sid : Nat) (s : State) : exec (.heartbeat sid) s = act true s (fun k => heartbeat k sid) := rfl
theorem exec_perstN (k : Nat) (low : Bool) (s : State) : exec (.perstN k low) s = actAny (decide (k < 2)) s (fun x => if x.fw.off = 0 then perst x k low else x.setPci k { x.pci k with perst := low }) := rfl
theorem exec_pcieHotReset (k : Nat) (cause : Nat) (s : State) : exec (.pcieHotReset k cause) s = act (decide (k < 2)) s (fun x => hotReset x k cause) := rfl
theorem exec_pcieFlr (k : Nat) (fn : Nat) (s : State) : exec (.pcieFlr k fn) s = act (decide (k < 2) && decide (fn ≤ 16)) s (fun x => flr x k fn) := rfl
theorem exec_pcieConfigRequest (k : Nat) (off : Nat) (vfs : Option Nat) (s : State) : exec (.pcieConfigRequest k off vfs) s = act (decide (k < 2)) s (fun x => configRequest x k off vfs) := rfl
theorem exec_extest (cells : Nat) (dc : Nat) (ac : Nat) (s : State) : exec (.extest cells dc ac) s = onTap s (fun k => extest k 0 cells dc ac) := rfl
theorem exec_sample (dc : Nat) (ac : Nat) (s : State) : exec (.sample dc ac) s = onTap s (fun k => tapSample k dc ac) := rfl
theorem exec_preload (cells : Nat) (s : State) : exec (.preload cells) s = onTap s (fun k => tapPreload k cells) := rfl
theorem exec_idcode (s : State) : exec .idcode s = onTap s idcode := rfl
theorem exec_clamp (s : State) : exec .clamp s = onTap s (fun k => tapHold k 4) := rfl
theorem exec_highz (s : State) : exec .highz s = onTap s (fun k => tapHold k 5) := rfl
theorem exec_extestPulse (cells : Nat) (dc : Nat) (ac : Nat) (s : State) : exec (.extestPulse cells dc ac) s = onTap s (fun k => extest k 6 cells dc ac) := rfl
theorem exec_extestTrain (cells : Nat) (dc : Nat) (ac : Nat) (s : State) : exec (.extestTrain cells dc ac) s = onTap s (fun k => extest k 7 cells dc ac) := rfl
theorem exec_bypass (s : State) : exec .bypass s = onTap s bypass := rfl
theorem exec_pcieLinkUp (k : Nat) (rate : Nat) (width : Nat) (flit : Bool) (s : State) : exec (.pcieLinkUp k rate width flit) s = act (decide (k < 2)) s (fun x => linkUp x k rate width flit) := rfl
theorem exec_dieFailure (d : Nat) (s : State) : exec (.dieFailure d) s = act (decide (d < 68)) s (fun k => dieFailure k d) := rfl
theorem exec_serviceRestarted (s : State) : exec .serviceRestarted s = act true s serviceBack := rfl
theorem exec_n0CommitComplete (s : State) : exec .n0CommitComplete s = if s.pkg.fw.off < 3 then .next (if s.pkg.epochDone then coldFinish { s with pkg := commitDone s.pkg s.faultMap } else { s with pkg := commitDone s.pkg s.faultMap }) else .next s := rfl
theorem exec_endSession (sid : Nat) (s : State) : exec (.endSession sid) s = act true s (fun k => endSession k sid) := rfl
theorem exec_trstN (s : State) : exec .trstN s = onTap s trst := rfl

/-- A command of an existing unit changes the package alone, or nothing. -/
theorem act_cases (u : Bool) (s : State) (f : Pkg → Pkg) :
    (u = true → act u s f = .next s ∨ act u s f = .next { s with pkg := f s.pkg }) ∧ (u = false → act u s f = .fault .noSuchUnit) := by
  constructor <;> rintro rfl
  · by_cases h : s.pkg.fw.off = 0 <;> simp [act, h]
  · rfl

theorem actMgmt_cases (u : Bool) (s : State) (f : Pkg → Pkg) :
    (u = true → actMgmt u s f = .next s ∨ actMgmt u s f = .next { s with pkg := f s.pkg }) ∧ (u = false → actMgmt u s f = .fault .noSuchUnit) := by
  constructor <;> rintro rfl
  · by_cases h : s.pkg.fw.off < 3 <;> simp [actMgmt, h]
  · rfl

theorem actAny_cases (u : Bool) (s : State) (f : Pkg → Pkg) :
    (u = true → actAny u s f = .next s ∨ actAny u s f = .next { s with pkg := f s.pkg }) ∧ (u = false → actAny u s f = .fault .noSuchUnit) := by
  constructor <;> rintro rfl
  · exact .inr rfl
  · rfl

/-- In a package that is on, a command of an existing unit has its effect. -/
theorem act_on {u : Bool} {s : State} (f : Pkg → Pkg) (hu : u = true) (h : s.pkg.fw.off = 0) : act u s f = .next { s with pkg := f s.pkg } := by
  simp [act, hu, h]

theorem actMgmt_on {u : Bool} {s : State} (f : Pkg → Pkg) (hu : u = true) (h : s.pkg.fw.off < 3) : actMgmt u s f = .next { s with pkg := f s.pkg } := by
  simp [actMgmt, hu, h]

end Sys2Proof.Machine
end

