-- ==== Sys2Proof/Laws/Tab.lean ====
section
/-!
SUPPORT. Laws of sparse tables and memories: what is read after a write, and that every operation keeps the canonical form.
-/

namespace Sys2Proof

variable {α : Type}

theorem Tab.find_insert_self (t : Tab α) (k : Nat) (v : α) : Tab.find (Tab.insert t k v) k = some v := by
  induction t with
  | nil => simp [Tab.insert, Tab.find]
  | cons e t ih =>
    obtain ⟨i, w⟩ := e
    simp only [Tab.insert]
    split
    · simp [Tab.find]
    · split
      · simp [Tab.find]
      · simp [Tab.find, *]

theorem Tab.find_insert_other (t : Tab α) {k j : Nat} (v : α) (h : j ≠ k) : Tab.find (Tab.insert t k v) j = Tab.find t j := by
  induction t with
  | nil => simp [Tab.insert, Tab.find, Ne.symm h]
  | cons e t ih =>
    obtain ⟨i, w⟩ := e
    simp only [Tab.insert]
    split
    · simp [Tab.find, Ne.symm h]
    · split
      · subst_vars; simp [Tab.find, Ne.symm h]
      · simp [Tab.find, ih]

theorem Tab.find_erase_self (t : Tab α) (k : Nat) : Tab.find (Tab.erase t k) k = none := by
  induction t with
  | nil => rfl
  | cons e t ih =>
    obtain ⟨i, w⟩ := e
    simp only [Tab.erase]
    split
    · exact ih
    · simp [Tab.find, *]

theorem Tab.find_erase_other (t : Tab α) {k j : Nat} (h : j ≠ k) : Tab.find (Tab.erase t k) j = Tab.find t j := by
  induction t with
  | nil => rfl
  | cons e t ih =>
    obtain ⟨i, w⟩ := e
    simp only [Tab.erase]
    split
    · subst_vars; simp [Tab.find, Ne.symm h, ih]
    · simp [Tab.find, ih]

/-- Reading with a default is finding with a default. -/
theorem Tab.get_eq_find (d : α) (t : Tab α) (k : Nat) : Tab.get d t k = (Tab.find t k).getD d := by
  induction t with
  | nil => rfl
  | cons e t ih =>
    obtain ⟨i, w⟩ := e
    simp only [Tab.get, Tab.find]
    split <;> simp [ih]

@[simp] theorem Tab.get_insert_self (d : α) (t : Tab α) (k : Nat) (v : α) : Tab.get d (Tab.insert t k v) k = v := by
  simp [Tab.get_eq_find, Tab.find_insert_self]

theorem Tab.get_insert_other (d : α) (t : Tab α) {k j : Nat} (v : α) (h : j ≠ k) : Tab.get d (Tab.insert t k v) j = Tab.get d t j := by
  simp [Tab.get_eq_find, Tab.find_insert_other t v h]

variable [DecidableEq α]

/-- A read after a write to the same place gives the value written. -/
@[simp] theorem Tab.get_set_self (d : α) (t : Tab α) (k : Nat) (v : α) : Tab.get d (Tab.set d t k v) k = v := by
  unfold Tab.set
  split
  · simp [Tab.get_eq_find, Tab.find_erase_self, *]
  · simp

/-- A write leaves every other place alone. -/
theorem Tab.get_set_other (d : α) (t : Tab α) {k j : Nat} (v : α) (h : j ≠ k) : Tab.get d (Tab.set d t k v) j = Tab.get d t j := by
  unfold Tab.set
  split
  · simp [Tab.get_eq_find, Tab.find_erase_other t h]
  · exact Tab.get_insert_other d t v h

theorem Tab.wfFrom_weaken (d : α) (t : Tab α) (lo lo' : Option Nat) (h : Tab.wfFrom d lo t = true)
    (hl : ∀ l', lo' = some l' → ∃ l, lo = some l ∧ l' ≤ l) : Tab.wfFrom d lo' t = true := by
  cases t with
  | nil => rfl
  | cons e t =>
    obtain ⟨i, v⟩ := e
    simp only [Tab.wfFrom, Bool.and_eq_true] at h ⊢
    refine ⟨⟨?_, h.1.2⟩, h.2⟩
    cases lo' with
    | none => rfl
    | some l' =>
      obtain ⟨l, rfl, hle⟩ := hl l' rfl
      have := h.1.1
      simp at this ⊢
      omega

theorem Tab.insert_wfFrom (d : α) (t : Tab α) (lo : Option Nat) (k : Nat) (v : α) (h : Tab.wfFrom d lo t = true)
    (hk : ∀ l, lo = some l → l < k) (hv : v ≠ d) : Tab.wfFrom d lo (Tab.insert t k v) = true := by
  induction t generalizing lo with
  | nil => cases lo <;> simp_all [Tab.insert, Tab.wfFrom]
  | cons e t ih =>
    obtain ⟨i, w⟩ := e
    simp only [Tab.wfFrom, Bool.and_eq_true] at h
    simp only [Tab.insert]
    split
    · next hlt =>
      simp only [Tab.wfFrom, Bool.and_eq_true]
      refine ⟨⟨?_, by simp [hv]⟩, ⟨⟨by simp [hlt], h.1.2⟩, h.2⟩⟩
      cases lo with
      | none => rfl
      | some l => simpa using hk l rfl
    · split
      · next heq =>
        subst heq
        simp only [Tab.wfFrom, Bool.and_eq_true]
        exact ⟨⟨h.1.1, by simp [hv]⟩, h.2⟩
      · next h1 h2 =>
        simp only [Tab.wfFrom, Bool.and_eq_true]
        refine ⟨h.1, ih (some i) h.2 ?_⟩
        intro l hl
        cases hl
        omega

theorem Tab.erase_wfFrom (d : α) (t : Tab α) (lo : Option Nat) (k : Nat) (h : Tab.wfFrom d lo t = true) :
    Tab.wfFrom d lo (Tab.erase t k) = true := by
  induction t generalizing lo with
  | nil => rfl
  | cons e t ih =>
    obtain ⟨i, w⟩ := e
    simp only [Tab.wfFrom, Bool.and_eq_true] at h
    simp only [Tab.erase]
    split
    · refine ih lo (Tab.wfFrom_weaken d t (some i) lo h.2 ?_)
      rintro l' rfl
      have := h.1.1
      exact ⟨i, rfl, by simp at this; omega⟩
    · simp only [Tab.wfFrom, Bool.and_eq_true]
      exact ⟨h.1, ih (some i) h.2⟩

/-- Writing keeps the canonical form. -/
theorem Tab.set_wf (d : α) (t : Tab α) (k : Nat) (v : α) (h : Tab.wf d t = true) : Tab.wf d (Tab.set d t k v) = true := by
  unfold Tab.set
  split
  · exact Tab.erase_wfFrom d t none k h
  · next hv => exact Tab.insert_wfFrom d t none k v h (by simp) hv

theorem Tab.insert_wf (d : α) (t : Tab α) (k : Nat) (v : α) (h : Tab.wf d t = true) (hv : v ≠ d) : Tab.wf d (Tab.insert t k v) = true :=
  Tab.insert_wfFrom d t none k v h (by simp) hv

theorem Tab.erase_wf (d : α) (t : Tab α) (k : Nat) (h : Tab.wf d t = true) : Tab.wf d (Tab.erase t k) = true :=
  Tab.erase_wfFrom d t none k h

theorem Tab.filter_wfFrom (d : α) (t : Tab α) (lo : Option Nat) (p : Nat × α → Bool) (h : Tab.wfFrom d lo t = true) :
    Tab.wfFrom d lo (t.filter p) = true := by
  induction t generalizing lo with
  | nil => rfl
  | cons e t ih =>
    obtain ⟨i, w⟩ := e
    simp only [Tab.wfFrom, Bool.and_eq_true] at h
    rw [List.filter_cons]
    split
    · simp only [Tab.wfFrom, Bool.and_eq_true]
      exact ⟨h.1, ih (some i) h.2⟩
    · refine ih lo (Tab.wfFrom_weaken d t (some i) lo h.2 ?_)
      rintro l' rfl
      have := h.1.1
      exact ⟨i, rfl, by simp at this; omega⟩

/-- Every operation over a memory keeps its canonical form. -/
theorem Mem.write_wf (m : Mem) (a : Nat) (b : Byte) (h : Memory.wf m = true) : Memory.wf (m.write a b) = true := Tab.set_wf 0 m a b h

theorem Mem.writeN_wf (m : Mem) (a : Nat) (bs : List Byte) (h : Memory.wf m = true) : Memory.wf (m.writeN a bs) = true := by
  induction bs generalizing m a with
  | nil => exact h
  | cons b bs ih => exact ih _ _ (Mem.write_wf m a b h)

theorem Mem.wr_wf (m : Mem) (a n v : Nat) (h : Memory.wf m = true) : Memory.wf (m.wr a n v) = true := Mem.writeN_wf m a _ h

theorem Mem.clear_wf (m : Mem) (a n : Nat) (h : Memory.wf m = true) : Memory.wf (m.clear a n) = true := Tab.filter_wfFrom 0 m none _ h

/-- A byte that is written reads so, and every other byte as before. -/
theorem Mem.read_write_self (m : Mem) (a : Nat) (b : Byte) : (m.write a b).read a = b := Tab.get_set_self 0 m a b

theorem Mem.read_write_other (m : Mem) {a c : Nat} (b : Byte) (h : c ≠ a) : (m.write a b).read c = m.read c := Tab.get_set_other 0 m b h

/-- A write of bytes leaves every byte outside them alone. -/
theorem Mem.read_writeN_outside (m : Mem) (a c : Nat) (bs : List Byte) (h : c < a ∨ a + bs.length ≤ c) : (m.writeN a bs).read c = m.read c := by
  induction bs generalizing m a with
  | nil => rfl
  | cons b bs ih =>
    simp only [List.length_cons] at h
    rw [Mem.writeN, ih _ _ (by omega), Mem.read_write_other m b (by omega)]

/-- Each byte written reads as it was given. -/
theorem Mem.read_writeN_inside (m : Mem) (a : Nat) (bs : List Byte) (i : Nat) (h : i < bs.length) :
    (m.writeN a bs).read (a + i) = bs[i] := by
  induction bs generalizing m a i with
  | nil => simp at h
  | cons b bs ih =>
    rw [Mem.writeN]
    cases i with
    | zero =>
      rw [Mem.read_writeN_outside _ _ _ _ (by omega)]
      simpa using Mem.read_write_self m a b
    | succ i =>
      have := ih (m.write a b) (a + 1) i (by simpa using h)
      rw [show a + (i + 1) = a + 1 + i by omega]
      simpa using this

/-- A byte stands where it stood among the cells that a test keeps. -/
theorem Tab.get_filter (d : Byte) (p : Nat → Bool) (m : Mem) (k : Nat) (h : p k = true) : Tab.get d (m.filter (fun e => p e.1)) k = Tab.get d m k := by
  induction m with
  | nil => rfl
  | cons e m ih =>
    obtain ⟨i, v⟩ := e
    by_cases hi : p i = true
    · simp only [List.filter_cons, hi, if_true, Tab.get, ih]
    · have : i ≠ k := fun e => hi (e ▸ h)
      rw [List.filter_cons_of_neg (by simpa using hi), ih, Tab.get, if_neg this]

/-- The cells of a memory from `a` up to `a + n`, and a read of only those. -/
def Mem.near (m : Mem) (a n : Nat) : Mem := m.filter (fun e => decide (a ≤ e.1) && decide (e.1 < a + n))
def Mem.readNear (m : Mem) (a n : Nat) : List Byte := (m.near a n).readN a n

/-- Reading looks only at the cells nearby. -/
theorem Mem.readN_near (m : Mem) (a n : Nat) : m.readN a n = m.readNear a n := by
  suffices ∀ k b, a ≤ b → b + k ≤ a + n → m.readN b k = (m.near a n).readN b k from this n a (Nat.le_refl _) (Nat.le_refl _)
  intro k
  induction k with
  | zero => intros; rfl
  | succ k ih =>
    intro b h1 h2
    simp only [Mem.readN, Mem.read]
    rw [ih (b + 1) (by omega) (by omega)]
    congr 1
    exact (Tab.get_filter 0 (fun i => decide (a ≤ i) && decide (i < a + n)) m b (by simp; omega)).symm

/-- The match of `crcStep` only computes its value. -/
theorem crcStep_value (v : Nat) (bs : List Byte) : (match v with | 0 => crcStep 0 bs | n + 1 => crcStep (n + 1) bs) = crcStep v bs := by
  cases v <;> rfl

/-- One byte more of a CRC. -/
theorem crcStep_cons (c : Nat) (b : Byte) (bs : List Byte) : crcStep c (b :: bs) = crcStep (crcBits 8 (c ^^^ b.toNat)) bs :=
  crcStep_value _ bs

end Sys2Proof
end

