-- ==== Sys2Proof/Laws/Ops.lean ====
section
/-!
SUPPORT. What each shared operation does, said once: dictionary entries, counters, events, messages to sessions, tables of units.
-/

namespace Sys2Proof

open Sys2Proof.Machine

theorem dkey_inj {i j a b : Nat} (hj : j < 256) (hb : b < 256) (h : dkey i j = dkey a b) : i = a ∧ j = b := by
  simp only [dkey] at h
  omega

/-- An entry written reads as written. -/
@[simp] theorem Pkg.ent_setEnt_self (s : Pkg) (i j v : Nat) : (s.setEnt i j v).ent i j = v := by
  simp only [Pkg.ent, Pkg.setEnt]
  split
  · simp [Tab.find_erase_self, *]
  · simp [Tab.find_insert_self]

/-- A write of an entry leaves the others alone. -/
theorem Pkg.ent_setEnt_other (s : Pkg) {i j a b : Nat} (v : Nat) (h : dkey a b ≠ dkey i j) : (s.setEnt i j v).ent a b = s.ent a b := by
  simp only [Pkg.ent, Pkg.setEnt]
  split
  · rw [Tab.find_erase_other _ h]
  · rw [Tab.find_insert_other _ _ h]

/-- A counter gains what is added. -/
@[simp] theorem Pkg.ent_bump_self (s : Pkg) (i j n : Nat) : (s.bump i j n).ent i j = s.ent i j + n := by
  unfold Pkg.bump
  split
  · omega
  · simp

theorem Pkg.ent_bump_other (s : Pkg) {i j a b : Nat} (n : Nat) (h : dkey a b ≠ dkey i j) : (s.bump i j n).ent a b = s.ent a b := by
  unfold Pkg.bump
  split
  · rfl
  · exact s.ent_setEnt_other _ h

@[simp] theorem Pkg.bare_setEnt (s : Pkg) (i j v : Nat) : (s.setEnt i j v).bare = s.bare := rfl

@[simp] theorem Pkg.bare_bump (s : Pkg) (i j n : Nat) : (s.bump i j n).bare = s.bare := by
  unfold Pkg.bump
  split <;> rfl

@[simp] theorem Pkg.bare_peak (s : Pkg) (i j n : Nat) : (s.peak i j n).bare = s.bare := by
  unfold Pkg.peak
  split <;> rfl

@[simp] theorem Pkg.bare_emit (s : Pkg) (o : Out) : (s.emit o).bare = s.bare := rfl

@[simp] theorem Pkg.bare_setMbox (s : Pkg) (k : Nat) (b : Mailbox) : (s.setMbox k b).bare = s.bare := rfl

/-- A write of the alert causes holds the value; beside it only the pin may be driven. -/
theorem Pkg.putAlerts_cases (s : Pkg) (v : Nat) :
    s.putAlerts v = s.setEnt 0x1130 6 v ∨ s.putAlerts v = (s.setEnt 0x1130 6 v).emit (.pin "ALERT_N" 0 (decide (v = 0))) := by
  unfold Pkg.putAlerts
  dsimp only
  split
  · exact .inl rfl
  · exact .inr rfl

@[simp] theorem Pkg.dict_putAlerts (s : Pkg) (v : Nat) : (s.putAlerts v).dict = (s.setEnt 0x1130 6 v).dict := by
  rcases s.putAlerts_cases v with h | h <;> exact h ▸ rfl

@[simp] theorem Pkg.log_putAlerts (s : Pkg) (v : Nat) : (s.putAlerts v).log = s.log := by
  rcases s.putAlerts_cases v with h | h <;> exact h ▸ rfl

@[simp] theorem Pkg.bare_setAlert (s : Pkg) (b : Option Nat) : (s.setAlert b).bare = s.bare := by
  cases b with
  | none => rfl
  | some b =>
    unfold Pkg.setAlert
    rcases s.putAlerts_cases (s.ent 0x1130 6 ||| 2 ^ b) with h | h <;> dsimp only <;> rw [h] <;> rfl

@[simp] theorem Pkg.log_setAlert (s : Pkg) (b : Option Nat) : (s.setAlert b).log = s.log := by
  cases b with
  | none => rfl
  | some b => exact s.log_putAlerts (s.ent 0x1130 6 ||| 2 ^ b)

@[simp] theorem Pkg.bare_sendEvent (s : Pkg) (x : Session) (m : List Byte) : (s.sendEvent x m).bare = s.bare := by
  unfold Pkg.sendEvent
  split
  · rfl
  · dsimp only; split <;> rfl
  · dsimp only; split <;> rfl

@[simp] theorem Pkg.bare_eventTo (s : Pkg) (r : List Byte) (x : Session) : (s.eventTo r x).bare = s.bare := by
  rw [Pkg.eventTo, Pkg.bare_sendEvent]
  rfl

theorem Pkg.bare_eventsTo (l : List Session) (r : List Byte) (s : Pkg) : (l.foldl (fun s x => s.eventTo r x) s).bare = s.bare := by
  induction l generalizing s with
  | nil => rfl
  | cons x l ih => rw [List.foldl_cons, ih, Pkg.bare_eventTo]

/-- An event report touches nothing but what `bare` leaves out. -/
@[simp] theorem Pkg.bare_raise (s : Pkg) (code part : Nat) (items : List Nat) (raw : List Byte) : (s.raise code part items raw).bare = s.bare := by
  unfold Pkg.raise
  rw [Pkg.bare_eventsTo]
  refine Eq.trans (b := ((s.setAlert (s.alertOf code)).setEnt 0x1140 1 ((s.eventNow code part items raw).seq + 1)).bare) rfl ?_
  rw [Pkg.bare_setEnt, Pkg.bare_setAlert]

/-- Messages to sessions leave the dictionary and the log alone. -/
theorem Pkg.dict_eventTo (s : Pkg) (r : List Byte) (x : Session) : (s.eventTo r x).dict = s.dict ∧ (s.eventTo r x).log = s.log := by
  unfold Pkg.eventTo Pkg.sendEvent
  split
  · exact ⟨rfl, rfl⟩
  · dsimp only; split <;> exact ⟨rfl, rfl⟩
  · dsimp only; split <;> exact ⟨rfl, rfl⟩

theorem Pkg.dict_eventsTo (l : List Session) (r : List Byte) (s : Pkg) :
    (l.foldl (fun s x => s.eventTo r x) s).dict = s.dict ∧ (l.foldl (fun s x => s.eventTo r x) s).log = s.log := by
  induction l generalizing s with
  | nil => exact ⟨rfl, rfl⟩
  | cons x l ih =>
    rw [List.foldl_cons]
    exact ⟨(ih _).1.trans (s.dict_eventTo r x).1, (ih _).2.trans (s.dict_eventTo r x).2⟩

/-- An event is the newest of the log (16:R505). -/
theorem Pkg.log_raise (s : Pkg) (code part : Nat) (items : List Nat) (raw : List Byte) :
    (s.raise code part items raw).log = (s.eventNow code part items raw :: s.log).take 1024 := by
  unfold Pkg.raise
  dsimp only
  rw [(Pkg.dict_eventsTo _ _ _).2]
  show ((s.eventNow code part items raw) :: (s.setAlert _).log).take 1024 = _
  rw [Pkg.log_setAlert]

theorem Pkg.reports_raise (s : Pkg) (code part : Nat) (items : List Nat) (raw : List Byte) : Reports (s.raise code part items raw) code part items := by
  refine ⟨s.eventNow code part items raw, ?_, rfl, rfl, rfl⟩
  rw [Pkg.log_raise]
  rfl

/-- An event report leaves every entry but the alert causes and the event sequence alone. -/
theorem Pkg.ent_raise (s : Pkg) (code part : Nat) (items : List Nat) (raw : List Byte) {i j : Nat} (h1 : dkey i j ≠ dkey 0x1130 6)
    (h2 : dkey i j ≠ dkey 0x1140 1) : (s.raise code part items raw).ent i j = s.ent i j := by
  have hd : ∀ t u : Pkg, t.dict = u.dict → t.ent i j = u.ent i j := fun t u h => by simp only [Pkg.ent, h]
  unfold Pkg.raise
  rw [hd _ _ (Pkg.dict_eventsTo _ _ _).1]
  refine (hd _ ((s.setAlert (s.alertOf code)).setEnt 0x1140 1 ((s.eventNow code part items raw).seq + 1)) rfl).trans ?_
  rw [Pkg.ent_setEnt_other _ _ h2]
  cases s.alertOf code with
  | none => rfl
  | some b => exact (hd _ (s.setEnt 0x1130 6 _) (s.dict_putAlerts _)).trans (Pkg.ent_setEnt_other _ _ h1)

@[simp] theorem Pkg.tile_setTile (s : Pkg) (t : Nat) (x : Tile) : (s.setTile t x).tile t = x := Tab.get_set_self _ _ _ _

theorem Pkg.tile_setTile_other (s : Pkg) {t u : Nat} (x : Tile) (h : u ≠ t) : (s.setTile t x).tile u = s.tile u := Tab.get_set_other _ _ _ h

@[simp] theorem Pkg.part_setPart (s : Pkg) (p : Nat) (x : Part) : (s.setPart p x).part p = x := Tab.get_set_self _ _ _ _

theorem Pkg.part_setPart_other (s : Pkg) {p q : Nat} (x : Part) (h : q ≠ p) : (s.setPart p x).part q = s.part q := Tab.get_set_other _ _ _ h

@[simp] theorem Pkg.port_setPort (s : Pkg) (n : Nat) (x : APort) : (s.setPort n x).port n = x := Tab.get_set_self _ _ _ _

theorem Pkg.port_setPort_other (s : Pkg) {n m : Nat} (x : APort) (h : m ≠ n) : (s.setPort n x).port m = s.port m := Tab.get_set_other _ _ _ h

@[simp] theorem Pkg.sdie_setSdie (s : Pkg) (d : Nat) (x : SDie) : (s.setSdie d x).sdie d = x := Tab.get_set_self _ _ _ _

@[simp] theorem Pkg.mbox_setMbox (s : Pkg) (k : Nat) (b : Mailbox) : (s.setMbox k b).mbox k = b := Tab.get_set_self _ _ _ _

end Sys2Proof
end

