-- ==== Sys2Proof/Laws/Hart.lean ====
section
/-!
SUPPORT. What a hart's fetches and loads can change: the shared cache, its counters and the count of free values drawn, nothing else.
-/

namespace Sys2Proof

open Sys2Proof.Machine

/-- The package without the shared cache, the dictionary and the count of free values drawn. -/
def Pkg.uncached (s : Pkg) : Pkg := { s with dict := [], scache := [], cached := [], slices := [], free := 0 }

@[simp] theorem Pkg.uncached_setEnt (s : Pkg) (i j v : Nat) : (s.setEnt i j v).uncached = s.uncached := rfl

@[simp] theorem Pkg.uncached_bump (s : Pkg) (i j n : Nat) : (s.bump i j n).uncached = s.uncached := by
  unfold Pkg.bump
  split <;> simp

@[simp] theorem Pkg.uncached_addrError (s : Pkg) (p a n : Nat) : (s.addrError p a n).uncached = s.uncached := by
  unfold Pkg.addrError
  simp only
  split <;> simp

@[simp] theorem Pkg.uncached_setSlice (s : Pkg) (k : Nat) (x : Slice) : (s.setSlice k x).uncached = s.uncached := rfl

@[simp] theorem Pkg.uncached_dropLine (s : Pkg) (l : Nat) : (s.dropLine l).uncached = s.uncached := rfl

theorem Pkg.uncached_dropLines (ls : List Nat) (s : Pkg) : (ls.foldl Pkg.dropLine s).uncached = s.uncached := by
  induction ls generalizing s with
  | nil => rfl
  | cons l ls ih => simp only [List.foldl_cons, ih, Pkg.uncached_dropLine]

theorem Pkg.uncached_cache (s : Pkg) (c : Tab CLine) (d : Tab Nat) : ({ s with scache := c, cached := d } : Pkg).uncached = s.uncached := rfl

@[simp] theorem Pkg.uncached_fillLine (s : Pkg) (l a : Nat) : (s.fillLine l a).uncached = s.uncached := by
  simp only [Pkg.fillLine]
  split
  · rfl
  · split
    · rfl
    · exact Pkg.uncached_dropLines _ _

@[simp] theorem Pkg.uncached_loadLine (s : Pkg) (h l : Nat) (b : Bool) : (s.loadLine h l b).2.uncached = s.uncached := by
  unfold Pkg.loadLine
  simp only
  split
  · rw [Pkg.uncached_bump]
    rfl
  · show (Pkg.fillLine _ l _).uncached = _
    simp

theorem Pkg.uncached_loadLines (h : Nat) (b : Bool) (ls : List Nat) (r : List Byte × Pkg) :
    (ls.foldl (fun (r : List Byte × Pkg) l => let (d, s) := r.2.loadLine h l b
      (r.1 ++ d, s)) r).2.uncached = r.2.uncached := by
  induction ls generalizing r with
  | nil => rfl
  | cons l ls ih => simp only [List.foldl_cons, ih, Pkg.uncached_loadLine]

/-- A load by the home slices changes the shared cache only. -/
@[simp] theorem Pkg.uncached_loadBytes (s : Pkg) (h a n : Nat) (b : Bool) : (s.loadBytes h a n b).2.uncached = s.uncached :=
  Pkg.uncached_loadLines h b _ _

@[simp] theorem Pkg.uncached_hartAddrError (s : Pkg) (h a n : Nat) : (s.hartAddrError h a n).uncached = s.uncached := by
  unfold Pkg.hartAddrError
  split
  · rfl
  · exact Pkg.uncached_addrError _ _ _ _

theorem Pkg.uncached_walk (h kind va lvl : Nat) : ∀ (ppn : Nat) (s : Pkg), (s.walk h kind va lvl ppn).2.uncached = s.uncached := by
  induction lvl with
  | zero => intros; rfl
  | succ n ih =>
    intro ppn s
    unfold Pkg.walk
    dsimp only
    split
    · repeat' split
      all_goals simp [ih]
    · simp
    · simp
    · rfl

@[simp] theorem Pkg.uncached_translate (s : Pkg) (h kind va : Nat) : (s.translate h kind va).2.uncached = s.uncached := by
  unfold Pkg.translate
  simp only
  split
  · split
    · rfl
    · exact Pkg.uncached_walk _ _ _ _ _ _
  · split
    · rfl
    · exact Pkg.uncached_walk _ _ _ _ _ _
  · rfl

theorem Pkg.uncached_targets (h kind : Nat) (ps : List (Nat × Nat)) : ∀ s : Pkg, (s.targets h kind ps).2.uncached = s.uncached := by
  induction ps with
  | nil => intro s; rfl
  | cons q t ih =>
    intro s
    obtain ⟨va, n⟩ := q
    have hx := s.uncached_translate h kind va
    unfold Pkg.targets
    split
    · next hk => rw [hk] at hx; exact hx
    · next hk => rw [hk] at hx; exact hx
    · next pa k hk =>
      rw [hk] at hx
      have ht := ih k
      dsimp only
      split
      · exact hx
      · split
        · next hr => rw [hr] at ht; exact ht.trans hx
        · exact ht.trans hx

/-- Resolving an access changes the shared cache, and counters of the dictionary. -/
@[simp] theorem Pkg.uncached_resolve (h kind : Nat) (ps : List (Nat × Nat)) (s : Pkg) : (s.resolve h kind ps).2.uncached = s.uncached := by
  have ht := Pkg.uncached_targets h kind ps s
  unfold Pkg.resolve
  split
  · next hk => rw [hk] at ht; exact ht
  · next hk =>
    rw [hk] at ht
    dsimp only
    split
    · dsimp only
      split
      · rw [Pkg.uncached_hartAddrError]; exact ht
      · exact ht
    · exact ht

@[simp] theorem Pkg.uncached_ctlRead (s : Pkg) (a n : Nat) : (s.ctlRead a n).2.uncached = s.uncached := by
  unfold Pkg.ctlRead
  split <;> rfl

@[simp] theorem Pkg.uncached_fetch2 (s : Pkg) (h va : Nat) : (s.fetch2 h va).2.uncached = s.uncached := by
  have hr := s.uncached_resolve h 0 [(va, 2)]
  unfold Pkg.fetch2
  split
  · next hk => rw [hk] at hr; simp only [Pkg.uncached_loadBytes]; exact hr
  · next hk => rw [hk] at hr; simp only [Pkg.uncached_ctlRead]; exact hr
  · next hk => rw [hk] at hr; exact hr
  · next hk => rw [hk] at hr; simp only [Pkg.uncached_hartAddrError]; exact hr
  · next hk => rw [hk] at hr; exact hr

/-- A fetch changes the shared cache, counters of the dictionary and the count of free values. -/
@[simp] theorem Pkg.uncached_hFetch (s : Pkg) (h : Nat) : (s.hFetch h).2.uncached = s.uncached := by
  have h1 := s.uncached_fetch2 h (s.hart h).a.pc.toNat
  unfold Pkg.hFetch
  simp only
  split
  · next hk => rw [hk] at h1; exact h1
  · next lo k hk =>
    rw [hk] at h1
    split
    · exact h1
    · have h2 := k.uncached_fetch2 h (((s.hart h).a.pc.toNat + 2) % 2 ^ 64)
      split
      · next hk => rw [hk] at h2; exact h2.trans h1
      · next hk => rw [hk] at h2; exact h2.trans h1

theorem Pkg.hart_of_uncached {s t : Pkg} (e : s.uncached = t.uncached) (h : Nat) : s.hart h = t.hart h :=
  have := congrArg (fun (k : Pkg) => k.hart h) e; this

theorem Pkg.dstore_of_uncached {s t : Pkg} (e : s.uncached = t.uncached) : s.dstore = t.dstore :=
  have := congrArg (fun (k : Pkg) => k.dstore) e
  this

/-- The hart after its fetch is the hart before it. -/
theorem Pkg.hart_of_hFetch {s k : Pkg} {h : Nat} {r : HFetch} (e : s.hFetch h = (r, k)) (j : Nat) : k.hart j = s.hart j :=
  Pkg.hart_of_uncached (by rw [← s.uncached_hFetch h, e]) j

end Sys2Proof
end

