-- ==== Sys2Proof/Laws/State.lean ====
section
/-!
SUPPORT. What each field of the package is after each named update, and what a changed unit reads back as.
-/

namespace Sys2Proof

-- `Pkg.setTile` changes `tiles` alone.
@[simp] theorem Pkg.setTile_tempo (s : Pkg) (t : Nat) (x : Tile) : (s.setTile t x).tempo = s.tempo := rfl
@[simp] theorem Pkg.setTile_parts (s : Pkg) (t : Nat) (x : Tile) : (s.setTile t x).parts = s.parts := rfl
@[simp] theorem Pkg.setTile_dstore (s : Pkg) (t : Nat) (x : Tile) : (s.setTile t x).dstore = s.dstore := rfl
@[simp] theorem Pkg.setTile_cached (s : Pkg) (t : Nat) (x : Tile) : (s.setTile t x).cached = s.cached := rfl
@[simp] theorem Pkg.setTile_sdies (s : Pkg) (t : Nat) (x : Tile) : (s.setTile t x).sdies = s.sdies := rfl
@[simp] theorem Pkg.setTile_dict (s : Pkg) (t : Nat) (x : Tile) : (s.setTile t x).dict = s.dict := rfl
@[simp] theorem Pkg.setTile_net (s : Pkg) (t : Nat) (x : Tile) : (s.setTile t x).net = s.net := rfl
@[simp] theorem Pkg.setTile_engines (s : Pkg) (t : Nat) (x : Tile) : (s.setTile t x).engines = s.engines := rfl
@[simp] theorem Pkg.setTile_solveWait (s : Pkg) (t : Nat) (x : Tile) : (s.setTile t x).solveWait = s.solveWait := rfl
@[simp] theorem Pkg.setTile_stamp (s : Pkg) (t : Nat) (x : Tile) : (s.setTile t x).stamp = s.stamp := rfl
@[simp] theorem Pkg.setTile_harts (s : Pkg) (t : Nat) (x : Tile) : (s.setTile t x).harts = s.harts := rfl
@[simp] theorem Pkg.setTile_cores (s : Pkg) (t : Nat) (x : Tile) : (s.setTile t x).cores = s.cores := rfl
@[simp] theorem Pkg.setTile_scache (s : Pkg) (t : Nat) (x : Tile) : (s.setTile t x).scache = s.scache := rfl
@[simp] theorem Pkg.setTile_slices (s : Pkg) (t : Nat) (x : Tile) : (s.setTile t x).slices = s.slices := rfl
@[simp] theorem Pkg.setTile_invals (s : Pkg) (t : Nat) (x : Tile) : (s.setTile t x).invals = s.invals := rfl
@[simp] theorem Pkg.setTile_relWait (s : Pkg) (t : Nat) (x : Tile) : (s.setTile t x).relWait = s.relWait := rfl
@[simp] theorem Pkg.setTile_tier (s : Pkg) (t : Nat) (x : Tile) : (s.setTile t x).tier = s.tier := rfl
@[simp] theorem Pkg.setTile_lports (s : Pkg) (t : Nat) (x : Tile) : (s.setTile t x).lports = s.lports := rfl
@[simp] theorem Pkg.setTile_colls (s : Pkg) (t : Nat) (x : Tile) : (s.setTile t x).colls = s.colls := rfl
@[simp] theorem Pkg.setTile_collWait (s : Pkg) (t : Nat) (x : Tile) : (s.setTile t x).collWait = s.collWait := rfl
@[simp] theorem Pkg.setTile_collGone (s : Pkg) (t : Nat) (x : Tile) : (s.setTile t x).collGone = s.collGone := rfl
@[simp] theorem Pkg.setTile_fault (s : Pkg) (t : Nat) (x : Tile) : (s.setTile t x).fault = s.fault := rfl
@[simp] theorem Pkg.setTile_fw (s : Pkg) (t : Nat) (x : Tile) : (s.setTile t x).fw = s.fw := rfl
@[simp] theorem Pkg.setTile_mgmt (s : Pkg) (t : Nat) (x : Tile) : (s.setTile t x).mgmt = s.mgmt := rfl
@[simp] theorem Pkg.setTile_pcie (s : Pkg) (t : Nat) (x : Tile) : (s.setTile t x).pcie = s.pcie := rfl
@[simp] theorem Pkg.setTile_tap (s : Pkg) (t : Nat) (x : Tile) : (s.setTile t x).tap = s.tap := rfl
@[simp] theorem Pkg.setTile_pins (s : Pkg) (t : Nat) (x : Tile) : (s.setTile t x).pins = s.pins := rfl
@[simp] theorem Pkg.setTile_pow (s : Pkg) (t : Nat) (x : Tile) : (s.setTile t x).pow = s.pow := rfl
@[simp] theorem Pkg.setTile_log (s : Pkg) (t : Nat) (x : Tile) : (s.setTile t x).log = s.log := rfl
@[simp] theorem Pkg.setTile_out (s : Pkg) (t : Nat) (x : Tile) : (s.setTile t x).out = s.out := rfl
@[simp] theorem Pkg.setTile_free (s : Pkg) (t : Nat) (x : Tile) : (s.setTile t x).free = s.free := rfl

-- `Pkg.setPart` changes `parts` alone.
@[simp] theorem Pkg.setPart_tempo (s : Pkg) (p : Nat) (x : Part) : (s.setPart p x).tempo = s.tempo := rfl
@[simp] theorem Pkg.setPart_tiles (s : Pkg) (p : Nat) (x : Part) : (s.setPart p x).tiles = s.tiles := rfl
@[simp] theorem Pkg.setPart_dstore (s : Pkg) (p : Nat) (x : Part) : (s.setPart p x).dstore = s.dstore := rfl
@[simp] theorem Pkg.setPart_cached (s : Pkg) (p : Nat) (x : Part) : (s.setPart p x).cached = s.cached := rfl
@[simp] theorem Pkg.setPart_sdies (s : Pkg) (p : Nat) (x : Part) : (s.setPart p x).sdies = s.sdies := rfl
@[simp] theorem Pkg.setPart_dict (s : Pkg) (p : Nat) (x : Part) : (s.setPart p x).dict = s.dict := rfl
@[simp] theorem Pkg.setPart_net (s : Pkg) (p : Nat) (x : Part) : (s.setPart p x).net = s.net := rfl
@[simp] theorem Pkg.setPart_engines (s : Pkg) (p : Nat) (x : Part) : (s.setPart p x).engines = s.engines := rfl
@[simp] theorem Pkg.setPart_solveWait (s : Pkg) (p : Nat) (x : Part) : (s.setPart p x).solveWait = s.solveWait := rfl
@[simp] theorem Pkg.setPart_stamp (s : Pkg) (p : Nat) (x : Part) : (s.setPart p x).stamp = s.stamp := rfl
@[simp] theorem Pkg.setPart_harts (s : Pkg) (p : Nat) (x : Part) : (s.setPart p x).harts = s.harts := rfl
@[simp] theorem Pkg.setPart_cores (s : Pkg) (p : Nat) (x : Part) : (s.setPart p x).cores = s.cores := rfl
@[simp] theorem Pkg.setPart_scache (s : Pkg) (p : Nat) (x : Part) : (s.setPart p x).scache = s.scache := rfl
@[simp] theorem Pkg.setPart_slices (s : Pkg) (p : Nat) (x : Part) : (s.setPart p x).slices = s.slices := rfl
@[simp] theorem Pkg.setPart_invals (s : Pkg) (p : Nat) (x : Part) : (s.setPart p x).invals = s.invals := rfl
@[simp] theorem Pkg.setPart_relWait (s : Pkg) (p : Nat) (x : Part) : (s.setPart p x).relWait = s.relWait := rfl
@[simp] theorem Pkg.setPart_tier (s : Pkg) (p : Nat) (x : Part) : (s.setPart p x).tier = s.tier := rfl
@[simp] theorem Pkg.setPart_lports (s : Pkg) (p : Nat) (x : Part) : (s.setPart p x).lports = s.lports := rfl
@[simp] theorem Pkg.setPart_colls (s : Pkg) (p : Nat) (x : Part) : (s.setPart p x).colls = s.colls := rfl
@[simp] theorem Pkg.setPart_collWait (s : Pkg) (p : Nat) (x : Part) : (s.setPart p x).collWait = s.collWait := rfl
@[simp] theorem Pkg.setPart_collGone (s : Pkg) (p : Nat) (x : Part) : (s.setPart p x).collGone = s.collGone := rfl
@[simp] theorem Pkg.setPart_fault (s : Pkg) (p : Nat) (x : Part) : (s.setPart p x).fault = s.fault := rfl
@[simp] theorem Pkg.setPart_fw (s : Pkg) (p : Nat) (x : Part) : (s.setPart p x).fw = s.fw := rfl
@[simp] theorem Pkg.setPart_mgmt (s : Pkg) (p : Nat) (x : Part) : (s.setPart p x).mgmt = s.mgmt := rfl
@[simp] theorem Pkg.setPart_pcie (s : Pkg) (p : Nat) (x : Part) : (s.setPart p x).pcie = s.pcie := rfl
@[simp] theorem Pkg.setPart_tap (s : Pkg) (p : Nat) (x : Part) : (s.setPart p x).tap = s.tap := rfl
@[simp] theorem Pkg.setPart_pins (s : Pkg) (p : Nat) (x : Part) : (s.setPart p x).pins = s.pins := rfl
@[simp] theorem Pkg.setPart_pow (s : Pkg) (p : Nat) (x : Part) : (s.setPart p x).pow = s.pow := rfl
@[simp] theorem Pkg.setPart_log (s : Pkg) (p : Nat) (x : Part) : (s.setPart p x).log = s.log := rfl
@[simp] theorem Pkg.setPart_out (s : Pkg) (p : Nat) (x : Part) : (s.setPart p x).out = s.out := rfl
@[simp] theorem Pkg.setPart_free (s : Pkg) (p : Nat) (x : Part) : (s.setPart p x).free = s.free := rfl

-- `Pkg.setMem` changes `parts` alone.
@[simp] theorem Pkg.setMem_tempo (s : Pkg) (p : Nat) (m : Member) : (s.setMem p m).tempo = s.tempo := rfl
@[simp] theorem Pkg.setMem_tiles (s : Pkg) (p : Nat) (m : Member) : (s.setMem p m).tiles = s.tiles := rfl
@[simp] theorem Pkg.setMem_dstore (s : Pkg) (p : Nat) (m : Member) : (s.setMem p m).dstore = s.dstore := rfl
@[simp] theorem Pkg.setMem_cached (s : Pkg) (p : Nat) (m : Member) : (s.setMem p m).cached = s.cached := rfl
@[simp] theorem Pkg.setMem_sdies (s : Pkg) (p : Nat) (m : Member) : (s.setMem p m).sdies = s.sdies := rfl
@[simp] theorem Pkg.setMem_dict (s : Pkg) (p : Nat) (m : Member) : (s.setMem p m).dict = s.dict := rfl
@[simp] theorem Pkg.setMem_net (s : Pkg) (p : Nat) (m : Member) : (s.setMem p m).net = s.net := rfl
@[simp] theorem Pkg.setMem_engines (s : Pkg) (p : Nat) (m : Member) : (s.setMem p m).engines = s.engines := rfl
@[simp] theorem Pkg.setMem_solveWait (s : Pkg) (p : Nat) (m : Member) : (s.setMem p m).solveWait = s.solveWait := rfl
@[simp] theorem Pkg.setMem_stamp (s : Pkg) (p : Nat) (m : Member) : (s.setMem p m).stamp = s.stamp := rfl
@[simp] theorem Pkg.setMem_harts (s : Pkg) (p : Nat) (m : Member) : (s.setMem p m).harts = s.harts := rfl
@[simp] theorem Pkg.setMem_cores (s : Pkg) (p : Nat) (m : Member) : (s.setMem p m).cores = s.cores := rfl
@[simp] theorem Pkg.setMem_scache (s : Pkg) (p : Nat) (m : Member) : (s.setMem p m).scache = s.scache := rfl
@[simp] theorem Pkg.setMem_slices (s : Pkg) (p : Nat) (m : Member) : (s.setMem p m).slices = s.slices := rfl
@[simp] theorem Pkg.setMem_invals (s : Pkg) (p : Nat) (m : Member) : (s.setMem p m).invals = s.invals := rfl
@[simp] theorem Pkg.setMem_relWait (s : Pkg) (p : Nat) (m : Member) : (s.setMem p m).relWait = s.relWait := rfl
@[simp] theorem Pkg.setMem_tier (s : Pkg) (p : Nat) (m : Member) : (s.setMem p m).tier = s.tier := rfl
@[simp] theorem Pkg.setMem_lports (s : Pkg) (p : Nat) (m : Member) : (s.setMem p m).lports = s.lports := rfl
@[simp] theorem Pkg.setMem_colls (s : Pkg) (p : Nat) (m : Member) : (s.setMem p m).colls = s.colls := rfl
@[simp] theorem Pkg.setMem_collWait (s : Pkg) (p : Nat) (m : Member) : (s.setMem p m).collWait = s.collWait := rfl
@[simp] theorem Pkg.setMem_collGone (s : Pkg) (p : Nat) (m : Member) : (s.setMem p m).collGone = s.collGone := rfl
@[simp] theorem Pkg.setMem_fault (s : Pkg) (p : Nat) (m : Member) : (s.setMem p m).fault = s.fault := rfl
@[simp] theorem Pkg.setMem_fw (s : Pkg) (p : Nat) (m : Member) : (s.setMem p m).fw = s.fw := rfl
@[simp] theorem Pkg.setMem_mgmt (s : Pkg) (p : Nat) (m : Member) : (s.setMem p m).mgmt = s.mgmt := rfl
@[simp] theorem Pkg.setMem_pcie (s : Pkg) (p : Nat) (m : Member) : (s.setMem p m).pcie = s.pcie := rfl
@[simp] theorem Pkg.setMem_tap (s : Pkg) (p : Nat) (m : Member) : (s.setMem p m).tap = s.tap := rfl
@[simp] theorem Pkg.setMem_pins (s : Pkg) (p : Nat) (m : Member) : (s.setMem p m).pins = s.pins := rfl
@[simp] theorem Pkg.setMem_pow (s : Pkg) (p : Nat) (m : Member) : (s.setMem p m).pow = s.pow := rfl
@[simp] theorem Pkg.setMem_log (s : Pkg) (p : Nat) (m : Member) : (s.setMem p m).log = s.log := rfl
@[simp] theorem Pkg.setMem_out (s : Pkg) (p : Nat) (m : Member) : (s.setMem p m).out = s.out := rfl
@[simp] theorem Pkg.setMem_free (s : Pkg) (p : Nat) (m : Member) : (s.setMem p m).free = s.free := rfl

-- `Pkg.setQ` changes `parts` alone.
@[simp] theorem Pkg.setQ_tempo (s : Pkg) (p : Nat) (q : Queue) : (s.setQ p q).tempo = s.tempo := rfl
@[simp] theorem Pkg.setQ_tiles (s : Pkg) (p : Nat) (q : Queue) : (s.setQ p q).tiles = s.tiles := rfl
@[simp] theorem Pkg.setQ_dstore (s : Pkg) (p : Nat) (q : Queue) : (s.setQ p q).dstore = s.dstore := rfl
@[simp] theorem Pkg.setQ_cached (s : Pkg) (p : Nat) (q : Queue) : (s.setQ p q).cached = s.cached := rfl
@[simp] theorem Pkg.setQ_sdies (s : Pkg) (p : Nat) (q : Queue) : (s.setQ p q).sdies = s.sdies := rfl
@[simp] theorem Pkg.setQ_dict (s : Pkg) (p : Nat) (q : Queue) : (s.setQ p q).dict = s.dict := rfl
@[simp] theorem Pkg.setQ_net (s : Pkg) (p : Nat) (q : Queue) : (s.setQ p q).net = s.net := rfl
@[simp] theorem Pkg.setQ_engines (s : Pkg) (p : Nat) (q : Queue) : (s.setQ p q).engines = s.engines := rfl
@[simp] theorem Pkg.setQ_solveWait (s : Pkg) (p : Nat) (q : Queue) : (s.setQ p q).solveWait = s.solveWait := rfl
@[simp] theorem Pkg.setQ_stamp (s : Pkg) (p : Nat) (q : Queue) : (s.setQ p q).stamp = s.stamp := rfl
@[simp] theorem Pkg.setQ_harts (s : Pkg) (p : Nat) (q : Queue) : (s.setQ p q).harts = s.harts := rfl
@[simp] theorem Pkg.setQ_cores (s : Pkg) (p : Nat) (q : Queue) : (s.setQ p q).cores = s.cores := rfl
@[simp] theorem Pkg.setQ_scache (s : Pkg) (p : Nat) (q : Queue) : (s.setQ p q).scache = s.scache := rfl
@[simp] theorem Pkg.setQ_slices (s : Pkg) (p : Nat) (q : Queue) : (s.setQ p q).slices = s.slices := rfl
@[simp] theorem Pkg.setQ_invals (s : Pkg) (p : Nat) (q : Queue) : (s.setQ p q).invals = s.invals := rfl
@[simp] theorem Pkg.setQ_relWait (s : Pkg) (p : Nat) (q : Queue) : (s.setQ p q).relWait = s.relWait := rfl
@[simp] theorem Pkg.setQ_tier (s : Pkg) (p : Nat) (q : Queue) : (s.setQ p q).tier = s.tier := rfl
@[simp] theorem Pkg.setQ_lports (s : Pkg) (p : Nat) (q : Queue) : (s.setQ p q).lports = s.lports := rfl
@[simp] theorem Pkg.setQ_colls (s : Pkg) (p : Nat) (q : Queue) : (s.setQ p q).colls = s.colls := rfl
@[simp] theorem Pkg.setQ_collWait (s : Pkg) (p : Nat) (q : Queue) : (s.setQ p q).collWait = s.collWait := rfl
@[simp] theorem Pkg.setQ_collGone (s : Pkg) (p : Nat) (q : Queue) : (s.setQ p q).collGone = s.collGone := rfl
@[simp] theorem Pkg.setQ_fault (s : Pkg) (p : Nat) (q : Queue) : (s.setQ p q).fault = s.fault := rfl
@[simp] theorem Pkg.setQ_fw (s : Pkg) (p : Nat) (q : Queue) : (s.setQ p q).fw = s.fw := rfl
@[simp] theorem Pkg.setQ_mgmt (s : Pkg) (p : Nat) (q : Queue) : (s.setQ p q).mgmt = s.mgmt := rfl
@[simp] theorem Pkg.setQ_pcie (s : Pkg) (p : Nat) (q : Queue) : (s.setQ p q).pcie = s.pcie := rfl
@[simp] theorem Pkg.setQ_tap (s : Pkg) (p : Nat) (q : Queue) : (s.setQ p q).tap = s.tap := rfl
@[simp] theorem Pkg.setQ_pins (s : Pkg) (p : Nat) (q : Queue) : (s.setQ p q).pins = s.pins := rfl
@[simp] theorem Pkg.setQ_pow (s : Pkg) (p : Nat) (q : Queue) : (s.setQ p q).pow = s.pow := rfl
@[simp] theorem Pkg.setQ_log (s : Pkg) (p : Nat) (q : Queue) : (s.setQ p q).log = s.log := rfl
@[simp] theorem Pkg.setQ_out (s : Pkg) (p : Nat) (q : Queue) : (s.setQ p q).out = s.out := rfl
@[simp] theorem Pkg.setQ_free (s : Pkg) (p : Nat) (q : Queue) : (s.setQ p q).free = s.free := rfl

-- `Pkg.setCap` changes `parts` alone.
@[simp] theorem Pkg.setCap_tempo (s : Pkg) (p : Nat) (c : Option Capture) : (s.setCap p c).tempo = s.tempo := rfl
@[simp] theorem Pkg.setCap_tiles (s : Pkg) (p : Nat) (c : Option Capture) : (s.setCap p c).tiles = s.tiles := rfl
@[simp] theorem Pkg.setCap_dstore (s : Pkg) (p : Nat) (c : Option Capture) : (s.setCap p c).dstore = s.dstore := rfl
@[simp] theorem Pkg.setCap_cached (s : Pkg) (p : Nat) (c : Option Capture) : (s.setCap p c).cached = s.cached := rfl
@[simp] theorem Pkg.setCap_sdies (s : Pkg) (p : Nat) (c : Option Capture) : (s.setCap p c).sdies = s.sdies := rfl
@[simp] theorem Pkg.setCap_dict (s : Pkg) (p : Nat) (c : Option Capture) : (s.setCap p c).dict = s.dict := rfl
@[simp] theorem Pkg.setCap_net (s : Pkg) (p : Nat) (c : Option Capture) : (s.setCap p c).net = s.net := rfl
@[simp] theorem Pkg.setCap_engines (s : Pkg) (p : Nat) (c : Option Capture) : (s.setCap p c).engines = s.engines := rfl
@[simp] theorem Pkg.setCap_solveWait (s : Pkg) (p : Nat) (c : Option Capture) : (s.setCap p c).solveWait = s.solveWait := rfl
@[simp] theorem Pkg.setCap_stamp (s : Pkg) (p : Nat) (c : Option Capture) : (s.setCap p c).stamp = s.stamp := rfl
@[simp] theorem Pkg.setCap_harts (s : Pkg) (p : Nat) (c : Option Capture) : (s.setCap p c).harts = s.harts := rfl
@[simp] theorem Pkg.setCap_cores (s : Pkg) (p : Nat) (c : Option Capture) : (s.setCap p c).cores = s.cores := rfl
@[simp] theorem Pkg.setCap_scache (s : Pkg) (p : Nat) (c : Option Capture) : (s.setCap p c).scache = s.scache := rfl
@[simp] theorem Pkg.setCap_slices (s : Pkg) (p : Nat) (c : Option Capture) : (s.setCap p c).slices = s.slices := rfl
@[simp] theorem Pkg.setCap_invals (s : Pkg) (p : Nat) (c : Option Capture) : (s.setCap p c).invals = s.invals := rfl
@[simp] theorem Pkg.setCap_relWait (s : Pkg) (p : Nat) (c : Option Capture) : (s.setCap p c).relWait = s.relWait := rfl
@[simp] theorem Pkg.setCap_tier (s : Pkg) (p : Nat) (c : Option Capture) : (s.setCap p c).tier = s.tier := rfl
@[simp] theorem Pkg.setCap_lports (s : Pkg) (p : Nat) (c : Option Capture) : (s.setCap p c).lports = s.lports := rfl
@[simp] theorem Pkg.setCap_colls (s : Pkg) (p : Nat) (c : Option Capture) : (s.setCap p c).colls = s.colls := rfl
@[simp] theorem Pkg.setCap_collWait (s : Pkg) (p : Nat) (c : Option Capture) : (s.setCap p c).collWait = s.collWait := rfl
@[simp] theorem Pkg.setCap_collGone (s : Pkg) (p : Nat) (c : Option Capture) : (s.setCap p c).collGone = s.collGone := rfl
@[simp] theorem Pkg.setCap_fault (s : Pkg) (p : Nat) (c : Option Capture) : (s.setCap p c).fault = s.fault := rfl
@[simp] theorem Pkg.setCap_fw (s : Pkg) (p : Nat) (c : Option Capture) : (s.setCap p c).fw = s.fw := rfl
@[simp] theorem Pkg.setCap_mgmt (s : Pkg) (p : Nat) (c : Option Capture) : (s.setCap p c).mgmt = s.mgmt := rfl
@[simp] theorem Pkg.setCap_pcie (s : Pkg) (p : Nat) (c : Option Capture) : (s.setCap p c).pcie = s.pcie := rfl
@[simp] theorem Pkg.setCap_tap (s : Pkg) (p : Nat) (c : Option Capture) : (s.setCap p c).tap = s.tap := rfl
@[simp] theorem Pkg.setCap_pins (s : Pkg) (p : Nat) (c : Option Capture) : (s.setCap p c).pins = s.pins := rfl
@[simp] theorem Pkg.setCap_pow (s : Pkg) (p : Nat) (c : Option Capture) : (s.setCap p c).pow = s.pow := rfl
@[simp] theorem Pkg.setCap_log (s : Pkg) (p : Nat) (c : Option Capture) : (s.setCap p c).log = s.log := rfl
@[simp] theorem Pkg.setCap_out (s : Pkg) (p : Nat) (c : Option Capture) : (s.setCap p c).out = s.out := rfl
@[simp] theorem Pkg.setCap_free (s : Pkg) (p : Nat) (c : Option Capture) : (s.setCap p c).free = s.free := rfl

-- `Pkg.setRec` changes `parts` alone.
@[simp] theorem Pkg.setRec_tempo (s : Pkg) (p : Nat) (r : Recording) : (s.setRec p r).tempo = s.tempo := rfl
@[simp] theorem Pkg.setRec_tiles (s : Pkg) (p : Nat) (r : Recording) : (s.setRec p r).tiles = s.tiles := rfl
@[simp] theorem Pkg.setRec_dstore (s : Pkg) (p : Nat) (r : Recording) : (s.setRec p r).dstore = s.dstore := rfl
@[simp] theorem Pkg.setRec_cached (s : Pkg) (p : Nat) (r : Recording) : (s.setRec p r).cached = s.cached := rfl
@[simp] theorem Pkg.setRec_sdies (s : Pkg) (p : Nat) (r : Recording) : (s.setRec p r).sdies = s.sdies := rfl
@[simp] theorem Pkg.setRec_dict (s : Pkg) (p : Nat) (r : Recording) : (s.setRec p r).dict = s.dict := rfl
@[simp] theorem Pkg.setRec_net (s : Pkg) (p : Nat) (r : Recording) : (s.setRec p r).net = s.net := rfl
@[simp] theorem Pkg.setRec_engines (s : Pkg) (p : Nat) (r : Recording) : (s.setRec p r).engines = s.engines := rfl
@[simp] theorem Pkg.setRec_solveWait (s : Pkg) (p : Nat) (r : Recording) : (s.setRec p r).solveWait = s.solveWait := rfl
@[simp] theorem Pkg.setRec_stamp (s : Pkg) (p : Nat) (r : Recording) : (s.setRec p r).stamp = s.stamp := rfl
@[simp] theorem Pkg.setRec_harts (s : Pkg) (p : Nat) (r : Recording) : (s.setRec p r).harts = s.harts := rfl
@[simp] theorem Pkg.setRec_cores (s : Pkg) (p : Nat) (r : Recording) : (s.setRec p r).cores = s.cores := rfl
@[simp] theorem Pkg.setRec_scache (s : Pkg) (p : Nat) (r : Recording) : (s.setRec p r).scache = s.scache := rfl
@[simp] theorem Pkg.setRec_slices (s : Pkg) (p : Nat) (r : Recording) : (s.setRec p r).slices = s.slices := rfl
@[simp] theorem Pkg.setRec_invals (s : Pkg) (p : Nat) (r : Recording) : (s.setRec p r).invals = s.invals := rfl
@[simp] theorem Pkg.setRec_relWait (s : Pkg) (p : Nat) (r : Recording) : (s.setRec p r).relWait = s.relWait := rfl
@[simp] theorem Pkg.setRec_tier (s : Pkg) (p : Nat) (r : Recording) : (s.setRec p r).tier = s.tier := rfl
@[simp] theorem Pkg.setRec_lports (s : Pkg) (p : Nat) (r : Recording) : (s.setRec p r).lports = s.lports := rfl
@[simp] theorem Pkg.setRec_colls (s : Pkg) (p : Nat) (r : Recording) : (s.setRec p r).colls = s.colls := rfl
@[simp] theorem Pkg.setRec_collWait (s : Pkg) (p : Nat) (r : Recording) : (s.setRec p r).collWait = s.collWait := rfl
@[simp] theorem Pkg.setRec_collGone (s : Pkg) (p : Nat) (r : Recording) : (s.setRec p r).collGone = s.collGone := rfl
@[simp] theorem Pkg.setRec_fault (s : Pkg) (p : Nat) (r : Recording) : (s.setRec p r).fault = s.fault := rfl
@[simp] theorem Pkg.setRec_fw (s : Pkg) (p : Nat) (r : Recording) : (s.setRec p r).fw = s.fw := rfl
@[simp] theorem Pkg.setRec_mgmt (s : Pkg) (p : Nat) (r : Recording) : (s.setRec p r).mgmt = s.mgmt := rfl
@[simp] theorem Pkg.setRec_pcie (s : Pkg) (p : Nat) (r : Recording) : (s.setRec p r).pcie = s.pcie := rfl
@[simp] theorem Pkg.setRec_tap (s : Pkg) (p : Nat) (r : Recording) : (s.setRec p r).tap = s.tap := rfl
@[simp] theorem Pkg.setRec_pins (s : Pkg) (p : Nat) (r : Recording) : (s.setRec p r).pins = s.pins := rfl
@[simp] theorem Pkg.setRec_pow (s : Pkg) (p : Nat) (r : Recording) : (s.setRec p r).pow = s.pow := rfl
@[simp] theorem Pkg.setRec_log (s : Pkg) (p : Nat) (r : Recording) : (s.setRec p r).log = s.log := rfl
@[simp] theorem Pkg.setRec_out (s : Pkg) (p : Nat) (r : Recording) : (s.setRec p r).out = s.out := rfl
@[simp] theorem Pkg.setRec_free (s : Pkg) (p : Nat) (r : Recording) : (s.setRec p r).free = s.free := rfl

-- `Pkg.setSdie` changes `sdies` alone.
@[simp] theorem Pkg.setSdie_tempo (s : Pkg) (d : Nat) (x : SDie) : (s.setSdie d x).tempo = s.tempo := rfl
@[simp] theorem Pkg.setSdie_parts (s : Pkg) (d : Nat) (x : SDie) : (s.setSdie d x).parts = s.parts := rfl
@[simp] theorem Pkg.setSdie_tiles (s : Pkg) (d : Nat) (x : SDie) : (s.setSdie d x).tiles = s.tiles := rfl
@[simp] theorem Pkg.setSdie_dstore (s : Pkg) (d : Nat) (x : SDie) : (s.setSdie d x).dstore = s.dstore := rfl
@[simp] theorem Pkg.setSdie_cached (s : Pkg) (d : Nat) (x : SDie) : (s.setSdie d x).cached = s.cached := rfl
@[simp] theorem Pkg.setSdie_dict (s : Pkg) (d : Nat) (x : SDie) : (s.setSdie d x).dict = s.dict := rfl
@[simp] theorem Pkg.setSdie_net (s : Pkg) (d : Nat) (x : SDie) : (s.setSdie d x).net = s.net := rfl
@[simp] theorem Pkg.setSdie_engines (s : Pkg) (d : Nat) (x : SDie) : (s.setSdie d x).engines = s.engines := rfl
@[simp] theorem Pkg.setSdie_solveWait (s : Pkg) (d : Nat) (x : SDie) : (s.setSdie d x).solveWait = s.solveWait := rfl
@[simp] theorem Pkg.setSdie_stamp (s : Pkg) (d : Nat) (x : SDie) : (s.setSdie d x).stamp = s.stamp := rfl
@[simp] theorem Pkg.setSdie_harts (s : Pkg) (d : Nat) (x : SDie) : (s.setSdie d x).harts = s.harts := rfl
@[simp] theorem Pkg.setSdie_cores (s : Pkg) (d : Nat) (x : SDie) : (s.setSdie d x).cores = s.cores := rfl
@[simp] theorem Pkg.setSdie_scache (s : Pkg) (d : Nat) (x : SDie) : (s.setSdie d x).scache = s.scache := rfl
@[simp] theorem Pkg.setSdie_slices (s : Pkg) (d : Nat) (x : SDie) : (s.setSdie d x).slices = s.slices := rfl
@[simp] theorem Pkg.setSdie_invals (s : Pkg) (d : Nat) (x : SDie) : (s.setSdie d x).invals = s.invals := rfl
@[simp] theorem Pkg.setSdie_relWait (s : Pkg) (d : Nat) (x : SDie) : (s.setSdie d x).relWait = s.relWait := rfl
@[simp] theorem Pkg.setSdie_tier (s : Pkg) (d : Nat) (x : SDie) : (s.setSdie d x).tier = s.tier := rfl
@[simp] theorem Pkg.setSdie_lports (s : Pkg) (d : Nat) (x : SDie) : (s.setSdie d x).lports = s.lports := rfl
@[simp] theorem Pkg.setSdie_colls (s : Pkg) (d : Nat) (x : SDie) : (s.setSdie d x).colls = s.colls := rfl
@[simp] theorem Pkg.setSdie_collWait (s : Pkg) (d : Nat) (x : SDie) : (s.setSdie d x).collWait = s.collWait := rfl
@[simp] theorem Pkg.setSdie_collGone (s : Pkg) (d : Nat) (x : SDie) : (s.setSdie d x).collGone = s.collGone := rfl
@[simp] theorem Pkg.setSdie_fault (s : Pkg) (d : Nat) (x : SDie) : (s.setSdie d x).fault = s.fault := rfl
@[simp] theorem Pkg.setSdie_fw (s : Pkg) (d : Nat) (x : SDie) : (s.setSdie d x).fw = s.fw := rfl
@[simp] theorem Pkg.setSdie_mgmt (s : Pkg) (d : Nat) (x : SDie) : (s.setSdie d x).mgmt = s.mgmt := rfl
@[simp] theorem Pkg.setSdie_pcie (s : Pkg) (d : Nat) (x : SDie) : (s.setSdie d x).pcie = s.pcie := rfl
@[simp] theorem Pkg.setSdie_tap (s : Pkg) (d : Nat) (x : SDie) : (s.setSdie d x).tap = s.tap := rfl
@[simp] theorem Pkg.setSdie_pins (s : Pkg) (d : Nat) (x : SDie) : (s.setSdie d x).pins = s.pins := rfl
@[simp] theorem Pkg.setSdie_pow (s : Pkg) (d : Nat) (x : SDie) : (s.setSdie d x).pow = s.pow := rfl
@[simp] theorem Pkg.setSdie_log (s : Pkg) (d : Nat) (x : SDie) : (s.setSdie d x).log = s.log := rfl
@[simp] theorem Pkg.setSdie_out (s : Pkg) (d : Nat) (x : SDie) : (s.setSdie d x).out = s.out := rfl
@[simp] theorem Pkg.setSdie_free (s : Pkg) (d : Nat) (x : SDie) : (s.setSdie d x).free = s.free := rfl

-- `Pkg.setPort` changes `net` alone.
@[simp] theorem Pkg.setPort_tempo (s : Pkg) (n : Nat) (x : APort) : (s.setPort n x).tempo = s.tempo := rfl
@[simp] theorem Pkg.setPort_parts (s : Pkg) (n : Nat) (x : APort) : (s.setPort n x).parts = s.parts := rfl
@[simp] theorem Pkg.setPort_tiles (s : Pkg) (n : Nat) (x : APort) : (s.setPort n x).tiles = s.tiles := rfl
@[simp] theorem Pkg.setPort_dstore (s : Pkg) (n : Nat) (x : APort) : (s.setPort n x).dstore = s.dstore := rfl
@[simp] theorem Pkg.setPort_cached (s : Pkg) (n : Nat) (x : APort) : (s.setPort n x).cached = s.cached := rfl
@[simp] theorem Pkg.setPort_sdies (s : Pkg) (n : Nat) (x : APort) : (s.setPort n x).sdies = s.sdies := rfl
@[simp] theorem Pkg.setPort_dict (s : Pkg) (n : Nat) (x : APort) : (s.setPort n x).dict = s.dict := rfl
@[simp] theorem Pkg.setPort_engines (s : Pkg) (n : Nat) (x : APort) : (s.setPort n x).engines = s.engines := rfl
@[simp] theorem Pkg.setPort_solveWait (s : Pkg) (n : Nat) (x : APort) : (s.setPort n x).solveWait = s.solveWait := rfl
@[simp] theorem Pkg.setPort_stamp (s : Pkg) (n : Nat) (x : APort) : (s.setPort n x).stamp = s.stamp := rfl
@[simp] theorem Pkg.setPort_harts (s : Pkg) (n : Nat) (x : APort) : (s.setPort n x).harts = s.harts := rfl
@[simp] theorem Pkg.setPort_cores (s : Pkg) (n : Nat) (x : APort) : (s.setPort n x).cores = s.cores := rfl
@[simp] theorem Pkg.setPort_scache (s : Pkg) (n : Nat) (x : APort) : (s.setPort n x).scache = s.scache := rfl
@[simp] theorem Pkg.setPort_slices (s : Pkg) (n : Nat) (x : APort) : (s.setPort n x).slices = s.slices := rfl
@[simp] theorem Pkg.setPort_invals (s : Pkg) (n : Nat) (x : APort) : (s.setPort n x).invals = s.invals := rfl
@[simp] theorem Pkg.setPort_relWait (s : Pkg) (n : Nat) (x : APort) : (s.setPort n x).relWait = s.relWait := rfl
@[simp] theorem Pkg.setPort_tier (s : Pkg) (n : Nat) (x : APort) : (s.setPort n x).tier = s.tier := rfl
@[simp] theorem Pkg.setPort_lports (s : Pkg) (n : Nat) (x : APort) : (s.setPort n x).lports = s.lports := rfl
@[simp] theorem Pkg.setPort_colls (s : Pkg) (n : Nat) (x : APort) : (s.setPort n x).colls = s.colls := rfl
@[simp] theorem Pkg.setPort_collWait (s : Pkg) (n : Nat) (x : APort) : (s.setPort n x).collWait = s.collWait := rfl
@[simp] theorem Pkg.setPort_collGone (s : Pkg) (n : Nat) (x : APort) : (s.setPort n x).collGone = s.collGone := rfl
@[simp] theorem Pkg.setPort_fault (s : Pkg) (n : Nat) (x : APort) : (s.setPort n x).fault = s.fault := rfl
@[simp] theorem Pkg.setPort_fw (s : Pkg) (n : Nat) (x : APort) : (s.setPort n x).fw = s.fw := rfl
@[simp] theorem Pkg.setPort_mgmt (s : Pkg) (n : Nat) (x : APort) : (s.setPort n x).mgmt = s.mgmt := rfl
@[simp] theorem Pkg.setPort_pcie (s : Pkg) (n : Nat) (x : APort) : (s.setPort n x).pcie = s.pcie := rfl
@[simp] theorem Pkg.setPort_tap (s : Pkg) (n : Nat) (x : APort) : (s.setPort n x).tap = s.tap := rfl
@[simp] theorem Pkg.setPort_pins (s : Pkg) (n : Nat) (x : APort) : (s.setPort n x).pins = s.pins := rfl
@[simp] theorem Pkg.setPort_pow (s : Pkg) (n : Nat) (x : APort) : (s.setPort n x).pow = s.pow := rfl
@[simp] theorem Pkg.setPort_log (s : Pkg) (n : Nat) (x : APort) : (s.setPort n x).log = s.log := rfl
@[simp] theorem Pkg.setPort_out (s : Pkg) (n : Nat) (x : APort) : (s.setPort n x).out = s.out := rfl
@[simp] theorem Pkg.setPort_free (s : Pkg) (n : Nat) (x : APort) : (s.setPort n x).free = s.free := rfl

-- `Pkg.setReq` changes `net` alone.
@[simp] theorem Pkg.setReq_tempo (s : Pkg) (r : Req) : (s.setReq r).tempo = s.tempo := rfl
@[simp] theorem Pkg.setReq_parts (s : Pkg) (r : Req) : (s.setReq r).parts = s.parts := rfl
@[simp] theorem Pkg.setReq_tiles (s : Pkg) (r : Req) : (s.setReq r).tiles = s.tiles := rfl
@[simp] theorem Pkg.setReq_dstore (s : Pkg) (r : Req) : (s.setReq r).dstore = s.dstore := rfl
@[simp] theorem Pkg.setReq_cached (s : Pkg) (r : Req) : (s.setReq r).cached = s.cached := rfl
@[simp] theorem Pkg.setReq_sdies (s : Pkg) (r : Req) : (s.setReq r).sdies = s.sdies := rfl
@[simp] theorem Pkg.setReq_dict (s : Pkg) (r : Req) : (s.setReq r).dict = s.dict := rfl
@[simp] theorem Pkg.setReq_engines (s : Pkg) (r : Req) : (s.setReq r).engines = s.engines := rfl
@[simp] theorem Pkg.setReq_solveWait (s : Pkg) (r : Req) : (s.setReq r).solveWait = s.solveWait := rfl
@[simp] theorem Pkg.setReq_stamp (s : Pkg) (r : Req) : (s.setReq r).stamp = s.stamp := rfl
@[simp] theorem Pkg.setReq_harts (s : Pkg) (r : Req) : (s.setReq r).harts = s.harts := rfl
@[simp] theorem Pkg.setReq_cores (s : Pkg) (r : Req) : (s.setReq r).cores = s.cores := rfl
@[simp] theorem Pkg.setReq_scache (s : Pkg) (r : Req) : (s.setReq r).scache = s.scache := rfl
@[simp] theorem Pkg.setReq_slices (s : Pkg) (r : Req) : (s.setReq r).slices = s.slices := rfl
@[simp] theorem Pkg.setReq_invals (s : Pkg) (r : Req) : (s.setReq r).invals = s.invals := rfl
@[simp] theorem Pkg.setReq_relWait (s : Pkg) (r : Req) : (s.setReq r).relWait = s.relWait := rfl
@[simp] theorem Pkg.setReq_tier (s : Pkg) (r : Req) : (s.setReq r).tier = s.tier := rfl
@[simp] theorem Pkg.setReq_lports (s : Pkg) (r : Req) : (s.setReq r).lports = s.lports := rfl
@[simp] theorem Pkg.setReq_colls (s : Pkg) (r : Req) : (s.setReq r).colls = s.colls := rfl
@[simp] theorem Pkg.setReq_collWait (s : Pkg) (r : Req) : (s.setReq r).collWait = s.collWait := rfl
@[simp] theorem Pkg.setReq_collGone (s : Pkg) (r : Req) : (s.setReq r).collGone = s.collGone := rfl
@[simp] theorem Pkg.setReq_fault (s : Pkg) (r : Req) : (s.setReq r).fault = s.fault := rfl
@[simp] theorem Pkg.setReq_fw (s : Pkg) (r : Req) : (s.setReq r).fw = s.fw := rfl
@[simp] theorem Pkg.setReq_mgmt (s : Pkg) (r : Req) : (s.setReq r).mgmt = s.mgmt := rfl
@[simp] theorem Pkg.setReq_pcie (s : Pkg) (r : Req) : (s.setReq r).pcie = s.pcie := rfl
@[simp] theorem Pkg.setReq_tap (s : Pkg) (r : Req) : (s.setReq r).tap = s.tap := rfl
@[simp] theorem Pkg.setReq_pins (s : Pkg) (r : Req) : (s.setReq r).pins = s.pins := rfl
@[simp] theorem Pkg.setReq_pow (s : Pkg) (r : Req) : (s.setReq r).pow = s.pow := rfl
@[simp] theorem Pkg.setReq_log (s : Pkg) (r : Req) : (s.setReq r).log = s.log := rfl
@[simp] theorem Pkg.setReq_out (s : Pkg) (r : Req) : (s.setReq r).out = s.out := rfl
@[simp] theorem Pkg.setReq_free (s : Pkg) (r : Req) : (s.setReq r).free = s.free := rfl

-- `Pkg.setCtx` changes `net` alone.
@[simp] theorem Pkg.setCtx_tempo (s : Pkg) (n : Nat) (c : Ctx) : (s.setCtx n c).tempo = s.tempo := rfl
@[simp] theorem Pkg.setCtx_parts (s : Pkg) (n : Nat) (c : Ctx) : (s.setCtx n c).parts = s.parts := rfl
@[simp] theorem Pkg.setCtx_tiles (s : Pkg) (n : Nat) (c : Ctx) : (s.setCtx n c).tiles = s.tiles := rfl
@[simp] theorem Pkg.setCtx_dstore (s : Pkg) (n : Nat) (c : Ctx) : (s.setCtx n c).dstore = s.dstore := rfl
@[simp] theorem Pkg.setCtx_cached (s : Pkg) (n : Nat) (c : Ctx) : (s.setCtx n c).cached = s.cached := rfl
@[simp] theorem Pkg.setCtx_sdies (s : Pkg) (n : Nat) (c : Ctx) : (s.setCtx n c).sdies = s.sdies := rfl
@[simp] theorem Pkg.setCtx_dict (s : Pkg) (n : Nat) (c : Ctx) : (s.setCtx n c).dict = s.dict := rfl
@[simp] theorem Pkg.setCtx_engines (s : Pkg) (n : Nat) (c : Ctx) : (s.setCtx n c).engines = s.engines := rfl
@[simp] theorem Pkg.setCtx_solveWait (s : Pkg) (n : Nat) (c : Ctx) : (s.setCtx n c).solveWait = s.solveWait := rfl
@[simp] theorem Pkg.setCtx_stamp (s : Pkg) (n : Nat) (c : Ctx) : (s.setCtx n c).stamp = s.stamp := rfl
@[simp] theorem Pkg.setCtx_harts (s : Pkg) (n : Nat) (c : Ctx) : (s.setCtx n c).harts = s.harts := rfl
@[simp] theorem Pkg.setCtx_cores (s : Pkg) (n : Nat) (c : Ctx) : (s.setCtx n c).cores = s.cores := rfl
@[simp] theorem Pkg.setCtx_scache (s : Pkg) (n : Nat) (c : Ctx) : (s.setCtx n c).scache = s.scache := rfl
@[simp] theorem Pkg.setCtx_slices (s : Pkg) (n : Nat) (c : Ctx) : (s.setCtx n c).slices = s.slices := rfl
@[simp] theorem Pkg.setCtx_invals (s : Pkg) (n : Nat) (c : Ctx) : (s.setCtx n c).invals = s.invals := rfl
@[simp] theorem Pkg.setCtx_relWait (s : Pkg) (n : Nat) (c : Ctx) : (s.setCtx n c).relWait = s.relWait := rfl
@[simp] theorem Pkg.setCtx_tier (s : Pkg) (n : Nat) (c : Ctx) : (s.setCtx n c).tier = s.tier := rfl
@[simp] theorem Pkg.setCtx_lports (s : Pkg) (n : Nat) (c : Ctx) : (s.setCtx n c).lports = s.lports := rfl
@[simp] theorem Pkg.setCtx_colls (s : Pkg) (n : Nat) (c : Ctx) : (s.setCtx n c).colls = s.colls := rfl
@[simp] theorem Pkg.setCtx_collWait (s : Pkg) (n : Nat) (c : Ctx) : (s.setCtx n c).collWait = s.collWait := rfl
@[simp] theorem Pkg.setCtx_collGone (s : Pkg) (n : Nat) (c : Ctx) : (s.setCtx n c).collGone = s.collGone := rfl
@[simp] theorem Pkg.setCtx_fault (s : Pkg) (n : Nat) (c : Ctx) : (s.setCtx n c).fault = s.fault := rfl
@[simp] theorem Pkg.setCtx_fw (s : Pkg) (n : Nat) (c : Ctx) : (s.setCtx n c).fw = s.fw := rfl
@[simp] theorem Pkg.setCtx_mgmt (s : Pkg) (n : Nat) (c : Ctx) : (s.setCtx n c).mgmt = s.mgmt := rfl
@[simp] theorem Pkg.setCtx_pcie (s : Pkg) (n : Nat) (c : Ctx) : (s.setCtx n c).pcie = s.pcie := rfl
@[simp] theorem Pkg.setCtx_tap (s : Pkg) (n : Nat) (c : Ctx) : (s.setCtx n c).tap = s.tap := rfl
@[simp] theorem Pkg.setCtx_pins (s : Pkg) (n : Nat) (c : Ctx) : (s.setCtx n c).pins = s.pins := rfl
@[simp] theorem Pkg.setCtx_pow (s : Pkg) (n : Nat) (c : Ctx) : (s.setCtx n c).pow = s.pow := rfl
@[simp] theorem Pkg.setCtx_log (s : Pkg) (n : Nat) (c : Ctx) : (s.setCtx n c).log = s.log := rfl
@[simp] theorem Pkg.setCtx_out (s : Pkg) (n : Nat) (c : Ctx) : (s.setCtx n c).out = s.out := rfl
@[simp] theorem Pkg.setCtx_free (s : Pkg) (n : Nat) (c : Ctx) : (s.setCtx n c).free = s.free := rfl

-- `Pkg.setOnces` changes `net` alone.
@[simp] theorem Pkg.setOnces_tempo (s : Pkg) (f : Nat) (l : List Once) : (s.setOnces f l).tempo = s.tempo := rfl
@[simp] theorem Pkg.setOnces_parts (s : Pkg) (f : Nat) (l : List Once) : (s.setOnces f l).parts = s.parts := rfl
@[simp] theorem Pkg.setOnces_tiles (s : Pkg) (f : Nat) (l : List Once) : (s.setOnces f l).tiles = s.tiles := rfl
@[simp] theorem Pkg.setOnces_dstore (s : Pkg) (f : Nat) (l : List Once) : (s.setOnces f l).dstore = s.dstore := rfl
@[simp] theorem Pkg.setOnces_cached (s : Pkg) (f : Nat) (l : List Once) : (s.setOnces f l).cached = s.cached := rfl
@[simp] theorem Pkg.setOnces_sdies (s : Pkg) (f : Nat) (l : List Once) : (s.setOnces f l).sdies = s.sdies := rfl
@[simp] theorem Pkg.setOnces_dict (s : Pkg) (f : Nat) (l : List Once) : (s.setOnces f l).dict = s.dict := rfl
@[simp] theorem Pkg.setOnces_engines (s : Pkg) (f : Nat) (l : List Once) : (s.setOnces f l).engines = s.engines := rfl
@[simp] theorem Pkg.setOnces_solveWait (s : Pkg) (f : Nat) (l : List Once) : (s.setOnces f l).solveWait = s.solveWait := rfl
@[simp] theorem Pkg.setOnces_stamp (s : Pkg) (f : Nat) (l : List Once) : (s.setOnces f l).stamp = s.stamp := rfl
@[simp] theorem Pkg.setOnces_harts (s : Pkg) (f : Nat) (l : List Once) : (s.setOnces f l).harts = s.harts := rfl
@[simp] theorem Pkg.setOnces_cores (s : Pkg) (f : Nat) (l : List Once) : (s.setOnces f l).cores = s.cores := rfl
@[simp] theorem Pkg.setOnces_scache (s : Pkg) (f : Nat) (l : List Once) : (s.setOnces f l).scache = s.scache := rfl
@[simp] theorem Pkg.setOnces_slices (s : Pkg) (f : Nat) (l : List Once) : (s.setOnces f l).slices = s.slices := rfl
@[simp] theorem Pkg.setOnces_invals (s : Pkg) (f : Nat) (l : List Once) : (s.setOnces f l).invals = s.invals := rfl
@[simp] theorem Pkg.setOnces_relWait (s : Pkg) (f : Nat) (l : List Once) : (s.setOnces f l).relWait = s.relWait := rfl
@[simp] theorem Pkg.setOnces_tier (s : Pkg) (f : Nat) (l : List Once) : (s.setOnces f l).tier = s.tier := rfl
@[simp] theorem Pkg.setOnces_lports (s : Pkg) (f : Nat) (l : List Once) : (s.setOnces f l).lports = s.lports := rfl
@[simp] theorem Pkg.setOnces_colls (s : Pkg) (f : Nat) (l : List Once) : (s.setOnces f l).colls = s.colls := rfl
@[simp] theorem Pkg.setOnces_collWait (s : Pkg) (f : Nat) (l : List Once) : (s.setOnces f l).collWait = s.collWait := rfl
@[simp] theorem Pkg.setOnces_collGone (s : Pkg) (f : Nat) (l : List Once) : (s.setOnces f l).collGone = s.collGone := rfl
@[simp] theorem Pkg.setOnces_fault (s : Pkg) (f : Nat) (l : List Once) : (s.setOnces f l).fault = s.fault := rfl
@[simp] theorem Pkg.setOnces_fw (s : Pkg) (f : Nat) (l : List Once) : (s.setOnces f l).fw = s.fw := rfl
@[simp] theorem Pkg.setOnces_mgmt (s : Pkg) (f : Nat) (l : List Once) : (s.setOnces f l).mgmt = s.mgmt := rfl
@[simp] theorem Pkg.setOnces_pcie (s : Pkg) (f : Nat) (l : List Once) : (s.setOnces f l).pcie = s.pcie := rfl
@[simp] theorem Pkg.setOnces_tap (s : Pkg) (f : Nat) (l : List Once) : (s.setOnces f l).tap = s.tap := rfl
@[simp] theorem Pkg.setOnces_pins (s : Pkg) (f : Nat) (l : List Once) : (s.setOnces f l).pins = s.pins := rfl
@[simp] theorem Pkg.setOnces_pow (s : Pkg) (f : Nat) (l : List Once) : (s.setOnces f l).pow = s.pow := rfl
@[simp] theorem Pkg.setOnces_log (s : Pkg) (f : Nat) (l : List Once) : (s.setOnces f l).log = s.log := rfl
@[simp] theorem Pkg.setOnces_out (s : Pkg) (f : Nat) (l : List Once) : (s.setOnces f l).out = s.out := rfl
@[simp] theorem Pkg.setOnces_free (s : Pkg) (f : Nat) (l : List Once) : (s.setOnces f l).free = s.free := rfl

-- `Pkg.dropReqs` changes `net` alone.
@[simp] theorem Pkg.dropReqs_tempo (s : Pkg) (p : Req → Bool) : (s.dropReqs p).tempo = s.tempo := rfl
@[simp] theorem Pkg.dropReqs_parts (s : Pkg) (p : Req → Bool) : (s.dropReqs p).parts = s.parts := rfl
@[simp] theorem Pkg.dropReqs_tiles (s : Pkg) (p : Req → Bool) : (s.dropReqs p).tiles = s.tiles := rfl
@[simp] theorem Pkg.dropReqs_dstore (s : Pkg) (p : Req → Bool) : (s.dropReqs p).dstore = s.dstore := rfl
@[simp] theorem Pkg.dropReqs_cached (s : Pkg) (p : Req → Bool) : (s.dropReqs p).cached = s.cached := rfl
@[simp] theorem Pkg.dropReqs_sdies (s : Pkg) (p : Req → Bool) : (s.dropReqs p).sdies = s.sdies := rfl
@[simp] theorem Pkg.dropReqs_dict (s : Pkg) (p : Req → Bool) : (s.dropReqs p).dict = s.dict := rfl
@[simp] theorem Pkg.dropReqs_engines (s : Pkg) (p : Req → Bool) : (s.dropReqs p).engines = s.engines := rfl
@[simp] theorem Pkg.dropReqs_solveWait (s : Pkg) (p : Req → Bool) : (s.dropReqs p).solveWait = s.solveWait := rfl
@[simp] theorem Pkg.dropReqs_stamp (s : Pkg) (p : Req → Bool) : (s.dropReqs p).stamp = s.stamp := rfl
@[simp] theorem Pkg.dropReqs_harts (s : Pkg) (p : Req → Bool) : (s.dropReqs p).harts = s.harts := rfl
@[simp] theorem Pkg.dropReqs_cores (s : Pkg) (p : Req → Bool) : (s.dropReqs p).cores = s.cores := rfl
@[simp] theorem Pkg.dropReqs_scache (s : Pkg) (p : Req → Bool) : (s.dropReqs p).scache = s.scache := rfl
@[simp] theorem Pkg.dropReqs_slices (s : Pkg) (p : Req → Bool) : (s.dropReqs p).slices = s.slices := rfl
@[simp] theorem Pkg.dropReqs_invals (s : Pkg) (p : Req → Bool) : (s.dropReqs p).invals = s.invals := rfl
@[simp] theorem Pkg.dropReqs_relWait (s : Pkg) (p : Req → Bool) : (s.dropReqs p).relWait = s.relWait := rfl
@[simp] theorem Pkg.dropReqs_tier (s : Pkg) (p : Req → Bool) : (s.dropReqs p).tier = s.tier := rfl
@[simp] theorem Pkg.dropReqs_lports (s : Pkg) (p : Req → Bool) : (s.dropReqs p).lports = s.lports := rfl
@[simp] theorem Pkg.dropReqs_colls (s : Pkg) (p : Req → Bool) : (s.dropReqs p).colls = s.colls := rfl
@[simp] theorem Pkg.dropReqs_collWait (s : Pkg) (p : Req → Bool) : (s.dropReqs p).collWait = s.collWait := rfl
@[simp] theorem Pkg.dropReqs_collGone (s : Pkg) (p : Req → Bool) : (s.dropReqs p).collGone = s.collGone := rfl
@[simp] theorem Pkg.dropReqs_fault (s : Pkg) (p : Req → Bool) : (s.dropReqs p).fault = s.fault := rfl
@[simp] theorem Pkg.dropReqs_fw (s : Pkg) (p : Req → Bool) : (s.dropReqs p).fw = s.fw := rfl
@[simp] theorem Pkg.dropReqs_mgmt (s : Pkg) (p : Req → Bool) : (s.dropReqs p).mgmt = s.mgmt := rfl
@[simp] theorem Pkg.dropReqs_pcie (s : Pkg) (p : Req → Bool) : (s.dropReqs p).pcie = s.pcie := rfl
@[simp] theorem Pkg.dropReqs_tap (s : Pkg) (p : Req → Bool) : (s.dropReqs p).tap = s.tap := rfl
@[simp] theorem Pkg.dropReqs_pins (s : Pkg) (p : Req → Bool) : (s.dropReqs p).pins = s.pins := rfl
@[simp] theorem Pkg.dropReqs_pow (s : Pkg) (p : Req → Bool) : (s.dropReqs p).pow = s.pow := rfl
@[simp] theorem Pkg.dropReqs_log (s : Pkg) (p : Req → Bool) : (s.dropReqs p).log = s.log := rfl
@[simp] theorem Pkg.dropReqs_out (s : Pkg) (p : Req → Bool) : (s.dropReqs p).out = s.out := rfl
@[simp] theorem Pkg.dropReqs_free (s : Pkg) (p : Req → Bool) : (s.dropReqs p).free = s.free := rfl

-- `Pkg.setEnt` changes `dict` alone.
@[simp] theorem Pkg.setEnt_tempo (s : Pkg) (i j v : Nat) : (s.setEnt i j v).tempo = s.tempo := rfl
@[simp] theorem Pkg.setEnt_parts (s : Pkg) (i j v : Nat) : (s.setEnt i j v).parts = s.parts := rfl
@[simp] theorem Pkg.setEnt_tiles (s : Pkg) (i j v : Nat) : (s.setEnt i j v).tiles = s.tiles := rfl
@[simp] theorem Pkg.setEnt_dstore (s : Pkg) (i j v : Nat) : (s.setEnt i j v).dstore = s.dstore := rfl
@[simp] theorem Pkg.setEnt_cached (s : Pkg) (i j v : Nat) : (s.setEnt i j v).cached = s.cached := rfl
@[simp] theorem Pkg.setEnt_sdies (s : Pkg) (i j v : Nat) : (s.setEnt i j v).sdies = s.sdies := rfl
@[simp] theorem Pkg.setEnt_net (s : Pkg) (i j v : Nat) : (s.setEnt i j v).net = s.net := rfl
@[simp] theorem Pkg.setEnt_engines (s : Pkg) (i j v : Nat) : (s.setEnt i j v).engines = s.engines := rfl
@[simp] theorem Pkg.setEnt_solveWait (s : Pkg) (i j v : Nat) : (s.setEnt i j v).solveWait = s.solveWait := rfl
@[simp] theorem Pkg.setEnt_stamp (s : Pkg) (i j v : Nat) : (s.setEnt i j v).stamp = s.stamp := rfl
@[simp] theorem Pkg.setEnt_harts (s : Pkg) (i j v : Nat) : (s.setEnt i j v).harts = s.harts := rfl
@[simp] theorem Pkg.setEnt_cores (s : Pkg) (i j v : Nat) : (s.setEnt i j v).cores = s.cores := rfl
@[simp] theorem Pkg.setEnt_scache (s : Pkg) (i j v : Nat) : (s.setEnt i j v).scache = s.scache := rfl
@[simp] theorem Pkg.setEnt_slices (s : Pkg) (i j v : Nat) : (s.setEnt i j v).slices = s.slices := rfl
@[simp] theorem Pkg.setEnt_invals (s : Pkg) (i j v : Nat) : (s.setEnt i j v).invals = s.invals := rfl
@[simp] theorem Pkg.setEnt_relWait (s : Pkg) (i j v : Nat) : (s.setEnt i j v).relWait = s.relWait := rfl
@[simp] theorem Pkg.setEnt_tier (s : Pkg) (i j v : Nat) : (s.setEnt i j v).tier = s.tier := rfl
@[simp] theorem Pkg.setEnt_lports (s : Pkg) (i j v : Nat) : (s.setEnt i j v).lports = s.lports := rfl
@[simp] theorem Pkg.setEnt_colls (s : Pkg) (i j v : Nat) : (s.setEnt i j v).colls = s.colls := rfl
@[simp] theorem Pkg.setEnt_collWait (s : Pkg) (i j v : Nat) : (s.setEnt i j v).collWait = s.collWait := rfl
@[simp] theorem Pkg.setEnt_collGone (s : Pkg) (i j v : Nat) : (s.setEnt i j v).collGone = s.collGone := rfl
@[simp] theorem Pkg.setEnt_fault (s : Pkg) (i j v : Nat) : (s.setEnt i j v).fault = s.fault := rfl
@[simp] theorem Pkg.setEnt_fw (s : Pkg) (i j v : Nat) : (s.setEnt i j v).fw = s.fw := rfl
@[simp] theorem Pkg.setEnt_mgmt (s : Pkg) (i j v : Nat) : (s.setEnt i j v).mgmt = s.mgmt := rfl
@[simp] theorem Pkg.setEnt_pcie (s : Pkg) (i j v : Nat) : (s.setEnt i j v).pcie = s.pcie := rfl
@[simp] theorem Pkg.setEnt_tap (s : Pkg) (i j v : Nat) : (s.setEnt i j v).tap = s.tap := rfl
@[simp] theorem Pkg.setEnt_pins (s : Pkg) (i j v : Nat) : (s.setEnt i j v).pins = s.pins := rfl
@[simp] theorem Pkg.setEnt_pow (s : Pkg) (i j v : Nat) : (s.setEnt i j v).pow = s.pow := rfl
@[simp] theorem Pkg.setEnt_log (s : Pkg) (i j v : Nat) : (s.setEnt i j v).log = s.log := rfl
@[simp] theorem Pkg.setEnt_out (s : Pkg) (i j v : Nat) : (s.setEnt i j v).out = s.out := rfl
@[simp] theorem Pkg.setEnt_free (s : Pkg) (i j v : Nat) : (s.setEnt i j v).free = s.free := rfl

-- `Pkg.emit` changes `out` alone.
@[simp] theorem Pkg.emit_tempo (s : Pkg) (o : Out) : (s.emit o).tempo = s.tempo := rfl
@[simp] theorem Pkg.emit_parts (s : Pkg) (o : Out) : (s.emit o).parts = s.parts := rfl
@[simp] theorem Pkg.emit_tiles (s : Pkg) (o : Out) : (s.emit o).tiles = s.tiles := rfl
@[simp] theorem Pkg.emit_dstore (s : Pkg) (o : Out) : (s.emit o).dstore = s.dstore := rfl
@[simp] theorem Pkg.emit_cached (s : Pkg) (o : Out) : (s.emit o).cached = s.cached := rfl
@[simp] theorem Pkg.emit_sdies (s : Pkg) (o : Out) : (s.emit o).sdies = s.sdies := rfl
@[simp] theorem Pkg.emit_dict (s : Pkg) (o : Out) : (s.emit o).dict = s.dict := rfl
@[simp] theorem Pkg.emit_net (s : Pkg) (o : Out) : (s.emit o).net = s.net := rfl
@[simp] theorem Pkg.emit_engines (s : Pkg) (o : Out) : (s.emit o).engines = s.engines := rfl
@[simp] theorem Pkg.emit_solveWait (s : Pkg) (o : Out) : (s.emit o).solveWait = s.solveWait := rfl
@[simp] theorem Pkg.emit_stamp (s : Pkg) (o : Out) : (s.emit o).stamp = s.stamp := rfl
@[simp] theorem Pkg.emit_harts (s : Pkg) (o : Out) : (s.emit o).harts = s.harts := rfl
@[simp] theorem Pkg.emit_cores (s : Pkg) (o : Out) : (s.emit o).cores = s.cores := rfl
@[simp] theorem Pkg.emit_scache (s : Pkg) (o : Out) : (s.emit o).scache = s.scache := rfl
@[simp] theorem Pkg.emit_slices (s : Pkg) (o : Out) : (s.emit o).slices = s.slices := rfl
@[simp] theorem Pkg.emit_invals (s : Pkg) (o : Out) : (s.emit o).invals = s.invals := rfl
@[simp] theorem Pkg.emit_relWait (s : Pkg) (o : Out) : (s.emit o).relWait = s.relWait := rfl
@[simp] theorem Pkg.emit_tier (s : Pkg) (o : Out) : (s.emit o).tier = s.tier := rfl
@[simp] theorem Pkg.emit_lports (s : Pkg) (o : Out) : (s.emit o).lports = s.lports := rfl
@[simp] theorem Pkg.emit_colls (s : Pkg) (o : Out) : (s.emit o).colls = s.colls := rfl
@[simp] theorem Pkg.emit_collWait (s : Pkg) (o : Out) : (s.emit o).collWait = s.collWait := rfl
@[simp] theorem Pkg.emit_collGone (s : Pkg) (o : Out) : (s.emit o).collGone = s.collGone := rfl
@[simp] theorem Pkg.emit_fault (s : Pkg) (o : Out) : (s.emit o).fault = s.fault := rfl
@[simp] theorem Pkg.emit_fw (s : Pkg) (o : Out) : (s.emit o).fw = s.fw := rfl
@[simp] theorem Pkg.emit_mgmt (s : Pkg) (o : Out) : (s.emit o).mgmt = s.mgmt := rfl
@[simp] theorem Pkg.emit_pcie (s : Pkg) (o : Out) : (s.emit o).pcie = s.pcie := rfl
@[simp] theorem Pkg.emit_tap (s : Pkg) (o : Out) : (s.emit o).tap = s.tap := rfl
@[simp] theorem Pkg.emit_pins (s : Pkg) (o : Out) : (s.emit o).pins = s.pins := rfl
@[simp] theorem Pkg.emit_pow (s : Pkg) (o : Out) : (s.emit o).pow = s.pow := rfl
@[simp] theorem Pkg.emit_log (s : Pkg) (o : Out) : (s.emit o).log = s.log := rfl
@[simp] theorem Pkg.emit_free (s : Pkg) (o : Out) : (s.emit o).free = s.free := rfl

-- `Pkg.onMgmt` changes `mgmt` alone.
@[simp] theorem Pkg.onMgmt_tempo (s : Pkg) (f : Mgmt → Mgmt) : (s.onMgmt f).tempo = s.tempo := rfl
@[simp] theorem Pkg.onMgmt_parts (s : Pkg) (f : Mgmt → Mgmt) : (s.onMgmt f).parts = s.parts := rfl
@[simp] theorem Pkg.onMgmt_tiles (s : Pkg) (f : Mgmt → Mgmt) : (s.onMgmt f).tiles = s.tiles := rfl
@[simp] theorem Pkg.onMgmt_dstore (s : Pkg) (f : Mgmt → Mgmt) : (s.onMgmt f).dstore = s.dstore := rfl
@[simp] theorem Pkg.onMgmt_cached (s : Pkg) (f : Mgmt → Mgmt) : (s.onMgmt f).cached = s.cached := rfl
@[simp] theorem Pkg.onMgmt_sdies (s : Pkg) (f : Mgmt → Mgmt) : (s.onMgmt f).sdies = s.sdies := rfl
@[simp] theorem Pkg.onMgmt_dict (s : Pkg) (f : Mgmt → Mgmt) : (s.onMgmt f).dict = s.dict := rfl
@[simp] theorem Pkg.onMgmt_net (s : Pkg) (f : Mgmt → Mgmt) : (s.onMgmt f).net = s.net := rfl
@[simp] theorem Pkg.onMgmt_engines (s : Pkg) (f : Mgmt → Mgmt) : (s.onMgmt f).engines = s.engines := rfl
@[simp] theorem Pkg.onMgmt_solveWait (s : Pkg) (f : Mgmt → Mgmt) : (s.onMgmt f).solveWait = s.solveWait := rfl
@[simp] theorem Pkg.onMgmt_stamp (s : Pkg) (f : Mgmt → Mgmt) : (s.onMgmt f).stamp = s.stamp := rfl
@[simp] theorem Pkg.onMgmt_harts (s : Pkg) (f : Mgmt → Mgmt) : (s.onMgmt f).harts = s.harts := rfl
@[simp] theorem Pkg.onMgmt_cores (s : Pkg) (f : Mgmt → Mgmt) : (s.onMgmt f).cores = s.cores := rfl
@[simp] theorem Pkg.onMgmt_scache (s : Pkg) (f : Mgmt → Mgmt) : (s.onMgmt f).scache = s.scache := rfl
@[simp] theorem Pkg.onMgmt_slices (s : Pkg) (f : Mgmt → Mgmt) : (s.onMgmt f).slices = s.slices := rfl
@[simp] theorem Pkg.onMgmt_invals (s : Pkg) (f : Mgmt → Mgmt) : (s.onMgmt f).invals = s.invals := rfl
@[simp] theorem Pkg.onMgmt_relWait (s : Pkg) (f : Mgmt → Mgmt) : (s.onMgmt f).relWait = s.relWait := rfl
@[simp] theorem Pkg.onMgmt_tier (s : Pkg) (f : Mgmt → Mgmt) : (s.onMgmt f).tier = s.tier := rfl
@[simp] theorem Pkg.onMgmt_lports (s : Pkg) (f : Mgmt → Mgmt) : (s.onMgmt f).lports = s.lports := rfl
@[simp] theorem Pkg.onMgmt_colls (s : Pkg) (f : Mgmt → Mgmt) : (s.onMgmt f).colls = s.colls := rfl
@[simp] theorem Pkg.onMgmt_collWait (s : Pkg) (f : Mgmt → Mgmt) : (s.onMgmt f).collWait = s.collWait := rfl
@[simp] theorem Pkg.onMgmt_collGone (s : Pkg) (f : Mgmt → Mgmt) : (s.onMgmt f).collGone = s.collGone := rfl
@[simp] theorem Pkg.onMgmt_fault (s : Pkg) (f : Mgmt → Mgmt) : (s.onMgmt f).fault = s.fault := rfl
@[simp] theorem Pkg.onMgmt_fw (s : Pkg) (f : Mgmt → Mgmt) : (s.onMgmt f).fw = s.fw := rfl
@[simp] theorem Pkg.onMgmt_pcie (s : Pkg) (f : Mgmt → Mgmt) : (s.onMgmt f).pcie = s.pcie := rfl
@[simp] theorem Pkg.onMgmt_tap (s : Pkg) (f : Mgmt → Mgmt) : (s.onMgmt f).tap = s.tap := rfl
@[simp] theorem Pkg.onMgmt_pins (s : Pkg) (f : Mgmt → Mgmt) : (s.onMgmt f).pins = s.pins := rfl
@[simp] theorem Pkg.onMgmt_pow (s : Pkg) (f : Mgmt → Mgmt) : (s.onMgmt f).pow = s.pow := rfl
@[simp] theorem Pkg.onMgmt_log (s : Pkg) (f : Mgmt → Mgmt) : (s.onMgmt f).log = s.log := rfl
@[simp] theorem Pkg.onMgmt_out (s : Pkg) (f : Mgmt → Mgmt) : (s.onMgmt f).out = s.out := rfl
@[simp] theorem Pkg.onMgmt_free (s : Pkg) (f : Mgmt → Mgmt) : (s.onMgmt f).free = s.free := rfl

-- `Pkg.onI3c` changes `mgmt` alone.
@[simp] theorem Pkg.onI3c_tempo (s : Pkg) (f : I3C → I3C) : (s.onI3c f).tempo = s.tempo := rfl
@[simp] theorem Pkg.onI3c_parts (s : Pkg) (f : I3C → I3C) : (s.onI3c f).parts = s.parts := rfl
@[simp] theorem Pkg.onI3c_tiles (s : Pkg) (f : I3C → I3C) : (s.onI3c f).tiles = s.tiles := rfl
@[simp] theorem Pkg.onI3c_dstore (s : Pkg) (f : I3C → I3C) : (s.onI3c f).dstore = s.dstore := rfl
@[simp] theorem Pkg.onI3c_cached (s : Pkg) (f : I3C → I3C) : (s.onI3c f).cached = s.cached := rfl
@[simp] theorem Pkg.onI3c_sdies (s : Pkg) (f : I3C → I3C) : (s.onI3c f).sdies = s.sdies := rfl
@[simp] theorem Pkg.onI3c_dict (s : Pkg) (f : I3C → I3C) : (s.onI3c f).dict = s.dict := rfl
@[simp] theorem Pkg.onI3c_net (s : Pkg) (f : I3C → I3C) : (s.onI3c f).net = s.net := rfl
@[simp] theorem Pkg.onI3c_engines (s : Pkg) (f : I3C → I3C) : (s.onI3c f).engines = s.engines := rfl
@[simp] theorem Pkg.onI3c_solveWait (s : Pkg) (f : I3C → I3C) : (s.onI3c f).solveWait = s.solveWait := rfl
@[simp] theorem Pkg.onI3c_stamp (s : Pkg) (f : I3C → I3C) : (s.onI3c f).stamp = s.stamp := rfl
@[simp] theorem Pkg.onI3c_harts (s : Pkg) (f : I3C → I3C) : (s.onI3c f).harts = s.harts := rfl
@[simp] theorem Pkg.onI3c_cores (s : Pkg) (f : I3C → I3C) : (s.onI3c f).cores = s.cores := rfl
@[simp] theorem Pkg.onI3c_scache (s : Pkg) (f : I3C → I3C) : (s.onI3c f).scache = s.scache := rfl
@[simp] theorem Pkg.onI3c_slices (s : Pkg) (f : I3C → I3C) : (s.onI3c f).slices = s.slices := rfl
@[simp] theorem Pkg.onI3c_invals (s : Pkg) (f : I3C → I3C) : (s.onI3c f).invals = s.invals := rfl
@[simp] theorem Pkg.onI3c_relWait (s : Pkg) (f : I3C → I3C) : (s.onI3c f).relWait = s.relWait := rfl
@[simp] theorem Pkg.onI3c_tier (s : Pkg) (f : I3C → I3C) : (s.onI3c f).tier = s.tier := rfl
@[simp] theorem Pkg.onI3c_lports (s : Pkg) (f : I3C → I3C) : (s.onI3c f).lports = s.lports := rfl
@[simp] theorem Pkg.onI3c_colls (s : Pkg) (f : I3C → I3C) : (s.onI3c f).colls = s.colls := rfl
@[simp] theorem Pkg.onI3c_collWait (s : Pkg) (f : I3C → I3C) : (s.onI3c f).collWait = s.collWait := rfl
@[simp] theorem Pkg.onI3c_collGone (s : Pkg) (f : I3C → I3C) : (s.onI3c f).collGone = s.collGone := rfl
@[simp] theorem Pkg.onI3c_fault (s : Pkg) (f : I3C → I3C) : (s.onI3c f).fault = s.fault := rfl
@[simp] theorem Pkg.onI3c_fw (s : Pkg) (f : I3C → I3C) : (s.onI3c f).fw = s.fw := rfl
@[simp] theorem Pkg.onI3c_pcie (s : Pkg) (f : I3C → I3C) : (s.onI3c f).pcie = s.pcie := rfl
@[simp] theorem Pkg.onI3c_tap (s : Pkg) (f : I3C → I3C) : (s.onI3c f).tap = s.tap := rfl
@[simp] theorem Pkg.onI3c_pins (s : Pkg) (f : I3C → I3C) : (s.onI3c f).pins = s.pins := rfl
@[simp] theorem Pkg.onI3c_pow (s : Pkg) (f : I3C → I3C) : (s.onI3c f).pow = s.pow := rfl
@[simp] theorem Pkg.onI3c_log (s : Pkg) (f : I3C → I3C) : (s.onI3c f).log = s.log := rfl
@[simp] theorem Pkg.onI3c_out (s : Pkg) (f : I3C → I3C) : (s.onI3c f).out = s.out := rfl
@[simp] theorem Pkg.onI3c_free (s : Pkg) (f : I3C → I3C) : (s.onI3c f).free = s.free := rfl

-- `Pkg.setMbox` changes `mgmt` alone.
@[simp] theorem Pkg.setMbox_tempo (s : Pkg) (k : Nat) (b : Mailbox) : (s.setMbox k b).tempo = s.tempo := rfl
@[simp] theorem Pkg.setMbox_parts (s : Pkg) (k : Nat) (b : Mailbox) : (s.setMbox k b).parts = s.parts := rfl
@[simp] theorem Pkg.setMbox_tiles (s : Pkg) (k : Nat) (b : Mailbox) : (s.setMbox k b).tiles = s.tiles := rfl
@[simp] theorem Pkg.setMbox_dstore (s : Pkg) (k : Nat) (b : Mailbox) : (s.setMbox k b).dstore = s.dstore := rfl
@[simp] theorem Pkg.setMbox_cached (s : Pkg) (k : Nat) (b : Mailbox) : (s.setMbox k b).cached = s.cached := rfl
@[simp] theorem Pkg.setMbox_sdies (s : Pkg) (k : Nat) (b : Mailbox) : (s.setMbox k b).sdies = s.sdies := rfl
@[simp] theorem Pkg.setMbox_dict (s : Pkg) (k : Nat) (b : Mailbox) : (s.setMbox k b).dict = s.dict := rfl
@[simp] theorem Pkg.setMbox_net (s : Pkg) (k : Nat) (b : Mailbox) : (s.setMbox k b).net = s.net := rfl
@[simp] theorem Pkg.setMbox_engines (s : Pkg) (k : Nat) (b : Mailbox) : (s.setMbox k b).engines = s.engines := rfl
@[simp] theorem Pkg.setMbox_solveWait (s : Pkg) (k : Nat) (b : Mailbox) : (s.setMbox k b).solveWait = s.solveWait := rfl
@[simp] theorem Pkg.setMbox_stamp (s : Pkg) (k : Nat) (b : Mailbox) : (s.setMbox k b).stamp = s.stamp := rfl
@[simp] theorem Pkg.setMbox_harts (s : Pkg) (k : Nat) (b : Mailbox) : (s.setMbox k b).harts = s.harts := rfl
@[simp] theorem Pkg.setMbox_cores (s : Pkg) (k : Nat) (b : Mailbox) : (s.setMbox k b).cores = s.cores := rfl
@[simp] theorem Pkg.setMbox_scache (s : Pkg) (k : Nat) (b : Mailbox) : (s.setMbox k b).scache = s.scache := rfl
@[simp] theorem Pkg.setMbox_slices (s : Pkg) (k : Nat) (b : Mailbox) : (s.setMbox k b).slices = s.slices := rfl
@[simp] theorem Pkg.setMbox_invals (s : Pkg) (k : Nat) (b : Mailbox) : (s.setMbox k b).invals = s.invals := rfl
@[simp] theorem Pkg.setMbox_relWait (s : Pkg) (k : Nat) (b : Mailbox) : (s.setMbox k b).relWait = s.relWait := rfl
@[simp] theorem Pkg.setMbox_tier (s : Pkg) (k : Nat) (b : Mailbox) : (s.setMbox k b).tier = s.tier := rfl
@[simp] theorem Pkg.setMbox_lports (s : Pkg) (k : Nat) (b : Mailbox) : (s.setMbox k b).lports = s.lports := rfl
@[simp] theorem Pkg.setMbox_colls (s : Pkg) (k : Nat) (b : Mailbox) : (s.setMbox k b).colls = s.colls := rfl
@[simp] theorem Pkg.setMbox_collWait (s : Pkg) (k : Nat) (b : Mailbox) : (s.setMbox k b).collWait = s.collWait := rfl
@[simp] theorem Pkg.setMbox_collGone (s : Pkg) (k : Nat) (b : Mailbox) : (s.setMbox k b).collGone = s.collGone := rfl
@[simp] theorem Pkg.setMbox_fault (s : Pkg) (k : Nat) (b : Mailbox) : (s.setMbox k b).fault = s.fault := rfl
@[simp] theorem Pkg.setMbox_fw (s : Pkg) (k : Nat) (b : Mailbox) : (s.setMbox k b).fw = s.fw := rfl
@[simp] theorem Pkg.setMbox_pcie (s : Pkg) (k : Nat) (b : Mailbox) : (s.setMbox k b).pcie = s.pcie := rfl
@[simp] theorem Pkg.setMbox_tap (s : Pkg) (k : Nat) (b : Mailbox) : (s.setMbox k b).tap = s.tap := rfl
@[simp] theorem Pkg.setMbox_pins (s : Pkg) (k : Nat) (b : Mailbox) : (s.setMbox k b).pins = s.pins := rfl
@[simp] theorem Pkg.setMbox_pow (s : Pkg) (k : Nat) (b : Mailbox) : (s.setMbox k b).pow = s.pow := rfl
@[simp] theorem Pkg.setMbox_log (s : Pkg) (k : Nat) (b : Mailbox) : (s.setMbox k b).log = s.log := rfl
@[simp] theorem Pkg.setMbox_out (s : Pkg) (k : Nat) (b : Mailbox) : (s.setMbox k b).out = s.out := rfl
@[simp] theorem Pkg.setMbox_free (s : Pkg) (k : Nat) (b : Mailbox) : (s.setMbox k b).free = s.free := rfl

-- `Pkg.setSession` changes `mgmt` alone.
@[simp] theorem Pkg.setSession_tempo (s : Pkg) (n : Nat) (f : Session → Session) : (s.setSession n f).tempo = s.tempo := rfl
@[simp] theorem Pkg.setSession_parts (s : Pkg) (n : Nat) (f : Session → Session) : (s.setSession n f).parts = s.parts := rfl
@[simp] theorem Pkg.setSession_tiles (s : Pkg) (n : Nat) (f : Session → Session) : (s.setSession n f).tiles = s.tiles := rfl
@[simp] theorem Pkg.setSession_dstore (s : Pkg) (n : Nat) (f : Session → Session) : (s.setSession n f).dstore = s.dstore := rfl
@[simp] theorem Pkg.setSession_cached (s : Pkg) (n : Nat) (f : Session → Session) : (s.setSession n f).cached = s.cached := rfl
@[simp] theorem Pkg.setSession_sdies (s : Pkg) (n : Nat) (f : Session → Session) : (s.setSession n f).sdies = s.sdies := rfl
@[simp] theorem Pkg.setSession_dict (s : Pkg) (n : Nat) (f : Session → Session) : (s.setSession n f).dict = s.dict := rfl
@[simp] theorem Pkg.setSession_net (s : Pkg) (n : Nat) (f : Session → Session) : (s.setSession n f).net = s.net := rfl
@[simp] theorem Pkg.setSession_engines (s : Pkg) (n : Nat) (f : Session → Session) : (s.setSession n f).engines = s.engines := rfl
@[simp] theorem Pkg.setSession_solveWait (s : Pkg) (n : Nat) (f : Session → Session) : (s.setSession n f).solveWait = s.solveWait := rfl
@[simp] theorem Pkg.setSession_stamp (s : Pkg) (n : Nat) (f : Session → Session) : (s.setSession n f).stamp = s.stamp := rfl
@[simp] theorem Pkg.setSession_harts (s : Pkg) (n : Nat) (f : Session → Session) : (s.setSession n f).harts = s.harts := rfl
@[simp] theorem Pkg.setSession_cores (s : Pkg) (n : Nat) (f : Session → Session) : (s.setSession n f).cores = s.cores := rfl
@[simp] theorem Pkg.setSession_scache (s : Pkg) (n : Nat) (f : Session → Session) : (s.setSession n f).scache = s.scache := rfl
@[simp] theorem Pkg.setSession_slices (s : Pkg) (n : Nat) (f : Session → Session) : (s.setSession n f).slices = s.slices := rfl
@[simp] theorem Pkg.setSession_invals (s : Pkg) (n : Nat) (f : Session → Session) : (s.setSession n f).invals = s.invals := rfl
@[simp] theorem Pkg.setSession_relWait (s : Pkg) (n : Nat) (f : Session → Session) : (s.setSession n f).relWait = s.relWait := rfl
@[simp] theorem Pkg.setSession_tier (s : Pkg) (n : Nat) (f : Session → Session) : (s.setSession n f).tier = s.tier := rfl
@[simp] theorem Pkg.setSession_lports (s : Pkg) (n : Nat) (f : Session → Session) : (s.setSession n f).lports = s.lports := rfl
@[simp] theorem Pkg.setSession_colls (s : Pkg) (n : Nat) (f : Session → Session) : (s.setSession n f).colls = s.colls := rfl
@[simp] theorem Pkg.setSession_collWait (s : Pkg) (n : Nat) (f : Session → Session) : (s.setSession n f).collWait = s.collWait := rfl
@[simp] theorem Pkg.setSession_collGone (s : Pkg) (n : Nat) (f : Session → Session) : (s.setSession n f).collGone = s.collGone := rfl
@[simp] theorem Pkg.setSession_fault (s : Pkg) (n : Nat) (f : Session → Session) : (s.setSession n f).fault = s.fault := rfl
@[simp] theorem Pkg.setSession_fw (s : Pkg) (n : Nat) (f : Session → Session) : (s.setSession n f).fw = s.fw := rfl
@[simp] theorem Pkg.setSession_pcie (s : Pkg) (n : Nat) (f : Session → Session) : (s.setSession n f).pcie = s.pcie := rfl
@[simp] theorem Pkg.setSession_tap (s : Pkg) (n : Nat) (f : Session → Session) : (s.setSession n f).tap = s.tap := rfl
@[simp] theorem Pkg.setSession_pins (s : Pkg) (n : Nat) (f : Session → Session) : (s.setSession n f).pins = s.pins := rfl
@[simp] theorem Pkg.setSession_pow (s : Pkg) (n : Nat) (f : Session → Session) : (s.setSession n f).pow = s.pow := rfl
@[simp] theorem Pkg.setSession_log (s : Pkg) (n : Nat) (f : Session → Session) : (s.setSession n f).log = s.log := rfl
@[simp] theorem Pkg.setSession_out (s : Pkg) (n : Nat) (f : Session → Session) : (s.setSession n f).out = s.out := rfl
@[simp] theorem Pkg.setSession_free (s : Pkg) (n : Nat) (f : Session → Session) : (s.setSession n f).free = s.free := rfl

-- `Pkg.setHart` changes `harts` alone.
@[simp] theorem Pkg.setHart_tempo (s : Pkg) (h : Nat) (x : Hart) : (s.setHart h x).tempo = s.tempo := rfl
@[simp] theorem Pkg.setHart_parts (s : Pkg) (h : Nat) (x : Hart) : (s.setHart h x).parts = s.parts := rfl
@[simp] theorem Pkg.setHart_tiles (s : Pkg) (h : Nat) (x : Hart) : (s.setHart h x).tiles = s.tiles := rfl
@[simp] theorem Pkg.setHart_dstore (s : Pkg) (h : Nat) (x : Hart) : (s.setHart h x).dstore = s.dstore := rfl
@[simp] theorem Pkg.setHart_cached (s : Pkg) (h : Nat) (x : Hart) : (s.setHart h x).cached = s.cached := rfl
@[simp] theorem Pkg.setHart_sdies (s : Pkg) (h : Nat) (x : Hart) : (s.setHart h x).sdies = s.sdies := rfl
@[simp] theorem Pkg.setHart_dict (s : Pkg) (h : Nat) (x : Hart) : (s.setHart h x).dict = s.dict := rfl
@[simp] theorem Pkg.setHart_net (s : Pkg) (h : Nat) (x : Hart) : (s.setHart h x).net = s.net := rfl
@[simp] theorem Pkg.setHart_engines (s : Pkg) (h : Nat) (x : Hart) : (s.setHart h x).engines = s.engines := rfl
@[simp] theorem Pkg.setHart_solveWait (s : Pkg) (h : Nat) (x : Hart) : (s.setHart h x).solveWait = s.solveWait := rfl
@[simp] theorem Pkg.setHart_stamp (s : Pkg) (h : Nat) (x : Hart) : (s.setHart h x).stamp = s.stamp := rfl
@[simp] theorem Pkg.setHart_cores (s : Pkg) (h : Nat) (x : Hart) : (s.setHart h x).cores = s.cores := rfl
@[simp] theorem Pkg.setHart_scache (s : Pkg) (h : Nat) (x : Hart) : (s.setHart h x).scache = s.scache := rfl
@[simp] theorem Pkg.setHart_slices (s : Pkg) (h : Nat) (x : Hart) : (s.setHart h x).slices = s.slices := rfl
@[simp] theorem Pkg.setHart_invals (s : Pkg) (h : Nat) (x : Hart) : (s.setHart h x).invals = s.invals := rfl
@[simp] theorem Pkg.setHart_relWait (s : Pkg) (h : Nat) (x : Hart) : (s.setHart h x).relWait = s.relWait := rfl
@[simp] theorem Pkg.setHart_tier (s : Pkg) (h : Nat) (x : Hart) : (s.setHart h x).tier = s.tier := rfl
@[simp] theorem Pkg.setHart_lports (s : Pkg) (h : Nat) (x : Hart) : (s.setHart h x).lports = s.lports := rfl
@[simp] theorem Pkg.setHart_colls (s : Pkg) (h : Nat) (x : Hart) : (s.setHart h x).colls = s.colls := rfl
@[simp] theorem Pkg.setHart_collWait (s : Pkg) (h : Nat) (x : Hart) : (s.setHart h x).collWait = s.collWait := rfl
@[simp] theorem Pkg.setHart_collGone (s : Pkg) (h : Nat) (x : Hart) : (s.setHart h x).collGone = s.collGone := rfl
@[simp] theorem Pkg.setHart_fault (s : Pkg) (h : Nat) (x : Hart) : (s.setHart h x).fault = s.fault := rfl
@[simp] theorem Pkg.setHart_fw (s : Pkg) (h : Nat) (x : Hart) : (s.setHart h x).fw = s.fw := rfl
@[simp] theorem Pkg.setHart_mgmt (s : Pkg) (h : Nat) (x : Hart) : (s.setHart h x).mgmt = s.mgmt := rfl
@[simp] theorem Pkg.setHart_pcie (s : Pkg) (h : Nat) (x : Hart) : (s.setHart h x).pcie = s.pcie := rfl
@[simp] theorem Pkg.setHart_tap (s : Pkg) (h : Nat) (x : Hart) : (s.setHart h x).tap = s.tap := rfl
@[simp] theorem Pkg.setHart_pins (s : Pkg) (h : Nat) (x : Hart) : (s.setHart h x).pins = s.pins := rfl
@[simp] theorem Pkg.setHart_pow (s : Pkg) (h : Nat) (x : Hart) : (s.setHart h x).pow = s.pow := rfl
@[simp] theorem Pkg.setHart_log (s : Pkg) (h : Nat) (x : Hart) : (s.setHart h x).log = s.log := rfl
@[simp] theorem Pkg.setHart_out (s : Pkg) (h : Nat) (x : Hart) : (s.setHart h x).out = s.out := rfl
@[simp] theorem Pkg.setHart_free (s : Pkg) (h : Nat) (x : Hart) : (s.setHart h x).free = s.free := rfl

-- `Pkg.onArch` changes `harts` alone.
@[simp] theorem Pkg.onArch_tempo (s : Pkg) (h : Nat) (f : HArch → HArch) : (s.onArch h f).tempo = s.tempo := rfl
@[simp] theorem Pkg.onArch_parts (s : Pkg) (h : Nat) (f : HArch → HArch) : (s.onArch h f).parts = s.parts := rfl
@[simp] theorem Pkg.onArch_tiles (s : Pkg) (h : Nat) (f : HArch → HArch) : (s.onArch h f).tiles = s.tiles := rfl
@[simp] theorem Pkg.onArch_dstore (s : Pkg) (h : Nat) (f : HArch → HArch) : (s.onArch h f).dstore = s.dstore := rfl
@[simp] theorem Pkg.onArch_cached (s : Pkg) (h : Nat) (f : HArch → HArch) : (s.onArch h f).cached = s.cached := rfl
@[simp] theorem Pkg.onArch_sdies (s : Pkg) (h : Nat) (f : HArch → HArch) : (s.onArch h f).sdies = s.sdies := rfl
@[simp] theorem Pkg.onArch_dict (s : Pkg) (h : Nat) (f : HArch → HArch) : (s.onArch h f).dict = s.dict := rfl
@[simp] theorem Pkg.onArch_net (s : Pkg) (h : Nat) (f : HArch → HArch) : (s.onArch h f).net = s.net := rfl
@[simp] theorem Pkg.onArch_engines (s : Pkg) (h : Nat) (f : HArch → HArch) : (s.onArch h f).engines = s.engines := rfl
@[simp] theorem Pkg.onArch_solveWait (s : Pkg) (h : Nat) (f : HArch → HArch) : (s.onArch h f).solveWait = s.solveWait := rfl
@[simp] theorem Pkg.onArch_stamp (s : Pkg) (h : Nat) (f : HArch → HArch) : (s.onArch h f).stamp = s.stamp := rfl
@[simp] theorem Pkg.onArch_cores (s : Pkg) (h : Nat) (f : HArch → HArch) : (s.onArch h f).cores = s.cores := rfl
@[simp] theorem Pkg.onArch_scache (s : Pkg) (h : Nat) (f : HArch → HArch) : (s.onArch h f).scache = s.scache := rfl
@[simp] theorem Pkg.onArch_slices (s : Pkg) (h : Nat) (f : HArch → HArch) : (s.onArch h f).slices = s.slices := rfl
@[simp] theorem Pkg.onArch_invals (s : Pkg) (h : Nat) (f : HArch → HArch) : (s.onArch h f).invals = s.invals := rfl
@[simp] theorem Pkg.onArch_relWait (s : Pkg) (h : Nat) (f : HArch → HArch) : (s.onArch h f).relWait = s.relWait := rfl
@[simp] theorem Pkg.onArch_tier (s : Pkg) (h : Nat) (f : HArch → HArch) : (s.onArch h f).tier = s.tier := rfl
@[simp] theorem Pkg.onArch_lports (s : Pkg) (h : Nat) (f : HArch → HArch) : (s.onArch h f).lports = s.lports := rfl
@[simp] theorem Pkg.onArch_colls (s : Pkg) (h : Nat) (f : HArch → HArch) : (s.onArch h f).colls = s.colls := rfl
@[simp] theorem Pkg.onArch_collWait (s : Pkg) (h : Nat) (f : HArch → HArch) : (s.onArch h f).collWait = s.collWait := rfl
@[simp] theorem Pkg.onArch_collGone (s : Pkg) (h : Nat) (f : HArch → HArch) : (s.onArch h f).collGone = s.collGone := rfl
@[simp] theorem Pkg.onArch_fault (s : Pkg) (h : Nat) (f : HArch → HArch) : (s.onArch h f).fault = s.fault := rfl
@[simp] theorem Pkg.onArch_fw (s : Pkg) (h : Nat) (f : HArch → HArch) : (s.onArch h f).fw = s.fw := rfl
@[simp] theorem Pkg.onArch_mgmt (s : Pkg) (h : Nat) (f : HArch → HArch) : (s.onArch h f).mgmt = s.mgmt := rfl
@[simp] theorem Pkg.onArch_pcie (s : Pkg) (h : Nat) (f : HArch → HArch) : (s.onArch h f).pcie = s.pcie := rfl
@[simp] theorem Pkg.onArch_tap (s : Pkg) (h : Nat) (f : HArch → HArch) : (s.onArch h f).tap = s.tap := rfl
@[simp] theorem Pkg.onArch_pins (s : Pkg) (h : Nat) (f : HArch → HArch) : (s.onArch h f).pins = s.pins := rfl
@[simp] theorem Pkg.onArch_pow (s : Pkg) (h : Nat) (f : HArch → HArch) : (s.onArch h f).pow = s.pow := rfl
@[simp] theorem Pkg.onArch_log (s : Pkg) (h : Nat) (f : HArch → HArch) : (s.onArch h f).log = s.log := rfl
@[simp] theorem Pkg.onArch_out (s : Pkg) (h : Nat) (f : HArch → HArch) : (s.onArch h f).out = s.out := rfl
@[simp] theorem Pkg.onArch_free (s : Pkg) (h : Nat) (f : HArch → HArch) : (s.onArch h f).free = s.free := rfl

-- `Pkg.dropResv` changes `harts` alone.
@[simp] theorem Pkg.dropResv_tempo (s : Pkg) (l : List Nat) (own : Nat) : (s.dropResv l own).tempo = s.tempo := rfl
@[simp] theorem Pkg.dropResv_parts (s : Pkg) (l : List Nat) (own : Nat) : (s.dropResv l own).parts = s.parts := rfl
@[simp] theorem Pkg.dropResv_tiles (s : Pkg) (l : List Nat) (own : Nat) : (s.dropResv l own).tiles = s.tiles := rfl
@[simp] theorem Pkg.dropResv_dstore (s : Pkg) (l : List Nat) (own : Nat) : (s.dropResv l own).dstore = s.dstore := rfl
@[simp] theorem Pkg.dropResv_cached (s : Pkg) (l : List Nat) (own : Nat) : (s.dropResv l own).cached = s.cached := rfl
@[simp] theorem Pkg.dropResv_sdies (s : Pkg) (l : List Nat) (own : Nat) : (s.dropResv l own).sdies = s.sdies := rfl
@[simp] theorem Pkg.dropResv_dict (s : Pkg) (l : List Nat) (own : Nat) : (s.dropResv l own).dict = s.dict := rfl
@[simp] theorem Pkg.dropResv_net (s : Pkg) (l : List Nat) (own : Nat) : (s.dropResv l own).net = s.net := rfl
@[simp] theorem Pkg.dropResv_engines (s : Pkg) (l : List Nat) (own : Nat) : (s.dropResv l own).engines = s.engines := rfl
@[simp] theorem Pkg.dropResv_solveWait (s : Pkg) (l : List Nat) (own : Nat) : (s.dropResv l own).solveWait = s.solveWait := rfl
@[simp] theorem Pkg.dropResv_stamp (s : Pkg) (l : List Nat) (own : Nat) : (s.dropResv l own).stamp = s.stamp := rfl
@[simp] theorem Pkg.dropResv_cores (s : Pkg) (l : List Nat) (own : Nat) : (s.dropResv l own).cores = s.cores := rfl
@[simp] theorem Pkg.dropResv_scache (s : Pkg) (l : List Nat) (own : Nat) : (s.dropResv l own).scache = s.scache := rfl
@[simp] theorem Pkg.dropResv_slices (s : Pkg) (l : List Nat) (own : Nat) : (s.dropResv l own).slices = s.slices := rfl
@[simp] theorem Pkg.dropResv_invals (s : Pkg) (l : List Nat) (own : Nat) : (s.dropResv l own).invals = s.invals := rfl
@[simp] theorem Pkg.dropResv_relWait (s : Pkg) (l : List Nat) (own : Nat) : (s.dropResv l own).relWait = s.relWait := rfl
@[simp] theorem Pkg.dropResv_tier (s : Pkg) (l : List Nat) (own : Nat) : (s.dropResv l own).tier = s.tier := rfl
@[simp] theorem Pkg.dropResv_lports (s : Pkg) (l : List Nat) (own : Nat) : (s.dropResv l own).lports = s.lports := rfl
@[simp] theorem Pkg.dropResv_colls (s : Pkg) (l : List Nat) (own : Nat) : (s.dropResv l own).colls = s.colls := rfl
@[simp] theorem Pkg.dropResv_collWait (s : Pkg) (l : List Nat) (own : Nat) : (s.dropResv l own).collWait = s.collWait := rfl
@[simp] theorem Pkg.dropResv_collGone (s : Pkg) (l : List Nat) (own : Nat) : (s.dropResv l own).collGone = s.collGone := rfl
@[simp] theorem Pkg.dropResv_fault (s : Pkg) (l : List Nat) (own : Nat) : (s.dropResv l own).fault = s.fault := rfl
@[simp] theorem Pkg.dropResv_fw (s : Pkg) (l : List Nat) (own : Nat) : (s.dropResv l own).fw = s.fw := rfl
@[simp] theorem Pkg.dropResv_mgmt (s : Pkg) (l : List Nat) (own : Nat) : (s.dropResv l own).mgmt = s.mgmt := rfl
@[simp] theorem Pkg.dropResv_pcie (s : Pkg) (l : List Nat) (own : Nat) : (s.dropResv l own).pcie = s.pcie := rfl
@[simp] theorem Pkg.dropResv_tap (s : Pkg) (l : List Nat) (own : Nat) : (s.dropResv l own).tap = s.tap := rfl
@[simp] theorem Pkg.dropResv_pins (s : Pkg) (l : List Nat) (own : Nat) : (s.dropResv l own).pins = s.pins := rfl
@[simp] theorem Pkg.dropResv_pow (s : Pkg) (l : List Nat) (own : Nat) : (s.dropResv l own).pow = s.pow := rfl
@[simp] theorem Pkg.dropResv_log (s : Pkg) (l : List Nat) (own : Nat) : (s.dropResv l own).log = s.log := rfl
@[simp] theorem Pkg.dropResv_out (s : Pkg) (l : List Nat) (own : Nat) : (s.dropResv l own).out = s.out := rfl
@[simp] theorem Pkg.dropResv_free (s : Pkg) (l : List Nat) (own : Nat) : (s.dropResv l own).free = s.free := rfl

-- `Pkg.setSlice` changes `slices` alone.
@[simp] theorem Pkg.setSlice_tempo (s : Pkg) (k : Nat) (x : Slice) : (s.setSlice k x).tempo = s.tempo := rfl
@[simp] theorem Pkg.setSlice_parts (s : Pkg) (k : Nat) (x : Slice) : (s.setSlice k x).parts = s.parts := rfl
@[simp] theorem Pkg.setSlice_tiles (s : Pkg) (k : Nat) (x : Slice) : (s.setSlice k x).tiles = s.tiles := rfl
@[simp] theorem Pkg.setSlice_dstore (s : Pkg) (k : Nat) (x : Slice) : (s.setSlice k x).dstore = s.dstore := rfl
@[simp] theorem Pkg.setSlice_cached (s : Pkg) (k : Nat) (x : Slice) : (s.setSlice k x).cached = s.cached := rfl
@[simp] theorem Pkg.setSlice_sdies (s : Pkg) (k : Nat) (x : Slice) : (s.setSlice k x).sdies = s.sdies := rfl
@[simp] theorem Pkg.setSlice_dict (s : Pkg) (k : Nat) (x : Slice) : (s.setSlice k x).dict = s.dict := rfl
@[simp] theorem Pkg.setSlice_net (s : Pkg) (k : Nat) (x : Slice) : (s.setSlice k x).net = s.net := rfl
@[simp] theorem Pkg.setSlice_engines (s : Pkg) (k : Nat) (x : Slice) : (s.setSlice k x).engines = s.engines := rfl
@[simp] theorem Pkg.setSlice_solveWait (s : Pkg) (k : Nat) (x : Slice) : (s.setSlice k x).solveWait = s.solveWait := rfl
@[simp] theorem Pkg.setSlice_stamp (s : Pkg) (k : Nat) (x : Slice) : (s.setSlice k x).stamp = s.stamp := rfl
@[simp] theorem Pkg.setSlice_harts (s : Pkg) (k : Nat) (x : Slice) : (s.setSlice k x).harts = s.harts := rfl
@[simp] theorem Pkg.setSlice_cores (s : Pkg) (k : Nat) (x : Slice) : (s.setSlice k x).cores = s.cores := rfl
@[simp] theorem Pkg.setSlice_scache (s : Pkg) (k : Nat) (x : Slice) : (s.setSlice k x).scache = s.scache := rfl
@[simp] theorem Pkg.setSlice_invals (s : Pkg) (k : Nat) (x : Slice) : (s.setSlice k x).invals = s.invals := rfl
@[simp] theorem Pkg.setSlice_relWait (s : Pkg) (k : Nat) (x : Slice) : (s.setSlice k x).relWait = s.relWait := rfl
@[simp] theorem Pkg.setSlice_tier (s : Pkg) (k : Nat) (x : Slice) : (s.setSlice k x).tier = s.tier := rfl
@[simp] theorem Pkg.setSlice_lports (s : Pkg) (k : Nat) (x : Slice) : (s.setSlice k x).lports = s.lports := rfl
@[simp] theorem Pkg.setSlice_colls (s : Pkg) (k : Nat) (x : Slice) : (s.setSlice k x).colls = s.colls := rfl
@[simp] theorem Pkg.setSlice_collWait (s : Pkg) (k : Nat) (x : Slice) : (s.setSlice k x).collWait = s.collWait := rfl
@[simp] theorem Pkg.setSlice_collGone (s : Pkg) (k : Nat) (x : Slice) : (s.setSlice k x).collGone = s.collGone := rfl
@[simp] theorem Pkg.setSlice_fault (s : Pkg) (k : Nat) (x : Slice) : (s.setSlice k x).fault = s.fault := rfl
@[simp] theorem Pkg.setSlice_fw (s : Pkg) (k : Nat) (x : Slice) : (s.setSlice k x).fw = s.fw := rfl
@[simp] theorem Pkg.setSlice_mgmt (s : Pkg) (k : Nat) (x : Slice) : (s.setSlice k x).mgmt = s.mgmt := rfl
@[simp] theorem Pkg.setSlice_pcie (s : Pkg) (k : Nat) (x : Slice) : (s.setSlice k x).pcie = s.pcie := rfl
@[simp] theorem Pkg.setSlice_tap (s : Pkg) (k : Nat) (x : Slice) : (s.setSlice k x).tap = s.tap := rfl
@[simp] theorem Pkg.setSlice_pins (s : Pkg) (k : Nat) (x : Slice) : (s.setSlice k x).pins = s.pins := rfl
@[simp] theorem Pkg.setSlice_pow (s : Pkg) (k : Nat) (x : Slice) : (s.setSlice k x).pow = s.pow := rfl
@[simp] theorem Pkg.setSlice_log (s : Pkg) (k : Nat) (x : Slice) : (s.setSlice k x).log = s.log := rfl
@[simp] theorem Pkg.setSlice_out (s : Pkg) (k : Nat) (x : Slice) : (s.setSlice k x).out = s.out := rfl
@[simp] theorem Pkg.setSlice_free (s : Pkg) (k : Nat) (x : Slice) : (s.setSlice k x).free = s.free := rfl

-- `Pkg.dropLine` changes `scache` and `cached` alone.
@[simp] theorem Pkg.dropLine_tempo (s : Pkg) (l : Nat) : (s.dropLine l).tempo = s.tempo := rfl
@[simp] theorem Pkg.dropLine_parts (s : Pkg) (l : Nat) : (s.dropLine l).parts = s.parts := rfl
@[simp] theorem Pkg.dropLine_tiles (s : Pkg) (l : Nat) : (s.dropLine l).tiles = s.tiles := rfl
@[simp] theorem Pkg.dropLine_dstore (s : Pkg) (l : Nat) : (s.dropLine l).dstore = s.dstore := rfl
@[simp] theorem Pkg.dropLine_sdies (s : Pkg) (l : Nat) : (s.dropLine l).sdies = s.sdies := rfl
@[simp] theorem Pkg.dropLine_dict (s : Pkg) (l : Nat) : (s.dropLine l).dict = s.dict := rfl
@[simp] theorem Pkg.dropLine_net (s : Pkg) (l : Nat) : (s.dropLine l).net = s.net := rfl
@[simp] theorem Pkg.dropLine_engines (s : Pkg) (l : Nat) : (s.dropLine l).engines = s.engines := rfl
@[simp] theorem Pkg.dropLine_solveWait (s : Pkg) (l : Nat) : (s.dropLine l).solveWait = s.solveWait := rfl
@[simp] theorem Pkg.dropLine_stamp (s : Pkg) (l : Nat) : (s.dropLine l).stamp = s.stamp := rfl
@[simp] theorem Pkg.dropLine_harts (s : Pkg) (l : Nat) : (s.dropLine l).harts = s.harts := rfl
@[simp] theorem Pkg.dropLine_cores (s : Pkg) (l : Nat) : (s.dropLine l).cores = s.cores := rfl
@[simp] theorem Pkg.dropLine_slices (s : Pkg) (l : Nat) : (s.dropLine l).slices = s.slices := rfl
@[simp] theorem Pkg.dropLine_invals (s : Pkg) (l : Nat) : (s.dropLine l).invals = s.invals := rfl
@[simp] theorem Pkg.dropLine_relWait (s : Pkg) (l : Nat) : (s.dropLine l).relWait = s.relWait := rfl
@[simp] theorem Pkg.dropLine_tier (s : Pkg) (l : Nat) : (s.dropLine l).tier = s.tier := rfl
@[simp] theorem Pkg.dropLine_lports (s : Pkg) (l : Nat) : (s.dropLine l).lports = s.lports := rfl
@[simp] theorem Pkg.dropLine_colls (s : Pkg) (l : Nat) : (s.dropLine l).colls = s.colls := rfl
@[simp] theorem Pkg.dropLine_collWait (s : Pkg) (l : Nat) : (s.dropLine l).collWait = s.collWait := rfl
@[simp] theorem Pkg.dropLine_collGone (s : Pkg) (l : Nat) : (s.dropLine l).collGone = s.collGone := rfl
@[simp] theorem Pkg.dropLine_fault (s : Pkg) (l : Nat) : (s.dropLine l).fault = s.fault := rfl
@[simp] theorem Pkg.dropLine_fw (s : Pkg) (l : Nat) : (s.dropLine l).fw = s.fw := rfl
@[simp] theorem Pkg.dropLine_mgmt (s : Pkg) (l : Nat) : (s.dropLine l).mgmt = s.mgmt := rfl
@[simp] theorem Pkg.dropLine_pcie (s : Pkg) (l : Nat) : (s.dropLine l).pcie = s.pcie := rfl
@[simp] theorem Pkg.dropLine_tap (s : Pkg) (l : Nat) : (s.dropLine l).tap = s.tap := rfl
@[simp] theorem Pkg.dropLine_pins (s : Pkg) (l : Nat) : (s.dropLine l).pins = s.pins := rfl
@[simp] theorem Pkg.dropLine_pow (s : Pkg) (l : Nat) : (s.dropLine l).pow = s.pow := rfl
@[simp] theorem Pkg.dropLine_log (s : Pkg) (l : Nat) : (s.dropLine l).log = s.log := rfl
@[simp] theorem Pkg.dropLine_out (s : Pkg) (l : Nat) : (s.dropLine l).out = s.out := rfl
@[simp] theorem Pkg.dropLine_free (s : Pkg) (l : Nat) : (s.dropLine l).free = s.free := rfl

-- `Pkg.setEngine` changes `engines` alone.
@[simp] theorem Pkg.setEngine_tempo (s : Pkg) (e : Nat) (x : Engine) : (s.setEngine e x).tempo = s.tempo := rfl
@[simp] theorem Pkg.setEngine_parts (s : Pkg) (e : Nat) (x : Engine) : (s.setEngine e x).parts = s.parts := rfl
@[simp] theorem Pkg.setEngine_tiles (s : Pkg) (e : Nat) (x : Engine) : (s.setEngine e x).tiles = s.tiles := rfl
@[simp] theorem Pkg.setEngine_dstore (s : Pkg) (e : Nat) (x : Engine) : (s.setEngine e x).dstore = s.dstore := rfl
@[simp] theorem Pkg.setEngine_cached (s : Pkg) (e : Nat) (x : Engine) : (s.setEngine e x).cached = s.cached := rfl
@[simp] theorem Pkg.setEngine_sdies (s : Pkg) (e : Nat) (x : Engine) : (s.setEngine e x).sdies = s.sdies := rfl
@[simp] theorem Pkg.setEngine_dict (s : Pkg) (e : Nat) (x : Engine) : (s.setEngine e x).dict = s.dict := rfl
@[simp] theorem Pkg.setEngine_net (s : Pkg) (e : Nat) (x : Engine) : (s.setEngine e x).net = s.net := rfl
@[simp] theorem Pkg.setEngine_solveWait (s : Pkg) (e : Nat) (x : Engine) : (s.setEngine e x).solveWait = s.solveWait := rfl
@[simp] theorem Pkg.setEngine_stamp (s : Pkg) (e : Nat) (x : Engine) : (s.setEngine e x).stamp = s.stamp := rfl
@[simp] theorem Pkg.setEngine_harts (s : Pkg) (e : Nat) (x : Engine) : (s.setEngine e x).harts = s.harts := rfl
@[simp] theorem Pkg.setEngine_cores (s : Pkg) (e : Nat) (x : Engine) : (s.setEngine e x).cores = s.cores := rfl
@[simp] theorem Pkg.setEngine_scache (s : Pkg) (e : Nat) (x : Engine) : (s.setEngine e x).scache = s.scache := rfl
@[simp] theorem Pkg.setEngine_slices (s : Pkg) (e : Nat) (x : Engine) : (s.setEngine e x).slices = s.slices := rfl
@[simp] theorem Pkg.setEngine_invals (s : Pkg) (e : Nat) (x : Engine) : (s.setEngine e x).invals = s.invals := rfl
@[simp] theorem Pkg.setEngine_relWait (s : Pkg) (e : Nat) (x : Engine) : (s.setEngine e x).relWait = s.relWait := rfl
@[simp] theorem Pkg.setEngine_tier (s : Pkg) (e : Nat) (x : Engine) : (s.setEngine e x).tier = s.tier := rfl
@[simp] theorem Pkg.setEngine_lports (s : Pkg) (e : Nat) (x : Engine) : (s.setEngine e x).lports = s.lports := rfl
@[simp] theorem Pkg.setEngine_colls (s : Pkg) (e : Nat) (x : Engine) : (s.setEngine e x).colls = s.colls := rfl
@[simp] theorem Pkg.setEngine_collWait (s : Pkg) (e : Nat) (x : Engine) : (s.setEngine e x).collWait = s.collWait := rfl
@[simp] theorem Pkg.setEngine_collGone (s : Pkg) (e : Nat) (x : Engine) : (s.setEngine e x).collGone = s.collGone := rfl
@[simp] theorem Pkg.setEngine_fault (s : Pkg) (e : Nat) (x : Engine) : (s.setEngine e x).fault = s.fault := rfl
@[simp] theorem Pkg.setEngine_fw (s : Pkg) (e : Nat) (x : Engine) : (s.setEngine e x).fw = s.fw := rfl
@[simp] theorem Pkg.setEngine_mgmt (s : Pkg) (e : Nat) (x : Engine) : (s.setEngine e x).mgmt = s.mgmt := rfl
@[simp] theorem Pkg.setEngine_pcie (s : Pkg) (e : Nat) (x : Engine) : (s.setEngine e x).pcie = s.pcie := rfl
@[simp] theorem Pkg.setEngine_tap (s : Pkg) (e : Nat) (x : Engine) : (s.setEngine e x).tap = s.tap := rfl
@[simp] theorem Pkg.setEngine_pins (s : Pkg) (e : Nat) (x : Engine) : (s.setEngine e x).pins = s.pins := rfl
@[simp] theorem Pkg.setEngine_pow (s : Pkg) (e : Nat) (x : Engine) : (s.setEngine e x).pow = s.pow := rfl
@[simp] theorem Pkg.setEngine_log (s : Pkg) (e : Nat) (x : Engine) : (s.setEngine e x).log = s.log := rfl
@[simp] theorem Pkg.setEngine_out (s : Pkg) (e : Nat) (x : Engine) : (s.setEngine e x).out = s.out := rfl
@[simp] theorem Pkg.setEngine_free (s : Pkg) (e : Nat) (x : Engine) : (s.setEngine e x).free = s.free := rfl

-- `Pkg.setPci` changes `pcie` alone.
@[simp] theorem Pkg.setPci_tempo (s : Pkg) (k : Nat) (x : Pcie) : (s.setPci k x).tempo = s.tempo := rfl
@[simp] theorem Pkg.setPci_parts (s : Pkg) (k : Nat) (x : Pcie) : (s.setPci k x).parts = s.parts := rfl
@[simp] theorem Pkg.setPci_tiles (s : Pkg) (k : Nat) (x : Pcie) : (s.setPci k x).tiles = s.tiles := rfl
@[simp] theorem Pkg.setPci_dstore (s : Pkg) (k : Nat) (x : Pcie) : (s.setPci k x).dstore = s.dstore := rfl
@[simp] theorem Pkg.setPci_cached (s : Pkg) (k : Nat) (x : Pcie) : (s.setPci k x).cached = s.cached := rfl
@[simp] theorem Pkg.setPci_sdies (s : Pkg) (k : Nat) (x : Pcie) : (s.setPci k x).sdies = s.sdies := rfl
@[simp] theorem Pkg.setPci_dict (s : Pkg) (k : Nat) (x : Pcie) : (s.setPci k x).dict = s.dict := rfl
@[simp] theorem Pkg.setPci_net (s : Pkg) (k : Nat) (x : Pcie) : (s.setPci k x).net = s.net := rfl
@[simp] theorem Pkg.setPci_engines (s : Pkg) (k : Nat) (x : Pcie) : (s.setPci k x).engines = s.engines := rfl
@[simp] theorem Pkg.setPci_solveWait (s : Pkg) (k : Nat) (x : Pcie) : (s.setPci k x).solveWait = s.solveWait := rfl
@[simp] theorem Pkg.setPci_stamp (s : Pkg) (k : Nat) (x : Pcie) : (s.setPci k x).stamp = s.stamp := rfl
@[simp] theorem Pkg.setPci_harts (s : Pkg) (k : Nat) (x : Pcie) : (s.setPci k x).harts = s.harts := rfl
@[simp] theorem Pkg.setPci_cores (s : Pkg) (k : Nat) (x : Pcie) : (s.setPci k x).cores = s.cores := rfl
@[simp] theorem Pkg.setPci_scache (s : Pkg) (k : Nat) (x : Pcie) : (s.setPci k x).scache = s.scache := rfl
@[simp] theorem Pkg.setPci_slices (s : Pkg) (k : Nat) (x : Pcie) : (s.setPci k x).slices = s.slices := rfl
@[simp] theorem Pkg.setPci_invals (s : Pkg) (k : Nat) (x : Pcie) : (s.setPci k x).invals = s.invals := rfl
@[simp] theorem Pkg.setPci_relWait (s : Pkg) (k : Nat) (x : Pcie) : (s.setPci k x).relWait = s.relWait := rfl
@[simp] theorem Pkg.setPci_tier (s : Pkg) (k : Nat) (x : Pcie) : (s.setPci k x).tier = s.tier := rfl
@[simp] theorem Pkg.setPci_lports (s : Pkg) (k : Nat) (x : Pcie) : (s.setPci k x).lports = s.lports := rfl
@[simp] theorem Pkg.setPci_colls (s : Pkg) (k : Nat) (x : Pcie) : (s.setPci k x).colls = s.colls := rfl
@[simp] theorem Pkg.setPci_collWait (s : Pkg) (k : Nat) (x : Pcie) : (s.setPci k x).collWait = s.collWait := rfl
@[simp] theorem Pkg.setPci_collGone (s : Pkg) (k : Nat) (x : Pcie) : (s.setPci k x).collGone = s.collGone := rfl
@[simp] theorem Pkg.setPci_fault (s : Pkg) (k : Nat) (x : Pcie) : (s.setPci k x).fault = s.fault := rfl
@[simp] theorem Pkg.setPci_fw (s : Pkg) (k : Nat) (x : Pcie) : (s.setPci k x).fw = s.fw := rfl
@[simp] theorem Pkg.setPci_mgmt (s : Pkg) (k : Nat) (x : Pcie) : (s.setPci k x).mgmt = s.mgmt := rfl
@[simp] theorem Pkg.setPci_tap (s : Pkg) (k : Nat) (x : Pcie) : (s.setPci k x).tap = s.tap := rfl
@[simp] theorem Pkg.setPci_pins (s : Pkg) (k : Nat) (x : Pcie) : (s.setPci k x).pins = s.pins := rfl
@[simp] theorem Pkg.setPci_pow (s : Pkg) (k : Nat) (x : Pcie) : (s.setPci k x).pow = s.pow := rfl
@[simp] theorem Pkg.setPci_log (s : Pkg) (k : Nat) (x : Pcie) : (s.setPci k x).log = s.log := rfl
@[simp] theorem Pkg.setPci_out (s : Pkg) (k : Nat) (x : Pcie) : (s.setPci k x).out = s.out := rfl
@[simp] theorem Pkg.setPci_free (s : Pkg) (k : Nat) (x : Pcie) : (s.setPci k x).free = s.free := rfl

-- `Pkg.setLport` changes `lports` alone.
@[simp] theorem Pkg.setLport_tempo (s : Pkg) (q : Nat) (x : LPort) : (s.setLport q x).tempo = s.tempo := rfl
@[simp] theorem Pkg.setLport_parts (s : Pkg) (q : Nat) (x : LPort) : (s.setLport q x).parts = s.parts := rfl
@[simp] theorem Pkg.setLport_tiles (s : Pkg) (q : Nat) (x : LPort) : (s.setLport q x).tiles = s.tiles := rfl
@[simp] theorem Pkg.setLport_dstore (s : Pkg) (q : Nat) (x : LPort) : (s.setLport q x).dstore = s.dstore := rfl
@[simp] theorem Pkg.setLport_cached (s : Pkg) (q : Nat) (x : LPort) : (s.setLport q x).cached = s.cached := rfl
@[simp] theorem Pkg.setLport_sdies (s : Pkg) (q : Nat) (x : LPort) : (s.setLport q x).sdies = s.sdies := rfl
@[simp] theorem Pkg.setLport_dict (s : Pkg) (q : Nat) (x : LPort) : (s.setLport q x).dict = s.dict := rfl
@[simp] theorem Pkg.setLport_net (s : Pkg) (q : Nat) (x : LPort) : (s.setLport q x).net = s.net := rfl
@[simp] theorem Pkg.setLport_engines (s : Pkg) (q : Nat) (x : LPort) : (s.setLport q x).engines = s.engines := rfl
@[simp] theorem Pkg.setLport_solveWait (s : Pkg) (q : Nat) (x : LPort) : (s.setLport q x).solveWait = s.solveWait := rfl
@[simp] theorem Pkg.setLport_stamp (s : Pkg) (q : Nat) (x : LPort) : (s.setLport q x).stamp = s.stamp := rfl
@[simp] theorem Pkg.setLport_harts (s : Pkg) (q : Nat) (x : LPort) : (s.setLport q x).harts = s.harts := rfl
@[simp] theorem Pkg.setLport_cores (s : Pkg) (q : Nat) (x : LPort) : (s.setLport q x).cores = s.cores := rfl
@[simp] theorem Pkg.setLport_scache (s : Pkg) (q : Nat) (x : LPort) : (s.setLport q x).scache = s.scache := rfl
@[simp] theorem Pkg.setLport_slices (s : Pkg) (q : Nat) (x : LPort) : (s.setLport q x).slices = s.slices := rfl
@[simp] theorem Pkg.setLport_invals (s : Pkg) (q : Nat) (x : LPort) : (s.setLport q x).invals = s.invals := rfl
@[simp] theorem Pkg.setLport_relWait (s : Pkg) (q : Nat) (x : LPort) : (s.setLport q x).relWait = s.relWait := rfl
@[simp] theorem Pkg.setLport_tier (s : Pkg) (q : Nat) (x : LPort) : (s.setLport q x).tier = s.tier := rfl
@[simp] theorem Pkg.setLport_colls (s : Pkg) (q : Nat) (x : LPort) : (s.setLport q x).colls = s.colls := rfl
@[simp] theorem Pkg.setLport_collWait (s : Pkg) (q : Nat) (x : LPort) : (s.setLport q x).collWait = s.collWait := rfl
@[simp] theorem Pkg.setLport_collGone (s : Pkg) (q : Nat) (x : LPort) : (s.setLport q x).collGone = s.collGone := rfl
@[simp] theorem Pkg.setLport_fault (s : Pkg) (q : Nat) (x : LPort) : (s.setLport q x).fault = s.fault := rfl
@[simp] theorem Pkg.setLport_fw (s : Pkg) (q : Nat) (x : LPort) : (s.setLport q x).fw = s.fw := rfl
@[simp] theorem Pkg.setLport_mgmt (s : Pkg) (q : Nat) (x : LPort) : (s.setLport q x).mgmt = s.mgmt := rfl
@[simp] theorem Pkg.setLport_pcie (s : Pkg) (q : Nat) (x : LPort) : (s.setLport q x).pcie = s.pcie := rfl
@[simp] theorem Pkg.setLport_tap (s : Pkg) (q : Nat) (x : LPort) : (s.setLport q x).tap = s.tap := rfl
@[simp] theorem Pkg.setLport_pins (s : Pkg) (q : Nat) (x : LPort) : (s.setLport q x).pins = s.pins := rfl
@[simp] theorem Pkg.setLport_pow (s : Pkg) (q : Nat) (x : LPort) : (s.setLport q x).pow = s.pow := rfl
@[simp] theorem Pkg.setLport_log (s : Pkg) (q : Nat) (x : LPort) : (s.setLport q x).log = s.log := rfl
@[simp] theorem Pkg.setLport_out (s : Pkg) (q : Nat) (x : LPort) : (s.setLport q x).out = s.out := rfl
@[simp] theorem Pkg.setLport_free (s : Pkg) (q : Nat) (x : LPort) : (s.setLport q x).free = s.free := rfl

-- `Pkg.setRegion` changes `tier` alone.
@[simp] theorem Pkg.setRegion_tempo (s : Pkg) (r : Nat) (x : TRegion) : (s.setRegion r x).tempo = s.tempo := rfl
@[simp] theorem Pkg.setRegion_parts (s : Pkg) (r : Nat) (x : TRegion) : (s.setRegion r x).parts = s.parts := rfl
@[simp] theorem Pkg.setRegion_tiles (s : Pkg) (r : Nat) (x : TRegion) : (s.setRegion r x).tiles = s.tiles := rfl
@[simp] theorem Pkg.setRegion_dstore (s : Pkg) (r : Nat) (x : TRegion) : (s.setRegion r x).dstore = s.dstore := rfl
@[simp] theorem Pkg.setRegion_cached (s : Pkg) (r : Nat) (x : TRegion) : (s.setRegion r x).cached = s.cached := rfl
@[simp] theorem Pkg.setRegion_sdies (s : Pkg) (r : Nat) (x : TRegion) : (s.setRegion r x).sdies = s.sdies := rfl
@[simp] theorem Pkg.setRegion_dict (s : Pkg) (r : Nat) (x : TRegion) : (s.setRegion r x).dict = s.dict := rfl
@[simp] theorem Pkg.setRegion_net (s : Pkg) (r : Nat) (x : TRegion) : (s.setRegion r x).net = s.net := rfl
@[simp] theorem Pkg.setRegion_engines (s : Pkg) (r : Nat) (x : TRegion) : (s.setRegion r x).engines = s.engines := rfl
@[simp] theorem Pkg.setRegion_solveWait (s : Pkg) (r : Nat) (x : TRegion) : (s.setRegion r x).solveWait = s.solveWait := rfl
@[simp] theorem Pkg.setRegion_stamp (s : Pkg) (r : Nat) (x : TRegion) : (s.setRegion r x).stamp = s.stamp := rfl
@[simp] theorem Pkg.setRegion_harts (s : Pkg) (r : Nat) (x : TRegion) : (s.setRegion r x).harts = s.harts := rfl
@[simp] theorem Pkg.setRegion_cores (s : Pkg) (r : Nat) (x : TRegion) : (s.setRegion r x).cores = s.cores := rfl
@[simp] theorem Pkg.setRegion_scache (s : Pkg) (r : Nat) (x : TRegion) : (s.setRegion r x).scache = s.scache := rfl
@[simp] theorem Pkg.setRegion_slices (s : Pkg) (r : Nat) (x : TRegion) : (s.setRegion r x).slices = s.slices := rfl
@[simp] theorem Pkg.setRegion_invals (s : Pkg) (r : Nat) (x : TRegion) : (s.setRegion r x).invals = s.invals := rfl
@[simp] theorem Pkg.setRegion_relWait (s : Pkg) (r : Nat) (x : TRegion) : (s.setRegion r x).relWait = s.relWait := rfl
@[simp] theorem Pkg.setRegion_lports (s : Pkg) (r : Nat) (x : TRegion) : (s.setRegion r x).lports = s.lports := rfl
@[simp] theorem Pkg.setRegion_colls (s : Pkg) (r : Nat) (x : TRegion) : (s.setRegion r x).colls = s.colls := rfl
@[simp] theorem Pkg.setRegion_collWait (s : Pkg) (r : Nat) (x : TRegion) : (s.setRegion r x).collWait = s.collWait := rfl
@[simp] theorem Pkg.setRegion_collGone (s : Pkg) (r : Nat) (x : TRegion) : (s.setRegion r x).collGone = s.collGone := rfl
@[simp] theorem Pkg.setRegion_fault (s : Pkg) (r : Nat) (x : TRegion) : (s.setRegion r x).fault = s.fault := rfl
@[simp] theorem Pkg.setRegion_fw (s : Pkg) (r : Nat) (x : TRegion) : (s.setRegion r x).fw = s.fw := rfl
@[simp] theorem Pkg.setRegion_mgmt (s : Pkg) (r : Nat) (x : TRegion) : (s.setRegion r x).mgmt = s.mgmt := rfl
@[simp] theorem Pkg.setRegion_pcie (s : Pkg) (r : Nat) (x : TRegion) : (s.setRegion r x).pcie = s.pcie := rfl
@[simp] theorem Pkg.setRegion_tap (s : Pkg) (r : Nat) (x : TRegion) : (s.setRegion r x).tap = s.tap := rfl
@[simp] theorem Pkg.setRegion_pins (s : Pkg) (r : Nat) (x : TRegion) : (s.setRegion r x).pins = s.pins := rfl
@[simp] theorem Pkg.setRegion_pow (s : Pkg) (r : Nat) (x : TRegion) : (s.setRegion r x).pow = s.pow := rfl
@[simp] theorem Pkg.setRegion_log (s : Pkg) (r : Nat) (x : TRegion) : (s.setRegion r x).log = s.log := rfl
@[simp] theorem Pkg.setRegion_out (s : Pkg) (r : Nat) (x : TRegion) : (s.setRegion r x).out = s.out := rfl
@[simp] theorem Pkg.setRegion_free (s : Pkg) (r : Nat) (x : TRegion) : (s.setRegion r x).free = s.free := rfl

-- `Pkg.setGroup` changes `tier` alone.
@[simp] theorem Pkg.setGroup_tempo (s : Pkg) (g : Nat) (x : TGroup) : (s.setGroup g x).tempo = s.tempo := rfl
@[simp] theorem Pkg.setGroup_parts (s : Pkg) (g : Nat) (x : TGroup) : (s.setGroup g x).parts = s.parts := rfl
@[simp] theorem Pkg.setGroup_tiles (s : Pkg) (g : Nat) (x : TGroup) : (s.setGroup g x).tiles = s.tiles := rfl
@[simp] theorem Pkg.setGroup_dstore (s : Pkg) (g : Nat) (x : TGroup) : (s.setGroup g x).dstore = s.dstore := rfl
@[simp] theorem Pkg.setGroup_cached (s : Pkg) (g : Nat) (x : TGroup) : (s.setGroup g x).cached = s.cached := rfl
@[simp] theorem Pkg.setGroup_sdies (s : Pkg) (g : Nat) (x : TGroup) : (s.setGroup g x).sdies = s.sdies := rfl
@[simp] theorem Pkg.setGroup_dict (s : Pkg) (g : Nat) (x : TGroup) : (s.setGroup g x).dict = s.dict := rfl
@[simp] theorem Pkg.setGroup_net (s : Pkg) (g : Nat) (x : TGroup) : (s.setGroup g x).net = s.net := rfl
@[simp] theorem Pkg.setGroup_engines (s : Pkg) (g : Nat) (x : TGroup) : (s.setGroup g x).engines = s.engines := rfl
@[simp] theorem Pkg.setGroup_solveWait (s : Pkg) (g : Nat) (x : TGroup) : (s.setGroup g x).solveWait = s.solveWait := rfl
@[simp] theorem Pkg.setGroup_stamp (s : Pkg) (g : Nat) (x : TGroup) : (s.setGroup g x).stamp = s.stamp := rfl
@[simp] theorem Pkg.setGroup_harts (s : Pkg) (g : Nat) (x : TGroup) : (s.setGroup g x).harts = s.harts := rfl
@[simp] theorem Pkg.setGroup_cores (s : Pkg) (g : Nat) (x : TGroup) : (s.setGroup g x).cores = s.cores := rfl
@[simp] theorem Pkg.setGroup_scache (s : Pkg) (g : Nat) (x : TGroup) : (s.setGroup g x).scache = s.scache := rfl
@[simp] theorem Pkg.setGroup_slices (s : Pkg) (g : Nat) (x : TGroup) : (s.setGroup g x).slices = s.slices := rfl
@[simp] theorem Pkg.setGroup_invals (s : Pkg) (g : Nat) (x : TGroup) : (s.setGroup g x).invals = s.invals := rfl
@[simp] theorem Pkg.setGroup_relWait (s : Pkg) (g : Nat) (x : TGroup) : (s.setGroup g x).relWait = s.relWait := rfl
@[simp] theorem Pkg.setGroup_lports (s : Pkg) (g : Nat) (x : TGroup) : (s.setGroup g x).lports = s.lports := rfl
@[simp] theorem Pkg.setGroup_colls (s : Pkg) (g : Nat) (x : TGroup) : (s.setGroup g x).colls = s.colls := rfl
@[simp] theorem Pkg.setGroup_collWait (s : Pkg) (g : Nat) (x : TGroup) : (s.setGroup g x).collWait = s.collWait := rfl
@[simp] theorem Pkg.setGroup_collGone (s : Pkg) (g : Nat) (x : TGroup) : (s.setGroup g x).collGone = s.collGone := rfl
@[simp] theorem Pkg.setGroup_fault (s : Pkg) (g : Nat) (x : TGroup) : (s.setGroup g x).fault = s.fault := rfl
@[simp] theorem Pkg.setGroup_fw (s : Pkg) (g : Nat) (x : TGroup) : (s.setGroup g x).fw = s.fw := rfl
@[simp] theorem Pkg.setGroup_mgmt (s : Pkg) (g : Nat) (x : TGroup) : (s.setGroup g x).mgmt = s.mgmt := rfl
@[simp] theorem Pkg.setGroup_pcie (s : Pkg) (g : Nat) (x : TGroup) : (s.setGroup g x).pcie = s.pcie := rfl
@[simp] theorem Pkg.setGroup_tap (s : Pkg) (g : Nat) (x : TGroup) : (s.setGroup g x).tap = s.tap := rfl
@[simp] theorem Pkg.setGroup_pins (s : Pkg) (g : Nat) (x : TGroup) : (s.setGroup g x).pins = s.pins := rfl
@[simp] theorem Pkg.setGroup_pow (s : Pkg) (g : Nat) (x : TGroup) : (s.setGroup g x).pow = s.pow := rfl
@[simp] theorem Pkg.setGroup_log (s : Pkg) (g : Nat) (x : TGroup) : (s.setGroup g x).log = s.log := rfl
@[simp] theorem Pkg.setGroup_out (s : Pkg) (g : Nat) (x : TGroup) : (s.setGroup g x).out = s.out := rfl
@[simp] theorem Pkg.setGroup_free (s : Pkg) (g : Nat) (x : TGroup) : (s.setGroup g x).free = s.free := rfl

-- `Pkg.setJob` changes `tier` alone.
@[simp] theorem Pkg.setJob_tempo (s : Pkg) (j : TJob) : (s.setJob j).tempo = s.tempo := rfl
@[simp] theorem Pkg.setJob_parts (s : Pkg) (j : TJob) : (s.setJob j).parts = s.parts := rfl
@[simp] theorem Pkg.setJob_tiles (s : Pkg) (j : TJob) : (s.setJob j).tiles = s.tiles := rfl
@[simp] theorem Pkg.setJob_dstore (s : Pkg) (j : TJob) : (s.setJob j).dstore = s.dstore := rfl
@[simp] theorem Pkg.setJob_cached (s : Pkg) (j : TJob) : (s.setJob j).cached = s.cached := rfl
@[simp] theorem Pkg.setJob_sdies (s : Pkg) (j : TJob) : (s.setJob j).sdies = s.sdies := rfl
@[simp] theorem Pkg.setJob_dict (s : Pkg) (j : TJob) : (s.setJob j).dict = s.dict := rfl
@[simp] theorem Pkg.setJob_net (s : Pkg) (j : TJob) : (s.setJob j).net = s.net := rfl
@[simp] theorem Pkg.setJob_engines (s : Pkg) (j : TJob) : (s.setJob j).engines = s.engines := rfl
@[simp] theorem Pkg.setJob_solveWait (s : Pkg) (j : TJob) : (s.setJob j).solveWait = s.solveWait := rfl
@[simp] theorem Pkg.setJob_stamp (s : Pkg) (j : TJob) : (s.setJob j).stamp = s.stamp := rfl
@[simp] theorem Pkg.setJob_harts (s : Pkg) (j : TJob) : (s.setJob j).harts = s.harts := rfl
@[simp] theorem Pkg.setJob_cores (s : Pkg) (j : TJob) : (s.setJob j).cores = s.cores := rfl
@[simp] theorem Pkg.setJob_scache (s : Pkg) (j : TJob) : (s.setJob j).scache = s.scache := rfl
@[simp] theorem Pkg.setJob_slices (s : Pkg) (j : TJob) : (s.setJob j).slices = s.slices := rfl
@[simp] theorem Pkg.setJob_invals (s : Pkg) (j : TJob) : (s.setJob j).invals = s.invals := rfl
@[simp] theorem Pkg.setJob_relWait (s : Pkg) (j : TJob) : (s.setJob j).relWait = s.relWait := rfl
@[simp] theorem Pkg.setJob_lports (s : Pkg) (j : TJob) : (s.setJob j).lports = s.lports := rfl
@[simp] theorem Pkg.setJob_colls (s : Pkg) (j : TJob) : (s.setJob j).colls = s.colls := rfl
@[simp] theorem Pkg.setJob_collWait (s : Pkg) (j : TJob) : (s.setJob j).collWait = s.collWait := rfl
@[simp] theorem Pkg.setJob_collGone (s : Pkg) (j : TJob) : (s.setJob j).collGone = s.collGone := rfl
@[simp] theorem Pkg.setJob_fault (s : Pkg) (j : TJob) : (s.setJob j).fault = s.fault := rfl
@[simp] theorem Pkg.setJob_fw (s : Pkg) (j : TJob) : (s.setJob j).fw = s.fw := rfl
@[simp] theorem Pkg.setJob_mgmt (s : Pkg) (j : TJob) : (s.setJob j).mgmt = s.mgmt := rfl
@[simp] theorem Pkg.setJob_pcie (s : Pkg) (j : TJob) : (s.setJob j).pcie = s.pcie := rfl
@[simp] theorem Pkg.setJob_tap (s : Pkg) (j : TJob) : (s.setJob j).tap = s.tap := rfl
@[simp] theorem Pkg.setJob_pins (s : Pkg) (j : TJob) : (s.setJob j).pins = s.pins := rfl
@[simp] theorem Pkg.setJob_pow (s : Pkg) (j : TJob) : (s.setJob j).pow = s.pow := rfl
@[simp] theorem Pkg.setJob_log (s : Pkg) (j : TJob) : (s.setJob j).log = s.log := rfl
@[simp] theorem Pkg.setJob_out (s : Pkg) (j : TJob) : (s.setJob j).out = s.out := rfl
@[simp] theorem Pkg.setJob_free (s : Pkg) (j : TJob) : (s.setJob j).free = s.free := rfl

-- `Pkg.endJob` changes `tier` alone.
@[simp] theorem Pkg.endJob_tempo (s : Pkg) (n : Nat) : (s.endJob n).tempo = s.tempo := rfl
@[simp] theorem Pkg.endJob_parts (s : Pkg) (n : Nat) : (s.endJob n).parts = s.parts := rfl
@[simp] theorem Pkg.endJob_tiles (s : Pkg) (n : Nat) : (s.endJob n).tiles = s.tiles := rfl
@[simp] theorem Pkg.endJob_dstore (s : Pkg) (n : Nat) : (s.endJob n).dstore = s.dstore := rfl
@[simp] theorem Pkg.endJob_cached (s : Pkg) (n : Nat) : (s.endJob n).cached = s.cached := rfl
@[simp] theorem Pkg.endJob_sdies (s : Pkg) (n : Nat) : (s.endJob n).sdies = s.sdies := rfl
@[simp] theorem Pkg.endJob_dict (s : Pkg) (n : Nat) : (s.endJob n).dict = s.dict := rfl
@[simp] theorem Pkg.endJob_net (s : Pkg) (n : Nat) : (s.endJob n).net = s.net := rfl
@[simp] theorem Pkg.endJob_engines (s : Pkg) (n : Nat) : (s.endJob n).engines = s.engines := rfl
@[simp] theorem Pkg.endJob_solveWait (s : Pkg) (n : Nat) : (s.endJob n).solveWait = s.solveWait := rfl
@[simp] theorem Pkg.endJob_stamp (s : Pkg) (n : Nat) : (s.endJob n).stamp = s.stamp := rfl
@[simp] theorem Pkg.endJob_harts (s : Pkg) (n : Nat) : (s.endJob n).harts = s.harts := rfl
@[simp] theorem Pkg.endJob_cores (s : Pkg) (n : Nat) : (s.endJob n).cores = s.cores := rfl
@[simp] theorem Pkg.endJob_scache (s : Pkg) (n : Nat) : (s.endJob n).scache = s.scache := rfl
@[simp] theorem Pkg.endJob_slices (s : Pkg) (n : Nat) : (s.endJob n).slices = s.slices := rfl
@[simp] theorem Pkg.endJob_invals (s : Pkg) (n : Nat) : (s.endJob n).invals = s.invals := rfl
@[simp] theorem Pkg.endJob_relWait (s : Pkg) (n : Nat) : (s.endJob n).relWait = s.relWait := rfl
@[simp] theorem Pkg.endJob_lports (s : Pkg) (n : Nat) : (s.endJob n).lports = s.lports := rfl
@[simp] theorem Pkg.endJob_colls (s : Pkg) (n : Nat) : (s.endJob n).colls = s.colls := rfl
@[simp] theorem Pkg.endJob_collWait (s : Pkg) (n : Nat) : (s.endJob n).collWait = s.collWait := rfl
@[simp] theorem Pkg.endJob_collGone (s : Pkg) (n : Nat) : (s.endJob n).collGone = s.collGone := rfl
@[simp] theorem Pkg.endJob_fault (s : Pkg) (n : Nat) : (s.endJob n).fault = s.fault := rfl
@[simp] theorem Pkg.endJob_fw (s : Pkg) (n : Nat) : (s.endJob n).fw = s.fw := rfl
@[simp] theorem Pkg.endJob_mgmt (s : Pkg) (n : Nat) : (s.endJob n).mgmt = s.mgmt := rfl
@[simp] theorem Pkg.endJob_pcie (s : Pkg) (n : Nat) : (s.endJob n).pcie = s.pcie := rfl
@[simp] theorem Pkg.endJob_tap (s : Pkg) (n : Nat) : (s.endJob n).tap = s.tap := rfl
@[simp] theorem Pkg.endJob_pins (s : Pkg) (n : Nat) : (s.endJob n).pins = s.pins := rfl
@[simp] theorem Pkg.endJob_pow (s : Pkg) (n : Nat) : (s.endJob n).pow = s.pow := rfl
@[simp] theorem Pkg.endJob_log (s : Pkg) (n : Nat) : (s.endJob n).log = s.log := rfl
@[simp] theorem Pkg.endJob_out (s : Pkg) (n : Nat) : (s.endJob n).out = s.out := rfl
@[simp] theorem Pkg.endJob_free (s : Pkg) (n : Nat) : (s.endJob n).free = s.free := rfl

-- `Pkg.setColl` changes `colls` alone.
@[simp] theorem Pkg.setColl_tempo (s : Pkg) (c : Coll) : (s.setColl c).tempo = s.tempo := rfl
@[simp] theorem Pkg.setColl_parts (s : Pkg) (c : Coll) : (s.setColl c).parts = s.parts := rfl
@[simp] theorem Pkg.setColl_tiles (s : Pkg) (c : Coll) : (s.setColl c).tiles = s.tiles := rfl
@[simp] theorem Pkg.setColl_dstore (s : Pkg) (c : Coll) : (s.setColl c).dstore = s.dstore := rfl
@[simp] theorem Pkg.setColl_cached (s : Pkg) (c : Coll) : (s.setColl c).cached = s.cached := rfl
@[simp] theorem Pkg.setColl_sdies (s : Pkg) (c : Coll) : (s.setColl c).sdies = s.sdies := rfl
@[simp] theorem Pkg.setColl_dict (s : Pkg) (c : Coll) : (s.setColl c).dict = s.dict := rfl
@[simp] theorem Pkg.setColl_net (s : Pkg) (c : Coll) : (s.setColl c).net = s.net := rfl
@[simp] theorem Pkg.setColl_engines (s : Pkg) (c : Coll) : (s.setColl c).engines = s.engines := rfl
@[simp] theorem Pkg.setColl_solveWait (s : Pkg) (c : Coll) : (s.setColl c).solveWait = s.solveWait := rfl
@[simp] theorem Pkg.setColl_stamp (s : Pkg) (c : Coll) : (s.setColl c).stamp = s.stamp := rfl
@[simp] theorem Pkg.setColl_harts (s : Pkg) (c : Coll) : (s.setColl c).harts = s.harts := rfl
@[simp] theorem Pkg.setColl_cores (s : Pkg) (c : Coll) : (s.setColl c).cores = s.cores := rfl
@[simp] theorem Pkg.setColl_scache (s : Pkg) (c : Coll) : (s.setColl c).scache = s.scache := rfl
@[simp] theorem Pkg.setColl_slices (s : Pkg) (c : Coll) : (s.setColl c).slices = s.slices := rfl
@[simp] theorem Pkg.setColl_invals (s : Pkg) (c : Coll) : (s.setColl c).invals = s.invals := rfl
@[simp] theorem Pkg.setColl_relWait (s : Pkg) (c : Coll) : (s.setColl c).relWait = s.relWait := rfl
@[simp] theorem Pkg.setColl_tier (s : Pkg) (c : Coll) : (s.setColl c).tier = s.tier := rfl
@[simp] theorem Pkg.setColl_lports (s : Pkg) (c : Coll) : (s.setColl c).lports = s.lports := rfl
@[simp] theorem Pkg.setColl_collWait (s : Pkg) (c : Coll) : (s.setColl c).collWait = s.collWait := rfl
@[simp] theorem Pkg.setColl_collGone (s : Pkg) (c : Coll) : (s.setColl c).collGone = s.collGone := rfl
@[simp] theorem Pkg.setColl_fault (s : Pkg) (c : Coll) : (s.setColl c).fault = s.fault := rfl
@[simp] theorem Pkg.setColl_fw (s : Pkg) (c : Coll) : (s.setColl c).fw = s.fw := rfl
@[simp] theorem Pkg.setColl_mgmt (s : Pkg) (c : Coll) : (s.setColl c).mgmt = s.mgmt := rfl
@[simp] theorem Pkg.setColl_pcie (s : Pkg) (c : Coll) : (s.setColl c).pcie = s.pcie := rfl
@[simp] theorem Pkg.setColl_tap (s : Pkg) (c : Coll) : (s.setColl c).tap = s.tap := rfl
@[simp] theorem Pkg.setColl_pins (s : Pkg) (c : Coll) : (s.setColl c).pins = s.pins := rfl
@[simp] theorem Pkg.setColl_pow (s : Pkg) (c : Coll) : (s.setColl c).pow = s.pow := rfl
@[simp] theorem Pkg.setColl_log (s : Pkg) (c : Coll) : (s.setColl c).log = s.log := rfl
@[simp] theorem Pkg.setColl_out (s : Pkg) (c : Coll) : (s.setColl c).out = s.out := rfl
@[simp] theorem Pkg.setColl_free (s : Pkg) (c : Coll) : (s.setColl c).free = s.free := rfl

-- `Pkg.dropColl` changes `colls` alone.
@[simp] theorem Pkg.dropColl_tempo (s : Pkg) (p n : Nat) : (s.dropColl p n).tempo = s.tempo := rfl
@[simp] theorem Pkg.dropColl_parts (s : Pkg) (p n : Nat) : (s.dropColl p n).parts = s.parts := rfl
@[simp] theorem Pkg.dropColl_tiles (s : Pkg) (p n : Nat) : (s.dropColl p n).tiles = s.tiles := rfl
@[simp] theorem Pkg.dropColl_dstore (s : Pkg) (p n : Nat) : (s.dropColl p n).dstore = s.dstore := rfl
@[simp] theorem Pkg.dropColl_cached (s : Pkg) (p n : Nat) : (s.dropColl p n).cached = s.cached := rfl
@[simp] theorem Pkg.dropColl_sdies (s : Pkg) (p n : Nat) : (s.dropColl p n).sdies = s.sdies := rfl
@[simp] theorem Pkg.dropColl_dict (s : Pkg) (p n : Nat) : (s.dropColl p n).dict = s.dict := rfl
@[simp] theorem Pkg.dropColl_net (s : Pkg) (p n : Nat) : (s.dropColl p n).net = s.net := rfl
@[simp] theorem Pkg.dropColl_engines (s : Pkg) (p n : Nat) : (s.dropColl p n).engines = s.engines := rfl
@[simp] theorem Pkg.dropColl_solveWait (s : Pkg) (p n : Nat) : (s.dropColl p n).solveWait = s.solveWait := rfl
@[simp] theorem Pkg.dropColl_stamp (s : Pkg) (p n : Nat) : (s.dropColl p n).stamp = s.stamp := rfl
@[simp] theorem Pkg.dropColl_harts (s : Pkg) (p n : Nat) : (s.dropColl p n).harts = s.harts := rfl
@[simp] theorem Pkg.dropColl_cores (s : Pkg) (p n : Nat) : (s.dropColl p n).cores = s.cores := rfl
@[simp] theorem Pkg.dropColl_scache (s : Pkg) (p n : Nat) : (s.dropColl p n).scache = s.scache := rfl
@[simp] theorem Pkg.dropColl_slices (s : Pkg) (p n : Nat) : (s.dropColl p n).slices = s.slices := rfl
@[simp] theorem Pkg.dropColl_invals (s : Pkg) (p n : Nat) : (s.dropColl p n).invals = s.invals := rfl
@[simp] theorem Pkg.dropColl_relWait (s : Pkg) (p n : Nat) : (s.dropColl p n).relWait = s.relWait := rfl
@[simp] theorem Pkg.dropColl_tier (s : Pkg) (p n : Nat) : (s.dropColl p n).tier = s.tier := rfl
@[simp] theorem Pkg.dropColl_lports (s : Pkg) (p n : Nat) : (s.dropColl p n).lports = s.lports := rfl
@[simp] theorem Pkg.dropColl_collWait (s : Pkg) (p n : Nat) : (s.dropColl p n).collWait = s.collWait := rfl
@[simp] theorem Pkg.dropColl_collGone (s : Pkg) (p n : Nat) : (s.dropColl p n).collGone = s.collGone := rfl
@[simp] theorem Pkg.dropColl_fault (s : Pkg) (p n : Nat) : (s.dropColl p n).fault = s.fault := rfl
@[simp] theorem Pkg.dropColl_fw (s : Pkg) (p n : Nat) : (s.dropColl p n).fw = s.fw := rfl
@[simp] theorem Pkg.dropColl_mgmt (s : Pkg) (p n : Nat) : (s.dropColl p n).mgmt = s.mgmt := rfl
@[simp] theorem Pkg.dropColl_pcie (s : Pkg) (p n : Nat) : (s.dropColl p n).pcie = s.pcie := rfl
@[simp] theorem Pkg.dropColl_tap (s : Pkg) (p n : Nat) : (s.dropColl p n).tap = s.tap := rfl
@[simp] theorem Pkg.dropColl_pins (s : Pkg) (p n : Nat) : (s.dropColl p n).pins = s.pins := rfl
@[simp] theorem Pkg.dropColl_pow (s : Pkg) (p n : Nat) : (s.dropColl p n).pow = s.pow := rfl
@[simp] theorem Pkg.dropColl_log (s : Pkg) (p n : Nat) : (s.dropColl p n).log = s.log := rfl
@[simp] theorem Pkg.dropColl_out (s : Pkg) (p n : Nat) : (s.dropColl p n).out = s.out := rfl
@[simp] theorem Pkg.dropColl_free (s : Pkg) (p n : Nat) : (s.dropColl p n).free = s.free := rfl

-- `Pkg.onFw` changes `fw` alone.
@[simp] theorem Pkg.onFw_tempo (s : Pkg) (f : Fw → Fw) : (s.onFw f).tempo = s.tempo := rfl
@[simp] theorem Pkg.onFw_parts (s : Pkg) (f : Fw → Fw) : (s.onFw f).parts = s.parts := rfl
@[simp] theorem Pkg.onFw_tiles (s : Pkg) (f : Fw → Fw) : (s.onFw f).tiles = s.tiles := rfl
@[simp] theorem Pkg.onFw_dstore (s : Pkg) (f : Fw → Fw) : (s.onFw f).dstore = s.dstore := rfl
@[simp] theorem Pkg.onFw_cached (s : Pkg) (f : Fw → Fw) : (s.onFw f).cached = s.cached := rfl
@[simp] theorem Pkg.onFw_sdies (s : Pkg) (f : Fw → Fw) : (s.onFw f).sdies = s.sdies := rfl
@[simp] theorem Pkg.onFw_dict (s : Pkg) (f : Fw → Fw) : (s.onFw f).dict = s.dict := rfl
@[simp] theorem Pkg.onFw_net (s : Pkg) (f : Fw → Fw) : (s.onFw f).net = s.net := rfl
@[simp] theorem Pkg.onFw_engines (s : Pkg) (f : Fw → Fw) : (s.onFw f).engines = s.engines := rfl
@[simp] theorem Pkg.onFw_solveWait (s : Pkg) (f : Fw → Fw) : (s.onFw f).solveWait = s.solveWait := rfl
@[simp] theorem Pkg.onFw_stamp (s : Pkg) (f : Fw → Fw) : (s.onFw f).stamp = s.stamp := rfl
@[simp] theorem Pkg.onFw_harts (s : Pkg) (f : Fw → Fw) : (s.onFw f).harts = s.harts := rfl
@[simp] theorem Pkg.onFw_cores (s : Pkg) (f : Fw → Fw) : (s.onFw f).cores = s.cores := rfl
@[simp] theorem Pkg.onFw_scache (s : Pkg) (f : Fw → Fw) : (s.onFw f).scache = s.scache := rfl
@[simp] theorem Pkg.onFw_slices (s : Pkg) (f : Fw → Fw) : (s.onFw f).slices = s.slices := rfl
@[simp] theorem Pkg.onFw_invals (s : Pkg) (f : Fw → Fw) : (s.onFw f).invals = s.invals := rfl
@[simp] theorem Pkg.onFw_relWait (s : Pkg) (f : Fw → Fw) : (s.onFw f).relWait = s.relWait := rfl
@[simp] theorem Pkg.onFw_tier (s : Pkg) (f : Fw → Fw) : (s.onFw f).tier = s.tier := rfl
@[simp] theorem Pkg.onFw_lports (s : Pkg) (f : Fw → Fw) : (s.onFw f).lports = s.lports := rfl
@[simp] theorem Pkg.onFw_colls (s : Pkg) (f : Fw → Fw) : (s.onFw f).colls = s.colls := rfl
@[simp] theorem Pkg.onFw_collWait (s : Pkg) (f : Fw → Fw) : (s.onFw f).collWait = s.collWait := rfl
@[simp] theorem Pkg.onFw_collGone (s : Pkg) (f : Fw → Fw) : (s.onFw f).collGone = s.collGone := rfl
@[simp] theorem Pkg.onFw_fault (s : Pkg) (f : Fw → Fw) : (s.onFw f).fault = s.fault := rfl
@[simp] theorem Pkg.onFw_mgmt (s : Pkg) (f : Fw → Fw) : (s.onFw f).mgmt = s.mgmt := rfl
@[simp] theorem Pkg.onFw_pcie (s : Pkg) (f : Fw → Fw) : (s.onFw f).pcie = s.pcie := rfl
@[simp] theorem Pkg.onFw_tap (s : Pkg) (f : Fw → Fw) : (s.onFw f).tap = s.tap := rfl
@[simp] theorem Pkg.onFw_pins (s : Pkg) (f : Fw → Fw) : (s.onFw f).pins = s.pins := rfl
@[simp] theorem Pkg.onFw_pow (s : Pkg) (f : Fw → Fw) : (s.onFw f).pow = s.pow := rfl
@[simp] theorem Pkg.onFw_log (s : Pkg) (f : Fw → Fw) : (s.onFw f).log = s.log := rfl
@[simp] theorem Pkg.onFw_out (s : Pkg) (f : Fw → Fw) : (s.onFw f).out = s.out := rfl
@[simp] theorem Pkg.onFw_free (s : Pkg) (f : Fw → Fw) : (s.onFw f).free = s.free := rfl

-- `Pkg.addCommit` changes `fw` alone.
@[simp] theorem Pkg.addCommit_tempo (s : Pkg) (c : Commit) : (s.addCommit c).tempo = s.tempo := rfl
@[simp] theorem Pkg.addCommit_parts (s : Pkg) (c : Commit) : (s.addCommit c).parts = s.parts := rfl
@[simp] theorem Pkg.addCommit_tiles (s : Pkg) (c : Commit) : (s.addCommit c).tiles = s.tiles := rfl
@[simp] theorem Pkg.addCommit_dstore (s : Pkg) (c : Commit) : (s.addCommit c).dstore = s.dstore := rfl
@[simp] theorem Pkg.addCommit_cached (s : Pkg) (c : Commit) : (s.addCommit c).cached = s.cached := rfl
@[simp] theorem Pkg.addCommit_sdies (s : Pkg) (c : Commit) : (s.addCommit c).sdies = s.sdies := rfl
@[simp] theorem Pkg.addCommit_dict (s : Pkg) (c : Commit) : (s.addCommit c).dict = s.dict := rfl
@[simp] theorem Pkg.addCommit_net (s : Pkg) (c : Commit) : (s.addCommit c).net = s.net := rfl
@[simp] theorem Pkg.addCommit_engines (s : Pkg) (c : Commit) : (s.addCommit c).engines = s.engines := rfl
@[simp] theorem Pkg.addCommit_solveWait (s : Pkg) (c : Commit) : (s.addCommit c).solveWait = s.solveWait := rfl
@[simp] theorem Pkg.addCommit_stamp (s : Pkg) (c : Commit) : (s.addCommit c).stamp = s.stamp := rfl
@[simp] theorem Pkg.addCommit_harts (s : Pkg) (c : Commit) : (s.addCommit c).harts = s.harts := rfl
@[simp] theorem Pkg.addCommit_cores (s : Pkg) (c : Commit) : (s.addCommit c).cores = s.cores := rfl
@[simp] theorem Pkg.addCommit_scache (s : Pkg) (c : Commit) : (s.addCommit c).scache = s.scache := rfl
@[simp] theorem Pkg.addCommit_slices (s : Pkg) (c : Commit) : (s.addCommit c).slices = s.slices := rfl
@[simp] theorem Pkg.addCommit_invals (s : Pkg) (c : Commit) : (s.addCommit c).invals = s.invals := rfl
@[simp] theorem Pkg.addCommit_relWait (s : Pkg) (c : Commit) : (s.addCommit c).relWait = s.relWait := rfl
@[simp] theorem Pkg.addCommit_tier (s : Pkg) (c : Commit) : (s.addCommit c).tier = s.tier := rfl
@[simp] theorem Pkg.addCommit_lports (s : Pkg) (c : Commit) : (s.addCommit c).lports = s.lports := rfl
@[simp] theorem Pkg.addCommit_colls (s : Pkg) (c : Commit) : (s.addCommit c).colls = s.colls := rfl
@[simp] theorem Pkg.addCommit_collWait (s : Pkg) (c : Commit) : (s.addCommit c).collWait = s.collWait := rfl
@[simp] theorem Pkg.addCommit_collGone (s : Pkg) (c : Commit) : (s.addCommit c).collGone = s.collGone := rfl
@[simp] theorem Pkg.addCommit_fault (s : Pkg) (c : Commit) : (s.addCommit c).fault = s.fault := rfl
@[simp] theorem Pkg.addCommit_mgmt (s : Pkg) (c : Commit) : (s.addCommit c).mgmt = s.mgmt := rfl
@[simp] theorem Pkg.addCommit_pcie (s : Pkg) (c : Commit) : (s.addCommit c).pcie = s.pcie := rfl
@[simp] theorem Pkg.addCommit_tap (s : Pkg) (c : Commit) : (s.addCommit c).tap = s.tap := rfl
@[simp] theorem Pkg.addCommit_pins (s : Pkg) (c : Commit) : (s.addCommit c).pins = s.pins := rfl
@[simp] theorem Pkg.addCommit_pow (s : Pkg) (c : Commit) : (s.addCommit c).pow = s.pow := rfl
@[simp] theorem Pkg.addCommit_log (s : Pkg) (c : Commit) : (s.addCommit c).log = s.log := rfl
@[simp] theorem Pkg.addCommit_out (s : Pkg) (c : Commit) : (s.addCommit c).out = s.out := rfl
@[simp] theorem Pkg.addCommit_free (s : Pkg) (c : Commit) : (s.addCommit c).free = s.free := rfl

-- `Pkg.onPow` changes `pow` alone.
@[simp] theorem Pkg.onPow_tempo (s : Pkg) (f : Power → Power) : (s.onPow f).tempo = s.tempo := rfl
@[simp] theorem Pkg.onPow_parts (s : Pkg) (f : Power → Power) : (s.onPow f).parts = s.parts := rfl
@[simp] theorem Pkg.onPow_tiles (s : Pkg) (f : Power → Power) : (s.onPow f).tiles = s.tiles := rfl
@[simp] theorem Pkg.onPow_dstore (s : Pkg) (f : Power → Power) : (s.onPow f).dstore = s.dstore := rfl
@[simp] theorem Pkg.onPow_cached (s : Pkg) (f : Power → Power) : (s.onPow f).cached = s.cached := rfl
@[simp] theorem Pkg.onPow_sdies (s : Pkg) (f : Power → Power) : (s.onPow f).sdies = s.sdies := rfl
@[simp] theorem Pkg.onPow_dict (s : Pkg) (f : Power → Power) : (s.onPow f).dict = s.dict := rfl
@[simp] theorem Pkg.onPow_net (s : Pkg) (f : Power → Power) : (s.onPow f).net = s.net := rfl
@[simp] theorem Pkg.onPow_engines (s : Pkg) (f : Power → Power) : (s.onPow f).engines = s.engines := rfl
@[simp] theorem Pkg.onPow_solveWait (s : Pkg) (f : Power → Power) : (s.onPow f).solveWait = s.solveWait := rfl
@[simp] theorem Pkg.onPow_stamp (s : Pkg) (f : Power → Power) : (s.onPow f).stamp = s.stamp := rfl
@[simp] theorem Pkg.onPow_harts (s : Pkg) (f : Power → Power) : (s.onPow f).harts = s.harts := rfl
@[simp] theorem Pkg.onPow_cores (s : Pkg) (f : Power → Power) : (s.onPow f).cores = s.cores := rfl
@[simp] theorem Pkg.onPow_scache (s : Pkg) (f : Power → Power) : (s.onPow f).scache = s.scache := rfl
@[simp] theorem Pkg.onPow_slices (s : Pkg) (f : Power → Power) : (s.onPow f).slices = s.slices := rfl
@[simp] theorem Pkg.onPow_invals (s : Pkg) (f : Power → Power) : (s.onPow f).invals = s.invals := rfl
@[simp] theorem Pkg.onPow_relWait (s : Pkg) (f : Power → Power) : (s.onPow f).relWait = s.relWait := rfl
@[simp] theorem Pkg.onPow_tier (s : Pkg) (f : Power → Power) : (s.onPow f).tier = s.tier := rfl
@[simp] theorem Pkg.onPow_lports (s : Pkg) (f : Power → Power) : (s.onPow f).lports = s.lports := rfl
@[simp] theorem Pkg.onPow_colls (s : Pkg) (f : Power → Power) : (s.onPow f).colls = s.colls := rfl
@[simp] theorem Pkg.onPow_collWait (s : Pkg) (f : Power → Power) : (s.onPow f).collWait = s.collWait := rfl
@[simp] theorem Pkg.onPow_collGone (s : Pkg) (f : Power → Power) : (s.onPow f).collGone = s.collGone := rfl
@[simp] theorem Pkg.onPow_fault (s : Pkg) (f : Power → Power) : (s.onPow f).fault = s.fault := rfl
@[simp] theorem Pkg.onPow_fw (s : Pkg) (f : Power → Power) : (s.onPow f).fw = s.fw := rfl
@[simp] theorem Pkg.onPow_mgmt (s : Pkg) (f : Power → Power) : (s.onPow f).mgmt = s.mgmt := rfl
@[simp] theorem Pkg.onPow_pcie (s : Pkg) (f : Power → Power) : (s.onPow f).pcie = s.pcie := rfl
@[simp] theorem Pkg.onPow_tap (s : Pkg) (f : Power → Power) : (s.onPow f).tap = s.tap := rfl
@[simp] theorem Pkg.onPow_pins (s : Pkg) (f : Power → Power) : (s.onPow f).pins = s.pins := rfl
@[simp] theorem Pkg.onPow_log (s : Pkg) (f : Power → Power) : (s.onPow f).log = s.log := rfl
@[simp] theorem Pkg.onPow_out (s : Pkg) (f : Power → Power) : (s.onPow f).out = s.out := rfl
@[simp] theorem Pkg.onPow_free (s : Pkg) (f : Power → Power) : (s.onPow f).free = s.free := rfl

-- `Pkg.onTap` changes `tap` alone.
@[simp] theorem Pkg.onTap_tempo (s : Pkg) (f : Tap → Tap) : (s.onTap f).tempo = s.tempo := rfl
@[simp] theorem Pkg.onTap_parts (s : Pkg) (f : Tap → Tap) : (s.onTap f).parts = s.parts := rfl
@[simp] theorem Pkg.onTap_tiles (s : Pkg) (f : Tap → Tap) : (s.onTap f).tiles = s.tiles := rfl
@[simp] theorem Pkg.onTap_dstore (s : Pkg) (f : Tap → Tap) : (s.onTap f).dstore = s.dstore := rfl
@[simp] theorem Pkg.onTap_cached (s : Pkg) (f : Tap → Tap) : (s.onTap f).cached = s.cached := rfl
@[simp] theorem Pkg.onTap_sdies (s : Pkg) (f : Tap → Tap) : (s.onTap f).sdies = s.sdies := rfl
@[simp] theorem Pkg.onTap_dict (s : Pkg) (f : Tap → Tap) : (s.onTap f).dict = s.dict := rfl
@[simp] theorem Pkg.onTap_net (s : Pkg) (f : Tap → Tap) : (s.onTap f).net = s.net := rfl
@[simp] theorem Pkg.onTap_engines (s : Pkg) (f : Tap → Tap) : (s.onTap f).engines = s.engines := rfl
@[simp] theorem Pkg.onTap_solveWait (s : Pkg) (f : Tap → Tap) : (s.onTap f).solveWait = s.solveWait := rfl
@[simp] theorem Pkg.onTap_stamp (s : Pkg) (f : Tap → Tap) : (s.onTap f).stamp = s.stamp := rfl
@[simp] theorem Pkg.onTap_harts (s : Pkg) (f : Tap → Tap) : (s.onTap f).harts = s.harts := rfl
@[simp] theorem Pkg.onTap_cores (s : Pkg) (f : Tap → Tap) : (s.onTap f).cores = s.cores := rfl
@[simp] theorem Pkg.onTap_scache (s : Pkg) (f : Tap → Tap) : (s.onTap f).scache = s.scache := rfl
@[simp] theorem Pkg.onTap_slices (s : Pkg) (f : Tap → Tap) : (s.onTap f).slices = s.slices := rfl
@[simp] theorem Pkg.onTap_invals (s : Pkg) (f : Tap → Tap) : (s.onTap f).invals = s.invals := rfl
@[simp] theorem Pkg.onTap_relWait (s : Pkg) (f : Tap → Tap) : (s.onTap f).relWait = s.relWait := rfl
@[simp] theorem Pkg.onTap_tier (s : Pkg) (f : Tap → Tap) : (s.onTap f).tier = s.tier := rfl
@[simp] theorem Pkg.onTap_lports (s : Pkg) (f : Tap → Tap) : (s.onTap f).lports = s.lports := rfl
@[simp] theorem Pkg.onTap_colls (s : Pkg) (f : Tap → Tap) : (s.onTap f).colls = s.colls := rfl
@[simp] theorem Pkg.onTap_collWait (s : Pkg) (f : Tap → Tap) : (s.onTap f).collWait = s.collWait := rfl
@[simp] theorem Pkg.onTap_collGone (s : Pkg) (f : Tap → Tap) : (s.onTap f).collGone = s.collGone := rfl
@[simp] theorem Pkg.onTap_fault (s : Pkg) (f : Tap → Tap) : (s.onTap f).fault = s.fault := rfl
@[simp] theorem Pkg.onTap_fw (s : Pkg) (f : Tap → Tap) : (s.onTap f).fw = s.fw := rfl
@[simp] theorem Pkg.onTap_mgmt (s : Pkg) (f : Tap → Tap) : (s.onTap f).mgmt = s.mgmt := rfl
@[simp] theorem Pkg.onTap_pcie (s : Pkg) (f : Tap → Tap) : (s.onTap f).pcie = s.pcie := rfl
@[simp] theorem Pkg.onTap_pins (s : Pkg) (f : Tap → Tap) : (s.onTap f).pins = s.pins := rfl
@[simp] theorem Pkg.onTap_pow (s : Pkg) (f : Tap → Tap) : (s.onTap f).pow = s.pow := rfl
@[simp] theorem Pkg.onTap_log (s : Pkg) (f : Tap → Tap) : (s.onTap f).log = s.log := rfl
@[simp] theorem Pkg.onTap_out (s : Pkg) (f : Tap → Tap) : (s.onTap f).out = s.out := rfl
@[simp] theorem Pkg.onTap_free (s : Pkg) (f : Tap → Tap) : (s.onTap f).free = s.free := rfl

-- `Pkg.clearErrors` changes `fault` alone.
@[simp] theorem Pkg.clearErrors_tempo (s : Pkg) (n : Nat) : (s.clearErrors n).tempo = s.tempo := rfl
@[simp] theorem Pkg.clearErrors_parts (s : Pkg) (n : Nat) : (s.clearErrors n).parts = s.parts := rfl
@[simp] theorem Pkg.clearErrors_tiles (s : Pkg) (n : Nat) : (s.clearErrors n).tiles = s.tiles := rfl
@[simp] theorem Pkg.clearErrors_dstore (s : Pkg) (n : Nat) : (s.clearErrors n).dstore = s.dstore := rfl
@[simp] theorem Pkg.clearErrors_cached (s : Pkg) (n : Nat) : (s.clearErrors n).cached = s.cached := rfl
@[simp] theorem Pkg.clearErrors_sdies (s : Pkg) (n : Nat) : (s.clearErrors n).sdies = s.sdies := rfl
@[simp] theorem Pkg.clearErrors_dict (s : Pkg) (n : Nat) : (s.clearErrors n).dict = s.dict := rfl
@[simp] theorem Pkg.clearErrors_net (s : Pkg) (n : Nat) : (s.clearErrors n).net = s.net := rfl
@[simp] theorem Pkg.clearErrors_engines (s : Pkg) (n : Nat) : (s.clearErrors n).engines = s.engines := rfl
@[simp] theorem Pkg.clearErrors_solveWait (s : Pkg) (n : Nat) : (s.clearErrors n).solveWait = s.solveWait := rfl
@[simp] theorem Pkg.clearErrors_stamp (s : Pkg) (n : Nat) : (s.clearErrors n).stamp = s.stamp := rfl
@[simp] theorem Pkg.clearErrors_harts (s : Pkg) (n : Nat) : (s.clearErrors n).harts = s.harts := rfl
@[simp] theorem Pkg.clearErrors_cores (s : Pkg) (n : Nat) : (s.clearErrors n).cores = s.cores := rfl
@[simp] theorem Pkg.clearErrors_scache (s : Pkg) (n : Nat) : (s.clearErrors n).scache = s.scache := rfl
@[simp] theorem Pkg.clearErrors_slices (s : Pkg) (n : Nat) : (s.clearErrors n).slices = s.slices := rfl
@[simp] theorem Pkg.clearErrors_invals (s : Pkg) (n : Nat) : (s.clearErrors n).invals = s.invals := rfl
@[simp] theorem Pkg.clearErrors_relWait (s : Pkg) (n : Nat) : (s.clearErrors n).relWait = s.relWait := rfl
@[simp] theorem Pkg.clearErrors_tier (s : Pkg) (n : Nat) : (s.clearErrors n).tier = s.tier := rfl
@[simp] theorem Pkg.clearErrors_lports (s : Pkg) (n : Nat) : (s.clearErrors n).lports = s.lports := rfl
@[simp] theorem Pkg.clearErrors_colls (s : Pkg) (n : Nat) : (s.clearErrors n).colls = s.colls := rfl
@[simp] theorem Pkg.clearErrors_collWait (s : Pkg) (n : Nat) : (s.clearErrors n).collWait = s.collWait := rfl
@[simp] theorem Pkg.clearErrors_collGone (s : Pkg) (n : Nat) : (s.clearErrors n).collGone = s.collGone := rfl
@[simp] theorem Pkg.clearErrors_fw (s : Pkg) (n : Nat) : (s.clearErrors n).fw = s.fw := rfl
@[simp] theorem Pkg.clearErrors_mgmt (s : Pkg) (n : Nat) : (s.clearErrors n).mgmt = s.mgmt := rfl
@[simp] theorem Pkg.clearErrors_pcie (s : Pkg) (n : Nat) : (s.clearErrors n).pcie = s.pcie := rfl
@[simp] theorem Pkg.clearErrors_tap (s : Pkg) (n : Nat) : (s.clearErrors n).tap = s.tap := rfl
@[simp] theorem Pkg.clearErrors_pins (s : Pkg) (n : Nat) : (s.clearErrors n).pins = s.pins := rfl
@[simp] theorem Pkg.clearErrors_pow (s : Pkg) (n : Nat) : (s.clearErrors n).pow = s.pow := rfl
@[simp] theorem Pkg.clearErrors_log (s : Pkg) (n : Nat) : (s.clearErrors n).log = s.log := rfl
@[simp] theorem Pkg.clearErrors_out (s : Pkg) (n : Nat) : (s.clearErrors n).out = s.out := rfl
@[simp] theorem Pkg.clearErrors_free (s : Pkg) (n : Nat) : (s.clearErrors n).free = s.free := rfl

-- `Pkg.localTick` changes `tempo` alone.
@[simp] theorem Pkg.localTick_parts (s : Pkg) : (s.localTick).parts = s.parts := rfl
@[simp] theorem Pkg.localTick_tiles (s : Pkg) : (s.localTick).tiles = s.tiles := rfl
@[simp] theorem Pkg.localTick_dstore (s : Pkg) : (s.localTick).dstore = s.dstore := rfl
@[simp] theorem Pkg.localTick_cached (s : Pkg) : (s.localTick).cached = s.cached := rfl
@[simp] theorem Pkg.localTick_sdies (s : Pkg) : (s.localTick).sdies = s.sdies := rfl
@[simp] theorem Pkg.localTick_dict (s : Pkg) : (s.localTick).dict = s.dict := rfl
@[simp] theorem Pkg.localTick_net (s : Pkg) : (s.localTick).net = s.net := rfl
@[simp] theorem Pkg.localTick_engines (s : Pkg) : (s.localTick).engines = s.engines := rfl
@[simp] theorem Pkg.localTick_solveWait (s : Pkg) : (s.localTick).solveWait = s.solveWait := rfl
@[simp] theorem Pkg.localTick_stamp (s : Pkg) : (s.localTick).stamp = s.stamp := rfl
@[simp] theorem Pkg.localTick_harts (s : Pkg) : (s.localTick).harts = s.harts := rfl
@[simp] theorem Pkg.localTick_cores (s : Pkg) : (s.localTick).cores = s.cores := rfl
@[simp] theorem Pkg.localTick_scache (s : Pkg) : (s.localTick).scache = s.scache := rfl
@[simp] theorem Pkg.localTick_slices (s : Pkg) : (s.localTick).slices = s.slices := rfl
@[simp] theorem Pkg.localTick_invals (s : Pkg) : (s.localTick).invals = s.invals := rfl
@[simp] theorem Pkg.localTick_relWait (s : Pkg) : (s.localTick).relWait = s.relWait := rfl
@[simp] theorem Pkg.localTick_tier (s : Pkg) : (s.localTick).tier = s.tier := rfl
@[simp] theorem Pkg.localTick_lports (s : Pkg) : (s.localTick).lports = s.lports := rfl
@[simp] theorem Pkg.localTick_colls (s : Pkg) : (s.localTick).colls = s.colls := rfl
@[simp] theorem Pkg.localTick_collWait (s : Pkg) : (s.localTick).collWait = s.collWait := rfl
@[simp] theorem Pkg.localTick_collGone (s : Pkg) : (s.localTick).collGone = s.collGone := rfl
@[simp] theorem Pkg.localTick_fault (s : Pkg) : (s.localTick).fault = s.fault := rfl
@[simp] theorem Pkg.localTick_fw (s : Pkg) : (s.localTick).fw = s.fw := rfl
@[simp] theorem Pkg.localTick_mgmt (s : Pkg) : (s.localTick).mgmt = s.mgmt := rfl
@[simp] theorem Pkg.localTick_pcie (s : Pkg) : (s.localTick).pcie = s.pcie := rfl
@[simp] theorem Pkg.localTick_tap (s : Pkg) : (s.localTick).tap = s.tap := rfl
@[simp] theorem Pkg.localTick_pins (s : Pkg) : (s.localTick).pins = s.pins := rfl
@[simp] theorem Pkg.localTick_pow (s : Pkg) : (s.localTick).pow = s.pow := rfl
@[simp] theorem Pkg.localTick_log (s : Pkg) : (s.localTick).log = s.log := rfl
@[simp] theorem Pkg.localTick_out (s : Pkg) : (s.localTick).out = s.out := rfl
@[simp] theorem Pkg.localTick_free (s : Pkg) : (s.localTick).free = s.free := rfl

-- What a changed field gives back.
@[simp] theorem Pkg.hart_setHart (s : Pkg) (h : Nat) (x : Hart) : (s.setHart h x).hart h = x := Tab.get_set_self _ _ _ _

theorem Pkg.hart_setHart_other (s : Pkg) {h k : Nat} (x : Hart) (e : k ≠ h) : (s.setHart h x).hart k = s.hart k := Tab.get_set_other _ _ _ e

@[simp] theorem Pkg.arch_onArch (s : Pkg) (h : Nat) (f : HArch → HArch) : ((s.onArch h f).hart h).a = f (s.hart h).a := by
  rw [Pkg.onArch, Pkg.hart_setHart]

@[simp] theorem Pkg.engine_setEngine (s : Pkg) (e : Nat) (x : Engine) : (s.setEngine e x).engine e = x := Tab.get_set_self _ _ _ _

theorem Pkg.engine_setEngine_other (s : Pkg) {e k : Nat} (x : Engine) (h : k ≠ e) : (s.setEngine e x).engine k = s.engine k := Tab.get_set_other _ _ _ h

@[simp] theorem Pkg.lport_setLport (s : Pkg) (q : Nat) (x : LPort) : (s.setLport q x).lport q = x := Tab.get_set_self _ _ _ _

theorem Pkg.lport_setLport_other (s : Pkg) {q k : Nat} (x : LPort) (h : k ≠ q) : (s.setLport q x).lport k = s.lport k := Tab.get_set_other _ _ _ h

@[simp] theorem Pkg.slice_setSlice (s : Pkg) (k : Nat) (x : Slice) : (s.setSlice k x).cslice k = x := Tab.get_set_self _ _ _ _

theorem Pkg.slice_setSlice_other (s : Pkg) {k j : Nat} (x : Slice) (h : j ≠ k) : (s.setSlice k x).cslice j = s.cslice j := Tab.get_set_other _ _ _ h

@[simp] theorem Pkg.region_setRegion (s : Pkg) (r : Nat) (x : TRegion) : (s.setRegion r x).region r = x := Tab.get_set_self _ _ _ _

theorem Pkg.region_setRegion_other (s : Pkg) {r k : Nat} (x : TRegion) (h : k ≠ r) : (s.setRegion r x).region k = s.region k := Tab.get_set_other _ _ _ h

@[simp] theorem Pkg.group_setGroup (s : Pkg) (g : Nat) (x : TGroup) : (s.setGroup g x).group g = x := Tab.get_set_self _ _ _ _

theorem Pkg.group_setGroup_other (s : Pkg) {g k : Nat} (x : TGroup) (h : k ≠ g) : (s.setGroup g x).group k = s.group k := Tab.get_set_other _ _ _ h

@[simp] theorem Pkg.pci_setPci (s : Pkg) (k : Nat) (x : Pcie) : (s.setPci k x).pci k = x := Tab.get_set_self _ _ _ _

theorem Pkg.pci_setPci_other (s : Pkg) {k j : Nat} (x : Pcie) (h : j ≠ k) : (s.setPci k x).pci j = s.pci j := Tab.get_set_other _ _ _ h

@[simp] theorem Pkg.fw_onFw (s : Pkg) (f : Fw → Fw) : (s.onFw f).fw = f s.fw := rfl

@[simp] theorem Pkg.pow_onPow (s : Pkg) (f : Power → Power) : (s.onPow f).pow = f s.pow := rfl

@[simp] theorem Pkg.tap_onTap (s : Pkg) (f : Tap → Tap) : (s.onTap f).tap = f s.tap := rfl

@[simp] theorem Pkg.mgmt_onMgmt (s : Pkg) (f : Mgmt → Mgmt) : (s.onMgmt f).mgmt = f s.mgmt := rfl

end Sys2Proof

namespace Sys2Proof.Machine

open Sys2Proof

@[simp] theorem reset_pending : State.reset.pending = [] := rfl

end Sys2Proof.Machine
end

