-- ==== Sys2Proof/Machine/HostRegs.lean ====
section
/-!
DEFINITION. What the host reads in the BARs of a PCIe port: device status, mailbox and queue registers, as views of the state (14:R432,
16:R498, 18:R550, R551). A read changes nothing, and no command of the table stands for one.
-/

namespace Sys2Proof

/-- Register of PF k's BAR0 at an offset: DEV_STATE, TEMPO, ALERT, PART_MAP (18:R551). -/
def Pkg.pfBar0 (s : Pkg) (k off : Nat) : Nat :=
  match off with
  | 0x0000 => s.fw.st % 4 + b2n s.fw.dict * 4 + b2n s.fw.loadable * 8 + s.net.slot % 4 * 16
  | 0x0008 => s.tempo.now
  | 0x0010 => s.ent 0x1130 6
  | 0x0018 => maskOf ((List.range partMax).filter (fun p => decide (s.hostPort p = k)))
  | _ => 0

/-- Register of PF k's BAR2 at an offset (16:R498). -/
def Pkg.pfBar2 (s : Pkg) (k off : Nat) : Nat :=
  let b := s.mbox k
  match off with
  | 0x0000 => b2n b.go + b2n b.irqRsp * 2 + b2n b.irqEvt * 4
  | 0x0004 => b.reqLen
  | 0x0008 => b2n b.done + b2n b.badLen * 2 + b2n b.dropped * 4
  | 0x000C => b.rspLen
  | 0x0010 => b.events.length
  | 0x0018 => (b.events.headD []).length
  | _ => 0

/-- A byte of PF k's BAR2: the request, the response, the head event (16:R498). -/
def Pkg.pfBar2Byte (s : Pkg) (k off : Nat) : Byte :=
  let b := s.mbox k
  if 0x1000 ≤ off && off < 0x14D0 then b.req.read (off - 0x1000)
  else if 0x2000 ≤ off && off < 0x24D0 then b.rsp.read (off - 0x2000)
  else if 0x3000 ≤ off && off < 0x34D0 then (b.events.headD []).getD (off - 0x3000) 0
  else 0

/-- Register of the BAR0 of port k's virtual function p + 1; the function of the port that the partition is not bound to reads 0
(14:R432, 18:R549). -/
def Pkg.vfBar0 (s : Pkg) (k p off : Nat) : Nat :=
  let x := s.part p
  let q := x.q
  if s.hostPort p ≠ k then 0
  else match off with
    | 0x0000 => q.cmdBase
    | 0x0008 => q.cmdLog + b2n q.cmdEn * 2 ^ 31
    | 0x0010 => q.cplBase
    | 0x0018 => q.cplLog + b2n q.cplEn * 2 ^ 31
    | 0x0020 => q.tail
    | 0x0024 => q.cplHead
    | 0x0028 => q.head
    | 0x002C => x.st.code + b2n q.error * 8
    | 0x0030 => b2n q.irq
    | _ => if 0x0040 ≤ off && off < 0x0080 && off % 8 = 0 then Tab.get 0 q.doors ((off - 0x0040) / 8) else 0

end Sys2Proof
end

