-- ==== Sys2Proof/Tests/Slice0.lean ====
section
/-!
SUPPORT. Tests. First the parts that small states are built from; then checks against the spec's worked examples; then, for every statement
that has hypotheses, a state and operands that meet them, clause by clause.
-/

namespace Sys2Proof.Tests

set_option linter.unusedVariables false
set_option Elab.async false

open Sys2Proof Sys2Proof.Machine

/-! ## Parts of small states -/

/-- showing: what an exec gives -/
def pk (r : Host.Outcome State Fault Refusal) : Pkg := match r with | .next t => t.pkg | _ => {}
def on : Pkg := { State.reset.pkg with fw := { State.reset.pkg.fw with off := 0, st := 1, dict := true, up := true, started := true, loadable := true, epochSet := true, vaux := true } }
def S (k : Pkg) : State := { State.reset with pkg := k }


def rx (h : Hdr) (pay : List Byte) (vc : Nat := 3) : RxPkt := { vc := vc, packet := h.enc ++ pay, at_ := 5000 }
def pkP (k : Pkg) (p : Nat) (x : Part) : Pkg := k.setPart p x
def tm (t : Tempo) : Pkg := { on with tempo := t }
def bytes (l : List Nat) : List Byte := l.map (BitVec.ofNat 8)
def put (l : List Byte) (off w v : Nat) : List Byte := l.take off ++ natLe w v ++ l.drop (off + w)
/-- a command entry -/
def ce (op id : Nat) (f : List (Nat × Nat × Nat)) : List Byte :=
  f.foldl (fun l (x : Nat × Nat × Nat) => put l x.1 x.2.1 x.2.2) (natLe 1 op ++ natLe 3 0 ++ natLe 4 id ++ List.replicate 64 0)
/-- partition p in state st, with a command in front and a reserved one behind -/
def qp (p : Nat) (st : PState) (e : List Byte) (x : Part := {}) : Pkg :=
  on.setPart p { x with st := st, dies := [0, 1], q := { x.q with read := [e, ce 0x30 9 []] } }
/-- a load image at 0x1000: header, 128 tile entries at 0x10000, one layout at 0x2000, one member at 0x3000 -/
def img0 : List (Nat × Nat × Nat) := [(0, 4, 0x494C4B59), (4, 1, 1), (5, 1, 1), (6, 1, 1), (8, 8, 77), (16, 4, 1000), (20, 4, 1600), (24, 8, 40000), (32, 1, 40),
  (40, 8, 0x4000000), (48, 8, 0x5000000), (56, 8, 0x123450), (64, 8, 0x10000), (72, 8, 0x2000), (80, 8, 0x3000), (88, 4, 1), (96, 8, 0x6000000)] ++ (List.range 8).map (fun i => (112 + 8 * i, 8, 0x7000000 + 8 * i))
def img1 : Mem := img0.foldl (fun m (x : Nat × Nat × Nat) => m.writeN (0x1000 + x.1) (natLe x.2.1 x.2.2)) []
def withImg (k : Pkg) : Pkg :=
  { k with dstore := img1 ++ [(0x2000, 0xE4), (0x2004, 128), (0x2008, 1), (0x200C, 1), (0x2010, 1), (0x3000, 5)] ++ (List.range 128).map (fun i => (0x10008 + 32 * i, 64)) }.setEnt 0x5000 1 5
def dn (k : Pkg) : Pkg := k.setPart 3 { k.part 3 with dies := [0], clearing := [], clearCmd := none }
def eR (op f3 f7 rd rs1 rs2 : Nat) : Nat := op + rd * 2^7 + f3 * 2^12 + rs1 * 2^15 + rs2 * 2^20 + f7 * 2^25
def eI (op f3 rd rs1 imm : Nat) : Nat := op + rd * 2^7 + f3 * 2^12 + rs1 * 2^15 + imm * 2^20
def eS (op f3 rs1 rs2 imm : Nat) : Nat := op + imm % 32 * 2^7 + f3 * 2^12 + rs1 * 2^15 + rs2 * 2^20 + imm / 32 * 2^25
/-- tile 5 of partition 3 about to execute w -/
def ins (w : Nat) (t : Tile := {}) (x : Part := {}) : Pkg :=
  { on with parts := [(3, { x with st := .running, dies := [0], mem := { x.mem with cap := 40 } })],
            tiles := [(5, { t with mode := .running, part := 4, isram := Mem.writeN [] 0 (natLe 4 w) }), (6, { part := 2, mode := .running })], tempo := { now := 900 } }
def xs (l : List (Nat × Nat)) : Tile := { core := { x := l.map fun e => (e.1, BitVec.ofNat 64 e.2) }, active := 7, ticket := 3, seq := 4 }
/-- hart 16 of partition 3 about to execute w -/
def hh (w : Nat) (x : Hart := {}) : Pkg :=
  ({ on with parts := [(3, { st := .running, dies := [0], harts := [16, 17], img := { members := [5] } })], tempo := { now := 900, local_ := 5000 }, harts := [(16, { x with part := 4, on := true, a := { x.a with pc := 0x1000 } }), (17, { part := 4, index := 1 })], dstore := Mem.writeN [] 0x1000 (natLe 4 w) ++ [(0x2001, 5), (0x2004, 0x80)], scache := [(0x40, { data := padTo 64 (natLe 4 w) }), (0x80, { data := padTo 64 (bytes [0,5,0,0,0x80]) })] } : Pkg)
def hx (l : List (Nat × Nat)) (c : HCsr := {}) : Hart := { a := { x := l.map fun e => (e.1, BitVec.ofNat 64 e.2), csr := c }, n := 0 }
def lpt (q : Nat) (x : LPort) (k : Pkg := on) : Pkg := (({ k with tempo := { now := 600000000, local_ := 600000000 }, tier := { k.tier with regions := [(7, { st := 2, part := 3, packets := 20, fmt := 2, ext := [(0, 5)] })] } } : Pkg).setEnt (0x4200 + q) 2 1).setLport q x

def own7 : Session := { id := 7, principal := [1, 2], high := 4, seen := [3, 4], last := 1000 }
def tiered (k : Pkg) (r : TRegion) : Pkg := { k with tier := { k.tier with regions := [(7, r)], groups := [(0, { formed := true, gib := 1 })] } }
def lrec : List Byte := [(0, 8, 5000000), (8, 8, 0), (16, 4, 1000), (20, 4, 1600), (24, 8, 40000), (32, 1, 40)].foldl (fun l (x : Nat × Nat × Nat) => put l x.1 x.2.1 x.2.2) (List.replicate 64 0)
def one (st : PState) (e : List Byte) (x : Part := {}) : Pkg := let k := qp 3 st e x; { (k.setQ 3 { (k.part 3).q with read := [e] }) with tempo := { st := .locked, now := 4000000 } }
def chg (kind frame : Nat) : List (Nat × Nat × Nat) := [(16, 1, kind), (17, 1, 2), (20, 4, 99), (24, 8, frame), (32, 2, 0xFFFF), (36, 4, 0xFFFFFFFF), (40, 8, 0xFFFFFFFFFFFFFFFF)]
def stopB (m : Nat) : List Byte := natLe 1 0x10 ++ natLe 1 2 ++ natLe 2 0 ++ natLe 4 99 ++ natLe 8 12 ++ natLe 1 2 ++ natLe 1 m ++ natLe 2 0 ++ natLe 4 55 ++ natLe 2 7 ++ natLe 6 0xFFFFFFFFFFFF
def capS (c : Capture) (m : Member := {}) : State := S { on with parts := [(3, { st := .checkpointing, cap := some c, mem := m, dies := [0], img := { members := [5] } })], tempo := { now := 70000000 }, tier := { regions := [(7, { st := 1, part := 3, packets := 20, fmt := 2, ext := [(0, 5)] })], groups := [(0, { formed := true, gib := 1 })] } }
def x23 : Tile := xs [(1, 100), (2, 0xFFFFFFFFFFFFFFF0), (3, 0x110108)]
def tvec (t : Tile) : Tile := { t with core := { t.core with mtvec := 0x100100, mepc := 0x100200 } }
def specR : Region := { x := [(1, 1), (2, 5)], pc := 0x100010, instr := eS 0x63 1 1 2 8, len := 4, taken := true, ticket := 2 }
def psw (t : Tile) : Tile := { t with core := { t.core with pend := [(1, 33)] } }
def mvd (kind attr fmts len far loc node done : Nat) : List Byte := natLe 1 kind ++ natLe 1 attr ++ natLe 1 fmts ++ natLe 1 0 ++ natLe 4 len ++ natLe 8 far ++ natLe 4 loc ++ natLe 4 node ++ natLe 8 done
def withD (d : List Byte) : Tile := { x23 with core := { x23.core with x := [(3, 0x110100)] }, dsram := Mem.writeN [] 0x100 d }
def mvw : Nat := eR 0x0B 0 0 4 3 0
def opT (o : EngOp) (t : Tile := {}) : State := S ((ins 0 { t with ops := t.ops ++ [{ o with ticket := 2 }], ticket := 3 }).setEnt 0x5000 1 5)
def vopb (sf df attr n s0 s1 s2 dst imm : Nat) : List Byte := natLe 1 (sf + 16 * df) ++ natLe 1 attr ++ natLe 2 0 ++ natLe 4 n ++ natLe 4 s0 ++ natLe 4 s1 ++ natLe 4 s2 ++ natLe 4 dst ++ natLe 8 imm
def vop1 (op : Nat) : List Byte := if op ≤ 3 ∨ op = 6 ∨ op = 7 then vopb 2 2 0 32 0x1000 0x2000 0 0x3000 0 else if op ≤ 5 then vopb 2 2 0 32 0x1000 0x2000 0x4000 0x3000 0 else if op = 0x10 ∨ op = 0x11 then vopb 2 2 0 1024 0x1000 0 0 0x3000 32 else if op = 0x19 then vopb 2 2 0 32 0 0 0 0x3000 5 else if op = 0x1A then vopb 2 2 0 32 0x1000 0 0 0 0 else vopb 2 2 0 32 0x1000 0 0 0x3000 0
def vtile (d : List Byte) : Tile := { x23 with core := { x23.core with x := [(2, 5), (3, 0x110100)] }, dsram := Mem.writeN [] 0x100 d }
def xc : List Nat := [2,3,4,5,6,7,8]
def mxd (attr ent : Nat) : List Byte := natLe 1 attr ++ natLe 1 ent ++ natLe 6 0 ++ natLe 4 0 ++ natLe 4 0x10000 ++ natLe 4 0x10000 ++ natLe 4 0x10000 ++ natLe 4 0x20000 ++ natLe 4 0x10000 ++ (List.range 6).flatMap (fun i => natLe 4 (64 * i)) ++ natLe 8 0
def mxprog : Tab Nat := [(256 + 3, 3), (256 + 4, 8)]
def mrun (w : Nat) (r : MxRun := {}) (m : Matrix := {}) (oc : Mem := []) : State := S (ins 0 { mx := { m with pbuf := [(260, w)], run := some { r with ticket := 2, bank := 1, entry := 4 } }, ocache := oc, ops := [{ ticket := 2, kind := .mxrun }] })
def yk (op f3 f7 rd rs1 rs2 : Nat) : Nat := eR op f3 f7 rd rs1 rs2
def x2 (a b : Nat) (t : Tile := {}) : Tile := { t with core := { t.core with x := [(1, BitVec.ofNat 64 a), (2, BitVec.ofNat 64 b)] }, active := 7, ticket := 3, seq := 4 }
def collb : List Byte := natLe 1 0 ++ natLe 1 0x11 ++ natLe 1 16 ++ natLe 1 0 ++ natLe 4 9 ++ natLe 4 64 ++ natLe 4 0 ++ natLe 8 0x1000 ++ natLe 8 0x2000 ++ natLe 8 0x3000 ++ natLe 8 0x4000 ++ natLe 4 1 ++ natLe 2 1 ++ natLe 10 0
def mxfull : Matrix := { pbuf := [(3, 5), (300, 6)], active := 1, a := [(1, 2)], set0 := { live := true, kind := 1, el := [(1, 2)] }, run := some {} }
def moded (m : TileMode) (t : Tile := {}) (x : Part := {}) : Pkg := let k := ins 0 t x; k.setTile 5 { k.tile 5 with mode := m }
def shdr (kind n r stride outOff done rs : Nat) : List Byte := natLe 1 kind ++ natLe 1 0 ++ natLe 1 n ++ natLe 1 0 ++ natLe 1 r ++ natLe 1 0 ++ natLe 2 0 ++ natLe 8 0x10000 ++ natLe 4 stride ++ natLe 4 outOff ++ natLe 8 done ++ natLe 8 0 ++ natLe 8 0 ++ natLe 40 0 ++ natLe 32 rs ++ natLe 8 0
def shd : List Byte := shdr 0x01 2 0 0x1000 0x800 0x2000 0
def rq : SolveReq := { tile := 5, part := 3, hdr := 0x4000, count := 2, stamp := 7 }
def sol (e : Engine) (h : List Byte := shd) : Pkg := ({ ins 0 with engines := [(0, e)] }).dstorePut 0x4000 h
def dws : List DWrite := [{ src := 0, unit := 5, part := 3, seq := 4, idx := 0, addr := 0x1000, data := bytes [1,2,3] }, { src := 1, unit := 16, part := 3, addr := 0x1001, data := bytes [9] }, { src := 2, addr := 0x1002, data := bytes [7] }]
def vt (sew : Nat) : HCsr := { vtype := sew * 8, vl := 4, sstatus := 0x600 }
def vv : Mem := (List.range 8).map (fun i => (512 * 8 + i, BitVec.ofNat 8 (200 + i))) ++ (List.range 8).map (fun i => (512 * 16 + i, BitVec.ofNat 8 (10 + 30 * i)))
def vh (c : HCsr) (x : List (Nat × Nat) := [(16, 100)]) : Hart := { hx x c with a := { (hx x c).a with v := vv } }
def sbi (e f : Nat) (l : List (Nat × Nat) := []) : State := S (hh 0x73 { a := { x := ([(16, f), (17, e)] ++ l).foldl (fun t (y : Nat × Nat) => Tab.insert t y.1 (BitVec.ofNat 64 y.2)) [] }, n := 0 })
def rc2 : Recovery := { tile := 133, unit := 133, cls := 2, step := 0, grp := 16, bound := 700, seq := 4 }
def f13 (m : TileMode) (f : FaultSt := {}) (t : Tile := {}) : Pkg := { on with parts := [(3, { st := .running, dies := [1] })], tiles := [(6, { part := 4 }), (133, { t with part := 4, mode := m, buf := [(1, .rel 5 6)], units := 1, seq := 4, active := 8, ops := [{}] })], sdies := [(1, { arriving := [{ src := 0, unit := 133 }, { src := 0, unit := 6 }] })], fault := f, tempo := { now := 900 }, log := [{ code := 1 }] }
def cs (z : Sites) (f : FaultSt := { open_ := [rc2] }) : State := { State.reset with sites := { z with fmax := [(152, 1500), (161, 1700), (170, 1700)] }, pkg := f13 .faulted f }
def cf (x : CoreSt) (f : FaultSt := {}) : State := S { hh 0 { n := 3, marked := true, buf := [(0x1008, bytes [1,2])], lines := [0x40] } with cores := [(2, x)], fault := f, sdies := [(0, { arriving := [{ src := 1, unit := 16 }, { src := 0, unit := 16 }] })] }
def dsc : List Byte := [(0, 1, 1), (4, 4, 256), (20, 4, 500), (24, 2, 64), (26, 2, 256), (28, 4, 2048), (32, 2, 1)].foldl (fun l (x : Nat × Nat × Nat) => put l x.1 x.2.1 x.2.2) (List.replicate 256 0)
def lfr (ftype seq tag units : Nat) (last : Bool) (idx len status : Nat) (ack : Nat := 1023) (data : List Byte := List.replicate (64 * units) 7) : List Byte := ({ ftype := ftype, seq := seq, ack := ack, tag := tag, units := units, last := last, idx := idx, len := len, status := status } : LHdr).frame data
def rcmd : LCmd := { tag := 9, ftype := 1, job := 5, pos := 1, idx := 1, len := 2, got := List.replicate 64 1, sentAt := 599990000 }
def rst (qs : List LCmd := [rcmd]) : State := S (let k := lpt 6 { st := .active, rx := 3, cmds := qs, rtt := 40 }; { k with tier := { k.tier with jobs := [{ id := 5, use := .update, region := 7, want := [1] }] } })
def ap (n : Nat) (x : APort) (k : Pkg := on) : Pkg := ((({ k with tempo := { k.tempo with now := 900000000000, local_ := 900000000000 } } : Pkg).setEnt (0x5040 + n) 2 1).setEnt 0x5000 1 5).setPort n x
def trec (node : Nat) (b : List (Nat × Nat × Nat) := []) : List Byte := ([(0, 1, 3), (1, 1, 1), (2, 1, 0), (4, 8, 77), (16, 4, node), (20, 1, 8)] ++ b).foldl (fun l (x : Nat × Nat × Nat) => put l x.1 x.2.1 x.2.2) (List.replicate 64 0)
def prt : Partner := { identity := 77, node := 9 }
def lnk (t seq ack : Nat) (body : List Byte) : List Byte := linkHdr t seq ack 2 7 body
def pktB : List Byte := ({ op := 1, tc := 0, dst := 5, src := 9 } : Hdr).enc
/-- The bytes of an envelope as the last of one codeword of each lane, whose leading symbols are 0 and not written. -/
def endWords (lanes : Nat) (b : List Byte) : List (List Nat) :=
 (List.range lanes).map fun i =>
   let l := (List.range (b.length / lanes)).map (fun k => b.getD (k * lanes + i) 0)
   let y := (List.range (8 * l.length / 10)).map (fun j => bits (leNat l) (10 * j + 9) (10 * j))
   y ++ rsParity y
def rp (h : Hdr) (pay : List Byte := []) (vc : Nat := 0) : RxPkt := rx h pay vc
def tg (r : RxPkt) (x : Ctx := {}) (st : PState := .running) : Pkg := (({ (ap 2 { st := .active, node := 5, version := 2, rx := [r, r] }) with parts := [(3, { st := st, dies := [0], img := { members := [5, 9] } })], dstore := [(0x1003, 8), (0x1041, 7)] } : Pkg).setEnt 0x2003 5 77).setCtx 9 x
def rqh (op tc spec seq len : Nat) (addr : Nat := 0x1000) (src : Nat := 9) (status : Nat := 0) : Hdr := { op := op, tc := tc, dst := 5, src := src, job := 77, addr := addr, space := 1, seq := seq, agent := 4, len := len, spec := spec, status := status }
def sq (src : ReqSrc) (op tc seq : Nat) : Req := { id := 8, src := src, part := 3, node := 9, op := op, tc := tc, seq := seq, packet := ({ op := op, tc := tc, agent := 4, job := 77 } : Hdr).enc, sent := true, port := 2, sentAt := 5 }
def so (r : RxPkt) (q : Req) : Pkg := { tg r with net := { (tg r).net with reqs := [q, { q with id := 9, node := 10 }] } }
def cl (c : Coll) : Coll := { c with part := 3, seq := 9, desc := collb, locals := [(5, 0x1000)], admitted := true, progress := 5, hash := 1234 }
def cg (r : RxPkt) (cs : List Coll) (x : Ctx := {}) : Pkg := { tg r x with colls := cs }
def ch (kind idx : Nat) (src : Nat := 9) (epoch : Nat := 0) : Hdr := { op := 9, tc := 2, dst := 5, src := src, job := 77, seq := 5, spec := 9 + kind * 2^32 + idx * 2^36, len := 16, epoch := epoch }
def pon (w : Power) : Pkg := { on with pow := w, tempo := { on.tempo with local_ := 5000000, now := 7000000 } }
def pS (w : Power) : State := S (pon w)
def pF (w : Power) : State := { pS w with sites := { State.reset.sites with fmax := [(2 * 144 + 3, 1650)] } }
def tS (w : Power) (c : Int) : State := pS { w with temps := [(5 * 64, ofSigned 32 c)] }
def msg (t sid seq : Nat) (body : List Byte) : List Byte := natBe 1 1 ++ natBe 1 t ++ natBe 2 0 ++ natBe 4 sid ++ natBe 4 seq ++ natBe 2 body.length ++ natBe 2 0 ++ body ++ List.replicate 16 0
def mk (x : Session := own7) (r : List Request := []) (g : Mgmt := {}) : Pkg := { on with mgmt := { g with sessions := [x, { id := 9, principal := [4] }], reqs := r }, tempo := { on.tempo with local_ := 80000000000, now := 80000000000 } }
def mo (x : Session := own7) (r : List Request := []) : Pkg := mk x r { owner := some ([1, 2], 0), ownerSession := 7, renewed := 79999000000 }
def un (k : Pkg) (c : Nat := 0x1100) : Pkg := { k.setEnt 0x1100 5 15 with fw := { k.fw with up := true, dict := true, started := true } }
def a2 : List Byte := natBe 2 0x2001 ++ natBe 14 6
def fr (src dst : List Byte) (hop : Nat) (m : List Byte) : List Byte := let g := icmpFrame (natBe 6 77) src dst hop m; g.take 6 ++ natBe 6 9 ++ g.drop 12
def a1 : List Byte := natBe 2 0x2001 ++ natBe 14 5
def ic (x : I3C) : State := S (let k := un mk; { k with mgmt := { k.mgmt with i3c := x } })
def pu (b : Mailbox) (d : Bool := true) : State := S (let k := un mk; { (k.setMbox 1 b) with pcie := [(0, { up := true }), (1, { up := true })], fw := { k.fw with dict := d } })
def nd : State := S ((un mk).setEnt 0x1130 1 (leNat a2))
def echo : List Byte := natBe 1 128 ++ natBe 1 0 ++ natBe 2 0 ++ natBe 4 0x10002 ++ natBe 3 7
def soli : List Byte := natBe 1 135 ++ natBe 1 0 ++ natBe 2 0 ++ natBe 4 0 ++ a2
def xg : Session := { own7 with grant := true }
def gs : State := S (un (mo xg))

theorem test_reset_queue : State.reset.pending = [] := rfl

/-! ## Well-formedness: each check refuses a term -/

/-- A command that names a unit the package does not have is not well formed. -/
theorem test_wf_refuses :
    ([.tickFire 16, .rampSlot 6144, .rootAnnounce 24, .solverBatchStart 768, .hartInstruction 1536, .threadSwitch 192, .droopDetect 48 0,
      .droopDetect 0 8, .thermalSample 68 [], .thermalStep 66, .regulatorPhaseLost 66, .lenpelPresenceAssert 48, .pcieHotReset 2 1,
      .pcieFlr 2 0, .pcieFlr 0 17, .mbGo 2 1 32 [], .frequencyStep 6144] : List Instr).all (fun i => !i.wf) = true := by decide

/-- Such terms fault. -/
theorem test_unit_faults : exec (.tickFire 16) State.reset = .fault .noSuchUnit ∧ exec (.rootAnnounce 24) State.reset = .fault .noSuchUnit
    ∧ exec (.hartInstruction 1536) State.reset = .fault .noSuchUnit := ⟨rfl, rfl, rfl⟩

/-! ## Package and address map (01, worked example) -/

/-- 01: logical tile 82 of C09 is tile 1,234, stands at site 10/2, and its solver engine is 154. -/
theorem test_tile_numbers : tileNo 9 82 = 1234 ∧ State.reset.sites.siteOf 1234 = 10 * 9 + 2 ∧ engineOf (tileNo 9 82) = 154 := by decide

/-- 01: the hart address of the slot-2 package's C09 word, and the same through remap entry 0x0A7. -/
theorem test_hart_address :
    (let k := { on with net := { on.net with slot := 1, peers := [(2, 258 + 1)] }, harts := [(16, { part := 4 })] }.setEnt (0x5200 + 0x0A7 / 16) (0x0A7 % 16 + 1) (2 ^ 31 + 258)
     decide (k.hartTarget 16 0x0000800492345640 8 = .remote 258 0 0x000492345640)
      && decide (k.hartTarget 16 0x0085380492345640 8 = .remote 258 1 0x000492345640)) = true := by decide +kernel

/-! ## Number formats (02, worked example) -/

/-- 02: 32 values in one F4 block: codes, scale 0x80, three vanished, underflow and no overflow. -/
theorem test_f4_block :
    (let v (n : Bool) (m : Nat) : FVal := (deliver {} fpFP32 .rne (.fin n (m * 2 ^ 40 / 10) (-40))).raw |> decodeFmt fpFP32
     let vs := [v false 110, v false 29, v false 16, v false 9, v true 6, v false 5, v false 3, v true 2] ++ List.replicate 24 (v false 0)
     let r := encodeBlock {} fpF4 (List.replicate 32 .rne) vs
     decide (r.1 = 0x80) && decide (r.2.1.take 8 = [7, 3, 2, 1, 9, 0, 0, 0]) && decide (r.2.2.2 = 3)
      && r.2.2.1.unf && !r.2.2.1.ovf && decide ((encodeBlock {} fpF8A (List.replicate 32 .rne) vs).1 = 122)) = true := by decide +kernel

/-! ## Frames (03, worked example) -/

/-- 03: one member over 48 C-dies: tile 1,234 starts at 433 ns; a reserve of 78.4 µs is enough, one of 28.4 µs is not. -/
theorem test_ramp_slot :
    (on.setPart 3 { dies := List.range 48, mem := { w := 1600 } }).rampOff 3 1234 = 433
    ∧ reserveOk 500000 1600 420000 = true ∧ reserveOk 500000 1600 470000 = false := by decide +kernel

/-! ## Tile core (04, worked example) -/

/-- 04: the encodings of YK.MOVE, YK.WAIT, YK.ELOAD, YK.PLY, YK.FEND and the counter's csrr. -/
theorem test_engine_encodings :
    isMove 0x0005850B = true ∧ Rv.rd 0x0005850B = 10 ∧ Rv.rs1 0x0005850B = 11
    ∧ (Rv.opc 0x0005628B, Rv.f3 0x0005628B, Rv.rd 0x0005628B, Rv.rs1 0x0005628B) = (0x0B, 6, 5, 10)
    ∧ (Rv.opc 0x0073500B, Rv.f3 0x0073500B, Rv.rs1 0x0073500B, Rv.rs2 0x0073500B) = (0x0B, 5, 6, 7)
    ∧ (Rv.opc 0x0000002B, Rv.f3 0x0000002B) = (0x2B, 0) ∧ (Rv.opc 0x0200102B, Rv.f3 0x0200102B, Rv.f7 0x0200102B) = (0x2B, 1, 1)
    ∧ (Rv.opc 0xBC202473, Rv.f3 0xBC202473, Rv.rd 0xBC202473, 0xBC202473 / 2 ^ 20) = (0x73, 2, 8, 0xBC2) := by decide

/-- 04:R94 and the instruction set: ADD, SUB and ADDI of the tile core, with a result that wraps. -/
theorem test_tile_add :
    ((pk (exec (.tileInstruction 5) (S (ins (eR 0x33 0 0 3 1 2) (xs [(1, 2 ^ 64 - 1), (2, 2)]))))).tile 5).core.x.get 0 3 = 1
    ∧ ((pk (exec (.tileInstruction 5) (S (ins (eI 0x13 0 3 1 0xFFF) (xs [(1, 5)]))))).tile 5).core.x.get 0 3 = 4 := by decide +kernel

/-- 04: ecall is an exception of cause 11 whose handler's address mtvec gives. -/
theorem test_tile_ecall :
    (let t := (pk (exec (.ecall 5) (S (ins 0x73 { core := { mtvec := 0x100100 } })))).tile 5
     decide (t.core.pc = 0x100100) && decide (t.core.mcause = 11) && t.core.trapActive) = true := by decide +kernel

/-! ## Matrix engine (05, worked example) -/

/-- 05: entry 3 of the program: MMA, set 1, BF16, a0 + 0, a1 + 0x1_0000, k_len 512. -/
theorem test_mma_entry :
    (let w := 0x0000000200080705 + 2 ^ 64 * 0x0000001000000000
     (moOp w, moSet w, moFmt w, moRa w, moRb w, moK w, moOff w, moBoff w)) = (5, 1, fpBF16, 0, 1, 512, 0, 0x10000) := rfl

/-- 05: ZACC of set 0, kind KW is 0x0403. -/
theorem test_zacc_entry : (moOp 0x0403, moSet 0x0403, moKind 0x0403) = (3, 0, 2) := by decide

/-! ## Vector engine (06, worked example) -/

/-- 06: ticket 3's descriptor: FP32 to F8A block-scaled, 4,096 elements, 66 lines written; YK.VOP encodes as 0x30E6_960B. -/
theorem test_vcvt_descriptor :
    (let d := vopDesc 0x18 (natLe 8 0x0000100000000241 ++ natLe 8 0x40000 ++ natLe 8 0x0005000000000000 ++ natLe 8 0)
     decide (d.sf = fpFP32) && decide (d.df = fpF8A) && d.ds && !d.ss && decide (d.n = 4096) && decide (d.src0 = 0x40000) && decide (d.dst = 0x50000)
      && decide (d.dsts = [(0x50000, 4224)]) && decide (d.cause = 0)
      && decide ((Rv.opc 0x30E6960B, Rv.rd 0x30E6960B, Rv.rs1 0x30E6960B, Rv.rs2 0x30E6960B, Rv.f7 0x30E6960B) = (0x0B, 12, 13, 14, 0x18))) = true := by
  decide +kernel

/-! ## Solver engine (07, worked example) -/

/-- 07: the batch header of the control problems: areas, slots, cycles. -/
theorem test_qp_header :
    (let h := solverHdr (natLe 8 0x00320000180C0030 ++ natLe 8 0x000481001000 ++ natLe 4 0x2000 ++ natLe 4 0x1200 ++ natLe 8 0x000481000800 ++ natLe 96 0)
     decide (h.kind = 0x30) && decide ((h.fmt, h.n, h.m, h.r, h.flags, h.iters) = (0, 12, 24, 0, 0, 50)) && decide (h.inBytes = 4480)
      && decide (h.outBytes = 576) && decide (h.slots = 1)) = true := by decide +kernel

/-! ## Shared cache and harts (08, worked example) -/

/-- 08: the line at 0x4_9234_5640 is homed in P0's slice 14, set 0x1159. -/
theorem test_home_slice : homeSlice (0x492345640 / 64) = 14 ∧ cacheSet (0x492345640 / 64) = 0x1159 := by decide

/-! ## Board tier (09, worked example) -/

/-- 09: region 37's addresses, its 212 extents, packet 640's slot on port 27 and its place in the brick. -/
theorem test_packet_place :
    regionOf 0x212800500000 = 37 ∧ inTier 0x212800500000 = true ∧ extentsOf fpBF16 false 65536 = 212 ∧ 64 / stripesPer fpBF16 false = 2
    ∧ slotPos 64 10 = 4 ∧ slotPos 64 11 = 5 ∧ portOf 3 (slotPos 64 0) = 27 ∧ portOf 3 (slotPos 67 1) = 43
    ∧ (({ fmt := fpBF16, ext := [(1, 0), (2, 0), (3, 5000)] } : TRegion).place 64) = (3, 0x4E204080 / 64) := by decide +kernel

/-- 09: the header words of the coded packet 640: s 11, body_len 5,417, stored length 5,449; index 640, region 37; generation 4. -/
theorem test_packet_header :
    (let h := natLe 8 0x0000152900000B23 ++ natLe 8 0x0000002500000280 ++ natLe 8 4 ++ natLe 8 0
     decide (fld h 0 1 = 0x23) && decide (fld h 1 1 = 11) && decide (32 + fld h 4 4 = 5449) && decide (fld h 8 4 = 640) && decide (fld h 12 4 = 37)
      && decide (fld h 16 4 = 4) && decide (fld ((storePacket fpBF16 false true (List.replicate 64 0) 37 640 4)) 8 12 = fld h 8 12)) = true := by decide +kernel

/-- 09:R287: with one slot lost, P and the other nine give it back. -/
theorem test_rebuild :
    (let ds := (List.range 10).map (fun i => bytes [i + 1, 7 * i, 255 - i])
     let got := ((List.range 10).zip ds).filter (fun e => e.1 ≠ 4) ++ [(10, checkP 3 ds)]
     rebuildSlot 3 got 4) = some (bytes [5, 28, 251]) := by decide +kernel

/-! ## Lenpel ports (10, worked example) -/

/-- 10: READ_PACKET, tag 0x015, seq 0x05A, ack 0x1F3, offset 0x0138_8102, length 129: header bits [63:0] and [95:64]. -/
theorem test_read_frame :
    (let f := ({ ftype := 2, seq := 0x05A, ack := 0x1F3, tag := 0x015, off := 0x01388102, len := 129, last := true } : LHdr).frame []
     fld f 0 8 = 0x0408000157CC5A12 ∧ fld f 8 4 = 0x081004E2 ∧ f.length = 16) := by decide +kernel

/-! ## Atnik fabric (11, worked example) -/

/-- 11: ports toward the slot at distance 1 are 0 and 12; node 257 to 258 hashes to an odd number, so port 12 is chosen. -/
theorem test_port_choice :
    trayPorts 1 = [0, 12] ∧ (257 * 0x9E3779B1 + 258) % 2 ^ 32 = 3585158067
    ∧ (let k := { on with net := { on.net with slot := 1, peers := [(2, 258 + 1)], ports := [(0, { st := .active, version := 2 }), (12, { st := .active, version := 2 })] } }.setEnt 0x5000 1 257
       k.choosePort 258 opATOMIC 0 0 = some 12) := by decide +kernel

/-! ## Collectives (12, worked example) -/

/-- 12: the tree of the six nodes. -/
theorem test_tree :
    (let ms := [257, 258, 259, 260, 264, 265]
     (ms.map (parentOf ms))) = [none, some 257, some 257, some 257, some 257, some 264] := by decide +kernel

/-- 12: quanta of element 5, and the sum's result 1.0, which tree mode does not find. -/
theorem test_repro_quanta :
    (let d : CollDesc := { sf := fpFP32, rf := fpFP32, mode := 1, n := 1048576, clog := 20 }
     decide ((quant d 151 (.fin false 1 24)).1 = 2 ^ 31) && decide ((quant d 151 (.fin false 1 0)).1 = 128)
      && decide ((quant d 151 (.fin true 1 24)).1 = -(2 ^ 31)) && decide (quant d 151 (.fin false 1 (-30)) = (0, 1))
      && decide (d.chunks = 4) && decide (d.ce = 262144)) = true := by decide +kernel

/-! ## Castling (13, worked example) -/

/-- 13: rank 10's spare serves tile 85 already, so tile 1,234 goes to rank 9's, fused at 1,550 MHz. -/
theorem test_castle_adjacent :
    (let z : Sites := { moved := [(tileNo 9 85, 10 * 9 + 9)], failed := [(9 * 144 + 10 * 9 + 5, 1)], fmax := (List.range 16).map (fun r => (9 * 144 + r * 9 + 8, 1550)) }
     (z.castle 1234).map (fun y => (y.siteOf 1234, ((spareRanks 1234).filter (fun k => y.spareFree 9 k)).length))) = some (9 * 9 + 8, 1) := by decide +kernel

/-- 13: the first eight bytes of the castling record: class 2, outcome 0, flags 5, unit 1,234. -/
theorem test_castling_record :
    Sys2Proof.slice (Tab.get [] (on.castlingRecord { cls := 2, unit := 1234, adj := true, bound := 700, setup := 2660, redo := 27050, parts := 8, spares := 1 }).fault.records 0) 0 8
      = [2, 0, 5, 0, 0, 0, 4, 0xD2] ∧ (on.castlingRecord { cls := 2, unit := 1234, bound := 700, setup := 2660, redo := 27050 }).ent 0x3000 4 = 30410 := by
  decide +kernel

/-! ## Partitions and checkpoints (14, worked example) -/

/-- 14: extents of the two FP32 loading regions. -/
theorem test_region_extents : extentsOf fpFP32 false 2097152 = 13982 ∧ extentsOf fpFP32 false 2060000 = 13734 := by decide

/-! ## Power (15, worked example) -/

/-- 15: with the brake on at 9,000 W, samples of 21.8 kW, 13.1 kW and 8.75 kW at 48 V leave a duty of 8, 4 and 4 sixteenths. -/
theorem test_brake_duty :
    (let k0 := { on.setEnt 0x6000 2 9000 with pow := { on.pow with brake := true }, pins := { on.pins with vin := 48000 } }
     let at_ (k : Pkg) (w : Nat) : Pkg := fastLoop { k with pow := { k.pow with ma := w * 1000 / 48 }, tempo := { k.tempo with local_ := k.tempo.local_ + 1000 } } []
     let k1 := at_ k0 21800
     let k2 := at_ k1 13100
     [k1, k2, at_ k2 8750].map (fun k => Tab.get 16 k.pow.duty 5)) = [8, 4, 4] := by decide +kernel

/-- 15: 8,190 W under a brake cap of 9,000 W is a margin of more than two steps: one step up, from 700 to 725 MHz. -/
theorem test_cap_step :
    (let k := { on.setEnt 0x6000 2 9000 with
                 tempo := { on.tempo with now := 5000000 }
                 pow := { on.pow with brake := true, target := 700, periodPj := 8190000000, periodN := 1, loopAt := 4000000 } }
     (capLoop k 0).pow.target) = 725 := by decide +kernel

/-! ## Parameter dictionary (16, worked example) -/

/-- 16: the new owner's WRITE of power.cap_w: header fields, and the cap it leaves. -/
theorem test_write_cap :
    (let h := bytes [0x01, 0x02, 0, 0, 0, 0, 0x02, 0x01, 0, 0, 0x01, 0x02, 0x00, 0x10, 0, 0]
     let b := bytes [0x01, 0, 0, 0, 0x60, 0, 0x01, 0, 0, 0, 0, 0, 0, 0, 0x46, 0x50]
     decide (mType h = 2) && decide (mSession h = 0x201) && decide (mSeq h = 0x102) && decide (mLen h = 16)
      && decide ((pk (exec .dictionaryCycle (S (un { mo with mgmt := { mo.mgmt with reqs := [{ session := 7, seq := 5, type := 2, body := b }] } })))).ent 0x6000 1 = 18000)) = true := by
  decide +kernel

/-! ## Firmware (17, worked example) -/

/-- 17: estimates of the bank at 11.40 V and 0.238 C: 2.208 J and 2.030 J (the example rounds 2.0306 up), no conflict, and a commit of 1 MiB needs
0.521 J; at 0.100 C 0.706 J, a conflict. -/
theorem test_holdup :
    (on.estV 11400) / 1000000 = 2208 ∧ (on.estQ 238000000) / 1000000 = 2030 ∧ (on.estQ 100000000) / 1000000 = 706
    ∧ estConflict (on.estV 11400) (on.estQ 238000000) = false ∧ estConflict (on.estV 11400) (on.estQ 100000000) = true
    ∧ ({ calibrated := true, ev := on.estV 11400, eq := on.estQ 238000000 } : Holdup).allows 1048576 = true ∧ need100 1048576 / 100000000 = 521 := by
  decide +kernel

/-! ## Host link (18, worked example) -/

/-- 18: DEV_STATE of the slot-2 package reads 0x21, then 0x25, then 0x2D. -/
theorem test_dev_state :
    (let k (d l : Bool) : Pkg := { on with net := { on.net with slot := 2 }, fw := { on.fw with st := 1, dict := d, loadable := l } }
     ((k false false).pfBar0 0 0, (k true false).pfBar0 0 0, (k true true).pfBar0 0 0)) = (0x21, 0x25, 0x2D) := by decide +kernel

/-- 18: the I3C static address of the slot-2 package is 0x5A: SETDASA from it assigns a dynamic address. -/
theorem test_setdasa :
    (pk (exec (.setdasa 0x5A 9) (S { on with net := { on.net with slot := 2 } }))).mgmt.i3c.addr = 10
    ∧ (pk (exec (.setdasa 0x59 9) (S { on with net := { on.net with slot := 2 } }))).mgmt.i3c.addr = 0 := by decide +kernel

/-! ## Hypotheses that can be met -/

/-- The hypotheses of `IdleStepPassesTime`: before a start-up, and after one. -/
theorem witness_IdleStepPassesTime :
    (State.reset.pending = [] ∧ State.reset.pkg.fw.epochSet = false)
    ∧ ((S on).pending = [] ∧ (S on).pkg.fw.epochSet = true ∧ (S on).pkg.fault.open_ = [] ∧ (S on).pkg.tempo.rateNow = 0 ∧ (S on).pkg.tempo.acc = 0) := by
  decide +kernel

/-- The hypotheses of both clauses of `CommandsRunWhereUnitsExist`, at the last unit there is and the first there is not; those of its part
`CommandsLeaveTheQueue`. -/
theorem witness_CommandsRunWhereUnitsExist :
    (Instr.wf (.hartInstruction 1535) = true ∧ Instr.wf (.hartInstruction 1536) = false)
    ∧ ∃ t, exec .rstdaa { State.reset with pending := [.rstdaa] } = .next t :=
  ⟨⟨rfl, rfl⟩, _, rfl⟩

/-- A package whose tile 141 waits for a castling. -/
def castleS : State := cs {} { open_ := [{ rc2 with tile := 141, unit := 141, grp := 17 }] }

/-- The hypotheses of `SiteMapWriters`: a castling commit that writes the map. -/
theorem witness_SiteMapWriters : ∃ t, exec (.castlingCommit 141) castleS = .next t ∧ t.sites ≠ castleS.sites := ⟨_, rfl, by decide +kernel⟩

/-- The hypotheses of `SiteMapSoundEachStep`: a sound map, and a step that writes it. -/
theorem witness_SiteMapSoundEachStep :
    castleS.sites.sound = true ∧ ∃ t, step { castleS with pending := [.castlingCommit 141] } = .next t := ⟨by decide +kernel, _, rfl⟩

/-- The hypotheses of both clauses of `SiteMapInvariants`, with a tile served by an adjacent rank's spare. -/
theorem witness_SiteMapInvariants :
    (let z : Sites := { moved := [(1234, 9 * 9 + 9)] }
     decide (z.sound = true) && decide (1234 < 6144) && decide (z.siteOf 1234 = 9 * 9 + 8)) = true := by decide +kernel

/-- The hypotheses of `LostManagementDieStops`. -/
theorem witness_LostManagementDieStops :
    3 ≤ (S { on with fw := { on.fw with off := 3 } }).pkg.fw.off ∧ Instr.wf (.tickFire 3) = true ∧ Instr.ofPins (.tickFire 3) = false := by decide

/-- The hypotheses of clause 7 of `ParametersAndOwnership`: an entry whose writing only stores it. -/
theorem witness_ParametersAndOwnership_entry :
    (let s := S (un mo)
     match s.pkg.entryAt 0x6000 2 with
     | none => false
     | some e => decide (s.pkg.fw.off = 0) && decide (s.pkg.dictUp = true) && decide (s.pkg.fw.st ≠ 2) && decide (s.pkg.session 7 = some own7)
        && own7.mutual_ && decide (own7.path = .ethernet) && decide (e.idx = 0x6000) && decide (e.sub = 2) && decide (0 < e.len) && decide (e.len ≤ 8)
        && decide (9000 < 256 ^ e.len) && decide (s.pkg.overridden e = false) && decide (s.pkg.writeCheck s.pkg own7 0x6000 2 e.len 9000 = 0)) = true
    ∧ ∀ e ∈ (un mo).entryAt 0x6000 2, ∀ k : Pkg, k.entryWrite e 9000 = k.putEntry e 9000 := by
  refine ⟨by decide +kernel, ?_⟩
  intro e h
  obtain rfl : e = ((un mo).entryAt 0x6000 2).getD default := by rw [Option.mem_def] at h; rw [h]; rfl
  intro k
  rfl

/-- The hypotheses of clause 5 of `SolverNumbersFollowTheTile`. -/
theorem witness_SolverNumbersFollowTheTile_castling :
    ∃ u, exec (.castlingCommit 141) castleS = .next u ∧ (3 : Nat) ≠ engineOf 141 := ⟨_, rfl, by decide⟩

/-- A partition whose load image is whole. -/
def loadS : State := S (withImg (dn (qp 3 .loading (ce 4 77 [(16, 8, 0x1000)]))))
def loadK : Pkg := loadS.pkg.took 3 [ce 0x30 9 []]
def loadHead : List Byte := img0.foldl (fun l (x : Nat × Nat × Nat) => put l x.1 x.2.1 x.2.2) (List.replicate 256 0)
def loadTables : LoadImg :=
  { h := loadHead, tiles := List.replicate 128 (natLe 8 0 ++ natLe 4 64 ++ natLe 20 0)
    layouts := [natLe 1 0xE4 ++ natLe 3 0 ++ natLe 4 128 ++ natLe 4 1 ++ natLe 4 1 ++ natLe 4 1 ++ natLe 12 0], members := [5] }

theorem loadK_tables : loadK.readImage 3 0x1000 = loadTables := by
  simp only [Pkg.readImage, Mem.readN_near]
  decide +kernel

theorem loadK_head : loadK.dstore.readN 0x1000 256 = loadHead := by
  rw [Mem.readN_near]
  decide +kernel

theorem loadK_addresses : loadK.headAddrsOk 3 loadHead = true ∧ loadK.tableAddrsOk 3 loadTables = true ∧ loadK.entriesOk loadTables = true := by
  decide +kernel

/-- The hypotheses of clauses 3 to 5 of `LoadCommitMakesReady`. -/
theorem witness_LoadCommitMakesReady_whole :
    loadS.pkg.takes 3 4 (ce 4 77 [(16, 8, 0x1000)]) [ce 0x30 9 []] ∧ (loadS.pkg.part 3).st = .loading ∧ (loadS.pkg.part 3).clearing = []
    ∧ (loadS.pkg.part 3).rst = none ∧ loadK.ownRange 3 0x1000 256 = true ∧ loadK.imageRefusal 3 0x1000 = none := by
  refine ⟨by decide +kernel, by decide +kernel, by decide +kernel, by decide +kernel, by decide +kernel, ?_⟩
  simp only [Pkg.imageRefusal, loadK_head, loadK_tables, loadK_addresses]
  decide +kernel

/-- The hypotheses of clauses 25 and 26 of `FirmwareAndSecurity`: an offset behind the certificate chain, and one within it. -/
theorem witness_FirmwareAndSecurity_chain :
    (S (un mo)).pkg.channelUp 0 = true ∧ (S (un mo)).pkg.chain.length ≤ (S (un mo)).pkg.chain.length + 5 ∧ 0 < (S (un mo)).pkg.chain.length :=
  ⟨by decide +kernel, Nat.le_add_right _ _, Nat.succ_pos _⟩

/-- The codewords of a TRAIN_ID envelope, a lane at a time. -/
def trainWords : List (List Nat) := endWords 8 (lnk 3 0 0 (trec 5) ++ trec 5)
def trainS : State := S (ap 2 { st := .identify, since := 899999999999, node := 5, width := 8 })

/-- The hypotheses of clause 14 of `AtnikLinks`. -/
theorem witness_AtnikLinks_codewords :
    (let e := trainS.pkg.came 2 { bytes := [], words := trainWords, skip := 5060 } (List.replicate 64 0)
     e.sound && decide (bits (leNat e.link) 27 24 = 3)) = true := by decide +kernel

/-- The hypotheses of clause 9 of `FirmwareAndSecurity`: a record of zeros is refused, whatever entry the revocation fuses have. -/
theorem witness_FirmwareAndSecurity_unlock :
    (S (un mo)).pkg.fw.off = 0 ∧ (S (un mo)).pkg.fw.up = true ∧ (S (un mo)).pkg.unlockCheck (padTo 256 []) ≠ 0 := by
  refine ⟨by decide +kernel, by decide +kernel, ?_⟩
  have hn : beNat (Sys2Proof.slice (padTo 256 []) 4 4) = 0 := by decide +kernel
  have hp : plainEntry (beNat (Sys2Proof.slice (padTo 256 []) 0 2)) (byteAt (padTo 256 []) 2) = none := by decide +kernel
  unfold Pkg.unlockCheck
  simp only [hn, hp]
  repeat' split
  all_goals simp_all

/-- The hypotheses of `TestPortAlwaysAccepts`, clauses 1, 2, can be met. -/
theorem witness_TestPortAlwaysAccepts :
      ((
        let s : State := S { on with free := 3, tap := { ir := 3, cells := 9, regs := true } }
        decide (s.pkg.fw.vaux = true))
      && (
        let s : State := S { on with fw := { on.fw with vaux := false }, tap := { ir := 3, cells := 9 } }
        decide (s.pkg.fw.vaux = false))) = true := by decide +kernel

/-- The hypotheses of `TestPortAlwaysAccepts`, part `TestPortInResetOnly`, clauses 1, 5, can be met. -/
theorem witness_TestPortInResetOnly :
      ((
        let s : State := S { on with pins := { on.pins with resetLow := true, vin := 50000 }, fw := { on.fw with off := 4 }, tap := { ir := 3, cells := 9, regs := true } }
        decide (s.pkg.fw.vaux = true) && decide (s.pkg.pins.resetLow = true))
      && (
        let s : State := S on
        decide (s.pkg.fw.vaux = true) && decide (s.pkg.pins.resetLow = false))) = true := by decide +kernel

/-- The hypotheses of `ResetPulse`, clauses 1, 2, 3, can be met. -/
theorem witness_ResetPulse :
      ((
        let ns : Nat := 1000
        decide (1000 ≤ ns))
      && (
        let ns : Nat := 99
        decide (ns < 100))
      && (
        let ns : Nat := 100
        decide (100 ≤ ns) && decide (ns < 1000))) = true := by decide +kernel

/-- The hypotheses of `ResetPulse`, part `SupplyAndClockLoss`, clauses 1, 2, can be met. -/
theorem witness_SupplyAndClockLoss :
      ((
        let s : State := S { on with parts := [(1, { layout := 2 })], fw := { on.fw with commits := [{ started := true }, {}] } }
        let ns := 1001
        decide (s.pkg.fw.off = 0) && decide (1000 < ns))
      && (
        let s : State := S { on with parts := [(1, { layout := 2 })], fw := { on.fw with commits := [{ started := true }, {}] } }
        let ns := 1000
        decide (s.pkg.fw.off = 0) && decide (ns ≤ 1000))) = true := by decide +kernel

/-- The hypotheses of `PciePortRows`, clauses 1, 2, 4, 6, 7, 8, can be met. -/
theorem witness_PciePortRows :
      ((
        let s : State := S { on with pcie := [(0, { up := true, perst := false, vfs := 5 }), (1, { maxRate := 6, perst := false })], parts := [(3, { q := { cmdEn := true, cplEn := true, tail := 5 } })] }
        let k : Nat := 1
        let rate := 5
        let width := 16
        decide (k < 2) && decide (s.pkg.fw.off = 0) && decide ((s.pkg.pci k).up = false) && decide ((s.pkg.pci k).perst = false) && decide (1 ≤ rate) && decide (rate ≤ (s.pkg.pci k).maxRate) && decide (rate < 6) && decide (width ∈ [1, 2, 4, 8, 16]))
      && (
        let s : State := S { on with pcie := [(0, { up := true, perst := false, vfs := 5 }), (1, { maxRate := 6, perst := false })], parts := [(3, { q := { cmdEn := true, cplEn := true, tail := 5 } })] }
        let k : Nat := 0
        decide (k < 2) && decide (s.pkg.fw.off = 0) && decide ((s.pkg.pci k).perst = false))
      && (
        ([2,3,4]).all (fun cause =>
          let s : State := S { on with pcie := [(0, { up := true, perst := false, vfs := 5 }), (1, { maxRate := 6, perst := false })], parts := [(3, { q := { cmdEn := true, cplEn := true, tail := 5 } })] }
          let k : Nat := 0
          decide (k < 2) && decide (s.pkg.fw.off = 0) && decide (2 ≤ cause) && decide (cause ≤ 4) && decide ((s.pkg.pci k).up = true)))
      && (
        let s : State := S { on with pcie := [(0, { up := true, perst := false, vfs := 5 }), (1, { maxRate := 6, perst := false })], parts := [(3, { q := { cmdEn := true, cplEn := true, tail := 5 } })] }
        let k : Nat := 0
        let p := 3
        decide (k < 2) && decide (s.pkg.fw.off = 0) && decide ((s.pkg.pci k).up = true) && decide (p < 16) && decide (s.pkg.hostPort p = k))
      && (
        let s : State := S { on with pcie := [(0, { up := true })], fw := { on.fw with started := false } }
        let k : Nat := 0
        decide (k < 2) && decide (s.pkg.fw.off = 0) && decide ((s.pkg.pci k).up = true) && decide (s.pkg.fw.started = false))
      && (
        let s : State := S { on with pcie := [(0, { up := true, perst := false, vfs := 5 }), (1, { maxRate := 6, perst := false })], parts := [(3, { q := { cmdEn := true, cplEn := true, tail := 5 } })] }
        let k : Nat := 0
        decide (k < 2) && decide (s.pkg.fw.off = 0) && decide ((s.pkg.pci k).up = true) && decide (s.pkg.fw.started = true))) = true := by decide +kernel

/-- The hypotheses of `ColdStartToEpoch`, clauses 1, 2, can be met. -/
theorem witness_ColdStartToEpoch :
      ((
        let o : ColdObs := { vin := 39999 }
        decide (o.vin < 40000 ∨ 60000 < o.vin))
      && (
        let s : State := S { on with fw := { on.fw with off := 4, n0 := { copies := [(0, { nums := [41, 7, 0, 0] })] } } }
        let o : ColdObs := { slot := 3, vin := 48000 }
        decide (40000 ≤ o.vin) && decide (o.vin ≤ 60000) && decide (s.pkg.fw.off = 4) && decide (s.pkg.fw.commits = []) && decide (o.badCopies = []))) = true := by decide +kernel

/-- The hypotheses of `ColdStartGoesOn`, clauses 1, 5, 9, 10, can be met. -/
theorem witness_ColdStartGoesOn :
      ((
        let o : ColdObs := { slot := 3, failed := [5, 700], passing := [(9, 1350), (10, 1800)], dead := [3], lanes := [40, 40, 40], solver := [2], cores := [7], banks := [300], sensors := [70], mesh := [515] }
        let s : State := S { on with fw := { on.fw with cold := some o, epochSet := false, t0 := 5, commits := [{ kind := 0, started := true, value := 9 }, { kind := 3 }] }, tempo := { local_ := 20000000005 } }
        let c := { kind := 0, started := true, value := 9 }
        let rest := [{ kind := 3 }]
        decide (s.pkg.fw.cold = some o) && decide (s.pkg.fw.off = 0) && decide (s.pkg.fw.commits = c :: rest) && decide (c.kind = 0) && decide (c.started = true) && decide (s.pkg.fw.n0.lost = false))
      && (
        let o : ColdObs := { slot := 3, failed := [5, 700], passing := [(9, 1350), (10, 1800)], dead := [3], lanes := [40, 40, 40], solver := [2], cores := [7], banks := [300], sensors := [70], mesh := [515] }
        let s : State := S { on with fw := { on.fw with cold := some o, epochSet := false, t0 := 5, commits := [{ kind := 0, started := true, value := 9 }, { kind := 3 }] }, tempo := { local_ := 20000000005 } }
        let c := { kind := 3 }
        decide (s.pkg.fw.cold = some o) && decide (s.pkg.fw.off = 0) && decide (s.pkg.fw.epochCommit = false) && decide (s.pkg.fw.t0 + 20000000000 ≤ s.pkg.tempo.local_) && decide (c ∈ s.pkg.randomEpoch.fw.commits))
      && (
        let o : ColdObs := { slot := 3, failed := [5, 700], passing := [(9, 1350), (10, 1800)], dead := [3], lanes := [40, 40, 40], solver := [2], cores := [7], banks := [300], sensors := [70], mesh := [515] }
        let s : State := S { on with fw := { on.fw with cold := some o, epochSet := false, t0 := 5 }, tempo := { local_ := 20000000004 } }
        decide (s.pkg.fw.cold = some o) && decide (s.pkg.fw.off = 0) && decide (s.pkg.tempo.local_ < s.pkg.fw.t0 + 20000000000))
      && (
        ([5, 9, 10, 20, 0, 6911, 2]).all (fun k =>
          let o : ColdObs := { slot := 3, failed := [5, 700], passing := [(9, 1350), (10, 1800)], dead := [3], lanes := [40, 40, 40], solver := [2], cores := [7], banks := [300], sensors := [70], mesh := [515] }
          let s : State := S { on with fw := { on.fw with cold := some o, epochSet := false, t0 := 5, commits := [{ kind := 0, started := true, value := 9 }, { kind := 3 }] }, tempo := { local_ := 20000000005 } }
          decide (s.pkg.fw.cold = some o) && decide (s.pkg.fw.off = 0) && decide (k < 6912)))) = true := by decide +kernel

/-- The hypotheses of `ColdStartGoesOn`, part `StartComesOnline`, clauses 1, 2, can be met. -/
theorem witness_StartComesOnline :
      ((
        ([S { on with fw := { on.fw with dict := false, t0 := 5 }, tempo := { st := .locked, local_ := 70000000 }, tier := { forming := false } }, S { on with fw := { on.fw with dict := false, st := 2 }, tempo := { st := .locked }, tier := { forming := false } }]).all (fun s =>
          decide (s.pending = []) && decide (s.pkg.tier.asked = []) && decide (∀ (n : Nat), n < 24 → (s.pkg.port n).st ≠ .active) && decide (∀ (q : Nat), q < 48 → (s.pkg.lport q).st ≠ .active) && decide (s.pkg.fault.open_ = []) && decide (s.pkg.fw.epochSet = true) && decide (s.pkg.fw.dict = false) && decide (s.pkg.fw.off = 0) && decide (s.pkg.portsTrain = false) && decide (s.pkg.tempo.st = .locked)))
      && (
        ([S { on with fw := { on.fw with dict := false }, tier := { forming := false } }, S { on with fw := { on.fw with dict := false, settled := some 5 }, tempo := { local_ := 30000000004 }, tier := { forming := false } }]).all (fun s =>
          decide (s.pending = []) && decide (s.pkg.tier.asked = []) && decide (∀ (n : Nat), n < 24 → (s.pkg.port n).st ≠ .active) && decide (∀ (q : Nat), q < 48 → (s.pkg.lport q).st ≠ .active) && decide (s.pkg.fault.open_ = []) && decide (s.pkg.fw.epochSet = true) && decide (s.pkg.fw.dict = false) && decide (s.pkg.fw.off = 0) && decide (s.pkg.portsTrain = false) && decide (s.pkg.tempo.st ≠ .locked) && decide (∀ u ∈ s.pkg.fw.settled, s.pkg.tempo.local_ < u + 30000000000)))) = true := by decide +kernel

/-- The hypotheses of `CommitsToN0`, clauses 1, 2, 3, 4, 5, 6, can be met. -/
theorem witness_CommitsToN0 :
      ((
        let c : Commit := { kind := 4, bytes := 512, data := bytes [1,2,3] }
        let rest : List Commit := [{ kind := 2 }]
        let s : State := S { on with fw := { on.fw with commits := c :: rest, holdup := { calibrated := true, ev := 30240000, eq := 50000000 }, vaux := true, boots := 12 } }
        let e := 30240000
        decide (s.pkg.fw.off < 3) && decide (s.pkg.fw.commits = c :: rest) && decide (c.started = false) && decide (s.pkg.fw.n0.lost = false) && decide (s.pkg.fw.vaux = true) && decide (s.pkg.fw.holdup.energy = some e) && decide (3000000000 + 46875 * c.bytes ≤ 100 * e))
      && (
        let c : Commit := { kind := 4, bytes := 512, data := bytes [1,2,3] }
        let rest : List Commit := [{ kind := 2 }]
        let s : State := S { on with fw := { on.fw with commits := c :: rest, holdup := { calibrated := true, ev := 30239999, eq := 50000000 }, vaux := true } }
        decide (s.pkg.fw.off < 3) && decide (s.pkg.fw.commits = c :: rest) && decide (c.started = false) && decide (s.pkg.fw.n0.lost = false) && decide (s.pkg.fw.vaux = true) && decide (∀ e ∈ s.pkg.fw.holdup.energy, 100 * e < 3000000000 + 46875 * c.bytes))
      && (
        let c : Commit := { kind := 4, bytes := 512, data := bytes [1,2,3], started := true }
        let rest : List Commit := [{ kind := 2 }]
        let s : State := S { on with fw := { on.fw with commits := c :: rest, holdup := { calibrated := true, ev := 30240000, eq := 50000000 }, vaux := true, boots := 12 } }
        decide (s.pkg.fw.off < 3) && decide (s.pkg.fw.commits = c :: rest) && decide (c.started = true) && decide (s.pkg.fw.n0.lost = false) && decide (s.pkg.fw.cold = none) && decide (c.kind = 4))
      && (
        let c : Commit := { kind := 0, value := 77, started := true }
        let rest : List Commit := [{ kind := 2 }]
        let s : State := S { on with fw := { on.fw with commits := c :: rest, holdup := { calibrated := true, ev := 30240000, eq := 50000000 }, vaux := true, boots := 12 } }
        decide (s.pkg.fw.off < 3) && decide (s.pkg.fw.commits = c :: rest) && decide (c.started = true) && decide (s.pkg.fw.n0.lost = false) && decide (s.pkg.fw.cold = none) && decide (c.kind = 0))
      && (
        let c : Commit := { kind := 2, vals := [(5, 5), (6, 6)], started := true }
        let rest : List Commit := [{ kind := 2 }]
        let s : State := S { on with fw := { on.fw with commits := c :: rest, pending := [5, 7] }, tempo := { now := 12345 } }
        decide (s.pkg.fw.off < 3) && decide (s.pkg.fw.commits = c :: rest) && decide (c.started = true) && decide (s.pkg.fw.n0.lost = false) && decide (s.pkg.fw.cold = none) && decide (c.kind = 2))
      && (
        ([{ kind := 0, value := 77, bytes := 32768, started := true }, { kind := 2, vals := [(5, 5), (6, 6)], started := true }, { kind := 1, started := true }, { kind := 3, started := true, bytes := 262144 }]).all (fun c =>
          let rest : List Commit := [{ kind := 2 }]
          let s : State := S { on with fw := { on.fw with commits := c :: rest, holdup := { calibrated := true, ev := 30240000, eq := 50000000 }, vaux := true, boots := 12 } }
          let a := (c.area.getD 9)
          decide (s.pkg.fw.off < 3) && decide (s.pkg.fw.commits = c :: rest) && decide (c.started = true) && decide (s.pkg.fw.n0.lost = false) && decide (s.pkg.fw.cold = none) && decide (c.area = some a)))) = true := by decide +kernel

/-- The hypotheses of `TempoFollowsItsRoot`, clauses 1, 2, 3, 4, 5, 6, 7, 8, 9, can be met. -/
theorem witness_TempoFollowsItsRoot :
      ((
        let s : State := S (({ on with tempo := { role := .follower, local_ := 5000000 }, net := { epoch := 0 } } : Pkg).setEnt 0x2201 1 4 |>.setEnt 0x5000 1 4)
        let t := s.pkg.tempo
        let k := 0
        decide (s.pkg.fw.off = 0) && decide (s.pkg.candidate = some k) && decide (t.role = .follower ∨ t.role = .standalone) && decide (k = 0 ∨ t.lastAnn + 3000000 ≤ t.local_))
      && (
        let s : State := S { on with tempo := { role := .follower, local_ := 5000000, now := 7, parent := 3, root := 9, rank := 1, xid := 65535 }, net := { ports := [(0, { st := .active }), (2, { st := .active, rx := [rx { op := 10, tc := 3, spec := 3 } (bytes [1, 5, 0, 0, 9, 0, 0, 0, 77])] })] } }
        let t := s.pkg.tempo
        decide (s.pkg.fw.off = 0) && decide (t.role = .follower) && decide (∀ (k : Nat), k < 4 → s.pkg.ent 0x2201 (k + 1) = 0xFFFFFFFF) && decide (t.lastAnn + 3000000 ≤ t.local_))
      && (
        let s : State := S { on with tempo := { role := .root 1, local_ := 5000000 }, net := { ports := [(0, { st := .active }), (2, { st := .active })] } }
        let t := s.pkg.tempo
        let k := 1
        decide (s.pkg.fw.off = 0) && decide (t.role = .root k) && decide (t.annAt + 1000000 ≤ t.local_))
      && (
        let s : State := S { on with net := { ports := [(0, { st := .active }), (2, { st := .active, rx := [rx { op := 10, tc := 3, spec := 3 } (bytes [1, 33, 0, 0, 9, 0, 0, 0, 77])] })] } }
        let n := 2
        let r := (s.pkg.port 2).rx.head!
        let k := ((s.pkg.takeRx n (fun h => decide (h.op = 10) && decide (h.spec % 256 = 3))).getD default).2
        let pay := r.packet.drop 32
        decide (s.pkg.fw.off = 0) && decide (n < 24) && decide (s.pkg.takeRx n (fun h => decide (h.op = 10) && decide (h.spec % 256 = 3)) = some (r, k)) && decide (32 < byteAt pay 1))
      && (
        let s : State := S { on with tempo := { role := .follower, local_ := 5000000, now := 7, parent := 3, root := 9, rank := 1, xid := 65535 }, net := { ports := [(0, { st := .active }), (2, { st := .active, rx := [rx { op := 10, tc := 3, spec := 3 } (bytes [1, 5, 0, 0, 9, 0, 0, 0, 77])] })] } }
        let t := s.pkg.tempo
        let n := 2
        let r := (s.pkg.port 2).rx.head!
        let k := ((s.pkg.takeRx n (fun h => decide (h.op = 10) && decide (h.spec % 256 = 3))).getD default).2
        let pay := r.packet.drop 32
        decide (s.pkg.fw.off = 0) && decide (n < 24) && decide (s.pkg.takeRx n (fun h => decide (h.op = 10) && decide (h.spec % 256 = 3)) = some (r, k)) && decide (byteAt pay 1 ≤ 32) && decide (k.candidate = none) && decide (t.role = .follower) && decide (t.parent = n + 1) && decide (t.root = fld pay 4 4) && decide (t.rank = byteAt pay 0) && decide (∀ c ∈ t.counts, ¬(c.1 = byteAt pay 0 ∧ c.2.1 = fld pay 4 4)))
      && (
        let s : State := S { on with tempo := { role := .follower, local_ := 5000000, now := 7, parent := 3, root := 9, rank := 1, xid := 65535 }, net := { ports := [(0, { st := .active }), (2, { st := .active, rx := [rx { op := 10, tc := 3, spec := 3 } (bytes [1, 5, 0, 0, 9, 0, 0, 0, 77])] })] } }
        let t := s.pkg.tempo
        let n := 2
        decide (s.pkg.fw.off = 0) && decide (t.role = .follower) && decide (t.parent = n + 1) && decide (t.syncAt + 1000000 ≤ t.local_))
      && (
        let s : State := S { on with tempo := { role := .follower, local_ := 5000000, now := 7, parent := 3, root := 9, rank := 1, xid := 65535 }, net := { ports := [(0, { st := .active }), (2, { st := .active, rx := [rx { op := 10, tc := 3, spec := 3 } (bytes [1, 5, 0, 0, 9, 0, 0, 0, 77])] })] } }
        let m : List Byte := Hdr.enc { op := 10, tc := 3, spec := 1 } ++ padTo 32 (natLe 2 513)
        decide (s.pkg.fw.off = 0) && decide ((Hdr.dec m).op = 10) && decide ((Hdr.dec m).spec % 256 = 1))
      && (
        let s : State := S { on with tempo := { role := .follower, local_ := 5000000, now := 7, parent := 3, root := 9, rank := 1, xid := 65535 }, net := { ports := [(0, { st := .active }), (2, { st := .active, rx := [rx { op := 10, tc := 3, spec := 3 } (bytes [1, 5, 0, 0, 9, 0, 0, 0, 77])] })] } }
        let m : List Byte := Hdr.enc { op := 10, tc := 3, spec := 2 } ++ padTo 32 (natLe 2 513)
        decide (s.pkg.fw.off = 0) && decide ((Hdr.dec m).op = 10) && decide ((Hdr.dec m).spec % 256 = 2))
      && (
        let s : State := S { on with net := { ports := [(2, { st := .active, rx := [rx { op := 10, tc := 3, spec := 1 } (bytes [1, 5, 0, 0, 9, 0, 0, 0, 77])] })] } }
        let n := 2
        let r := (s.pkg.port 2).rx.head!
        let k := ((s.pkg.takeRx n (fun h => decide (h.op = 10) && decide (h.spec % 256 = 1))).getD default).2
        decide (s.pkg.fw.off = 0) && decide (n < 24) && decide (s.pkg.takeRx n (fun h => decide (h.op = 10) && decide (h.spec % 256 = 1)) = some (r, k)))) = true := by decide +kernel

/-- The hypotheses of `TempoStatesAndUtc`, clauses 1, 2, 3, 4, 5, 6, 7, 8, 9, can be met. -/
theorem witness_TempoStatesAndUtc :
      ((
        let s : State := tm { role := .follower, st := .locked, lastAcc := 5, local_ := 3000005 } |> S
        let t := s.pkg.tempo
        decide (s.pkg.fw.off = 0) && decide (t.role = .follower) && decide (t.st = .locked) && decide (t.lastAcc + 3000000 ≤ t.local_))
      && (
        let s : State := tm { role := .follower, st := .holdover, holdSince := 5, local_ := 10000005 } |> S
        let t := s.pkg.tempo
        decide (s.pkg.fw.off = 0) && decide (t.st = .holdover) && decide (t.degraded = false) && decide (t.holdSince + 10000000 ≤ t.local_))
      && (
        let s : State := tm { degraded := true } |> S
        let t := s.pkg.tempo
        decide (s.pkg.fw.off = 0) && decide (t.degraded = true))
      && (
        let s : State := tm { pllLock := 5000, now := 12288 } |> S
        let t := s.pkg.tempo
        let k := 3
        decide (s.pkg.fw.off = 0) && decide (t.cdc = false) && decide (t.pllLock + 4096 ≤ 4096 * k) && decide (4096 * k ≤ t.now) && decide (4096 * k < t.pllLock + 8192))
      && (
        let s : State := tm { pllLock := 5000, now := 12287 } |> S
        let t := s.pkg.tempo
        decide (s.pkg.fw.off = 0) && decide (4096 * (t.now / 4096) < t.pllLock + 4096))
      && (
        let s : State := S ((tm { now := 77 }).setEnt 0x2204 1 1)
        let m : PtpExchange := { domain := 5 }
        decide (s.pkg.fw.off = 0) && decide (s.pkg.ent 0x2204 1 = 1) && decide (m.domain ≠ s.pkg.ent 0x2204 2))
      && (
        let s : State := S (((tm { now := 77 }).setEnt 0x2204 1 1).setEnt 0x2204 2 5)
        let m : PtpExchange := { domain := 5, twoStep := true, origin := 3, precise := 100, corrSync := 131072, ago2 := 120, ago3 := 110, t4 := 170, utcAhead := 37 }
        decide (s.pkg.fw.off = 0) && decide (s.pkg.ent 0x2204 1 = 1) && decide (m.domain = s.pkg.ent 0x2204 2))
      && (
        let s : State := S ((tm { now := 77 }).setEnt 0x2204 3 1)
        decide (s.pkg.fw.off = 0) && decide (s.pkg.ent 0x2204 3 = 1))
      && (
        let s : State := S { tm { role := .follower, sent := some (5, 1000), parent := 3, gather := some [] } with net := { ports := [(2, { st := .active, rx := [rx { op := 10, tc := 3, spec := 2 } (bytes ([5, 0] ++ List.replicate 14 0) ++ natLe 8 6000 ++ natLe 8 7000)] })] } }
        let t := s.pkg.tempo
        let n := 2
        let r := (s.pkg.port 2).rx.head!
        let k := ((s.pkg.takeRx n (fun h => decide (h.op = 10) && decide (h.spec % 256 = 2))).getD default).2
        let xs := []
        let id := 5
        let t1 := 1000
        let fwd := 4960
        let rev := 40
        decide (s.pkg.fw.off = 0) && decide (n < 24) && decide (s.pkg.takeRx n (fun h => decide (h.op = 10) && decide (h.spec % 256 = 2)) = some (r, k)) && decide (t.sent = some (id, t1)) && decide (t.role = .follower) && decide (t.parent = n + 1) && decide (id = fld (r.packet.drop 32) 0 2) && decide (t.gather = some xs) && decide (xs.length < 7) && decide ((s.pkg.port n).queue = []) && decide (fwd = fineDiff (fld (r.packet.drop 32) 16 8) t1 - rev))) = true := by decide +kernel

/-- The hypotheses of `TicksAndFrames`, clauses 1, 2, 8, 9, 10, 11, 12, 13, 14, 15, 16, 17, can be met. -/
theorem witness_TicksAndFrames_1 :
      ((
        let k : Pkg := { on with parts := [(3, { st := .running, mem := { n := 4, awaiting := some (5, 900) }, img := { members := [on.node] } })] }
        let p : Nat := 3
        let job : Nat := 9
        let node : Nat := on.node
        decide ((k.part p).img.members = [k.node]) && decide (node = k.node) && decide ((k.part p).mem.awaiting ≠ none) && decide (Tab.get [] k.net.gathered job = []))
      && (
        let k : Pkg := { on with parts := [(3, { st := .running, mem := { n := 4, awaiting := some (5, 900) }, img := { members := [on.node, 77] } })], net := { on.net with gathered := [(9, [(on.node, List.replicate 96 7)])] } }
        let p : Nat := 3
        let job : Nat := 9
        let node : Nat := 77
        let r : List Byte := List.replicate 96 7
        decide (node ≠ k.node) && decide ((k.part p).img.members = [k.node, node]) && decide ((k.part p).mem.awaiting ≠ none) && decide (Tab.get [] k.net.gathered job = [(k.node, r)]))
      && (
        ([0, 3]).all (fun i =>
          decide (i < 4)))
      && (
        let s : State := S { on with parts := [(3, { st := .running, mem := { n := 4, begun := true, fired := 5, repDone := 5, s := 1000, f := 100, ended := some (1490, 3), inputs := [{}] } })], tempo := { now := 1499 } }
        let p : Nat := 3
        let x := s.pkg.part p
        let m := x.mem
        let n := m.fired
        let due := max (m.s + (n - m.m) * m.f) m.schedAt
        decide (p < 16) && decide (s.pkg.fw.off = 0) && decide (s.pkg.tempo.now < due))
      && (
        let s : State := S { on with parts := [(3, { st := .ready, mem := { n := 4 } })] }
        let p : Nat := 3
        let x := s.pkg.part p
        decide (p < 16) && decide (s.pkg.fw.off = 0) && decide (x.ticking = false))
      && (
        let s : State := S { on with parts := [(3, { st := .running, mem := { n := 4, begun := true, fired := 7, repDone := 5, s := 1000, m := 0, f := 100, ended := some (1490, 3), inputs := [{}] } })], tempo := { now := 1900 } }
        let p : Nat := 3
        let x := s.pkg.part p
        let m := x.mem
        let n := m.fired
        let due := max (m.s + (n - m.m) * m.f) m.schedAt
        decide (p < 16) && decide (s.pkg.fw.off = 0) && decide (x.ticking = true) && decide (due ≤ s.pkg.tempo.now) && decide (n ≠ m.next))
      && (
        let s : State := S { on with parts := [(3, { st := .running, mem := { n := 4, begun := true, fired := 5, repDone := 5, s := 1000, m := 0, f := 100, inputs := [{}] } })], tempo := { now := 1500 } }
        let p : Nat := 3
        let x := s.pkg.part p
        let m := x.mem
        let n := m.fired
        let due := max (m.s + (n - m.m) * m.f) m.schedAt
        decide (p < 16) && decide (s.pkg.fw.off = 0) && decide (x.ticking = true) && decide (due ≤ s.pkg.tempo.now) && decide (n = m.next) && decide (m.ended = none ∨ m.repDone < n))
      && (
        let s : State := S { on with parts := [(3, { st := .running, mem := { n := 4, begun := true, fired := 5, repDone := 5, s := 1000, m := 0, f := 100, ended := some (1490, 3), inputs := [{}] } })], tempo := { now := 1500 } }
        let p : Nat := 3
        let x := s.pkg.part p
        let m := x.mem
        let n := m.fired
        let due := max (m.s + (n - m.m) * m.f) m.schedAt
        decide (p < 16) && decide (s.pkg.fw.off = 0) && decide (x.ticking = true) && decide (due ≤ s.pkg.tempo.now) && decide (n = m.next) && decide (m.ended ≠ none) && decide (n ≤ m.repDone) && decide (x.recd.mode = 0) && decide (m.applying = []))
      && (
        let s : State := S { on with parts := [(3, { st := .running, mem := { n := 4, begun := true } })] }
        let p : Nat := 3
        let x := s.pkg.part p
        let m := x.mem
        decide (p < 16) && decide (s.pkg.fw.off = 0) && decide (m.ended = none))
      && (
        let s : State := S { on with parts := [(3, { st := .ready, mem := { n := 4, begun := true } })] }
        let p : Nat := 3
        let x := s.pkg.part p
        let m := x.mem
        decide (p < 16) && decide (s.pkg.fw.off = 0) && decide (x.st = .ready) && decide (m.go = false))
      && (
        let s : State := S { on with parts := [(3, { st := .running, mem := { n := 4, begun := true, fired := 6, repDone := 5, s := 1000, m := 0, f := 100, ended := some (1490, 3) } })], tempo := { now := 1500 } }
        let p : Nat := 3
        let x := s.pkg.part p
        let m := x.mem
        let e := (1490, 3)
        decide (p < 16) && decide (s.pkg.fw.off = 0) && decide (x.st = .running) && decide (m.begun = true) && decide (m.fired = m.next + 1) && decide (m.ended = some e) && decide (m.next ≤ m.repDone) && decide (x.recd.mode = 0) && decide (m.cutEnd = 0) && decide (m.applying = []) && decide (m.inputs = []) && decide (m.digest = false) && decide (∀ r ∈ s.pkg.tier.regions, r.2.sealing = none) && decide (s.pkg.ent (0x8000 + p) 1 = 0) && decide (s.pkg.ent (0x8000 + p) 2 = 0) && decide (e.1 ≤ m.s + (m.next - m.m) * m.f) && decide (m.repAt ≤ m.s + (m.next - m.m) * m.f) && decide (x.recd.roomAt ≤ m.s + (m.next - m.m) * m.f) && decide (m.s + (m.next - m.m) * m.f ≤ s.pkg.tempo.now))
      && (
        let r := List.replicate 64 1 ++ [] |> fun _ => natLe 8 55 ++ natLe 8 55 ++ natLe 8 0 ++ List.replicate 40 0
        let s : State := S { on with parts := [(3, { st := .running, mem := { n := 4, awaiting := some (5, 900), combined := some r }, img := { members := [77] } })], tempo := { now := 1500 } }
        let p : Nat := 3
        let x := s.pkg.part p
        let m := x.mem
        let j := 4
        let at_ := 900
        decide (p < 16) && decide (s.pkg.fw.off = 0) && decide (m.awaiting = some (j + 1, at_)) && decide (m.combined = some r) && decide (fld r 0 8 = fld r 8 8) && decide (fld r 16 8 = 0))) = true := by decide +kernel

/-- The hypotheses of `TicksAndFrames`, clauses 18, 19, 20, 21, 22, 23, 24, 25, 26, can be met. -/
theorem witness_TicksAndFrames_2 :
      ((
        let r := natLe 8 55 ++ natLe 8 56 ++ natLe 8 0 ++ List.replicate 40 0
        let s : State := S { on with parts := [(3, { st := .running, mem := { n := 4, awaiting := some (5, 900), combined := some r }, img := { members := [77] } })], tempo := { now := 1500 } }
        let p : Nat := 3
        let x := s.pkg.part p
        let m := x.mem
        let j := 4
        let at_ := 900
        decide (p < 16) && decide (s.pkg.fw.off = 0) && decide (m.awaiting = some (j + 1, at_)) && decide (m.combined = some r) && decide (fld r 0 8 ≠ fld r 8 8))
      && (
        let r := []
        let s : State := S { on with parts := [(3, { st := .running, mem := { n := 4, awaiting := some (5, 900), combined := some r } })], tempo := { now := 1500 } }
        let p : Nat := 3
        let x := s.pkg.part p
        let m := x.mem
        let i := 4
        decide (p < 16) && decide (s.pkg.fw.off = 0) && decide (m.combined = none ∨ m.awaiting.map (fun a => a.1) ≠ some i))
      && (
        let s : State := S { on with parts := [(2, { layout := 4 }), (3, { st := .running, mem := { n := 4, awaiting := some (5, 900) }, img := { members := [77] } })], tempo := { now := 50000900 } }
        let p : Nat := 3
        let x := s.pkg.part p
        let m := x.mem
        let j := 4
        let at_ := 900
        decide (p < 16) && decide (s.pkg.fw.off = 0) && decide (m.awaiting = some (j + 1, at_)) && decide (x.st = .running) && decide (at_ + 50000000 ≤ s.pkg.tempo.now))
      && (
        let s : State := S { on with parts := [(2, { layout := 4 }), (3, { st := .ready, mem := { n := 4, awaiting := some (0, 900) }, img := { members := [77] } })], tempo := { now := 50000900 } }
        let p : Nat := 3
        let x := s.pkg.part p
        let m := x.mem
        let at_ := 900
        decide (p < 16) && decide (s.pkg.fw.off = 0) && decide (m.awaiting = some (0, at_)) && decide (at_ + 50000000 ≤ s.pkg.tempo.now))
      && (
        let s : State := S { on with tiles := [(5, { part := 4, mode := .rampWait })], fault := { open_ := [{ tile := 5, cls := 2 }] }, parts := [(3, { st := .running, mem := { n := 0, begun := true, start := 3, w := 1600 } })], tempo := { now := 50000900 } }
        let p : Nat := 3
        let x := s.pkg.part p
        let t := 5
        decide (p < 16) && decide (s.pkg.fw.off = 0) && decide (t < 6144) && decide ((s.pkg.tile t).part = p + 1) && decide (x.st = .running) && decide (s.pkg.ramped t = true) && decide ((s.pkg.tile t).mode = .rampWait ∨ (s.pkg.tile t).mode = .frameDone) && decide (s.pkg.fenced t = true))
      && (
        let s : State := S { on with tiles := [(5, { part := 4, mode := .rampWait })], parts := [(3, { st := .running, mem := { n := 0, begun := true, start := 3, w := 1600 } })], tempo := { now := 50000900 } }
        let p : Nat := 3
        let x := s.pkg.part p
        let t := 5
        decide (p < 16) && decide (s.pkg.fw.off = 0) && decide (t < 6144) && decide ((s.pkg.tile t).part = p + 1) && decide (x.st = .running) && decide (s.pkg.ramped t = true) && decide ((s.pkg.tile t).mode = .rampWait ∨ (s.pkg.tile t).mode = .frameDone) && decide (s.pkg.fenced t = false))
      && (
        let s : State := S { on with parts := [(3, { st := .checkpointing, cap := some { step := 2, bytes := List.replicate 64 1, sent := 900 }, mem := { n := 4 } })], tempo := { now := 50000900 } }
        let p : Nat := 3
        let x := s.pkg.part p
        let m := x.mem
        let c := { step := 2, bytes := List.replicate 64 1, sent := 900 }
        decide (p < 16) && decide (s.pkg.fw.off = 0) && decide (x.st = .checkpointing) && decide (x.cap = some c) && decide (c.step = 2) && decide (m.combined = none) && decide (c.sent + 50000000 ≤ s.pkg.tempo.now))
      && (
        let s : State := S { on with parts := [(3, { st := .running, mem := { n := 4, begun := true, fired := 5, repDone := 5, s := 1000, m := 0, f := 100, ended := some (1490, 3), inputs := [{}] }, img := { members := [77] }, dies := [0] })], tempo := { now := 1500 } }
        let p : Nat := 3
        let x := s.pkg.part p
        decide (p < 16) && decide (s.pkg.fw.off = 0) && decide (x.recd.mode = 0))
      && (
        let s : State := S { on with parts := [(3, { st := .running, recd := { mode := 1 } })] }
        let p : Nat := 3
        let x := s.pkg.part p
        decide (p < 16) && decide (s.pkg.fw.off = 0) && decide (x.recd.mode = 1) && decide (x.recd.gap = 0) && decide (x.recd.wait = []))) = true := by decide +kernel

/-- The hypotheses of `QueueRegisters`, clauses 1, 4, 5, 7, 8, 9, 10, 12, 13, 14, can be met. -/
theorem witness_QueueRegisters :
      ((
        let s : State := S { on with parts := [(2, {}), (3, { st := .running, q := { cmdEn := true, cmdLog := 4, head := 14, cplEn := true, cplLog := 4, cplTail := 15, cplHead := 1, wait := [bytes [1,2,3,4,5,6,7,8,9,10,11,12,13,14,15,16], []] } })], pcie := [(0, { up := true })] }
        let k : Nat := 1
        let p : Nat := 3
        decide (p < 16) && decide (s.pkg.fw.off = 0) && decide (s.pkg.hostPort p ≠ k))
      && (
        let s : State := S { on with parts := [(3, { q := { cmdEn := false, cmdLog := 4, stopped := true } })] }
        let k : Nat := 0
        let p : Nat := 3
        let q := (s.pkg.part p).q
        let l := 12
        decide (p < 16) && decide (s.pkg.fw.off = 0) && decide (s.pkg.hostPort p = k) && decide (4 ≤ l) && decide (l ≤ 12) && decide (q.cmdEn = false) && decide (q.cplEn = false) && decide (q.tail < 2 ^ l))
      && (
        let s : State := S { on with parts := [(3, { q := { cmdEn := false, cmdLog := 4, tail := 16 } })] }
        let k : Nat := 0
        let p : Nat := 3
        let q := (s.pkg.part p).q
        let l := 4
        decide (p < 16) && decide (s.pkg.fw.off = 0) && decide (s.pkg.hostPort p = k) && decide (4 ≤ l) && decide (l ≤ 12) && decide (q.cmdEn = false) && decide (q.cplEn = false) && decide (2 ^ l ≤ q.tail))
      && (
        let s : State := S { on with parts := [(3, { q := { cmdEn := false, cmdLog := 4, stopped := true } })] }
        let k : Nat := 0
        let p : Nat := 3
        let q := (s.pkg.part p).q
        let l := 3
        decide (p < 16) && decide (s.pkg.fw.off = 0) && decide (s.pkg.hostPort p = k) && decide (l < 4 ∨ 12 < l) && decide (l < 16) && decide (q.cmdEn = false) && decide (q.cplEn = false))
      && (
        let s : State := S { on with parts := [(3, { q := { cmdEn := false, cmdLog := 4, stopped := true } })] }
        let k : Nat := 0
        let p : Nat := 3
        let q := (s.pkg.part p).q
        let l := 15
        decide (p < 16) && decide (s.pkg.fw.off = 0) && decide (s.pkg.hostPort p = k) && decide (l < 16) && decide (q.cplEn = false))
      && (
        let s : State := S { on with parts := [(2, {}), (3, { st := .running, q := { cmdEn := true, cmdLog := 4, head := 14, cplEn := true, cplLog := 4, cplTail := 15, cplHead := 1, wait := [bytes [1,2,3,4,5,6,7,8,9,10,11,12,13,14,15,16], []] } })], pcie := [(0, { up := true })] }
        let k : Nat := 0
        let p : Nat := 3
        let q := (s.pkg.part p).q
        let v := 16
        decide (p < 16) && decide (s.pkg.fw.off = 0) && decide (s.pkg.hostPort p = k) && decide (q.cmdEn = true) && decide (q.stopped = false) && decide (v < 65536) && decide (2 ^ q.cmdLog ≤ v))
      && (
        let s : State := S { on with parts := [(2, {}), (3, { st := .running, q := { cmdEn := true, cmdLog := 4, head := 14, cplEn := true, cplLog := 4, cplTail := 15, cplHead := 1, wait := [bytes [1,2,3,4,5,6,7,8,9,10,11,12,13,14,15,16], []] } })], pcie := [(0, { up := true })] }
        let k : Nat := 0
        let p : Nat := 3
        let q := (s.pkg.part p).q
        let v := 2
        decide (p < 16) && decide (s.pkg.fw.off = 0) && decide (s.pkg.hostPort p = k) && decide (q.cmdEn = true) && decide (q.stopped = false) && decide (s.pkg.served = true) && decide ((s.pkg.pci k).up = true) && decide (v < 2 ^ q.cmdLog) && decide (v < 65536) && decide (v ≠ q.head))
      && (
        let s : State := S { on with parts := [(2, {}), (3, { st := .running, q := { cmdEn := true, cmdLog := 4, head := 14, cplEn := true, cplLog := 4, cplTail := 15, cplHead := 1, wait := [bytes [1,2,3,4,5,6,7,8,9,10,11,12,13,14,15,16], []] } })], pcie := [(0, { up := true })] }
        let k : Nat := 0
        let p : Nat := 3
        let i := 5
        decide (p < 16) && decide (s.pkg.fw.off = 0) && decide (s.pkg.hostPort p = k) && decide (i < 8))
      && (
        let s : State := S { on with parts := [(2, {}), (3, { st := .running, q := { cmdEn := true, cmdLog := 4, head := 14, cplEn := true, cplLog := 4, cplTail := 15, cplHead := 1, wait := [bytes [1,2,3,4,5,6,7,8,9,10,11,12,13,14,15,16], []] } })], pcie := [(0, { up := true })] }
        let p : Nat := 3
        let q := (s.pkg.part p).q
        let c := bytes [1,2,3,4,5,6,7,8,9,10,11,12,13,14,15,16]
        let rest := [[]]
        decide (p < 16) && decide (s.pkg.fw.off = 0) && decide (q.cplEn = true) && decide (4 ≤ q.cplLog) && decide (q.cplLog ≤ 12) && decide ((s.pkg.pci (s.pkg.hostPort p)).up = true) && decide (q.wait = c :: rest) && decide ((q.cplTail + 1) % 2 ^ q.cplLog ≠ q.cplHead % 2 ^ q.cplLog))
      && (
        let s : State := S { on with parts := [(2, {}), (3, { st := .running, q := { cplEn := true, cplLog := 4, cplTail := 0, cplHead := 1, wait := [bytes [1,2,3,4,5,6,7,8,9,10,11,12,13,14,15,16], []] } })], pcie := [(0, { up := true })] }
        let p : Nat := 3
        let q := (s.pkg.part p).q
        let c := bytes [1,2,3,4,5,6,7,8,9,10,11,12,13,14,15,16]
        let rest := [[]]
        decide (p < 16) && decide (s.pkg.fw.off = 0) && decide (q.cplEn = true) && decide (4 ≤ q.cplLog) && decide (q.cplLog ≤ 12) && decide ((s.pkg.pci (s.pkg.hostPort p)).up = true) && decide (q.wait = c :: rest) && decide ((q.cplTail + 1) % 2 ^ q.cplLog = q.cplHead % 2 ^ q.cplLog))) = true := by decide +kernel

/-- The hypotheses of `CommandsByState` can be met. -/
theorem witness_CommandsByState :
      ((
        let d : DmaRes := DmaRes.ok []
        let p : Nat := 3
        (([(1, Instr.loadBegin p, [PState.empty]), (2, .dstoreWrite p d, [.loading]), (3, .dstoreRead p, [.loading, .ready, .holding, .faulted, .running, .checkpointing]), (4, .loadCommit p, [.loading]), (5, .launch p d, [.ready]),  (6, .stage p, [.running]), (0x10, .preempt p, [.running]), (7, .inputWrite p d, [.running, .checkpointing]), (8, .regionCreate p, [.loading, .ready, .running, .holding]), (9, .regionSeal p, [.loading, .ready, .running, .holding, .checkpointing, .faulted]), (0x0A, .regionUnseal p, [.loading, .ready, .running, .holding, .checkpointing, .faulted]), (0x0B, .regionDestroy p, [.loading, .ready, .running, .holding, .checkpointing, .faulted]),  (0x0C, .regionPin p, [.loading, .ready, .running, .holding]), (0x0D, .packetWrite p d, [.loading, .ready, .running, .holding, .checkpointing, .faulted]), (0x0E, .packetRead p, [.loading, .ready, .running, .holding, .checkpointing, .faulted]), (0x11, .restore p d, [.loading, .ready]), (0x12, .rollback p, [.ready, .running, .holding, .checkpointing, .faulted]), (0x13, .resume p, [.holding]), (0x14, .unload p, [.loading, .ready, .running, .holding, .checkpointing, .faulted])] : List (Nat × Instr × List PState))).all (fun c =>
          let p : Nat := 3
          let e : List Byte := ce c.1 77 []
          let s : State := S (qp 3 (if PState.empty ∈ c.2.2 then .running else .empty) e)
          let rest : List (List Byte) := [ce 0x30 9 []]
          decide (s.pkg.takes p c.1 e rest) && decide ((s.pkg.part p).st ∉ c.2.2)))) = true := by decide +kernel

/-- The hypotheses of `CommandsByState`, part `ReservedOpcodesComplete`, clauses 1, 2, 3, 4, 5, can be met. -/
theorem witness_ReservedOpcodesComplete :
      ((
        let e : List Byte := ce 5 6 []
        let s : Pkg := qp 3 .running e
        let p : Nat := 3
        let rest : List (List Byte) := [ce 0x30 9 []]
        decide ((s.part p).q.read = e :: rest) && decide (byteAt e 0 ∈ hostOps) && decide (s.cmdWaits p e = false))
      && (
        let e : List Byte := ce 4 6 []
        let s : Pkg := (qp 3 .loading e { clearing := [2] }).setQ 3 { read := [e, ce 0x30 9 [], ce 1 8 []] }
        let p : Nat := 3
        let rest : List (List Byte) := [ce 0x30 9 [], ce 1 8 []]
        decide ((s.part p).q.read = e :: rest) && decide (byteAt e 0 ∈ hostOps) && decide (s.cmdWaits p e = true))
      && (
        let s : Pkg := qp 3 .loading (ce 4 6 [])
        let p : Nat := 3
        let e : List Byte := ce 4 6 []
        let rest : List (List Byte) := [ce 0x30 9 []]
        let f := ce 0x30 9 []
        decide ((s.part p).q.read = e :: rest) && decide (byteAt f 0 ∉ hostOps))
      && (
        let e : List Byte := ce 0x30 6 []
        let rest : List (List Byte) := [ce 0x31 9 [], ce 5 8 [], ce 0x31 7 []]
        let s : Pkg := on.setPart 3 { q := { read := e :: rest, wait := [[]], gen := 0 } }
        let p : Nat := 3
        decide ((s.part p).q.read = e :: rest) && decide (byteAt e 0 ∉ hostOps))
      && (
        let e : List Byte := ce 0x30 6 []
        let rest : List (List Byte) := [ce 0x31 9 [], ce 5 8 [], ce 0x31 7 []]
        let s : Pkg := on.setPart 3 { q := { read := e :: rest, wait := [[]], gen := 0 } }
        let p : Nat := 3
        let id := 55
        decide ((s.part p).q.read = e :: rest) && decide (id / 2 ^ 32 = (s.part p).q.gen))) = true := by decide +kernel

/-- The hypotheses of `StoreCommands`, clauses 1, 4, 5, 6, 7, 8, 9, can be met. -/
theorem witness_StoreCommands :
      ((
        let e : List Byte := ce 2 77 [(24, 8, 0x1000), (32, 4, 128)]
        let s : State := S (qp 3 .loading e { q := { gen := 0 } })
        let p : Nat := 3
        let rest : List (List Byte) := [ce 0x30 9 []]
        let k := s.pkg.took p rest
        decide (s.pkg.takes p 2 e rest) && decide ((s.pkg.part p).st = .loading) && decide (k.dsOperand p e 64 0x40000000 = true))
      && (
        let e : List Byte := ce 2 77 [(24, 8, 0x1000), (32, 4, 65)]
        let s : State := S (qp 3 .loading e { q := { gen := 0 } })
        let p : Nat := 3
        let rest : List (List Byte) := [ce 0x30 9 []]
        let k := s.pkg.took p rest
        decide (s.pkg.takes p 2 e rest) && decide ((s.pkg.part p).st = .loading) && decide (k.dsOperand p e 64 0x40000000 = false))
      && (
        let e : List Byte := ce 3 77 [(24, 8, 0x1000), (32, 4, 128)]
        let s : State := S (qp 3 .loading e { q := { gen := 0 } })
        let p : Nat := 3
        let rest : List (List Byte) := [ce 0x30 9 []]
        let k := s.pkg.took p rest
        decide (s.pkg.takes p 3 e rest) && decide (k.dsOperand p e 64 0x40000000 = true) && decide ((s.pkg.part p).st ∈ [PState.loading, .ready, .holding, .faulted]))
      && (
        let e : List Byte := ce 3 77 [(24, 8, 0x1000), (32, 4, 128)]
        let s : State := S (qp 3 .running e { q := { gen := 0 } })
        let p : Nat := 3
        let rest : List (List Byte) := [ce 0x30 9 []]
        let k := s.pkg.took p rest
        decide (s.pkg.takes p 3 e rest) && decide (k.dsOperand p e 64 0x40000000 = true) && decide ((s.pkg.part p).st ∈ [PState.running, .checkpointing]))
      && (
        let e : List Byte := ce 7 77 [(24, 8, 0x1000), (32, 4, 101)]
        let s : State := S (qp 3 .running e { q := { gen := 0 } })
        let p : Nat := 3
        let rest : List (List Byte) := [ce 0x30 9 []]
        let k := s.pkg.took p rest
        decide (s.pkg.takes p 7 e rest) && decide ((s.pkg.part p).st ∈ [PState.running, .checkpointing]) && decide (k.dsOperand p e 1 65536 = true))
      && (
        let s : State := S on
        let d := 5
        decide (d < 48) && decide (s.pkg.fw.off = 0) && decide ((s.pkg.sdie d).clearing = false))
      && (
        let s : State := S { on with sdies := [(5, { clearing := true, lost := [4] })], dstore := [(5 * 0x80000000 + 3, 9), (6 * 0x80000000, 9)], cached := [(5 * 0x80000000 / 64, 3)], parts := [(1, { clearing := [4] })] }
        let d := 5
        decide (d < 48) && decide (s.pkg.fw.off = 0) && decide ((s.pkg.sdie d).clearing = true) && decide (∀ (q : Nat), q < 16 → d ∉ (s.pkg.part q).clearing))) = true := by decide +kernel

/-- The hypotheses of `StoreBytes`, clauses 1, 2, 3, 4, 5, can be met. -/
theorem witness_StoreBytes :
      ((
        let b : List Byte := bytes [1,2,0,4,5]
        let i := 2
        decide (i < b.length))
      && (
        let a : Nat := 0x1000
        let b : List Byte := bytes [1,2,0,4,5]
        let x := 0x1010
        decide (x < a ∨ a + b.length ≤ x))
      && (
        let k : Pkg := { on with dstore := [(0x1002, 9), (0x1010, 8)], cached := [(0x40, 3)] }
        decide (Memory.wf k.dstore = true))
      && (
        let e : List Byte := ce 2 77 [(24, 8, 0x1000), (32, 4, 128)]
        let s : State := S (qp 3 .loading e { q := { gen := 0 } })
        let p : Nat := 3
        let rest : List (List Byte) := [ce 0x30 9 []]
        let b : List Byte := List.replicate 128 7
        decide (s.pkg.takes p 2 e rest) && decide ((s.pkg.part p).st = .loading) && decide ((s.pkg.took p rest).dsOperand p e 64 0x40000000 = true) && decide (b.length = fld e 32 4))
      && (
        let s : State := S { on with sdies := [(5, { clearing := true, lost := [4] })], dstore := [(5 * 0x80000000 + 3, 9), (6 * 0x80000000, 9)], cached := [(5 * 0x80000000 / 64, 3)], parts := [(1, { clearing := [4] })] }
        let d : Nat := 5
        decide (d < 48) && decide (s.pkg.fw.off = 0) && decide ((s.pkg.sdie d).clearing = true) && decide (Memory.wf s.pkg.dstore = true))) = true := by decide +kernel

/-- The hypotheses of `RegionCommands`, clauses 1, 2, 3, 4, 5, 6, 7, 8, 9, 10, 11, 12, can be met. -/
theorem witness_RegionCommands_1 :
      ((
        let e : List Byte := ce 8 77 [(16, 4, 30), (20, 1, 2), (21, 1, 1)]
        let s : State := S (qp 3 .running e)
        let p : Nat := 3
        let rest : List (List Byte) := [ce 0x30 9 []]
        let st := (s.pkg.part p).st
        decide (s.pkg.takes p 8 e rest) && decide (st ∈ [PState.loading, .ready, .running, .holding]) && decide (fld e 16 4 ≠ 0) && decide (byteAt e 20 < 32) && decide (byteAt e 21 < 2) && decide (fmtOk (byteAt e 20 % 16) = true) && decide (scaledOk (byteAt e 20 % 16) (bit (byteAt e 20) 4) = true) && decide (fld e 16 4 * panOf (byteAt e 20 % 16) (bit (byteAt e 20) 4) ≤ 0x800000000))
      && (
        let p : Nat := 3
        (([(9, 5, Instr.regionSeal p, Pkg.sealNow), (0x0A, 6, .regionUnseal p, Pkg.unsealNow), (0x0B, 7, .regionDestroy p, Pkg.destroyNow)] : List (Nat × Nat × Instr × (Pkg → Nat → Nat → Nat → Pkg)))).all (fun c =>
          let p : Nat := 3
          let e : List Byte := ce c.1 77 [(16, 2, 7)]
          let s : State := S (qp 3 .running e)
          let rest : List (List Byte) := [ce 0x30 9 []]
          let st := (s.pkg.part p).st
          decide (s.pkg.takes p c.1 e rest) && decide (st ∈ [PState.running, .holding, .checkpointing])))
      && (
        let p : Nat := 3
        (([(9, 5, Instr.regionSeal p, Pkg.sealNow), (0x0A, 6, .regionUnseal p, Pkg.unsealNow), (0x0B, 7, .regionDestroy p, Pkg.destroyNow)] : List (Nat × Nat × Instr × (Pkg → Nat → Nat → Nat → Pkg)))).all (fun c =>
          let p : Nat := 3
          let e : List Byte := ce c.1 77 [(16, 2, 7)]
          let s : State := S (tiered (qp 3 .faulted e) { st := 2, part := 3, packets := 20, ext := [(0, 5)] })
          let rest : List (List Byte) := [ce 0x30 9 []]
          let k := s.pkg.took p rest
          let r := fld e 16 2
          let st := (s.pkg.part p).st
          decide (s.pkg.takes p c.1 e rest) && decide (st ∈ [PState.loading, .ready, .faulted]) && decide (k.regionMine p r = true)))
      && (
        let p : Nat := 3
        (([(9, 5, Instr.regionSeal p, Pkg.sealNow), (0x0A, 6, .regionUnseal p, Pkg.unsealNow), (0x0B, 7, .regionDestroy p, Pkg.destroyNow)] : List (Nat × Nat × Instr × (Pkg → Nat → Nat → Nat → Pkg)))).all (fun c =>
          let p : Nat := 3
          let e : List Byte := ce c.1 77 [(16, 2, 7)]
          let s : State := S (tiered (qp 3 .faulted e) { st := 2, part := 4, packets := 20, ext := [(0, 5)] })
          let rest : List (List Byte) := [ce 0x30 9 []]
          let k := s.pkg.took p rest
          let r := fld e 16 2
          let st := (s.pkg.part p).st
          decide (s.pkg.takes p c.1 e rest) && decide (st ∈ [PState.loading, .ready, .faulted]) && decide (k.regionMine p r = false)))
      && (
        let e : List Byte := ce 0x0A 77 [(16, 2, 7)]
        let s : State := S (tiered (qp 3 .faulted e) { st := 2, part := 3, packets := 20, ext := [(0, 5)] })
        let p : Nat := 3
        let rest : List (List Byte) := [ce 0x30 9 []]
        let k := s.pkg.took p rest
        let r := fld e 16 2
        let st := (s.pkg.part p).st
        decide (k.regionMine p r = true) && decide ((k.region r).st = 2) && decide (k.poolHolds r { k.region r with st := 3, toward := 1 } = true))
      && (
        let e : List Byte := ce 0x0A 77 [(16, 2, 7)]
        let s : State := S (tiered (qp 3 .faulted e) { st := 2, part := 3, packets := 20, ext := [(0, 5)] })
        let p : Nat := 3
        let rest : List (List Byte) := [ce 0x30 9 []]
        let k := s.pkg.took p rest
        let r := fld e 16 2
        decide (k.regionMine p r = true) && decide ((k.region r).st = 2) && decide ((k.region r).sealing = none))
      && (
        let e : List Byte := ce 0x0A 77 [(16, 2, 7)]
        let s : State := S (tiered (qp 3 .faulted e) { st := 1, part := 3, packets := 20, ext := [(0, 5)] })
        let p : Nat := 3
        let rest : List (List Byte) := [ce 0x30 9 []]
        let k := s.pkg.took p rest
        let r := fld e 16 2
        decide (k.regionMine p r = true) && decide ((k.region r).st = 1) && decide ((k.region r).hold = []) && decide ((k.region r).sealing = none))
      && (
        let e : List Byte := ce 0x0C 77 [(16, 2, 7)]
        let s : State := S (tiered (qp 3 .ready e) { st := 2, part := 3, packets := 20, pinned := true, ext := [(0, 5)] })
        let p : Nat := 3
        let rest : List (List Byte) := [ce 0x30 9 []]
        let k := s.pkg.took p rest
        let r := fld e 16 2
        let st := (s.pkg.part p).st
        decide (s.pkg.takes p 0x0C e rest) && decide (st ∈ [PState.loading, .ready, .running, .holding]) && decide (k.regionMine p r = true) && decide ((k.region r).st ≠ 3) && decide (byteAt e 18 = 0))
      && (
        let e : List Byte := ce 0x0C 77 [(16, 2, 7), (18, 1, 1)]
        let s : State := S (tiered (qp 3 .ready e) { st := 2, part := 3, packets := 20, ext := [(0, 5)] })
        let p : Nat := 3
        let rest : List (List Byte) := [ce 0x30 9 []]
        let k := s.pkg.took p rest
        let r := fld e 16 2
        let st := (s.pkg.part p).st
        decide (s.pkg.takes p 0x0C e rest) && decide (st ∈ [PState.loading, .ready, .running, .holding]) && decide (k.regionMine p r = true) && decide ((k.region r).st ≠ 3) && decide (byteAt e 18 = 1) && decide (k.poolHolds r { k.region r with pinned := true } = true))
      && (
        let e : List Byte := ce 0x0C 77 [(16, 2, 7), (18, 1, 1)]
        let s : State := S ((tiered (qp 3 .ready e) { st := 2, part := 3, packets := 20, borrowed := true, ext := (List.range 101).map fun i => (0, i) }).setEnt 0x4110 1 4000)
        let p : Nat := 3
        let rest : List (List Byte) := [ce 0x30 9 []]
        let k := s.pkg.took p rest
        let r := fld e 16 2
        let st := (s.pkg.part p).st
        decide (s.pkg.takes p 0x0C e rest) && decide (st ∈ [PState.loading, .ready, .running, .holding]) && decide (k.regionMine p r = true) && decide ((k.region r).st ≠ 3) && decide (byteAt e 18 = 1) && decide (k.poolHolds r { k.region r with pinned := true } = false))
      && (
        let e : List Byte := ce 0x0D 77 [(16, 2, 7), (20, 4, 18), (24, 4, 2)]
        let s : State := S (tiered (qp 3 .ready e) { st := 1, part := 3, packets := 20, fmt := 2, ext := [(0, 5)] })
        let p : Nat := 3
        let rest : List (List Byte) := [ce 0x30 9 []]
        let k := s.pkg.took p rest
        let r := fld e 16 2
        let st := (s.pkg.part p).st
        let b := List.replicate (2 * panOf 2 false) 7
        decide (s.pkg.takes p 0x0D e rest) && decide (st ≠ .empty) && decide (k.regionMine p r = true) && decide ((k.region r).st = 1) && decide ((k.region r).sealing = none) && decide (fld e 20 4 + fld e 24 4 ≤ (k.region r).packets) && decide (b.length = fld e 24 4 * (k.region r).P))
      && (
        let e : List Byte := ce 0x0E 77 [(16, 2, 7), (20, 4, 18), (24, 4, 2)]
        let s : State := S (tiered (qp 3 .ready e) { st := 2, part := 3, packets := 20, fmt := 2, ext := [(0, 5)] })
        let p : Nat := 3
        let rest : List (List Byte) := [ce 0x30 9 []]
        let k := s.pkg.took p rest
        let r := fld e 16 2
        let st := (s.pkg.part p).st
        decide (s.pkg.takes p 0x0E e rest) && decide (st ≠ .empty) && decide (r < 1024) && decide ((k.region r).st = 2) && decide ((k.region r).part = p) && decide (fld e 20 4 + fld e 24 4 ≤ (k.region r).packets) && decide (0 < fld e 24 4))) = true := by decide +kernel

/-- The hypotheses of `RegionCommands`, clauses 13, 14, can be met. -/
theorem witness_RegionCommands_2 :
      ((
        let id := 5
        let j := { id := 5, use := .update, region := 7, want := [2] }
        let s : State := S (let k := tiered on { st := 2, part := 3, packets := 20, fmt := 2, ext := [(0, 5)] }; { k with tier := { k.tier with jobs := [j] } })
        decide (s.pkg.fw.off = 0) && decide (s.pkg.job id = some j) && decide ((match j.use with | .restore _ _ => false | _ => true) = true))
      && (
        let id := 5
        let j := { id := 5, use := .restore 3 4, region := 7, want := [2] }
        let s : State := S (let k := tiered on { st := 2, part := 3, packets := 20, fmt := 2, ext := [(0, 5)] }; { k with tier := { k.tier with jobs := [j] } })
        let q := 3
        let i := 4
        decide (s.pkg.fw.off = 0) && decide (s.pkg.job id = some j) && decide (j.use = .restore q i))) = true := by decide +kernel

/-- The hypotheses of `RegionCommands`, part `RegionCreation`, clauses 1, 2, 3, 4, can be met. -/
theorem witness_RegionCreation :
      ((
        let s : Pkg := tiered on { st := 2, part := 4, packets := 20, ext := [(0, 5)] }
        let fmt := 2
        let c : TCreate := { part := 4, packets := 30, fmt := 2 }
        let d : TCreate := { part := 2, packets := 30, fmt := 2 }
        decide (s.tier.asked = []) && decide (d.part < c.part))
      && (
        let s : Pkg := (tiered on { st := 2, part := 4, packets := 20, ext := [(0, 5)] }).setEnt 0x4113 1 50
        let p : Nat := 3
        let n : Nat := 30
        let fmt : Nat := 2
        let r : Nat := 0
        let scaled : Bool := false
        let e := extentsOf fmt scaled n
        decide (s.partExtents p (fun _ => true) + e ≤ s.ent (0x4110 + p) 1) && decide (s.tier.creating = []) && decide (e ≤ s.extentsFree) && decide (s.freeRegion = some r))
      && (
        let s : Pkg := on
        let p : Nat := 3
        let n : Nat := 30
        let fmt : Nat := 2
        let scaled : Bool := false
        let e := extentsOf fmt scaled n
        decide (s.ent (0x4110 + p) 1 < s.partExtents p (fun _ => true) + e) && decide (∀ x ∈ s.tier.regions, x.2.evictable = false) && decide (s.extentsFree < e) && decide (p < 16))
      && (
        let s : Pkg := (tiered on { st := 2, part := 4, packets := 20, ext := [(0, 5)] })
        let r : Nat := 7
        decide (s.regionRefs r = 0))) = true := by decide +kernel

/-- The hypotheses of `LoadBeginComposes`, clauses 1, 8, 9, 13, 17, can be met. -/
theorem witness_LoadBeginComposes :
      ((
        let e : List Byte := ce 1 77 []
        let q := 4
        let s : State := S (((on.setPart 3 { q := { read := [e, ce 0x30 9 []] } }).setEnt 0x2003 2 6).setEnt 0x2003 3 20 |>.setEnt 0x2003 5 0)
        let p : Nat := 3
        let rest : List (List Byte) := [ce 0x30 9 []]
        let k := s.pkg.took p rest
        let c := 6
        decide (s.pkg.takes p 1 e rest) && decide ((s.pkg.part p).st = .empty) && decide (k.beginRefusal p = some c))
      && (
        let e : List Byte := ce 1 77 []
        let q := 4
        let s : State := S (((on.setPart 3 { q := { read := [e, ce 0x30 9 []] } }).setEnt 0x2003 2 6).setEnt 0x2003 3 20 |>.setEnt 0x2003 5 9)
        let p : Nat := 3
        let rest : List (List Byte) := [ce 0x30 9 []]
        let k := s.pkg.took p rest
        let d := 2
        decide (s.pkg.takes p 1 e rest) && decide ((s.pkg.part p).st = .empty) && decide (k.beginRefusal p = none) && decide (d ∈ k.namedDies p))
      && (
        let e : List Byte := ce 1 77 []
        let q := 4
        let s : State := S (((on.setPart 3 { q := { read := [e, ce 0x30 9 []] } }).setEnt 0x2003 2 6).setEnt 0x2003 3 20 |>.setEnt 0x2003 5 9)
        let p : Nat := 3
        let rest : List (List Byte) := [ce 0x30 9 []]
        let k := s.pkg.took p rest
        decide (s.pkg.takes p 1 e rest) && decide ((s.pkg.part p).st = .empty) && decide (k.beginRefusal p = none) && decide (q ≠ p))
      && (
        let e : List Byte := ce 1 77 []
        let q := 4
        let s : State := S ((((on.setPart 3 { q := { read := [e, ce 0x30 9 []] } }).setPart 4 { st := .ready }).setEnt 0x2003 2 6).setEnt 0x2003 3 20 |>.setEnt 0x2003 5 9)
        let p : Nat := 3
        let rest : List (List Byte) := [ce 0x30 9 []]
        let k := s.pkg.took p rest
        decide (q ∈ k.partsLive))
      && (
        let q := 4
        let s : State := S { on with sdies := [(2, { clearing := true, lost := [3] })], parts := [(3, { clearing := [2], clearCmd := some (77, 1), q := { read := [], gen := 0 } })] }
        let p : Nat := 3
        let d := 2
        let c := 77
        decide (p < 16) && decide (d < 48) && decide (s.pkg.fw.off = 0) && decide ((s.pkg.sdie d).clearing = true) && decide ((s.pkg.part p).clearing = [d]) && decide ((s.pkg.part p).clearCmd = some (c, 1)) && decide (∀ (q : Nat), q < 16 → q ≠ p → d ∉ (s.pkg.part q).clearing))) = true := by decide +kernel

/-- The hypotheses of `LoadCommitMakesReady`, clauses 1, 2, can be met. -/
theorem witness_LoadCommitMakesReady :
      ((
        let e : List Byte := ce 4 77 [(16, 8, 0x80001000)]
        let s : State := S (withImg (dn (qp 3 .loading e)))
        let p : Nat := 3
        let rest : List (List Byte) := [ce 0x30 9 []]
        let k := s.pkg.took p rest
        let a := fld e 16 8
        decide (s.pkg.takes p 4 e rest) && decide ((s.pkg.part p).st = .loading) && decide ((s.pkg.part p).clearing = []) && decide ((s.pkg.part p).rst = none) && decide (k.ownRange p a 256 = false))
      && (
        let e : List Byte := ce 4 77 [(16, 8, 0x1000)]
        let s : State := S (dn (qp 3 .loading e))
        let p : Nat := 3
        let rest : List (List Byte) := [ce 0x30 9 []]
        let k := s.pkg.took p rest
        let a := fld e 16 8
        let c := 1
        decide (s.pkg.takes p 4 e rest) && decide ((s.pkg.part p).st = .loading) && decide ((s.pkg.part p).clearing = []) && decide ((s.pkg.part p).rst = none) && decide (k.ownRange p a 256 = true) && decide (k.imageRefusal p a = some c))) = true := by decide +kernel

/-- The hypotheses of `LaunchAndRestore`, clauses 1, 2, 3, 4, 6, 7, 8, can be met. -/
theorem witness_LaunchAndRestore :
      ((
        let e : List Byte := ce 5 77 []
        let s : State := S (qp 3 .ready e { mem := { state := 1 } })
        let p : Nat := 3
        let rest : List (List Byte) := [ce 0x30 9 []]
        let k := s.pkg.took p rest
        let x := k.part p
        decide ((s.pkg.part p).rst = none) && decide (s.pkg.takes p 5 e rest) && decide (x.st = .ready) && decide (x.mem.state ≠ 0))
      && (
        let e : List Byte := ce 5 77 []
        let s : State := S { qp 3 .ready e with tempo := { st := .locked, now := 4000000 } }
        let p : Nat := 3
        let rest : List (List Byte) := [ce 0x30 9 []]
        let k := s.pkg.took p rest
        let x := k.part p
        let r := put lrec 63 1 1
        decide ((s.pkg.part p).rst = none) && decide (s.pkg.takes p 5 e rest) && decide (x.st = .ready) && decide (x.mem.state = 0) && decide (r.length = 64) && decide (zeroAt r 34 2 = false ∨ zeroAt r 40 24 = false))
      && (
        let e : List Byte := ce 5 77 []
        let s : State := S { qp 3 .ready e with tempo := { st := .locked, now := 4000001 } }
        let p : Nat := 3
        let rest : List (List Byte) := [ce 0x30 9 []]
        let k := s.pkg.took p rest
        let x := k.part p
        let r := lrec
        decide ((s.pkg.part p).rst = none) && decide (s.pkg.takes p 5 e rest) && decide (x.st = .ready) && decide (x.mem.state = 0) && decide (r.length = 64) && decide (zeroAt r 34 2 = true) && decide (zeroAt r 40 24 = true) && decide (k.launchOk p r = false))
      && (
        let e : List Byte := ce 5 77 []
        let s : State := S { qp 3 .ready e { img := { fUs := 1000, w := 1600, b := 40000, cap := 40, members := [0] } } with tempo := { st := .locked, now := 4000000 } }
        let p : Nat := 3
        let rest : List (List Byte) := [ce 0x30 9 []]
        let k := s.pkg.took p rest
        let x := k.part p
        let r := lrec
        decide ((s.pkg.part p).rst = none) && decide (s.pkg.takes p 5 e rest) && decide (x.st = .ready) && decide (x.mem.state = 0) && decide (r.length = 64) && decide (zeroAt r 34 2 = true) && decide (zeroAt r 40 24 = true) && decide (k.launchOk p r = true))
      && (
        let e : List Byte := ce 0x11 77 [(16, 8, 0xFFFFFFFFFFFFFFFF)]
        let s : State := S (qp 3 .ready e)
        let p : Nat := 3
        let rest : List (List Byte) := [ce 0x30 9 []]
        let k := s.pkg.took p rest
        let x := k.part p
        let rs := ((List.range 4).map (fun i => fld e (16 + 2 * i) 2)).filter (· ≠ 0xFFFF)
        decide ((s.pkg.part p).rst = none) && decide (s.pkg.takes p 0x11 e rest) && decide (x.clearing = []) && decide (x.st = .loading ∨ x.st = .ready) && decide (rs = []))
      && (
        let e : List Byte := ce 0x11 77 [(16, 8, 0xFFFFFFFFFFFF0007)]
        let s : State := S (qp 3 .ready e)
        let p : Nat := 3
        let rest : List (List Byte) := [ce 0x30 9 []]
        let k := s.pkg.took p rest
        let x := k.part p
        let rs := ((List.range 4).map (fun i => fld e (16 + 2 * i) 2)).filter (· ≠ 0xFFFF)
        decide ((s.pkg.part p).rst = none) && decide (s.pkg.takes p 0x11 e rest) && decide (x.clearing = []) && decide (x.st = .loading ∨ x.st = .ready) && decide (rs ≠ []) && decide (fld e 32 4 = 0) && decide (∃ r ∈ rs, 1024 ≤ r ∨ (k.region r).st ≠ 2 ∨ (k.region r).part ≠ p))
      && (
        let e : List Byte := ce 0x11 77 [(16, 8, 0xFFFFFFFFFFFF0007)]
        let s : State := S (let k := qp 3 .ready e; { k with tier := { k.tier with regions := [(7, { st := 2, part := 3, packets := 20, fmt := 2, ext := [(0, 5)] })], groups := [(0, { formed := true, gib := 1 })] } })
        let p : Nat := 3
        let rest : List (List Byte) := [ce 0x30 9 []]
        let k := s.pkg.took p rest
        let x := k.part p
        let rs := ((List.range 4).map (fun i => fld e (16 + 2 * i) 2)).filter (· ≠ 0xFFFF)
        decide ((s.pkg.part p).rst = none) && decide (s.pkg.takes p 0x11 e rest) && decide (x.clearing = []) && decide (x.st = .loading ∨ x.st = .ready) && decide (rs ≠ []) && decide (fld e 32 4 = 0) && decide (∀ r ∈ rs, r < 1024 ∧ (k.region r).st = 2 ∧ (k.region r).part = p))) = true := by decide +kernel

/-- The hypotheses of `LaunchAndRestore`, part `ResumeRollbackUnload`, clauses 1, 2, 3, 4, 5, 6, 7, 8, can be met. -/
theorem witness_ResumeRollbackUnload :
      ((
        let e : List Byte := ce 0x13 77 []
        let s : State := S (qp 3 .holding e { holdCause := 5 })
        let p : Nat := 3
        let rest : List (List Byte) := [ce 0x30 9 []]
        let k := s.pkg.took p rest
        let x := k.part p
        decide (s.pkg.takes p 0x13 e rest) && decide (x.st = .holding) && decide (x.holdCause ≠ 0x0102))
      && (
        let e : List Byte := ce 0x13 77 []
        let s : State := S (qp 3 .holding e { holdCause := 0x102, cap := some { bytes := [1], step := 2 }, mem := { state := 3 } })
        let p : Nat := 3
        let rest : List (List Byte) := [ce 0x30 9 []]
        let k := s.pkg.took p rest
        let x := k.part p
        let c := { bytes := [1], step := 2 }
        decide (s.pkg.takes p 0x13 e rest) && decide (x.st = .holding) && decide (x.holdCause = 0x0102) && decide (x.cap = some c))
      && (
        let e : List Byte := ce 0x13 77 []
        let s : State := S (qp 3 .holding e { holdCause := 0x102, mem := { awaiting := some (3, 5), state := 3 } })
        let p : Nat := 3
        let rest : List (List Byte) := [ce 0x30 9 []]
        let k := s.pkg.took p rest
        let x := k.part p
        decide (s.pkg.takes p 0x13 e rest) && decide (x.st = .holding) && decide (x.holdCause = 0x0102) && decide (x.cap = none))
      && (
        let e : List Byte := ce 0x12 77 []
        let s : State := S { qp 3 .faulted e { dies := [1] } with fault := { noAssign := [1] } }
        let p : Nat := 3
        let rest : List (List Byte) := [ce 0x30 9 []]
        let k := s.pkg.took p rest
        let x := k.part p
        decide (s.pkg.takes p 0x12 e rest) && decide (x.st ∈ [PState.ready, .running, .holding, .checkpointing, .faulted]) && decide (x.st = .faulted) && decide (∃ d ∈ x.dies, d ∈ k.fault.noAssign))
      && (
        ([[], [ce 0x0D 9 [(16, 2, 7)]]]).all (fun pre =>
          let behind := [ce 0x30 9 []]
          let e : List Byte := ce 0x12 77 []
          let s : State := S { (let k := qp 3 .running e { rank := 4, harts := [16], dies := [2] }; k.setQ 3 { (k.part 3).q with read := pre ++ e :: behind }) with fault := { noAssign := [1] }, tier := { regions := [(7, { part := 3, st := 3 })] }, tiles := [(5, { part := 4, mode := .running })] }
          let p : Nat := 3
          let rest : List (List Byte) := pre ++ behind
          let k := s.pkg.took p rest
          let x := k.part p
          decide (s.pkg.takes p 0x12 e rest) && decide (x.st ∈ [PState.ready, .running, .holding, .checkpointing, .faulted]) && decide (x.st ≠ .faulted ∨ (∀ d ∈ x.dies, d ∉ k.fault.noAssign)) && decide (s.pkg.nextCmd p [] (s.pkg.part p).q.read = some (pre, e, behind))))
      && (
        let e : List Byte := ce 0x14 77 []
        let s : State := S { qp 3 .running e { rank := 4, harts := [16] } with fault := { noAssign := [1] }, tiles := [(5, { part := 4, mode := .running })] }
        let p : Nat := 3
        let rest : List (List Byte) := [ce 0x30 9 []]
        let k := s.pkg.took p rest
        let x := k.part p
        decide (s.pkg.takes p 0x14 e rest) && decide (x.st ≠ .empty))
      && (
        let s : State := S { on with tiles := [(5, { part := 4, mode := .running }), (6, { part := 2 })] }
        let p : Nat := 3
        let t := 6
        decide ((s.pkg.tile t).part ≠ p + 1))
      && (
        let s : State := S { on with tiles := [(5, { part := 4, mode := .running, units := 4 }), (6, { part := 2 })] }
        let p : Nat := 3
        let t := 5
        decide ((s.pkg.tile t).part = p + 1))) = true := by decide +kernel

/-- The hypotheses of `LaunchAndRestore`, part `FiveCommandsComplete`, clauses 1, 2, 3, 4, 5, can be met. -/
theorem witness_FiveCommandsComplete :
      ((
        let e : List Byte := ce 5 77 []
        let s : State := S (one .ready e { img := { fUs := 1000, w := 1600, b := 40000, cap := 40, members := [0] } })
        let p : Nat := 3
        let x := s.pkg.part p
        let r := lrec
        decide (p < 16) && decide (s.pkg.fw.off = 0) && decide (s.pkg.fw.loadable = true) && decide (s.pkg.fw.up = true) && decide ((s.pkg.part p).q.read = [e]) && decide (byteAt e 1 ≤ 1) && decide (zeroAt e 2 2 = true) && decide (byteAt e 0 = 5) && decide (x.st = .ready) && decide (x.rst = none) && decide (x.mem.state = 0) && decide (r.length = 64) && decide (zeroAt r 34 2 = true) && decide (zeroAt r 40 24 = true) && decide (s.pkg.tempo.st = .locked ∨ s.pkg.tempo.st = .holdover) && decide (s.pkg.tempo.role = .standalone → x.img.members.length = 1) && decide (s.pkg.tempo.now + 1000000 ≤ fld r 0 8) && decide (fld r 8 8 = x.startFrame) && decide (fld r 16 4 = x.img.fUs) && decide (fld r 20 4 = x.img.w) && decide (fld r 24 8 = x.img.b) && decide (byteAt r 32 = x.img.cap) && decide (byteAt r 33 = b2n (bit x.img.flags 0)))
      && (
        let e : List Byte := ce 0x11 77 [(16, 8, 0xFFFFFFFFFFFF0007)]
        let s : State := S (let k := one .loading e; { k with tier := { k.tier with regions := [(7, { st := 2, part := 3, packets := 20, fmt := 2, ext := [(0, 5)] })], groups := [(0, { formed := true, gib := 1 })] } })
        let p : Nat := 3
        let x := s.pkg.part p
        let rs := ((List.range 4).map (fun i => fld e (16 + 2 * i) 2)).filter (· ≠ 0xFFFF)
        decide (p < 16) && decide (s.pkg.fw.off = 0) && decide (s.pkg.fw.loadable = true) && decide (s.pkg.fw.up = true) && decide ((s.pkg.part p).q.read = [e]) && decide (byteAt e 1 ≤ 1) && decide (zeroAt e 2 2 = true) && decide (byteAt e 0 = 0x11) && decide (x.st = .loading) && decide (x.clearing = []) && decide (x.rst = none) && decide (fld e 32 4 = 0) && decide (rs ≠ []) && decide (∀ r ∈ rs, r < 1024 ∧ (s.pkg.region r).st = 2 ∧ (s.pkg.region r).part = p))
      && (
        let e : List Byte := ce 0x13 77 []
        let s : State := S (one .holding e { holdCause := 0x102, mem := { awaiting := some (3, 5), state := 3 } })
        let p : Nat := 3
        let x := s.pkg.part p
        decide (p < 16) && decide (s.pkg.fw.off = 0) && decide (s.pkg.fw.loadable = true) && decide (s.pkg.fw.up = true) && decide ((s.pkg.part p).q.read = [e]) && decide (byteAt e 1 ≤ 1) && decide (zeroAt e 2 2 = true) && decide (byteAt e 0 = 0x13) && decide (x.st = .holding) && decide (x.holdCause = 0x0102) && decide (x.cap = none))
      && (
        let e : List Byte := ce 0x12 77 []
        let s : State := S (one .running e { dies := [2], harts := [16] })
        let p : Nat := 3
        let x := s.pkg.part p
        decide (p < 16) && decide (s.pkg.fw.off = 0) && decide (s.pkg.fw.loadable = true) && decide (s.pkg.fw.up = true) && decide ((s.pkg.part p).q.read = [e]) && decide (byteAt e 1 ≤ 1) && decide (zeroAt e 2 2 = true) && decide (byteAt e 0 = 0x12) && decide (x.st ∈ [PState.ready, .running, .holding, .checkpointing]))
      && (
        let e : List Byte := ce 0x14 77 []
        let s : State := S (one .checkpointing e { dies := [2], harts := [16] })
        let p : Nat := 3
        let x := s.pkg.part p
        decide (p < 16) && decide (s.pkg.fw.off = 0) && decide (s.pkg.fw.loadable = true) && decide (s.pkg.fw.up = true) && decide ((s.pkg.part p).q.read = [e]) && decide (byteAt e 1 ≤ 1) && decide (zeroAt e 2 2 = true) && decide (byteAt e 0 = 0x14) && decide (x.st ≠ .empty))) = true := by decide +kernel

/-- The hypotheses of `ChangesAreStaged`, clauses 1, 2, 3, 4, 5, 6, 7, can be met. -/
theorem witness_ChangesAreStaged :
      ((
        let e : List Byte := ce 6 77 (chg 1 12)
        let s : State := S { qp 3 .running e { mem := { n := 10, state := 2 } } with tempo := { st := .locked } }
        let p : Nat := 3
        let rest : List (List Byte) := [ce 0x30 9 []]
        let k := s.pkg.took p rest
        let b := Sys2Proof.slice e 16 32
        let x := k.part p
        let form : Bool := decide (byteAt b 0 ∈ changeKinds ∧ byteAt b 1 ≤ 3 ∧ zeroAt b 2 2 = true ∧ (byteAt b 0 = 0x10 → zeroAt b 18 2 = true))
        let good : Bool := decide ((s.pkg.tempo.st = .locked ∨ s.pkg.tempo.st = .holdover) ∧ x.mem.n + 2 ≤ fld b 8 8 ∧ Tab.get none x.mem.slots (byteAt b 1) = none ∧ (∀ c ∈ x.mem.pendingChanges ++ x.mem.applying, c.kind ≠ byteAt b 0 ∨ c.frame ≠ fld b 8 8) ∧ (byteAt b 0 = 0x10 → ∀ r ∈ stopRegions b, r ∉ x.locked))
        decide ((s.pkg.part p).st = .running) && decide (s.pkg.takes p 6 e rest) && decide (form) && decide (good) && decide (byteAt b 0 ≠ 0x10))
      && (
        let e : List Byte := ce 6 77 (chg 0x10 12)
        let s : State := S { qp 3 .running e { mem := { n := 10, state := 2 } } with tempo := { st := .locked } }
        let p : Nat := 3
        let rest : List (List Byte) := [ce 0x30 9 []]
        let k := s.pkg.took p rest
        let b := Sys2Proof.slice e 16 32
        let x := k.part p
        let form : Bool := decide (byteAt b 0 ∈ changeKinds ∧ byteAt b 1 ≤ 3 ∧ zeroAt b 2 2 = true ∧ (byteAt b 0 = 0x10 → zeroAt b 18 2 = true))
        let good : Bool := decide ((s.pkg.tempo.st = .locked ∨ s.pkg.tempo.st = .holdover) ∧ x.mem.n + 2 ≤ fld b 8 8 ∧ Tab.get none x.mem.slots (byteAt b 1) = none ∧ (∀ c ∈ x.mem.pendingChanges ++ x.mem.applying, c.kind ≠ byteAt b 0 ∨ c.frame ≠ fld b 8 8) ∧ (byteAt b 0 = 0x10 → ∀ r ∈ stopRegions b, r ∉ x.locked))
        decide ((s.pkg.part p).st = .running) && decide (s.pkg.takes p 6 e rest) && decide (form) && decide (good) && decide (byteAt b 0 = 0x10))
      && (
        let e : List Byte := ce 6 77 (chg 0x77 12)
        let s : State := S { qp 3 .running e { mem := { n := 10, state := 2 } } with tempo := { st := .locked } }
        let p : Nat := 3
        let rest : List (List Byte) := [ce 0x30 9 []]
        let b := Sys2Proof.slice e 16 32
        let form : Bool := decide (byteAt b 0 ∈ changeKinds ∧ byteAt b 1 ≤ 3 ∧ zeroAt b 2 2 = true ∧ (byteAt b 0 = 0x10 → zeroAt b 18 2 = true))
        decide ((s.pkg.part p).st = .running) && decide (s.pkg.takes p 6 e rest) && decide (¬ form))
      && (
        let e : List Byte := ce 6 77 (chg 1 11)
        let s : State := S { qp 3 .running e { mem := { n := 10, state := 2 } } with tempo := { st := .locked } }
        let p : Nat := 3
        let rest : List (List Byte) := [ce 0x30 9 []]
        let k := s.pkg.took p rest
        let b := Sys2Proof.slice e 16 32
        let x := k.part p
        let form : Bool := decide (byteAt b 0 ∈ changeKinds ∧ byteAt b 1 ≤ 3 ∧ zeroAt b 2 2 = true ∧ (byteAt b 0 = 0x10 → zeroAt b 18 2 = true))
        let good : Bool := decide ((s.pkg.tempo.st = .locked ∨ s.pkg.tempo.st = .holdover) ∧ x.mem.n + 2 ≤ fld b 8 8 ∧ Tab.get none x.mem.slots (byteAt b 1) = none ∧ (∀ c ∈ x.mem.pendingChanges ++ x.mem.applying, c.kind ≠ byteAt b 0 ∨ c.frame ≠ fld b 8 8) ∧ (byteAt b 0 = 0x10 → ∀ r ∈ stopRegions b, r ∉ x.locked))
        decide ((s.pkg.part p).st = .running) && decide (s.pkg.takes p 6 e rest) && decide (form) && decide (¬ good))
      && (
        let e : List Byte := ce 0x10 77 (chg 1 11)
        let s : State := S { qp 3 .running e { mem := { n := 10, state := 2 } } with tempo := { st := .locked } }
        let p : Nat := 3
        let rest : List (List Byte) := [ce 0x30 9 []]
        decide ((s.pkg.part p).st = .running) && decide (s.pkg.takes p 0x10 e rest) && decide (s.pkg.ent (0x2000 + p) 6 = 0))
      && (
        let e : List Byte := ce 0x10 77 (chg 1 12)
        let s : State := S ({ qp 3 .running e { mem := { n := 10, state := 2 } } with tempo := { st := .locked } }.setEnt 0x2003 6 1)
        let p : Nat := 3
        let rest : List (List Byte) := [ce 0x30 9 []]
        let b := Sys2Proof.slice e 16 32
        decide ((s.pkg.part p).st = .running) && decide (s.pkg.takes p 0x10 e rest) && decide (s.pkg.ent (0x2000 + p) 6 ≠ 0) && decide (byteAt b 0 ≠ 0x10))
      && (
        let e : List Byte := ce 0x10 77 (chg 0x10 12)
        let s : State := S ({ qp 3 .running e { mem := { n := 10, state := 2 } } with tempo := { st := .locked } }.setEnt 0x2003 6 1)
        let p : Nat := 3
        let rest : List (List Byte) := [ce 0x30 9 []]
        let k := s.pkg.took p rest
        let b := Sys2Proof.slice e 16 32
        let x := k.part p
        let form : Bool := decide (byteAt b 0 ∈ changeKinds ∧ byteAt b 1 ≤ 3 ∧ zeroAt b 2 2 = true ∧ (byteAt b 0 = 0x10 → zeroAt b 18 2 = true))
        let good : Bool := decide ((s.pkg.tempo.st = .locked ∨ s.pkg.tempo.st = .holdover) ∧ x.mem.n + 2 ≤ fld b 8 8 ∧ Tab.get none x.mem.slots (byteAt b 1) = none ∧ (∀ c ∈ x.mem.pendingChanges ++ x.mem.applying, c.kind ≠ byteAt b 0 ∨ c.frame ≠ fld b 8 8) ∧ (byteAt b 0 = 0x10 → ∀ r ∈ stopRegions b, r ∉ x.locked))
        decide ((s.pkg.part p).st = .running) && decide (s.pkg.takes p 0x10 e rest) && decide (s.pkg.ent (0x2000 + p) 6 ≠ 0) && decide (byteAt b 0 = 0x10) && decide (form) && decide (good))) = true := by decide +kernel

/-- The hypotheses of `CheckpointCapture`, clauses 1, 2, 3, 4, 5, 6, 7, 8, 9, 14, 15, 16, can be met. -/
theorem witness_CheckpointCapture :
      ((
        let c : Capture := { bytes := stopB 1, step := 1, since := 60000000 }
        let s : State := capS c
        let p : Nat := 3
        let x := s.pkg.part p
        decide (p < 16) && decide (s.pkg.fw.off = 0) && decide (x.cap = some c) && decide (c.step = 1) && decide (s.pkg.cutDrained p = true))
      && (
        let c : Capture := { bytes := stopB 1, step := 1, since := 60000000 }
        let s : State := S { (capS c).pkg with solveWait := [{ part := 3 }] }
        let p : Nat := 3
        let x := s.pkg.part p
        decide (p < 16) && decide (s.pkg.fw.off = 0) && decide (x.cap = some c) && decide (s.pkg.cutDrained p = false))
      && (
        let c : Capture := { bytes := stopB 1, step := 2, since := 60000000, dataPos := 5 }
        let r := (natLe 8 12 ++ natLe 8 12 ++ natLe 8 0 ++ natLe 1 15 ++ natLe 7 0 ++ natLe 64 0)
        let s : State := capS c { combined := some r }
        let p : Nat := 3
        let x := s.pkg.part p
        decide (p < 16) && decide (s.pkg.fw.off = 0) && decide (x.cap = some c) && decide (c.step = 2) && decide (x.mem.combined ≠ none) && decide (x.st = .checkpointing) && decide (s.pkg.recoveryHolds p = false))
      && (
        let c : Capture := { bytes := stopB 1, step := 2, since := 60000000 }
        let r := []
        let s : State := capS c { combined := some r }
        let p : Nat := 3
        let x := s.pkg.part p
        let N := fld c.bytes 8 8
        let n := 13
        decide (p < 16) && decide (s.pkg.fw.off = 0) && decide (x.cap = some c) && decide (x.mem.combined = none ∨ n ≠ N ∨ s.pkg.recoveryHolds p = true))
      && (
        let c : Capture := { bytes := stopB 1, step := 3, since := 60000000, stream := bytes [1,2,3] }
        let s : State := capS c
        let p : Nat := 3
        let x := s.pkg.part p
        decide (p < 16) && decide (s.pkg.fw.off = 0) && decide (x.cap = some c) && decide (c.step = 3) && decide (∀ r ∈ stopRegions c.bytes, s.pkg.writesDone r = true))
      && (
        let c : Capture := { bytes := stopB 1, step := 1, begun := 60000000 }
        let s : State := S ({ (capS c).pkg with tempo := { now := 60000000 + 1000000 * (capS c).pkg.ent 0x8003 9 } })
        let p : Nat := 3
        let x := s.pkg.part p
        decide (p < 16) && decide (s.pkg.fw.off = 0) && decide (x.cap = some c) && decide (s.pkg.tempo.now ≤ c.begun + s.pkg.ent (0x8000 + p) 9 * 1000000))
      && (
        let c : Capture := { bytes := stopB 1, step := 1, begun := 60000000 }
        let s : State := S ({ (capS c).pkg with tempo := { now := 60000001 + 1000000 * (capS c).pkg.ent 0x8003 9 } })
        let p : Nat := 3
        let x := s.pkg.part p
        decide (p < 16) && decide (s.pkg.fw.off = 0) && decide (x.cap = some c) && decide (c.begun + s.pkg.ent (0x8000 + p) 9 * 1000000 < s.pkg.tempo.now))
      && (
        ([{ id := 7, deadline := 100, ended := 120 }, { id := 7, deadline := 100, ended := 120, recovery := 3 }]).all (fun l =>
          let more := [{ id := 9 }]
          let s : State := S { on with parts := [(3, { lateCaps := l :: more })] }
          let p : Nat := 3
          let x := s.pkg.part p
          decide (p < 16) && decide (s.pkg.fw.off = 0) && decide (x.lateCaps = l :: more)))
      && (
        let s : State := S on
        let p : Nat := 3
        let x := s.pkg.part p
        decide (p < 16) && decide (s.pkg.fw.off = 0) && decide (x.lateCaps = []) && decide (x.cap = none))
      && (
        let y := { prevails := 1, level := 2, cause := 2^32, start := 7, stop := some 50 }
        let s : State := S { on with parts := [(3, { yields := [y] })], tempo := { now := 1000000007 } }
        let p : Nat := 3
        let x := s.pkg.part p
        let z := 50
        decide (p < 16) && decide (s.pkg.fw.off = 0) && decide (x.yields = [y]) && decide (y.told = false) && decide (y.stop = some z))
      && (
        let y := { prevails := 1, level := 2, cause := 2^32, start := 7 }
        let s : State := S { on with parts := [(3, { yields := [y] })], tempo := { now := 1000000007 } }
        let p : Nat := 3
        let x := s.pkg.part p
        decide (p < 16) && decide (s.pkg.fw.off = 0) && decide (x.yields = [y]) && decide (y.told = false) && decide (y.stop = none) && decide (y.start + 1000000000 ≤ s.pkg.tempo.now))
      && (
        let y := { prevails := 1, level := 2, cause := 2^32, start := 7 }
        let s : State := S { on with parts := [(3, { yields := [y] })], tempo := { now := 1000000006 } }
        let p : Nat := 3
        let x := s.pkg.part p
        decide (p < 16) && decide (s.pkg.fw.off = 0) && decide (x.yields = [y]) && decide (y.told = false) && decide (y.stop = none) && decide (s.pkg.tempo.now < y.start + 1000000000))) = true := by decide +kernel

/-- The hypotheses of `TileIntegerResults`, clauses 1, 2, 3, 4, 5, 6, 7, 8, 9, 10, 11, can be met. -/
theorem witness_TileIntegerResults :
      ((
        let w : Nat := eI 0x37 7 4 0 0xABC
        let s : State := S (ins w x23)
        let n : Nat := 5
        let len : Nat := 4
        let raw : Nat := w
        decide (s.pkg.fetches n w len raw) && decide ((s.pkg.tile n).quiet) && decide (Rv.opc w = 0x37))
      && (
        let w : Nat := eI 0x17 7 4 0 0x7BC
        let s : State := S (ins w x23)
        let n : Nat := 5
        let len : Nat := 4
        let raw : Nat := w
        decide (s.pkg.fetches n w len raw) && decide ((s.pkg.tile n).quiet) && decide (Rv.opc w = 0x17))
      && (
        let w : Nat := eI 0x13 0 4 2 0xFFF
        let s : State := S (ins w x23)
        let n : Nat := 5
        let len : Nat := 4
        let raw : Nat := w
        let t := s.pkg.tile n
        let a := t.xr (Rv.rs1 w)
        let v := 0xFFFFFFFFFFFFFFEF
        decide (s.pkg.fetches n w len raw) && decide ((s.pkg.tile n).quiet) && decide (Rv.opc w = 0x13) && decide (Rv.aluImm64 w a = some v))
      && (
        let w : Nat := eI 0x1B 0 4 2 0xFFF
        let s : State := S (ins w x23)
        let n : Nat := 5
        let len : Nat := 4
        let raw : Nat := w
        let t := s.pkg.tile n
        let a := t.xr (Rv.rs1 w)
        let v := 0xFFFFFFFFFFFFFFEF
        decide (s.pkg.fetches n w len raw) && decide ((s.pkg.tile n).quiet) && decide (Rv.opc w = 0x1B) && decide (Rv.aluImm32 w a = some v))
      && (
        let w : Nat := eR 0x33 0 0x20 4 1 2
        let s : State := S (ins w x23)
        let n : Nat := 5
        let len : Nat := 4
        let raw : Nat := w
        let t := s.pkg.tile n
        let a := t.xr (Rv.rs1 w)
        let b := t.xr (Rv.rs2 w)
        let v := 116
        decide (s.pkg.fetches n w len raw) && decide ((s.pkg.tile n).quiet) && decide (Rv.opc w = 0x33) && decide (Rv.alu64 (Rv.f7 w) (Rv.f3 w) a b = some v))
      && (
        let w : Nat := eR 0x3B 0 0x20 4 1 2
        let s : State := S (ins w x23)
        let n : Nat := 5
        let len : Nat := 4
        let raw : Nat := w
        let t := s.pkg.tile n
        let a := t.xr (Rv.rs1 w)
        let b := t.xr (Rv.rs2 w)
        let v := 116
        decide (s.pkg.fetches n w len raw) && decide ((s.pkg.tile n).quiet) && decide (Rv.opc w = 0x3B) && decide (Rv.alu32 (Rv.f7 w) (Rv.f3 w) a b = some v))
      && (
        let w : Nat := eI 0x6F 0 4 0 0x008
        let s : State := S (ins w x23)
        let n : Nat := 5
        let len : Nat := 4
        let raw : Nat := w
        decide (s.pkg.fetches n w len raw) && decide ((s.pkg.tile n).quiet) && decide (Rv.opc w = 0x6F))
      && (
        let w : Nat := eI 0x67 0 4 3 0x008
        let s : State := S (ins w x23)
        let n : Nat := 5
        let len : Nat := 4
        let raw : Nat := w
        decide (s.pkg.fetches n w len raw) && decide ((s.pkg.tile n).quiet) && decide (Rv.opc w = 0x67) && decide (Rv.f3 w = 0))
      && (
        let w : Nat := eS 0x63 0 1 2 8
        let s : State := S (ins w x23)
        let n : Nat := 5
        let len : Nat := 4
        let raw : Nat := w
        let t := s.pkg.tile n
        let a := t.xr (Rv.rs1 w)
        let b := t.xr (Rv.rs2 w)
        let tk := false
        decide (s.pkg.fetches n w len raw) && decide ((s.pkg.tile n).quiet) && decide (Rv.opc w = 0x63) && decide (Rv.branchTaken (Rv.f3 w) a b = some tk))
      && (
        let w : Nat := eI 0x03 3 4 3 0xFF8
        let s : State := S (ins w x23)
        let n : Nat := 5
        let len : Nat := 4
        let raw : Nat := w
        let t := s.pkg.tile n
        let a := t.xr (Rv.rs1 w)
        let x := (a + Rv.immI w).toNat
        let z := Rv.accSize (Rv.f3 w)
        decide (s.pkg.fetches n w len raw) && decide ((s.pkg.tile n).quiet) && decide (Rv.opc w = 0x03) && decide (Rv.f3 w ≠ 7) && decide (x % z = 0) && decide (inLocal x z = true) && decide (t.lineBusy x z = false))
      && (
        let w : Nat := eS 0x23 3 3 2 0x08
        let s : State := S (ins w x23)
        let n : Nat := 5
        let len : Nat := 4
        let raw : Nat := w
        let t := s.pkg.tile n
        let a := t.xr (Rv.rs1 w)
        let x := (a + Rv.immS w).toNat
        let z := Rv.accSize (Rv.f3 w)
        decide (s.pkg.fetches n w len raw) && decide ((s.pkg.tile n).quiet) && decide (Rv.opc w = 0x23) && decide (Rv.f3 w < 4) && decide (x % z = 0) && decide (inLocal x z = true) && decide (t.lineBusy x z = false))) = true := by decide +kernel

/-- The hypotheses of `TileIntegerResults`, part `IntegerOperations`, clauses 9, 11, 12, 15, 16, can be met. -/
theorem witness_IntegerOperations :
      ((
        let b : Word := 0
        decide (b = 0))
      && (
        let a : Word := 0xFFFFFFFFFFFFFFF0
        let b : Word := 7
        decide (b ≠ 0) && decide (¬(a.toInt = -2 ^ 63 ∧ b.toInt = -1)))
      && (
        let a : Word := 0x8000000000000000
        let b : Word := 0xFFFFFFFFFFFFFFFF
        decide (a.toInt = -2 ^ 63) && decide (b.toInt = -1))
      && (
        let i : Nat := 2
        decide (i ≠ 0))
      && (
        let i : Nat := 2
        let j := 3
        decide (j ≠ i))) = true := by decide +kernel

/-- The hypotheses of `TileCountersReadZero` can be met. -/
theorem witness_TileCountersReadZero :
      ((
        let w : Nat := eI 0x73 2 4 0 0xC00
        let s : State := S (ins w x23)
        let n : Nat := 5
        let len : Nat := 4
        let raw : Nat := w
        decide (s.pkg.fetches n w len raw) && decide ((s.pkg.tile n).quiet) && decide (Rv.opc w = 0x73) && decide (Rv.f3 w = 2) && decide (Rv.rs1 w = 0) && decide (bits w 31 20 ∈ [0xB00, 0xB02, 0xC00, 0xC02]))) = true := by decide +kernel

/-- The hypotheses of `TileCsrs`, clauses 1, 2, 3, 4, can be met. -/
theorem witness_TileCsrs :
      ((
        let w : Nat := eI 0x73 2 4 0 0x340
        let s : State := S (ins w x23)
        let n : Nat := 5
        let len : Nat := 4
        let raw : Nat := w
        let t := s.pkg.tile n
        let a := bits w 31 20
        let old := 0
        decide (s.pkg.fetches n w len raw) && decide ((s.pkg.tile n).quiet) && decide (Rv.opc w = 0x73) && decide (Rv.f3 w % 4 ≠ 0) && decide (t.csrRead n a = some old) && decide (a < 0xBC0 ∨ 0xBDF < a) && decide (Rv.csrWrites w = false))
      && (
        let w : Nat := eI 0x73 1 4 2 0x340
        let s : State := S (ins w x23)
        let n : Nat := 5
        let len : Nat := 4
        let raw : Nat := w
        let t := s.pkg.tile n
        let a := bits w 31 20
        let old := 0
        decide (s.pkg.fetches n w len raw) && decide ((s.pkg.tile n).quiet) && decide (Rv.opc w = 0x73) && decide (Rv.f3 w % 4 ≠ 0) && decide (t.csrRead n a = some old) && decide (a < 0xBC0 ∨ 0xBDF < a) && decide (Rv.csrWrites w = true) && decide (bits a 11 10 ≠ 3))
      && (
        let w : Nat := eI 0x73 1 4 2 0xC00
        let s : State := S (ins w x23)
        let n : Nat := 5
        let len : Nat := 4
        let raw : Nat := w
        let t := s.pkg.tile n
        let a := bits w 31 20
        let old := 0
        decide (s.pkg.fetches n w len raw) && decide ((s.pkg.tile n).quiet) && decide (Rv.opc w = 0x73) && decide (Rv.f3 w % 4 ≠ 0) && decide (t.csrRead n a = some old) && decide (a < 0xBC0 ∨ 0xBDF < a) && decide (Rv.csrWrites w = true) && decide (bits a 11 10 = 3))
      && (
        let w : Nat := eI 0x73 1 4 2 0x344
        let s : State := S (ins w x23)
        let n : Nat := 5
        let len : Nat := 4
        let raw : Nat := w
        let t := s.pkg.tile n
        let a := bits w 31 20
        decide (s.pkg.fetches n w len raw) && decide ((s.pkg.tile n).quiet) && decide (Rv.opc w = 0x73) && decide (Rv.f3 w % 4 ≠ 0) && decide (t.csrRead n a = none))) = true := by decide +kernel

/-- The hypotheses of `TileCsrs`, part `TileTraps`, clauses 1, 2, 3, 4, 5, 6, 7, 8, 9, 10, 11, 12, can be met. -/
theorem witness_TileTraps_1 :
      ((
        let w := 0x0FF0000F
        let s : State := S (ins w (tvec x23))
        let n : Nat := 5
        let len := 4
        let raw := w
        decide (s.pkg.fetches n w len raw) && decide (Rv.opc w = 0x0F) && decide (Rv.f3 w = 0))
      && (
        let w := 0x10500073
        let s : State := S (ins w (tvec x23))
        let n : Nat := 5
        let len := 4
        let raw := w
        decide (s.pkg.fetches n w len raw) && decide (w = 0x10500073))
      && (
        let w := 0x100F
        let s : State := S (ins w (tvec x23))
        let n : Nat := 5
        let t := s.pkg.tile n
        let len := 4
        let raw := w
        decide (s.pkg.fetches n w len raw) && decide (t.core.region = none) && decide (Rv.opc w = 0x0F) && decide (Rv.f3 w = 1))
      && (
        let w := 0x73
        let s : State := S (ins w (tvec x23))
        let n : Nat := 5
        let t := s.pkg.tile n
        let len := 4
        let raw := w
        decide (s.pkg.fetches n w len raw) && decide (t.core.region = none) && decide (w = 0x73))
      && (
        let w := 0x100073
        let s : State := S (ins w (tvec x23))
        let n : Nat := 5
        let t := s.pkg.tile n
        let len := 4
        let raw := w
        decide (s.pkg.fetches n w len raw) && decide (t.core.region = none) && decide (w = 0x100073))
      && (
        let w := 0x30200073
        let s : State := S (ins w (tvec x23))
        let n : Nat := 5
        let t := s.pkg.tile n
        let len := 4
        let raw := w
        decide (s.pkg.fetches n w len raw) && decide (t.core.region = none) && decide (w = 0x30200073))
      && (
        let w := eI 0x03 3 4 3 0xFF9
        let s : State := S (ins w (tvec x23))
        let n : Nat := 5
        let t := s.pkg.tile n
        let len := 4
        let raw := w
        let x := (t.xr (Rv.rs1 w) + Rv.immI w).toNat
        decide (s.pkg.fetches n w len raw) && decide (t.core.region = none) && decide (t.core.pend = []) && decide (Rv.opc w = 0x03) && decide (Rv.f3 w ≠ 7) && decide (x % Rv.accSize (Rv.f3 w) ≠ 0))
      && (
        let w := eI 0x03 3 4 1 0xF9C
        let s : State := S (ins w (tvec (xs [(1, 0x120064)])))
        let n : Nat := 5
        let t := s.pkg.tile n
        let len := 4
        let raw := w
        let x := (t.xr (Rv.rs1 w) + Rv.immI w).toNat
        decide (s.pkg.fetches n w len raw) && decide (t.core.region = none) && decide (t.core.pend = []) && decide (Rv.opc w = 0x03) && decide (Rv.f3 w ≠ 7) && decide (x % Rv.accSize (Rv.f3 w) = 0) && decide (inLocal x (Rv.accSize (Rv.f3 w)) = false))
      && (
        let w := eS 0x23 3 3 2 0x09
        let s : State := S (ins w (tvec x23))
        let n : Nat := 5
        let t := s.pkg.tile n
        let len := 4
        let raw := w
        let x := (t.xr (Rv.rs1 w) + Rv.immS w).toNat
        decide (s.pkg.fetches n w len raw) && decide (t.core.region = none) && decide (t.core.pend = []) && decide (Rv.opc w = 0x23) && decide (Rv.f3 w < 4) && decide (x % Rv.accSize (Rv.f3 w) ≠ 0))
      && (
        let w := eS 0x23 3 2 2 0x0
        let s : State := S (ins w (tvec (xs [(2, 0x120000)])))
        let n : Nat := 5
        let t := s.pkg.tile n
        let len := 4
        let raw := w
        let x := (t.xr (Rv.rs1 w) + Rv.immS w).toNat
        decide (s.pkg.fetches n w len raw) && decide (t.core.region = none) && decide (t.core.pend = []) && decide (Rv.opc w = 0x23) && decide (Rv.f3 w < 4) && decide (x % Rv.accSize (Rv.f3 w) = 0) && decide (inLocal x (Rv.accSize (Rv.f3 w)) = false))
      && (
        let w := 0x0000005B
        let s : State := S (ins w (tvec x23))
        let n : Nat := 5
        let t := s.pkg.tile n
        let len := 4
        let raw := w
        decide (s.pkg.fetches n w len raw) && decide (t.core.region = none) && decide (Rv.opc w ∉ [0x37, 0x17, 0x6F, 0x67, 0x63, 0x03, 0x23, 0x13, 0x1B, 0x33, 0x3B, 0x0F, 0x73]) && decide (isEngineIssue w = false))
      && (
        let w := 0x73
        let s : State := S (ins w { tvec x23 with core := { (tvec x23).core with region := some specR } })
        let n : Nat := 5
        let t := s.pkg.tile n
        let len := 4
        let raw := w
        decide (s.pkg.fetches n w len raw) && decide (t.core.region ≠ none) && decide (w = 0x73))) = true := by decide +kernel

/-- The hypotheses of `TileCsrs`, part `TileTraps`, clauses 13, 14, 16, 20, can be met. -/
theorem witness_TileTraps_2 :
      ((
        let w := 0x73
        let s : State := S (ins w { tvec x23 with core := { (tvec x23).core with pc := 0x110000 } })
        let n : Nat := 5
        let t := s.pkg.tile n
        let c := 1
        decide (n < 6144) && decide (s.pkg.fw.off = 0) && decide (s.pkg.runs n = true) && decide (t.core.region = none) && decide (t.fetch = .fault c))
      && (
        let w := 0x0FF0000F
        let s : State := S (ins w (tvec x23))
        let n : Nat := 5
        let t := s.pkg.tile n
        decide (t.core.trapActive = false) && decide (t.core.mtvec ≠ 0))
      && (
        let w := 0x0FF0000F
        let s : State := S (ins w { x23 with buf := [(1, .rel 0x1000 5)], units := 1 })
        let n : Nat := 5
        let t := s.pkg.tile n
        let u := 6
        decide (t.core.trapActive = true ∨ t.core.mtvec = 0) && decide (u ≠ n))
      && (
        let w := 0x0FF0000F
        let s : State := S (ins w { x23 with buf := [(1, .rel 0x1000 5)], units := 1 })
        let n : Nat := 5
        let t := s.pkg.tile n
        decide (t.core.trapActive = true ∨ t.core.mtvec = 0) && decide ((s.pkg.part (t.part - 1)).st = .running))) = true := by decide +kernel

/-- The hypotheses of `Speculation`, clauses 1, 3, 4, 5, 6, 7, can be met. -/
theorem witness_Speculation :
      ((
        let w := eS 0x63 0 1 2 8
        let s : State := S (ins w (psw x23))
        let n : Nat := 5
        let t := s.pkg.tile n
        let c := t.core
        let len := 4
        let raw := w
        decide (n < 6144) && decide (s.pkg.fw.off = 0) && decide (s.pkg.fetches n w len raw) && decide (Rv.opc w = 0x63) && decide ((Rv.branchTaken (Rv.f3 w) 0 0).isSome = true) && decide (c.region = none) && decide (t.lacks (Rv.rs1 w) = true ∨ t.lacks (Rv.rs2 w) = true))
      && (
        let r := { specR with pend := [(1, 33)] }
        let s : State := S (ins 0 { x23 with core := { x23.core with region := some r } })
        let n : Nat := 5
        let t := s.pkg.tile n
        let c := t.core
        let wait (i : Nat) : Bool := decide (i ≠ 0 ∧ (Tab.find r.pend i).isSome = true)
        decide (n < 6144) && decide (s.pkg.fw.off = 0) && decide (c.region = some r) && decide (t.mode = .running) && decide (wait (Rv.rs1 r.instr) ∨ wait (Rv.rs2 r.instr)))
      && (
        let r := specR
        let s : State := S (ins 0 { x23 with ops := [{ ticket := 2, spec := true }], core := { x23.core with region := some r } })
        let n : Nat := 5
        let t := s.pkg.tile n
        let c := t.core
        let tk := true
        let val (i : Nat) : Word := if i = 0 then 0 else Tab.get 0 r.x i
        let wait (i : Nat) : Bool := decide (i ≠ 0 ∧ (Tab.find r.pend i).isSome = true)
        decide (n < 6144) && decide (s.pkg.fw.off = 0) && decide (c.region = some r) && decide (t.mode = .running) && decide (¬ wait (Rv.rs1 r.instr)) && decide (¬ wait (Rv.rs2 r.instr)) && decide (Rv.branchTaken (Rv.f3 r.instr) (val (Rv.rs1 r.instr)) (val (Rv.rs2 r.instr)) = some tk) && decide (tk = r.taken) && decide (t.mx.run = none))
      && (
        let r := specR
        let run := { ticket := 1, out := [(5, 6)] }
        let s : State := S (ins 0 { x23 with ops := [{ ticket := 2, spec := true, staged := some { writes := [(3, 4)], fl := { inv := true } } }], mx := { run := some run }, core := { x23.core with region := some r } })
        let n : Nat := 5
        let t := s.pkg.tile n
        let c := t.core
        let tk := true
        let val (i : Nat) : Word := if i = 0 then 0 else Tab.get 0 r.x i
        let wait (i : Nat) : Bool := decide (i ≠ 0 ∧ (Tab.find r.pend i).isSome = true)
        decide (n < 6144) && decide (s.pkg.fw.off = 0) && decide (c.region = some r) && decide (t.mode = .running) && decide (¬ wait (Rv.rs1 r.instr)) && decide (¬ wait (Rv.rs2 r.instr)) && decide (Rv.branchTaken (Rv.f3 r.instr) (val (Rv.rs1 r.instr)) (val (Rv.rs2 r.instr)) = some tk) && decide (tk = r.taken) && decide (t.mx.run = some run))
      && (
        let r := { specR with taken := false }
        let s : State := S (ins 0 { x23 with ticket := 4, ops := [{ ticket := 2, spec := true, staged := some { writes := [(3, 4)], fl := { inv := true } } }], core := { x23.core with region := some r } })
        let n : Nat := 5
        let t := s.pkg.tile n
        let c := t.core
        let tk := true
        let val (i : Nat) : Word := if i = 0 then 0 else Tab.get 0 r.x i
        let wait (i : Nat) : Bool := decide (i ≠ 0 ∧ (Tab.find r.pend i).isSome = true)
        decide (n < 6144) && decide (s.pkg.fw.off = 0) && decide (c.region = some r) && decide (t.mode = .running) && decide (¬ wait (Rv.rs1 r.instr)) && decide (¬ wait (Rv.rs2 r.instr)) && decide (Rv.branchTaken (Rv.f3 r.instr) (val (Rv.rs1 r.instr)) (val (Rv.rs2 r.instr)) = some tk) && decide (tk ≠ r.taken) && decide (∀ run ∈ t.mx.run, run.spec = false))
      && (
        let r := { specR with taken := false }
        let run := { ticket := 1, spec := true, out := [(5, 6)] }
        let s : State := S (ins 0 { x23 with ops := [{ ticket := 2, spec := true, staged := some { writes := [(3, 4)], fl := { inv := true } } }], mx := { run := some run }, core := { x23.core with region := some r } })
        let n : Nat := 5
        let t := s.pkg.tile n
        let c := t.core
        let tk := true
        let val (i : Nat) : Word := if i = 0 then 0 else Tab.get 0 r.x i
        let wait (i : Nat) : Bool := decide (i ≠ 0 ∧ (Tab.find r.pend i).isSome = true)
        decide (n < 6144) && decide (s.pkg.fw.off = 0) && decide (c.region = some r) && decide (t.mode = .running) && decide (¬ wait (Rv.rs1 r.instr)) && decide (¬ wait (Rv.rs2 r.instr)) && decide (Rv.branchTaken (Rv.f3 r.instr) (val (Rv.rs1 r.instr)) (val (Rv.rs2 r.instr)) = some tk) && decide (tk ≠ r.taken) && decide (t.mx.run = some run) && decide (run.spec = true))) = true := by decide +kernel

/-- The hypotheses of `TileCoreFrame` can be met. -/
theorem witness_TileCoreFrame :
      ((
        let n : Nat := 5
        decide (n < 6144))) = true := by decide +kernel

/-- The hypotheses of `MovesAreIssued`, clauses 1, 2, 3, 4, 5, 6, can be met. -/
theorem witness_MovesAreIssued :
      ((
        let n : Nat := 5
        (([(1, Instr.moveDstoreToLocal n), (2, .moveLocalToDstore n), (3, .moveAccumulateInto n), (7, .moveLocalToRemote n), (8, .moveRemoteToLocal n), (9, .moveLocalToLocal n)] : List (Nat × Instr))).all (fun e =>
          let n : Nat := 5
          let w : Nat := mvw
          let s : State := S (ins w (withD (mvd e.1 0 0x11 128 (if e.1 = 9 then 0x400 else 0x2000) 0x1000 (if e.1 = 7 ∨ e.1 = 8 then 5 else 0) 0)))
          let len : Nat := 4
          let raw : Nat := w
          let t := s.pkg.tile n
          let a := (t.xr (Rv.rs1 w)).toNat
          let d := t.rd a 32
          let m := moveDesc d
          let farLen := if e.1 = 2 then m.dstLen else m.length
          decide (s.pkg.fetches n w len raw) && decide (isMove w = true) && decide (t.waits (Rv.rs1 w) = false) && decide (t.descBusy a 32 = false) && decide (t.moveKind w = some e.1) && decide (t.mayIssue (decide (e.1 = 1) || decide (e.1 = 9)) = true) && decide (m.invalid = none) && decide (e.1 ≤ 3 → s.pkg.ownRange (t.part - 1) m.far farLen = true)))
      && (
        let n : Nat := 5
        (([(1, Instr.moveDstoreToLocal n), (2, .moveLocalToDstore n), (3, .moveAccumulateInto n)] : List (Nat × Instr))).all (fun e =>
          let n : Nat := 5
          let w : Nat := mvw
          let s : State := S (ins w (withD (mvd e.1 0 0x11 128 0x80002000 0x1000 0 0)))
          let len : Nat := 4
          let raw : Nat := w
          let t := s.pkg.tile n
          let a := (t.xr (Rv.rs1 w)).toNat
          let d := t.rd a 32
          let m := moveDesc d
          let farLen := if e.1 = 2 then m.dstLen else m.length
          decide (s.pkg.fetches n w len raw) && decide (isMove w = true) && decide (t.waits (Rv.rs1 w) = false) && decide (t.descBusy a 32 = false) && decide (t.moveKind w = some e.1) && decide (t.mayIssue (decide (e.1 = 1) || decide (e.1 = 9)) = true) && decide (m.invalid = none) && decide (e.1 ≤ 3) && decide (s.pkg.ownRange (t.part - 1) m.far farLen = false)))
      && (
        let n : Nat := 5
        (([(1, Instr.moveDstoreToLocal n), (2, .moveLocalToDstore n), (3, .moveAccumulateInto n), (7, .moveLocalToRemote n), (8, .moveRemoteToLocal n), (9, .moveLocalToLocal n)] : List (Nat × Instr))).all (fun e =>
          let n : Nat := 5
          let w : Nat := mvw
          let s : State := S (ins w (withD (mvd e.1 0x80 0 128 0x2000 0x1000 (if e.1 = 7 ∨ e.1 = 8 then 5 else 0) 0)))
          let len : Nat := 4
          let raw : Nat := w
          let t := s.pkg.tile n
          let a := (t.xr (Rv.rs1 w)).toNat
          let d := t.rd a 32
          let m := moveDesc d
          let c := 0
          decide (s.pkg.fetches n w len raw) && decide (isMove w = true) && decide (t.waits (Rv.rs1 w) = false) && decide (t.descBusy a 32 = false) && decide (t.moveKind w = some e.1) && decide (t.mayIssue (decide (e.1 = 1) || decide (e.1 = 9)) = true) && decide (m.invalid = some c)))
      && (
        let w : Nat := mvw
        let s : State := S (ins w (withD (mvd 6 0x80 0 128 0x2000 0x1000 0 0)))
        let n : Nat := 5
        let len : Nat := 4
        let raw : Nat := w
        let t := s.pkg.tile n
        let a := (t.xr (Rv.rs1 w)).toNat
        let d := t.rd a 32
        let m := moveDesc d
        let c := 0
        decide (s.pkg.fetches n w len raw) && decide (isMove w = true) && decide (t.waits (Rv.rs1 w) = false) && decide (t.descBusy a 32 = false) && decide (t.moveKind w = some 6) && decide (t.mayIssue false = true) && decide (m.invalid = some c))
      && (
        let w : Nat := mvw
        let s : State := S (let k := ins w (withD (mvd 6 0 0x22 (panOf 2 false) (0x200000000000 + 7 * 0x800000000) 0 0 0x4000)); { k with tier := { k.tier with regions := [(7, { st := 2, part := 3, packets := 20, fmt := 2, ext := [(0, 5)] })], groups := [(0, { formed := true, gib := 1 })] } })
        let n : Nat := 5
        let len : Nat := 4
        let raw : Nat := w
        let t := s.pkg.tile n
        let a := (t.xr (Rv.rs1 w)).toNat
        let d := t.rd a 32
        let m := moveDesc d
        decide (s.pkg.fetches n w len raw) && decide (isMove w = true) && decide (t.waits (Rv.rs1 w) = false) && decide (t.descBusy a 32 = false) && decide (t.moveKind w = some 6) && decide (t.mayIssue false = true) && decide (m.invalid = none) && decide (dsOk m.done (64 + m.length) = true) && decide (dieOf m.done = n / 128) && decide (s.pkg.regionCheck (t.part - 1) m = none))
      && (
        let w : Nat := mvw
        let s : State := S (ins w (withD (mvd 1 0 0 128 0x2000 0x1000 0 0)))
        let n : Nat := 5
        let len : Nat := 4
        let raw : Nat := w
        let t := s.pkg.tile n
        let a := (t.xr (Rv.rs1 w)).toNat
        let r : Nat := 4
        decide (s.pkg.fetches n w len raw) && decide (isMove w = true) && decide (t.waits (Rv.rs1 w) = false) && decide (t.descBusy a 32 = false) && decide (r ≠ 0))) = true := by decide +kernel

/-- The hypotheses of `MovesAreIssued`, part `MovesComplete`, clauses 1, 2, 3, 4, 5, 6, 7, 8, 9, 10, can be met. -/
theorem witness_MovesComplete :
      ((
        let o : EngOp := { ticket := 2, kind := .move, code := 9, desc := mvd 9 0 0 128 0x400 0x1000 0 0 }
        let s : State := opT o
        let n : Nat := 5
        let k : Nat := 3
        let t := s.pkg.tile n
        decide (n < 6144) && decide (s.pkg.fw.off = 0) && decide (t.ops.find? (fun o => o.ticket = k && o.staged.isNone) = none))
      && (
        let o : EngOp := { ticket := 2, kind := .move, code := 9, desc := mvd 9 0 0 128 0x400 0x1000 0 0, writes := [(0x1000, 128)] }
        let s : State := opT o { ops := [{ ticket := 1, writes := [(0x1000, 4)] }] }
        let n : Nat := 5
        let k : Nat := 2
        let t := s.pkg.tile n
        decide (n < 6144) && decide (s.pkg.fw.off = 0) && decide (t.ops.find? (fun o => o.ticket = k && o.staged.isNone) = some o) && decide (t.mode ≠ .running ∨ t.free o = false ∨ t.room o = false))
      && (
        let o : EngOp := { ticket := 2, kind := .move, code := 9, desc := mvd 9 0 0 128 0x400 0x1000 0 0 }
        let s : State := opT o { ocache := [(0x401, 8), (0x1001, 9)] }
        let n : Nat := 5
        let k : Nat := 2
        let t := s.pkg.tile n
        let m := moveDesc o.desc
        decide (n < 6144) && decide (s.pkg.fw.off = 0) && decide (t.ops.find? (fun o => o.ticket = k && o.staged.isNone) = some o) && decide (t.mode = .running) && decide (t.free o = true) && decide (t.room o = true) && decide (o.kind = .move) && decide (m.kind = 9))
      && (
        let o : EngOp := { ticket := 2, kind := .move, code := 1, desc := mvd 1 0 0 128 0x2000 0x1000 0 0 }
        let s : State := opT o { ops := [{ ticket := 1, kind := .move, code := 2 }] }
        let n : Nat := 5
        let k : Nat := 2
        let t := s.pkg.tile n
        let m := moveDesc o.desc
        decide (n < 6144) && decide (s.pkg.fw.off = 0) && decide (t.ops.find? (fun o => o.ticket = k && o.staged.isNone) = some o) && decide (t.mode = .running) && decide (t.free o = true) && decide (t.room o = true) && decide (o.kind = .move) && decide (t.heldBefore o.ticket = true) && decide (m.kind ≠ 9))
      && (
        let o : EngOp := { ticket := 2, kind := .move, code := 1, desc := mvd 1 0 0 128 0x2000 0x1000 0 0 }
        let s : State := opT o { buf := [(1, .rel 0x2008 5)] }
        let n : Nat := 5
        let k : Nat := 2
        let t := s.pkg.tile n
        let m := moveDesc o.desc
        decide (n < 6144) && decide (s.pkg.fw.off = 0) && decide (t.ops.find? (fun o => o.ticket = k && o.staged.isNone) = some o) && decide (t.mode = .running) && decide (t.free o = true) && decide (t.room o = true) && decide (o.kind = .move) && decide (t.heldBefore o.ticket = false) && decide (m.kind = 1) && decide (t.ownPending o.ticket m.far m.length = true))
      && (
        let o : EngOp := { ticket := 2, kind := .move, code := 1, desc := mvd 1 0 0 128 0x2000 0x1000 0 0 }
        let s : State := S { (opT o).pkg with dstore := [(0x2003, 4)] }
        let n : Nat := 5
        let k : Nat := 2
        let t := s.pkg.tile n
        let m := moveDesc o.desc
        decide (n < 6144) && decide (s.pkg.fw.off = 0) && decide (t.ops.find? (fun o => o.ticket = k && o.staged.isNone) = some o) && decide (t.mode = .running) && decide (t.free o = true) && decide (t.room o = true) && decide (o.kind = .move) && decide (t.heldBefore o.ticket = false) && decide (m.kind = 1) && decide (t.ownPending o.ticket m.far m.length = false))
      && (
        let o : EngOp := { ticket := 2, kind := .move, code := 2, desc := mvd 2 0 0x11 128 0x2000 0x1000 0 0 }
        let s : State := opT o { ocache := [(0x1001, 9)] }
        let n : Nat := 5
        let k : Nat := 2
        let t := s.pkg.tile n
        let m := moveDesc o.desc
        decide (n < 6144) && decide (s.pkg.fw.off = 0) && decide (t.ops.find? (fun o => o.ticket = k && o.staged.isNone) = some o) && decide (t.mode = .running) && decide (t.free o = true) && decide (t.room o = true) && decide (o.kind = .move) && decide (t.heldBefore o.ticket = false) && decide (m.kind = 2))
      && (
        let o : EngOp := { ticket := 2, kind := .move, code := 3, desc := mvd 3 0 0x11 128 0x2000 0x1000 0 0 }
        let s : State := opT o { ocache := [(0x1001, 9)], units := 2031 }
        let n : Nat := 5
        let k : Nat := 2
        let t := s.pkg.tile n
        let m := moveDesc o.desc
        decide (n < 6144) && decide (s.pkg.fw.off = 0) && decide (t.ops.find? (fun o => o.ticket = k && o.staged.isNone) = some o) && decide (t.mode = .running) && decide (t.free o = true) && decide (t.room o = true) && decide (o.kind = .move) && decide (t.heldBefore o.ticket = false) && decide (m.kind = 3))
      && (
        let o : EngOp := { ticket := 2, kind := .move, code := 7, desc := mvd 7 0 0x11 128 0x2000 0x1000 5 0 }
        let s : State := opT o { ocache := [(0x1001, 9)], units := 2029 }
        let n : Nat := 5
        let k : Nat := 2
        let t := s.pkg.tile n
        let m := moveDesc o.desc
        decide (n < 6144) && decide (s.pkg.fw.off = 0) && decide (t.ops.find? (fun o => o.ticket = k && o.staged.isNone) = some o) && decide (t.mode = .running) && decide (t.free o = true) && decide (t.room o = true) && decide (o.kind = .move) && decide (t.heldBefore o.ticket = false) && decide (m.kind = 7))
      && (
        let o : EngOp := { ticket := 2, kind := .move, code := 8, desc := mvd 8 0 0 128 0x2000 0x1000 5 0 }
        let s : State := S { (opT o).pkg with dstore := [(0x2003, 4)] }
        let n : Nat := 5
        let k : Nat := 2
        let t := s.pkg.tile n
        let m := moveDesc o.desc
        let p := t.part - 1
        decide (n < 6144) && decide (s.pkg.fw.off = 0) && decide (t.ops.find? (fun o => o.ticket = k && o.staged.isNone) = some o) && decide (t.mode = .running) && decide (t.free o = true) && decide (t.room o = true) && decide (o.kind = .move) && decide (t.heldBefore o.ticket = false) && decide (m.kind = 8) && decide (m.node = s.pkg.node) && decide (t.ownPending o.ticket m.far m.length = false) && decide (t.sendPending o.ticket m.node m.far m.length = false) && decide (s.pkg.ownRange p m.far m.length = true))) = true := by decide +kernel

/-- The hypotheses of `VectorOperationsIssue`, clauses 1, 2, 3, can be met. -/
theorem witness_VectorOperationsIssue :
      ((
        let n : Nat := 5
        (([(0x01, Instr.vadd n), (0x02, .vsub n), (0x03, .vmul n), (0x04, .vfma n), (0x05, .vfnma n), (0x06, .vmin n), (0x07, .vmax n), (0x08, .vabs n), (0x09, .vneg n), (0x0A, .vsqrt n), (0x0B, .vrecip n), (0x0C, .vrsqrt n), (0x0D, .vexp n), (0x0E, .vtanh n), (0x10, .vsegsum n), (0x11, .vsegmax n), (0x18, .vcvt n), (0x19, .vfill n), (0x1A, .vscan n)] : List (Nat × Instr))).all (fun e =>
          let n : Nat := 5
          let d := vop1 e.1
          let w : Nat := eR 0x0B 1 e.1 4 3 2
          let s : State := S (ins w (vtile d))
          let len : Nat := 4
          let raw : Nat := w
          let t := s.pkg.tile n
          let a := (t.xr (Rv.rs1 w)).toNat
          decide (s.pkg.fetches n w len raw) && decide (Rv.opc w = 0x0B) && decide (Rv.f3 w = 1) && decide (Rv.f7 w = e.1) && decide (t.waits (Rv.rs1 w) = false) && decide (t.waits (Rv.rs2 w) = false) && decide (t.descBusy a 32 = false) && decide (t.mayIssue true = true) && decide (t.descAt a 32 = some d) && decide ((vopDesc e.1 d).cause = 0)))
      && (
        let n : Nat := 5
        (([(0x01, Instr.vadd n), (0x02, .vsub n), (0x03, .vmul n), (0x04, .vfma n), (0x05, .vfnma n), (0x06, .vmin n), (0x07, .vmax n), (0x08, .vabs n), (0x09, .vneg n), (0x0A, .vsqrt n), (0x0B, .vrecip n), (0x0C, .vrsqrt n), (0x0D, .vexp n), (0x0E, .vtanh n), (0x10, .vsegsum n), (0x11, .vsegmax n), (0x18, .vcvt n), (0x19, .vfill n), (0x1A, .vscan n)] : List (Nat × Instr))).all (fun e =>
          let d := vopb 2 2 0 0 0x1000 0x2000 0 0x3000 0
          let n : Nat := 5
          let w : Nat := eR 0x0B 1 e.1 4 3 2
          let s : State := S (ins w (vtile d))
          let len : Nat := 4
          let raw : Nat := w
          let t := s.pkg.tile n
          let a := (t.xr (Rv.rs1 w)).toNat
          decide (s.pkg.fetches n w len raw) && decide (Rv.opc w = 0x0B) && decide (Rv.f3 w = 1) && decide (Rv.f7 w = e.1) && decide (t.waits (Rv.rs1 w) = false) && decide (t.waits (Rv.rs2 w) = false) && decide (t.descBusy a 32 = false) && decide (t.mayIssue true = true) && decide (t.descAt a 32 = some d) && decide ((vopDesc e.1 d).cause ≠ 0)))
      && (
        let n : Nat := 5
        (([(0x01, Instr.vadd n), (0x02, .vsub n), (0x03, .vmul n), (0x04, .vfma n), (0x05, .vfnma n), (0x06, .vmin n), (0x07, .vmax n), (0x08, .vabs n), (0x09, .vneg n), (0x0A, .vsqrt n), (0x0B, .vrecip n), (0x0C, .vrsqrt n), (0x0D, .vexp n), (0x0E, .vtanh n), (0x10, .vsegsum n), (0x11, .vsegmax n), (0x18, .vcvt n), (0x19, .vfill n), (0x1A, .vscan n)] : List (Nat × Instr))).all (fun e =>
          let n : Nat := 5
          let w : Nat := eR 0x0B 1 e.1 4 3 2
          let s : State := S (ins w { vtile [] with core := { x23.core with x := [(2, 4), (3, 0x110110)] } })
          let len : Nat := 4
          let raw : Nat := w
          let t := s.pkg.tile n
          let a := (t.xr (Rv.rs1 w)).toNat
          decide (s.pkg.fetches n w len raw) && decide (Rv.opc w = 0x0B) && decide (Rv.f3 w = 1) && decide (Rv.f7 w = e.1) && decide (t.waits (Rv.rs1 w) = false) && decide (t.waits (Rv.rs2 w) = false) && decide (t.descBusy a 32 = false) && decide (t.mayIssue true = true) && decide (t.descAt a 32 = none)))) = true := by decide +kernel

/-- The hypotheses of `VectorOperationsIssue`, part `VectorOperationsComplete`, clauses 1, 2, 3, 4, can be met. -/
theorem witness_VectorOperationsComplete :
      ((
        let s : State := opT { kind := .move }
        let n : Nat := 5
        let o : EngOp := { ticket := 2, kind := .vop, code := 1, desc := vop1 1, r2 := 5, reads := [(0x1000, 64)], writes := [(0x3000, 64)] }
        let t := s.pkg.tile n
        decide (n < 6144) && decide (s.pkg.fw.off = 0) && decide (t.ops.find? (fun o => o.kind == .vop && o.staged.isNone) = none))
      && (
        let o : EngOp := { ticket := 2, kind := .vop, code := 1, r1 := 4 }
        let s : State := opT o
        let n : Nat := 5
        let t := s.pkg.tile n
        decide (n < 6144) && decide (s.pkg.fw.off = 0) && decide (t.ops.find? (fun o => o.kind == .vop && o.staged.isNone) = some o) && decide (t.mode = .running) && decide (t.free o = true) && decide (t.room o = true) && decide (o.r1 ≠ 0))
      && (
        let o : EngOp := { ticket := 2, kind := .vop, code := 1, desc := vop1 1, r2 := 5, reads := [(0x1000, 64)], writes := [(0x3000, 64)] }
        let s : State := opT o { ocache := [(0x1001, 0x3C), (0x2001, 0xBC), (0x1003, 0x7E)] }
        let n : Nat := 5
        let t := s.pkg.tile n
        decide (n < 6144) && decide (s.pkg.fw.off = 0) && decide (t.ops.find? (fun o => o.kind == .vop && o.staged.isNone) = some o) && decide (t.mode = .running) && decide (t.free o = true) && decide (t.room o = true) && decide (o.r1 = 0))
      && (
        let o : EngOp := { ticket := 2, kind := .vop, code := 1, desc := vop1 1, r2 := 0, reads := [(0x1000, 64)], writes := [(0x3000, 64)] }
        let s : State := opT o { ocache := [(0x1001, 0x3C), (0x2001, 0xBC), (0x1003, 0x7E)] }
        let n : Nat := 5
        let t := s.pkg.tile n
        decide (n < 6144) && decide (s.pkg.fw.off = 0) && decide (o.kind = .vop) && decide (t.core.region = none) && decide (bit o.r2 2 = false))) = true := by decide +kernel

/-- The hypotheses of `VectorElementResults`, clauses 10, 16, can be met. -/
theorem witness_VectorElementResults :
      ((
        let m := 5
        let op := 0x0A
        decide (m ≠ 0) && decide (op ∈ [0x0A, 0x0C]))
      && (
        let op := 0x0E
        decide (op ∈ [0x0A, 0x0B, 0x0C, 0x0D, 0x0E]))) = true := by decide +kernel

/-- The hypotheses of `DeliveryIsExact` can be met. -/
theorem witness_DeliveryIsExact :
      ((
        let c : Nat := 5
        let raw : Nat := 0xAB
        let g : Bool := true
        let m : Nat := 7
        let e : Int := -7
        decide (c ≤ 8) && decide (raw < 2 ^ fmtWidth c) && decide (decodeFmt c raw = .fin g m e) && decide (¬(c = 3 ∧ bits raw 14 7 = 0 ∧ m ≠ 0)) && decide (¬(c = 8 ∧ raw = 128)))) = true := by decide +kernel

/-- The hypotheses of `MatrixIssueAndStart`, clauses 1, 2, 3, 4, 5, 6, 7, 8, 9, 10, 11, 12, can be met. -/
theorem witness_MatrixIssueAndStart :
      ((
        let w := eR 0x0B 2 0 4 3 2
        let s : State := S (ins w (vtile []))
        let n : Nat := 5
        let t := s.pkg.tile n
        let len := 4
        let raw := w
        decide (n < 6144) && decide (s.pkg.fw.off = 0) && decide (s.pkg.fetches n w len raw) && decide (Rv.opc w = 0x0B) && decide (Rv.f3 w = 2) && decide (isEngineIssue w = true) && decide (t.waits (Rv.rs1 w) = false) && decide (t.waits (Rv.rs2 w) = false) && decide (Rv.f7 w = 0) && decide (t.mayIssue false = true))
      && (
        let w := eR 0x0B 2 2 4 0 0
        let s : State := S (ins w (vtile []))
        let n : Nat := 5
        let t := s.pkg.tile n
        let len := 4
        let raw := w
        decide (n < 6144) && decide (s.pkg.fw.off = 0) && decide (s.pkg.fetches n w len raw) && decide (Rv.opc w = 0x0B) && decide (Rv.f3 w = 2) && decide (isEngineIssue w = true) && decide (t.waits (Rv.rs1 w) = false) && decide (t.waits (Rv.rs2 w) = false) && decide (Rv.f7 w = 2) && decide (t.mayIssue false = true))
      && (
        let d := mxd 0 3
        let w := eR 0x0B 2 1 4 3 0
        let s : State := S (ins w (vtile d))
        let n : Nat := 5
        let t := s.pkg.tile n
        let len := 4
        let raw := w
        let a := (t.xr (Rv.rs1 w)).toNat
        decide (n < 6144) && decide (s.pkg.fw.off = 0) && decide (s.pkg.fetches n w len raw) && decide (Rv.opc w = 0x0B) && decide (Rv.f3 w = 2) && decide (isEngineIssue w = true) && decide (t.waits (Rv.rs1 w) = false) && decide (t.waits (Rv.rs2 w) = false) && decide (Rv.f7 w = 1) && decide (t.descBusy a 64 = false) && decide (t.descAt a 64 = some d) && decide (t.mayIssue (bit (byteAt d 0) 0) = true))
      && (
        let w := eR 0x0B 2 1 4 3 0
        let s : State := S (ins w { x23 with core := { x23.core with x := [(3, 0x110110)] } })
        let n : Nat := 5
        let t := s.pkg.tile n
        let len := 4
        let raw := w
        let a := (t.xr (Rv.rs1 w)).toNat
        decide (n < 6144) && decide (s.pkg.fw.off = 0) && decide (s.pkg.fetches n w len raw) && decide (Rv.opc w = 0x0B) && decide (Rv.f3 w = 2) && decide (isEngineIssue w = true) && decide (t.waits (Rv.rs1 w) = false) && decide (t.waits (Rv.rs2 w) = false) && decide (Rv.f7 w = 1) && decide (t.descBusy a 64 = false) && decide (t.descAt a 64 = none) && decide (t.mayIssue false = true))
      && (
        let o := { ticket := 2, kind := .mxpb, r1 := 0x110008, r2 := 0x20100 }
        let s : State := opT o
        let n : Nat := 5
        let t := s.pkg.tile n
        let k := 2
        let first := bits o.r2 7 0
        let count := bits o.r2 16 8 + 1
        decide (n < 6144) && decide (s.pkg.fw.off = 0) && decide (t.ops.find? (fun o => o.ticket = k && o.staged.isNone) = some o) && decide (o.kind = .mxpb) && decide (t.mode = .running) && decide (t.free o = true) && decide (t.room o = true) && decide (∀ x ∈ opsBefore t.ops o.ticket, x.kind ≠ .mxswap) && decide (o.r1 % 16 ≠ 0 ∨ inData o.r1 (16 * count) = false ∨ 256 < first + count))
      && (
        let o := { ticket := 2, kind := .mxpb, r1 := 0x110100, r2 := 0x00103 }
        let s : State := opT o
        let n : Nat := 5
        let t := s.pkg.tile n
        let k := 2
        let first := bits o.r2 7 0
        let count := bits o.r2 16 8 + 1
        let bank := bits o.r2 17 17
        decide (n < 6144) && decide (s.pkg.fw.off = 0) && decide (t.ops.find? (fun o => o.ticket = k && o.staged.isNone) = some o) && decide (o.kind = .mxpb) && decide (t.mode = .running) && decide (t.free o = true) && decide (t.room o = true) && decide (∀ x ∈ opsBefore t.ops o.ticket, x.kind ≠ .mxswap) && decide (o.r1 % 16 = 0) && decide (inData o.r1 (16 * count) = true) && decide (first + count ≤ 256) && decide (bank = t.mx.active))
      && (
        let o := { ticket := 2, kind := .mxpb, r1 := 0x110100, r2 := 0x20103 }
        let s : State := opT o (vtile (mxd 0 3))
        let n : Nat := 5
        let t := s.pkg.tile n
        let k := 2
        let first := bits o.r2 7 0
        let count := bits o.r2 16 8 + 1
        let bank := bits o.r2 17 17
        decide (n < 6144) && decide (s.pkg.fw.off = 0) && decide (t.ops.find? (fun o => o.ticket = k && o.staged.isNone) = some o) && decide (o.kind = .mxpb) && decide (t.mode = .running) && decide (t.free o = true) && decide (t.room o = true) && decide (∀ x ∈ opsBefore t.ops o.ticket, x.kind ≠ .mxswap) && decide (o.r1 % 16 = 0) && decide (inData o.r1 (16 * count) = true) && decide (first + count ≤ 256) && decide (bank ≠ t.mx.active))
      && (
        let o := { ticket := 2, kind := .mxrun, r1 := 8, r2 := 3 }
        let s : State := opT o
        let n : Nat := 5
        let t := s.pkg.tile n
        decide (n < 6144) && decide (s.pkg.fw.off = 0) && decide (t.ops.find? (fun o => o.kind == .mxrun && o.staged.isNone) = some o) && decide (t.mode = .running) && decide (t.mx.run = none) && decide (t.free o = true) && decide (t.room o = true) && decide (o.spec = false) && decide (∀ x ∈ opsBefore t.ops o.ticket, x.kind ≠ .mxrun ∧ x.kind ≠ .mxswap) && decide (o.r1 ≠ 0))
      && (
        let o := { ticket := 2, kind := .mxrun, desc := mxd 0 3 }
        let s : State := opT o { mx := { active := 1, pbuf := [(256 + 3, 5)] } }
        let n : Nat := 5
        let t := s.pkg.tile n
        let self := bit (byteAt o.desc 0) 0
        let live (x : AccSet) : Option Nat := if x.live && !self then some x.kind else none
        let k : Walk := { a := (runRegs o.desc).1, c := (runRegs o.desc).2, live0 := live t.mx.set0, live1 := live t.mx.set1, entry := byteAt o.desc 1 }
        let c := 5
        let e := 3
        decide (n < 6144) && decide (s.pkg.fw.off = 0) && decide (t.ops.find? (fun o => o.kind == .mxrun && o.staged.isNone) = some o) && decide (t.mode = .running) && decide (t.mx.run = none) && decide (t.free o = true) && decide (t.room o = true) && decide (o.spec = false) && decide (∀ x ∈ opsBefore t.ops o.ticket, x.kind ≠ .mxrun ∧ x.kind ≠ .mxswap) && decide (o.r1 = 0) && decide (walkRun t.mx.pbuf t.mx.active (runReads o.desc) (runWrites o.desc) 65538 k = some (c, e)))
      && (
        let o := { ticket := 2, kind := .mxrun, desc := mxd 1 3 }
        let s : State := opT o { mx := { active := 1, pbuf := mxprog } }
        let n : Nat := 5
        let t := s.pkg.tile n
        let self := bit (byteAt o.desc 0) 0
        let live (x : AccSet) : Option Nat := if x.live && !self then some x.kind else none
        let k : Walk := { a := (runRegs o.desc).1, c := (runRegs o.desc).2, live0 := live t.mx.set0, live1 := live t.mx.set1, entry := byteAt o.desc 1 }
        decide (n < 6144) && decide (s.pkg.fw.off = 0) && decide (t.ops.find? (fun o => o.kind == .mxrun && o.staged.isNone) = some o) && decide (t.mode = .running) && decide (t.mx.run = none) && decide (t.free o = true) && decide (t.room o = true) && decide (o.spec = false) && decide (∀ x ∈ opsBefore t.ops o.ticket, x.kind ≠ .mxrun ∧ x.kind ≠ .mxswap) && decide (o.r1 = 0) && decide (walkRun t.mx.pbuf t.mx.active (runReads o.desc) (runWrites o.desc) 65538 k = none))
      && (
        let o := { ticket := 2, kind := .mxswap }
        let s : State := opT o { ops := [{ ticket := 1, kind := .vop }] }
        let n : Nat := 5
        let t := s.pkg.tile n
        decide (n < 6144) && decide (s.pkg.fw.off = 0) && decide (t.ops.find? (fun o => o.kind == .mxswap) = some o) && decide (t.mode = .running) && decide (∀ x ∈ opsBefore t.ops o.ticket, x.kind ≠ .mxpb ∧ x.kind ≠ .mxrun))
      && (
        let o := { ticket := 2, kind := .mxswap }
        let s : State := opT o { ops := [{ ticket := 1, kind := .mxpb }] }
        let n : Nat := 5
        let t := s.pkg.tile n
        decide (n < 6144) && decide (s.pkg.fw.off = 0) && decide (t.ops.find? (fun o => o.kind == .mxswap) = some o) && decide (t.mode = .running) && decide (∃ x ∈ opsBefore t.ops o.ticket, x.kind = .mxpb))) = true := by decide +kernel

/-- The hypotheses of `MatrixMicroOperations`, clauses 1, 2, 3, 4, 5, 6, 7, 8, 9, 10, 11, 12, can be met. -/
theorem witness_MatrixMicroOperations_1 :
      ((
        let n : Nat := 5
        (([(0, Instr.mNop n), (1, .mSetr n), (2, .mAddr n), (3, .mZacc n), (4, .mLdacc n), (5, .mMma n), (6, .mStacc n), (7, .mLoop n), (8, .mEnd n)] : List (Nat × Instr))).all (fun e =>
          let run : MxRun := { ticket := 2, bank := 1, entry := 4 }
          let n : Nat := 5
          let w : Nat := if e.1 = 3 then 2 else 3
          let s : State := mrun w run
          let t := s.pkg.tile n
          let m := t.mx
          decide (n < 6144) && decide (s.pkg.fw.off = 0) && decide (m.run = some run) && decide (t.mode = .running) && decide (run.ended = false) && decide (Tab.find m.pbuf (run.bank * 256 + run.entry) = some w) && decide (moOp w ≠ e.1)))
      && (
        let run : MxRun := { ticket := 2, bank := 1, entry := 4 }
        let w : Nat := 0
        let s : State := mrun w run
        let n : Nat := 5
        let t := s.pkg.tile n
        let m := t.mx
        decide (n < 6144) && decide (s.pkg.fw.off = 0) && decide (m.run = some run) && decide (t.mode = .running) && decide (run.ended = false) && decide (Tab.find m.pbuf (run.bank * 256 + run.entry) = some w) && decide (moOp w = 0))
      && (
        let run : MxRun := { ticket := 2, bank := 1, entry := 4 }
        let w : Nat := 1 + 5 * 2^8 + 0x1234 * 2^32
        let s : State := mrun w run
        let n : Nat := 5
        let t := s.pkg.tile n
        let m := t.mx
        decide (n < 6144) && decide (s.pkg.fw.off = 0) && decide (m.run = some run) && decide (t.mode = .running) && decide (run.ended = false) && decide (Tab.find m.pbuf (run.bank * 256 + run.entry) = some w) && decide (moOp w = 1) && decide (bits w 11 8 < 8))
      && (
        let run : MxRun := { ticket := 2, bank := 1, entry := 4 }
        let w : Nat := 1 + 9 * 2^8 + 0x123456 * 2^32
        let s : State := mrun w run
        let n : Nat := 5
        let t := s.pkg.tile n
        let m := t.mx
        decide (n < 6144) && decide (s.pkg.fw.off = 0) && decide (m.run = some run) && decide (t.mode = .running) && decide (run.ended = false) && decide (Tab.find m.pbuf (run.bank * 256 + run.entry) = some w) && decide (moOp w = 1) && decide (8 ≤ bits w 11 8))
      && (
        let run : MxRun := { ticket := 2, bank := 1, entry := 4 }
        let w : Nat := 2 + 5 * 2^8 + 0xFFFFFFFF * 2^32
        let s : State := mrun w run { a := [(5, 7)] }
        let n : Nat := 5
        let t := s.pkg.tile n
        let m := t.mx
        decide (n < 6144) && decide (s.pkg.fw.off = 0) && decide (m.run = some run) && decide (t.mode = .running) && decide (run.ended = false) && decide (Tab.find m.pbuf (run.bank * 256 + run.entry) = some w) && decide (moOp w = 2))
      && (
        let run : MxRun := { ticket := 2, bank := 1, entry := 4 }
        let w : Nat := 7 + 2 * 2^8 + 3 * 2^16
        let s : State := mrun w run { c := [(2, 2)] }
        let n : Nat := 5
        let t := s.pkg.tile n
        let m := t.mx
        let i := bits w 9 8
        decide (n < 6144) && decide (s.pkg.fw.off = 0) && decide (m.run = some run) && decide (t.mode = .running) && decide (run.ended = false) && decide (Tab.find m.pbuf (run.bank * 256 + run.entry) = some w) && decide (moOp w = 7) && decide (2 ≤ Tab.get 0 m.c i))
      && (
        let run : MxRun := { ticket := 2, bank := 1, entry := 4 }
        let w : Nat := 7 + 2 * 2^8 + 3 * 2^16
        let s : State := mrun w run { c := [(2, 1)] }
        let n : Nat := 5
        let t := s.pkg.tile n
        let m := t.mx
        let i := bits w 9 8
        decide (n < 6144) && decide (s.pkg.fw.off = 0) && decide (m.run = some run) && decide (t.mode = .running) && decide (run.ended = false) && decide (Tab.find m.pbuf (run.bank * 256 + run.entry) = some w) && decide (moOp w = 7) && decide (Tab.get 0 m.c i < 2))
      && (
        let run : MxRun := { ticket := 2, bank := 1, entry := 4 }
        let w : Nat := 3 + 2^8 + 2^9
        let s : State := mrun w run
        let n : Nat := 5
        let t := s.pkg.tile n
        let m := t.mx
        decide (n < 6144) && decide (s.pkg.fw.off = 0) && decide (m.run = some run) && decide (t.mode = .running) && decide (run.ended = false) && decide (Tab.find m.pbuf (run.bank * 256 + run.entry) = some w) && decide (moOp w = 3))
      && (
        let run : MxRun := { ticket := 2, bank := 1, entry := 4 }
        let w : Nat := 4 + 2^8 + 0 * 2^9 + 2 * 2^16 + 64 * 2^64
        let s : State := mrun w run { a := [(2, 128)] } [(195, 5)]
        let n : Nat := 5
        let t := s.pkg.tile n
        let m := t.mx
        decide (n < 6144) && decide (s.pkg.fw.off = 0) && decide (m.run = some run) && decide (t.mode = .running) && decide (run.ended = false) && decide (Tab.find m.pbuf (run.bank * 256 + run.entry) = some w) && decide (moOp w = 4) && decide (run.quiet (moSet w) = true))
      && (
        let run : MxRun := { ticket := 2, bank := 1, entry := 4 }
        let w : Nat := 5 + 2^8 + 1 * 2^9 + 2^14 + 2 * 2^16 + 3 * 2^19 + 2 * 2^24
        let s : State := mrun w run { a := [(2, 128), (3, 0x1000)], set1 := { live := true, kind := 1, el := [(5, 0x3F800000)] } } [(131, 0x3F), (130, 0x80), (0x1003, 0x3F)]
        let n : Nat := 5
        let t := s.pkg.tile n
        let m := t.mx
        decide (n < 6144) && decide (s.pkg.fw.off = 0) && decide (m.run = some run) && decide (t.mode = .running) && decide (run.ended = false) && decide (Tab.find m.pbuf (run.bank * 256 + run.entry) = some w) && decide (moOp w = 5) && decide (∀ x ∈ run.inflight, x.2 = fmtKind (moFmt w)))
      && (
        let run : MxRun := { ticket := 2, bank := 1, entry := 4 }
        let w : Nat := 6 + 2^8 + 1 * 2^9 + 2 * 2^16 + 64 * 2^64
        let s : State := mrun w run { a := [(2, 128)], set1 := { live := true, kind := 1, el := [(5, 0x3F800000)] } }
        let n : Nat := 5
        let t := s.pkg.tile n
        let m := t.mx
        decide (n < 6144) && decide (s.pkg.fw.off = 0) && decide (m.run = some run) && decide (t.mode = .running) && decide (run.ended = false) && decide (Tab.find m.pbuf (run.bank * 256 + run.entry) = some w) && decide (moOp w = 6) && decide (run.quiet (moSet w) = true) && decide (run.spec = false) && decide (moInc w = false))
      && (
        let run : MxRun := { ticket := 2, bank := 1, entry := 4, self := true }
        let w : Nat := 8
        let s : State := mrun w run
        let n : Nat := 5
        let t := s.pkg.tile n
        let m := t.mx
        decide (n < 6144) && decide (s.pkg.fw.off = 0) && decide (m.run = some run) && decide (t.mode = .running) && decide (run.ended = false) && decide (Tab.find m.pbuf (run.bank * 256 + run.entry) = some w) && decide (moOp w = 8))) = true := by decide +kernel

/-- The hypotheses of `MatrixMicroOperations`, clauses 13, 14, 15, can be met. -/
theorem witness_MatrixMicroOperations_2 :
      ((
        let run : MxRun := { ticket := 2, bank := 1, entry := 4, inflight := [(0, 1), (1, 1)] }
        let s : State := mrun 0 { run with inflight := [(0, 1), (1, 1)] }
        let n : Nat := 5
        let t := s.pkg.tile n
        let m := t.mx
        decide (n < 6144) && decide (s.pkg.fw.off = 0) && decide (m.run = some run) && decide (t.mode = .running))
      && (
        let run : MxRun := { ticket := 2, bank := 1, entry := 4, ended := true, macs := 5, out := [(3, 4)] }
        let s : State := mrun 0 run
        let n : Nat := 5
        let t := s.pkg.tile n
        let m := t.mx
        let o := { ticket := 2, kind := .mxrun }
        decide (n < 6144) && decide (s.pkg.fw.off = 0) && decide (m.run = some run) && decide (t.mode = .running) && decide (run.ended = true) && decide (run.inflight = []) && decide (t.ops.find? (fun o => o.ticket = run.ticket) = some o))
      && (
        let run : MxRun := { ticket := 2, bank := 1, entry := 4 }
        let w : Nat := 0
        let s : State := mrun w run
        let n : Nat := 5
        let t := s.pkg.tile n
        let m := t.mx
        decide (n < 6144) && decide (s.pkg.fw.off = 0) && decide (m.run = some run) && decide (t.mode = .running) && decide (run.ended = false ∨ run.inflight ≠ []))) = true := by decide +kernel

/-- The hypotheses of `PlyInstructions`, clauses 1, 2, 3, 4, 5, 6, 7, 8, 9, 10, 11, 12, can be met. -/
theorem witness_PlyInstructions_1 :
      ((
        let w := yk 0x0B 3 0 4 1 2
        let s : State := S (ins w (x2 0x1008 5))
        let n : Nat := 5
        let t := s.pkg.tile n
        let len := 4
        let raw := w
        let a := (t.xr (Rv.rs1 w)).toNat
        decide (s.pkg.fetches n w len raw) && decide (t.quiet) && decide (isYk w 0x0B 3 0 = true) && decide (t.mayIssue false = true) && decide (a % 64 ≠ 0 ∨ dsOk a 128 = false ∨ dieOf a ≠ n / 128))
      && (
        let w := yk 0x0B 3 0 4 1 2
        let s : State := S (ins w (x2 0x1000 4097))
        let n : Nat := 5
        let t := s.pkg.tile n
        let len := 4
        let raw := w
        let a := (t.xr (Rv.rs1 w)).toNat
        let b := (t.xr (Rv.rs2 w)).toNat
        decide (s.pkg.fetches n w len raw) && decide (t.quiet) && decide (isYk w 0x0B 3 0 = true) && decide (t.mayIssue false = true) && decide (a % 64 = 0) && decide (dsOk a 128 = true) && decide (dieOf a = n / 128) && decide (b = 0 ∨ 4096 < b))
      && (
        let w := yk 0x0B 3 0 4 1 2
        let s : State := S (ins w (x2 0x1000 4096))
        let n : Nat := 5
        let t := s.pkg.tile n
        let len := 4
        let raw := w
        let a := (t.xr (Rv.rs1 w)).toNat
        let b := (t.xr (Rv.rs2 w)).toNat
        decide (s.pkg.fetches n w len raw) && decide (t.quiet) && decide (isYk w 0x0B 3 0 = true) && decide (t.mayIssue false = true) && decide (a % 64 = 0) && decide (dsOk a 128 = true) && decide (dieOf a = n / 128) && decide (0 < b) && decide (b ≤ 4096))
      && (
        let w := yk 0x0B 4 0 4 1 0
        let s : State := S (ins w (x2 0x110010 0))
        let n : Nat := 5
        let t := s.pkg.tile n
        let len := 4
        let raw := w
        let a := (t.xr (Rv.rs1 w)).toNat
        decide (s.pkg.fetches n w len raw) && decide (t.quiet) && decide (isYk w 0x0B 4 0 = true) && decide (t.mayIssue false = true) && decide (t.descBusy a 64 = false) && decide (t.descAt a 64 = none))
      && (
        let w := yk 0x0B 4 0 4 1 0
        let s : State := S (ins w (x2 0x110100 0))
        let n : Nat := 5
        let t := s.pkg.tile n
        let p := t.part - 1
        let len := 4
        let raw := w
        let a := (t.xr (Rv.rs1 w)).toNat
        let d := List.replicate 64 0
        let c := 2
        decide (s.pkg.fetches n w len raw) && decide (t.quiet) && decide (isYk w 0x0B 4 0 = true) && decide (t.mayIssue false = true) && decide (t.descBusy a 64 = false) && decide (t.descAt a 64 = some d) && decide (s.pkg.collCause p (collDesc d) = some c))
      && (
        let w := yk 0x0B 4 0 4 1 0
        let s : State := S (ins w (x2 0x110100 0 { dsram := Mem.writeN [] 0x100 collb }))
        let n : Nat := 5
        let t := s.pkg.tile n
        let p := t.part - 1
        let len := 4
        let raw := w
        let a := (t.xr (Rv.rs1 w)).toNat
        let d := collb
        decide (s.pkg.fetches n w len raw) && decide (t.quiet) && decide (isYk w 0x0B 4 0 = true) && decide (t.mayIssue false = true) && decide (t.descBusy a 64 = false) && decide (t.descAt a 64 = some d) && decide (s.pkg.collCause p (collDesc d) = none))
      && (
        let w := yk 0x0B 5 0 0 1 2
        let s : State := S (ins w (x2 0x1000 64 { elist := List.replicate 32 (0, 0, 0) }))
        let n : Nat := 5
        let t := s.pkg.tile n
        let len := 4
        let raw := w
        decide (s.pkg.fetches n w len raw) && decide (t.quiet) && decide (isYk w 0x0B 5 0 = true) && decide (32 ≤ t.elist.length))
      && (
        let w := yk 0x0B 5 0 0 1 2
        let s : State := S (ins w (x2 0x1000 (64 + 2^32 * 128)))
        let n : Nat := 5
        let t := s.pkg.tile n
        let len := 4
        let raw := w
        let a := (t.xr (Rv.rs1 w)).toNat
        let b := (t.xr (Rv.rs2 w)).toNat
        decide (s.pkg.fetches n w len raw) && decide (t.quiet) && decide (isYk w 0x0B 5 0 = true) && decide (t.elist.length < 32) && decide (a % 64 = 0) && decide (dsOk a (b % 2 ^ 32) = true) && decide (64 ≤ b % 2 ^ 32) && decide (b % 2 ^ 32 ≤ 0x80000) && decide (b % 2 ^ 32 % 64 = 0) && decide (b / 2 ^ 32 % 64 = 0) && decide (inLocal (b / 2 ^ 32) (b % 2 ^ 32) = true))
      && (
        let w := yk 0x0B 5 0 0 1 2
        let s : State := S (ins w (x2 0x1001 (64 + 2^32 * 128)))
        let n : Nat := 5
        let t := s.pkg.tile n
        let len := 4
        let raw := w
        let a := (t.xr (Rv.rs1 w)).toNat
        decide (s.pkg.fetches n w len raw) && decide (t.quiet) && decide (isYk w 0x0B 5 0 = true) && decide (t.elist.length < 32) && decide (a % 64 ≠ 0))
      && (
        let w := yk 0x0B 6 0 4 1 0
        let s : State := S (ins w (x2 2 0 { done := [(2, 5)] }))
        let n : Nat := 5
        let t := s.pkg.tile n
        let len := 4
        let raw := w
        let a := (t.xr (Rv.rs1 w)).toNat
        let v := 5
        decide (s.pkg.fetches n w len raw) && decide (t.quiet) && decide (isYk w 0x0B 6 0 = true) && decide (t.status (a % 65536) = some v))
      && (
        let w := yk 0x0B 6 0 4 1 0
        let s : State := S (ins w (x2 2 0 { ops := [{ ticket := 2 }] }))
        let n : Nat := 5
        let t := s.pkg.tile n
        let len := 4
        let raw := w
        let a := (t.xr (Rv.rs1 w)).toNat
        decide (s.pkg.fetches n w len raw) && decide (t.quiet) && decide (isYk w 0x0B 6 0 = true) && decide (t.status (a % 65536) = none))
      && (
        let w := yk 0x0B 6 1 4 0 0
        let s : State := S (ins w (x2 2 0 { lowBad := some (1, 5) }))
        let n : Nat := 5
        let t := s.pkg.tile n
        let len := 4
        let raw := w
        decide (s.pkg.fetches n w len raw) && decide (t.quiet) && decide (isYk w 0x0B 6 1 = true) && decide (t.ops = []))) = true := by decide +kernel

/-- The hypotheses of `PlyInstructions`, clauses 13, 14, 15, 16, 17, 18, 19, 20, 21, 22, 23, 24, can be met. -/
theorem witness_PlyInstructions_2 :
      ((
        let w := yk 0x0B 6 1 4 0 0
        let s : State := S (ins w (x2 2 0 { ops := [{ ticket := 2 }] }))
        let n : Nat := 5
        let t := s.pkg.tile n
        let len := 4
        let raw := w
        decide (s.pkg.fetches n w len raw) && decide (t.quiet) && decide (isYk w 0x0B 6 1 = true) && decide (t.ops ≠ []))
      && (
        let w := yk 0x2B 0 0 0 0 0
        let s : State := S (ins w (x2 2 0 {  buf := [(1, .rel 0x1000 3)], units := 1 }))
        let n : Nat := 5
        let t := s.pkg.tile n
        let p := t.part - 1
        let len := 4
        let raw := w
        decide (s.pkg.fetches n w len raw) && decide (t.quiet) && decide (t.ops = []) && decide (t.gambit = false) && decide (t.active + 1 < (s.pkg.part p).mem.cap * 1500) && decide (isYk w 0x2B 0 0 = true))
      && (
        let w := yk 0x2B 1 0 0 0 0
        let s : State := S (ins w (x2 2 0 {  buf := [(1, .rel 0x1000 3)], units := 1 }))
        let n : Nat := 5
        let t := s.pkg.tile n
        let p := t.part - 1
        let len := 4
        let raw := w
        decide (s.pkg.fetches n w len raw) && decide (t.quiet) && decide (t.ops = []) && decide (t.gambit = false) && decide (t.active + 1 < (s.pkg.part p).mem.cap * 1500) && decide (isYk w 0x2B 1 0 = true))
      && (
        let w := yk 0x2B 1 1 0 0 0
        let s : State := S (ins w (x2 2 0 {  buf := [(1, .rel 0x1000 3)], units := 1 }))
        let n : Nat := 5
        let t := s.pkg.tile n
        let p := t.part - 1
        let len := 4
        let raw := w
        decide (s.pkg.fetches n w len raw) && decide (t.quiet) && decide (t.ops = []) && decide (t.gambit = false) && decide (t.active + 1 < (s.pkg.part p).mem.cap * 1500) && decide (isYk w 0x2B 1 1 = true))
      && (
        let w := yk 0x2B 0 0 0 0 0
        let s : State := S (ins w { x2 2 0 with active := 59999 })
        let n : Nat := 5
        let t := s.pkg.tile n
        let p := t.part - 1
        let len := 4
        let raw := w
        decide (s.pkg.fetches n w len raw) && decide (t.quiet) && decide (t.ops = []) && decide (t.gambit = false) && decide ((s.pkg.part p).mem.cap * 1500 ≤ t.active + 1) && decide (isYk w 0x2B 0 0 = true))
      && (
        let w := yk 0x2B 1 0 0 0 0
        let s : State := S (ins w { x2 2 0 with active := 59999 })
        let n : Nat := 5
        let t := s.pkg.tile n
        let p := t.part - 1
        let len := 4
        let raw := w
        decide (s.pkg.fetches n w len raw) && decide (t.quiet) && decide (t.ops = []) && decide (t.gambit = false) && decide ((s.pkg.part p).mem.cap * 1500 ≤ t.active + 1) && decide (isYk w 0x2B 1 0 = true))
      && (
        let w := yk 0x2B 2 0 0 1 2
        let s : State := S (ins w (x2 0x1004 5))
        let n : Nat := 5
        let t := s.pkg.tile n
        let len := 4
        let raw := w
        let a := (t.xr (Rv.rs1 w)).toNat
        decide (s.pkg.fetches n w len raw) && decide (t.quiet) && decide (isYk w 0x2B 2 0 = true) && decide (a % 8 ≠ 0))
      && (
        let w := yk 0x2B 2 0 0 1 2
        let s : State := S (ins w (x2 0x80001000 5))
        let n : Nat := 5
        let t := s.pkg.tile n
        let p := t.part - 1
        let len := 4
        let raw := w
        let a := (t.xr (Rv.rs1 w)).toNat
        decide (s.pkg.fetches n w len raw) && decide (t.quiet) && decide (isYk w 0x2B 2 0 = true) && decide (a % 8 = 0) && decide (s.pkg.ownRange p a 8 = false))
      && (
        let w := yk 0x2B 2 0 0 1 2
        let s : State := S (ins w (x2 0x1000 5))
        let n : Nat := 5
        let t := s.pkg.tile n
        let p := t.part - 1
        let len := 4
        let raw := w
        let a := (t.xr (Rv.rs1 w)).toNat
        decide (s.pkg.fetches n w len raw) && decide (t.quiet) && decide (isYk w 0x2B 2 0 = true) && decide (a % 8 = 0) && decide (s.pkg.ownRange p a 8 = true) && decide (t.mayIssue false = true))
      && (
        let w := yk 0x2B 3 0 4 1 2
        let s : State := S (ins w (x2 0x1004 5))
        let n : Nat := 5
        let t := s.pkg.tile n
        let len := 4
        let raw := w
        let a := (t.xr (Rv.rs1 w)).toNat
        decide (s.pkg.fetches n w len raw) && decide (t.quiet) && decide (isYk w 0x2B 3 0 = true) && decide (a % 8 ≠ 0))
      && (
        let w := yk 0x2B 3 0 4 1 2
        let s : State := S { ins w (x2 0x1000 5) with dstore := [(0x1000, 5)] }
        let n : Nat := 5
        let t := s.pkg.tile n
        let p := t.part - 1
        let len := 4
        let raw := w
        let a := (t.xr (Rv.rs1 w)).toNat
        let b := (t.xr (Rv.rs2 w)).toNat
        decide (s.pkg.fetches n w len raw) && decide (t.quiet) && decide (isYk w 0x2B 3 0 = true) && decide (a % 8 = 0) && decide (s.pkg.ownRange p a 8 = true) && decide (b ≤ s.pkg.dword a))
      && (
        let w := yk 0x2B 3 0 4 1 2
        let s : State := S { ins w (x2 0x1000 5) with dstore := [(0x1000, 4)] }
        let n : Nat := 5
        let t := s.pkg.tile n
        let p := t.part - 1
        let len := 4
        let raw := w
        let a := (t.xr (Rv.rs1 w)).toNat
        let b := (t.xr (Rv.rs2 w)).toNat
        decide (s.pkg.fetches n w len raw) && decide (t.quiet) && decide (isYk w 0x2B 3 0 = true) && decide (a % 8 = 0) && decide (s.pkg.ownRange p a 8 = true) && decide (s.pkg.dword a < b))) = true := by decide +kernel

/-- The hypotheses of `PlyInstructions`, clauses 25, 26, 27, 28, 29, 30, can be met. -/
theorem witness_PlyInstructions_3 :
      ((
        let s : State := S (ins 0 (x2 0 0 { units := 2032 }))
        let n : Nat := 5
        let t := s.pkg.tile n
        decide (t.heldBefore t.ticket = false) && decide (2032 < t.units + 1))
      && (
        let s : State := S (ins 0 (x2 0 0 { units := 2031 }))
        let n : Nat := 5
        let t := s.pkg.tile n
        decide (t.heldBefore t.ticket = false) && decide (t.units + 1 ≤ 2032) && decide (t.core.region = none))
      && (
        let s : State := S { ins 0 (x2 0 0 { waitw := some (4, 0x1000, 6, 5) }) with dstore := [(0x1000, 5)] }
        let n : Nat := 5
        let t := s.pkg.tile n
        let r := 4
        let a := 0x1000
        let v := 6
        let since := 5
        decide (n < 6144) && decide (s.pkg.fw.off = 0) && decide (t.waitw = some (r, a, v, since)) && decide (s.pkg.dword a < v))
      && (
        let s : State := S { ins 0 (x2 0 0 { waitw := some (4, 0x1000, 5, 5) }) with dstore := [(0x1000, 5)] }
        let n : Nat := 5
        let t := s.pkg.tile n
        let r := 4
        let a := 0x1000
        let v := 5
        let since := 5
        decide (n < 6144) && decide (s.pkg.fw.off = 0) && decide (t.waitw = some (r, a, v, since)) && decide (v ≤ s.pkg.dword a))
      && (
        let s : State := S { ins 0 (x2 0 0 { waitw := some (4, 0x1000, 6, 5) }) with dstore := [(0x1000, 5)], tempo := { now := 50000005 } }
        let n : Nat := 5
        let t := s.pkg.tile n
        let r := 4
        let a := 0x1000
        let v := 6
        let since := 5
        decide (n < 6144) && decide (s.pkg.fw.off = 0) && decide (t.waitw = some (r, a, v, since)) && decide (since + 50000000 ≤ s.pkg.tempo.now) && decide (s.pkg.dword a < v))
      && (
        let s : State := S { ins 0 (x2 0 0 { waitw := some (4, 0x1000, 6, 5) }) with dstore := [(0x1000, 5)], tempo := { now := 50000004 } }
        let n : Nat := 5
        let t := s.pkg.tile n
        let r := 4
        let a := 0x1000
        let v := 6
        let since := 5
        decide (n < 6144) && decide (s.pkg.fw.off = 0) && decide (t.waitw = some (r, a, v, since)) && decide (s.pkg.tempo.now < since + 50000000))) = true := by decide +kernel

/-- The hypotheses of `PlyEntryClearsMatrix`, clauses 1, 2, 6, can be met. -/
theorem witness_PlyEntryClearsMatrix :
      ((
        let s : State := S ((ins 0).setTile 5 { ((ins 0).tile 5) with mode := .draining, mx := mxfull })
        let n : Nat := 5
        decide (n < 6144) && decide (s.pkg.fw.off = 0) && decide ((s.pkg.tile n).mode = .draining))
      && (
        let s : State := S ((ins 0).setTile 5 { ((ins 0).tile 5) with mode := .faulted, mx := mxfull })
        let n : Nat := 5
        decide (n < 6144) && decide (s.pkg.fw.off = 0) && decide ((s.pkg.tile n).mode = .faulted) && decide (∀ r ∈ s.pkg.fault.open_, r.tile = n → r.step = 1))
      && (
        let k : Pkg := ins 0 { mx := mxfull, gambit := true }
        let n : Nat := 5
        decide ((k.tile n).gambit = true) && decide ((k.tile n).mode = .running ∨ (k.tile n).mode = .gambitHeld))) = true := by decide +kernel

/-- The hypotheses of `PlyEvents`, clauses 1, 2, 3, 4, 5, 6, 7, 8, 9, 10, 11, can be met. -/
theorem witness_PlyEvents :
      ((
        let s : State := S (moded .running { ops := [{}] })
        let n : Nat := 5
        let t := s.pkg.tile n
        decide (n < 6144) && decide (s.pkg.fw.off = 0) && decide (t.mode ≠ .draining))
      && (
        let s : State := S (moded .draining (x2 5 6 { buf := [(1, .store 0x1000 (bytes [1,2]) false), (2, .rel 0x2000 9)], fend := some true, mx := mxfull }))
        let n : Nat := 5
        let t := s.pkg.tile n
        decide (n < 6144) && decide (s.pkg.fw.off = 0) && decide (t.mode = .draining))
      && (
        let s : State := S (moded .draining (x2 5 6))
        let n : Nat := 5
        let t := s.pkg.tile n
        decide (n < 6144) && decide (s.pkg.fw.off = 0) && decide (t.mode = .draining) && decide (t.buf = []) && decide (∀ d ∈ s.pkg.sdies, d.2.arriving = []) && decide (t.fend = none) && decide (s.pkg.fault.open_ = []) && decide (s.pkg.net.sends = []))
      && (
        let s : State := S (moded .running { active := 60000, ops := [{}] })
        let n : Nat := 5
        let t := s.pkg.tile n
        let p := t.part - 1
        decide (n < 6144) && decide (s.pkg.fw.off = 0) && decide (t.mode = .running) && decide ((s.pkg.part p).mem.cap * 1500 ≤ t.active))
      && (
        let s : State := S (moded .running { active := 59999, ops := [{}] })
        let n : Nat := 5
        let t := s.pkg.tile n
        let p := t.part - 1
        decide (n < 6144) && decide (s.pkg.fw.off = 0) && decide (t.active < (s.pkg.part p).mem.cap * 1500))
      && (
        let s : State := S (moded .faulted { active := 59999, ops := [{}] })
        let n : Nat := 5
        let t := s.pkg.tile n
        decide (n < 6144) && decide (s.pkg.fw.off = 0) && decide (t.mode = .faulted) && decide (∀ r ∈ s.pkg.fault.open_, r.tile = n → r.step = 1))
      && (
        let s : State := S (moded .running { active := 59999, ocache := [(5, 7)] })
        let n : Nat := 5
        let t := s.pkg.tile n
        let l := 8191
        decide (n < 6144) && decide (s.pkg.fw.off = 0) && decide (t.part ≠ 0) && decide (l < 8192) && decide (Memory.wf t.ocache = true))
      && (
        let s : State := S (moded .running)
        let n : Nat := 5
        let t := s.pkg.tile n
        let l := 11263
        decide (n < 6144) && decide (s.pkg.fw.off = 0) && decide (t.part ≠ 0) && decide (8192 ≤ l) && decide (l < 11264))
      && (
        let s : State := S (moded .stopped)
        let n : Nat := 5
        let t := s.pkg.tile n
        decide (n < 6144) && decide (s.pkg.fw.off = 0) && decide (t.busy = false))
      && (
        let s : State := S (moded .running)
        let n : Nat := 5
        let t := s.pkg.tile n
        let p := t.part - 1
        let e := (s.pkg.bump (0x3860 + p) 7 1).noteError (0x1000000 + n)
        decide (n < 6144) && decide (s.pkg.fw.off = 0) && decide (t.busy = true) && decide (e.1 < 3))
      && (
        let s : State := S ({ moded .running with fault := { times := [(0x1000005, [899, 898])] } })
        let n : Nat := 5
        let t := s.pkg.tile n
        let p := t.part - 1
        let e := (s.pkg.bump (0x3860 + p) 7 1).noteError (0x1000000 + n)
        decide (n < 6144) && decide (s.pkg.fw.off = 0) && decide (t.busy = true) && decide (3 ≤ e.1))) = true := by decide +kernel

/-- The hypotheses of `SolverBatches`, clauses 1, 2, 3, 4, 5, 6, 7, 8, 9, 10, 12, 13, can be met. -/
theorem witness_SolverBatches_1 :
      ((
        let s : State := S (sol {})
        let e : Nat := 0
        decide (e < 768) && decide (s.pkg.fw.off = 0) && decide (s.pkg.nextBatch e = none))
      && (
        let s : State := S (sol { queue := [rq, { rq with stamp := 9 }] } (shdr 0x01 2 0 0x1000 0x800 0x2001 0))
        let e : Nat := 0
        let r := rq
        let raw := s.pkg.dstore.readN r.hdr 128
        let h := solverHdr raw
        decide (e < 768) && decide (s.pkg.fw.off = 0) && decide (s.pkg.nextBatch e = some r) && decide (h.doneOk (winOf r.tile) = false))
      && (
        let s : State := S (sol { queue := [rq, { rq with stamp := 9 }] } (shdr 0x01 2 0 0x1000 0x800 0x2000 5))
        let e : Nat := 0
        let r := rq
        let raw := s.pkg.dstore.readN r.hdr 128
        let h := solverHdr raw
        decide (e < 768) && decide (s.pkg.fw.off = 0) && decide (s.pkg.nextBatch e = some r) && decide (h.doneOk (winOf r.tile) = true) && decide (h.check r.count (winOf r.tile) ≠ 0))
      && (
        let s : State := S (sol { queue := [rq, { rq with stamp := 9 }] })
        let e : Nat := 0
        let r := rq
        let raw := s.pkg.dstore.readN r.hdr 128
        let h := solverHdr raw
        decide (e < 768) && decide (s.pkg.fw.off = 0) && decide (s.pkg.nextBatch e = some r) && decide (h.doneOk (winOf r.tile) = true) && decide (h.check r.count (winOf r.tile) = 0))
      && (
        let b := { req := rq, hdr := shd }
        let s : State := S (sol { batches := [b] })
        let e : Nat := 0
        let x := s.pkg.engine e
        decide (e < 768) && decide (s.pkg.fw.off = 0) && decide (x.batches.find? (fun b => decide (b.next < b.req.count)) = some b) && decide (s.pkg.slotsUsed e + (solverHdr b.hdr).slots ≤ 32) && decide (x.probs.all (·.loaded) = true) && decide (s.pkg.engineUp e = true))
      && (
        let b := { req := rq, hdr := shd }
        let s : State := S (sol { batches := [b], probs := List.replicate 32 { slots := 1, stamp := 1, loaded := true } })
        let e : Nat := 0
        let x := s.pkg.engine e
        decide (e < 768) && decide (s.pkg.fw.off = 0) && decide (x.batches.find? (fun b => decide (b.next < b.req.count)) = some b) && decide (32 < s.pkg.slotsUsed e + (solverHdr b.hdr).slots) && decide (x.probs.all (·.loaded) = true))
      && (
        let b : Batch := { req := rq, hdr := shd, next := 1 }
        let p : Prob := { stamp := 7, idx := 0, input := some (List.replicate 64 0x3F) }
        let s : State := S (sol { batches := [b], probs := [p] })
        let e : Nat := 0
        let x := s.pkg.engine e
        let place : Nat := 0
        decide (e < 768) && decide (s.pkg.fw.off = 0) && decide (s.pkg.engineUp e = true) && decide (x.resident place = some p) && decide (x.batches.find? (fun b => decide (b.req.stamp = p.stamp)) = some b))
      && (
        let b := { req := rq, hdr := shd, next := 2, completed := 2 }
        let s : State := S (sol { batches := [b] })
        let e : Nat := 0
        let x := s.pkg.engine e
        decide (e < 768) && decide (s.pkg.fw.off = 0) && decide (x.batches.find? (fun b => decide (b.completed = b.req.count)) = some b))
      && (
        let b : Batch := { req := rq, hdr := shd, next := 1 }
        let p : Prob := { stamp := 7, idx := 0, input := some (List.replicate 64 0x3F) }
        let s : State := S (sol { batches := [b], probs := [p] })
        let e : Nat := 0
        let x := s.pkg.engine e
        let lane : Nat := 3
        let place : Nat := 0
        let d := s.pkg.servedBy e
        let n := (s.pkg.bump (0x3800 + b.req.part) 8 1).noteError (0x3000000 + d * 64 + lane)
        decide (e < 768) && decide (s.pkg.fw.off = 0) && decide (x.resident place = some p) && decide (x.batches.find? (fun b => decide (b.req.stamp = p.stamp)) = some b) && decide (n.1 < 2))
      && (
        let b : Batch := { req := rq, hdr := shd, next := 1 }
        let p : Prob := { stamp := 7, idx := 0, input := some (List.replicate 64 0x3F) }
        let s : State := S { sol { batches := [b], probs := [p] } with fault := { times := [(0x3000003, [899, 898])] } }
        let e : Nat := 0
        let x := s.pkg.engine e
        let lane : Nat := 3
        let place : Nat := 0
        let d := s.pkg.servedBy e
        let y := s.pkg.engine d
        let n := (s.pkg.bump (0x3800 + b.req.part) 8 1).noteError (0x3000000 + d * 64 + lane)
        decide (e < 768) && decide (s.pkg.fw.off = 0) && decide (x.resident place = some p) && decide (x.batches.find? (fun b => decide (b.req.stamp = p.stamp)) = some b) && decide (2 ≤ n.1) && decide (y.lanes < 2))
      && (
        let b := { req := rq, hdr := shd, next := 1 }
        let p := { stamp := 7, idx := 0, slots := 33, loaded := false }
        let s : State := S (sol { batches := [b], probs := [p] })
        let e : Nat := 0
        let x := s.pkg.engine e
        decide (e < 768) && decide (s.pkg.fw.off = 0) && decide (x.probs = [p]) && decide (p.loaded = false) && decide (32 < s.pkg.slotsUsed e + p.slots))
      && (
        let b := { req := rq, hdr := shd, next := 1 }
        let p := { stamp := 7, idx := 0, slots := 2, loaded := false }
        let s : State := S (sol { batches := [b], probs := [p] })
        let e : Nat := 0
        let x := s.pkg.engine e
        decide (e < 768) && decide (s.pkg.fw.off = 0) && decide (x.probs = [p]) && decide (p.loaded = false) && decide (s.pkg.slotsUsed e + p.slots ≤ 32) && decide (s.pkg.engineUp e = true))) = true := by decide +kernel

/-- The hypotheses of `SolverBatches`, clauses 14, 17, 18, 19, can be met. -/
theorem witness_SolverBatches_2 :
      ((
        let s : State := S (sol {})
        let e : Nat := 0
        let x := s.pkg.engine e
        decide (e < 768) && decide (s.pkg.fw.off = 0) && decide (x.probs = []))
      && (
        let s : State := S (sol {})
        let e : Nat := 0
        let x := s.pkg.engine e
        decide (e < 768) && decide (s.pkg.fw.off = 0) && decide (x.batches = []))
      && (
        let s : State := S (sol {})
        let e : Nat := 0
        decide (e < 768) && decide (s.pkg.fw.off = 0) && decide (s.pkg.engineUp e = true))
      && (
        let s : State := S (sol { lanes := 3, queue := [rq] })
        let e : Nat := 0
        let x := s.pkg.engine e
        decide (e < 768) && decide (s.pkg.fw.off = 0) && decide (2 < x.lanes) && decide (x.mapped = 0) && decide (s.pkg.sharers e = [e]) && decide (x.probs = []) && decide ((s.pkg.engine (if e % 16 = 15 then e - 1 else e + 1)).lanes ≤ 2))) = true := by decide +kernel

/-- The hypotheses of `SolverNumbersFollowTheTile`, clauses 1, 2, can be met. -/
theorem witness_SolverNumbersFollowTheTile :
      ((
        let d := 47
        let l := 127
        decide (d < 48) && decide (l < 128))
      && (
        let r : SolveReq := rq
        let e := 1
        decide (e ≠ engineOf r.tile))) = true := by decide +kernel

/-- The hypotheses of `StoreDies`, clauses 1, 2, 3, 4, 7, 8, 9, 10, 11, 12, 13, 14, can be met. -/
theorem witness_StoreDies_1 :
      ((
        let s : State := S { ins 0 with sdies := [(0, { arriving := dws, scrub := 20971519 })], cached := [(0x40, 1)], scache := [(0x40, {})] }
        let d : Nat := 0
        let x := s.pkg.sdie d
        decide (d < 48) && decide (s.pkg.fw.off = 0) && decide (∀ w ∈ x.arriving, w.reply = none))
      && (
        let w := dws.head!
        let s : State := S { ins 0 with sdies := [(0, { arriving := [w] })] }
        let d : Nat := 0
        let x := s.pkg.sdie d
        decide (d < 48) && decide (s.pkg.fw.off = 0) && decide (x.arriving = [w]) && decide (s.pkg.mustWait d w = false) && decide (w.reply = none))
      && (
        let h := ({ op := 2, src := 9} : Hdr).enc
        let w := { src := 4, addr := 0x1000, data := bytes [1,2,3], reply := some (h, 0) }
        let s : State := S { ins 0 with sdies := [(0, { arriving := [w] })] }
        let d : Nat := 0
        let x := s.pkg.sdie d
        let code := 0
        decide (d < 48) && decide (s.pkg.fw.off = 0) && decide (x.arriving = [w]) && decide (s.pkg.mustWait d w = false) && decide (w.src = 4) && decide (w.reply = some (h, code)))
      && (
        let w := { dws.head! with acc := true }
        let s : State := S { ins 0 with sdies := [(0, { arriving := [w] })] }
        let d : Nat := 0
        let x := s.pkg.sdie d
        decide (d < 48) && decide (s.pkg.fw.off = 0) && decide (x.arriving = [w]) && decide (s.pkg.mustWait d w = true))
      && (
        let s : State := S { ins 0 with sdies := [(0, { arriving := dws, scrub := 20971519 })], cached := [(0x40, 1)], scache := [(0x40, {})] }
        let d : Nat := 0
        let l := 20971519
        decide (d < 48) && decide (s.pkg.fw.off = 0) && decide (l < 20971520))
      && (
        let s : State := S { ins 0 with sdies := [(0, { spares := 0 })] }
        let d : Nat := 0
        let x := s.pkg.sdie d
        let b := 9
        decide (d < 48) && decide (s.pkg.fw.off = 0) && decide (b < 256) && decide (∀ (i : Nat), i < 8 → x.dead (b / 8 * 8 + i) = false) && decide (x.spares = 0))
      && (
        let s : State := S { ins 0 with sdies := [(0, { spares := 2 })] }
        let d : Nat := 0
        let x := s.pkg.sdie d
        let b := 9
        decide (d < 48) && decide (s.pkg.fw.off = 0) && decide (b < 256) && decide (∀ (i : Nat), i < 8 → x.dead (b / 8 * 8 + i) = false) && decide (1 < x.spares))
      && (
        let s : State := S { ins 0 with sdies := [(0, { spares := 2, banks := [(9, 1)] })] }
        let d : Nat := 0
        let x := s.pkg.sdie d
        let b := 9
        decide (d < 48) && decide (s.pkg.fw.off = 0) && decide (b < 256) && decide (x.dead b = true))
      && (
        let s : State := S { ins 0 with sdies := [(0, { spares := 2, banks := [(9, 1)] })] }
        let d : Nat := 0
        let x := s.pkg.sdie d
        let b := 9
        decide (d < 48) && decide (s.pkg.fw.off = 0) && decide (b < 256) && decide (Tab.get 0 x.banks b = 1) && decide (x.otherDead b = false))
      && (
        let s : State := S { ins 0 with sdies := [(0, { spares := 2, banks := [(9, 2)] })] }
        let d : Nat := 0
        let x := s.pkg.sdie d
        let b := 9
        decide (d < 48) && decide (s.pkg.fw.off = 0) && decide (b < 256) && decide (Tab.get 0 x.banks b ≠ 1))
      && (
        let w : DWrite := { src := 0, unit := 5, part := 3, seq := 4, idx := 0, addr := 0x1000, data := bytes [1,2,3], acc := true }
        decide (w.src ≤ 1))
      && (
        let s : State := S { ins 0 with sdies := [(0, { arriving := dws, scrub := 20971519 })], cached := [(0x40, 1)], scache := [(0x40, {})] }
        let l := 5
        decide (s.pkg.fw.off = 0) && decide (l ∉ s.pkg.invals))) = true := by decide +kernel

/-- The hypotheses of `StoreDies`, clauses 15, 16, 17, 18, 19, can be met. -/
theorem witness_StoreDies_2 :
      ((
        let s : State := S { ins 0 with invals := [4, 5], scache := [(5, {}), (6, {})], cached := [(5, 1)] }
        let l := 5
        decide (s.pkg.fw.off = 0) && decide (l ∈ s.pkg.invals) && decide (s.pkg.relWait = []) && decide (s.pkg.colls = []))
      && (
        let s : State := S { ins 0 with slices := [(4, { retired := 8 })] }
        let c := 4
        let set := 16383
        let way := 3
        let kind := 2
        decide (s.pkg.fw.off = 0) && decide (c < 64) && decide (set < 16384) && decide (way < 16) && decide (kind < 3) && decide (bit (s.pkg.cslice c).retired way = true))
      && (
        let s : State := S { ins 0 with slices := [(4, { retired := 0, errs := [(3, 14)] })] }
        let c := 4
        let set := 16383
        let way := 3
        let kind := 2
        decide (s.pkg.fw.off = 0) && decide (c < 64) && decide (set < 16384) && decide (way < 16) && decide (kind < 3) && decide (bit (s.pkg.cslice c).retired way = false) && decide (Tab.get 0 (s.pkg.cslice c).errs way + 1 < 16))
      && (
        let s : State := S { ins 0 with tier := { regions := [(7, { st := 3, toward := 1, part := 3, gen := 8 })] } }
        let r := 7
        decide (s.pkg.fw.off = 0) && decide (r < 1024) && decide ((s.pkg.region r).st = 3) && decide (s.pkg.regionRefs r = 0) && decide (s.pkg.tier.creating = []) && decide ((s.pkg.region r).toward = 1))
      && (
        let s : State := S { ins 0 with tier := { regions := [(7, { st := 3, toward := 0, part := 3, gen := 8 })] } }
        let r := 7
        decide (s.pkg.fw.off = 0) && decide (r < 1024) && decide ((s.pkg.region r).st = 3) && decide (s.pkg.regionRefs r = 0) && decide (s.pkg.tier.creating = []) && decide ((s.pkg.region r).toward ≠ 1))) = true := by decide +kernel

/-- The hypotheses of `HartInstructions`, clauses 1, 2, 3, 4, 5, 6, 7, 8, 9, 10, 11, 12, can be met. -/
theorem witness_HartInstructions_1 :
      ((
        let w : Nat := eI 0x37 7 4 0 0xABC
        let s : State := S (hh w (hx [(1, 100), (2, 0xFFFFFFFFFFFFFFF0), (3, 0x1FFC)]))
        let h : Nat := 16
        let len : Nat := 4
        let raw : Nat := w
        let k : Pkg := (s.pkg.hFetch 16).2
        decide (s.pkg.hFetches h w len raw k) && decide (Rv.opc w = 0x37))
      && (
        let w : Nat := eI 0x17 7 4 0 0x7BC
        let s : State := S (hh w (hx [(1, 100), (2, 0xFFFFFFFFFFFFFFF0), (3, 0x1FFC)]))
        let h : Nat := 16
        let len : Nat := 4
        let raw : Nat := w
        let k : Pkg := (s.pkg.hFetch 16).2
        decide (s.pkg.hFetches h w len raw k) && decide (Rv.opc w = 0x17))
      && (
        let w : Nat := eI 0x13 0 4 2 0xFFF
        let s : State := S (hh w (hx [(1, 100), (2, 0xFFFFFFFFFFFFFFF0), (3, 0x1FFC)]))
        let h : Nat := 16
        let len : Nat := 4
        let raw : Nat := w
        let k : Pkg := (s.pkg.hFetch 16).2
        let x := (k.hart h).a
        let a := x.xr (Rv.rs1 w)
        let v := 0xFFFFFFFFFFFFFFEF
        decide (s.pkg.hFetches h w len raw k) && decide (Rv.opc w = 0x13) && decide (Rv.f3 w ≠ 6) && decide (hImm w a = some v))
      && (
        let w : Nat := eI 0x1B 0 4 2 0xFFF
        let s : State := S (hh w (hx [(1, 100), (2, 0xFFFFFFFFFFFFFFF0), (3, 0x1FFC)]))
        let h : Nat := 16
        let len : Nat := 4
        let raw : Nat := w
        let k : Pkg := (s.pkg.hFetch 16).2
        let x := (k.hart h).a
        let a := x.xr (Rv.rs1 w)
        let v := 0xFFFFFFFFFFFFFFEF
        decide (s.pkg.hFetches h w len raw k) && decide (Rv.opc w = 0x1B) && decide (hImm32 w a = some v))
      && (
        let w : Nat := eR 0x33 0 0x20 4 1 2
        let s : State := S (hh w (hx [(1, 100), (2, 0xFFFFFFFFFFFFFFF0), (3, 0x1FFC)]))
        let h : Nat := 16
        let len : Nat := 4
        let raw : Nat := w
        let k : Pkg := (s.pkg.hFetch 16).2
        let x := (k.hart h).a
        let a := x.xr (Rv.rs1 w)
        let b := x.xr (Rv.rs2 w)
        let v := 116
        decide (s.pkg.hFetches h w len raw k) && decide (Rv.opc w = 0x33) && decide (Rv.rd w ≠ 0) && decide (hAlu (Rv.f7 w) (Rv.f3 w) a b = some v))
      && (
        let w : Nat := eR 0x3B 0 0x20 4 1 2
        let s : State := S (hh w (hx [(1, 100), (2, 0xFFFFFFFFFFFFFFF0), (3, 0x1FFC)]))
        let h : Nat := 16
        let len : Nat := 4
        let raw : Nat := w
        let k : Pkg := (s.pkg.hFetch 16).2
        let x := (k.hart h).a
        let a := x.xr (Rv.rs1 w)
        let b := x.xr (Rv.rs2 w)
        let v := 116
        decide (s.pkg.hFetches h w len raw k) && decide (Rv.opc w = 0x3B) && decide (hAlu32 (Rv.f7 w) (Rv.f3 w) (Rv.rs2 w) a b = some v))
      && (
        let w : Nat := eI 0x6F 0 4 0 0x008
        let s : State := S (hh w (hx [(1, 100), (2, 0xFFFFFFFFFFFFFFF0), (3, 0x1FFC)]))
        let h : Nat := 16
        let len : Nat := 4
        let raw : Nat := w
        let k : Pkg := (s.pkg.hFetch 16).2
        decide (s.pkg.hFetches h w len raw k) && decide (Rv.opc w = 0x6F))
      && (
        let w : Nat := eI 0x67 0 4 3 0x008
        let s : State := S (hh w (hx [(1, 100), (2, 0xFFFFFFFFFFFFFFF0), (3, 0x1FFC)]))
        let h : Nat := 16
        let len : Nat := 4
        let raw : Nat := w
        let k : Pkg := (s.pkg.hFetch 16).2
        decide (s.pkg.hFetches h w len raw k) && decide (Rv.opc w = 0x67) && decide (Rv.f3 w = 0))
      && (
        let w : Nat := eS 0x63 1 1 2 8
        let s : State := S (hh w (hx [(1, 100), (2, 0xFFFFFFFFFFFFFFF0), (3, 0x1FFC)]))
        let h : Nat := 16
        let len : Nat := 4
        let raw : Nat := w
        let k : Pkg := (s.pkg.hFetch 16).2
        let x := (k.hart h).a
        let a := x.xr (Rv.rs1 w)
        let b := x.xr (Rv.rs2 w)
        decide (s.pkg.hFetches h w len raw k) && decide (Rv.opc w = 0x63) && decide (Rv.branchTaken (Rv.f3 w) a b = some true))
      && (
        let w : Nat := eS 0x63 0 1 2 8
        let s : State := S (hh w (hx [(1, 100), (2, 0xFFFFFFFFFFFFFFF0), (3, 0x1FFC)]))
        let h : Nat := 16
        let len : Nat := 4
        let raw : Nat := w
        let k : Pkg := (s.pkg.hFetch 16).2
        let x := (k.hart h).a
        let a := x.xr (Rv.rs1 w)
        let b := x.xr (Rv.rs2 w)
        decide (s.pkg.hFetches h w len raw k) && decide (Rv.opc w = 0x63) && decide (Rv.branchTaken (Rv.f3 w) a b = some false))
      && (
        let w : Nat := eI 0x03 2 4 3 0x008
        let s : State := S (hh w (hx [(1, 100), (2, 0xFFFFFFFFFFFFFFF0), (3, 0x1FFC)]))
        let h : Nat := 16
        let len : Nat := 4
        let raw : Nat := w
        let k : Pkg := (s.pkg.hFetch 16).2
        let x := (k.hart h).a
        let a := x.xr (Rv.rs1 w)
        let z := 4
        let m := 0x2004
        let va := x.maskPtr (a + Rv.immI w).toNat
        decide (s.pkg.hFetches h w len raw k) && decide (Rv.opc w = 0x03) && decide (Rv.f3 w < 7) && decide (Rv.accSize (Rv.f3 w) = z) && decide (k.resolve h 1 (pageParts va z) = (.parts [(.mem m, z)], k)) && decide ((Tab.find k.scache (m / 64)).isSome = true) && decide (m / 64 = (m + z - 1) / 64) && decide (homeSlice (m / 64) / 16 = h / 384))
      && (
        let w : Nat := eS 0x23 3 3 2 0x0c
        let s : State := S (hh w (hx [(1, 100), (2, 0xFFFFFFFFFFFFFFF0), (3, 0x1FFC)]))
        let h : Nat := 16
        let len : Nat := 4
        let raw : Nat := w
        let k : Pkg := (s.pkg.hFetch 16).2
        let x := (k.hart h).a
        let a := x.xr (Rv.rs1 w)
        let z := 8
        let m := 0x2008
        let va := x.maskPtr (a + Rv.immS w).toNat
        let want := ((linesOf m z).filter (fun l => !((k.hart h).lines.contains l))).eraseDups
        decide (s.pkg.hFetches h w len raw k) && decide (Rv.opc w = 0x23) && decide (Rv.f3 w < 4) && decide (Rv.accSize (Rv.f3 w) = z) && decide (k.resolve h 2 (pageParts va z) = (.parts [(.mem m, z)], k)) && decide ((k.hart h).part ≠ 0) && decide (k.bufUnits (h / 8) + want.length ≤ 1024))) = true := by decide +kernel

/-- The hypotheses of `HartInstructions`, clauses 13, 14, 15, 16, 17, 18, 19, 20, 21, 22, can be met. -/
theorem witness_HartInstructions_2 :
      ((
        let w : Nat := eS 0x23 3 3 2 0x0c
        let s : State := S (let kk := hh w (hx [(1, 100), (2, 0xFFFFFFFFFFFFFFF0), (3, 0x1FFC)]); { kk with harts := kk.harts.map (fun e => (e.1 - 8, { e.2 with part := 0 })) })
        let h : Nat := 8
        let len : Nat := 4
        let raw : Nat := w
        let k : Pkg := (s.pkg.hFetch 8).2
        let x := (k.hart h).a
        let a := x.xr (Rv.rs1 w)
        let z := 8
        let m := 0x2008
        let va := x.maskPtr (a + Rv.immS w).toNat
        decide (s.pkg.hFetches h w len raw k) && decide (Rv.opc w = 0x23) && decide (Rv.f3 w < 4) && decide (Rv.accSize (Rv.f3 w) = z) && decide (k.resolve h 2 (pageParts va z) = (.parts [(.mem m, z)], k)) && decide ((k.hart h).part = 0))
      && (
        let w : Nat := 0x0310000F
        let s : State := S (hh w (hx [(1, 100), (2, 0xFFFFFFFFFFFFFFF0), (3, 0x1FFC)]))
        let h : Nat := 16
        let len : Nat := 4
        let raw : Nat := w
        let k : Pkg := (s.pkg.hFetch 16).2
        decide (s.pkg.hFetches h w len raw k) && decide (Rv.opc w = 0x0F) && decide (Rv.f3 w = 0) && decide (bit w 24 = true))
      && (
        let w : Nat := 0x0230000F
        let s : State := S (hh w (hx [(1, 100), (2, 0xFFFFFFFFFFFFFFF0), (3, 0x1FFC)]))
        let h : Nat := 16
        let len : Nat := 4
        let raw : Nat := w
        let k : Pkg := (s.pkg.hFetch 16).2
        decide (s.pkg.hFetches h w len raw k) && decide (Rv.opc w = 0x0F) && decide (Rv.f3 w = 0) && decide (bit w 24 = false))
      && (
        let w : Nat := eR 0x73 0 9 0 0 0
        let s : State := S (hh w (hx [(1, 100), (2, 0xFFFFFFFFFFFFFFF0), (3, 0x1FFC)]))
        let h : Nat := 16
        let len : Nat := 4
        let raw : Nat := w
        let k : Pkg := (s.pkg.hFetch 16).2
        let x := (k.hart h).a
        decide (s.pkg.hFetches h w len raw k) && decide (Rv.opc w = 0x73) && decide (Rv.f3 w = 0) && decide (Rv.rd w = 0) && decide (Rv.f7 w = 9) && decide (x.priv = 1))
      && (
        let w : Nat := 0x73
        let s : State := S (hh w { a := { priv := 0 } })
        let h : Nat := 16
        let len : Nat := 4
        let raw : Nat := w
        let k : Pkg := (s.pkg.hFetch 16).2
        let x := (k.hart h).a
        decide (s.pkg.hFetches h w len raw k) && decide (w = 0x73) && decide (x.priv = 0 ∨ s.pkg.svc h = true))
      && (
        let w : Nat := 0x100073
        let s : State := S (hh w (hx [(1, 100), (2, 0xFFFFFFFFFFFFFFF0), (3, 0x1FFC)]))
        let h : Nat := 16
        let len : Nat := 4
        let raw : Nat := w
        let k : Pkg := (s.pkg.hFetch 16).2
        decide (s.pkg.hFetches h w len raw k) && decide (w = 0x100073))
      && (
        let w : Nat := 0x0B
        let s : State := S (hh w (hx [(1, 100), (2, 0xFFFFFFFFFFFFFFF0), (3, 0x1FFC)]))
        let h : Nat := 16
        let len : Nat := 4
        let raw : Nat := w
        let k : Pkg := (s.pkg.hFetch 16).2
        decide (s.pkg.hFetches h w len raw k) && decide (Rv.opc w = 0x0B))
      && (
        let w := 0x0B
        let s : State := S (hh w { a := { csr := { sie := 2, sip := 2, sstatus := 2, stvec := 0x80 } } })
        let h : Nat := 16
        let c := 1
        decide (h < 1536) && decide (s.pkg.fw.off = 0) && decide (s.pkg.hartRuns h = true) && decide (s.pkg.irqDue h = some c))
      && (
        let w := 0
        let s : State := S { hh w with harts := [(16, { part := 4, on := true, a := { pc := 0x80001000 } })] }
        let h : Nat := 16
        let c := 1
        let va := 0x80001000
        let k := (s.pkg.hFetch 16).2
        decide (h < 1536) && decide (s.pkg.fw.off = 0) && decide (s.pkg.hartRuns h = true) && decide (s.pkg.irqDue h = none) && decide (s.pkg.hFetch h = (.fault c va, k)))
      && (
        let w := 0x0B
        let s : State := S { hh w with cores := [(2, { cur := 1 })] }
        let h : Nat := 16
        decide (h < 1536) && decide (s.pkg.hartRuns h = false))) = true := by decide +kernel

/-- The hypotheses of `HartInstructions`, part `HartRegisters`, clauses 3, 4, 15, 29, 35, 37, 38, can be met. -/
theorem witness_HartRegisters :
      ((
        let i : Nat := 5
        decide (i ≠ 0))
      && (
        let i : Nat := 5
        let j := 3
        decide (j ≠ i))
      && (
        let a : HArch := { pc := 0x1234, priv := 1, x := [(3, 4)], csr := { sstatus := 0x100000002, stvec := 0x800 } }
        decide (a.priv < 2) && decide (a.csr.stvec % 4 = 0))
      && (
        let a : HArch := { pc := 0x1234, priv := 1, x := [(3, 4)], csr := { sstatus := 0x100000002, stvec := 0x800 } }
        decide (a.priv < 4) && decide (a.priv ≠ 2) && decide (a.csr.mtvec % 4 = 0))
      && (
        let h : Nat := 16
        let j := 17
        decide (j ≠ h))
      && (
        let a : HArch := { pc := 0x1234, priv := 1, csr := { mideleg := 0x222 } }
        let c : Nat := 5
        let q : Bool := true
        decide (a.priv ≤ 1) && decide (bit (if q then a.csr.mideleg else a.csr.medeleg) c = true))
      && (
        let a : HArch := { pc := 0x1234, priv := 1, x := [(3, 4)], csr := { sstatus := 0x100000002, stvec := 0x800 } }
        let c : Nat := 5
        let q : Bool := true
        decide (a.priv = 3 ∨ bit (if q then a.csr.mideleg else a.csr.medeleg) c = false))) = true := by decide +kernel

/-- The hypotheses of `HartMarks`, clauses 1, 2, 3, 4, 6, 7, 8, 9, 10, 11, 12, can be met. -/
theorem witness_HartMarks :
      ((
        let w := 0x705B
        let s : State := S (hh w)
        let h : Nat := 16
        let len : Nat := 4
        let raw : Nat := w
        let k : Pkg := (s.pkg.hFetch 16).2
        decide (s.pkg.hFetches h 0x705B len raw k))
      && (
        let w := 0x705B
        let s : State := S { hh w { n := 3, since := 5 } with tempo := { now := 40005 } }
        let h : Nat := 16
        decide (h < 1536) && decide (s.pkg.fw.off = 0) && decide (s.pkg.hartMode h = true) && decide ((s.pkg.hart h).marked = false) && decide ((s.pkg.hart h).part ≠ 0) && decide ((s.pkg.hart h).wait ∈ [.none, .access, .wfi, .suspend]) && decide ((s.pkg.hart h).since + 40000 ≤ s.pkg.tempo.now))
      && (
        let w := 0x705B
        let s : State := S { hh w { n := 3, since := 5 } with tempo := { now := 40004 } }
        let h : Nat := 16
        decide (h < 1536) && decide (s.pkg.fw.off = 0) && decide (s.pkg.hartMode h = true) && decide ((s.pkg.hart h).marked = false) && decide ((s.pkg.hart h).part ≠ 0) && decide ((s.pkg.hart h).wait ∈ [.none, .access, .wfi, .suspend]) && decide (s.pkg.tempo.now < (s.pkg.hart h).since + 40000))
      && (
        let k : Pkg := hh 0 { marked := true }
        let h : Nat := 16
        decide ((k.hart h).marked = true ∨ (k.hart h).part = 0))
      && (
        let k : Pkg := hh 0 { n := 3, resv := some (4, 5) }
        let h : Nat := 16
        decide ((k.hart h).marked = false) && decide ((k.hart h).part ≠ 0))
      && (
        let h : Nat := 16
        let j := 17
        decide (j ≠ h))
      && (
        let w := 0x705B
        let s : State := S (hh w { n := 3, marked := true, buf := [(0x1008, bytes [1,2])], lines := [0x40] })
        let h : Nat := 16
        let x := s.pkg.hart h
        decide (h < 1536) && decide (s.pkg.fw.off = 0) && decide (x.part ≠ 0) && decide (x.on = true) && decide (x.marked = true) && decide (x.wait = .none) && decide ((Tab.get {} s.pkg.cores (h / 8)).failed = false))
      && (
        let w := 0x705B
        let s : State := S (hh w { wait := .wfi })
        let h : Nat := 16
        decide (h < 1536) && decide (s.pkg.fw.off = 0) && decide ((s.pkg.hart h).on = true) && decide ((s.pkg.hart h).wait = .access ∨ (s.pkg.hart h).wait = .wfi ∨ (s.pkg.hart h).wait = .suspend))
      && (
        let len := 4
        let w := 0x705B
        let s : State := S (hh w { wait := .answered { dst := .x 3 true, size := 4, len := 4, va := 0x55 } (bytes [1,2,3,0xF4]) 0 0 })
        let h : Nat := 16
        let a := { dst := .x 3 true, size := 4, len := 4, va := 0x55 }
        let d := bytes [1,2,3,0xF4]
        let node := 0
        decide (h < 1536) && decide (s.pkg.fw.off = 0) && decide ((s.pkg.hart h).on = true) && decide ((s.pkg.hart h).wait = .answered a d 0 node) && decide (a.rest = []))
      && (
        let len := 4
        let w := 0x705B
        let s : State := S (hh w { wait := .answered { dst := .x 3 true, size := 4, len := 4, va := 0x55 } (bytes [1,2,3,0xF4]) 4 6 })
        let h : Nat := 16
        let a := { dst := .x 3 true, size := 4, len := 4, va := 0x55 }
        let d := bytes [1,2,3,0xF4]
        let c := 4
        let node := 6
        decide (h < 1536) && decide (s.pkg.fw.off = 0) && decide ((s.pkg.hart h).on = true) && decide (c ≠ 0) && decide ((s.pkg.hart h).wait = .answered a d c node))
      && (
        let w := 0x705B
        let s : State := S (let kk := hh w { wait := .wfi }; kk.setHart 17 { kk.hart 17 with on := true })
        let c : Nat := 2
        let i : Nat := 1
        let x : CoreSt := Tab.get {} s.pkg.cores c
        decide (c < 192) && decide (s.pkg.fw.off = 0) && decide (x.cur < 8) && decide (i < 8) && decide (i ≠ x.cur) && decide (s.pkg.hartReady (c * 8 + i) = true) && decide (s.pkg.hartReady (c * 8 + x.cur) = false) && decide (∀ (j : Nat), j < 8 → (j + 8 - (x.cur + 1)) % 8 < (i + 8 - (x.cur + 1)) % 8 → s.pkg.hartReady (c * 8 + j) = false))) = true := by decide +kernel

/-- The hypotheses of `VendorInstructions`, clauses 1, 2, 3, 4, 5, 6, can be met. -/
theorem witness_VendorInstructions :
      ((
        let w : Nat := eR 0x5B 0 1 4 16 8
        let s : State := S (hh w (vh (vt 3)))
        let h : Nat := 16
        let raw : Nat := w
        let k : Pkg := (s.pkg.hFetch 16).2
        let x := (k.hart h).a
        let n := x.csr.sew
        let f6 := 0
        let sc := false
        let i := .ykvSaduVv h
        decide (s.pkg.hFetches h w 4 raw k) && decide (vendorOk w = true) && decide ((f6, sc, i) ∈ ([(0, false, .ykvSaduVv h), (1, false, .ykvSadsVv h), (0, true, .ykvSaduVx h), (1, true, .ykvSadsVx h)] : List (Nat × Bool × Instr))) && decide (Rv.f3 w = (if sc then 4 else 0)) && decide (bits w 31 26 = f6) && decide (x.csr.vs ≠ 0) && decide (x.csr.vill = false) && decide (n = 64))
      && (
        let w : Nat := eR 0x5B 4 3 4 16 8
        let s : State := S (hh w (vh (vt 0)))
        let h : Nat := 16
        let raw : Nat := w
        let k : Pkg := (s.pkg.hFetch 16).2
        let x := (k.hart h).a
        let n := x.csr.sew
        let f6 := 1
        let sc := true
        let i := .ykvSadsVx h
        decide (s.pkg.hFetches h w 4 raw k) && decide (vendorOk w = true) && decide ((f6, sc, i) ∈ ([(0, false, .ykvSaduVv h), (1, false, .ykvSadsVv h), (0, true, .ykvSaduVx h), (1, true, .ykvSadsVx h)] : List (Nat × Bool × Instr))) && decide (Rv.f3 w = (if sc then 4 else 0)) && decide (bits w 31 26 = f6) && decide (x.csr.vs ≠ 0) && decide (x.csr.vill = false) && decide (n ≠ 64) && decide (grpOk (Rv.rs2 w) x.csr.lmul8 = true) && decide (sc = true ∨ grpOk (Rv.rs1 w) x.csr.lmul8 = true))
      && (
        let w : Nat := eR 0x5B 0 3 4 16 8
        let s : State := S (hh w (vh { vt 0 with vl := 0 }))
        let h : Nat := 16
        let raw : Nat := w
        let k : Pkg := (s.pkg.hFetch 16).2
        let x := (k.hart h).a
        let n := x.csr.sew
        let f6 := 1
        let sc := false
        let i := .ykvSadsVv h
        decide (s.pkg.hFetches h w 4 raw k) && decide (vendorOk w = true) && decide ((f6, sc, i) ∈ ([(0, false, .ykvSaduVv h), (1, false, .ykvSadsVv h), (0, true, .ykvSaduVx h), (1, true, .ykvSadsVx h)] : List (Nat × Bool × Instr))) && decide (Rv.f3 w = (if sc then 4 else 0)) && decide (bits w 31 26 = f6) && decide (x.csr.vs ≠ 0) && decide (x.csr.vill = false) && decide (n ≠ 64) && decide (grpOk (Rv.rs2 w) x.csr.lmul8 = true) && decide (sc = true ∨ grpOk (Rv.rs1 w) x.csr.lmul8 = true) && decide (x.csr.vl = 0))
      && (
        let w : Nat := eR 0x5B 1 5 4 0 8
        let s : State := S (hh w (vh (vt 1)))
        let h : Nat := 16
        let raw : Nat := w
        let k : Pkg := (s.pkg.hFetch 16).2
        let x := (k.hart h).a
        let n := x.csr.sew
        let c := 2
        decide (s.pkg.hFetches h w 4 raw k) && decide (vendorOk w = true) && decide (Rv.f3 w = 1) && decide (vfmt n = some c) && decide (x.csr.vs ≠ 0) && decide (x.csr.vill = false) && decide (grpOk (Rv.rs2 w) x.csr.lmul8 = true) && decide (overlap (Rv.rd w) 1 (Rv.rs2 w) (ceilDiv x.csr.lmul8 8) = false) && decide (bit w 25 = true ∨ Rv.rd w ≠ 0))
      && (
        let w : Nat := eR 0x5B 2 1 4 3 8
        let s : State := S (hh w (vh (vt 0) [(3, 0x2008)]))
        let h : Nat := 16
        let raw : Nat := w
        let k : Pkg := (s.pkg.hFetch 16).2
        let x := (k.hart h).a
        let va := x.maskPtr (x.xr (Rv.rs1 w)).toNat
        decide (s.pkg.hFetches h w 4 raw k) && decide (vendorOk w = true) && decide (Rv.f3 w = 2) && decide (x.csr.vs ≠ 0) && decide (va % 64 ≠ 0))
      && (
        let w : Nat := eR 0x5B 2 1 4 3 8
        let s : State := S (hh w (vh (vt 0) [(3, 0x2040)]))
        let h : Nat := 16
        let raw : Nat := w
        let k : Pkg := (s.pkg.hFetch 16).2
        let x := (k.hart h).a
        let va := x.maskPtr (x.xr (Rv.rs1 w)).toNat
        let m := 0x2040
        let t := (k.resolve h 2 [(0x2040, 64)]).2
        decide (s.pkg.hFetches h w 4 raw k) && decide (vendorOk w = true) && decide (Rv.f3 w = 2) && decide (x.csr.vs ≠ 0) && decide (va % 64 = 0) && decide (k.resolve h 2 [(va, 64)] = (.parts [(.mem m, 64)], t)) && decide (m % 64 = 0) && decide ((t.hart h).n = 0) && decide ((t.hart h).marked = false) && decide ((t.hart h).part ≠ 0) && decide (t.bufUnits (h / 8) + 1 ≤ 1024))) = true := by decide +kernel

/-- The hypotheses of `HartAtomics`, clauses 1, 2, 3, 4, 5, can be met. -/
theorem witness_HartAtomics :
      ((
        ([0,1,2,3,4,5,6,7,8]).all (fun fn =>
          let f3x := 2
          let f5x := [0, 0xC, 8, 4, 0x10, 0x14, 0x18, 0x1C, 1].getD fn 0
          let w : Nat := eR 0x2F f3x (4 * f5x) 4 3 2
          let s : State := S (hh w (hx [(2, 7), (3, 0x200E)]))
          let h : Nat := 16
          let raw : Nat := w
          let k : Pkg := (s.pkg.hFetch 16).2
          let x := (k.hart h).a
          let va := x.maskPtr (x.xr (Rv.rs1 w)).toNat
          let n := 2 ^ Rv.f3 w
          let f3 := 0
          let i := ([.amoadd h, .amoand h, .amoor h, .amoxor h, .amomin h, .amomax h, .amominu h, .amomaxu h, .amoswap h] : List Instr).getD fn (.amoadd h)
          decide (s.pkg.hFetches h w 4 raw k) && decide ((fn, f3, i) ∈ ([(0, 0, .amoadd h), (1, 0, .amoand h), (2, 0, .amoor h), (3, 0, .amoxor h), (4, 0, .amomin h), (5, 0, .amomax h), (6, 0, .amominu h), (7, 0, .amomaxu h), (8, 0, .amoswap h), (9, 2, .amocasW h), (9, 3, .amocasD h), (9, 4, .amocasQ h)] : List (Nat × Nat × Instr))) && decide (amoFn w = some fn) && decide (f3 = 0 ∨ Rv.f3 w = f3) && decide (16 < va % 16 + n)))
      && (
        ([0,1,2,3,4,5,6,7,8]).all (fun fn =>
          let f3x := 2
          let f5x := [0, 0xC, 8, 4, 0x10, 0x14, 0x18, 0x1C, 1].getD fn 0
          let w : Nat := eR 0x2F f3x (4 * f5x) 4 3 2
          let s : State := S (hh w { hx [(2, 7), (3, 0x2004)] with atoms := [(0, (5, 99)), (1, (5, 99)), (8, (5, 98)), (homeSlice 0x80, (5, 97))], seq := 4 })
          let h : Nat := 16
          let raw : Nat := w
          let k : Pkg := (s.pkg.hFetch 16).2
          let t : Pkg := (k.resolve h 2 [(0x2004, 4)]).2
          let x := (k.hart h).a
          let va := x.maskPtr (x.xr (Rv.rs1 w)).toNat
          let n := 2 ^ Rv.f3 w
          let fresh : Bool := decide ((t.hart h).n = 0 ∨ t.svc h = true)
          let f3 := 0
          let i := ([.amoadd h, .amoand h, .amoor h, .amoxor h, .amomin h, .amomax h, .amominu h, .amomaxu h, .amoswap h] : List Instr).getD fn (.amoadd h)
          let m := 0x2004
          let slot := Tab.get (0, 0) (t.hart h).atoms (homeSlice (m / 64))
          decide (s.pkg.hFetches h w 4 raw k) && decide ((fn, f3, i) ∈ ([(0, 0, .amoadd h), (1, 0, .amoand h), (2, 0, .amoor h), (3, 0, .amoxor h), (4, 0, .amomin h), (5, 0, .amomax h), (6, 0, .amominu h), (7, 0, .amomaxu h), (8, 0, .amoswap h), (9, 2, .amocasW h), (9, 3, .amocasD h), (9, 4, .amocasQ h)] : List (Nat × Nat × Instr))) && decide (amoFn w = some fn) && decide (f3 = 0 ∨ Rv.f3 w = f3) && decide (va % 16 + n ≤ 16) && decide (k.resolve h 2 [(va, n)] = (.parts [(.mem m, n)], t)) && decide (fresh) && decide (slot.1 = (t.hart h).seq + 1) && decide (t.svc h = false)))
      && (
        ([0,1,2,3,4,5,6,7,8]).all (fun fn =>
          let f3x := 2
          let f5x := [0, 0xC, 8, 4, 0x10, 0x14, 0x18, 0x1C, 1].getD fn 0
          let w : Nat := eR 0x2F f3x (4 * f5x) 4 3 2
          let s : State := S (hh w (hx [(2, 7), (3, 0x2004), (4, 9)]))
          let h : Nat := 16
          let raw : Nat := w
          let k : Pkg := (s.pkg.hFetch 16).2
          let t : Pkg := (k.resolve h 2 [(0x2004, 4)]).2
          let x := (k.hart h).a
          let va := x.maskPtr (x.xr (Rv.rs1 w)).toNat
          let n := 2 ^ Rv.f3 w
          let fresh : Bool := decide ((t.hart h).n = 0 ∨ t.svc h = true)
          let f3 := 0
          let i := ([.amoadd h, .amoand h, .amoor h, .amoxor h, .amomin h, .amomax h, .amominu h, .amomaxu h, .amoswap h] : List Instr).getD fn (.amoadd h)
          let m := 0x2004
          let slot := Tab.get (0, 0) (t.hart h).atoms (homeSlice (m / 64))
          decide (s.pkg.hFetches h w 4 raw k) && decide ((fn, f3, i) ∈ ([(0, 0, .amoadd h), (1, 0, .amoand h), (2, 0, .amoor h), (3, 0, .amoxor h), (4, 0, .amomin h), (5, 0, .amomax h), (6, 0, .amominu h), (7, 0, .amomaxu h), (8, 0, .amoswap h), (9, 2, .amocasW h), (9, 3, .amocasD h), (9, 4, .amocasQ h)] : List (Nat × Nat × Instr))) && decide (amoFn w = some fn) && decide (f3 = 0 ∨ Rv.f3 w = f3) && decide (va % 16 + n ≤ 16) && decide (k.resolve h 2 [(va, n)] = (.parts [(.mem m, n)], t)) && decide (fresh) && decide (slot.1 ≠ (t.hart h).seq + 1 ∨ t.svc h = true)))
      && (
        let w : Nat := eR 0x2F 2 8 4 3 0
        let s : State := S (hh w (hx [(2, 7), (3, 0x2004), (4, 9)]))
        let h : Nat := 16
        let raw : Nat := w
        let k : Pkg := (s.pkg.hFetch 16).2
        let t : Pkg := (k.resolve h 1 [(0x2004, 4)]).2
        let x := (k.hart h).a
        let va := x.maskPtr (x.xr (Rv.rs1 w)).toNat
        let n := 2 ^ Rv.f3 w
        let m := 0x2004
        decide (s.pkg.hFetches h w 4 raw k) && decide (amoFn w = some 10) && decide (va % 16 + n ≤ 16) && decide (k.resolve h 1 [(va, n)] = (.parts [(.mem m, n)], t)))
      && (
        let f3x := 2
        let f5x := 3
        let w : Nat := eR 0x2F f3x (4 * f5x) 4 3 2
        let s : State := S (hh w { hx [(2, 7), (3, 0x2004)] with resv := some (0x80, 4000) })
        let h : Nat := 16
        let raw : Nat := w
        let k : Pkg := (s.pkg.hFetch 16).2
        let t : Pkg := (k.resolve h 2 [(0x2004, 4)]).2
        let x := (k.hart h).a
        let va := x.maskPtr (x.xr (Rv.rs1 w)).toNat
        let n := 2 ^ Rv.f3 w
        let fresh : Bool := decide ((t.hart h).n = 0 ∨ t.svc h = true)
        let m := 0x2004
        decide (s.pkg.hFetches h w 4 raw k) && decide (amoFn w = some 11) && decide (va % 16 + n ≤ 16) && decide (k.resolve h 2 [(va, n)] = (.parts [(.mem m, n)], t)) && decide (fresh) && decide ((Tab.get (0, 0) (t.hart h).atoms (homeSlice (m / 64))).1 ≠ (t.hart h).seq + 1 ∨ t.svc h = true))) = true := by decide +kernel

/-- The hypotheses of `HartAtomics`, part `HartTimers`, clauses 1, 2, 3, 4, 5, 6, can be met. -/
theorem witness_HartTimers :
      ((
        let s : State := S (hh 0 { resv := some (5, 3293) })
        let h : Nat := 16
        let l : Nat := 5
        let t : Nat := 3293
        decide (h < 1536) && decide (s.pkg.fw.off = 0) && decide ((s.pkg.hart h).resv = some (l, t)) && decide (t + 1707 ≤ s.pkg.tempo.local_))
      && (
        let s : State := S (hh 0 { resv := some (5, 3294) })
        let h : Nat := 16
        let l : Nat := 5
        let t : Nat := 3294
        decide (h < 1536) && decide (s.pkg.fw.off = 0) && decide ((s.pkg.hart h).resv = some (l, t)) && decide (s.pkg.tempo.local_ < t + 1707))
      && (
        let s : State := S (hh 0 { a := { csr := { sie := 0x20, sstatus := 2, stimecmp := 0 } } })
        let h : Nat := 16
        decide (h < 1536) && decide (s.pkg.fw.off = 0) && decide (s.pkg.hartMode h = true) && decide ((s.pkg.hart h).wait = .none) && decide ((s.pkg.hart h).marked = false) && decide (s.pkg.timerDue h = true))
      && (
        let s : State := S (hh 0 { n := 1, a := { csr := { sie := 0x20, sstatus := 2, stimecmp := 0 } } })
        let h : Nat := 16
        decide (h < 1536) && decide (s.pkg.fw.off = 0) && decide (s.pkg.hartMode h = true) && decide ((s.pkg.hart h).wait = .none) && decide ((s.pkg.hart h).marked = false) && decide (s.pkg.svc h = false) && decide ((s.pkg.hart h).n ≠ 0))
      && (
        let w : Nat := eI 0x03 3 4 3 0
        let s : State := S (let kk := hh w (hx [(3, 0x200000000000 + 7 * 0x800000000 + 8)]); { kk with tier := { kk.tier with regions := [(7, { st := 2, part := 3, packets := 20, fmt := 2, ext := [(0, 5)] })], groups := [(0, { formed := true, gib := 1 })] } })
        let h : Nat := 16
        let len : Nat := 4
        let raw : Nat := w
        let k : Pkg := (s.pkg.hFetch 16).2
        let x := (k.hart h).a
        let z := Rv.accSize (Rv.f3 w)
        let va := x.maskPtr (x.xr (Rv.rs1 w) + Rv.immI w).toNat
        let m := 0x200000000000 + 7 * 0x800000000 + 8
        let r := k.region (regionOf m)
        decide (s.pkg.hFetches h w len raw k) && decide (Rv.opc w = 0x03) && decide (Rv.f3 w < 7) && decide (k.resolve h 1 (pageParts va z) = (.parts [(.tier m, z)], k)) && decide (k.tierOk h m z = true) && decide (m % 0x800000000 % r.P + z ≤ r.P) && decide ((k.hart h).n = 0))
      && (
        let w : Nat := eI 0x03 3 4 3 0
        let s : State := S (let kk := hh w (hx [(3, 0x200000000000 + 7 * 0x800000000 + 8)]); { kk with tier := { kk.tier with regions := [(7, { st := 1, part := 3, packets := 20, fmt := 2, ext := [(0, 5)] })], groups := [(0, { formed := true, gib := 1 })] } })
        let h : Nat := 16
        let len : Nat := 4
        let raw : Nat := w
        let k : Pkg := (s.pkg.hFetch 16).2
        let x := (k.hart h).a
        let z := Rv.accSize (Rv.f3 w)
        let va := x.maskPtr (x.xr (Rv.rs1 w) + Rv.immI w).toNat
        let m := 0x200000000000 + 7 * 0x800000000 + 8
        decide (s.pkg.hFetches h w len raw k) && decide (Rv.opc w = 0x03) && decide (Rv.f3 w < 7) && decide (k.resolve h 1 (pageParts va z) = (.parts [(.tier m, z)], k)) && decide (k.tierOk h m z = false) && decide ((k.hart h).part ≠ 0))) = true := by decide +kernel

/-- The hypotheses of `SbiServices`, clauses 1, 2, 3, 4, 5, 6, 7, 8, 9, 10, 11, 12, can be met. -/
theorem witness_SbiServices_1 :
      ((
        let fid : Nat := 0
        let s : State := sbi 0x10 fid
        let h : Nat := 16
        let k : Pkg := (s.pkg.hFetch 16).2
        decide (s.pkg.hCalls h 0x10 fid k) && decide (fid = 0))
      && (
        let fid : Nat := 1
        let s : State := sbi 0x10 fid
        let h : Nat := 16
        let k : Pkg := (s.pkg.hFetch 16).2
        decide (s.pkg.hCalls h 0x10 fid k) && decide (fid = 1))
      && (
        let fid : Nat := 2
        let s : State := sbi 0x10 fid
        let h : Nat := 16
        let k : Pkg := (s.pkg.hFetch 16).2
        decide (s.pkg.hCalls h 0x10 fid k) && decide (fid = 2))
      && (
        let fid : Nat := 4
        let s : State := sbi 0x10 fid
        let h : Nat := 16
        let k : Pkg := (s.pkg.hFetch 16).2
        decide (s.pkg.hCalls h 0x10 fid k) && decide (fid = 4))
      && (
        let fid : Nat := 5
        let s : State := sbi 0x10 fid
        let h : Nat := 16
        let k : Pkg := (s.pkg.hFetch 16).2
        decide (s.pkg.hCalls h 0x10 fid k) && decide (fid = 5))
      && (
        let fid : Nat := 6
        let s : State := sbi 0x10 fid
        let h : Nat := 16
        let k : Pkg := (s.pkg.hFetch 16).2
        decide (s.pkg.hCalls h 0x10 fid k) && decide (fid = 6))
      && (
        let s : State := sbi 0x54494D45 0 [(10, 7777)]
        let h : Nat := 16
        let k : Pkg := (s.pkg.hFetch 16).2
        decide (s.pkg.hCalls h 0x54494D45 0 k))
      && (
        let s : State := sbi 0x735049 0 [(11, 2^64 - 1)]
        let h : Nat := 16
        let k : Pkg := (s.pkg.hFetch 16).2
        let a := (k.hart h).a
        decide (s.pkg.hCalls h 0x735049 0 k) && decide (a.xr 11 = BitVec.allOnes 64))
      && (
        let s : State := sbi 0x735049 0 [(10, 8), (11, 16)]
        let h : Nat := 16
        let k : Pkg := (s.pkg.hFetch 16).2
        let a := (k.hart h).a
        let own := k.hartsOfPart ((k.hart h).part - 1)
        let j := 3
        decide (s.pkg.hCalls h 0x735049 0 k) && decide (j < 64) && decide (bit (a.xr 10).toNat j = true) && decide ((a.xr 11).toNat < 2 ^ 32) && decide ((a.xr 11).toNat + j ∉ own))
      && (
        let s : State := sbi 0x52464E43 2 [(11, 2^64 - 1)]
        let h : Nat := 16
        let fid : Nat := 2
        let k : Pkg := (s.pkg.hFetch 16).2
        let a := (k.hart h).a
        decide (fid < 3) && decide (s.pkg.hCalls h 0x52464E43 fid k) && decide (a.xr 11 = BitVec.allOnes 64))
      && (
        let s : State := sbi 0x48534D 2 [(10, 17)]
        let h : Nat := 16
        let k : Pkg := (s.pkg.hFetch 16).2
        let a := (k.hart h).a
        let own := k.hartsOfPart ((k.hart h).part - 1)
        decide (s.pkg.hCalls h 0x48534D 2 k) && decide ((a.xr 10).toNat ∈ own))
      && (
        let s : State := sbi 0x48534D 2 [(10, 18)]
        let h : Nat := 16
        let k : Pkg := (s.pkg.hFetch 16).2
        let a := (k.hart h).a
        let own := k.hartsOfPart ((k.hart h).part - 1)
        decide (s.pkg.hCalls h 0x48534D 2 k) && decide ((a.xr 10).toNat ∉ own))) = true := by decide +kernel

/-- The hypotheses of `SbiServices`, clauses 13, 14, 15, 16, 17, 18, 19, can be met. -/
theorem witness_SbiServices_2 :
      ((
        let s : State := sbi 0x48534D 3 [(10, 2^32)]
        let h : Nat := 16
        let k : Pkg := (s.pkg.hFetch 16).2
        let a := (k.hart h).a
        decide (s.pkg.hCalls h 0x48534D 3 k) && decide ((a.xr 10).toNat % 2 ^ 32 = 0))
      && (
        let s : State := sbi 0x48534D 1
        let h : Nat := 16
        let fid : Nat := 1
        let k : Pkg := (s.pkg.hFetch 16).2
        decide (fid < 2) && decide (s.pkg.hCalls h 0x48534D fid k))
      && (
        let s : State := sbi 0x53525354 0
        let h : Nat := 16
        let k : Pkg := (s.pkg.hFetch 16).2
        decide (s.pkg.hCalls h 0x53525354 0 k))
      && (
        let s : State := sbi 0x09594B01 0
        let h : Nat := 16
        let k : Pkg := (s.pkg.hFetch 16).2
        decide (s.pkg.hCalls h 0x09594B01 0 k))
      && (
        let s : State := sbi 0x09594B01 1
        let h : Nat := 16
        let k : Pkg := (s.pkg.hFetch 16).2
        decide (s.pkg.hCalls h 0x09594B01 1 k))
      && (
        let s : State := sbi 0x09594B01 2
        let h : Nat := 16
        let k : Pkg := (s.pkg.hFetch 16).2
        decide (s.pkg.hCalls h 0x09594B01 2 k))
      && (
        let s : State := sbi 0x48534D 9
        let h : Nat := 16
        let fid : Nat := 9
        let k : Pkg := (s.pkg.hFetch 16).2
        let e := 0x48534D
        decide (listedCall (s.pkg.hart h).a 0x73 = false) && decide (s.pkg.hCalls h e fid k))) = true := by decide +kernel

/-- The hypotheses of `FaultDeclared`, clauses 1, 2, 3, 4, 5, can be met. -/
theorem witness_FaultDeclared :
      ((
        let s : State := S (f13 .running)
        let t : Nat := 133
        let f := s.pkg.fault
        let i := .siteHeartbeatTimeout t
        let b := 700
        decide (t < 6144) && decide (s.pkg.fw.off = 0) && decide ((i, b) ∈ ([(.siteHeartbeatTimeout t, 700), (.tileCoreChecker t, 2)] : List (Instr × Nat))) && decide (∀ r ∈ f.open_, ¬(r.tile = t ∧ r.cls = 2 ∧ r.step = 0)))
      && (
        let s : State := S (f13 .running { open_ := [rc2] })
        let t : Nat := 133
        let f := s.pkg.fault
        let i := .tileCoreChecker t
        let b := 2
        decide (t < 6144) && decide (s.pkg.fw.off = 0) && decide ((i, b) ∈ ([(.siteHeartbeatTimeout t, 700), (.tileCoreChecker t, 2)] : List (Instr × Nat))) && decide (∃ r ∈ f.open_, r.tile = t ∧ r.cls = 2 ∧ r.step = 0))
      && (
        let s : State := S (f13 .running)
        let t : Nat := 133
        let x := s.pkg.tile t
        let f := s.pkg.fault
        let lane := 255
        let e := 1
        let key := 0x10000000 + (t * 2 + e) * 256 + lane
        decide (t < 6144) && decide (s.pkg.fw.off = 0) && decide (lane < 256) && decide (x.part ≠ 0) && decide (x.mode = .running) && decide (Tab.get [] f.times key = []))
      && (
        let s : State := S (f13 .running { times := [(0x10000000 + (133 * 2) * 256 + 255, [5])], open_ := [rc2] })
        let t : Nat := 133
        let x := s.pkg.tile t
        let f := s.pkg.fault
        let lane := 255
        let e := 0
        let key := 0x10000000 + (t * 2 + e) * 256 + lane
        let t0 := 5
        decide (t < 6144) && decide (s.pkg.fw.off = 0) && decide (lane < 256) && decide (x.part ≠ 0) && decide (x.mode = .running) && decide (Tab.get [] f.times key = [t0]) && decide (s.pkg.tempo.now < t0 + 1000000000) && decide (Tab.get 0 f.lanes (t * 2 + e) = 0))
      && (
        let s : State := S (f13 .running { times := [(0x10000000 + (133 * 2 + 1) * 256 + 255, [5])], lanes := [(267, 2)] })
        let t : Nat := 133
        let x := s.pkg.tile t
        let f := s.pkg.fault
        let lane := 255
        let e := 1
        let key := 0x10000000 + (t * 2 + e) * 256 + lane
        let t0 := 5
        decide (t < 6144) && decide (s.pkg.fw.off = 0) && decide (lane < 256) && decide (x.part ≠ 0) && decide (x.mode = .running) && decide (Tab.get [] f.times key = [t0]) && decide (s.pkg.tempo.now < t0 + 1000000000) && decide (Tab.get 0 f.lanes (t * 2 + e) = 2) && decide (∀ r ∈ f.open_, ¬(r.tile = t ∧ r.cls = 2 ∧ r.step = 0)))) = true := by decide +kernel

/-- The hypotheses of `CastlingChoosesSpare`, clauses 1, 2, 3, 4, 5, can be met. -/
theorem witness_CastlingChoosesSpare :
      ((
        let s : State := cs {} { open_ := [{ rc2 with tile := 141, unit := 141, grp := 17 }] }
        let t : Nat := 141
        let r : Recovery := { rc2 with tile := 141, unit := 141, grp := 17 }
        let die := t / 128
        let k := t % 128 / 8
        let z := s.sites.fail t
        let free (q : Nat) : Bool := decide (z.spareFree die q = true)
        decide (t < 6144) && decide (s.pkg.fw.off = 0) && decide (s.sites.sound = true) && decide (s.pkg.fault.open_.find? (fun r => decide (r.cls = 2) && decide (r.step = 0)) = some r) && decide (r.tile = t) && decide (free k))
      && (
        let s : State := cs { moved := [(142, 18)] } { open_ := [{ rc2 with tile := 141, unit := 141, grp := 17 }] }
        let t : Nat := 141
        let r : Recovery := { rc2 with tile := 141, unit := 141, grp := 17 }
        let die := t / 128
        let k := t % 128 / 8
        let z := s.sites.fail t
        let free (q : Nat) : Bool := decide (z.spareFree die q = true)
        decide (t < 6144) && decide (s.pkg.fw.off = 0) && decide (s.sites.sound = true) && decide (s.pkg.fault.open_.find? (fun r => decide (r.cls = 2) && decide (r.step = 0)) = some r) && decide (r.tile = t) && decide (¬ free k) && decide (0 < k) && decide (free (k - 1)))
      && (
        let s : State := cs { moved := [(142, 18)], failed := [(144 + 8, 1)] } { open_ := [{ rc2 with tile := 141, unit := 141, grp := 17 }] }
        let t : Nat := 141
        let r : Recovery := { rc2 with tile := 141, unit := 141, grp := 17 }
        let die := t / 128
        let k := t % 128 / 8
        let z := s.sites.fail t
        let free (q : Nat) : Bool := decide (z.spareFree die q = true)
        decide (t < 6144) && decide (s.pkg.fw.off = 0) && decide (s.sites.sound = true) && decide (s.pkg.fault.open_.find? (fun r => decide (r.cls = 2) && decide (r.step = 0)) = some r) && decide (r.tile = t) && decide (¬ free k) && decide (k = 0 ∨ ¬ free (k - 1)) && decide (k < 15) && decide (free (k + 1)))
      && (
        let s : State := cs { moved := [(141, 27)], failed := [(144 + 8, 1), (144 + 17, 1)] } { open_ := [{ rc2 with tile := 141, unit := 141, grp := 17 }] }
        let t : Nat := 141
        let r : Recovery := { rc2 with tile := 141, unit := 141, grp := 17 }
        let die := t / 128
        let k := t % 128 / 8
        let z := s.sites.fail t
        let free (q : Nat) : Bool := decide (z.spareFree die q = true)
        decide (t < 6144) && decide (s.pkg.fw.off = 0) && decide (s.sites.sound = true) && decide (s.pkg.fault.open_.find? (fun r => decide (r.cls = 2) && decide (r.step = 0)) = some r) && decide (r.tile = t) && decide (¬ free k) && decide (k = 0 ∨ ¬ free (k - 1)) && decide (k = 15 ∨ ¬ free (k + 1)))
      && (
        let s : State := cs {} { open_ := [{ rc2 with tile := 141, unit := 141, grp := 17 }] }
        let t : Nat := 6
        let r : Recovery := { rc2 with tile := 141, unit := 141, grp := 17 }
        decide (t < 6144) && decide (s.pkg.fw.off = 0) && decide (s.sites.sound = true) && decide (s.pkg.fault.open_.find? (fun r => decide (r.cls = 2) && decide (r.step = 0)) = some r) && decide (r.tile ≠ t))) = true := by decide +kernel

/-- The hypotheses of `OtherFaults`, clauses 1, 2, 4, 5, 6, 7, 8, 9, 10, 12, can be met. -/
theorem witness_OtherFaults :
      ((
        let s : State := cf {}
        let c := 2
        let x : CoreSt := Tab.get {} s.pkg.cores c
        decide (s.pkg.fw.off = 0) && decide (c < 192) && decide (x.failed = false))
      && (
        let s : State := cf { failed := true }
        let c := 2
        let x : CoreSt := Tab.get {} s.pkg.cores c
        decide (s.pkg.fw.off = 0) && decide (c < 192) && decide (x.failed = true))
      && (
        let s : State := cf { failed := true } { cores := [(0, 1)], open_ := [{ cls := 5, tile := 2, unit := 2, grp := 0 }] }
        let c := 2
        let x : CoreSt := Tab.get {} s.pkg.cores c
        let used := Tab.get 0 s.pkg.fault.cores (c / 48)
        decide (s.pkg.fw.off = 0) && decide (c < 192) && decide (x.failed = true) && decide (used < 2))
      && (
        let s : State := cf { failed := true } { cores := [(0, 2)], open_ := [{ cls := 5, tile := 2, unit := 2, grp := 0 }] }
        let c := 2
        let x : CoreSt := Tab.get {} s.pkg.cores c
        let used := Tab.get 0 s.pkg.fault.cores (c / 48)
        decide (s.pkg.fw.off = 0) && decide (c < 192) && decide (x.failed = true) && decide (2 ≤ used))
      && (
        let s : State := cf {} { other := [(48 * 256 + 60, 1)] }
        let a := 48
        let b := 60
        let n := Tab.get 0 s.pkg.fault.other (a * 256 + b)
        decide (s.pkg.fw.off = 0) && decide (meshEdge a b = true) && decide (n < 2))
      && (
        let s : State := cf {} { other := [(48 * 256 + 60, 2)] }
        let a := 48
        let b := 60
        let n := Tab.get 0 s.pkg.fault.other (a * 256 + b)
        decide (s.pkg.fw.off = 0) && decide (meshEdge a b = true) && decide (2 ≤ n))
      && (
        let s : State := cf {}
        let d := 65
        let i := 0
        decide (s.pkg.fw.off = 0) && decide (d < 66) && decide (i < sensorsOf d) && decide (Tab.get 0 s.pkg.pow.badSensor (d * 64 + i) = 0))
      && (
        let s : State := cf {} { pendingMap := true }
        decide (s.pkg.fw.off = 0) && decide (s.pkg.fault.pendingMap = true) && decide (∀ c ∈ s.pkg.fw.commits, c.kind ≠ 3) && decide (s.pkg.fw.n0.lost = false))
      && (
        let s : State := cf {}
        decide (s.pkg.fw.off = 0) && decide (s.pkg.fault.pendingMap = false))
      && (
        let s : State := S { (cf {}).pkg with net := { ports := [(3, { st := .active })] } }
        decide (s.pkg.fw.off = 0))) = true := by decide +kernel

/-- The hypotheses of `OtherFaults`, part `CastlingRecords`, clauses 1, 18, 19, 20, 21, can be met. -/
theorem witness_CastlingRecords :
      ((
        let s : Pkg := { (on.setEnt 0x3000 7 129) with tempo := { now := 900 } }
        let r : CRec := { cls := 2, outcome := 0, unit := 133, adj := true, detected := 5, bound := 6, setup := 7, redo := 8, parts := 9, spares := 3, more := [4, 5] }
        decide (1 ≤ r.cls) && decide (r.cls ≤ 12) && decide (r.outcome ≤ 2) && decide (s.ent 0x3000 7 < 2 ^ 32))
      && (
        let s : Pkg := { (on.setEnt 0x3000 7 129) with tempo := { now := 900 } }
        let r : CRec := { cls := 2, outcome := 1, unit := 133, adj := true, detected := 5, bound := 6, setup := 7, redo := 8, parts := 9, spares := 3, more := [4, 5] }
        decide (1 ≤ r.cls) && decide (r.cls ≤ 12) && decide (r.outcome ≤ 2) && decide (s.ent 0x3000 7 < 2 ^ 32) && decide (r.outcome = 1))
      && (
        let s : Pkg := { (on.setEnt 0x3000 7 129) with tempo := { now := 900 } }
        let r : CRec := { cls := 2, outcome := 2, unit := 133, adj := true, detected := 5, bound := 6, setup := 7, redo := 8, parts := 9, spares := 3, more := [4, 5] }
        decide (1 ≤ r.cls) && decide (r.cls ≤ 12) && decide (r.outcome ≤ 2) && decide (s.ent 0x3000 7 < 2 ^ 32) && decide (r.outcome = 2))
      && (
        let s : Pkg := on.setEnt 0x3000 6 0
        let r : CRec := { cls := 2, outcome := 0, unit := 133, adj := true, detected := 5, bound := 6, setup := 7, redo := 8, parts := 9, spares := 3, more := [4, 5] }
        decide (1 ≤ r.cls) && decide (r.cls ≤ 12) && decide (r.outcome ≤ 2) && decide (s.ent 0x3000 7 < 2 ^ 32) && decide (r.outcome = 0) && decide (s.ent 0x3000 6 = 0))
      && (
        let s : Pkg := on.setEnt 0x3000 6 1
        let r : CRec := { cls := 2, outcome := 0, unit := 133, adj := true, detected := 5, bound := 6, setup := 7, redo := 8, parts := 9, spares := 3, more := [4, 5] }
        decide (1 ≤ r.cls) && decide (r.cls ≤ 12) && decide (r.outcome ≤ 2) && decide (s.ent 0x3000 7 < 2 ^ 32) && decide (r.outcome = 0) && decide (s.ent 0x3000 6 = 1))) = true := by decide +kernel

/-- The hypotheses of `LenpelPorts`, clauses 1, 2, 3, 4, 5, 6, 7, 8, 9, 10, 11, 12, can be met. -/
theorem witness_LenpelPorts_1 :
      ((
        let s : State := S (lpt 6 {})
        let q : Nat := 6
        let x := s.pkg.lport q
        decide (q < 48) && decide (s.pkg.fw.off = 0) && decide (x.st = .down) && decide (s.pkg.ent (0x4200 + q) 2 = 1) && decide (s.pkg.fw.epochSet = true))
      && (
        let s : State := S ((lpt 6 { st := .detect, since := 590000000 }).setEnt 0x4206 3 1)
        let q : Nat := 6
        let x := s.pkg.lport q
        let now := s.pkg.tempo.local_
        decide (q < 48) && decide (s.pkg.fw.off = 0) && decide (x.st = .detect) && decide (x.since + 10000000 ≤ now))
      && (
        let s : State := S (lpt 6 { rst := false })
        let q : Nat := 6
        let x := s.pkg.lport q
        let v := false
        decide (q < 48) && decide (s.pkg.fw.off = 0) && decide (x.rst = v))
      && (
        let s : State := S (lpt 6 { rst := false })
        let q : Nat := 6
        let x := s.pkg.lport q
        let v := true
        decide (q < 48) && decide (s.pkg.fw.off = 0) && decide (x.rst ≠ v))
      && (
        let s : State := S (lpt 6 { st := .detect, since := 590000001 })
        let q : Nat := 6
        let x := s.pkg.lport q
        let now := s.pkg.tempo.local_
        decide (q < 48) && decide (s.pkg.fw.off = 0) && decide (x.st = .detect) && decide (now < x.since + 10000000))
      && (
        let s : State := S (lpt 6 { st := .train })
        let q : Nat := 6
        let x := s.pkg.lport q
        decide (q < 48) && decide (s.pkg.fw.off = 0) && decide (x.st = .train))
      && (
        let s : State := S (lpt 6 { st := .align })
        let q : Nat := 6
        let x := s.pkg.lport q
        decide (q < 48) && decide (s.pkg.fw.off = 0) && decide (x.st = .align))
      && (
        let s : State := S (lpt 6 { st := .train, since := 100000000 })
        let q : Nat := 6
        let x := s.pkg.lport q
        let now := s.pkg.tempo.local_
        decide (q < 48) && decide (s.pkg.fw.off = 0) && decide (s.pkg.tier.forming = false) && decide (x.st = .train) && decide (x.since + 500000000 ≤ now))
      && (
        let s : State := S (lpt 6 { st := .align, since := 599000000 })
        let q : Nat := 6
        let x := s.pkg.lport q
        let now := s.pkg.tempo.local_
        decide (q < 48) && decide (s.pkg.fw.off = 0) && decide (s.pkg.tier.forming = false) && decide (x.st = .align) && decide (x.since + 1000000 ≤ now))
      && (
        let s : State := S (lpt 6 { st := .train, since := 100000001 })
        let q : Nat := 6
        let x := s.pkg.lport q
        let now := s.pkg.tempo.local_
        decide (q < 48) && decide (s.pkg.fw.off = 0) && decide (x.st = .train) && decide (now < x.since + 500000000))
      && (
        let s : State := S (lpt 6 { st := .align, since := 599000001 })
        let q : Nat := 6
        let x := s.pkg.lport q
        let now := s.pkg.tempo.local_
        decide (q < 48) && decide (s.pkg.fw.off = 0) && decide (x.st = .align) && decide (now < x.since + 1000000))
      && (
        let s : State := S (lpt 6 { st := .discover })
        let q : Nat := 6
        let x := s.pkg.lport q
        let lr : LRecv := { bytes := lfr 7 0 0 4 true 0 0 0 1023 dsc }
        let f := lr.frame
        let words := lr.words
        let d := Sys2Proof.slice f 16 256
        decide (q < 48) && decide (s.pkg.fw.off = 0) && decide (x.st = .discover) && decide (lframeOk f = true) && decide (wordsLost words = false) && decide ((lhdr f).ftype = 7) && decide ((lhdr f).units = 4) && decide (s.pkg.tier.forming = false) && decide (s.pkg.refuses q d = 0))) = true := by decide +kernel

/-- The hypotheses of `LenpelPorts`, clauses 13, 14, 15, 16, 17, 18, 19, 20, 21, 22, 23, 24, can be met. -/
theorem witness_LenpelPorts_2 :
      ((
        let s : State := S (lpt 6 { st := .discover })
        let q : Nat := 6
        let x := s.pkg.lport q
        let lr : LRecv := { bytes := lfr 7 0 0 4 true 0 0 0 1023 (put dsc 4 4 300) }
        let f := lr.frame
        let words := lr.words
        let d := Sys2Proof.slice f 16 256
        decide (q < 48) && decide (s.pkg.fw.off = 0) && decide (x.st = .discover) && decide (lframeOk f = true) && decide (wordsLost words = false) && decide ((lhdr f).ftype = 7) && decide ((lhdr f).units = 4) && decide (s.pkg.tier.forming = false) && decide (s.pkg.refuses q d ≠ 0))
      && (
        let s : State := S (lpt 6 { st := .discover, nakSent := true })
        let q : Nat := 6
        let x := s.pkg.lport q
        let lr : LRecv := { bytes := [] }
        decide (q < 48) && decide (s.pkg.fw.off = 0) && decide (x.st = .discover) && decide (lframeOk lr.frame = false ∨ wordsLost lr.words = true) && decide (x.nakSent = true))
      && (
        let s : State := S (lpt 6 { st := .retrain, since := 598000000, cmds := [{ tag := 4, ftype := 1, job := 9 }] })
        let q : Nat := 6
        let x := s.pkg.lport q
        let now := s.pkg.tempo.local_
        decide (q < 48) && decide (s.pkg.fw.off = 0) && decide (x.st = .retrain) && decide (x.since + 2000000 ≤ now))
      && (
        let s : State := S (lpt 6 { st := .retrain, since := 598000001, cmds := [{ tag := 4, ftype := 1, job := 9 }] })
        let q : Nat := 6
        let x := s.pkg.lport q
        let now := s.pkg.tempo.local_
        decide (q < 48) && decide (s.pkg.fw.off = 0) && decide (x.st = .retrain) && decide (now < x.since + 2000000))
      && (
        let s : State := S (lpt 6 { st := .active, present := true })
        let q : Nat := 6
        let x := s.pkg.lport q
        decide (q < 48) && decide (s.pkg.fw.off = 0) && decide (x.st = .active) && decide ((s.pkg.group (grpOf q)).formed = false) && decide (x.cmds = []) && decide (x.queue = []) && decide (s.pkg.tier.forming = false))
      && (
        let s : State := S (let k := lpt 6 { st := .active }; { k with tier := { k.tier with groups := [(2, { formed := true, gib := 1, rebuilding := 2, built := [(1, [(7, 0)])] })] }, fault := { groups := [(10, 2)] } })
        let q : Nat := 6
        let g := s.pkg.group (grpOf q)
        decide (q < 48) && decide (s.pkg.fw.off = 0) && decide (bit g.rebuilding (posOf q) = true) && decide (s.pkg.nextBuild q = none) && decide (∀ j ∈ s.pkg.tier.jobs, j.use ≠ TierUse.rebuild q))
      && (
        let s : State := S (lpt 6 { st := .active, nakSent := true })
        let q : Nat := 6
        let lr : LRecv := { bytes := [] }
        let f := lr.frame
        let words := lr.words
        let x := s.pkg.lport q
        decide (q < 48) && decide (s.pkg.fw.off = 0) && decide ((s.pkg.lport q).st = .active) && decide (lframeOk f = false ∨ wordsLost words = true) && decide (x.nakSent = true))
      && (
        let s : State := S (lpt 6 { st := .active, unacked := [{ seq := 4 }, { seq := 5 }] })
        let q : Nat := 6
        let lr : LRecv := { bytes := lfr 0 0 0 0 false 0 0 0 4 }
        let f := lr.frame
        let words := lr.words
        let x := s.pkg.lport q
        let h := lhdr f
        let a := x.acked h.ack
        decide (q < 48) && decide (s.pkg.fw.off = 0) && decide ((s.pkg.lport q).st = .active) && decide (lframeOk f = true) && decide (wordsLost words = false) && decide (a.queue = []) && decide (h.ftype = 0))
      && (
        let s : State := S (lpt 6 { st := .active, nakSent := true, rx := 3 })
        let q : Nat := 6
        let lr : LRecv := { bytes := lfr 4 2 9 1 false 0 0 0 }
        let f := lr.frame
        let words := lr.words
        let x := s.pkg.lport q
        let h := lhdr f
        let a := x.acked h.ack
        decide (q < 48) && decide (s.pkg.fw.off = 0) && decide ((s.pkg.lport q).st = .active) && decide (lframeOk f = true) && decide (wordsLost words = false) && decide (a.queue = []) && decide (h.ftype = 4) && decide (h.seq ≠ a.rx) && decide (a.nakSent = true))
      && (
        let s : State := S (lpt 6 { st := .active, rx := 3 })
        let q : Nat := 6
        let lr : LRecv := { bytes := lfr 4 2 9 1 false 0 0 0 }
        let f := lr.frame
        let words := lr.words
        let x := s.pkg.lport q
        let h := lhdr f
        let a := x.acked h.ack
        decide (q < 48) && decide (s.pkg.fw.off = 0) && decide ((s.pkg.lport q).st = .active) && decide (lframeOk f = true) && decide (wordsLost words = false) && decide (a.queue = []) && decide (h.ftype = 4) && decide (h.seq ≠ a.rx) && decide (a.nakSent = false) && decide (a.naks.length < 1000))
      && (
        let s : State := rst
        let q : Nat := 6
        let lr : LRecv := { bytes := lfr 4 3 9 1 false 1 2 0 }
        let f := lr.frame
        let words := lr.words
        let x := s.pkg.lport q
        let h := lhdr f
        let a := x.acked h.ack
        let c := rcmd
        decide (q < 48) && decide (s.pkg.fw.off = 0) && decide ((s.pkg.lport q).st = .active) && decide (lframeOk f = true) && decide (wordsLost words = false) && decide (a.queue = []) && decide (h.ftype = 4) && decide (h.seq = a.rx) && decide (a.cmds.find? (fun c => decide (c.tag = h.tag) && decide (c.ftype ≠ 3)) = some c) && decide (h.last = false) && decide (c.idx ≠ 0))
      && (
        let s : State := rst
        let q : Nat := 6
        let lr : LRecv := { bytes := lfr 4 3 9 1 true 1 2 0 }
        let f := lr.frame
        let words := lr.words
        let x := s.pkg.lport q
        let h := lhdr f
        let a := x.acked h.ack
        let c := rcmd
        let c' := { c with got := c.got ++ Sys2Proof.slice f 16 (64 * h.units), idx := c.idx + 1 }
        decide (q < 48) && decide (s.pkg.fw.off = 0) && decide ((s.pkg.lport q).st = .active) && decide (lframeOk f = true) && decide (wordsLost words = false) && decide (a.queue = []) && decide (h.ftype = 4) && decide (h.seq = a.rx) && decide (a.cmds.find? (fun c => decide (c.tag = h.tag) && decide (c.ftype ≠ 3)) = some c) && decide (h.last = true) && decide (c.idx ≠ 0) && decide (c.dead = false) && decide (h.status = 0) && decide (c'.got.length = 64 * h.len))) = true := by decide +kernel

/-- The hypotheses of `LenpelPorts`, clauses 25, 26, 27, 28, 29, 30, 31, 32, 33, 34, 38, 39, can be met. -/
theorem witness_LenpelPorts_3 :
      ((
        let s : State := rst [{ rcmd with dead := true }]
        let q : Nat := 6
        let lr : LRecv := { bytes := lfr 4 3 9 1 true 1 2 0 }
        let f := lr.frame
        let words := lr.words
        let x := s.pkg.lport q
        let h := lhdr f
        let a := x.acked h.ack
        let c := { rcmd with dead := true }
        decide (q < 48) && decide (s.pkg.fw.off = 0) && decide ((s.pkg.lport q).st = .active) && decide (lframeOk f = true) && decide (wordsLost words = false) && decide (a.queue = []) && decide (h.ftype = 4) && decide (h.seq = a.rx) && decide (a.cmds.find? (fun c => decide (c.tag = h.tag) && decide (c.ftype ≠ 3)) = some c) && decide (h.last = true) && decide (c.idx ≠ 0) && decide (c.dead = true))
      && (
        let s : State := rst
        let q : Nat := 6
        let lr : LRecv := { bytes := lfr 4 3 9 1 true 1 2 2 }
        let f := lr.frame
        let words := lr.words
        let x := s.pkg.lport q
        let h := lhdr f
        let a := x.acked h.ack
        let c := rcmd
        decide (q < 48) && decide (s.pkg.fw.off = 0) && decide ((s.pkg.lport q).st = .active) && decide (lframeOk f = true) && decide (wordsLost words = false) && decide (a.queue = []) && decide (h.ftype = 4) && decide (h.seq = a.rx) && decide (a.cmds.find? (fun c => decide (c.tag = h.tag) && decide (c.ftype ≠ 3)) = some c) && decide (h.last = true) && decide (c.idx ≠ 0) && decide (c.dead = false) && decide (h.status ≠ 0))
      && (
        let s : State := S (lpt 6 { st := .active, rx := 3, cmds := [{ rcmd with ftype := 3 }] })
        let q : Nat := 6
        let lr : LRecv := { bytes := lfr 5 3 9 0 true 0 0 0 }
        let f := lr.frame
        let words := lr.words
        let x := s.pkg.lport q
        let h := lhdr f
        let a := x.acked h.ack
        let c := { rcmd with ftype := 3 }
        decide (q < 48) && decide (s.pkg.fw.off = 0) && decide ((s.pkg.lport q).st = .active) && decide (lframeOk f = true) && decide (wordsLost words = false) && decide (a.queue = []) && decide (h.ftype = 5) && decide (h.seq = a.rx) && decide (a.cmds.find? (fun c => decide (c.tag = h.tag) && decide (c.ftype = 3)) = some c) && decide (s.pkg.job c.job = none))
      && (
        let s : State := S (lpt 6 { st := .active, rx := 3, naks := [599000001, 599000000] })
        let q : Nat := 6
        let lr : LRecv := { bytes := lfr 6 3 0 0 false 0 0 0 }
        let f := lr.frame
        let words := lr.words
        let x := s.pkg.lport q
        let h := lhdr f
        let a := x.acked h.ack
        decide (q < 48) && decide (s.pkg.fw.off = 0) && decide ((s.pkg.lport q).st = .active) && decide (lframeOk f = true) && decide (wordsLost words = false) && decide (a.queue = []) && decide (h.ftype = 6) && decide (a.unacked = []) && decide (a.naks.length < 1000))
      && (
        let s : State := S (lpt 6 { st := .active, rx := 3, unacked := [{ seq := 7, resends := 8 }] })
        let q : Nat := 6
        let lr : LRecv := { bytes := lfr 6 7 0 0 false 0 0 0 }
        let f := lr.frame
        let words := lr.words
        let x := s.pkg.lport q
        let h := lhdr f
        let a := x.acked h.ack
        let u := { seq := 7, resends := 8 }
        decide (q < 48) && decide (s.pkg.fw.off = 0) && decide ((s.pkg.lport q).st = .active) && decide (lframeOk f = true) && decide (wordsLost words = false) && decide (a.queue = []) && decide (h.ftype = 6) && decide (a.unacked = [u]) && decide (8 ≤ u.resends) && decide (a.naks.length < 1000) && decide (a.cmds = []))
      && (
        let s : State := rst
        let q : Nat := 6
        let x := s.pkg.lport q
        let tag := 9
        let c := rcmd
        decide (q < 48) && decide (s.pkg.fw.off = 0) && decide ((s.pkg.lport q).st = .active) && decide (x.cmds.find? (fun c => decide (c.tag = tag) && decide (c.ftype ≠ 3) && !c.dead) = some c) && decide (c.sentAt + 2 * x.rtt + 4 * x.latency < s.pkg.tempo.local_))
      && (
        let s : State := rst [{ rcmd with sentAt := 599999920 }]
        let q : Nat := 6
        let x := s.pkg.lport q
        let tag := 9
        let c := { rcmd with sentAt := 599999920 }
        decide (q < 48) && decide (s.pkg.fw.off = 0) && decide ((s.pkg.lport q).st = .active) && decide (x.cmds.find? (fun c => decide (c.tag = tag) && decide (c.ftype ≠ 3) && !c.dead) = some c) && decide (s.pkg.tempo.local_ ≤ c.sentAt + 2 * x.rtt + 4 * x.latency))
      && (
        let s : State := rst [{ rcmd with ftype := 3, sentAt := 599900001 }]
        let q : Nat := 6
        let x := s.pkg.lport q
        let tag := 9
        let c := { rcmd with ftype := 3, sentAt := 599900001 }
        decide (q < 48) && decide (s.pkg.fw.off = 0) && decide ((s.pkg.lport q).st = .active) && decide (x.cmds.find? (fun c => decide (c.tag = tag) && decide (c.ftype = 3)) = some c) && decide (s.pkg.tempo.local_ < c.sentAt + 100000))
      && (
        let s : State := rst [{ rcmd with ftype := 3, sentAt := 599900000 }]
        let q : Nat := 6
        let x := s.pkg.lport q
        let tag := 9
        let c := { rcmd with ftype := 3, sentAt := 599900000 }
        decide (q < 48) && decide (s.pkg.fw.off = 0) && decide ((s.pkg.lport q).st = .active) && decide (x.cmds.find? (fun c => decide (c.tag = tag) && decide (c.ftype = 3)) = some c) && decide (c.sentAt + 100000 ≤ s.pkg.tempo.local_))
      && (
        let w : List Nat := List.replicate 7 0 ++ [5] ++ List.replicate 23 0
        let r : List Nat := List.replicate 31 0
        let n : Nat := 1
        let v := 0
        decide (rsDecode w = some (r, n)) && decide (v ∈ rsSyndromes r))
      && (
        let w : List Nat := List.replicate 31 0
        decide (∀ v ∈ rsSyndromes w, v = 0))
      && (
        let n : Nat := 14
        decide (0 < n))) = true := by decide +kernel

/-- The hypotheses of `LenpelPorts`, clause 41, can be met. -/
theorem witness_LenpelPorts_4 :
      ((
        let h : LHdr := { ftype := 8, last := true, seq := 1023, ack := 1000, tag := 4095, units := 2, idx := 7, off := 2^34 - 1, len := 511, status := 7 }
        let data : List Byte := List.replicate 128 9
        decide (h.ftype < 9) && decide (h.seq < 1024) && decide (h.ack < 1024) && decide (h.tag < 4096) && decide (h.units ≤ 64) && decide (h.idx < 8) && decide (h.off < 2 ^ 34) && decide (h.len < 512) && decide (h.status < 8) && decide (data.length = 64 * h.units))) = true := by decide +kernel

/-- The hypotheses of `AtnikLinks`, clauses 1, 2, 3, 4, 5, 6, 7, 8, 9, 10, 11, 12, can be met. -/
theorem witness_AtnikLinks_1 :
      ((
        let s : State := S (ap 2 { st := .failed, unacked := [{}], badLanes := 3 })
        let n : Nat := 2
        let x := s.pkg.port n
        decide (n < 24) && decide (s.pkg.fw.off = 0) && decide (s.pkg.fw.epochSet = true) && decide (s.pkg.ent (0x5040 + n) 2 = 1) && decide (x.st = .down ∨ x.st = .failed))
      && (
        let s : State := S { (ap 2 { st := .down }) with fw := { on.fw with epochSet := false } }
        let n : Nat := 2
        decide (n < 24) && decide (s.pkg.fw.off = 0) && decide (s.pkg.fw.epochSet = false))
      && (
        let s : State := S (ap 2 { st := .train, since := 899999999999, partner := some prt })
        let n : Nat := 2
        let x := s.pkg.port n
        let now := s.pkg.tempo.local_
        let bad := 0
        decide (n < 24) && decide (s.pkg.fw.off = 0) && decide (x.st = .train) && decide (x.badLanes = 0) && decide (bad < 256) && decide (now < x.since + 500000000) && decide (bad = 0) && decide (∀ g ∈ s.pkg.fault.groups, g ≠ (8, n)))
      && (
        let s : State := S (ap 2 { st := .train, since := 899999999999, partner := some prt })
        let n : Nat := 2
        let x := s.pkg.port n
        let now := s.pkg.tempo.local_
        let bad := 0x30
        decide (n < 24) && decide (s.pkg.fw.off = 0) && decide (x.st = .train) && decide (x.badLanes = 0) && decide (bad < 256) && decide (now < x.since + 500000000) && decide (bad ≠ 0) && decide (bad % 16 = 0 ∨ bad / 16 = 0))
      && (
        let s : State := S (ap 2 { st := .train, since := 899999999999, partner := some prt })
        let n : Nat := 2
        let x := s.pkg.port n
        let now := s.pkg.tempo.local_
        let bad := 0x31
        decide (n < 24) && decide (s.pkg.fw.off = 0) && decide (x.st = .train) && decide (x.badLanes = 0) && decide (bad < 256) && decide (now < x.since + 500000000) && decide (bad % 16 ≠ 0) && decide (bad / 16 ≠ 0))
      && (
        let s : State := S (ap 2 { st := .train, since := 899500000000 })
        let n : Nat := 2
        let x := s.pkg.port n
        let now := s.pkg.tempo.local_
        decide (n < 24) && decide (s.pkg.fw.off = 0) && decide (x.st = .train) && decide (x.since + 500000000 ≤ now))
      && (
        let s : State := S (ap 2 { st := .train, since := 5, partner := some prt })
        let n : Nat := 2
        decide (n < 24) && decide (s.pkg.fw.off = 0))
      && (
        let s : State := S (ap 2 { st := .train, since := 899500000001 })
        let n : Nat := 2
        let x := s.pkg.port n
        let now := s.pkg.tempo.local_
        decide (n < 24) && decide (s.pkg.fw.off = 0) && decide (x.st = .train) && decide (now < x.since + 500000000))
      && (
        let s : State := S (ap 2 { st := .identify, since := 899999000000 })
        let n : Nat := 2
        let x := s.pkg.port n
        let now := s.pkg.tempo.local_
        decide (n < 24) && decide (s.pkg.fw.off = 0) && decide (x.st = .identify) && decide (x.kept = false) && decide (x.since + 1000000 ≤ now))
      && (
        let s : State := S (ap 2 { st := .retrain, since := 899999000000, partner := some prt, unacked := [{}] })
        let n : Nat := 2
        let x := s.pkg.port n
        decide (n < 24) && decide (s.pkg.fw.off = 0) && decide (x.st = .active ∨ x.st = .retrain) && decide (x.queue = []) && decide (s.pkg.net.reqs = []))
      && (
        let s : State := S (ap 2 { st := .retrain, since := 899998000000, partner := some prt, unacked := [{}] })
        let n : Nat := 2
        let x := s.pkg.port n
        let now := s.pkg.tempo.local_
        decide (n < 24) && decide (s.pkg.fw.off = 0) && decide (x.st = .retrain) && decide (x.since + 2000000 ≤ now) && decide (x.queue = []) && decide (s.pkg.net.reqs = []))
      && (
        let s : State := S ((ap 2 { st := .absent, since := 1, partner := some prt, unacked := [{}], key := some [], txSeq := 4 }))
        let n : Nat := 2
        let x := s.pkg.port n
        let now := s.pkg.tempo.local_
        let old := prt
        decide (n < 24) && decide (s.pkg.fw.off = 0) && decide (x.st = .absent) && decide (x.partner = some old) && decide (x.since + 1000000 * s.pkg.ent 0x5000 5 ≤ now) && decide (s.pkg.net.reqs = []) && decide (s.pkg.net.sends = []))) = true := by decide +kernel

/-- The hypotheses of `AtnikLinks`, clauses 13, 15, 16, 17, 18, 19, 20, 21, 22, 23, 24, 25, can be met. -/
theorem witness_AtnikLinks_2 :
      ((
        let s : State := S ((ap 2 { st := .absent, since := 899999999999, partner := some prt, unacked := [{}], key := some [], txSeq := 4 }))
        let n : Nat := 2
        let x := s.pkg.port n
        let now := s.pkg.tempo.local_
        decide (n < 24) && decide (s.pkg.fw.off = 0) && decide (x.st = .absent) && decide (now < x.since + 1000000 * s.pkg.ent 0x5000 5))
      && (
        let s : State := S (ap 2 { st := .identify, since := 899999999999, node := 5, width := 8 })
        let n : Nat := 2
        let lr : LRecv := { bytes := [], words := List.replicate 8 [] }
        let e := s.pkg.came n lr (List.replicate 64 0)
        decide (n < 24) && decide (s.pkg.fw.off = 0) && decide (lr.words ≠ []) && decide (e.sound = false))
      && (
        let s : State := S (ap 2 { st := .identify, since := 899999999999, node := 5, width := 8 })
        let n : Nat := 2
        let x := s.pkg.port n
        let now := s.pkg.tempo.local_
        let r : List Byte := trec 5
        decide (n < 24) && decide (s.pkg.fw.off = 0) && decide (r.length = 64) && decide (x.st = .identify) && decide (x.kept = false) && decide (now < x.since + 1000000) && decide (s.pkg.net.reqs = []) && decide (s.pkg.net.owedRel = []) && decide (s.pkg.refusesPartner n r ≠ 0))
      && (
        let s : State := S (ap 2 { st := .identify, since := 899999999999, node := 5, width := 8 } { on with fault := { groups := [(9, 2)] } })
        let n : Nat := 2
        let x := s.pkg.port n
        let now := s.pkg.tempo.local_
        let r : List Byte := trec 9 [(1, 1, 0), (2, 1, portGroup 2)]
        decide (n < 24) && decide (s.pkg.fw.off = 0) && decide (r.length = 64) && decide (x.st = .identify) && decide (x.kept = false) && decide (now < x.since + 1000000) && decide (s.pkg.net.reqs = []) && decide (s.pkg.net.owedRel = []) && decide (s.pkg.refusesPartner n r = 0) && decide (x.partner = none) && decide (x.queue = []) && decide (bit (byteAt r 0) 1 = true))
      && (
        let s : State := S (ap 2 { st := .active, width := 8, partner := some prt })
        let n : Nat := 2
        let x := s.pkg.port n
        let lane := 7
        decide (n < 24) && decide (s.pkg.fw.off = 0) && decide (lane < 8) && decide (x.st = .active) && decide (x.badLanes = 0) && decide (x.width = 8))
      && (
        let s : State := S ((ap 2 { st := .active, width := 8 }).setEnt 0x7030 3 1)
        let n : Nat := 2
        decide (n < 24) && decide (s.pkg.fw.off = 0) && decide (s.pkg.ent 0x7030 (n + 1) ≠ 0))
      && (
        let key := (List.replicate 44 1)
        let s : State := S (ap 2 { st := .active, width := 8, key := some (List.replicate 44 1), keySince := 840000000000 })
        let n : Nat := 2
        let x := s.pkg.port n
        let now := s.pkg.tempo.local_
        decide (n < 24) && decide (s.pkg.fw.off = 0) && decide (x.st = .active) && decide (x.key = some key) && decide (x.rekeyGot = false) && decide (x.keySince + 60000000000 ≤ now))
      && (
        let s : State := S (ap 2 { st := .active, width := 8 })
        let n : Nat := 2
        let x := s.pkg.port n
        decide (n < 24) && decide (s.pkg.fw.off = 0) && decide (x.key = none))
      && (
        let s : State := S (ap 2 { st := .active })
        let n : Nat := 2
        let lr : LRecv := { bytes := [1, 2] }
        decide (n < 24) && decide (s.pkg.fw.off = 0) && decide ((s.pkg.port n).st = .active) && decide ((s.pkg.port n).key = none) && decide (lr.words = []))
      && (
        let s : State := S (ap 2 { st := .active, width := 8 })
        let n : Nat := 2
        let lr : LRecv := { bytes := [], words := List.replicate 8 [] }
        decide (n < 24) && decide (s.pkg.fw.off = 0) && decide ((s.pkg.port n).st = .active) && decide ((s.pkg.port n).key = none) && decide (lr.words ≠ []))
      && (
        let s : State := S (ap 2 { st := .active, rxNext := 4095, unacked := [{ seq := 4 }, { seq := 5 }], nakSent := true })
        let n : Nat := 2
        let raw : List Byte := pktB
        let lr : LRecv := { bytes := lnk 1 4095 4 raw }
        let x := s.pkg.port n
        let e := s.pkg.came n lr raw
        let e0 := s.pkg.came n lr []
        let body := e.body
        let v := leNat (e.link.take 16)
        let a : APort := { x.acked (bits v 23 12) with credits := Tab.modify 0 (x.acked (bits v 23 12)).credits (bits v 34 32) (· + bits v 47 36) }
        let good (b : List Byte) : Bool := decide (e0.link = e.link ∧ e.lost = e0.lost ∧ e.lost = false ∧ bits v 127 96 = crc32c (e.link.take 12 ++ b))
        decide (n < 24) && decide (s.pkg.fw.off = 0) && decide ((s.pkg.port n).st = .active) && decide ((s.pkg.port n).key = none) && decide (good body) && decide (bits v 27 24 = 1) && decide (bits v 11 0 = a.rxNext) && decide (packetKnown body = true) && decide ((Hdr.dec body).op ≠ opCTRL) && decide (x.queue = []))
      && (
        let s : State := S (ap 2 { st := .active, rxNext := 4095, unacked := [{ seq := 4 }, { seq := 5 }], nakSent := true, tagRun := 3 })
        let n : Nat := 2
        let raw : List Byte := pktB
        let lr : LRecv := { bytes := lnk 1 4094 4 raw }
        let x := s.pkg.port n
        let e := s.pkg.came n lr raw
        let e0 := s.pkg.came n lr []
        let body := e.body
        let v := leNat (e.link.take 16)
        let a : APort := { x.acked (bits v 23 12) with credits := Tab.modify 0 (x.acked (bits v 23 12)).credits (bits v 34 32) (· + bits v 47 36) }
        let good (b : List Byte) : Bool := decide (e0.link = e.link ∧ e.lost = e0.lost ∧ e.lost = false ∧ bits v 127 96 = crc32c (e.link.take 12 ++ b))
        decide (n < 24) && decide (s.pkg.fw.off = 0) && decide ((s.pkg.port n).st = .active) && decide ((s.pkg.port n).key = none) && decide (good body) && decide (bits v 27 24 = 1) && decide (bits v 11 0 ≠ a.rxNext) && decide (x.nakSent = true))) = true := by decide +kernel

/-- The hypotheses of `AtnikLinks`, clauses 26, 27, 28, 29, 30, 31, can be met. -/
theorem witness_AtnikLinks_3 :
      ((
        let s : State := S (ap 2 { st := .active, rxNext := 4095, unacked := [{ seq := 4 }, { seq := 5 }] })
        let n : Nat := 2
        let raw : List Byte := pktB
        let lr : LRecv := { bytes := lnk 1 4094 4 raw }
        let x := s.pkg.port n
        let e := s.pkg.came n lr raw
        let e0 := s.pkg.came n lr []
        let body := e.body
        let v := leNat (e.link.take 16)
        let a : APort := { x.acked (bits v 23 12) with credits := Tab.modify 0 (x.acked (bits v 23 12)).credits (bits v 34 32) (· + bits v 47 36) }
        let good (b : List Byte) : Bool := decide (e0.link = e.link ∧ e.lost = e0.lost ∧ e.lost = false ∧ bits v 127 96 = crc32c (e.link.take 12 ++ b))
        decide (n < 24) && decide (s.pkg.fw.off = 0) && decide ((s.pkg.port n).st = .active) && decide ((s.pkg.port n).key = none) && decide (good body) && decide (bits v 27 24 = 1) && decide (bits v 11 0 ≠ a.rxNext) && decide (x.nakSent = false) && decide (x.naks.length < 1000))
      && (
        let s : State := S (ap 2 { st := .active, rxNext := 4095, nakSent := true })
        let n : Nat := 2
        let lr : LRecv := { bytes := lnk 1 4094 4 [] }
        let raw : List Byte := pktB
        let x := s.pkg.port n
        let e := s.pkg.came n lr raw
        decide (n < 24) && decide (s.pkg.fw.off = 0) && decide ((s.pkg.port n).st = .active) && decide ((s.pkg.port n).key = none) && decide (e.sound = false) && decide (x.nakSent = true))
      && (
        let s : State := S (ap 2 { st := .active, rxNext := 4095, unacked := [{ seq := 4 }, { seq := 5 }] })
        let n : Nat := 2
        let lr : LRecv := { bytes := lnk 0 0 4 [] }
        let raw : List Byte := []
        let e := s.pkg.came n lr raw
        let e0 := s.pkg.came n lr []
        let v := leNat (e.link.take 16)
        let good (b : List Byte) : Bool := decide (e0.link = e.link ∧ e.lost = e0.lost ∧ e.lost = false ∧ bits v 127 96 = crc32c (e.link.take 12 ++ b))
        decide (n < 24) && decide (s.pkg.fw.off = 0) && decide ((s.pkg.port n).st = .active) && decide ((s.pkg.port n).key = none) && decide (good []) && decide (e0.body = []) && decide (bits v 27 24 = 0))
      && (
        let s : State := S (ap 2 { st := .active })
        let n : Nat := 2
        let x := s.pkg.port n
        decide (n < 24) && decide (s.pkg.fw.off = 0) && decide ((s.pkg.port n).st = .active) && decide ((s.pkg.port n).key = none) && decide (x.queue = []) && decide (x.owed = []))
      && (
        let s : State := S (ap 2 { st := .active, rxNext := 4095, unacked := [{ seq := 4 }], naks := [5, 899999999990] })
        let n : Nat := 2
        let lr : LRecv := { bytes := lnk 2 0 4 [] }
        let raw : List Byte := []
        let x := s.pkg.port n
        let e := s.pkg.came n lr raw
        let e0 := s.pkg.came n lr []
        let v := leNat (e.link.take 16)
        let a : APort := { x.acked (bits v 23 12) with credits := Tab.modify 0 (x.acked (bits v 23 12)).credits (bits v 34 32) (· + bits v 47 36) }
        let good (b : List Byte) : Bool := decide (e0.link = e.link ∧ e.lost = e0.lost ∧ e.lost = false ∧ bits v 127 96 = crc32c (e.link.take 12 ++ b))
        decide (n < 24) && decide (s.pkg.fw.off = 0) && decide ((s.pkg.port n).st = .active) && decide ((s.pkg.port n).key = none) && decide (good []) && decide (e0.body = []) && decide (bits v 27 24 = 2) && decide (a.unacked = []) && decide (x.naks.length < 1000))
      && (
        let s : State := S (ap 2 { st := .active, rxNext := 4095, partner := some prt, unacked := [{ seq := 4 }, { seq := 5, resends := 8 }] })
        let n : Nat := 2
        let lr : LRecv := { bytes := lnk 2 0 4 [] }
        let raw : List Byte := []
        let x := s.pkg.port n
        let e := s.pkg.came n lr raw
        let e0 := s.pkg.came n lr []
        let v := leNat (e.link.take 16)
        let a : APort := { x.acked (bits v 23 12) with credits := Tab.modify 0 (x.acked (bits v 23 12)).credits (bits v 34 32) (· + bits v 47 36) }
        let good (b : List Byte) : Bool := decide (e0.link = e.link ∧ e.lost = e0.lost ∧ e.lost = false ∧ bits v 127 96 = crc32c (e.link.take 12 ++ b))
        let u := { seq := 5, resends := 8 }
        decide (n < 24) && decide (s.pkg.fw.off = 0) && decide ((s.pkg.port n).st = .active) && decide ((s.pkg.port n).key = none) && decide (good []) && decide (e0.body = []) && decide (bits v 27 24 = 2) && decide (a.unacked = [u]) && decide (8 ≤ u.resends))) = true := by decide +kernel

/-- The hypotheses of `AtnikTargets`, clauses 1, 2, 3, 4, 5, 6, 7, 8, 9, 10, 11, 12, can be met. -/
theorem witness_AtnikTargets_1 :
      ((
        let r : RxPkt := rp (rqh 2 0 0xF0 0 4 0x1000 20000) (List.replicate 64 9)
        let s : State := S (let k := tg r; ({ k with net := { k.net with ctxs := (List.range 8192).map (fun i => (i, { live := true })) } } : Pkg).setPort 2 { k.port 2 with rx := [r] })
        let n : Nat := 2
        let rest : List RxPkt := []
        let k := s.pkg.received n r rest
        let h := (Hdr.dec r.packet).here
        let op := opWR
        let i := .wr n
        decide (s.pkg.arrives n r rest) && decide ((op, i) ∈ ([(opRD, .rd n), (opRDB, .rdBulk n), (opWR, .wr n), (opWRB, .wrBulk n), (opATOMIC, .atomic n)] : List (Nat × Instr))) && decide (h.op = op) && decide (s.pkg.ctxFree h.src = false) && decide (k.linkCheck n h = 0) && decide (rest = []))
      && (
        let r : RxPkt := rp { rqh 1 0 0 0 0 with epoch := 3 }
        let s : State := S (tg r)
        let n : Nat := 2
        let rest : List RxPkt := [r]
        let k := s.pkg.received n r rest
        let h := (Hdr.dec r.packet).here
        let op := opRD
        let i := .rd n
        let c := 5
        decide (s.pkg.arrives n r rest) && decide ((op, i) ∈ ([(opRD, .rd n), (opRDB, .rdBulk n)] : List (Nat × Instr))) && decide (h.op = op) && decide (k.linkCheck n h = c) && decide (c ≠ 0))
      && (
        let r : RxPkt := rp (rqh 3 1 1 0 0)
        let s : State := S (tg r)
        let n : Nat := 2
        let rest : List RxPkt := [r]
        let k := s.pkg.received n r rest
        let h := (Hdr.dec r.packet).here
        let room : Bool := decide (s.pkg.ctxFree h.src = true)
        let op := opRDB
        let i := .rdBulk n
        let len := if op = opRD then 64 else 64 * (h.spec % 4 + 1)
        let p := 3
        decide (s.pkg.arrives n r rest) && decide ((op, i) ∈ ([(opRD, .rd n), (opRDB, .rdBulk n)] : List (Nat × Instr))) && decide (h.op = op) && decide (room) && decide (k.linkCheck n h = 0) && decide (k.jobCheck h len 64 = (0, p)))
      && (
        let r : RxPkt := rp (rqh 1 0 1 0 0 0x80001000)
        let s : State := S (tg r)
        let n : Nat := 2
        let rest : List RxPkt := [r]
        let k := s.pkg.received n r rest
        let h := (Hdr.dec r.packet).here
        let room : Bool := decide (s.pkg.ctxFree h.src = true)
        let op := opRD
        let i := .rd n
        let len := if op = opRD then 64 else 64 * (h.spec % 4 + 1)
        let p := 3
        decide (s.pkg.arrives n r rest) && decide ((op, i) ∈ ([(opRD, .rd n), (opRDB, .rdBulk n)] : List (Nat × Instr))) && decide (h.op = op) && decide (room) && decide (k.linkCheck n h = 0) && decide (k.jobCheck h len 64 = (4, p)))
      && (
        let r : RxPkt := rp { rqh 2 0 0 0 4 with epoch := 3 } (List.replicate 64 9)
        let s : State := S (tg r)
        let n : Nat := 2
        let rest : List RxPkt := [r]
        let k := s.pkg.received n r rest
        let h := (Hdr.dec r.packet).here
        let d := r.packet.drop 32
        let c := 5
        decide (s.pkg.arrives n r rest) && decide (h.op = opWR) && decide (d.length = 64) && decide (k.linkCheck n h = c) && decide (c ≠ 0))
      && (
        let r : RxPkt := rp (rqh 2 0 0xF0 65535 4) (List.replicate 64 9)
        let s : State := S (tg r { rx0 := 65535 })
        let n : Nat := 2
        let rest : List RxPkt := [r]
        let k := s.pkg.received n r rest
        let h := (Hdr.dec r.packet).here
        let d := r.packet.drop 32
        let x := k.ctx h.src
        let room : Bool := decide (s.pkg.ctxFree h.src = true)
        let p := 3
        decide (s.pkg.arrives n r rest) && decide (h.op = opWR) && decide (d.length = 64) && decide (room) && decide (k.linkCheck n h = 0) && decide (k.jobCheck h 64 64 = (0, p)) && decide (h.seq = x.rx0) && decide (k.outsider p h = false))
      && (
        let r : RxPkt := rp (rqh 2 0 0xF0 65535 4 0x1000 11) (List.replicate 64 9)
        let s : State := S ((tg r {}).setCtx 11 { rx0 := 65535 })
        let n : Nat := 2
        let rest : List RxPkt := [r]
        let k := s.pkg.received n r rest
        let h := (Hdr.dec r.packet).here
        let d := r.packet.drop 32
        let x := k.ctx h.src
        let room : Bool := decide (s.pkg.ctxFree h.src = true)
        let p := 3
        decide (s.pkg.arrives n r rest) && decide (h.op = opWR) && decide (d.length = 64) && decide (room) && decide (k.linkCheck n h = 0) && decide (k.jobCheck h 64 64 = (0, p)) && decide (h.seq = x.rx0) && decide (k.outsider p h = true))
      && (
        let r : RxPkt := rp (rqh 2 0 0xF0 4 4) (List.replicate 64 9)
        let s : State := S (tg r { rx0 := 5 })
        let n : Nat := 2
        let rest : List RxPkt := [r]
        let k := s.pkg.received n r rest
        let h := (Hdr.dec r.packet).here
        let d := r.packet.drop 32
        let x := k.ctx h.src
        let room : Bool := decide (s.pkg.ctxFree h.src = true)
        let c := 0
        let p := 3
        decide (s.pkg.arrives n r rest) && decide (h.op = opWR) && decide (d.length = 64) && decide (room) && decide (k.linkCheck n h = 0) && decide (k.jobCheck h 64 64 = (c, p)) && decide (seqPlace x.rx0 h.seq = 1) && decide (k.writeComing h = false))
      && (
        let r : RxPkt := rp (rqh 2 0 0xF0 4 4) (List.replicate 64 9)
        let s : State := S ((tg r { rx0 := 5 }).setSdie 0 { arriving := [{ src := 4, addr := 0x1000, reply := some ((rqh 2 0 0xF0 4 4).enc, 5) }] })
        let n : Nat := 2
        let rest : List RxPkt := [r]
        let k := s.pkg.received n r rest
        let h := (Hdr.dec r.packet).here
        let d := r.packet.drop 32
        let x := k.ctx h.src
        let room : Bool := decide (s.pkg.ctxFree h.src = true)
        let c := 0
        let p := 3
        decide (s.pkg.arrives n r rest) && decide (h.op = opWR) && decide (d.length = 64) && decide (room) && decide (k.linkCheck n h = 0) && decide (k.jobCheck h 64 64 = (c, p)) && decide (seqPlace x.rx0 h.seq = 1) && decide (k.writeComing h = true))
      && (
        let r : RxPkt := rp (rqh 2 0 0xF0 7 4) (List.replicate 64 9)
        let s : State := S (tg r { rx0 := 5 })
        let n : Nat := 2
        let rest : List RxPkt := [r]
        let k := s.pkg.received n r rest
        let h := (Hdr.dec r.packet).here
        let d := r.packet.drop 32
        let x := k.ctx h.src
        let room : Bool := decide (s.pkg.ctxFree h.src = true)
        decide (s.pkg.arrives n r rest) && decide (h.op = opWR) && decide (d.length = 64) && decide (room) && decide (k.linkCheck n h = 0) && decide (seqPlace x.rx0 h.seq = 2))
      && (
        let r : RxPkt := rp (rqh 4 1 0 7 8) (List.replicate 128 9)
        let s : State := S (tg r { rx1 := 5, rx1set := [6] })
        let n : Nat := 2
        let rest : List RxPkt := [r]
        let k := s.pkg.received n r rest
        let h := (Hdr.dec r.packet).here
        let d := r.packet.drop 32
        let x := k.ctx h.src
        let room : Bool := decide (s.pkg.ctxFree h.src = true)
        let p := 3
        decide (s.pkg.arrives n r rest) && decide (h.op = opWRB) && decide (room) && decide (k.linkCheck n h = 0) && decide (k.jobCheck h d.length 64 = (0, p)) && decide (winCheck x.rx1 x.rx1set h.seq = 0) && decide (k.outsider p h = false) && decide (h.addr % 0x80000000 + d.length ≤ 0x80000000))
      && (
        let r : RxPkt := rp (rqh 4 1 0 6 8) (List.replicate 128 9)
        let s : State := S (tg r { rx1 := 5, rx1set := [6] })
        let n : Nat := 2
        let rest : List RxPkt := [r]
        let k := s.pkg.received n r rest
        let h := (Hdr.dec r.packet).here
        let d := r.packet.drop 32
        let x := k.ctx h.src
        let room : Bool := decide (s.pkg.ctxFree h.src = true)
        let c := 0
        let p := 3
        decide (s.pkg.arrives n r rest) && decide (h.op = opWRB) && decide (room) && decide (k.linkCheck n h = 0) && decide (k.jobCheck h d.length 64 = (c, p)) && decide (winCheck x.rx1 x.rx1set h.seq = 1) && decide (k.writeComing h = false))) = true := by decide +kernel

/-- The hypotheses of `AtnikTargets`, clauses 13, 14, 15, 16, 17, 18, 19, can be met. -/
theorem witness_AtnikTargets_2 :
      ((
        let r : RxPkt := rp (rqh 4 1 0 6 8) (List.replicate 128 9)
        let s : State := S ((tg r { rx1 := 5, rx1set := [6] }).setSdie 0 { arriving := [{ src := 4, addr := 0x1000, reply := some ((rqh 4 1 0 6 8).enc, 5) }] })
        let n : Nat := 2
        let rest : List RxPkt := [r]
        let k := s.pkg.received n r rest
        let h := (Hdr.dec r.packet).here
        let d := r.packet.drop 32
        let x := k.ctx h.src
        let room : Bool := decide (s.pkg.ctxFree h.src = true)
        let c := 0
        let p := 3
        decide (s.pkg.arrives n r rest) && decide (h.op = opWRB) && decide (room) && decide (k.linkCheck n h = 0) && decide (k.jobCheck h d.length 64 = (c, p)) && decide (winCheck x.rx1 x.rx1set h.seq = 1) && decide (k.writeComing h = true))
      && (
        let r : RxPkt := rp (rqh 4 1 0 2000 8) (List.replicate 128 9)
        let s : State := S (tg r { rx1 := 5, rx1set := [6] })
        let n : Nat := 2
        let rest : List RxPkt := [r]
        let k := s.pkg.received n r rest
        let h := (Hdr.dec r.packet).here
        let x := k.ctx h.src
        let room : Bool := decide (s.pkg.ctxFree h.src = true)
        decide (s.pkg.arrives n r rest) && decide (h.op = opWRB) && decide (room) && decide (k.linkCheck n h = 0) && decide (winCheck x.rx1 x.rx1set h.seq = 2))
      && (
        let r : RxPkt := rp (rqh 5 0 (2^36 + 9 * 2^32 + 6) 5 1 0x1000) (natLe 8 3 ++ natLe 8 0x08000000)
        let s : State := S (tg r { rx0 := 5 })
        let n : Nat := 2
        let rest : List RxPkt := [r]
        let k := s.pkg.received n r rest
        let h := (Hdr.dec r.packet).here
        let x := k.ctx h.src
        let room : Bool := decide (s.pkg.ctxFree h.src = true)
        let p := 3
        let f := h.src % 8
        decide (s.pkg.arrives n r rest) && decide (h.op = opATOMIC) && decide (room) && decide (k.linkCheck n h = 0) && decide (k.jobCheck h h.width 1 = (0, p)) && decide (h.addr % 16 + h.width ≤ 16) && decide (h.seq = x.rx0) && decide (((s.pkg.onces f).find? (fun o => o.is h)) = none) && decide ((s.pkg.onces f).length < 4096) && decide (k.outsider p h = false))
      && (
        let r : RxPkt := rp (rqh 5 0 (2^36 + 9 * 2^32 + 6) 5 1 0x1000 11) (natLe 8 3 ++ natLe 8 0x08000000)
        let s : State := S ((tg r { rx0 := 5 }).setCtx 11 { rx0 := 5 })
        let n : Nat := 2
        let rest : List RxPkt := [r]
        let k := s.pkg.received n r rest
        let h := (Hdr.dec r.packet).here
        let x := k.ctx h.src
        let room : Bool := decide (s.pkg.ctxFree h.src = true)
        let p := 3
        let f := h.src % 8
        decide (s.pkg.arrives n r rest) && decide (h.op = opATOMIC) && decide (room) && decide (k.linkCheck n h = 0) && decide (k.jobCheck h h.width 1 = (0, p)) && decide (h.addr % 16 + h.width ≤ 16) && decide (h.seq = x.rx0) && decide (((s.pkg.onces f).find? (fun o => o.is h)) = none) && decide ((s.pkg.onces f).length < 4096) && decide (k.outsider p h = true))
      && (
        let o := { src := 9, agent := 4, key := 6, result := natLe 16 5 }
        let r : RxPkt := rp (rqh 5 0 (0 * 2^36 + 5 * 2^32 + 6) 5 1 0x1000) (natLe 16 3)
        let s : State := S { tg r { rx0 := 5 } with net := { (tg r { rx0 := 5 }).net with once := [(1, [o])] } }
        let n : Nat := 2
        let rest : List RxPkt := [r]
        let k := s.pkg.received n r rest
        let h := (Hdr.dec r.packet).here
        let x := k.ctx h.src
        let room : Bool := decide (s.pkg.ctxFree h.src = true)
        let p := 3
        let f := h.src % 8
        decide (s.pkg.arrives n r rest) && decide (h.op = opATOMIC) && decide (room) && decide (k.linkCheck n h = 0) && decide (k.jobCheck h h.width 1 = (0, p)) && decide (h.addr % 16 + h.width ≤ 16) && decide (h.seq = x.rx0) && decide ((s.pkg.onces f).find? (fun o => o.is h) = some o) && decide (o.result ≠ []))
      && (
        let o := { src := 9, agent := 4, key := 6, result := [] }
        let r : RxPkt := rp (rqh 5 0 (0 * 2^36 + 5 * 2^32 + 6) 5 1 0x1000) (natLe 16 3)
        let s : State := S { tg r { rx0 := 5 } with net := { (tg r { rx0 := 5 }).net with once := [(1, [o])] } }
        let n : Nat := 2
        let rest : List RxPkt := [r]
        let k := s.pkg.received n r rest
        let h := (Hdr.dec r.packet).here
        let x := k.ctx h.src
        let room : Bool := decide (s.pkg.ctxFree h.src = true)
        let p := 3
        let f := h.src % 8
        decide (s.pkg.arrives n r rest) && decide (h.op = opATOMIC) && decide (room) && decide (k.linkCheck n h = 0) && decide (k.jobCheck h h.width 1 = (0, p)) && decide (h.addr % 16 + h.width ≤ 16) && decide (h.seq = x.rx0) && decide ((s.pkg.onces f).find? (fun o => o.is h) = some o) && decide (o.result = []))
      && (
        let r : RxPkt := rp (rqh 5 0 (0 * 2^36 + 5 * 2^32 + 6) 5 1 0x1000) (natLe 16 3)
        let s : State := S { tg r { rx0 := 5 } with net := { (tg r { rx0 := 5 }).net with once := [(1, List.replicate 4096 {})] } }
        let n : Nat := 2
        let rest : List RxPkt := [r]
        let k := s.pkg.received n r rest
        let h := (Hdr.dec r.packet).here
        let x := k.ctx h.src
        let room : Bool := decide (s.pkg.ctxFree h.src = true)
        let p := 3
        let f := h.src % 8
        decide (s.pkg.arrives n r rest) && decide (h.op = opATOMIC) && decide (room) && decide (k.linkCheck n h = 0) && decide (k.jobCheck h h.width 1 = (0, p)) && decide (h.addr % 16 + h.width ≤ 16) && decide (h.seq = x.rx0) && decide (((s.pkg.onces f).find? (fun o => o.is h)) = none) && decide (4096 ≤ (s.pkg.onces f).length))) = true := by decide +kernel

/-- The hypotheses of `AtnikSources`, clauses 1, 2, 3, 4, 5, 6, 7, 8, 9, 10, 11, 12, can be met. -/
theorem witness_AtnikSources_1 :
      ((
        let q := sq (.move 5 4 2 0) 1 0 7
        let r : RxPkt := rp (rqh 6 0 0 7 4) (List.replicate 64 9)
        let s : State := S (so r q)
        let n : Nat := 2
        let rest : List RxPkt := [r]
        let h := Hdr.dec r.packet
        decide (s.pkg.arrives n r rest) && decide (h.op = opRSP) && decide (h.status ≠ 0x0B) && decide (s.pkg.answered h = some q))
      && (
        let q := sq (.hart 16) 1 0 7
        let r : RxPkt := rp (rqh 6 0 0 7 4) (List.replicate 64 9)
        let s : State := S { so r q with harts := [(16, { part := 4, on := true, wait := .remote 8 { dst := .x 3 true, off := 8, size := 4 } })] }
        let n : Nat := 2
        let rest : List RxPkt := [r]
        let h := Hdr.dec r.packet
        let g := 16
        let a := { dst := .x 3 true, off := 8, size := 4 }
        decide (s.pkg.arrives n r rest) && decide (h.op = opRSP) && decide (h.status ≠ 0x0B) && decide (s.pkg.answered h = some q) && decide (q.src = .hart g) && decide (h.status = 0) && decide (s.pkg.net.sends = []) && decide ((s.pkg.port n).queue = []) && decide ((s.pkg.hart g).wait = .remote q.id a))
      && (
        let q := sq (.hart 16) 1 0 7
        let r : RxPkt := rp (rqh 6 0 0 8 4) (List.replicate 64 9)
        let s : State := S (so r q)
        let n : Nat := 2
        let rest : List RxPkt := [r]
        let h := Hdr.dec r.packet
        let p := 3
        decide (s.pkg.arrives n r rest) && decide (h.op = opRSP) && decide (h.status ≠ 0x0B) && decide (s.pkg.answered h = none) && decide (s.pkg.partOfJob h.job = some p))
      && (
        let q := sq (.hart 16) 5 0 7
        let r : RxPkt := rp (rqh 6 0 0 7 0 0 9 11)
        let s : State := S (so r q)
        let n : Nat := 2
        let rest : List RxPkt := [r]
        let h := Hdr.dec r.packet
        decide (s.pkg.arrives n r rest) && decide (h.op = opRSP) && decide (h.status = 0x0B) && decide (s.pkg.answered h = some q))
      && (
        let q := sq (.send 5 4) 4 1 7
        let r : RxPkt := rp (rqh 7 1 0 7 0)
        let s : State := S (so r q)
        let n : Nat := 2
        let rest : List RxPkt := [r]
        let h := Hdr.dec r.packet
        decide (s.pkg.arrives n r rest) && decide (h.op = opACK) && decide (s.pkg.answered h = some q) && decide (h.tc = 1) && decide (h.status = 0))
      && (
        let q := sq (.send 5 4) 2 0 7
        let r : RxPkt := rp (rqh 7 0 8 7 0)
        let s : State := S (so r q)
        let n : Nat := 2
        let rest : List RxPkt := [r]
        let h := Hdr.dec r.packet
        decide (s.pkg.arrives n r rest) && decide (h.op = opACK) && decide (s.pkg.answered h = some q) && decide (h.tc = 0) && decide (h.status = 0) && decide (seqPlace (h.spec % 65536) h.seq = 1))
      && (
        let q := sq (.send 5 4) 2 0 7
        let r : RxPkt := rp (rqh 7 0 7 7 0)
        let s : State := S (so r q)
        let n : Nat := 2
        let rest : List RxPkt := [r]
        let h := Hdr.dec r.packet
        decide (s.pkg.arrives n r rest) && decide (h.op = opACK) && decide (s.pkg.answered h = some q) && decide (h.tc = 0) && decide (h.status = 0) && decide (seqPlace (h.spec % 65536) h.seq ≠ 1))
      && (
        let r : RxPkt := rp (rqh 8 0 6 7 0)
        let s : State := S { tg r with net := { (tg r).net with once := [(1, [{ src := 9, agent := 4, key := 6 }, { src := 9, agent := 5, key := 6 }])] } }
        let n : Nat := 2
        let rest : List RxPkt := [r]
        let k := s.pkg.received n r rest
        let h := Hdr.dec r.packet
        decide (s.pkg.arrives n r rest) && decide (h.op = opREL) && decide (k.linkCheck n h = 0))
      && (
        let r : RxPkt := rp (rqh 10 3 6 0 2)
        let s : State := S (tg r)
        let n : Nat := 2
        let rest : List RxPkt := [r]
        let h := Hdr.dec r.packet
        decide (s.pkg.arrives n r rest) && decide (h.op = opCTRL) && decide (h.spec % 256 = 6))
      && (
        let r : RxPkt := rp (rqh 10 3 5 0 2) (natLe 4 0 ++ natLe 4 100 ++ natLe 4 200 ++ natLe 20 0)
        let s : State := S ((tg r).setPort 2 { (tg r).port 2 with notices := [(1, 2)] })
        let n : Nat := 2
        let rest : List RxPkt := [r]
        let h := Hdr.dec r.packet
        decide (s.pkg.arrives n r rest) && decide (h.op = opCTRL) && decide (h.spec % 256 = 5) && decide (byteAt (r.packet.drop 32) 0 = 0) && decide ((s.pkg.port n).queue = []) && decide (s.pkg.net.reqs = []))
      && (
        let r : RxPkt := rp (rqh 10 3 5 0 2) (natLe 4 1 ++ natLe 4 100 ++ natLe 4 200 ++ natLe 20 0)
        let s : State := S ((tg r).setPort 2 { (tg r).port 2 with notices := [(1, 2), (50, 150), (90, 250)] })
        let n : Nat := 2
        let rest : List RxPkt := [r]
        let h := Hdr.dec r.packet
        decide (s.pkg.arrives n r rest) && decide (h.op = opCTRL) && decide (h.spec % 256 = 5) && decide (byteAt (r.packet.drop 32) 0 ≠ 0) && decide (s.pkg.net.reqs = []))
      && (
        let s : State := S { tg default with net := { (tg default).net with once := [(1, [{ sentAt := 5 }, { sentAt := 899999999999 }])] } }
        let f := 1
        decide (s.pkg.fw.off = 0) && decide (f < 8))) = true := by decide +kernel

/-- The hypotheses of `AtnikSources`, clauses 13, 14, 15, 16, 17, 18, 19, can be met. -/
theorem witness_AtnikSources_2 :
      ((
        let q := sq (.send 5 4) 2 0 7
        let s : State := S (so default q)
        let id := 8
        decide (s.pkg.fw.off = 0) && decide (s.pkg.req id = some q) && decide (q.waiting = false) && decide (q.noRoute = 0) && decide (q.retryAt = 0) && decide (s.pkg.inTurn q = false) && decide (q.sentAt + 1000 * s.pkg.ent 0x5000 6 ≤ s.pkg.tempo.local_))
      && (
        let q := { sq (.send 5 4) 2 0 7 with sentAt := 899999999999 }
        let s : State := S (so default q)
        let id := 8
        decide (s.pkg.fw.off = 0) && decide (s.pkg.req id = some q) && decide (q.waiting = false) && decide (q.noRoute = 0) && decide (q.retryAt = 0) && decide (s.pkg.inTurn q = false) && decide (s.pkg.tempo.local_ < q.sentAt + 1000 * s.pkg.ent 0x5000 6))
      && (
        let s : State := S (tg default)
        let node := 9
        decide (s.pkg.fw.off = 0) && decide (node < 131072) && decide ((s.pkg.ctx node).live = true) && decide (s.pkg.net.reqs = []) && decide (s.pkg.net.sends = []) && decide (s.pkg.tempo.local_ < (s.pkg.ctx node).used + 1000000 * (s.pkg.ent 0x5000 5 + 1)))
      && (
        let s : State := S { tg default with net := { (tg default).net with ctxs := [(9, { live := true, used := 5 })] } }
        let node := 9
        decide (s.pkg.fw.off = 0) && decide (node < 131072) && decide ((s.pkg.ctx node).live = true) && decide (s.pkg.net.reqs = []) && decide (s.pkg.net.sends = []) && decide ((s.pkg.ctx node).used + 1000000 * (s.pkg.ent 0x5000 5 + 1) ≤ s.pkg.tempo.local_))
      && (
        let s : State := S { tg default with net := { (tg default).net with nextMsg := 5, granted := [(4, 3)], ctxs := [] } }
        let m := 4
        decide (s.pkg.fw.off = 0) && decide (m ≠ 0) && decide (m < s.pkg.net.nextMsg))
      && (
        let s : State := S on
        decide (s.pkg.fw.off = 0))
      && (
        let h : Hdr := { op := 15, tc := 3, fence := 1, space := 1, dst := 2^17-1, src := 2^17-1, job := 2^24-1, addr := 2^46-1, seq := 2^16-1, agent := 2^16-1, epoch := 2^32-1, len := 255, status := 255, spec := 2^64-1 }
        decide (h.op < 16) && decide (h.tc < 4) && decide (h.fence < 2) && decide (h.space < 2) && decide (h.dst < 2 ^ 17) && decide (h.src < 2 ^ 17) && decide (h.job < 2 ^ 24) && decide (h.addr < 2 ^ 46) && decide (h.seq < 2 ^ 16) && decide (h.agent < 2 ^ 16) && decide (h.epoch < 2 ^ 32) && decide (h.len < 256) && decide (h.status < 256) && decide (h.spec < 2 ^ 64))) = true := by decide +kernel

/-- The hypotheses of `Collectives`, clauses 1, 2, 3, 4, 5, 6, 7, 8, 9, 10, 11, 12, can be met. -/
theorem witness_Collectives_1 :
      ((
        let s : State := S { tg default with colls := List.replicate 64 { part := 3, admitted := true } }
        let p : Nat := 3
        decide (p < 16) && decide (s.pkg.fw.off = 0) && decide (64 ≤ s.pkg.collCount p))
      && (
        let s : State := S { tg default with collWait := [(2, 5, collb, 44)] }
        let p : Nat := 3
        decide (p < 16) && decide (s.pkg.fw.off = 0) && decide (∀ w ∈ s.pkg.collWait, w.1 ≠ p))
      && (
        let s : State := S { tg default with collWait := [(3, 5, collb, 44)] }
        let p : Nat := 3
        let tile : Nat := 5
        let stamp : Nat := 44
        let desc : List Byte := collb
        let d := collDesc desc
        let raw := (List.range d.mcount).map (fun i => s.pkg.dstore.rd (d.members + 4 * i) 4)
        let bad := raw.any (fun m => decide (2 ^ 17 ≤ m)) || !(ascending raw) || !(raw.contains s.pkg.node) || s.pkg.unreadable d.members (4 * d.mcount)
        decide (p < 16) && decide (s.pkg.fw.off = 0) && decide (s.pkg.collCount p < 64) && decide (s.pkg.collWait = [(p, tile, desc, stamp)]) && decide (s.pkg.coll p d.seq = none) && decide (bad = true))
      && (
        let s : State := S { tg default with collWait := [(3, 5, put collb 52 2 2, 44)], dstore := [(0x4000, 5)] }
        let p : Nat := 3
        let tile : Nat := 5
        let stamp : Nat := 44
        let desc : List Byte := put collb 52 2 2
        let d := collDesc desc
        let raw := (List.range d.mcount).map (fun i => s.pkg.dstore.rd (d.members + 4 * i) 4)
        let bad := raw.any (fun m => decide (2 ^ 17 ≤ m)) || !(ascending raw) || !(raw.contains s.pkg.node) || s.pkg.unreadable d.members (4 * d.mcount)
        decide (p < 16) && decide (s.pkg.fw.off = 0) && decide (s.pkg.collCount p < 64) && decide (s.pkg.collWait = [(p, tile, desc, stamp)]) && decide (s.pkg.coll p d.seq = none) && decide (bad = false) && decide (∀ g ∈ s.pkg.collGone, ¬(g.1 = p ∧ g.2.1 = d.seq)) && decide (1 < d.lcount) && decide (0 < d.n) && decide (d.sf < 4) && decide (d.clog = 16) && decide (d.mode < 2) && decide ((childrenOf raw s.pkg.node).flatten = []))
      && (
        let s : State := S { tg default with colls := [{ part := 2 }] }
        let p : Nat := 3
        let f := 1
        decide (p < 16) && decide (s.pkg.fw.off = 0) && decide (f < 8) && decide (∀ c ∈ s.pkg.colls, c.part ≠ p))
      && (
        let desc : List Byte := collb
        let c := { cl { members := [5, 9] } with desc := put collb 8 4 65536 }
        let s : State := S (({ tg default with colls := [c] } : Pkg).setEnt 0x2003 4 8192)
        let p : Nat := 3
        let f := 1
        let k := 0
        decide (p < 16) && decide (s.pkg.fw.off = 0) && decide (f < 8) && decide (s.pkg.colls = [c]) && decide (c.part = p) && decide (c.admitted = true) && decide (c.current.find? (fun k => decide ((k + c.seq) % 8 = f)) = some k) && decide (c.allowed k < c.d.segs k) && decide (c.winHeld k = 0) && decide (64 < s.pkg.ent (0x2000 + p) 4 / 64))
      && (
        let c := cl { members := [5, 9] }
        let s : State := S { tg default with colls := [c] }
        let p : Nat := 3
        let q := 9
        decide (p < 16) && decide (s.pkg.fw.off = 0) && decide (s.pkg.coll p q = some c) && decide (c.admitted = true) && decide ((s.pkg.part p).st = .running) && decide (c.progress + c.paused + 50000000 ≤ s.pkg.tempo.now))
      && (
        let c := { cl { members := [5, 9] } with progress := 899990000000 }
        let s : State := S { tg default with colls := [c] }
        let p : Nat := 3
        let q := 9
        decide (p < 16) && decide (s.pkg.fw.off = 0) && decide (s.pkg.coll p q = some c) && decide (c.admitted = true) && decide ((s.pkg.part p).st = .running) && decide (s.pkg.tempo.now < c.progress + c.paused + 50000000))
      && (
        let s : State := S { tg default with colls := [cl {}] }
        let p : Nat := 3
        decide (p < 16) && decide (s.pkg.fw.off = 0))
      && (
        let s : State := S { tg default with colls := [] }
        let p : Nat := 3
        let q := 9
        decide (p < 16) && decide (s.pkg.fw.off = 0) && decide (s.pkg.coll p q = none))
      && (
        let r : RxPkt := rp (ch 1 0 9 3) (List.replicate 256 1)
        let s : State := S (cg r [] { rx2 := 5 })
        let n : Nat := 2
        let rest : List RxPkt := [r]
        let k := s.pkg.received n r rest
        let h := Hdr.dec r.packet
        let kind := bits h.spec 35 32
        let rows : List (Nat × Instr) := [(0, .grant n), (1, .hdrUp n), (2, .hdrDown n), (3, .expUp n), (4, .expDown n), (5, .dataUp n), (6, .dataDown n), (7, .resend n), (8, .abort n)]
        let i := .hdrUp n
        let c := 5
        decide (s.pkg.arrives n r rest) && decide ((Hdr.dec r.packet).op = opCOLL) && decide ((kind, i) ∈ rows) && decide (k.linkCheck n h = c) && decide (c ≠ 0))
      && (
        let r : RxPkt := rp (ch 8 0) (List.replicate 256 1)
        let s : State := S (cg r [] { rx2 := 6 })
        let n : Nat := 2
        let rest : List RxPkt := [r]
        let k := s.pkg.received n r rest
        let h := Hdr.dec r.packet
        let x := k.ctx h.src
        let kind := bits h.spec 35 32
        let rows : List (Nat × Instr) := [(0, .grant n), (1, .hdrUp n), (2, .hdrDown n), (3, .expUp n), (4, .expDown n), (5, .dataUp n), (6, .dataDown n), (7, .resend n), (8, .abort n)]
        let i := .abort n
        decide (s.pkg.arrives n r rest) && decide ((Hdr.dec r.packet).op = opCOLL) && decide ((kind, i) ∈ rows) && decide (k.linkCheck n h = 0) && decide (winCheck x.rx2 x.rx2set h.seq = 1))) = true := by decide +kernel

/-- The hypotheses of `Collectives`, clauses 13, 14, 15, 16, 17, 18, 19, 20, 21, 22, 23, 24, can be met. -/
theorem witness_Collectives_2 :
      ((
        let r : RxPkt := rp (ch 7 0) (List.replicate 256 1)
        let s : State := S (cg r [] { rx2 := 60000 })
        let n : Nat := 2
        let rest : List RxPkt := [r]
        let k := s.pkg.received n r rest
        let h := Hdr.dec r.packet
        let x := k.ctx h.src
        let kind := bits h.spec 35 32
        let rows : List (Nat × Instr) := [(0, .grant n), (1, .hdrUp n), (2, .hdrDown n), (3, .expUp n), (4, .expDown n), (5, .dataUp n), (6, .dataDown n), (7, .resend n), (8, .abort n)]
        let i := .resend n
        decide (s.pkg.arrives n r rest) && decide ((Hdr.dec r.packet).op = opCOLL) && decide ((kind, i) ∈ rows) && decide (k.linkCheck n h = 0) && decide (winCheck x.rx2 x.rx2set h.seq = 2))
      && (
        let r : RxPkt := rp (ch 8 0) (List.replicate 256 1)
        let s : State := S (cg r [] { rx2 := 3000 })
        let n : Nat := 2
        let rest : List RxPkt := [r]
        let h := Hdr.dec r.packet
        let kind := bits h.spec 35 32
        let rows : List (Nat × Instr) := [(0, .grant n), (1, .hdrUp n), (2, .hdrDown n), (3, .expUp n), (4, .expDown n), (5, .dataUp n), (6, .dataDown n), (7, .resend n), (8, .abort n)]
        let j := 7
        let i := .resend n
        decide (s.pkg.arrives n r rest) && decide ((Hdr.dec r.packet).op = opCOLL) && decide ((j, i) ∈ rows) && decide (j ≠ kind))
      && (
        let r : RxPkt := rp (ch 0 0) (List.replicate 256 1)
        let s : State := S (cg r [] { rx2 := 5 })
        let n : Nat := 2
        let rest : List RxPkt := [r]
        let k := s.pkg.received n r rest
        let h := Hdr.dec r.packet
        let x := k.ctx h.src
        let kind := bits h.spec 35 32
        let q := bits h.spec 31 0
        let p := 3
        decide (s.pkg.arrives n r rest) && decide ((Hdr.dec r.packet).op = opCOLL) && decide (k.linkCheck n h = 0) && decide (winCheck x.rx2 x.rx2set h.seq = 0) && decide (s.pkg.partOfJob h.job = some p) && decide (s.pkg.coll p q = none) && decide (kind = 0))
      && (
        let r : RxPkt := rp (ch 8 0) (List.replicate 256 1)
        let s : State := S (cg r [] { rx2 := 5 })
        let n : Nat := 2
        let rest : List RxPkt := [r]
        let k := s.pkg.received n r rest
        let h := Hdr.dec r.packet
        let x := k.ctx h.src
        let kind := bits h.spec 35 32
        let q := bits h.spec 31 0
        let alone := ∀ e ∈ s.pkg.net.ports, ∀ y ∈ e.2.rx, e.1 = n ∧ y = r ∨ (Hdr.dec y.packet).op ≠ opCOLL
        let p := 3
        decide (s.pkg.arrives n r rest) && decide ((Hdr.dec r.packet).op = opCOLL) && decide (k.linkCheck n h = 0) && decide (winCheck x.rx2 x.rx2set h.seq = 0) && decide (s.pkg.partOfJob h.job = some p) && decide (s.pkg.coll p q = none) && decide (kind = 8) && decide (alone))
      && (
        let r : RxPkt := rp (ch 6 0) (List.replicate 256 1)
        let s : State := S (cg r [] { rx2 := 5 })
        let n : Nat := 2
        let rest : List RxPkt := [r]
        let k := s.pkg.received n r rest
        let h := Hdr.dec r.packet
        let x := k.ctx h.src
        let kind := bits h.spec 35 32
        let q := bits h.spec 31 0
        let rows : List (Nat × Instr) := [(0, .grant n), (1, .hdrUp n), (2, .hdrDown n), (3, .expUp n), (4, .expDown n), (5, .dataUp n), (6, .dataDown n), (7, .resend n), (8, .abort n)]
        let p := 3
        let i := .dataDown n
        decide (s.pkg.arrives n r rest) && decide ((Hdr.dec r.packet).op = opCOLL) && decide (k.linkCheck n h = 0) && decide (winCheck x.rx2 x.rx2set h.seq = 0) && decide (s.pkg.partOfJob h.job = some p) && decide (s.pkg.coll p q = none) && decide ((kind, i) ∈ rows) && decide (kind ≠ 0) && decide (kind ≠ 8))
      && (
        let c := cl { members := [2, 5] }
        let r : RxPkt := rp (ch 5 0) (List.replicate 256 1)
        let s : State := S (cg r [c] { rx2 := 5 })
        let n : Nat := 2
        let rest : List RxPkt := [r]
        let k := s.pkg.received n r rest
        let h := Hdr.dec r.packet
        let x := k.ctx h.src
        let kind := bits h.spec 35 32
        let q := bits h.spec 31 0
        let rows : List (Nat × Instr) := [(0, .grant n), (1, .hdrUp n), (2, .hdrDown n), (3, .expUp n), (4, .expDown n), (5, .dataUp n), (6, .dataDown n), (7, .resend n), (8, .abort n)]
        let p := 3
        let up := (c.kids s.pkg.node).contains h.src
        let i := .dataUp n
        decide (s.pkg.arrives n r rest) && decide ((Hdr.dec r.packet).op = opCOLL) && decide (k.linkCheck n h = 0) && decide (winCheck x.rx2 x.rx2set h.seq = 0) && decide (s.pkg.partOfJob h.job = some p) && decide (s.pkg.coll p q = some c) && decide (c.admitted = true) && decide (c.part = p) && decide (c.seq = q) && decide ((kind, i) ∈ rows) && decide (kind = 1 ∨ kind = 3 ∨ kind = 5) && decide (up = false))
      && (
        let c := cl { members := [2, 5] }
        let r : RxPkt := rp (ch 0 0 2) (natLe 8 1234 ++ natLe 4 0 ++ natLe 4 3 ++ List.replicate 240 0)
        let s : State := S ((cg r [c]).setCtx 2 { rx2 := 5 })
        let n : Nat := 2
        let rest : List RxPkt := [r]
        let k := s.pkg.received n r rest
        let h := Hdr.dec r.packet
        let x := k.ctx h.src
        let kind := bits h.spec 35 32
        let q := bits h.spec 31 0
        let pay := r.packet.drop 32
        let p := 3
        let down := c.parent s.pkg.node = some h.src
        decide (s.pkg.arrives n r rest) && decide ((Hdr.dec r.packet).op = opCOLL) && decide (k.linkCheck n h = 0) && decide (winCheck x.rx2 x.rx2set h.seq = 0) && decide (s.pkg.partOfJob h.job = some p) && decide (s.pkg.coll p q = some c) && decide (c.admitted = true) && decide (c.part = p) && decide (c.seq = q) && decide (kind = 0) && decide (down) && decide (fld pay 0 8 = c.hash))
      && (
        let c := cl { members := [5, 9] }
        let r : RxPkt := rp (ch 1 0) (natLe 8 1234 ++ natLe 4 0 ++ natLe 4 3 ++ List.replicate 240 0)
        let s : State := S (cg r [c] { rx2 := 5 })
        let n : Nat := 2
        let rest : List RxPkt := [r]
        let k := s.pkg.received n r rest
        let h := Hdr.dec r.packet
        let x := k.ctx h.src
        let kind := bits h.spec 35 32
        let q := bits h.spec 31 0
        let pay := r.packet.drop 32
        let p := 3
        let up := (c.kids s.pkg.node).contains h.src
        decide (s.pkg.arrives n r rest) && decide ((Hdr.dec r.packet).op = opCOLL) && decide (k.linkCheck n h = 0) && decide (winCheck x.rx2 x.rx2set h.seq = 0) && decide (s.pkg.partOfJob h.job = some p) && decide (s.pkg.coll p q = some c) && decide (c.admitted = true) && decide (c.part = p) && decide (c.seq = q) && decide (kind = 1) && decide (up = true) && decide (fld pay 0 8 = c.hash))
      && (
        let c := cl { members := [2, 5] }
        let r : RxPkt := rp (ch 2 0 2) (natLe 8 1234 ++ natLe 4 0 ++ natLe 4 3 ++ List.replicate 240 0)
        let s : State := S ((cg r [c]).setCtx 2 { rx2 := 5 })
        let n : Nat := 2
        let rest : List RxPkt := [r]
        let k := s.pkg.received n r rest
        let h := Hdr.dec r.packet
        let x := k.ctx h.src
        let kind := bits h.spec 35 32
        let q := bits h.spec 31 0
        let pay := r.packet.drop 32
        let p := 3
        let down := c.parent s.pkg.node = some h.src
        decide (s.pkg.arrives n r rest) && decide ((Hdr.dec r.packet).op = opCOLL) && decide (k.linkCheck n h = 0) && decide (winCheck x.rx2 x.rx2set h.seq = 0) && decide (s.pkg.partOfJob h.job = some p) && decide (s.pkg.coll p q = some c) && decide (c.admitted = true) && decide (c.part = p) && decide (c.seq = q) && decide (kind = 2) && decide (down) && decide (fld pay 0 8 = c.hash))
      && (
        let c := cl { members := [5, 9] }
        let r : RxPkt := rp (ch 3 0) (List.replicate 256 1)
        let s : State := S (cg r [c] { rx2 := 5 })
        let n : Nat := 2
        let rest : List RxPkt := [r]
        let k := s.pkg.received n r rest
        let h := Hdr.dec r.packet
        let x := k.ctx h.src
        let kind := bits h.spec 35 32
        let q := bits h.spec 31 0
        let p := 3
        let up := (c.kids s.pkg.node).contains h.src
        decide (s.pkg.arrives n r rest) && decide ((Hdr.dec r.packet).op = opCOLL) && decide (k.linkCheck n h = 0) && decide (winCheck x.rx2 x.rx2set h.seq = 0) && decide (s.pkg.partOfJob h.job = some p) && decide (s.pkg.coll p q = some c) && decide (c.admitted = true) && decide (c.part = p) && decide (c.seq = q) && decide (kind = 3) && decide (up = true))
      && (
        let c := cl { members := [2, 5] }
        let r : RxPkt := rp (ch 4 0 2) (List.replicate 256 1)
        let s : State := S ((cg r [c]).setCtx 2 { rx2 := 5 })
        let n : Nat := 2
        let rest : List RxPkt := [r]
        let k := s.pkg.received n r rest
        let h := Hdr.dec r.packet
        let x := k.ctx h.src
        let kind := bits h.spec 35 32
        let q := bits h.spec 31 0
        let p := 3
        let down := c.parent s.pkg.node = some h.src
        decide (s.pkg.arrives n r rest) && decide ((Hdr.dec r.packet).op = opCOLL) && decide (k.linkCheck n h = 0) && decide (winCheck x.rx2 x.rx2set h.seq = 0) && decide (s.pkg.partOfJob h.job = some p) && decide (s.pkg.coll p q = some c) && decide (c.admitted = true) && decide (c.part = p) && decide (c.seq = q) && decide (kind = 4) && decide (down))
      && (
        let c := cl { members := [5, 9] }
        let r : RxPkt := rp (ch 5 0) (List.replicate 256 1)
        let s : State := S (cg r [c] { rx2 := 5 })
        let n : Nat := 2
        let rest : List RxPkt := [r]
        let k := s.pkg.received n r rest
        let h := Hdr.dec r.packet
        let x := k.ctx h.src
        let kind := bits h.spec 35 32
        let q := bits h.spec 31 0
        let idx := bits h.spec 63 36
        let p := 3
        let c1 := c.note s.pkg.tempo.now
        let up := (c.kids s.pkg.node).contains h.src
        let j := 0
        decide (s.pkg.arrives n r rest) && decide ((Hdr.dec r.packet).op = opCOLL) && decide (k.linkCheck n h = 0) && decide (winCheck x.rx2 x.rx2set h.seq = 0) && decide (s.pkg.partOfJob h.job = some p) && decide (s.pkg.coll p q = some c) && decide (c.admitted = true) && decide (c.part = p) && decide (c.seq = q) && decide (kind = 5) && decide (up = true) && decide (c1.chunkOf idx c1.current = some j))) = true := by decide +kernel

/-- The hypotheses of `Collectives`, clauses 25, 26, 27, 28, can be met. -/
theorem witness_Collectives_3 :
      ((
        let c := cl { members := [2, 5] }
        let r : RxPkt := rp (ch 6 0 2) (List.replicate 256 1)
        let s : State := S ((cg r [c]).setCtx 2 { rx2 := 5 })
        let n : Nat := 2
        let rest : List RxPkt := [r]
        let k := s.pkg.received n r rest
        let h := Hdr.dec r.packet
        let x := k.ctx h.src
        let kind := bits h.spec 35 32
        let q := bits h.spec 31 0
        let p := 3
        let down := c.parent s.pkg.node = some h.src
        decide (s.pkg.arrives n r rest) && decide ((Hdr.dec r.packet).op = opCOLL) && decide (k.linkCheck n h = 0) && decide (winCheck x.rx2 x.rx2set h.seq = 0) && decide (s.pkg.partOfJob h.job = some p) && decide (s.pkg.coll p q = some c) && decide (c.admitted = true) && decide (c.part = p) && decide (c.seq = q) && decide (kind = 6) && decide (down))
      && (
        let c := cl { members := [2, 5], chunks := [(0, { sentDat := 2 })] }
        let r : RxPkt := rp (ch 7 0 2) (natLe 8 0 ++ natLe 248 2)
        let s : State := S ((cg r [c]).setCtx 2 { rx2 := 5 })
        let n : Nat := 2
        let rest : List RxPkt := [r]
        let k := s.pkg.received n r rest
        let h := Hdr.dec r.packet
        let x := k.ctx h.src
        let kind := bits h.spec 35 32
        let q := bits h.spec 31 0
        let p := 3
        let down := c.parent s.pkg.node = some h.src
        decide (s.pkg.arrives n r rest) && decide ((Hdr.dec r.packet).op = opCOLL) && decide (k.linkCheck n h = 0) && decide (winCheck x.rx2 x.rx2set h.seq = 0) && decide (s.pkg.partOfJob h.job = some p) && decide (s.pkg.coll p q = some c) && decide (c.admitted = true) && decide (c.part = p) && decide (c.seq = q) && decide (kind = 7) && decide (down))
      && (
        let c := cl { members := [5, 9] }
        let r : RxPkt := rp (ch 8 0) (List.replicate 256 1)
        let s : State := S (cg r [c] { rx2 := 5 })
        let n : Nat := 2
        let rest : List RxPkt := [r]
        let k := s.pkg.received n r rest
        let h := Hdr.dec r.packet
        let x := k.ctx h.src
        let kind := bits h.spec 35 32
        let q := bits h.spec 31 0
        let alone := ∀ e ∈ s.pkg.net.ports, ∀ y ∈ e.2.rx, e.1 = n ∧ y = r ∨ (Hdr.dec y.packet).op ≠ opCOLL
        let p := 3
        decide (s.pkg.arrives n r rest) && decide ((Hdr.dec r.packet).op = opCOLL) && decide (k.linkCheck n h = 0) && decide (winCheck x.rx2 x.rx2set h.seq = 0) && decide (s.pkg.partOfJob h.job = some p) && decide (s.pkg.coll p q = some c) && decide (c.admitted = true) && decide (c.part = p) && decide (c.seq = q) && decide (kind = 8) && decide (alone))
      && (
        let d : CollDesc := { collDesc collb with mode := 1 }
        let a : Seg := { ints := [5, -3], masks := [1, 2] }
        let b : Seg := { ints := [2^40, 7], masks := [4, 2] }
        let c : Seg := { ints := [-9, 1], masks := [0, 8] }
        decide (d.mode = 1) && decide (a.ints.length = b.ints.length) && decide (b.ints.length = c.ints.length) && decide (a.masks.length = b.masks.length) && decide (b.masks.length = c.masks.length))) = true := by decide +kernel

/-- The hypotheses of `PowerAndHeat`, clauses 1, 2, 3, 4, 5, 6, 7, 8, 9, 10, 11, 12, can be met. -/
theorem witness_PowerAndHeat_1 :
      ((
        let s : State := S { pon {} with fw := { on.fw with vaux := false } }
        decide (s.pkg.fw.off = 0) && decide (s.pkg.fw.vaux = false))
      && (
        let s : State := pS { sampleAt := 4999500 }
        let w := s.pkg.pow
        let now := s.pkg.tempo.local_
        let steep (ma : Nat) : Nat := (if ma < w.ma then w.ma - ma else ma - w.ma)
        let ma := 300000
        decide (s.pkg.fw.off = 0) && decide (s.pkg.fw.vaux = true) && decide (now < w.sampleAt + 1000 ∨ 150 * (now - w.sampleAt) < steep ma))
      && (
        let s : State := pS { energy := 77 }
        let w := s.pkg.pow
        let now := s.pkg.tempo.local_
        let steep (ma : Nat) : Nat := (if ma < w.ma then w.ma - ma else ma - w.ma)
        let mv := 48000
        let ma := 300000
        decide (s.pkg.fw.off = 0) && decide (s.pkg.fw.vaux = true) && decide (w.sampleAt + 1000 ≤ now) && decide (steep ma ≤ 150 * (now - w.sampleAt)) && decide (38000 ≤ mv) && decide (mv ≤ 62000))
      && (
        let s : State := pS { badVin := 9 }
        let w := s.pkg.pow
        let now := s.pkg.tempo.local_
        let steep (ma : Nat) : Nat := (if ma < w.ma then w.ma - ma else ma - w.ma)
        let mv := 37000
        let ma := 300000
        decide (s.pkg.fw.off = 0) && decide (s.pkg.fw.vaux = true) && decide (w.sampleAt + 1000 ≤ now) && decide (steep ma ≤ 150 * (now - w.sampleAt)) && decide (mv < 38000 ∨ 62000 < mv) && decide (w.badVin = 9))
      && (
        let s : State := pS { badVin := 4 }
        let w := s.pkg.pow
        let now := s.pkg.tempo.local_
        let steep (ma : Nat) : Nat := (if ma < w.ma then w.ma - ma else ma - w.ma)
        let mv := 37000
        let ma := 300000
        decide (s.pkg.fw.off = 0) && decide (s.pkg.fw.vaux = true) && decide (w.sampleAt + 1000 ≤ now) && decide (steep ma ≤ 150 * (now - w.sampleAt)) && decide (mv < 38000 ∨ 62000 < mv) && decide (w.badVin ≠ 9))
      && (
        let s : State := pS { fastAt := 4999500 }
        let w := s.pkg.pow
        let now := s.pkg.tempo.local_
        decide (s.pkg.fw.off = 0) && decide (now < w.fastAt + 1000))
      && (
        let ma := 300000
        let s : State := pS { ma := 300000, duty := [(5, 12)] }
        let w := s.pkg.pow
        let now := s.pkg.tempo.local_
        let d := 5
        decide (s.pkg.fw.off = 0) && decide (w.fastAt + 1000 ≤ now) && decide (d < 66))
      && (
        let s : State := pS { loopAt := 6999999 }
        let w := s.pkg.pow
        decide (s.pkg.fw.off = 0) && decide (s.pkg.tempo.now < w.loopAt + 1000000))
      && (
        let s : State := S ((pon { target := 1500, periodPj := 25000000000, periodN := 1 }).setEnt 0x6000 3 1700)
        let w := s.pkg.pow
        decide (s.pkg.fw.off = 0) && decide (w.loopAt + 1000000 ≤ s.pkg.tempo.now) && decide (50 ≤ w.slope) && decide (600 ≤ w.target) && decide (w.target ≤ s.pkg.topMhz))
      && (
        let s : State := pF {}
        let w := s.pkg.pow
        let now := s.pkg.tempo.local_
        let t := 259
        let fmax := Tab.get 0 s.sites.fmax (t / 128 * 144 + s.sites.siteOf t)
        let c := Tab.get 1500 w.clocks t
        let goal := s.pkg.tileGoal t fmax
        decide (s.pkg.fw.off = 0) && decide (t < 6144) && decide (c = goal ∨ now < Tab.get 0 w.clockAt t + 1000))
      && (
        let s : State := pF { target := 1600 }
        let w := s.pkg.pow
        let now := s.pkg.tempo.local_
        let t := 259
        let fmax := Tab.get 0 s.sites.fmax (t / 128 * 144 + s.sites.siteOf t)
        let c := Tab.get 1500 w.clocks t
        let goal := s.pkg.tileGoal t fmax
        decide (s.pkg.fw.off = 0) && decide (t < 6144) && decide (fmax ≠ 0) && decide (c ≠ goal) && decide (Tab.get 0 w.clockAt t + 1000 ≤ now))
      && (
        let s : State := pS {}
        let w := s.pkg.pow
        decide (s.pkg.fw.off = 0) && decide (w.brake = false))) = true := by decide +kernel

/-- The hypotheses of `PowerAndHeat`, clauses 13, 16, 18, 20, 21, 22, 23, 24, 25, 26, 28, 29, can be met. -/
theorem witness_PowerAndHeat_2 :
      ((
        let s : State := pS { brake := true }
        let w := s.pkg.pow
        decide (s.pkg.fw.off = 0) && decide (w.brake = true))
      && (
        let s : State := pS {}
        let w := s.pkg.pow
        let d := 5
        let i := 3
        let since := Tab.get 0 w.stretch (d * 8 + i)
        decide (s.pkg.fw.off = 0) && decide (d < 48) && decide (i < 8) && decide (since = 0))
      && (
        let s : State := pS { stretch := [(43, 4000000)] }
        let w := s.pkg.pow
        let d := 5
        let i := 3
        let since := Tab.get 0 w.stretch (d * 8 + i)
        decide (s.pkg.fw.off = 0) && decide (d < 48) && decide (i < 8) && decide (since ≠ 0))
      && (
        let s : State := pS { energy := 77 }
        let w := s.pkg.pow
        let d := 5
        let codes := (List.range (sensorsOf 5)).map (fun j => if j = 0 then 2^32 - 50 else 5000 + j)
        decide (s.pkg.fw.off = 0) && decide (d < 66) && decide (codes.length = sensorsOf d) && decide (∀ (i : Nat), i < sensorsOf d → Tab.get 0 w.badSensor (d * 64 + i) = 0) && decide (∀ c ∈ codes, 2 ^ 31 ≤ c % 2 ^ 32 ∨ c % 2 ^ 32 < 11500))
      && (
        let s : State := pS { energy := 77 }
        let w := s.pkg.pow
        let d := 5
        let codes := (List.range (sensorsOf 5)).map (fun j => if j = 2 then 11500 else 5000 + j)
        decide (s.pkg.fw.off = 0) && decide (d < 66) && decide (codes.length = sensorsOf d) && decide (∀ (i : Nat), i < sensorsOf d → Tab.get 0 w.badSensor (d * 64 + i) = 0) && decide (∃ c ∈ codes, 11500 ≤ c % 2 ^ 32 ∧ c % 2 ^ 32 < 2 ^ 31))
      && (
        let s : State := tS { heat := [(5, 3)] } 10700
        let w := s.pkg.pow
        let now := s.pkg.tempo.local_
        let d := 5
        let t := 10700
        let at_ := Tab.get 0 w.stepAt d
        decide (s.pkg.fw.off = 0) && decide (d < 66) && decide (s.pkg.dieTemp d = some t) && decide (s.pkg.throttleTemp ≤ t) && decide (at_ + 100000 ≤ now))
      && (
        let s : State := tS { heat := [(5, 3)], stepAt := [(5, 4950000)] } 10700
        let w := s.pkg.pow
        let now := s.pkg.tempo.local_
        let d := 5
        let t := 10700
        let at_ := Tab.get 0 w.stepAt d
        decide (s.pkg.fw.off = 0) && decide (d < 66) && decide (s.pkg.dieTemp d = some t) && decide (s.pkg.throttleTemp ≤ t) && decide (now < at_ + 100000))
      && (
        let s : State := tS { heat := [(5, 3)], stepAt := [(5, 3950000)] } 5000
        let w := s.pkg.pow
        let now := s.pkg.tempo.local_
        let d := 5
        let t := 5000
        let h := Tab.get 0 w.heat d
        let at_ := Tab.get 0 w.stepAt d
        decide (s.pkg.fw.off = 0) && decide (d < 66) && decide (s.pkg.dieTemp d = some t) && decide (t < s.pkg.throttleTemp - 200) && decide (h ≠ 0) && decide (at_ + 1000000 ≤ now))
      && (
        let s : State := tS { heat := [(5, 3)], stepAt := [(5, 3950000)] } 9900
        let d := 5
        let t := 9900
        decide (s.pkg.fw.off = 0) && decide (d < 66) && decide (s.pkg.dieTemp d = some t) && decide (t < s.pkg.throttleTemp) && decide (s.pkg.throttleTemp - 200 ≤ t))
      && (
        let s : State := pS { phases := [(5, 13)] }
        let w := s.pkg.pow
        let r := 5
        decide (s.pkg.fw.off = 0) && decide (r < 66) && decide (w.good r = 0))
      && (
        let s : State := pS { energy := 77 }
        let w := s.pkg.pow
        let r := 5
        decide (s.pkg.fw.off = 0) && decide (r < 66) && decide (w.good r ≠ 0) && decide ((11, r) ∉ s.pkg.fault.groups))
      && (
        let s : State := S { pon {} with fault := { groups := [(11, 5)] } }
        let w := s.pkg.pow
        let r := 5
        decide (s.pkg.fw.off = 0) && decide (r < 66) && decide (w.good r ≠ 0) && decide ((11, r) ∈ s.pkg.fault.groups))) = true := by decide +kernel

/-- The hypotheses of `ParametersAndOwnership`, clauses 1, 2, 3, 4, 5, 6, 8, 9, 10, 11, 12, 13, can be met. -/
theorem witness_ParametersAndOwnership_1 :
      ((
        let s : State := S (un (mo))
        let m := msg 3 7 5 []
        let d : Datagram := { bytes := m, dst := a2, dport := 29418 }
        decide (s.pkg.fw.off = 0) && decide (s.pkg.fw.dict = true) && decide (d.dport ≠ 29417 ∨ s.pkg.ownAddr d.dst = false))
      && (
        let s : State := S ((un mk).setEnt 0x1130 1 (leNat a2))
        let m := msg 3 7 5 []
        let d : Datagram := { bytes := m, dst := a2 }
        let m := d.bytes
        let t := 3
        let x := own7
        decide (s.pkg.fw.off = 0) && decide (s.pkg.fw.dict = true) && decide (d.dport = 29417) && decide (s.pkg.ownAddr d.dst = true) && decide (mType m = t) && decide (s.pkg.authentic .ethernet m = some x) && decide (0 < mSeq m) && decide (x.high ≤ mSeq m + 64) && decide (mSeq m ∉ x.seen) && decide ((s.pkg.mgmt.sessions.filter (fun y => y.id = x.id)) = [x]))
      && (
        let s : State := S ((un mk).setEnt 0x1130 1 (leNat a2))
        let m := msg 3 8 5 []
        let d : Datagram := { bytes := m, dst := a2 }
        let m := d.bytes
        let t := 3
        decide (s.pkg.fw.off = 0) && decide (s.pkg.fw.dict = true) && decide (d.dport = 29417) && decide (s.pkg.ownAddr d.dst = true) && decide (mType m = t) && decide (s.pkg.authentic .ethernet m = none))
      && (
        let s : State := S (un { mk with mgmt := { mk.mgmt with cycleAt := 79999950000 } })
        let g := s.pkg.mgmt
        let now := s.pkg.tempo.local_
        decide (s.pkg.fw.off = 0) && decide (s.pkg.dictUp = true) && decide (now < g.cycleAt + 100000))
      && (
        let s : State := S (un mk)
        let g := s.pkg.mgmt
        let now := s.pkg.tempo.local_
        decide (s.pkg.fw.off = 0) && decide (s.pkg.dictUp = true) && decide (g.cycleAt + 100000 ≤ now) && decide ((s.pkg.mbox 0).go = false) && decide ((s.pkg.mbox 1).go = false) && decide (g.owner = none ∨ now < s.pkg.leaseEnd) && decide (s.pkg.fw.st ≠ 2) && decide (g.reqs = []))
      && (
        let s : State := S (un (mk own7 [{ session := 7, seq := 5, type := 3, body := [] }]))
        let g := s.pkg.mgmt
        let now := s.pkg.tempo.local_
        let r := { session := 7, seq := 5, type := 3, body := [] }
        let x := own7
        decide (s.pkg.fw.off = 0) && decide (s.pkg.dictUp = true) && decide (g.cycleAt + 100000 ≤ now) && decide ((s.pkg.mbox 0).go = false) && decide ((s.pkg.mbox 1).go = false) && decide (g.owner = none ∨ now < s.pkg.leaseEnd) && decide (s.pkg.fw.st ≠ 2) && decide (g.reqs = [r]) && decide (s.pkg.session r.session = some x) && decide (x.mutual_ = true) && decide (x.path = .ethernet))
      && (
        let s : State := S (un (mo))
        let id : Nat := 7
        let x : Session := own7
        let checks (i j n v : Nat) : Nat := s.pkg.writeCheck s.pkg x i j n v
        let v := 9000
        decide (s.pkg.fw.off = 0) && decide (s.pkg.dictUp = true) && decide (s.pkg.fw.st ≠ 2) && decide (s.pkg.session id = some x) && decide (x.mutual_ = true) && decide (x.path = .ethernet) && decide (v < 2 ^ 32) && decide (checks 0x6000 1 4 v = 0))
      && (
        let s : State := S (un (mo))
        let id : Nat := 7
        let x : Session := own7
        let checks (i j n v : Nat) : Nat := s.pkg.writeCheck s.pkg x i j n v
        let p := 3
        let v := 0
        decide (s.pkg.fw.off = 0) && decide (s.pkg.dictUp = true) && decide (s.pkg.fw.st ≠ 2) && decide (s.pkg.session id = some x) && decide (x.mutual_ = true) && decide (x.path = .ethernet) && decide (p < 16) && decide (v < 2 ^ 32) && decide (checks (0x4110 + p) 1 4 v = 0))
      && (
        let s : State := S (un (mo))
        let id : Nat := 7
        let x : Session := own7
        let checks (i j n v : Nat) : Nat := s.pkg.writeCheck s.pkg x i j n v
        let v := 1000
        decide (s.pkg.fw.off = 0) && decide (s.pkg.dictUp = true) && decide (s.pkg.fw.st ≠ 2) && decide (s.pkg.session id = some x) && decide (x.mutual_ = true) && decide (x.path = .ethernet) && decide (v < 2 ^ 32) && decide (checks 0x1010 1 4 v = 0))
      && (
        ([0, 1]).all (fun v =>
          let s : State := S (let k := un mo; { k with tier := { k.tier with groups := [(1, { formed := true, gib := 256 })] }, lports := [(5, { present := true })] })
          let id : Nat := 7
          let x : Session := own7
          let checks (i j n v : Nat) : Nat := s.pkg.writeCheck s.pkg x i j n v
          let q := 5
          decide (s.pkg.fw.off = 0) && decide (s.pkg.dictUp = true) && decide (s.pkg.fw.st ≠ 2) && decide (s.pkg.session id = some x) && decide (x.mutual_ = true) && decide (x.path = .ethernet) && decide (q < 48) && decide (v < 2) && decide (checks (0x4200 + q) 2 1 v = 0) && decide (s.pkg.tier.forming = false) && decide ((s.pkg.lport q).cmds = []) && decide ((s.pkg.lport q).queue = [])))
      && (
        let s : State := S (un mo)
        let id : Nat := 7
        let x : Session := own7
        let q := 5
        decide (s.pkg.fw.off = 0) && decide (s.pkg.dictUp = true) && decide (s.pkg.fw.st ≠ 2) && decide (s.pkg.session id = some x) && decide (x.mutual_ = true) && decide (x.path = .ethernet) && decide (q < 48) && decide (s.pkg.enableRefused q 0 = true))
      && (
        ([0, 1]).all (fun v =>
          let s : State := S (let k := un mo; { k with net := { k.net with ports := [(3, { st := .failed })] } })
          let id : Nat := 7
          let x : Session := own7
          let checks (i j n v : Nat) : Nat := s.pkg.writeCheck s.pkg x i j n v
          let n := 3
          decide (s.pkg.fw.off = 0) && decide (s.pkg.dictUp = true) && decide (s.pkg.fw.st ≠ 2) && decide (s.pkg.session id = some x) && decide (x.mutual_ = true) && decide (x.path = .ethernet) && decide (n < 24) && decide (v < 2) && decide (checks (0x5040 + n) 2 1 v = 0) && decide ((s.pkg.port n).st = .failed)))) = true := by decide +kernel

/-- The hypotheses of `ParametersAndOwnership`, clauses 14, 15, 16, 17, 18, 19, 20, 21, 22, 23, 24, 25, can be met. -/
theorem witness_ParametersAndOwnership_2 :
      ((
        let s : State := S (un (mo))
        let id : Nat := 7
        let x : Session := own7
        let checks (i j n v : Nat) : Nat := s.pkg.writeCheck s.pkg x i j n v
        let t := 9
        let y := { id := 9, principal := [4] }
        decide (s.pkg.fw.off = 0) && decide (s.pkg.dictUp = true) && decide (s.pkg.fw.st ≠ 2) && decide (s.pkg.session id = some x) && decide (x.mutual_ = true) && decide (x.path = .ethernet) && decide (t < 2 ^ 32) && decide (checks 0x1100 6 4 t = 0) && decide (s.pkg.session t = some y) && decide (y.grant = false))
      && (
        let id : Nat := 7
        let y := { id := 9, principal := [4], grant := true }
        let s : State := S (un { mo with mgmt := { mo.mgmt with sessions := [own7, y] } })
        let x : Session := own7
        let checks (i j n v : Nat) : Nat := s.pkg.writeCheck s.pkg x i j n v
        let t := 9
        decide (s.pkg.fw.off = 0) && decide (s.pkg.dictUp = true) && decide (s.pkg.fw.st ≠ 2) && decide (s.pkg.session id = some x) && decide (x.mutual_ = true) && decide (x.path = .ethernet) && decide (t < 2 ^ 32) && decide (checks 0x1100 7 4 t = 0) && decide (s.pkg.session t = some y) && decide (y.grant = true))
      && (
        let s : State := S (un (mo))
        let id : Nat := 7
        let x : Session := own7
        let checks (i j n v : Nat) : Nat := s.pkg.writeCheck s.pkg x i j n v
        let p := 3
        let t := 9
        decide (s.pkg.fw.off = 0) && decide (s.pkg.dictUp = true) && decide (s.pkg.fw.st ≠ 2) && decide (s.pkg.session id = some x) && decide (x.mutual_ = true) && decide (x.path = .ethernet) && decide (p < 16) && decide (t < 2 ^ 32) && decide (checks (0x1110 + p) 1 4 t = 0) && decide (s.pkg.ent (0x1110 + p) 1 ≠ t))
      && (
        let s : State := S ((un mo).setEnt 0x1130 6 12)
        let id : Nat := 7
        let x : Session := own7
        let checks (i j n v : Nat) : Nat := s.pkg.writeCheck s.pkg x i j n v
        let v := 4
        decide (s.pkg.fw.off = 0) && decide (s.pkg.dictUp = true) && decide (s.pkg.fw.st ≠ 2) && decide (s.pkg.session id = some x) && decide (x.mutual_ = true) && decide (x.path = .ethernet) && decide (v < 2 ^ 32) && decide (checks 0x1130 8 4 v = 0) && decide (s.pkg.mgmt.fresh = 0) && decide (s.pkg.ent 0x1130 6 < 256))
      && (
        let s : State := S (let k := un mo; { k with fw := { k.fw with pending := [5] } })
        let id : Nat := 7
        let x : Session := own7
        let checks (i j n v : Nat) : Nat := s.pkg.writeCheck s.pkg x i j n v
        let q := [5]
        decide (s.pkg.fw.off = 0) && decide (s.pkg.dictUp = true) && decide (s.pkg.fw.st ≠ 2) && decide (s.pkg.session id = some x) && decide (x.mutual_ = true) && decide (x.path = .ethernet) && decide (s.pkg.fw.pending = q) && decide (q ≠ []) && decide (∀ c ∈ s.pkg.fw.commits, c.kind ≠ 2) && decide (checks 0x1200 2 1 1 = 0))
      && (
        let s : State := S (un (mo { own7 with grant := true }))
        let id : Nat := 7
        let x : Session := { own7 with grant := true }
        let checks (i j n v : Nat) : Nat := s.pkg.writeCheck s.pkg x i j n v
        decide (s.pkg.fw.off = 0) && decide (s.pkg.dictUp = true) && decide (s.pkg.fw.st ≠ 2) && decide (s.pkg.session id = some x) && decide (x.mutual_ = true) && decide (x.path = .ethernet) && decide (checks 0x1200 5 1 1 = 0))
      && (
        let s : State := S (un mk)
        let id : Nat := 7
        let x : Session := own7
        let p := 3
        decide (s.pkg.fw.off = 0) && decide (s.pkg.dictUp = true) && decide (s.pkg.fw.st ≠ 2) && decide (s.pkg.session id = some x) && decide (x.mutual_ = true) && decide (x.path = .ethernet) && decide (p < 16) && decide (s.pkg.mgmt.isOwner x = false) && decide (∀ (q : Nat), q < 16 → s.pkg.ent (0x1110 + q) 1 ≠ id))
      && (
        let s : State := S (un { mo with mgmt := { mo.mgmt with renewed := 10 } })
        let g := s.pkg.mgmt
        let now := s.pkg.tempo.local_
        let o := ([1, 2], 0)
        decide (s.pkg.fw.off = 0) && decide (s.pkg.dictUp = true) && decide (g.owner = some o) && decide (s.pkg.leaseEnd ≤ now) && decide (s.pkg.cycleWaits = false))
      && (
        let s : State := S (un mk)
        let g := s.pkg.mgmt
        let now := s.pkg.tempo.local_
        decide (s.pkg.fw.off = 0) && decide (s.pkg.dictUp = true) && decide (g.owner = none ∨ now < s.pkg.leaseEnd ∨ s.pkg.cycleWaits = true))
      && (
        let s : State := S (un mk)
        let now := s.pkg.tempo.local_
        let id := 7
        let x := own7
        decide (s.pkg.fw.off = 0) && decide (s.pkg.dictUp = true) && decide (s.pkg.session id = some x) && decide (x.last + 60000000000 ≤ now))
      && (
        let x := { own7 with last := 79999000000 }
        let s : State := S (un (mk x))
        let now := s.pkg.tempo.local_
        let id := 7
        decide (s.pkg.fw.off = 0) && decide (s.pkg.dictUp = true) && decide (s.pkg.session id = some x) && decide (now < x.last + 60000000000))
      && (
        let x := { own7 with blob := some (5, [1], 100) }
        let s : State := S (un (mk x))
        let now := s.pkg.tempo.local_
        let id := 7
        let e := (5, [1], 100)
        decide (s.pkg.fw.off = 0) && decide (s.pkg.dictUp = true) && decide (s.pkg.session id = some x) && decide (x.blob = some e) && decide (e.2.2 + 1000000000 ≤ now))) = true := by decide +kernel

/-- The hypotheses of `ParametersAndOwnership`, clauses 26, 27, 28, 29, 30, can be met. -/
theorem witness_ParametersAndOwnership_3 :
      ((
        let x := { own7 with blob := some (5, [1], 79999000000) }
        let s : State := S (un (mk x))
        let now := s.pkg.tempo.local_
        let id := 7
        let e := (5, [1], 79999000000)
        decide (s.pkg.fw.off = 0) && decide (s.pkg.dictUp = true) && decide (s.pkg.session id = some x) && decide (x.blob = some e) && decide (now < e.2.2 + 1000000000))
      && (
        let x := { own7 with sub := some (1, 2, 3, 10), teleAt := 79999000000 }
        let s : State := S (un (mk x))
        let now := s.pkg.tempo.local_
        let id := 7
        let a := 1
        let b := 2
        let c := 3
        let per := 10
        decide (s.pkg.fw.off = 0) && decide (s.pkg.dictUp = true) && decide (s.pkg.session id = some x) && decide (x.sub = some (a, b, c, per)) && decide (per ≠ 0) && decide (x.path = .ethernet) && decide (now < x.teleAt + per * 1000000))
      && (
        let x := { own7 with sub := some (1, 2, 3, 10), teleAt := 1000 }
        let s : State := S (un (mk x))
        let now := s.pkg.tempo.local_
        let id := 7
        let a := 1
        let b := 2
        let c := 3
        let per := 10
        decide (s.pkg.fw.off = 0) && decide (s.pkg.dictUp = true) && decide (s.pkg.session id = some x) && decide (x.sub = some (a, b, c, per)) && decide (per ≠ 0) && decide (x.path = .ethernet) && decide (x.teleAt + per * 1000000 ≤ now))
      && (
        let s : State := S (let k := un mo; { k with fw := { k.fw with pending := [5], pendingSince := 79999000000 } })
        let now := s.pkg.tempo.local_
        decide (s.pkg.fw.off = 0) && decide (s.pkg.dictUp = true) && decide (s.pkg.fw.pending ≠ []) && decide (s.pkg.fw.commits = []) && decide (now < s.pkg.fw.pendingSince + 2000000000))
      && (
        let s : State := S (un mo)
        decide (s.pkg.fw.off = 0) && decide (s.pkg.dictUp = true) && decide (s.pkg.fw.pending = []))) = true := by decide +kernel

/-- The hypotheses of `ParametersAndOwnership`, part `ManagementLinks`, clauses 1, 2, 3, 4, 5, 6, 7, 12, 16, 17, 18, 19, can be met. -/
theorem witness_ManagementLinks_1 :
      ((
        let s : State := pu { done := true, dropped := true, badLen := true }
        let k := 1
        decide (s.pkg.fw.off = 0) && decide (k < 2) && decide ((s.pkg.pci k).up = true))
      && (
        let s : State := pu { events := [[1], [2]] }
        let k := 1
        decide (s.pkg.fw.off = 0) && decide (k < 2) && decide ((s.pkg.pci k).up = true))
      && (
        let s : State := pu {}
        let k := 1
        let b := s.pkg.mbox k
        let ctrl := 7
        let len := 2048 + 20
        decide (s.pkg.fw.off = 0) && decide (k < 2) && decide ((s.pkg.pci k).up = true) && decide (b.go = false) && decide (bit ctrl 0 = true) && decide (len % 2048 < 32 ∨ 1232 < len % 2048))
      && (
        let s : State := pu {} false
        let k := 1
        let b := s.pkg.mbox k
        let ctrl := 7
        let len := 2048 + 40
        decide (s.pkg.fw.off = 0) && decide (k < 2) && decide ((s.pkg.pci k).up = true) && decide (b.go = false) && decide (bit ctrl 0 = true) && decide (32 ≤ len % 2048) && decide (len % 2048 ≤ 1232) && decide (s.pkg.fw.dict = false))
      && (
        let s : State := S { (un mk) with fw := { on.fw with vaux := false } }
        decide (s.pkg.fw.off = 0) && decide (s.pkg.fw.vaux = false))
      && (
        let s : State := ic {}
        let c := s.pkg.mgmt.i3c
        let aux := s.pkg.fw.vaux = true
        decide (s.pkg.fw.off = 0) && decide (aux) && decide (c.addr = 0))
      && (
        let s : State := ic {}
        let st := 3
        decide (s.pkg.fw.off = 0) && decide (st ≠ 0x58 + s.pkg.net.slot))
      && (
        let s : State := ic {}
        let aux := s.pkg.fw.vaux = true
        let v := 300
        decide (s.pkg.fw.off = 0) && decide (aux) && decide (64 ≤ v) && decide (v ≤ 1232))
      && (
        let m := List.replicate 40 3
        let s : State := ic { addr := 5, rsp := some m }
        let c := s.pkg.mgmt.i3c
        let aux := s.pkg.fw.vaux = true
        decide (s.pkg.fw.off = 0) && decide (aux) && decide (c.addr ≠ 0) && decide (s.pkg.fw.dict = true) && decide (c.rsp = some m))
      && (
        let m := List.replicate 40 3
        let q := [[4]]
        let s : State := ic { addr := 5, events := m :: q }
        let c := s.pkg.mgmt.i3c
        let aux := s.pkg.fw.vaux = true
        decide (s.pkg.fw.off = 0) && decide (aux) && decide (c.addr ≠ 0) && decide (s.pkg.fw.dict = true) && decide (c.rsp = none) && decide (c.events = m :: q))
      && (
        let s : State := ic {}
        let c := s.pkg.mgmt.i3c
        let m := [1]
        decide (s.pkg.fw.off = 0) && decide (c.addr = 0 ∨ s.pkg.fw.dict = false ∨ c.mwl < m.length))
      && (
        let s : State := ic { addr := 5 }
        let c := s.pkg.mgmt.i3c
        let aux := s.pkg.fw.vaux = true
        let m := msg 3 0x301 5 []
        decide (s.pkg.fw.off = 0) && decide (aux) && decide (c.addr ≠ 0) && decide (s.pkg.fw.dict = true) && decide (m.length ≤ c.mwl))) = true := by decide +kernel

/-- The hypotheses of `ParametersAndOwnership`, part `ManagementLinks`, clauses 20, 21, 22, 23, can be met. -/
theorem witness_ManagementLinks_2 :
      ((
        let s : State := nd
        let f := fr a1 a2 64 echo
        let mac := natBe 6 9
        let src := a1
        let dst := a2
        let hop := 64
        let m := (fr a1 a2 64 echo).drop 54
        decide (s.pkg.fw.off = 0) && decide (icmpOf f = some (mac, src, dst, hop, m)) && decide (s.pkg.portRuns = true) && decide (byteAt m 0 = 128) && decide (byteAt m 1 = 0) && decide (s.pkg.ownAddr dst = true))
      && (
        let s : State := ic {}
        let f := fr a1 a2 64 echo
        let mac := natBe 6 9
        let src := a1
        let dst := a2
        let hop := 64
        let m := (fr a1 a2 64 echo).drop 54
        decide (s.pkg.fw.off = 0) && decide (icmpOf f = some (mac, src, dst, hop, m)) && decide (s.pkg.portRuns = true) && decide (s.pkg.ownAddr dst = false))
      && (
        let s : State := nd
        let f := fr a1 a2 255 soli
        let mac := natBe 6 9
        let src := a1
        let dst := a2
        let hop := 255
        let m := (fr a1 a2 255 soli).drop 54
        decide (s.pkg.fw.off = 0) && decide (icmpOf f = some (mac, src, dst, hop, m)) && decide (s.pkg.portRuns = true) && decide (byteAt m 0 = 135) && decide (byteAt m 1 = 0) && decide (hop = 255) && decide (s.pkg.ownAddr (Sys2Proof.slice m 8 16) = true) && decide (src.all (· == 0) = false))
      && (
        let s : State := nd
        let f := fr a1 a2 254 soli
        let mac := natBe 6 9
        let src := a1
        let dst := a2
        let hop := 254
        let m := (fr a1 a2 254 soli).drop 54
        decide (s.pkg.fw.off = 0) && decide (icmpOf f = some (mac, src, dst, hop, m)) && decide (s.pkg.portRuns = true) && decide (hop ≠ 255))) = true := by decide +kernel

/-- The hypotheses of `FirmwareAndSecurity`, clauses 1, 2, 3, 4, 5, 6, 7, 8, 10, 11, 12, 15, can be met. -/
theorem witness_FirmwareAndSecurity_1 :
      ((
        let s : State := S { on with fw := { on.fw with up := false } }
        let w := s.pkg.fw
        decide (s.pkg.fw.off = 0) && decide (w.up = false))
      && (
        let s : State := S (un mo)
        let w := s.pkg.fw
        let a := 16
        decide (s.pkg.fw.off = 0) && decide (w.up = true) && decide (16 ≤ a))
      && (
        let s : State := S ((un mo).setPart 3 { st := .loading, dies := [0] })
        let w := s.pkg.fw
        let a := 3
        let b := 1
        decide (s.pkg.fw.off = 0) && decide (w.up = true) && decide (a < 16) && decide (b = 1) && decide ((s.pkg.part a).st ≠ .empty))
      && (
        let s : State := S (((un mo).setEnt 0x2003 2 1).setEnt 0x2003 5 77)
        let w := s.pkg.fw
        let a := 3
        let b := 0
        decide (s.pkg.fw.off = 0) && decide (w.up = true) && decide (a < 16) && decide (b = 0) && decide ((s.pkg.part a).st = .empty) && decide (s.pkg.beginRefusal a = none))
      && (
        let s : State := S (un mo)
        let w := s.pkg.fw
        let a := 3
        let b := 0
        let c := 5
        decide (s.pkg.fw.off = 0) && decide (w.up = true) && decide (a < 16) && decide (b = 0) && decide ((s.pkg.part a).st = .empty) && decide (s.pkg.beginRefusal a = some c))
      && (
        let s : State := S (un mo)
        let w := s.pkg.fw
        decide (s.pkg.fw.off = 0) && decide (w.up = true) && decide (w.byRequest = []) && decide (w.pending = []))
      && (
        let s : State := S { un mo with fw := { (un mo).fw with pending := [5] } }
        let w := s.pkg.fw
        decide (s.pkg.fw.off = 0) && decide (w.up = true) && decide (w.byRequest = []) && decide (w.pending ≠ []) && decide (w.commits = []))
      && (
        let s : State := S { un mo with fw := { (un mo).fw with byRequest := [5] } }
        let w := s.pkg.fw
        decide (s.pkg.fw.off = 0) && decide (w.up = true) && decide (w.byRequest ≠ []))
      && (
        let s : State := S (un mo)
        let w := s.pkg.fw
        let b := 500
        decide (s.pkg.fw.off = 0) && decide (w.up = true) && decide (b ≤ 550))
      && (
        let s : State := S (un mo)
        let w := s.pkg.fw
        let b := 551
        decide (s.pkg.fw.off = 0) && decide (w.up = true) && decide (550 < b))
      && (
        let s : State := S (un mo)
        let w := s.pkg.fw
        let kind := 6
        decide (s.pkg.fw.off = 0) && decide (w.up = true) && decide (5 < kind))
      && (
        let s : State := S { un mo with fw := { (un mo).fw with up := false, restart := 79990000000 } }
        let w := s.pkg.fw
        decide (s.pkg.fw.off = 0) && decide (w.up = false) && decide (w.started = true))) = true := by decide +kernel

/-- The hypotheses of `FirmwareAndSecurity`, clauses 16, 17, 18, 19, 20, 21, 22, 23, 24, 27, 29, 30, can be met. -/
theorem witness_FirmwareAndSecurity_2 :
      ((
        let s : State := S { un mo with fw := { (un mo).fw with holdup := { at_ := 79999500000 } } }
        let w := s.pkg.fw
        let now := s.pkg.tempo.local_
        decide (s.pkg.fw.off = 0) && decide (now < w.holdup.at_ + 1000000))
      && (
        let s : State := S (un mo)
        let w := s.pkg.fw
        let now := s.pkg.tempo.local_
        let ma : Int := (-12)
        decide (s.pkg.fw.off = 0) && decide (w.holdup.at_ + 1000000 ≤ now) && decide (w.holdup.calibrated = false) && decide (ma.natAbs ≥ 10))
      && (
        let kind := 3
        let c := { kind := 3, since := 1000 }
        let s : State := S { un mo with fw := { (un mo).fw with commits := [c] } }
        let w := s.pkg.fw
        let now := s.pkg.tempo.local_
        decide (s.pkg.fw.off = 0) && decide (w.commits = [c]) && decide (c.started = false) && decide (c.told = false) && decide (c.since + 100000000 < now))
      && (
        let s : State := S (un mo)
        let w := s.pkg.fw
        decide (s.pkg.fw.off = 0) && decide (w.commits = []))
      && (
        let s : State := gs
        let id : Nat := 7
        let x : Session := xg
        let checks (i j n v : Nat) : Nat := s.pkg.writeCheck s.pkg x i j n v
        let v := 2
        decide (s.pkg.fw.off = 0) && decide (s.pkg.dictUp = true) && decide (s.pkg.fw.st ≠ 2) && decide (s.pkg.session id = some x) && decide (x.mutual_ = true) && decide (x.path = .ethernet) && decide (v < 256) && decide (checks 0x7002 1 1 v = 0))
      && (
        let s : State := gs
        let id : Nat := 7
        let x : Session := xg
        let checks (i j n v : Nat) : Nat := s.pkg.writeCheck s.pkg x i j n v
        let v := 4096
        decide (s.pkg.fw.off = 0) && decide (s.pkg.dictUp = true) && decide (s.pkg.fw.st ≠ 2) && decide (s.pkg.session id = some x) && decide (x.mutual_ = true) && decide (x.path = .ethernet) && decide (v < 2 ^ 32) && decide (checks 0x7002 2 4 v = 0))
      && (
        let s : State := S (gs.pkg.setEnt 0x7002 1 1)
        let id : Nat := 7
        let x : Session := xg
        let checks (i j n v : Nat) : Nat := s.pkg.writeCheck s.pkg x i j n v
        let d := List.replicate 4096 7
        decide (s.pkg.fw.off = 0) && decide (s.pkg.dictUp = true) && decide (s.pkg.fw.st ≠ 2) && decide (s.pkg.session id = some x) && decide (x.mutual_ = true) && decide (x.path = .ethernet) && decide (d.length = 4096) && decide (checks 0x7002 3 4096 (leNat d) = 0))
      && (
        let s : State := S (gs.pkg.setEnt 0x7002 1 1)
        let id : Nat := 7
        let x : Session := xg
        let checks (i j n v : Nat) : Nat := s.pkg.writeCheck s.pkg x i j n v
        decide (s.pkg.fw.off = 0) && decide (s.pkg.dictUp = true) && decide (s.pkg.fw.st ≠ 2) && decide (s.pkg.session id = some x) && decide (x.mutual_ = true) && decide (x.path = .ethernet) && decide (checks 0x7002 4 1 1 = 0))
      && (
        let s : State := gs
        let id : Nat := 7
        let x : Session := xg
        let checks (i j n v : Nat) : Nat := s.pkg.writeCheck s.pkg x i j n v
        let r := List.replicate 256 3
        decide (s.pkg.fw.off = 0) && decide (s.pkg.dictUp = true) && decide (s.pkg.fw.st ≠ 2) && decide (s.pkg.session id = some x) && decide (x.mutual_ = true) && decide (x.path = .ethernet) && decide (r.length = 256) && decide (checks 0x7020 1 256 (leNat r) = 0))
      && (
        let s : State := S (un mo)
        let ch := 0
        let slot := 1
        decide (s.pkg.fw.off = 0) && decide (ch < 3) && decide (s.pkg.channelUp ch = true) && decide (slot ≠ 0))
      && (
        let s : State := S (un mo)
        let ch := 0
        let i := 5
        decide (s.pkg.fw.off = 0) && decide (ch < 3) && decide (s.pkg.channelUp ch = true) && decide (4 < i) && decide (i ≠ 0xFF))
      && (
        let s : State := S (un mo)
        let ch := 0
        let i := 2
        decide (s.pkg.fw.off = 0) && decide (ch < 3) && decide (s.pkg.channelUp ch = true) && decide (1 ≤ i) && decide (i ≤ 4))) = true := by decide +kernel

/-- The hypotheses of `FirmwareAndSecurity`, clauses 31, 32, 33, 34, can be met. -/
theorem witness_FirmwareAndSecurity_3 :
      ((
        let s : State := S (un mo)
        let ch := 0
        let sid := 33
        decide (s.pkg.fw.off = 0) && decide (ch < 3) && decide (s.pkg.channelUp ch = true) && decide (sid ≠ 0) && decide (s.pkg.session sid = none) && decide (s.pkg.roomFor (pathOf ch) = true) && decide (∀ j ∈ ([1, 2, 3, 4] : List Nat), s.pkg.ent 0x7021 j = 0))
      && (
        let s : State := S (un mo)
        let ch := 0
        let sid := 7
        decide (s.pkg.fw.off = 0) && decide (ch < 3) && decide (s.pkg.channelUp ch = true) && decide (s.pkg.session sid ≠ none ∨ sid = 0))
      && (
        let id := 7
        let s : State := S (un (let k := mo; { k with mgmt := { k.mgmt with sessions := (List.range 70).map fun i => { id := 50 + i } } }))
        let ch := 0
        let sid := 33
        decide (s.pkg.fw.off = 0) && decide (ch < 3) && decide (s.pkg.channelUp ch = true) && decide (sid ≠ 0) && decide (s.pkg.session sid = none) && decide (s.pkg.roomFor (pathOf ch) = false))
      && (
        let s : State := S (un mo)
        let sid := 7
        let x := own7
        decide (s.pkg.fw.off = 0) && decide (s.pkg.session sid = some x) && decide (x.path ≠ .i3c) && decide (s.pkg.channelUp x.path.channel = true))) = true := by decide +kernel

end Sys2Proof.Tests
end

section
/-!
PROOF. Solver engine numbers (01:R29): what a submission does to the queues of the solver engines and to those that wait.
-/

namespace Sys2Proof

/-- An insertion adds its element and loses none. -/
theorem mem_insertBy {α : Type} (le : α → α → Bool) (x y : α) (l : List α) : y ∈ insertBy le x l ↔ y = x ∨ y ∈ l := by
  induction l with
  | nil => simp [insertBy]
  | cons z l ih =>
    cases h : le x z with
    | true => simp [insertBy, h]
    | false => simp [insertBy, h, ih, or_left_comm]

/-- A raised peak leaves the engines as they are. -/
@[simp] theorem Pkg.peak_engines (s : Pkg) (i j n : Nat) : (s.peak i j n).engines = s.engines :=
  have h := congrArg Pkg.engines (s.bare_peak i j n)
  h

/-- Tile `l` of C-die `d` is served by engine `l / 8` of that die (01:R29). -/
theorem engineOf_tileNo (d l : Nat) : engineOf (tileNo d l) = d * 16 + l / 8 := by
  unfold engineOf tileNo
  omega

/-- The engine's queue, those that wait for room in it, and a new submission among them, in commit order (07:R211). -/
def Pkg.submitted (k : Pkg) (r : SolveReq) : List SolveReq :=
  insertBy SolveReq.before r
    ((k.engine (engineOf r.tile)).queue ++ k.solveWait.filter (fun w => decide (engineOf w.tile = engineOf r.tile)))

/-- A submission is among those of its engine. -/
theorem Pkg.mem_submitted (k : Pkg) (r : SolveReq) : r ∈ k.submitted r := (mem_insertBy _ _ _ _).2 (.inl rfl)

/-- Of the engines, a submission writes its tile's alone, and there the queue alone. -/
theorem Pkg.solveSubmit_engines (k : Pkg) (r : SolveReq) :
    (k.solveSubmit r).engines
      = (k.setEngine (engineOf r.tile) { k.engine (engineOf r.tile) with queue := (k.submitted r).take 16 }).engines := by
  simp only [Pkg.solveSubmit, List.partition_eq_filter_filter, apply_ite Pkg.engines, Pkg.peak_engines, ite_self]
  rfl

/-- After a submission those wait that are another engine's, and behind them those of the engine that its queue has no room for. -/
theorem Pkg.solveSubmit_solveWait (k : Pkg) (r : SolveReq) :
    (k.solveSubmit r).solveWait
      = k.solveWait.filter (fun w => !(decide (engineOf w.tile = engineOf r.tile))) ++ (k.submitted r).drop 16 := by
  simp only [Pkg.solveSubmit, List.partition_eq_filter_filter]
  rfl

/-- The queue of a submission's engine holds the first 16. -/
theorem Pkg.solveSubmit_queue (k : Pkg) (r : SolveReq) :
    ((k.solveSubmit r).engine (engineOf r.tile)).queue = (k.submitted r).take 16 := by
  rw [Pkg.engine, k.solveSubmit_engines r, ← Pkg.engine, Pkg.engine_setEngine]

/-- A submission leaves every engine but its tile's as it is. -/
theorem Pkg.solveSubmit_engine_other (k : Pkg) (r : SolveReq) {e : Nat} (h : e ≠ engineOf r.tile) :
    (k.solveSubmit r).engine e = k.engine e := by
  rw [Pkg.engine, k.solveSubmit_engines r, ← Pkg.engine, Pkg.engine_setEngine_other _ _ h]

/-- No submission is lost: it stands in its engine's queue, or waits. -/
theorem Pkg.solveSubmit_keeps (k : Pkg) (r : SolveReq) :
    r ∈ ((k.solveSubmit r).engine (engineOf r.tile)).queue ∨ r ∈ (k.solveSubmit r).solveWait := by
  rw [k.solveSubmit_queue, k.solveSubmit_solveWait]
  have h : r ∈ (k.submitted r).take 16 ∨ r ∈ (k.submitted r).drop 16 := by
    rw [← List.mem_append, List.take_append_drop]
    exact k.mem_submitted r
  exact h.imp_right (List.mem_append_right _)

end Sys2Proof

namespace Sys2Proof.Machine

open Sys2Proof

/-- Settles O43: an engine's number is arithmetic on the tile's, and a submission reads no site map, so it goes to that engine from
whatever package a castling leaves. -/
theorem solverNumbersFollowTheTile : Obligations.SolverNumbersFollowTheTile := by
  unfold Obligations.SolverNumbersFollowTheTile
  refine ⟨fun d l hd hl => ?number, fun k r => ?submission, fun s t r _ u _ e he => ?castling⟩
  case number =>
    rw [engineOf_tileNo d l]
    exact ⟨rfl, by omega⟩
  case submission =>
    exact ⟨fun e he => k.solveSubmit_engine_other r he, k.solveSubmit_keeps r, k.solveSubmit_queue r, k.solveSubmit_solveWait r⟩
  case castling => exact u.pkg.solveSubmit_engine_other r he

end Sys2Proof.Machine
end

section
/-!
PROOF. The tile core's counters (04:R124): what a CSR instruction that writes nothing and reads no summary slot does, and
what the counters read.
-/

namespace Sys2Proof

open Rv

/-- On a tile that executes, an instruction's meaning is run on what the tile fetches (04:R121). -/
theorem Pkg.withInstr_of_fetches {s : Pkg} {n w len raw : Nat} (hf : s.fetches n w len raw) (f : Nat → Nat → Nat → Pkg) :
    s.withInstr n f = f w len raw := by
  obtain ⟨_, _, hruns, hfetch⟩ := hf
  simp only [Pkg.withInstr, hruns, hfetch, if_true]

/-- No register of a quiet tile waits for a summary slot (04:R145). -/
theorem Tile.quiet.waits_eq_false {t : Tile} (h : t.quiet) (i : Nat) : t.waits i = false := by
  simp [Tile.waits, h.1, Tab.find]

/-- Cycle and instruction counters (04:R124). -/
theorem Tile.csrRead_counter (t : Tile) (n : Nat) {a : Nat} (h : a ∈ [0xB00, 0xB02, 0xC00, 0xC02]) : t.csrRead n a = some 0 := by
  simp only [List.mem_cons, List.not_mem_nil, or_false] at h
  obtain rfl | rfl | rfl | rfl := h <;> rfl

/-- A CSR instruction that writes nothing, outside the summary slots, on a quiet tile: the old value goes to rd, no CSR changes, and
the tile moves on (04:R123). -/
theorem tileCsr_of_readOnly {s : Pkg} {n w len raw old : Nat} (hf : s.fetches n w len raw) (hq : (s.tile n).quiet)
    (hopc : opc w = 0x73) (hf3 : f3 w % 4 ≠ 0) (hread : (s.tile n).csrRead n (bits w 31 20) = some old)
    (hslot : bits w 31 20 < 0xBC0 ∨ 0xBDF < bits w 31 20) (hwrites : csrWrites w = false) :
    tileCsr s n = s.retire n ((s.tile n).setX (rd w) (BitVec.ofNat 64 old)) len
      ((if f3 w < 4 then (s.tile n).useStall [rs1 w] else 0) + 1) := by
  have hnoSlot : (decide (0xBC0 ≤ bits w 31 20) && decide (bits w 31 20 ≤ 0xBDF)) = false := by
    simp only [Bool.and_eq_false_iff, decide_eq_false_iff_not]
    omega
  have hwaits := hq.waits_eq_false (rs1 w)
  rw [tileCsr, Pkg.withInstr_of_fetches hf]
  simp [hopc, hf3, hread, hwrites, hwaits, hnoSlot]

end Sys2Proof

namespace Sys2Proof.Machine

open Sys2Proof Sys2Proof.Rv

/-- On a tile that fetches an instruction, the CSR command leaves what `tileCsr` makes of the package. -/
theorem gives_tileCsrAccess {s : State} {n w len raw : Nat} (hf : s.pkg.fetches n w len raw) :
    Gives (.tileCsrAccess n) s (tileCsr s.pkg n) := by
  obtain ⟨htile, hon, _, _⟩ := hf
  rw [Gives, exec_tileCsrAccess]
  exact act_on _ (decide_eq_true htile) hon

/-- Settles O29: the counters' addresses read 0 whatever the tile holds, and a CSRRS of one from x0 writes nothing, so that 0 goes
to rd. -/
theorem tileCountersReadZero : Obligations.TileCountersReadZero := by
  unfold Obligations.TileCountersReadZero
  refine ⟨fun t n a ha => t.csrRead_counter n ha, fun s n w len raw hf hq hopc hf3 hrs1 ha => ⟨_, gives_tileCsrAccess hf, ?_⟩⟩
  have hslot : bits w 31 20 < 0xBC0 ∨ 0xBDF < bits w 31 20 := by
    simp only [List.mem_cons, List.not_mem_nil, or_false] at ha
    omega
  have hwrites : csrWrites w = false := by simp [csrWrites, hf3, hrs1]
  rw [tileCsr_of_readOnly hf hq hopc (by omega) ((s.pkg.tile n).csrRead_counter n ha) hslot hwrites]
  simp [hf3, hrs1]

end Sys2Proof.Machine
end

section
/-!
PROOF. The matrix engine at a ply entry (05:R170): every way into a ply goes through `Tile.enter`, and what follows it there touches
no tile's matrix engine.
-/

namespace Sys2Proof

/-- The matrix engine as a ply finds it (05:R170). -/
def Matrix.atEntry (m : Matrix) : Prop := m.pbuf = [] ∧ m.active = 0 ∧ m.set0 = {} ∧ m.set1 = {}

/-- At a ply entry every entry of both banks is invalid, and both accumulator sets read +0 and are not live. -/
theorem Matrix.atEntry.cleared {m : Matrix} (h : m.atEntry) :
    (∀ b i, b < 2 → i < 256 → Tab.find m.pbuf (b * 256 + i) = none) ∧ m.active = 0 ∧ m.set0.live = false ∧ m.set1.live = false
      ∧ (∀ i, Tab.get 0 m.set0.el i = 0) ∧ ∀ i, Tab.get 0 m.set1.el i = 0 := by
  obtain ⟨hpbuf, hactive, hset0, hset1⟩ := h
  rw [hpbuf, hset0, hset1]
  exact ⟨fun _ _ _ _ => rfl, hactive, rfl, rfl, fun _ => rfl, fun _ => rfl⟩

theorem Tile.atEntry_enter (t : Tile) (now : Nat) : (t.enter now).mx.atEntry := ⟨rfl, rfl, rfl, rfl⟩

/-- A write to a tile's memories leaves its matrix engine as it is. -/
@[simp] theorem Tile.mx_wr (t : Tile) (a : Nat) (bs : List Byte) : (t.wr a bs).mx = t.mx := by
  unfold Tile.wr
  split <;> rfl

/-- What leaves the table of tiles as it is leaves each tile as it is. -/
theorem Pkg.tile_of_tiles {s k : Pkg} (h : k.tiles = s.tiles) (n : Nat) : k.tile n = s.tile n := by rw [Pkg.tile, h, Pkg.tile]

@[simp] theorem Pkg.bump_tiles (s : Pkg) (i j n : Nat) : (s.bump i j n).tiles = s.tiles :=
  have h := congrArg Pkg.tiles (s.bare_bump i j n)
  h

@[simp] theorem Pkg.peak_tiles (s : Pkg) (i j n : Nat) : (s.peak i j n).tiles = s.tiles :=
  have h := congrArg Pkg.tiles (s.bare_peak i j n)
  h

@[simp] theorem Pkg.raise_tiles (s : Pkg) (code part : Nat) (items : List Nat) (raw : List Byte) :
    (s.raise code part items raw).tiles = s.tiles :=
  have h := congrArg Pkg.tiles (s.bare_raise code part items raw)
  h

@[simp] theorem Pkg.dsRead_tiles (s : Pkg) (p n a len : Nat) : (s.dsRead p n a len).2.tiles = s.tiles := by
  simp only [Pkg.dsRead, apply_ite Pkg.tiles, Pkg.bump_tiles, ite_self]

@[simp] theorem Pkg.mapRecovery_tiles (s : Pkg) (n : Nat) (f : Recovery → Recovery) : (s.mapRecovery n f).tiles = s.tiles := rfl

@[simp] theorem Pkg.repairGroup_tiles (s : Pkg) (cls g : Nat) : (s.repairGroup cls g).tiles = s.tiles := rfl

@[simp] theorem Pkg.addYield_tiles (s : Pkg) (p : Nat) (y : Yield) : (s.addYield p y).tiles = s.tiles := rfl

@[simp] theorem Pkg.tileEnded_tiles (s : Pkg) (n : Nat) : (s.tileEnded n).tiles = s.tiles := rfl

/-- A fold leaves the tiles as they are when each of its steps does. -/
theorem Pkg.foldl_tiles {α : Type} {f : Pkg → α → Pkg} (hf : ∀ s x, (f s x).tiles = s.tiles) (l : List α) (s : Pkg) :
    (l.foldl f s).tiles = s.tiles :=
  List.foldlRecOn (motive := fun k => k.tiles = s.tiles) l f rfl fun k hk x _ => (hf k x).trans hk

/-- A castling record is counters, its place in the ring and an event (13:R418 to R421). -/
@[simp] theorem Pkg.castlingRecord_tiles (s : Pkg) (r : CRec) : (s.castlingRecord r).tiles = s.tiles := by
  simp only [Pkg.castlingRecord, apply_ite Pkg.tiles, Pkg.raise_tiles, Pkg.bump_tiles, Pkg.peak_tiles, Pkg.setEnt_tiles, ite_self]

@[simp] theorem Pkg.lateRecord_tiles (s : Pkg) (r : CRec) : (s.lateRecord r).tiles = s.tiles := by
  unfold Pkg.lateRecord
  dsimp only
  split
  · exact s.castlingRecord_tiles r
  · exact (Pkg.foldl_tiles (fun k p => k.addYield_tiles p _) _ _).trans (s.castlingRecord_tiles _)

@[simp] theorem Pkg.recoverTile_tiles (s : Pkg) (n : Nat) (whole : Bool) : (s.recoverTile n whole).tiles = s.tiles := by
  refine Pkg.foldl_tiles (fun k r => ?_) _ s
  simp only [apply_ite Pkg.tiles, Pkg.lateRecord_tiles, Pkg.mapRecovery_tiles, ite_self]

/-- The repair that a commit makes touches no tile (13:R404). -/
@[simp] theorem Pkg.recoverCommit_tiles (s : Pkg) (n : Nat) : (s.recoverCommit n).tiles = s.tiles := by
  simp only [Pkg.recoverCommit, List.partition_eq_filter_filter]
  exact (Pkg.foldl_tiles (fun k (r : Recovery) => k.repairGroup_tiles r.cls r.grp) _ _).trans (s.recoverTile_tiles n true)

/-- A tile at its ply entry is there still when what is put in its place has its matrix engine. -/
theorem Pkg.atEntry_setTile {s : Pkg} {n : Nat} (h : (s.tile n).mx.atEntry) (k : Pkg) (f : Tile → Tile) (hf : ∀ t, (f t).mx = t.mx) :
    ((k.setTile n (f (s.tile n))).tile n).mx.atEntry := by
  rw [Pkg.tile_setTile, hf]
  exact h

/-- Restored from its record, a tile is at a ply entry (03:R95). -/
theorem Pkg.atEntry_recordTile (s : Pkg) (n : Nat) : ((s.recordTile n).tile n).mx.atEntry := by
  rw [Pkg.recordTile, Pkg.tile_setTile]
  exact Tile.atEntry_enter _ _

/-- The entry loads write memories alone, so they leave the tile at its ply entry. -/
theorem Pkg.atEntry_restoreTile (s : Pkg) (n : Nat) : ((s.restoreTile n).tile n).mx.atEntry := by
  refine List.foldlRecOn (motive := fun k : Pkg => (k.tile n).mx.atEntry) _ _ (s.atEntry_recordTile n) fun k hk e _ => ?_
  rw [← Pkg.tile_of_tiles (k.dsRead_tiles ((s.tile n).part - 1) n e.1 e.2.1)] at hk
  exact Pkg.atEntry_setTile hk _ (fun t => t.wr e.2.2 _) fun t => t.mx_wr _ _

theorem Pkg.atEntry_loadTile (s : Pkg) (n i : Nat) (e : List Byte) : ((s.loadTile n i e).tile n).mx.atEntry :=
  Pkg.atEntry_setTile (Pkg.atEntry_restoreTile _ n) _ (fun t => { t with mode := .rampWait, frameEnd := true }) fun _ => rfl

theorem Pkg.atEntry_dropGambit {s : Pkg} {n : Nat} (hg : (s.tile n).gambit = true)
    (hm : (s.tile n).mode = .running ∨ (s.tile n).mode = .gambitHeld) : ((s.dropGambit n).tile n).mx.atEntry := by
  have hdrop : ((s.tile n).gambit && ((s.tile n).mode == .running || (s.tile n).mode == .gambitHeld)) = true := by simpa [hg] using hm
  rw [Pkg.dropGambit, if_pos hdrop]
  exact Pkg.atEntry_setTile (Pkg.atEntry_restoreTile _ n) _ (fun t => { t with gambit := false, mode := .rampWait }) fun _ => rfl

/-- A replay counts, and notes its start in the open recoveries; then the restored tile goes on as no gambit (03:R95). The tile is
changed in the model's two steps: in one, its fields would be compared by evaluating the restore. -/
theorem Pkg.atEntry_replayTile (s : Pkg) (n : Nat) : ((s.replayTile n).tile n).mx.atEntry := by
  refine Pkg.atEntry_setTile (s := (Pkg.bump _ _ _ _).mapRecovery n _) ?_ _
    (fun t => let u : Tile := { t with gambit := false }
      { u with mode := if Pkg.ramped _ n then .running else .rampWait }) fun _ => rfl
  rw [Pkg.tile_of_tiles (Pkg.mapRecovery_tiles _ _ _), Pkg.tile_of_tiles (Pkg.bump_tiles _ _ _ _)]
  exact s.atEntry_restoreTile n

/-- A commit ends with a tile that enters its next ply; the repair of its faults and the end of its frame come after (03:R94). -/
theorem Pkg.commitPly_eq (s : Pkg) (n : Nat) : ∃ (k : Pkg) (t : Tile) (ended : Bool), t.mx.atEntry
    ∧ s.commitPly n = if ended then ((k.setTile n t).recoverCommit n).tileEnded n else (k.setTile n t).recoverCommit n :=
  ⟨_, _, _, ⟨rfl, rfl, rfl, rfl⟩, rfl⟩

theorem Pkg.atEntry_commitPly (s : Pkg) (n : Nat) : ((s.commitPly n).tile n).mx.atEntry := by
  obtain ⟨k, t, ended, ht, hcommit⟩ := s.commitPly_eq n
  have htiles : (s.commitPly n).tiles = (k.setTile n t).tiles := by
    rw [hcommit, apply_ite Pkg.tiles, Pkg.tileEnded_tiles, ite_self, Pkg.recoverCommit_tiles]
  rw [Pkg.tile_of_tiles htiles, Pkg.tile_setTile]
  exact ht

/-- A draining tile commits its ply (03:R94). -/
theorem plyCommit_of_draining {s : Pkg} {n : Nat} (h : (s.tile n).mode = .draining) : plyCommit s n = s.commitPly n := by
  simp [plyCommit, h]

/-- A faulted tile none of whose open recoveries still waits for its set-up replays its ply (03:R95). -/
theorem replay_of_faulted {s : Pkg} {n : Nat} (h : (s.tile n).mode = .faulted) (hset : ∀ r ∈ s.fault.open_, r.tile = n → r.step = 1) :
    replay s n = s.replayTile n := by
  have hall : (s.fault.open_.filter (fun r => r.tile = n)).all (fun r => decide (r.step = 1)) = true := by
    rw [List.all_eq_true]
    intro r hr
    obtain ⟨hopen, htile⟩ := List.mem_filter.1 hr
    exact decide_eq_true (hset r hopen (of_decide_eq_true htile))
  rw [replay, if_pos (by simp [h, hall])]

end Sys2Proof

namespace Sys2Proof.Machine

open Sys2Proof

theorem gives_plyCommit {s : State} {n : Nat} (hn : n < 6144) (hon : s.pkg.fw.off = 0) (h : (s.pkg.tile n).mode = .draining) :
    Gives (.plyCommit n) s (s.pkg.commitPly n) := by
  rw [Gives, exec_plyCommit, ← plyCommit_of_draining h]
  exact act_on _ (decide_eq_true hn) hon

theorem gives_replay {s : State} {n : Nat} (hn : n < 6144) (hon : s.pkg.fw.off = 0) (h : (s.pkg.tile n).mode = .faulted)
    (hset : ∀ r ∈ s.pkg.fault.open_, r.tile = n → r.step = 1) : Gives (.replay n) s (s.pkg.replayTile n) := by
  rw [Gives, exec_replay, ← replay_of_faulted h hset]
  exact act_on _ (decide_eq_true hn) hon

/-- Settles O40: a commit, a replay, a restore, a load and a dropped gambit ply each leave the tile at a ply entry. -/
theorem plyEntryClearsMatrix : Obligations.PlyEntryClearsMatrix := by
  unfold Obligations.PlyEntryClearsMatrix
  refine ⟨fun s n hn hon => ⟨fun hmode => ?commit, fun hmode hset => ?replay⟩, fun k n i e => ?entries⟩
  case commit => exact ⟨_, gives_plyCommit hn hon hmode, (s.pkg.atEntry_commitPly n).cleared⟩
  case replay => exact ⟨_, gives_replay hn hon hmode hset, (s.pkg.atEntry_replayTile n).cleared⟩
  case entries =>
    exact ⟨(k.atEntry_recordTile n).cleared, (k.atEntry_restoreTile n).cleared, (k.atEntry_loadTile n i e).cleared,
      fun hg hm => (Pkg.atEntry_dropGambit hg hm).cleared⟩

end Sys2Proof.Machine
end

section
/-!
PROOF. The site map after a castling (13:R408): the spares in the order of choice, and what the new map says of each tile and of the
site that failed.
-/

namespace Sys2Proof.Machine

open Sys2Proof

/-- The map once tile `t` is served by the spare of rank `q`, and the site that served it is marked. -/
def Sites.servedBy (z : Sites) (t q : Nat) : Sites := { z.fail t with moved := Tab.insert z.moved t (q * 9 + 9) }

/-- The ranks of a tile's spares: its own, the one below and the one above, where there are such. -/
theorem mem_spareRanks {t j : Nat} :
    j ∈ spareRanks t ↔ j = rankOf t ∨ (rankOf t ≠ 0 ∧ j = rankOf t - 1) ∨ (rankOf t ≠ 15 ∧ j = rankOf t + 1) := by
  simp only [spareRanks, List.mem_append, List.mem_singleton, List.mem_ite_nil_left, or_assoc]

section
variable {z : Sites} {t : Nat}

/-- The first free spare in the order of choice serves the tile. -/
theorem Sites.castle_eq_servedBy {q : Nat} (before after : List Nat) (hranks : spareRanks t = before ++ q :: after)
    (htaken : ∀ j ∈ before, ¬ (z.fail t).spareFree (t / 128) j) (hfree : (z.fail t).spareFree (t / 128) q) :
    z.castle t = some (z.servedBy t q) := by
  have hfind : (spareRanks t).find? (fun j => (z.fail t).spareFree (t / 128) j) = some q :=
    List.find?_eq_some_iff_append.2 ⟨hfree, before, after, hranks, fun j hj => by simp [htaken j hj]⟩
  rw [Sites.castle, Sites.serve, hfind]
  rfl

/-- With no spare of the ranks in reach free, no map serves the tile. -/
theorem Sites.castle_eq_none (htaken : ∀ j ∈ spareRanks t, ¬ (z.fail t).spareFree (t / 128) j) : z.castle t = none := by
  rw [Sites.castle, Sites.serve, List.find?_eq_none.2 htaken]
  rfl

/-- The spare of the tile's own rank is the first choice. -/
theorem Sites.castle_own (hfree : (z.fail t).spareFree (t / 128) (rankOf t)) : z.castle t = some (z.servedBy t (rankOf t)) :=
  castle_eq_servedBy [] _ rfl (fun _ hj => absurd hj List.not_mem_nil) hfree

/-- The spare of the rank below is the second. -/
theorem Sites.castle_below (hown : ¬ (z.fail t).spareFree (t / 128) (rankOf t)) (hpos : 0 < rankOf t)
    (hfree : (z.fail t).spareFree (t / 128) (rankOf t - 1)) : z.castle t = some (z.servedBy t (rankOf t - 1)) := by
  refine castle_eq_servedBy [rankOf t] (if rankOf t = 15 then [] else [rankOf t + 1]) ?_ (List.forall_mem_singleton.2 hown) hfree
  rw [spareRanks, if_neg (Nat.ne_of_gt hpos), List.append_assoc]
  rfl

/-- The spare of the rank above is the last. -/
theorem Sites.castle_above (hown : ¬ (z.fail t).spareFree (t / 128) (rankOf t))
    (hbelow : rankOf t = 0 ∨ ¬ (z.fail t).spareFree (t / 128) (rankOf t - 1)) (hlt : rankOf t < 15)
    (hfree : (z.fail t).spareFree (t / 128) (rankOf t + 1)) : z.castle t = some (z.servedBy t (rankOf t + 1)) := by
  refine castle_eq_servedBy ([rankOf t] ++ if rankOf t = 0 then [] else [rankOf t - 1]) [] ?_ (fun j hj => ?_) hfree
  · rw [spareRanks, if_neg (Nat.ne_of_lt hlt)]
  · simp only [List.mem_append, List.mem_singleton, List.mem_ite_nil_left] at hj
    obtain rfl | ⟨hpos, rfl⟩ := hj
    · exact hown
    · exact hbelow.resolve_left hpos

/-- There is no other. -/
theorem Sites.castle_none (hown : ¬ (z.fail t).spareFree (t / 128) (rankOf t))
    (hbelow : rankOf t = 0 ∨ ¬ (z.fail t).spareFree (t / 128) (rankOf t - 1))
    (habove : rankOf t = 15 ∨ ¬ (z.fail t).spareFree (t / 128) (rankOf t + 1)) : z.castle t = none := by
  refine castle_eq_none fun j hj => ?_
  obtain rfl | ⟨hpos, rfl⟩ | ⟨hlt, rfl⟩ := mem_spareRanks.1 hj
  · exact hown
  · exact hbelow.resolve_left hpos
  · exact habove.resolve_left hlt

end

theorem Sites.siteOf_servedBy_self (z : Sites) (t q : Nat) : (z.servedBy t q).siteOf t = q * 9 + 8 := by
  simp [Sites.siteOf, Sites.servedBy]

/-- A castling moves no other tile. -/
theorem Sites.siteOf_servedBy_other (z : Sites) {t u : Nat} (q : Nat) (h : u ≠ t) : (z.servedBy t q).siteOf u = z.siteOf u := by
  simp [Sites.siteOf, Sites.servedBy, Tab.get_insert_other _ _ _ h]

/-- The site that served the tile is marked failed. -/
theorem Sites.failed_servedBy (z : Sites) (t q : Nat) : Tab.get 0 (z.servedBy t q).failed (t / 128 * 144 + z.siteOf t) = 1 :=
  Tab.get_insert_self _ _ _ _

/-- A spare that is marked failed is not free. -/
theorem Sites.spareFree_eq_false_of_failed {z : Sites} {die q : Nat} (h : Tab.get 0 z.failed (die * 144 + q * 9 + 8) = 1) :
    z.spareFree die q = false := by
  simp [Sites.spareFree, h]

/-- A tile that a spare served has lost that spare for good (13:R408, R417). -/
theorem Sites.spareFree_servedBy_old (z : Sites) (t q : Nat) (h : z.siteOf t % 9 = 8) :
    (z.servedBy t q).spareFree (t / 128) (z.siteOf t / 9) = false := by
  apply Sites.spareFree_eq_false_of_failed
  have hsite : t / 128 * 144 + z.siteOf t / 9 * 9 + 8 = t / 128 * 144 + z.siteOf t := by omega
  rw [hsite]
  exact z.failed_servedBy t q

end Sys2Proof.Machine
end

section
/-!
PROOF. What a castling record changes (13:R418 to R421), and that a committed castling writes nothing to the die store (13:R409).
-/

namespace Sys2Proof

open Sys2Proof.Machine

/-- What every step of a fold keeps, the fold keeps. -/
theorem Pkg.foldl_keeps {α β : Type} (g : Pkg → β) {f : Pkg → α → Pkg} (hf : ∀ s x, g (f s x) = g s) (l : List α) (s : Pkg) :
    g (l.foldl f s) = g s :=
  List.foldlRecOn (motive := fun k => g k = g s) l f rfl fun k hk x _ => (hf k x).trans hk

@[simp] theorem Pkg.bump_dstore (s : Pkg) (i j n : Nat) : (s.bump i j n).dstore = s.dstore :=
  have h := congrArg Pkg.dstore (s.bare_bump i j n)
  h

@[simp] theorem Pkg.bump_fault (s : Pkg) (i j n : Nat) : (s.bump i j n).fault = s.fault :=
  have h := congrArg Pkg.fault (s.bare_bump i j n)
  h

@[simp] theorem Pkg.peak_dstore (s : Pkg) (i j n : Nat) : (s.peak i j n).dstore = s.dstore :=
  have h := congrArg Pkg.dstore (s.bare_peak i j n)
  h

@[simp] theorem Pkg.peak_fault (s : Pkg) (i j n : Nat) : (s.peak i j n).fault = s.fault :=
  have h := congrArg Pkg.fault (s.bare_peak i j n)
  h

@[simp] theorem Pkg.raise_dstore (s : Pkg) (code part : Nat) (items : List Nat) (raw : List Byte) :
    (s.raise code part items raw).dstore = s.dstore :=
  have h := congrArg Pkg.dstore (s.bare_raise code part items raw)
  h

@[simp] theorem Pkg.raise_fault (s : Pkg) (code part : Nat) (items : List Nat) (raw : List Byte) :
    (s.raise code part items raw).fault = s.fault :=
  have h := congrArg Pkg.fault (s.bare_raise code part items raw)
  h

@[simp] theorem Pkg.castlingRecord_dstore (s : Pkg) (r : CRec) : (s.castlingRecord r).dstore = s.dstore := by
  simp only [Pkg.castlingRecord, apply_ite Pkg.dstore, Pkg.raise_dstore, Pkg.bump_dstore, Pkg.peak_dstore, Pkg.setEnt_dstore, ite_self]

/-- A record is no decision on which C-dies may be assigned (13:R418). -/
@[simp] theorem Pkg.castlingRecord_noAssign (s : Pkg) (r : CRec) : (s.castlingRecord r).fault.noAssign = s.fault.noAssign := by
  simp only [Pkg.castlingRecord, apply_ite Pkg.fault, Pkg.raise_fault, Pkg.bump_fault, Pkg.peak_fault, Pkg.setEnt_fault, ite_self]

/-- A record of outcome 2 is reported as FAULT_OUT_OF_SCOPE (13:R419). -/
theorem Pkg.reports_castlingRecord (s : Pkg) {r : CRec} (h : r.outcome = 2) : Reports (s.castlingRecord r) 0x0203 0xFF r.more := by
  have hev : s.recEvent r = 0x0203 := by simp [Pkg.recEvent, h]
  simp only [Pkg.castlingRecord, hev, h]
  exact Pkg.reports_raise _ _ _ _ _

@[simp] theorem Pkg.addYield_dstore (s : Pkg) (p : Nat) (y : Yield) : (s.addYield p y).dstore = s.dstore := rfl

@[simp] theorem Pkg.repairGroup_dstore (s : Pkg) (cls g : Nat) : (s.repairGroup cls g).dstore = s.dstore := rfl

@[simp] theorem Pkg.lateRecord_dstore (s : Pkg) (r : CRec) : (s.lateRecord r).dstore = s.dstore := by
  unfold Pkg.lateRecord
  dsimp only
  split
  · exact s.castlingRecord_dstore r
  · exact (Pkg.foldl_keeps Pkg.dstore (fun k p => k.addYield_dstore p _) _ _).trans (s.castlingRecord_dstore _)

@[simp] theorem Pkg.mapRecovery_dstore (s : Pkg) (n : Nat) (f : Recovery → Recovery) : (s.mapRecovery n f).dstore = s.dstore := rfl

@[simp] theorem Pkg.recoverTile_dstore (s : Pkg) (n : Nat) (whole : Bool) : (s.recoverTile n whole).dstore = s.dstore := by
  refine Pkg.foldl_keeps Pkg.dstore (fun k r => ?_) _ s
  simp only [apply_ite Pkg.dstore, Pkg.lateRecord_dstore, Pkg.mapRecovery_dstore, ite_self]

@[simp] theorem Pkg.recoverCommit_dstore (s : Pkg) (n : Nat) : (s.recoverCommit n).dstore = s.dstore := by
  simp only [Pkg.recoverCommit, List.partition_eq_filter_filter]
  exact (Pkg.foldl_keeps Pkg.dstore (fun k (r : Recovery) => k.repairGroup_dstore r.cls r.grp) _ _).trans (s.recoverTile_dstore n true)

@[simp] theorem Pkg.copyImage_dstore (s : Pkg) (n : Nat) : (s.copyImage n).dstore = s.dstore := rfl

@[simp] theorem Pkg.dsRead_dstore (s : Pkg) (p n a len : Nat) : (s.dsRead p n a len).2.dstore = s.dstore := by
  simp only [Pkg.dsRead, apply_ite Pkg.dstore, Pkg.bump_dstore, ite_self]

/-- A restored tile's entry loads read the die store alone (03:R95). -/
@[simp] theorem Pkg.restoreTile_dstore (s : Pkg) (n : Nat) : (s.restoreTile n).dstore = s.dstore := by
  refine Pkg.foldl_keeps Pkg.dstore (fun k e => ?_) _ (s.recordTile n)
  exact k.dsRead_dstore ((s.tile n).part - 1) n e.1 e.2.1

@[simp] theorem Pkg.sparesLow_dstore (s : Pkg) (cls unit left : Nat) : (s.sparesLow cls unit left).dstore = s.dstore :=
  s.raise_dstore _ _ _ _

end Sys2Proof

namespace Sys2Proof.Machine

open Sys2Proof

@[simp] theorem sparesTaken_dstore (s : Pkg) (free₀ : Nat) (reach₀ : Nat → Nat) (z : Sites) (die t : Nat) :
    (sparesTaken s free₀ reach₀ z die t).dstore = s.dstore := by
  refine (Pkg.foldl_keeps Pkg.dstore (fun k _ => k.sparesLow_dstore _ _ _) _ _).trans ?_
  simp only [apply_ite Pkg.dstore, Pkg.sparesLow_dstore, Pkg.setEnt_dstore, ite_self]

/-- Setting a tile up on its new site writes nothing to the die store (13:R409). -/
@[simp] theorem castledPkg_dstore (s : Pkg) (z₀ z : Sites) (t : Nat) (r : Recovery) : (castledPkg s z₀ z t r).dstore = s.dstore := by
  simp only [castledPkg, apply_ite Pkg.dstore, Pkg.recoverCommit_dstore, Pkg.restoreTile_dstore, Pkg.copyImage_dstore, sparesTaken_dstore,
    ite_self]
  rfl

end Sys2Proof.Machine
end

section
/-!
PROOF. Stopping a partition leaves the fault state as it is, but for the records of the remaps that it ends (13:R416, 14:R431): so a C-die
that may not be assigned stays so.
-/

namespace Sys2Proof

open Sys2Proof.Machine

@[simp] theorem Pkg.dstorePut_fault (s : Pkg) (a : Nat) (d : List Byte) : (s.dstorePut a d).fault = s.fault := rfl

@[simp] theorem Pkg.dstoreAcc_fault (s : Pkg) (p a : Nat) (d : List Byte) : (s.dstoreAcc p a d).fault = s.fault := by
  simp only [Pkg.dstoreAcc, Pkg.bump_fault, Pkg.dstorePut_fault]

@[simp] theorem Pkg.countWrite_fault (s : Pkg) (p home a n : Nat) : (s.countWrite p home a n).fault = s.fault := by
  simp only [Pkg.countWrite, apply_ite Pkg.fault, Pkg.bump_fault, ite_self]

@[simp] theorem Pkg.writeThrough_fault (s : Pkg) (h a : Nat) (d : List Byte) : (s.writeThrough h a d).fault = s.fault := by
  simp only [Pkg.writeThrough, Pkg.dropResv_fault, Pkg.bump_fault]

/-- A write that reaches its S-die is no fault (03:R94, 08:R245). -/
@[simp] theorem Pkg.applyWrite_fault (s : Pkg) (w : DWrite) : (s.applyWrite w).fault = s.fault := by
  unfold Pkg.applyWrite
  split
  · simp only [Pkg.applyTile, apply_ite Pkg.fault, Pkg.dstoreAcc_fault, Pkg.dstorePut_fault, Pkg.countWrite_fault, Pkg.setTile_fault,
      ite_self]
  · simp only [Pkg.applyHart, apply_ite Pkg.fault, Pkg.writeThrough_fault, Pkg.countWrite_fault, Pkg.setHart_fault, ite_self]
  · simp only [Pkg.dwordInc, apply_ite Pkg.fault, Pkg.dstorePut_fault, ite_self]

@[simp] theorem Pkg.takeWrites_fault (s : Pkg) (p : DWrite → Bool) : (s.takeWrites p).2.fault = s.fault :=
  Pkg.foldl_keeps Pkg.fault (fun k (e : Nat × SDie) => k.setSdie_fault e.1 _) _ s

@[simp] theorem Pkg.cancelQueued_fault (s : Pkg) (p : QPkt → Bool) : (s.cancelQueued p).2.fault = s.fault :=
  Pkg.foldl_keeps Pkg.fault (fun k (e : Nat × APort) => k.setPort_fault e.1 _) _ s

@[simp] theorem Pkg.sendEnvelope_fault (s : Pkg) (n vc : Nat) (link body : List Byte) : (s.sendEnvelope n vc link body).fault = s.fault := by
  simp only [Pkg.sendEnvelope, apply_ite Pkg.fault, Pkg.emit_fault, Pkg.setPort_fault, ite_self]

@[simp] theorem Pkg.sendBare_fault (s : Pkg) (n ltype : Nat) : (s.sendBare n ltype).fault = s.fault := by
  simp only [Pkg.sendBare, Pkg.sendEnvelope_fault, Pkg.setPort_fault]

@[simp] theorem Pkg.sendData_fault (s : Pkg) (n vc seq : Nat) (packet : List Byte) : (s.sendData n vc seq packet).fault = s.fault := by
  simp only [Pkg.sendData, apply_ite Pkg.fault, Pkg.sendBare_fault, ite_self]
  split <;> simp only [Pkg.sendEnvelope_fault, Pkg.setPort_fault]

@[simp] theorem Pkg.stampSync_fault (s : Pkg) (packet : List Byte) : (s.stampSync packet).1.fault = s.fault := by
  simp only [Pkg.stampSync, apply_ite Prod.fst, apply_ite Pkg.fault, ite_self]

/-- The grant of a queued packet changes its request, its pair and its counters alone (11:R351). -/
theorem Pkg.grantReq_fault {s k : Pkg} {n : Nat} {q : QPkt} {packet : List Byte} (h : s.grantReq n q = some (k, packet)) :
    k.fault = s.fault := by
  unfold Pkg.grantReq at h
  split at h
  · rw [← s.stampSync_fault q.packet, Option.some.inj h]
  · split at h
    · cases h
    · dsimp only at h
      split at h <;> cases h
      all_goals
        simp only [Pkg.setReq_fault, Pkg.setCtx_fault]
        split <;> simp only [Pkg.bump_fault]

@[simp] theorem Pkg.pumpN_fault (n fuel : Nat) (s : Pkg) : (s.pumpN n fuel).fault = s.fault := by
  induction fuel generalizing s with
  | zero => rfl
  | succ fuel ih =>
    rw [Pkg.pumpN]
    dsimp only
    split
    · rfl
    split
    · rfl
    split
    · rfl
    split
    · exact ih _
    · rename_i hgrant
      rw [ih, Pkg.sendData_fault, Pkg.setPort_fault, Pkg.grantReq_fault hgrant, Pkg.setPort_fault]

@[simp] theorem Pkg.idleOut_fault (n fuel : Nat) (s : Pkg) : (s.idleOut n fuel).fault = s.fault := by
  induction fuel generalizing s with
  | zero => rfl
  | succ fuel ih => simp only [Pkg.idleOut, apply_ite Pkg.fault, ih, Pkg.sendBare_fault, ite_self]

@[simp] theorem Pkg.post_fault (s : Pkg) (n vc : Nat) (packet : List Byte) (msg req : Nat) :
    (s.post n vc packet msg req).fault = s.fault := by
  simp only [Pkg.post, Pkg.pump, Pkg.idleOut_fault, Pkg.pumpN_fault, Pkg.setPort_fault]

@[simp] theorem Pkg.newMsg_fault (s : Pkg) : s.newMsg.2.fault = s.fault := rfl

/-- A request sent, or answered at once, is no fault of the package's units (11:R346). -/
@[simp] theorem Pkg.sendReq_fault (s : Pkg) (part : Nat) (src : ReqSrc) (h : Hdr) (payload : List Byte) (msg : Nat) :
    (s.sendReq part src h payload msg).1.fault = s.fault := by
  unfold Pkg.sendReq
  dsimp only
  split
  · simp only [apply_ite Prod.snd, apply_ite Pkg.fault, Pkg.raise_fault, Pkg.bump_fault, Pkg.newMsg_fault, ite_self]
  · split <;>
      simp only [apply_ite Prod.fst, apply_ite Prod.snd, apply_ite Pkg.fault, Pkg.post_fault, Pkg.bump_fault, Pkg.setCtx_fault,
        Pkg.newMsg_fault, ite_self]

@[simp] theorem Pkg.collSend_fault (s : Pkg) (p seq node kind idx : Nat) (payload : List Byte) :
    (s.collSend p seq node kind idx payload).1.fault = s.fault :=
  s.sendReq_fault p _ _ payload _

@[simp] theorem Pkg.collRecord_fault (s : Pkg) (c : Coll) (f : CRecF) : (s.collRecord c f).fault = s.fault := s.dstorePut_fault _ _

@[simp] theorem Pkg.collRemember_fault (s : Pkg) (p seq status origin : Nat) (remote : Bool) :
    (s.collRemember p seq status origin remote).fault = s.fault := by
  simp only [Pkg.collRemember, apply_ite Pkg.fault, ite_self]

/-- So is a request to each of several nodes. The induction is written out: against `Pkg.foldl_keeps` the kernel would evaluate the sending. -/
@[simp] theorem Pkg.collSends_fault (p seq kind idx : Nat) (payload : List Byte) (l : List Nat) (s : Pkg) :
    (l.foldl (fun s m => (s.collSend p seq m kind idx payload).1) s).fault = s.fault := by
  induction l generalizing s with
  | nil => rfl
  | cons m l ih => rw [List.foldl_cons, ih, Pkg.collSend_fault]

/-- An aborted collective is cancelled, recorded and reported, and no unit is faulty for it (12:R398). -/
@[simp] theorem Pkg.collAbort_fault (s : Pkg) (p seq status origin : Nat) (remote : Bool) (offend : Nat) :
    (s.collAbort p seq status origin remote offend).fault = s.fault := by
  unfold Pkg.collAbort
  split
  · rfl
  · simp only [apply_ite Pkg.fault, Pkg.raise_fault, Pkg.bump_fault, Pkg.setEnt_fault, Pkg.collRemember_fault, Pkg.dstorePut_fault,
      Pkg.collRecord_fault, Pkg.collSends_fault, Pkg.dropColl_fault, Pkg.dropReqs_fault, Pkg.cancelQueued_fault, ite_self]

@[simp] theorem Pkg.stopUnits_fault (s : Pkg) (p : Nat) : (s.stopUnits p).fault = s.fault := by
  simp only [Pkg.stopUnits, Pkg.foldl_keeps Pkg.fault Pkg.applyWrite_fault, Pkg.takeWrites_fault]

@[simp] theorem Pkg.cancelPart_fault (s : Pkg) (p : Nat) : (s.cancelPart p).fault = s.fault := by
  simp only [Pkg.cancelPart, Pkg.dropReqs_fault, Pkg.bump_fault, Pkg.cancelQueued_fault]

@[simp] theorem Pkg.abortColls_fault (s : Pkg) (p : Nat) : (s.abortColls p).fault = s.fault :=
  Pkg.foldl_keeps Pkg.fault (fun k (c : Coll) => k.collAbort_fault p c.seq 4 k.node false k.node) _ _

/-- A remap that ends is repaired and recorded (07:R229). -/
@[simp] theorem Pkg.remapDone_noAssign (s : Pkg) (e : Nat) : (s.remapDone e).fault.noAssign = s.fault.noAssign := by
  unfold Pkg.remapDone
  dsimp only
  split
  · rfl
  · exact Pkg.castlingRecord_noAssign _ _

@[simp] theorem Pkg.discardWork_noAssign (s : Pkg) (p : Nat) : (s.discardWork p).fault.noAssign = s.fault.noAssign := by
  simp only [Pkg.discardWork, Pkg.bump_fault, Pkg.foldl_keeps (fun k => k.fault.noAssign) fun k (e : Nat × Engine) => k.remapDone_noAssign e.1]

@[simp] theorem Pkg.haltPart_noAssign (s : Pkg) (p : Nat) : (s.haltPart p).fault.noAssign = s.fault.noAssign := by
  simp only [Pkg.haltPart, Pkg.setPart_fault, Pkg.discardWork_noAssign, Pkg.abortColls_fault, Pkg.cancelPart_fault, Pkg.stopUnits_fault]

@[simp] theorem Pkg.faultPart_noAssign (s : Pkg) (p : Nat) : (s.faultPart p).fault.noAssign = s.fault.noAssign := by
  simp only [Pkg.faultPart, apply_ite Pkg.fault, apply_ite FaultSt.noAssign, Pkg.endYields, Pkg.setPart_fault, Pkg.haltPart_noAssign, ite_self]

/-- A fault outside single-fault scope ends no ban on a C-die (13:R415). -/
@[simp] theorem Pkg.outOfScope_noAssign (s : Pkg) (r : CRec) (ps : List Nat) : (s.outOfScope r ps).fault.noAssign = s.fault.noAssign :=
  (Pkg.castlingRecord_noAssign _ _).trans (Pkg.foldl_keeps (fun k => k.fault.noAssign) Pkg.faultPart_noAssign ps s)

end Sys2Proof
end

section
/-!
PROOF. A castling is committed (13:R408, R409, R414, R415): the first free spare of the ranks in reach serves the tile; with none free the
fault lies outside single-fault scope.
-/

namespace Sys2Proof.Machine

open Sys2Proof

/-- The oldest castling asked for that no commit has served yet (13:R405). -/
abbrev oldestCastling (s : State) : Option Recovery := s.pkg.fault.open_.find? (fun r => decide (r.cls = 2) && decide (r.step = 0))

/-- On a package that is on, the command commits. -/
theorem exec_castlingCommit_of_on {s : State} {t : Nat} (ht : t < 6144) (hon : s.pkg.fw.off = 0) :
    exec (.castlingCommit t) s = .next (castlingCommit s t) := by
  rw [exec_castlingCommit, if_pos (show t < tileMax from ht), if_pos hon]

/-- A commit for another tile than the oldest castling's does nothing (13:R405). -/
theorem castlingCommit_of_other {s : State} {t : Nat} {r : Recovery} (hr : oldestCastling s = some r) (htile : r.tile ≠ t) :
    castlingCommit s t = s := by
  simp [castlingCommit, hr, htile]

/-- A spare was free: the maps take the castling, and the tile is set up on its new site. -/
theorem castlingCommit_of_castle {s : State} {t : Nat} {r : Recovery} {z : Sites} (hr : oldestCastling s = some r) (htile : r.tile = t)
    (hz : s.sites.castle t = some z) : castlingCommit s t = { s with sites := z, pkg := castledPkg s.pkg s.sites z t r } := by
  simp [castlingCommit, hr, htile, hz]

/-- A commit whose spare of rank `q` was free: the site of the tile and of every other, the mark on the site that failed, the die store. -/
theorem castlingCommit_serves {s : State} {t : Nat} {r : Recovery} {q : Nat} (hr : oldestCastling s = some r) (htile : r.tile = t)
    (hz : s.sites.castle t = some (s.sites.servedBy t q)) :
    (castlingCommit s t).pending = s.pending ∧ (castlingCommit s t).sites = s.sites.servedBy t q
      ∧ (castlingCommit s t).pkg.dstore = s.pkg.dstore := by
  rw [castlingCommit_of_castle hr htile hz]
  exact ⟨rfl, rfl, castledPkg_dstore _ _ _ _ _⟩

/-- No spare was free: the failed site is marked, the fault is reported as outside single-fault scope, and the C-die is not assignable
(13:R408, R415). -/
theorem castlingCommit_outOfScope {s : State} {t : Nat} {r : Recovery} (hr : oldestCastling s = some r) (htile : r.tile = t)
    (hz : s.sites.castle t = none) :
    (castlingCommit s t).pending = s.pending ∧ (castlingCommit s t).sites = s.sites.fail t
      ∧ Reports (castlingCommit s t).pkg 0x0203 0xFF [maskOf (s.pkg.partsOfDie (t / 128))]
      ∧ t / 128 ∈ (castlingCommit s t).pkg.fault.noAssign := by
  simp only [castlingCommit, hr, htile, hz, ne_eq, not_true_eq_false, if_false]
  refine ⟨trivial, trivial, Pkg.reports_castlingRecord _ rfl, ?_⟩
  rw [Pkg.outOfScope_noAssign]
  exact List.mem_append_right _ (List.mem_singleton_self _)

/-- Settles O51: the three clauses with a free spare are the first free of the ranks of choice, and the maps it leaves; with none free the
commit marks, reports and bars the C-die. -/
theorem castlingChoosesSpare : Obligations.CastlingChoosesSpare := by
  unfold Obligations.CastlingChoosesSpare
  intro s t r ht hon _ hr die k z free served
  rw [exec_castlingCommit_of_on ht hon]
  refine ⟨fun htile => ?_, fun htile => by rw [castlingCommit_of_other hr htile]⟩
  have serves (q : Nat) (hz : s.sites.castle t = some (s.sites.servedBy t q)) : served (q * 9 + 8) := by
    obtain ⟨hpending, hsites, hdstore⟩ := castlingCommit_serves hr htile hz
    refine ⟨_, exec_castlingCommit_of_on ht hon, hpending, ?_⟩
    rw [hsites]
    refine ⟨s.sites.siteOf_servedBy_self t q, fun u hu => s.sites.siteOf_servedBy_other q hu, s.sites.failed_servedBy t q, ?_, hdstore⟩
    by_cases hspare : s.sites.siteOf t % 9 = 8
    · exact .inr (s.sites.spareFree_servedBy_old t q hspare)
    · exact .inl hspare
  refine ⟨fun hown => serves k (Sites.castle_own hown), fun hown hpos hbelow => serves (k - 1) (Sites.castle_below hown hpos hbelow),
    fun hown hbelow hlt habove => serves (k + 1) (Sites.castle_above hown hbelow hlt habove), fun hown hbelow habove => ?_⟩
  exact ⟨_, rfl, castlingCommit_outOfScope hr htile (Sites.castle_none hown hbelow habove)⟩

end Sys2Proof.Machine
end

section
/-!
PROOF. What a command acts on (00_scope, 13:R415, 18:R541, R556): every command but three changes the package alone, and that only while
its domain is on; the three that remain are root firmware's, which write the site maps.
-/

namespace Sys2Proof.Machine

open Sys2Proof

/-- The domain that a command needs: the package, the management domain, the I3C port, none, or root firmware's site maps. -/
inductive Domain where
  | package | management | i3c | pins | maps
deriving DecidableEq

/-- The domain of each command that needs another one than the package. -/
def domain : Instr → Domain
  | .castlingCommit _ | .n0CommitComplete | .bootEpochTimeout => .maps
  | .coldStart _ | .resetNAssert _ | .vauxFail | .perstN _ _ | .lenpelPresenceAssert _ | .lenpelPresenceLost _ | .extest _ _ _ | .sample _ _
  | .preload _ | .vinSample _ _ _ | .idcode | .clamp | .highz | .extestPulse _ _ _ | .extestTrain _ _ _ | .bypass | .trstN => .pins
  | .faultMapCommit | .savedEntryCommit | .holdupEstimate _ _ | .holdupDeferred | .n0Commit => .management
  | .i3cPrivateWrite _ | .i3cPrivateRead | .entdaa _ | .setdasa _ _ | .rstdaa | .enec _ | .disec _ | .setmwl _ | .setmrl _ | .getmwl | .getmrl
  | .getpid | .getbcr | .getdcr | .getstatus | .rstact _ => .i3c
  | _ => .package

/-- Whether a domain acts in this state. -/
def Domain.on (d : Domain) (s : State) : Prop :=
  match d with
  | .package => s.pkg.fw.off = 0
  | .management => s.pkg.fw.off < 3
  | .i3c => s.pkg.fw.vaux = true ∧ s.pkg.fw.off < 3
  | .pins => True
  | .maps => False

/-- What a command of a domain may answer: its own package, where its units exist and its domain is on. -/
def Domain.run (d : Domain) (units : Bool) (s : State) (k : Pkg) : Res :=
  match d with
  | .package => if units then (if s.pkg.fw.off = 0 then .next { s with pkg := k } else .next s) else .fault .noSuchUnit
  | .management => if units then (if s.pkg.fw.off < 3 then .next { s with pkg := k } else .next s) else .fault .noSuchUnit
  | .i3c => if s.pkg.fw.vaux then (if units then (if s.pkg.fw.off < 3 then .next { s with pkg := k } else .next s) else .fault .noSuchUnit) else .next s
  | .pins => if units then .next { s with pkg := k } else .fault .noSuchUnit
  | .maps => .next s

/-- Every command but the three that write the site maps is a change of the package, by its domain. -/
theorem exec_eq_run (i : Instr) (s : State) (h : domain i ≠ .maps) : ∃ k, exec i s = (domain i).run i.wf s k := by
  cases i
  case castlingCommit => exact absurd rfl h
  case n0CommitComplete => exact absurd rfl h
  case bootEpochTimeout => exact absurd rfl h
  all_goals exact ⟨_, rfl⟩

/-- A command of a domain changes the package alone, or nothing. -/
theorem Domain.run_cases (d : Domain) (s : State) (k : Pkg) :
    d.run true s k = .next s ∨ (d.on s ∧ d.run true s k = .next { s with pkg := k }) := by
  cases d with
  | package => by_cases h : s.pkg.fw.off = 0 <;> simp [Domain.run, Domain.on, h]
  | management => by_cases h : s.pkg.fw.off < 3 <;> simp [Domain.run, Domain.on, h]
  | i3c =>
    by_cases hv : s.pkg.fw.vaux = true
    · by_cases h : s.pkg.fw.off < 3 <;> simp [Domain.run, Domain.on, hv, h]
    · simp [Domain.run, hv]
  | pins => exact .inr ⟨trivial, rfl⟩
  | maps => exact .inl rfl

/-- Only the commands of the pins act in a package that is without its M-die or in reset. -/
theorem Domain.not_on {d : Domain} {s : State} (h : 3 ≤ s.pkg.fw.off) (hpins : d ≠ .pins) : ¬ d.on s := by
  cases d <;> simp [Domain.on] at hpins ⊢ <;> omega

/-- The commands of the pins are the domain of the pins. -/
theorem domain_eq_pins_iff (i : Instr) : domain i = .pins ↔ i.ofPins = true := by
  cases i <;> simp [domain, Instr.ofPins]

/-- The unit of every command of the I3C port and of root firmware's maps, but a castling's tile, exists. -/
theorem wf_of_i3c {i : Instr} (h : domain i = .i3c) : i.wf = true := by
  cases i <;> simp [domain] at h <;> rfl

/-- Where its units exist, a command but the three of the maps leaves the state as it is, or is on and changes the package alone. -/
theorem exec_of_wf {i : Instr} {s : State} (hmaps : domain i ≠ .maps) (hwf : i.wf = true) :
    exec i s = .next s ∨ ((domain i).on s ∧ ∃ k, exec i s = .next { s with pkg := k }) := by
  obtain ⟨k, hk⟩ := exec_eq_run i s hmaps
  rw [hk, hwf]
  exact ((domain i).run_cases s k).imp id fun h => ⟨h.1, k, h.2⟩

/-- The commands that write the site maps are root firmware's three (01:R30, 17:R522). -/
theorem eq_of_maps {i : Instr} (h : domain i = .maps) : (∃ t, i = .castlingCommit t) ∨ i = .n0CommitComplete ∨ i = .bootEpochTimeout := by
  cases i <;> simp [domain] at h ⊢

/-- A command that names a unit there is not is the one fault, whatever the state (01:R45). -/
theorem exec_of_not_wf {i : Instr} (s : State) (h : i.wf = false) : exec i s = .fault .noSuchUnit := by
  cases hd : domain i with
  | maps =>
    obtain ⟨t, rfl⟩ | rfl | rfl := eq_of_maps hd
    · rw [exec_castlingCommit, if_neg (show ¬ t < tileMax from of_decide_eq_false h)]
    · exact absurd h Bool.noConfusion
    · exact absurd h Bool.noConfusion
  | i3c => exact absurd (wf_of_i3c hd) (by simp [h])
  | package | management | pins =>
    obtain ⟨k, hk⟩ := exec_eq_run i s (by simp [hd])
    rw [hk, hd, h]
    rfl

/-- The rest of a start leaves the queue as it is, and writes the site maps when a start is under way. -/
theorem coldFinish_pending (s : State) : (coldFinish s).pending = s.pending := by
  unfold coldFinish
  split <;> rfl

/-- A castling leaves the queue as it is. -/
theorem castlingCommit_pending (s : State) (t : Nat) : (castlingCommit s t).pending = s.pending := by
  unfold castlingCommit
  split
  · rfl
  · split
    · rfl
    · split <;> rfl

/-- What the three commands of the site maps answer: a castling, the rest of a start under way, or a package with the same maps. -/
theorem exec_of_maps {i : Instr} {s t : State} (hmaps : domain i = .maps) (ht : exec i s = .next t) :
    (t.sites = s.sites ∧ t.pending = s.pending)
      ∨ (∃ n, n < 6144 ∧ i = .castlingCommit n ∧ t = castlingCommit s n)
      ∨ ((i = .n0CommitComplete ∨ i = .bootEpochTimeout) ∧ s.pkg.fw.cold ≠ none ∧ ∃ k, t = coldFinish { s with pkg := k }) := by
  obtain ⟨n, rfl⟩ | rfl | rfl := eq_of_maps hmaps
  · rw [exec_castlingCommit] at ht
    by_cases hn : n < tileMax
    · rw [if_pos hn, Host.Outcome.next.injEq] at ht
      split at ht
      · exact .inr (.inl ⟨n, hn, rfl, ht.symm⟩)
      · exact .inl ⟨ht ▸ rfl, ht ▸ rfl⟩
    · rw [if_neg hn] at ht
      cases ht
  · rw [exec_n0CommitComplete] at ht
    split at ht
    · rw [Host.Outcome.next.injEq] at ht
      split at ht
      · next hdone =>
        simp only [Pkg.epochDone, Bool.and_eq_true, Option.isSome_iff_ne_none] at hdone
        exact .inr (.inr ⟨.inl rfl, hdone.1.1, _, ht.symm⟩)
      · exact .inl ⟨ht ▸ rfl, ht ▸ rfl⟩
    · cases ht
      exact .inl ⟨rfl, rfl⟩
  · rw [exec_bootEpochTimeout, Host.Outcome.next.injEq] at ht
    split at ht
    · next hlate =>
      simp only [Pkg.epochLate, Bool.and_eq_true, Option.isSome_iff_ne_none] at hlate
      exact .inr (.inr ⟨.inr rfl, hlate.2.1.1, _, ht.symm⟩)
    · exact .inl ⟨ht ▸ rfl, ht ▸ rfl⟩

/-- A command of another domain leaves the queue and the site maps as they are. -/
theorem exec_frame {i : Instr} {s t : State} (hmaps : domain i ≠ .maps) (ht : exec i s = .next t) :
    t.sites = s.sites ∧ t.pending = s.pending := by
  cases hwf : i.wf with
  | false => rw [exec_of_not_wf s hwf] at ht; cases ht
  | true =>
    obtain h | ⟨_, k, h⟩ := exec_of_wf (s := s) hmaps hwf
    all_goals
      rw [h] at ht
      cases ht
      exact ⟨rfl, rfl⟩

/-- Settles O3: by its domain a command of existing units has an answer, and any other is the fault; no answer touches the queue. -/
theorem commandsRunWhereUnitsExist : Obligations.CommandsRunWhereUnitsExist := by
  unfold Obligations.CommandsRunWhereUnitsExist
  refine ⟨fun i s => ⟨fun hwf => ?_, exec_of_not_wf s⟩, fun i s t ht => ?_⟩
  · by_cases hmaps : domain i = .maps
    · obtain ⟨n, rfl⟩ | rfl | rfl := eq_of_maps hmaps
      · exact ⟨_, by rw [exec_castlingCommit, if_pos (show n < tileMax from of_decide_eq_true hwf)]⟩
      · rw [exec_n0CommitComplete]
        split
        · exact ⟨_, rfl⟩
        · exact ⟨_, rfl⟩
      · exact ⟨_, exec_bootEpochTimeout s⟩
    · obtain h | ⟨_, k, h⟩ := exec_of_wf (s := s) hmaps hwf
      · exact ⟨_, h⟩
      · exact ⟨_, h⟩
  · by_cases hmaps : domain i = .maps
    · obtain ⟨_, h⟩ | ⟨n, _, _, rfl⟩ | ⟨_, _, k, rfl⟩ := exec_of_maps hmaps ht
      · exact h
      · exact castlingCommit_pending s n
      · exact coldFinish_pending _
    · exact (exec_frame hmaps ht).2

/-- Settles O4: a command outside the domain of the maps leaves them; of the three inside it, two need a start under way. -/
theorem siteMapWriters : Obligations.SiteMapWriters := by
  unfold Obligations.SiteMapWriters
  intro i s t ht hne
  by_cases hmaps : domain i = .maps
  · obtain ⟨h, _⟩ | ⟨n, _, hi, _⟩ | ⟨hi, hcold, _⟩ := exec_of_maps hmaps ht
    · exact absurd h hne
    · exact .inl ⟨n, hi⟩
    · exact .inr ⟨hi, hcold⟩
  · exact absurd (exec_frame hmaps ht).1 hne

/-- Settles O8: without the M-die or in reset only the domain of the pins is on, and root firmware's three commands are held too. -/
theorem lostManagementDieStops : Obligations.LostManagementDieStops := by
  unfold Obligations.LostManagementDieStops
  intro i s hoff hwf hpins
  by_cases hmaps : domain i = .maps
  · obtain ⟨n, rfl⟩ | rfl | rfl := eq_of_maps hmaps
    · rw [exec_castlingCommit, if_pos (show n < tileMax from of_decide_eq_true hwf), if_neg (by omega)]
    · rw [exec_n0CommitComplete, if_neg (by omega)]
    · rw [exec_bootEpochTimeout, if_neg (by simp; omega)]
  · have hnot : domain i ≠ .pins := fun h => by simp [(domain_eq_pins_iff i).1 h] at hpins
    exact (exec_of_wf hmaps hwf).resolve_right fun h => Domain.not_on hoff hnot h.1

/-- Settles O1: a step is the meaning of the front of the queue, over the state with the rest. -/
theorem stepRunsFront : Obligations.StepRunsFront := by
  unfold Obligations.StepRunsFront
  intro c s
  rfl

end Sys2Proof.Machine
end

section
/-!
PROOF. The site maps stay sound (01:R30): whoever serves a tile takes a free spare of a rank in reach, so a castling and the maps of a cold
start keep the invariant, and no other command writes the maps.
-/

namespace Sys2Proof

variable {α : Type}

/-- What a table holds after an insertion was there before, or is what was inserted. -/
theorem Tab.mem_insert {t : Tab α} {k : Nat} {v : α} {e : Nat × α} (h : e ∈ Tab.insert t k v) : e = (k, v) ∨ e ∈ t := by
  induction t with
  | nil => exact .inl (List.mem_singleton.1 h)
  | cons f t ih =>
    obtain ⟨i, w⟩ := f
    simp only [Tab.insert] at h
    split at h
    · exact List.mem_cons.1 h
    · split at h
      · exact (List.mem_cons.1 h).imp_right (List.mem_cons_of_mem _)
      · obtain rfl | h := List.mem_cons.1 h
        · exact .inr List.mem_cons_self
        · exact (ih h).imp_right (List.mem_cons_of_mem _)

/-- A number that reads as something else than the default is listed with what it reads as. -/
theorem Tab.mem_of_get_ne {d : α} {t : Tab α} {k : Nat} (h : Tab.get d t k ≠ d) : (k, Tab.get d t k) ∈ t := by
  induction t with
  | nil => exact absurd rfl h
  | cons f t ih =>
    obtain ⟨i, w⟩ := f
    by_cases hi : i = k
    · simp [Tab.get, hi]
    · simp only [Tab.get, if_neg hi] at h ⊢
      exact List.mem_cons_of_mem _ (ih h)

end Sys2Proof

namespace Sys2Proof.Machine

open Sys2Proof

/-- A tile may be served by the spare that the entry names: it is of the tile's rank or of an adjacent one. -/
theorem Sites.entryOk_iff {e : Nat × Nat} :
    Sites.entryOk e = true ↔ e.1 < 6144 ∧ e.2 % 9 = 0 ∧ 9 ≤ e.2 ∧ e.2 ≤ 144 ∧ e.2 / 9 ≤ rankOf e.1 + 2 ∧ rankOf e.1 ≤ e.2 / 9 := by
  simp only [Sites.entryOk, rankOf, Bool.and_eq_true, decide_eq_true_eq, and_assoc]

theorem Sites.sound_iff {z : Sites} :
    z.sound = true ↔ Tab.wf 0 z.moved = true ∧ (∀ e ∈ z.moved, Sites.entryOk e = true)
      ∧ ∀ a ∈ z.moved, ∀ b ∈ z.moved, a.1 = b.1 ∨ a.1 / 128 ≠ b.1 / 128 ∨ a.2 ≠ b.2 := by
  simp only [Sites.sound, Bool.and_eq_true, List.all_eq_true, Bool.or_eq_true, decide_eq_true_eq, and_assoc, or_assoc]

/-- A free spare serves no tile of its C-die. -/
theorem Sites.not_served_of_spareFree {z : Sites} {die r : Nat} (h : z.spareFree die r = true) :
    r < 16 ∧ ∀ e ∈ z.moved, e.1 / 128 = die → e.2 ≠ r * 9 + 9 := by
  simp only [Sites.spareFree, Bool.and_eq_true, decide_eq_true_eq, List.all_eq_true, Bool.not_eq_true', Bool.and_eq_false_iff,
    decide_eq_false_iff_not] at h
  obtain ⟨⟨⟨hr, _⟩, _⟩, hfree⟩ := h
  exact ⟨hr, fun e he hdie => (hfree e he).resolve_left (not_not_intro hdie)⟩

/-- A tile that takes a free spare of a rank in reach leaves the maps sound. -/
theorem Sites.sound_insert {z y : Sites} {t r : Nat} (hz : z.sound = true) (ht : t < 6144) (hlow : rankOf t ≤ r + 1) (hhigh : r ≤ rankOf t + 1)
    (hfree : z.spareFree (t / 128) r = true) (hy : y.moved = Tab.insert z.moved t (r * 9 + 9)) : y.sound = true := by
  obtain ⟨hwf, hok, hone⟩ := Sites.sound_iff.1 hz
  obtain ⟨hr, hnot⟩ := Sites.not_served_of_spareFree hfree
  rw [Sites.sound_iff, hy]
  refine ⟨Tab.insert_wf 0 _ _ _ hwf (by omega), fun e he => ?_, fun a ha b hb => ?_⟩
  · obtain rfl | he := Tab.mem_insert he
    · refine Sites.entryOk_iff.2 ?_
      dsimp only
      omega
    · exact hok e he
  · obtain rfl | ha := Tab.mem_insert ha
    · obtain rfl | hb := Tab.mem_insert hb
      · exact .inl rfl
      · by_cases hdie : b.1 / 128 = t / 128
        · exact .inr (.inr (hnot b hb hdie).symm)
        · exact .inr (.inl (Ne.symm hdie))
    · obtain rfl | hb := Tab.mem_insert hb
      · by_cases hdie : a.1 / 128 = t / 128
        · exact .inr (.inr (hnot a ha hdie))
        · exact .inr (.inl hdie)
      · exact hone a ha b hb

/-- Serving a tile from ranks in reach keeps the maps sound. -/
theorem Sites.sound_serve {z y : Sites} {t : Nat} {ranks : List Nat} (hz : z.sound = true) (ht : t < 6144)
    (hreach : ∀ r ∈ ranks, rankOf t ≤ r + 1 ∧ r ≤ rankOf t + 1) (hy : z.serve t ranks = some y) : y.sound = true := by
  simp only [Sites.serve, Option.map_eq_some_iff] at hy
  obtain ⟨r, hr, rfl⟩ := hy
  obtain ⟨hlow, hhigh⟩ := hreach r (List.mem_of_find?_eq_some hr)
  exact Sites.sound_insert hz ht hlow hhigh (List.find?_some hr) rfl

/-- The spares that a castling may choose are in reach (13:R408). -/
theorem reach_of_mem_spareRanks {t r : Nat} (h : r ∈ spareRanks t) : rankOf t ≤ r + 1 ∧ r ≤ rankOf t + 1 := by
  obtain rfl | ⟨_, rfl⟩ | ⟨_, rfl⟩ := mem_spareRanks.1 h
  · omega
  · omega
  · omega

/-- A cold start looks at the same ranks, in another order (01:R30). -/
theorem mem_lowRanks {t r : Nat} : r ∈ lowRanks t ↔ r ∈ spareRanks t := by
  simp only [lowRanks, spareRanks, List.mem_append, or_comm (a := r ∈ if rankOf t = 0 then [] else [rankOf t - 1])]

/-- A site that fails moves no tile. -/
theorem Sites.sound_fail {z : Sites} (h : z.sound = true) (t : Nat) : (z.fail t).sound = true := h

/-- A cold start serves each tile in turn, where a spare is free. -/
theorem Sites.sound_serveAll {ts : List Nat} (hts : ∀ t ∈ ts, t < 6144) {z : Sites} (hz : z.sound = true) : (z.serveAll ts).sound = true := by
  refine List.foldlRecOn (motive := fun y : Sites => y.sound = true) ts _ hz fun y hy t ht => ?_
  cases hserve : y.serve t (lowRanks t) with
  | none => exact hy
  | some x => exact Sites.sound_serve hy (hts t ht) (fun r hr => reach_of_mem_spareRanks (mem_lowRanks.1 hr)) hserve

/-- The maps of a cold start are sound, whatever the self-test finds (17:R522). -/
theorem Sites.sound_cold (z : Sites) (o : ColdObs) : (z.cold o).sound = true := by
  have htiles : ∀ t ∈ (z.tested o).homeless, t < 6144 := fun t ht => List.mem_range.1 (List.mem_filter.1 ht).1
  have htested : (z.tested o).sound = true := rfl
  exact Sites.sound_serveAll htiles htested

theorem sound_castlingCommit {s : State} {t : Nat} (ht : t < 6144) (h : s.sites.sound = true) : (castlingCommit s t).sites.sound = true := by
  unfold castlingCommit
  split
  · exact h
  · split
    · exact h
    · split
      · next hz => exact Sites.sound_serve (Sites.sound_fail h t) ht (fun r => reach_of_mem_spareRanks) hz
      · exact Sites.sound_fail h t

/-- A start under way writes the maps of its self-test (17:R522). -/
theorem coldFinish_sites {s : State} {o : ColdObs} (h : s.pkg.fw.cold = some o) :
    (coldFinish s).sites = s.sites.cold (o.withMap s.pkg.fw.n0.map) := by
  simp only [coldFinish, h]

theorem sound_coldFinish {s : State} (h : s.sites.sound = true) : (coldFinish s).sites.sound = true := by
  cases hcold : s.pkg.fw.cold with
  | none => simpa only [coldFinish, hcold] using h
  | some o =>
    rw [coldFinish_sites hcold]
    exact Sites.sound_cold _ _

/-- Every command keeps the site maps sound. -/
theorem sound_exec {i : Instr} {s t : State} (h : s.sites.sound = true) (ht : exec i s = .next t) : t.sites.sound = true := by
  by_cases hmaps : domain i = .maps
  · obtain ⟨hsites, _⟩ | ⟨n, hn, _, rfl⟩ | ⟨_, _, k, rfl⟩ := exec_of_maps hmaps ht
    · rw [hsites]
      exact h
    · exact sound_castlingCommit hn h
    · exact sound_coldFinish h
  · rw [(exec_frame hmaps ht).1]
    exact h

/-- Settles O6: a step runs a command, which keeps the maps sound, or lets a nanosecond pass, which leaves them. -/
theorem siteMapSoundEachStep : Obligations.SiteMapSoundEachStep := by
  unfold Obligations.SiteMapSoundEachStep
  intro s t h ht
  unfold step at ht
  split at ht
  · next c rest _ => exact sound_exec (s := { s with pending := rest }) h ht
  · cases ht
    exact h

/-- Settles O5: at reset no tile has moved. -/
theorem siteMapSoundAtReset : Obligations.SiteMapSoundAtReset := by
  unfold Obligations.SiteMapSoundAtReset
  exact ⟨rfl, fun _ => rfl⟩

/-- A tile stands at its manufacture site, or a spare in reach serves it and the map lists it. -/
theorem Sites.siteOf_cases {z : Sites} (hz : z.sound = true) (t : Nat) :
    z.siteOf t = rankOf t * 9 + t % 8
      ∨ ((t, z.siteOf t + 1) ∈ z.moved ∧ z.siteOf t % 9 = 8 ∧ z.siteOf t < 144 ∧ z.siteOf t / 9 ≤ rankOf t + 1 ∧ rankOf t ≤ z.siteOf t / 9 + 1) := by
  obtain ⟨_, hok, _⟩ := Sites.sound_iff.1 hz
  unfold Sites.siteOf
  split
  · exact .inl rfl
  · next k hk =>
    have hmem : (t, Tab.get 0 z.moved t) ∈ z.moved := Tab.mem_of_get_ne (by omega)
    rw [hk] at hmem
    obtain ⟨_, hmod, hpos, hlt, hhigh, hlow⟩ := Sites.entryOk_iff.1 (hok _ hmem)
    dsimp only at hmod hpos hlt hhigh hlow
    exact .inr ⟨hmem, by omega, by omega, by omega, by omega⟩

/-- Settles O7: an unmoved tile stands on its own file, a moved one on a spare in reach, and a spare serves one tile of its C-die. -/
theorem siteMapInvariants : Obligations.SiteMapInvariants := by
  unfold Obligations.SiteMapInvariants
  intro z hz
  obtain ⟨_, _, hone⟩ := Sites.sound_iff.1 hz
  refine ⟨fun t u ht hu hdie hsite => ?_, fun t ht => ?_⟩
  · obtain htsite | ⟨htmem, htspare, _⟩ := Sites.siteOf_cases hz t
    · obtain husite | ⟨_, huspare, _⟩ := Sites.siteOf_cases hz u
      · simp only [rankOf] at htsite husite
        omega
      · omega
    · obtain husite | ⟨humem, _⟩ := Sites.siteOf_cases hz u
      · omega
      · obtain heq | hne | hne := hone _ htmem _ humem
        · exact heq
        · exact absurd hdie hne
        · exact absurd (congrArg (· + 1) hsite) hne
  · obtain hsite | ⟨_, hspare, hlt, hhigh, hlow⟩ := Sites.siteOf_cases hz t
    · simp only [rankOf] at hsite
      omega
    · simp only [rankOf] at hhigh hlow
      omega

end Sys2Proof.Machine
end

section
/-!
PROOF. A value that a format has is delivered as its own code (02:R48 to R52, R60, R61, R74). A code of a format but I8 is its sign, exponent
and significand field; the value that they name lies on its own grid and within the range, so rounding, overflow and packing give the
fields back.
-/

namespace Sys2Proof

/-- The exponent field and the significand field of a code (02:R48). -/
def fmtExpField (c raw : Nat) : Nat := raw / 2 ^ fmtMant c % 2 ^ fmtExp c
def fmtFrac (c raw : Nat) : Nat := raw % 2 ^ fmtMant c

/-- The top exponent of finite codes, and the largest significand there (02:R48, R50). -/
def fmtLast (c : Nat) : Nat := 2 ^ fmtExp c - (if fmtIeee c then 2 else 1)
def fmtTop (c : Nat) : Nat := 2 ^ (fmtMant c + 1) - (if c = 4 then 2 else 1)

/-- The exponent of the grid on which the codes of an exponent field lie; field 0 shares that of field 1 (02:R49). -/
def fmtGrid (c x : Nat) : Int := (max x 1 : Nat) - (fmtBias c : Int) - fmtMant c

/-- The significand with its hidden bit (02:R49). -/
def fmtSig (c raw : Nat) : Nat := (if fmtExpField c raw = 0 then 0 else 2 ^ fmtMant c) + fmtFrac c raw

section
variable {c : Nat} (hc : c < 8)
include hc

/-- Sign, exponent and significand fill the width (02:R48). -/
theorem fmtWidth_eq : fmtWidth c = fmtExp c + fmtMant c + 1 := by
  exact (by decide : ∀ c < 8, fmtWidth c = fmtExp c + fmtMant c + 1) c hc

theorem fmtExp_pos : 1 ≤ fmtExp c := by
  exact (by decide : ∀ c < 8, 1 ≤ fmtExp c) c hc

/-- The value of the largest finite code (02:R48). -/
theorem decodeFmt_max : decodeFmt c (fmtMaxRaw c) = .fin false (fmtTop c) (fmtGrid c (fmtLast c)) := by
  exact (by decide +kernel : ∀ c < 8, decodeFmt c (fmtMaxRaw c) = .fin false (fmtTop c) (fmtGrid c (fmtLast c))) c hc

theorem two_pow_le_fmtTop : 2 ^ fmtMant c ≤ fmtTop c := by
  exact (by decide : ∀ c < 8, 2 ^ fmtMant c ≤ fmtTop c) c hc

theorem bits_exponent (raw : Nat) : bits raw (fmtWidth c - 2) (fmtMant c) = fmtExpField c raw := by
  have := fmtExp_pos hc
  have hw : fmtWidth c - 2 + 1 - fmtMant c = fmtExp c := by rw [fmtWidth_eq hc]; omega
  rw [bits, hw, Nat.shiftRight_eq_div_pow, fmtExpField]

/-- A code is its three fields. -/
theorem code_eq_fields {raw : Nat} (hraw : raw < 2 ^ fmtWidth c) :
    raw = (if bit raw (fmtWidth c - 1) then 2 ^ (fmtWidth c - 1) else 0) + (fmtExpField c raw * 2 ^ fmtMant c + fmtFrac c raw) := by
  have hw := fmtWidth_eq hc
  have hlow : fmtExpField c raw * 2 ^ fmtMant c + fmtFrac c raw = raw % 2 ^ (fmtWidth c - 1) := by
    rw [hw, Nat.add_sub_cancel, Nat.add_comm (fmtExp c), Nat.pow_add, Nat.mod_mul, fmtExpField, fmtFrac, Nat.mul_comm, Nat.add_comm]
  have hhigh : raw / 2 ^ (fmtWidth c - 1) < 2 := by
    rw [Nat.div_lt_iff_lt_mul (Nat.two_pow_pos _), ← Nat.pow_succ', hw]
    rwa [hw] at hraw
  have hdiv := Nat.div_add_mod raw (2 ^ (fmtWidth c - 1))
  rw [hlow, bit, Nat.shiftRight_eq_div_pow]
  obtain h | h : raw / 2 ^ (fmtWidth c - 1) = 0 ∨ raw / 2 ^ (fmtWidth c - 1) = 1 := by
    generalize raw / 2 ^ (fmtWidth c - 1) = q at hhigh
    omega
  all_goals
    rw [h] at hdiv ⊢
    simp only [Nat.mul_zero, Nat.mul_one, Nat.zero_mod, Nat.one_mod, decide_true, decide_false, if_true, if_false, Nat.zero_ne_one, Nat.zero_add,
      Bool.false_eq_true] at hdiv ⊢
    exact hdiv.symm

/-- What a finite value says of its code: the value is that of the fields, its exponent field is not above the last, and there its
significand not above the largest; no code of F4 stands for a negative zero (02:R49, R50). -/
theorem fields_of_decodeFmt {raw m : Nat} {g : Bool} {e : Int} (h : decodeFmt c raw = .fin g m e) :
    g = bit raw (fmtWidth c - 1) ∧ m = fmtSig c raw ∧ e = fmtGrid c (fmtExpField c raw)
      ∧ fmtExpField c raw ≤ fmtLast c ∧ (fmtExpField c raw = fmtLast c → fmtSig c raw ≤ fmtTop c) ∧ (c = 7 → raw % 16 ≠ 8) := by
  have hx : fmtExpField c raw < 2 ^ fmtExp c := Nat.mod_lt _ (Nat.two_pow_pos _)
  have hf : fmtFrac c raw < 2 ^ fmtMant c := Nat.mod_lt _ (Nat.two_pow_pos _)
  simp only [decodeFmt, bits_exponent hc, if_neg (Nat.ne_of_lt hc)] at h
  have hlast : fmtIeee c = true → fmtExpField c raw ≠ 2 ^ fmtExp c - 1 := fun hi hx => by
    rw [hi, hx] at h
    simp only [Bool.true_and, decide_true, if_true] at h
    split at h <;> cases h
  have hA : c = 4 → raw % 128 ≠ 127 := fun h4 h127 => by
    subst h4
    simp [fmtIeee, h127] at h
  have hF4 : c = 7 → raw % 16 ≠ 8 := fun h7 h8 => by
    subst h7
    simp [fmtIeee, h8] at h
  rw [if_neg (by simpa using hlast), if_neg (by simpa using hA), if_neg (by simpa using hF4)] at h
  have hle : fmtExpField c raw ≤ fmtLast c := by
    rw [fmtLast]
    split
    · next hi => have := hlast hi; omega
    · omega
  have htop : fmtExpField c raw = fmtLast c → fmtSig c raw ≤ fmtTop c := fun hx => by
    by_cases h4 : c = 4
    · subst h4
      have h127 := hA rfl
      have hx : raw / 8 % 16 = 15 := hx
      show (if raw / 8 % 16 = 0 then 0 else 8) + raw % 8 ≤ 14
      rw [if_neg (by omega)]
      omega
    · have hpow : 2 ^ (fmtMant c + 1) = 2 * 2 ^ fmtMant c := Nat.pow_succ'
      rw [fmtSig, fmtTop, if_neg h4]
      split <;> omega
  refine and_assoc.1 (and_assoc.1 ⟨?_, hle, htop, hF4⟩)
  unfold fmtSig fmtGrid
  split at h
  · next hx =>
    cases h
    simp [hx, fmtFrac]
  · next hx =>
    cases h
    simp [hx, fmtFrac, Nat.max_eq_left (Nat.one_le_iff_ne_zero.2 hx)]

/-- The value of a code lies on its own grid (02:R60). -/
theorem gridOf_code {raw : Nat} (hm : fmtSig c raw ≠ 0) : gridOf c (fmtSig c raw) (fmtGrid c (fmtExpField c raw)) = fmtGrid c (fmtExpField c raw) := by
  have hf : fmtFrac c raw < 2 ^ fmtMant c := Nat.mod_lt _ (Nat.two_pow_pos _)
  by_cases hx : fmtExpField c raw = 0
  · have hlog : Nat.log2 (fmtFrac c raw) < fmtMant c := (Nat.log2_lt (by simpa [fmtSig, hx] using hm)).2 hf
    simp only [gridOf, fmtSig, fmtGrid, hx, if_pos, if_neg (Nat.ne_of_lt hc)]
    simp only [Nat.zero_add, Nat.zero_max]
    rw [if_pos (by omega)]
    omega
  · have hlog : Nat.log2 (2 ^ fmtMant c + fmtFrac c raw) = fmtMant c := by
      rw [Nat.log2_eq_iff (by have := Nat.two_pow_pos (fmtMant c); omega), Nat.pow_succ]
      omega
    simp only [gridOf, fmtSig, fmtGrid, if_neg hx, hlog, if_neg (Nat.ne_of_lt hc)]
    rw [if_neg (by omega)]
    omega

omit hc in
/-- On its own grid a value is exact (02:R60). -/
theorem roundGrid_self (neg : Bool) (m : Nat) (q : Int) : roundGrid .rne neg m q false q = { t := m, q := q, inexact := false } := by
  simp [roundGrid]

/-- No finite code lies above the largest. -/
theorem not_overflow {x m : Nat} (hx : x ≤ fmtLast c) (hm : m < 2 ^ (fmtMant c + 1)) (htop : x = fmtLast c → m ≤ fmtTop c) :
    magLt (fmtTop c) (fmtGrid c (fmtLast c)) m (fmtGrid c x) = false := by
  have hlast : 2 ≤ fmtLast c := (by decide : ∀ c < 8, 2 ≤ fmtLast c) c hc
  have hpow : 2 ^ (fmtMant c + 1) = 2 * 2 ^ fmtMant c := Nat.pow_succ'
  have htwo := two_pow_le_fmtTop hc
  unfold magLt
  split
  · next h =>
    have hxe : x = fmtLast c := by simp only [fmtGrid] at h; omega
    subst hxe
    simpa using htop rfl
  · next h =>
    have hshift : 2 * fmtTop c ≤ fmtTop c <<< (fmtGrid c (fmtLast c) - fmtGrid c x).toNat := by
      rw [Nat.shiftLeft_eq, Nat.mul_comm]
      refine Nat.mul_le_mul_left _ ((?_ : 2 ^ 1 ≤ _))
      exact Nat.pow_le_pow_right (by omega) (by omega)
    simp only [decide_eq_false_iff_not]
    omega

omit hc in
/-- A value with the hidden bit is not below the smallest normal one (02:R74). -/
theorem not_tiny_of_hidden {x m : Nat} (hm : 2 ^ fmtMant c ≤ m) : magLt m (fmtGrid c x) 1 (1 - (fmtBias c : Int)) = false := by
  unfold magLt
  split
  · next h =>
    have hpow : 1 <<< (1 - (fmtBias c : Int) - fmtGrid c x).toNat ≤ 2 ^ fmtMant c := by
      rw [Nat.one_shiftLeft]
      exact Nat.pow_le_pow_right (by omega) (by simp only [fmtGrid]; omega)
    simp only [decide_eq_false_iff_not]
    omega
  · next h =>
    have hpos : 0 < m <<< (fmtGrid c x - (1 - (fmtBias c : Int))).toNat := by
      rw [Nat.shiftLeft_eq]
      exact Nat.mul_pos (Nat.lt_of_lt_of_le (Nat.two_pow_pos _) hm) (Nat.two_pow_pos _)
    simp only [decide_eq_false_iff_not]
    omega

/-- Packing gives the fields back (02:R48). -/
theorem packMag_code (raw : Nat) : packMag c (fmtSig c raw) (fmtGrid c (fmtExpField c raw)) = fmtExpField c raw * 2 ^ fmtMant c + fmtFrac c raw := by
  have hf : fmtFrac c raw < 2 ^ fmtMant c := Nat.mod_lt _ (Nat.two_pow_pos _)
  have hpow : 2 ^ (fmtMant c + 1) = 2 * 2 ^ fmtMant c := Nat.pow_succ'
  have hsig : ¬ 2 ^ (fmtMant c + 1) ≤ fmtSig c raw := by
    unfold fmtSig
    split <;> omega
  simp only [packMag, if_neg (Nat.ne_of_lt hc), if_neg hsig]
  by_cases hx : fmtExpField c raw = 0
  · rw [if_pos (by simpa [fmtSig, hx] using hf), fmtSig, hx]
    simp
  · have hq : (fmtGrid c (fmtExpField c raw) + fmtMant c + fmtBias c).toNat = fmtExpField c raw := by
      simp only [fmtGrid]
      omega
    rw [fmtSig, if_neg hx, if_neg (by omega), hq, Nat.add_sub_cancel_left, Nat.shiftLeft_eq]

/-- The sign goes to the top bit; no code of F4 is a negative zero (02:R48, R50). -/
theorem packSign_fields {raw : Nat} (hraw : raw < 2 ^ fmtWidth c) (hF4 : c = 7 → raw % 16 ≠ 8) :
    packSign c (bit raw (fmtWidth c - 1)) (fmtExpField c raw * 2 ^ fmtMant c + fmtFrac c raw) = raw := by
  have hcode := code_eq_fields hc hraw
  unfold packSign
  split
  · next hneg =>
    rw [hneg] at hcode
    simpa using hcode.symm
  · next hneg =>
    rw [Bool.not_eq_false] at hneg
    rw [hneg, if_pos rfl] at hcode
    have hzero : ¬ (c = 7 ∧ fmtExpField c raw * 2 ^ fmtMant c + fmtFrac c raw = 0) := fun ⟨h7, h0⟩ => by
      rw [h0] at hcode
      subst h7
      exact hF4 rfl (by rw [hcode]; rfl)
    rw [if_neg (Nat.ne_of_lt hc), if_neg (by simpa using hzero)]
    omega

/-- A finite code of a format but I8 is delivered as itself, unless its value is a subnormal of BF16. -/
theorem deliver_code {raw m : Nat} {g : Bool} {e : Int} (hraw : raw < 2 ^ fmtWidth c) (hdec : decodeFmt c raw = .fin g m e)
    (hsub : ¬ (c = 3 ∧ fmtExpField c raw = 0 ∧ m ≠ 0)) : deliver {} c .rne (.fin g m e) = { raw := raw, fl := {}, van := 0 } := by
  obtain ⟨rfl, rfl, rfl, hlast, htop, hF4⟩ := fields_of_decodeFmt hc hdec
  have hpack := packSign_fields hc hraw hF4
  have hf : fmtFrac c raw < 2 ^ fmtMant c := Nat.mod_lt _ (Nat.two_pow_pos _)
  by_cases hm : fmtSig c raw = 0
  · obtain ⟨hx, hfrac⟩ : fmtExpField c raw = 0 ∧ fmtFrac c raw = 0 := by
      have := Nat.two_pow_pos (fmtMant c)
      unfold fmtSig at hm
      split at hm <;> omega
    rw [hx, hfrac] at hpack
    simpa [deliver, deliverFin, hm] using hpack
  · have hlt : fmtSig c raw < 2 ^ (fmtMant c + 1) := by
      rw [Nat.pow_succ', fmtSig]
      split <;> omega
    have hflush : (flushes {} c && magLt (fmtSig c raw) (fmtGrid c (fmtExpField c raw)) 1 (1 - (fmtBias c : Int))) = false := by
      by_cases h3 : c = 3
      · have hx : fmtExpField c raw ≠ 0 := fun hx => hsub ⟨h3, hx, hm⟩
        rw [not_tiny_of_hidden (by rw [fmtSig, if_neg hx]; omega), Bool.and_false]
      · simp [flushes, h3]
    simp only [deliver, deliverFin, hm, decide_false, Bool.false_and, Bool.false_eq_true, if_false, gridOf_code hc hm, roundGrid_self,
      decodeFmt_max hc, not_overflow hc hlast hlt htop, if_neg (Nat.ne_of_lt hc), hflush, packMag_code hc, hpack, Bool.false_or, Bool.and_false]

end

/-- The rule that BF16 flushes speaks of its exponent field (02:R74). -/
theorem bits_bf16 (raw : Nat) : bits raw 14 7 = fmtExpField 3 raw := bits_exponent (c := 3) (by omega) raw

/-- Codes of I8 are delivered as themselves, but for −128 (02:R52). -/
theorem deliver_i8 : ∀ raw < 256, raw ≠ 128 → deliver {} 8 .rne (decodeFmt 8 raw) = { raw := raw, fl := {}, van := 0 } := by
  decide +kernel

end Sys2Proof

namespace Sys2Proof.Machine

open Sys2Proof

/-- Settles O36: a code of I8 by its 256 values, any other by its fields. -/
theorem deliveryIsExact : Obligations.DeliveryIsExact := by
  unfold Obligations.DeliveryIsExact
  intro c raw g m e hc hraw hdec hbf16 hi8
  obtain h8 | hlt : c = 8 ∨ c < 8 := by omega
  · subst h8
    exact deliver_i8 raw hraw (fun h => hi8 ⟨rfl, h⟩)
  · rw [hdec]
    refine deliver_code hlt hraw hdec fun ⟨h3, hx, hm⟩ => hbf16 ⟨h3, ?_, hm⟩
    subst h3
    rwa [bits_bf16]

end Sys2Proof.Machine
end

section
/-!
PROOF. The test access port (18:R554, R556): its rows act while VAUX is good, and those but BYPASS, IDCODE and TRST_N are BYPASS unless
RESET_N is low.
-/

namespace Sys2Proof

/-- VIN within its range, as the statements write it. -/
theorem Pkg.vinOk_eq (s : Pkg) : s.vinOk = (decide (40000 ≤ s.pins.vin) && decide (s.pins.vin ≤ 60000)) := by
  simp only [Pkg.vinOk, inBounds]

theorem Pkg.vinOk_iff (s : Pkg) : s.vinOk = true ↔ 40000 ≤ s.pins.vin ∧ s.pins.vin ≤ 60000 := by
  rw [s.vinOk_eq, Bool.and_eq_true, decide_eq_true_eq, decide_eq_true_eq]

/-- An instruction that is no BYPASS or IDCODE is loaded in reset, and is BYPASS otherwise (18:R556). -/
theorem Pkg.tapLoad_low {s : Pkg} (h : s.pins.resetLow = true) (f : Pkg → Pkg) : s.tapLoad f = f s := if_pos h

theorem Pkg.tapLoad_high {s : Pkg} (h : s.pins.resetLow = false) (f : Pkg → Pkg) : s.tapLoad f = bypass s := by
  rw [Pkg.tapLoad, h]
  rfl

end Sys2Proof

namespace Sys2Proof.Machine

open Sys2Proof

/-- A row of the test access port acts while VAUX is good. -/
theorem onTap_of_vaux {s : State} (h : s.pkg.fw.vaux = true) (f : Pkg → Pkg) : onTap s f = .next { s with pkg := f s.pkg } := by
  simp [onTap, actAny, h]

theorem onTap_of_no_vaux {s : State} (h : s.pkg.fw.vaux = false) (f : Pkg → Pkg) : onTap s f = .next s := by
  simp [onTap, actAny, h]

/-- A row that loads an instruction gives what the instruction does in reset. -/
theorem onTap_tapLoad_low {s : State} (hvaux : s.pkg.fw.vaux = true) (hlow : s.pkg.pins.resetLow = true) (f : Pkg → Pkg) :
    onTap s (fun k => k.tapLoad f) = .next { s with pkg := f s.pkg } := by
  rw [onTap_of_vaux hvaux, Pkg.tapLoad_low hlow]

theorem onTap_tapLoad_high {s : State} (hvaux : s.pkg.fw.vaux = true) (hhigh : s.pkg.pins.resetLow = false) (f : Pkg → Pkg) :
    onTap s (fun k => k.tapLoad f) = exec .bypass s := by
  rw [exec_bypass, onTap_of_vaux hvaux, onTap_of_vaux hvaux, Pkg.tapLoad_high hhigh]

/-- Settles O9: each row of the port is a change under `onTap`, which VAUX lets act; the seven that load go through `tapLoad`. -/
theorem testPortAlwaysAccepts : Obligations.TestPortAlwaysAccepts := by
  unfold Obligations.TestPortAlwaysAccepts
  refine ⟨fun s => ⟨fun hvaux => ⟨?bypass, ?idcode, ?trst⟩, fun hvaux c dc ac i hi => ?none⟩, fun s c dc ac hvaux => ⟨fun hlow => ?low, fun hhigh i hi => ?high⟩⟩
  case bypass => exact onTap_of_vaux hvaux bypass
  case idcode => exact onTap_of_vaux hvaux idcode
  case trst => exact onTap_of_vaux hvaux trst
  case none =>
    simp only [List.mem_cons, List.not_mem_nil, or_false] at hi
    obtain rfl | rfl | rfl | rfl | rfl | rfl | rfl | rfl | rfl | rfl := hi
    all_goals simp only [exec_bypass, exec_idcode, exec_trstN, exec_clamp, exec_highz, exec_preload, exec_sample, exec_extest, exec_extestPulse,
      exec_extestTrain, onTap_of_no_vaux hvaux]
  case low =>
    refine ⟨fun e he => ?_, ?_, onTap_tapLoad_low hvaux hlow _, fun e he => ?_⟩
    · simp only [List.mem_cons, List.not_mem_nil, or_false] at he
      simp only [← s.pkg.vinOk_iff, ← s.pkg.vinOk_eq]
      obtain rfl | rfl | rfl := he
      all_goals exact onTap_tapLoad_low hvaux hlow _
    · simp only [← s.pkg.vinOk_iff]
      exact onTap_tapLoad_low hvaux hlow _
    · simp only [List.mem_cons, List.not_mem_nil, or_false] at he
      obtain rfl | rfl := he
      all_goals exact onTap_tapLoad_low hvaux hlow _
  case high =>
    simp only [List.mem_cons, List.not_mem_nil, or_false] at hi
    obtain rfl | rfl | rfl | rfl | rfl | rfl | rfl := hi
    all_goals exact onTap_tapLoad_high hvaux hhigh _

end Sys2Proof.Machine
end

section
/-!
PROOF. Commands of the host's queues (14:R433, R434): what the next command to start finds, and the die-store commands, the bytes that they
write and the end of a clear (09:R266).
-/

namespace Sys2Proof

open Sys2Proof.Machine

/-- Taking a command from the queue changes the queue alone. -/
theorem Pkg.part_took (s : Pkg) (p : Nat) (rest : List (List Byte)) :
    (s.took p rest).part p = { s.part p with q := { (s.part p).q with read := rest } } := by
  rw [Pkg.took, Pkg.setQ, Pkg.part_setPart]

@[simp] theorem Pkg.st_took (s : Pkg) (p : Nat) (rest : List (List Byte)) : ((s.took p rest).part p).st = (s.part p).st := by
  rw [Pkg.part_took]

@[simp] theorem Pkg.took_dstore (s : Pkg) (p : Nat) (rest : List (List Byte)) : (s.took p rest).dstore = s.dstore := rfl

/-- The next command to start, of the opcode asked for, is taken and run; then what was read is settled (14:R433). -/
theorem Pkg.withNext_of_nextCmd {s : Pkg} {p op : Nat} {e : List Byte} {rest pre behind : List (List Byte)} (h : s.takes p op e rest)
    (hnext : s.nextCmd p [] (s.part p).q.read = some (pre, e, behind)) (f : Pkg → List (List Byte) → List Byte → Pkg) :
    s.withNext p op f = (f (s.took p (pre ++ behind)) pre e).settled p := by
  obtain ⟨_, _, hserved, _, hop, hflags, hzero⟩ := h
  simp only [Pkg.withNext, hnext, hserved, hop, decide_true, Bool.and_true, if_true, hzero, Bool.not_true, Bool.or_false,
    decide_eq_true_eq, if_neg (Nat.not_lt.2 hflags), Pkg.took]

/-- A command whose fellows before it do not matter. -/
theorem Pkg.withCmd_of_takes {s : Pkg} {p op : Nat} {e : List Byte} {rest : List (List Byte)} (h : s.takes p op e rest) (f : Pkg → List Byte → Pkg) :
    s.withCmd p op f = (f (s.took p rest) e).settled p := by
  obtain ⟨_, _, _, hnext, _⟩ := id h
  obtain ⟨⟨pre, e', behind⟩, hcmd, heq⟩ := Option.map_eq_some_iff.1 hnext
  obtain ⟨rfl, rfl⟩ := Prod.mk.inj heq
  exact Pkg.withNext_of_nextCmd h hcmd fun s _ e => f s e

/-- In a state in which it may be issued, a command has its effect. -/
theorem Pkg.inState_of_mem {s : Pkg} {p op : Nat} {e : List Byte} {sts : List PState} (h : (s.part p).st ∈ sts) (f : Pkg → Pkg) :
    s.inState p op e sts f = f s := if_pos (by simpa using h)

/-- A target frame is named by flag 0 (14:R433). -/
theorem isSome_cmdTarget (e : List Byte) : (cmdTarget e).isSome = bit (byteAt e 1) 0 := by
  unfold cmdTarget
  cases bit (byteAt e 1) 0 <;> rfl

/-- A completion touches its partition and the dictionary, not the die store. -/
@[simp] theorem Pkg.complete_dstore (s : Pkg) (p id op status result : Nat) : (s.complete p id op status result).dstore = s.dstore := by
  simp only [Pkg.complete, Pkg.setEnt_dstore, apply_ite Pkg.dstore, Pkg.setQ_dstore, ite_self]

@[simp] theorem Pkg.settleQ_dstore (p : Nat) (rest : List (List Byte)) : ∀ (s : Pkg) (pre : List (List Byte)),
    (s.settleQ p pre rest).dstore = s.dstore := by
  induction rest with
  | nil => intros; rfl
  | cons e rest ih =>
    intro s pre
    simp only [Pkg.settleQ, apply_ite Pkg.dstore, ih, Pkg.complete_dstore, Pkg.setQ_dstore, ite_self]

@[simp] theorem Pkg.settled_dstore (s : Pkg) (p : Nat) : (s.settled p).dstore = s.dstore := s.settleQ_dstore p _ _

@[simp] theorem Pkg.countWrite_dstore (s : Pkg) (p home a n : Nat) : (s.countWrite p home a n).dstore = s.dstore := by
  simp only [Pkg.countWrite, apply_ite Pkg.dstore, Pkg.bump_dstore, ite_self]

/-- A store reaches the die store as it is given. -/
@[simp] theorem Pkg.dstorePut_dstore (s : Pkg) (a : Nat) (d : List Byte) : (s.dstorePut a d).dstore = s.dstore.writeN a d := rfl

/-- Bytes of the right length need no padding. -/
theorem padTo_of_length {n : Nat} {b : List Byte} (h : b.length = n) : padTo n b = b := by
  subst h
  simp [padTo]

/-- A cleared range reads 0. -/
theorem Mem.read_clear_inside (m : Mem) {a n x : Nat} (hlow : a ≤ x) (hhigh : x < a + n) : (m.clear a n).read x = 0 := by
  induction m with
  | nil => rfl
  | cons c m ih =>
    obtain ⟨i, v⟩ := c
    have ih : Tab.get 0 (m.filter fun c => decide (c.1 < a) || decide (a + n ≤ c.1)) x = 0 := ih
    simp only [Mem.read, Mem.clear, List.filter_cons]
    split
    · next hkept =>
      have hne : i ≠ x := by
        rintro rfl
        simp at hkept
        omega
      rw [Tab.get, if_neg hne, ih]
    · exact ih

/-- A clear leaves the bytes outside its range. -/
theorem Mem.read_clear_outside (m : Mem) {a n x : Nat} (h : x < a ∨ a + n ≤ x) : (m.clear a n).read x = m.read x :=
  Tab.get_filter 0 (fun i => decide (i < a) || decide (a + n ≤ i)) m x (by simpa using h)

/-- The end of a clear notes itself in the partitions that wait for it: of the die store it changes the window alone (09:R266). -/
theorem clearDone_dstore {s : Pkg} {d : Nat} (h : (s.sdie d).clearing = true) :
    (clearDone s d).dstore = s.dstore.clear (d * 0x80000000) 0x50000000 := by
  simp only [clearDone, h, Bool.not_true, Bool.false_eq_true, if_false]
  refine (Pkg.foldl_keeps Pkg.dstore (fun k p => ?_) _ _).trans rfl
  split
  · rfl
  · split
    · simp only [apply_ite Pkg.dstore, Pkg.complete_dstore, Pkg.setPart_dstore, ite_self]
    · rfl

/-- A fold each of whose steps leaves the start as it is gives the start. -/
theorem foldl_eq_self {α β : Type} {f : α → β → α} {s : α} {l : List β} (h : ∀ x ∈ l, f s x = s) : l.foldl f s = s := by
  induction l with
  | nil => rfl
  | cons x l ih => rw [List.foldl_cons, h x List.mem_cons_self, ih fun y hy => h y (List.mem_cons_of_mem _ hy)]

/-- A die for which no partition waits is cleared, and nothing else happens. -/
theorem clearDone_of_unawaited {s : Pkg} {d : Nat} (h : (s.sdie d).clearing = true) (hnone : ∀ q, q < 16 → d ∉ (s.part q).clearing) :
    clearDone s d = ({ s.setSdie d { s.sdie d with clearing := false, lost := [] } with
      dstore := s.dstore.clear (d * 0x80000000) 0x50000000 }).invalidate
        ((s.cached.filter (fun (e : Nat × Nat) => decide (e.1 * 64 / 0x80000000 = d))).map (fun (e : Nat × Nat) => e.1)) := by
  simp only [clearDone, h, Bool.not_true, Bool.false_eq_true, if_false]
  exact foldl_eq_self fun q hq => if_pos (show (!(s.part q).clearing.contains d) = true by simpa using hnone q (List.mem_range.1 hq))

end Sys2Proof

namespace Sys2Proof.Machine

open Sys2Proof

/-- On a package that is on, a command of existing units gives what its change makes of the package. -/
theorem gives_act {i : Instr} {s : State} {u : Bool} {f : Pkg → Pkg} (hexec : exec i s = act u s f) (hu : u = true) (hon : s.pkg.fw.off = 0) :
    Gives i s (f s.pkg) := hexec.trans (act_on f hu hon)

/-- DSTORE_WRITE in loading: the command is taken, its operands are checked, and its data are read (14:R434). -/
theorem dstoreWrite_of_loading {s : Pkg} {p : Nat} {e : List Byte} {rest : List (List Byte)} (h : s.takes p 2 e rest)
    (hst : (s.part p).st = .loading) (d : DmaRes) :
    dstoreWrite s p d =
      (if !((s.took p rest).dsOperand p e 64 0x40000000) then (s.took p rest).fail p 2 e stBadOperand
      else (s.took p rest).withData p 2 e (fld e 32 4) d fun k b whole =>
        let k := (k.countWrite p 48 (fld e 24 8) b.length).dstorePut (fld e 24 8) b
        if whole then k.fail p 2 e stOK else k).settled p := by
  rw [dstoreWrite, Pkg.withCmd_of_takes h, Pkg.inState_of_mem (by simp [hst])]

/-- DSTORE_READ in one of its states, of good operands. -/
theorem dstoreRead_of_takes {s : Pkg} {p : Nat} {e : List Byte} {rest : List (List Byte)} (h : s.takes p 3 e rest)
    (hst : (s.part p).st ∈ [PState.loading, .ready, .holding, .faulted, .running, .checkpointing])
    (hop : (s.took p rest).dsOperand p e 64 0x40000000 = true) :
    dstoreRead s p =
      (if (s.part p).st == .running || (s.part p).st == .checkpointing then
        (s.took p rest).queueInput p
          { kind := 4, target := cmdTarget e, cmd := cmdId e, op := 3, addr := fld e 24 8, host := fld e 16 8, len := fld e 32 4
            targeted := bit (byteAt e 1) 0 }
      else (((s.took p rest).countRead p (fld e 32 4)).hostDma p (cmdId e) (fld e 16 8)
        ((s.took p rest).dsBytes (fld e 24 8) (fld e 32 4))).complete p (cmdId e) 3 stOK (s.part p).mem.n).settled p := by
  rw [dstoreRead, Pkg.withCmd_of_takes h, Pkg.inState_of_mem (by simpa using hst)]
  simp only [hop, Bool.not_true, Bool.false_eq_true, if_false, isSome_cmdTarget, Pkg.part_took]

/-- On a package that is on, the end of a die's clear. -/
theorem gives_dstoreClearDone {s : State} {d : Nat} (hd : d < 48) (hon : s.pkg.fw.off = 0) : Gives (.dstoreClearDone d) s (clearDone s.pkg d) :=
  gives_act (exec_dstoreClearDone d s) (decide_eq_true hd) hon

theorem gives_dstoreWrite {s : State} {p : Nat} (hp : p < 16) (hon : s.pkg.fw.off = 0) (d : DmaRes) :
    Gives (.dstoreWrite p d) s (dstoreWrite s.pkg p d) := gives_act (exec_dstoreWrite p d s) (decide_eq_true hp) hon

theorem gives_dstoreRead {s : State} {p : Nat} (hp : p < 16) (hon : s.pkg.fw.off = 0) : Gives (.dstoreRead p) s (dstoreRead s.pkg p) :=
  gives_act (exec_dstoreRead p s) (decide_eq_true hp) hon

/-- Settles O20: each command is taken, finds its state and its operands, and does what its definition then says. -/
theorem storeCommands : Obligations.StoreCommands := by
  unfold Obligations.StoreCommands
  intro s p e rest k a n
  refine ⟨fun h hst => ⟨fun hop b => ?write, fun hop d => ?refused⟩, fun h hop => ⟨fun hst => ?read, fun hst => ?readTick⟩,
    fun h hst hop b => ?input, fun d hd hon => ⟨fun hc => ?notClearing, fun hc hnone => ?cleared⟩⟩
  case write =>
    obtain ⟨hp, hon, _⟩ := id h
    have hop : (s.pkg.took p rest).dsOperand p e 64 0x40000000 = true := hop
    have hgives := gives_dstoreWrite hp hon
    simp only [dstoreWrite_of_loading h hst, hop] at hgives
    exact ⟨hgives (.ok b), hgives (.abandoned b), fun c => hgives (.error c)⟩
  case refused =>
    obtain ⟨hp, hon, _⟩ := id h
    have hop : (s.pkg.took p rest).dsOperand p e 64 0x40000000 = false := hop
    have hgives := gives_dstoreWrite hp hon d
    rw [dstoreWrite_of_loading h hst, hop] at hgives
    exact hgives
  case read =>
    obtain ⟨hp, hon, _⟩ := id h
    have hgives := gives_dstoreRead hp hon
    have hnot : ((s.pkg.part p).st == .running || (s.pkg.part p).st == .checkpointing) = false := by
      simp only [List.mem_cons, List.not_mem_nil, or_false] at hst
      obtain h | h | h | h := hst <;> rw [h] <;> rfl
    rw [dstoreRead_of_takes h (List.mem_append_left [PState.running, .checkpointing] hst) hop, hnot] at hgives
    exact hgives
  case readTick =>
    obtain ⟨hp, hon, _⟩ := id h
    have hgives := gives_dstoreRead hp hon
    have htick : ((s.pkg.part p).st == .running || (s.pkg.part p).st == .checkpointing) = true := by
      simp only [List.mem_cons, List.not_mem_nil, or_false] at hst
      obtain h | h := hst <;> rw [h] <;> rfl
    rw [dstoreRead_of_takes h (List.mem_append_right [PState.loading, .ready, .holding, .faulted] hst) hop, htick] at hgives
    exact hgives
  case input =>
    obtain ⟨hp, hon, _⟩ := id h
    have hgives := gives_act (exec_inputWrite p (.ok b) s) (decide_eq_true hp) hon
    have hop : (s.pkg.took p rest).dsOperand p e 1 65536 = true := hop
    rw [inputWrite, Pkg.withCmd_of_takes h, Pkg.inState_of_mem (by simpa using hst), hop, isSome_cmdTarget] at hgives
    exact hgives
  case notClearing =>
    have hgives := gives_dstoreClearDone hd hon
    simpa [Gives, clearDone, hc] using hgives
  case cleared =>
    rw [← clearDone_of_unawaited hc hnone]
    exact gives_dstoreClearDone hd hon

/-- Settles O21: what the die store holds after a write and after a clear, for the operation and for the commands that use it. -/
theorem storeBytes : Obligations.StoreBytes := by
  unfold Obligations.StoreBytes
  have put (m : Mem) (a : Nat) (b : List Byte) : (∀ i, i < b.length → (m.writeN a b).read (a + i) = b.getD i 0)
      ∧ ∀ x, x < a ∨ a + b.length ≤ x → (m.writeN a b).read x = m.read x :=
    ⟨fun i hi => by rw [Mem.read_writeN_inside m a b i hi, List.getD_eq_getElem?_getD, List.getElem?_eq_getElem hi, Option.getD_some], fun x => Mem.read_writeN_outside m a x b⟩
  refine ⟨fun k a b => ⟨(put k.dstore a b).1, (put k.dstore a b).2, Mem.writeN_wf k.dstore a b⟩, fun s p e rest b h hst hop hlen => ?write,
    fun s d hd hon hc hwf => ?clear⟩
  case write =>
    obtain ⟨hp, hon, _⟩ := id h
    refine ⟨_, gives_dstoreWrite hp hon (.ok b), ?_⟩
    simp only [dstoreWrite_of_loading h hst, hop, Bool.not_true, Bool.false_eq_true, if_false, Pkg.withData, if_true, Pkg.fail, Pkg.settled_dstore,
      Pkg.complete_dstore, Pkg.dstorePut_dstore, Pkg.countWrite_dstore, Pkg.took_dstore, padTo_of_length hlen]
    rw [← hlen]
    exact put _ _ _
  case clear =>
    refine ⟨_, gives_dstoreClearDone hd hon, ?_⟩
    simp only [clearDone_dstore hc]
    exact ⟨Mem.clear_wf _ _ _ hwf, fun x hdie hoff => Mem.read_clear_inside _ (by omega) (by omega),
      fun x hout => Mem.read_clear_outside _ (by omega)⟩

end Sys2Proof.Machine
end

section
/-!
PROOF. The queue registers of a virtual function, doorbells and completions (14:R432, R433, R436), and the commands that are refused for
the partition's state or for their opcode (14:R434, R435).
-/

namespace Sys2Proof

open Sys2Proof.Machine

section
variable {α : Type}

/-- Of two insertions at one number the later stands. -/
theorem Tab.insert_insert (t : Tab α) (k : Nat) (v w : α) : Tab.insert (Tab.insert t k v) k w = Tab.insert t k w := by
  induction t with
  | nil => simp [Tab.insert]
  | cons e t ih =>
    obtain ⟨i, u⟩ := e
    simp only [Tab.insert]
    split
    · simp [Tab.insert]
    · split
      · simp [Tab.insert]
      · next hlt heq => simp [Tab.insert, hlt, heq, ih]

/-- An insertion at a number that is then removed leaves nothing. -/
theorem Tab.erase_insert (t : Tab α) (k : Nat) (v : α) : Tab.erase (Tab.insert t k v) k = Tab.erase t k := by
  induction t with
  | nil => simp [Tab.insert, Tab.erase]
  | cons e t ih =>
    obtain ⟨i, u⟩ := e
    simp only [Tab.insert]
    split
    · simp [Tab.erase]
    · split
      · next heq => simp [Tab.erase, heq]
      · next heq => simp [Tab.erase, heq, ih]

/-- Of two writes the later stands, where the first left an entry. -/
theorem Tab.set_set [DecidableEq α] {d : α} (t : Tab α) (k : Nat) {v : α} (w : α) (h : v ≠ d) :
    Tab.set d (Tab.set d t k v) k w = Tab.set d t k w := by
  simp only [Tab.set, if_neg h, Tab.insert_insert, Tab.erase_insert]

end

/-- Of two changes of a partition's queue the later stands, where the first left a queue that is not as at reset. -/
theorem Pkg.setQ_setQ (s : Pkg) (p : Nat) {q : Queue} (r : Queue) (h : q ≠ {}) : (s.setQ p q).setQ p r = s.setQ p r := by
  have hpart : ({ s.part p with q := q } : Part) ≠ {} := fun he => h (congrArg Part.q he)
  simp only [Pkg.setQ, Pkg.part_setPart]
  simp only [Pkg.setPart, Tab.set_set _ _ _ hpart]

@[simp] theorem Pkg.part_setQ (s : Pkg) (p : Nat) (q : Queue) : (s.setQ p q).part p = { s.part p with q := q } := by
  rw [Pkg.setQ, Pkg.part_setPart]

/-- What leaves the partitions as they are leaves each as it is. -/
theorem Pkg.part_of_parts {s k : Pkg} (h : k.parts = s.parts) (p : Nat) : k.part p = s.part p := by rw [Pkg.part, h, Pkg.part]

@[simp] theorem Pkg.bump_parts (s : Pkg) (i j n : Nat) : (s.bump i j n).parts = s.parts :=
  have h := congrArg Pkg.parts (s.bare_bump i j n)
  h

@[simp] theorem Pkg.raise_parts (s : Pkg) (code part : Nat) (items : List Nat) (raw : List Byte) : (s.raise code part items raw).parts = s.parts :=
  have h := congrArg Pkg.parts (s.bare_raise code part items raw)
  h

/-- A completion stands last among those that wait, where its command was read after the last reset of the queue (18:R553). -/
theorem Pkg.part_complete (s : Pkg) (p id op status result : Nat) :
    (s.complete p id op status result).part p = { s.part p with q := { (s.part p).q with
      wait := (s.part p).q.wait ++ if id / 2 ^ 32 = (s.part p).q.gen then [natLe 4 id ++ natLe 2 status ++ natLe 1 0 ++ natLe 1 op ++ natLe 8 result]
        else [] } } := by
  simp only [Pkg.complete]
  split
  · exact (Pkg.part_of_parts (Pkg.setEnt_parts _ _ _ _) p).trans (s.part_setQ p _)
  · rw [List.append_nil]
    exact Pkg.part_of_parts (Pkg.setEnt_parts _ _ _ _) p

/-- A reserved opcode completes BAD_OPERAND and is gone (14:R435). -/
theorem Pkg.settleQ_reserved (s : Pkg) (p : Nat) (pre : List (List Byte)) {f : List Byte} (more : List (List Byte)) (h : byteAt f 0 ∉ hostOps) :
    s.settleQ p pre (f :: more) = ((s.took p (pre ++ more)).complete p (cmdId f) (byteAt f 0) 2 0).settleQ p pre more := by
  rw [Pkg.settleQ, if_neg (by simpa using h)]
  rfl

/-- A command of the table waits, or is the next to start. -/
theorem Pkg.settleQ_hostOp (s : Pkg) (p : Nat) (pre : List (List Byte)) {e : List Byte} (rest : List (List Byte)) (h : byteAt e 0 ∈ hostOps) :
    s.settleQ p pre (e :: rest) = if s.cmdHeld p pre e then s.settleQ p (pre ++ [e]) rest else s := by
  rw [Pkg.settleQ, if_pos (by simpa using h)]

/-- A command waits of itself where none waits before it. -/
theorem Pkg.cmdHeld_nil (s : Pkg) (p : Nat) (e : List Byte) : s.cmdHeld p [] e = s.cmdWaits p e := by
  simp [Pkg.cmdHeld]

/-- In any other state a command completes BAD_STATE (14:R435). -/
theorem Pkg.inState_of_notMem {s : Pkg} {p op : Nat} {e : List Byte} {sts : List PState} (h : (s.part p).st ∉ sts) (f : Pkg → Pkg) :
    s.inState p op e sts f = s.complete p (cmdId e) op 1 0 := if_neg (by simpa using h)

/-- So does a command that is taken in a state in which it may not be issued; it has no other effect. -/
theorem Pkg.withNext_inState_of_notMem {s : Pkg} {p op : Nat} {e : List Byte} {rest : List (List Byte)} {sts : List PState} (h : s.takes p op e rest)
    (hst : (s.part p).st ∉ sts) (f : Pkg → List (List Byte) → List Byte → Pkg) :
    (s.withNext p op fun s pre e => s.inState p op e sts fun s => f s pre e) = ((s.took p rest).complete p (cmdId e) op 1 0).settled p := by
  obtain ⟨_, _, _, hnext, _⟩ := id h
  obtain ⟨⟨pre, e', behind⟩, hcmd, heq⟩ := Option.map_eq_some_iff.1 hnext
  obtain ⟨rfl, rfl⟩ := Prod.mk.inj heq
  rw [Pkg.withNext_of_nextCmd h hcmd, Pkg.inState_of_notMem (by rwa [Pkg.st_took])]

end Sys2Proof

namespace Sys2Proof.Machine

open Sys2Proof

/-- A command that is taken in a state in which it may not be issued completes BAD_STATE; nothing else changes. -/
theorem gives_badState {i : Instr} {s : State} {p op : Nat} {e : List Byte} {rest : List (List Byte)} {sts : List PState}
    {f : Pkg → List (List Byte) → List Byte → Pkg}
    (hexec : exec i s = act (decide (p < partMax)) s fun k => k.withNext p op fun k pre e => k.inState p op e sts fun k => f k pre e)
    (h : s.pkg.takes p op e rest) (hst : (s.pkg.part p).st ∉ sts) :
    Gives i s (((s.pkg.took p rest).complete p (cmdId e) op 1 0).settled p) := by
  obtain ⟨hp, hon, _⟩ := id h
  have hgives := gives_act hexec (decide_eq_true hp) hon
  rwa [Pkg.withNext_inState_of_notMem h hst] at hgives

/-- Settles O19: all 19 commands are taken and look at the partition's state first; what is read is settled entry by entry. -/
theorem commandsByState : Obligations.CommandsByState := by
  unfold Obligations.CommandsByState
  refine ⟨fun s p e rest d c hc => ?_, fun s p e rest hread => ⟨fun hop hwait => ?_, fun hop hwait => ?_, fun pre f more => s.settleQ_reserved p pre more,
    fun hop => ?_, fun id op st res hgen => ⟨?_, ?_⟩⟩⟩
  · simp only [List.mem_cons, List.not_mem_nil, or_false] at hc
    obtain rfl | rfl | rfl | rfl | rfl | rfl | rfl | rfl | rfl | rfl | rfl | rfl | rfl | rfl | rfl | rfl | rfl | rfl | rfl := hc
    · exact gives_badState (exec_loadBegin p s)
    · exact gives_badState (exec_dstoreWrite p d s)
    · exact gives_badState (exec_dstoreRead p s)
    · exact gives_badState (exec_loadCommit p s)
    · exact gives_badState (exec_launch p d s)
    · exact gives_badState (exec_stage p s)
    · exact gives_badState (exec_preempt p s)
    · exact gives_badState (exec_inputWrite p d s)
    · exact gives_badState (exec_regionCreate p s)
    · exact gives_badState (exec_regionSeal p s)
    · exact gives_badState (exec_regionUnseal p s)
    · exact gives_badState (exec_regionDestroy p s)
    · exact gives_badState (exec_regionPin p s)
    · exact gives_badState (exec_packetWrite p d s)
    · exact gives_badState (exec_packetRead p s)
    · exact gives_badState (exec_restore p d s)
    · exact gives_badState (exec_rollback p s)
    · exact gives_badState (exec_resume p s)
    · exact gives_badState (exec_unload p s)
  · rw [Pkg.settled, hread, Pkg.settleQ_hostOp _ _ _ _ hop, Pkg.cmdHeld_nil, hwait]
    rfl
  · rw [Pkg.settled, hread, Pkg.settleQ_hostOp _ _ _ _ hop, Pkg.cmdHeld_nil, hwait]
    rfl
  · rw [Pkg.settled, hread, Pkg.settleQ_reserved _ _ _ _ hop, Pkg.settled, Pkg.part_complete, Pkg.part_took]
    rfl
  · rw [Pkg.part_complete, if_pos hgen]
  · exact Pkg.ent_setEnt_self _ _ _ _

end Sys2Proof.Machine
end

section
/-!
PROOF. Writes of the queue registers, doorbells and the posting of completions (14:R432, R433, R436, 18:R549).
-/

namespace Sys2Proof

open Sys2Proof.Machine

/-- Bit 31 of a register's value that enables a queue of a size, and the size (14:R432). -/
theorem bit31_enable {l : Nat} (h : l < 16) : bit (2 ^ 31 + l) 31 = true ∧ (2 ^ 31 + l) % 16 = l := by
  constructor
  · simp only [bit, Nat.shiftRight_eq_div_pow, decide_eq_true_eq]
    omega
  · omega

theorem bit31_disable {l : Nat} (h : l < 16) : bit l 31 = false ∧ l % 16 = l := by
  constructor
  · simp only [bit, Nat.shiftRight_eq_div_pow, decide_eq_false_iff_not]
    omega
  · omega

/-- A queue with an enabled command queue is not as at reset. -/
theorem Queue.ne_reset_of_cmdEn {q : Queue} (h : q.cmdEn = true) : q ≠ {} := by
  rintro rfl
  cases h

theorem logOk_iff {l : Nat} : logOk l = true ↔ 4 ≤ l ∧ l ≤ 12 := by
  simp [logOk]

section
variable {s : Pkg} {k p : Nat} (hport : s.hostPort p = k)
include hport

/-- Both queues off, CMDQ_CFG enables the command queue; one of a size it may not have, or behind its tail, stops at once (14:R432, R433). -/
theorem queueCfg_enableCmd {l : Nat} (hl : l < 16) (hcmd : (s.part p).q.cmdEn = false) (hcpl : (s.part p).q.cplEn = false) :
    queueCfg s k p 8 (2 ^ 31 + l) = s.setQ p (if 4 ≤ l ∧ l ≤ 12 ∧ (s.part p).q.tail < 2 ^ l
      then { (s.part p).q with cmdLog := l, cmdEn := true, stopped := false }
      else { (s.part p).q with cmdLog := l, cmdEn := true, stopped := true, error := true }) := by
  obtain ⟨hen, hmod⟩ := bit31_enable hl
  simp only [queueCfg, hport, ne_eq, not_true_eq_false, if_false, hen, hmod, hcmd, hcpl, Bool.not_false, Bool.and_true, if_true, Queue.stopOn,
    Bool.true_and, Bool.false_and, Bool.or_false, queueSize, Bool.or_eq_true, Bool.not_eq_true', ← Bool.not_eq_true, logOk_iff, decide_eq_true_eq]
  by_cases h : 4 ≤ l ∧ l ≤ 12 ∧ (s.part p).q.tail < 2 ^ l
  · rw [if_pos h, if_neg (by omega)]
  · rw [if_neg h, if_pos (by omega)]

/-- CMDQ_CFG without the enable bit. -/
theorem queueCfg_disableCmd {l : Nat} (hl : l < 16) (hcpl : (s.part p).q.cplEn = false) :
    queueCfg s k p 8 l = s.setQ p { (s.part p).q with cmdLog := l, cmdEn := false } := by
  obtain ⟨hen, hmod⟩ := bit31_disable hl
  simp [queueCfg, hport, hen, hmod, hcpl, Queue.stopOn]

/-- CPLQ_CFG enables the completion queue, at a size it may have. -/
theorem queueCfg_enableCpl {l : Nat} (hlow : 4 ≤ l) (hhigh : l ≤ 12) (hcmd : (s.part p).q.cmdEn = false) (hcpl : (s.part p).q.cplEn = false) :
    queueCfg s k p 0x18 (2 ^ 31 + l) = s.setQ p { (s.part p).q with cplLog := l, cplEn := true, stopped := false } := by
  obtain ⟨hen, hmod⟩ := bit31_enable (l := l) (by omega)
  simp only [queueCfg, hport, ne_eq, not_true_eq_false, if_false, hen, hmod, hcmd, hcpl, Bool.not_false, Bool.and_true, if_true, Queue.stopOn,
    Bool.true_and, Bool.false_and, Bool.false_or, logOk_iff.2 ⟨hlow, hhigh⟩, Bool.not_true, Bool.false_eq_true]

/-- CMDQ_TAIL at or above the queue's size stops it (14:R433). -/
theorem cmdqTail_of_size_le {v : Nat} (d : DmaRes) (hen : (s.part p).q.cmdEn = true) (hstop : (s.part p).q.stopped = false) (hv : v < 65536)
    (hsize : 2 ^ (s.part p).q.cmdLog ≤ v) :
    cmdqTail s k p v d = s.setQ p { (s.part p).q with tail := v, error := true, stopped := true } := by
  have hopen : ¬(!(s.part p).q.cmdEn || (s.part p).q.stopped) = true := by simp [hen, hstop]
  simp only [cmdqTail, hport, ne_eq, not_true_eq_false, if_false, Nat.mod_eq_of_lt hv, if_neg hopen, queueSize, if_pos hsize]
  exact s.setQ_setQ p _ (Queue.ne_reset_of_cmdEn hen)

/-- A new tail within the queue: the entries up to it are read (14:R433). -/
theorem cmdqTail_of_lt_size {v : Nat} (d : DmaRes) (hen : (s.part p).q.cmdEn = true) (hstop : (s.part p).q.stopped = false) (hserved : s.served = true)
    (hup : (s.pci k).up = true) (hv : v < 65536) (hsize : v < 2 ^ (s.part p).q.cmdLog) (hnew : v ≠ (s.part p).q.head) :
    cmdqTail s k p v d = match d with
      | .ok b => (s.setQ p { (s.part p).q with
          tail := v, head := v
          read := (s.part p).q.read ++ (List.range ((v + 2 ^ (s.part p).q.cmdLog - (s.part p).q.head) % 2 ^ (s.part p).q.cmdLog)).map
            (fun i => padTo 64 (slice b (64 * i) 64) ++ natLe 8 (s.part p).q.gen) }).settled p
      | .error c => (s.setQ p { (s.part p).q with tail := v, error := true, stopped := true }).dmaError p c
      | .abandoned _ => s.setQ p { (s.part p).q with tail := v } := by
  have htwice (r : Queue) : (s.setQ p { (s.part p).q with tail := v }).setQ p r = s.setQ p r :=
    s.setQ_setQ p r (Queue.ne_reset_of_cmdEn hen)
  have hgo : (!(s.setQ p { (s.part p).q with tail := v }).served || !((s.setQ p { (s.part p).q with tail := v }).pci k).up
      || decide (v = (s.part p).q.head)) = false := by
    have h : (!s.served || !(s.pci k).up || decide (v = (s.part p).q.head)) = false := by simp [hserved, hup, hnew]
    exact h
  have hopen : ¬(!(s.part p).q.cmdEn || (s.part p).q.stopped) = true := by simp [hen, hstop]
  cases d <;> simp only [cmdqTail, hport, ne_eq, not_true_eq_false, if_false, Nat.mod_eq_of_lt hv, if_neg hopen, queueSize,
    if_neg (Nat.not_le.2 hsize), hgo, Bool.false_eq_true, htwice]

end

/-- A DMA error is counted and reported, and touches no queue (18:R558). -/
theorem Pkg.dmaError_spec (s : Pkg) (p c : Nat) :
    ((s.dmaError p c).part p).q = (s.part p).q ∧ (s.dmaError p c).ent (0x1011 + s.hostPort p) 9 = s.ent (0x1011 + s.hostPort p) 9 + 1
      ∧ Reports (s.dmaError p c) 0x0914 p [s.hostPort p, p + 1, c] := by
  have hport : s.hostPort p ≤ 1 := by unfold Pkg.hostPort b2n; split <;> omega
  refine ⟨?_, ?_, Pkg.reports_raise _ _ _ _ _⟩
  · rw [Pkg.part_of_parts (s := s)]
    simp only [Pkg.dmaError, Pkg.raise_parts, Pkg.bump_parts]
  · rw [Pkg.dmaError, Pkg.ent_raise _ _ _ _ _ (by unfold dkey; omega) (by unfold dkey; omega), Pkg.ent_bump_self]

/-- An untargeted input waits for the next tick (03:R112). -/
theorem Pkg.queueInput_of_untargeted (s : Pkg) (p : Nat) {i : Pend} (h : i.target = none) :
    s.queueInput p i = s.setMem p { (s.part p).mem with inputs := (s.part p).mem.inputs ++ [{ i with arrived := s.tempo.now }] } := by
  simp [Pkg.queueInput, h]

end Sys2Proof

namespace Sys2Proof.Machine

open Sys2Proof

/-- Writes by the port that the partition is not bound to change nothing (18:R549). -/
theorem exec_of_otherPort {i : Instr} {s : State} {u : Bool} {f : Pkg → Pkg} (hexec : exec i s = act u s f) (hu : u = true) (hon : s.pkg.fw.off = 0)
    (hf : f s.pkg = s.pkg) : exec i s = .next s := by
  have hgives := gives_act hexec hu hon
  rw [hf] at hgives
  exact hgives

/-- A completion with room goes to its slot (14:R433). -/
theorem completionPost_of_enabled {s : Pkg} {p : Nat} {c : List Byte} {rest : List (List Byte)} (hen : (s.part p).q.cplEn = true)
    (hlow : 4 ≤ (s.part p).q.cplLog) (hhigh : (s.part p).q.cplLog ≤ 12) (hup : (s.pci (s.hostPort p)).up = true)
    (hwait : (s.part p).q.wait = c :: rest) :
    completionPost s p =
      if ((s.part p).q.cplTail + 1) % 2 ^ (s.part p).q.cplLog = (s.part p).q.cplHead % 2 ^ (s.part p).q.cplLog then s
      else (s.setQ p { (s.part p).q with
          wait := rest, cplTail := ((s.part p).q.cplTail + 1) % 2 ^ (s.part p).q.cplLog
          phase := if (s.part p).q.cplTail + 1 = 2 ^ (s.part p).q.cplLog then !(s.part p).q.phase else (s.part p).q.phase }).emit
        (.completion p (s.part p).q.cplTail (c.take 6 ++ [BitVec.ofNat 8 (b2n (s.part p).q.phase)] ++ c.drop 7) (s.part p).q.irq) := by
  simp only [completionPost, hwait, hen, logOk_iff.2 ⟨hlow, hhigh⟩, hup, Bool.not_true, Bool.or_false, Bool.false_or, queueSize, natLe]
  exact ite_congr (propext decide_eq_true_iff) (fun _ => rfl) fun _ => rfl

/-- Settles O18: each register write and each doorbell is a change of the partition's queue alone, as the lemmas above compute it. -/
theorem queueRegisters : Obligations.QueueRegisters := by
  unfold Obligations.QueueRegisters
  intro s k p hp hon q
  have hu : decide (p < partMax) = true := decide_eq_true hp
  have tail (v : Nat) (d : DmaRes) := gives_act (exec_cmdqTailWrite k p v d s) hu hon
  have head (v : Nat) := gives_act (exec_cplqHeadWrite k p v s) hu hon
  have cfg (off v : Nat) := gives_act (exec_queueCfgWrite k p off v s) hu hon
  have door (i v : Nat) := gives_act (exec_inputDbWrite k p i v s) hu hon
  have post := gives_act (exec_completionPost p s) hu hon
  refine ⟨fun hport v w d i hi => ?other, fun hport => ⟨?head, ?plain, ?enable, ?badSize, ?disable, ?tail, ?door⟩,
    fun hen hlow hhigh hup c rest hwait => ?post⟩
  case other =>
    simp only [List.mem_cons, List.not_mem_nil, or_false] at hi
    obtain rfl | rfl | rfl | rfl := hi
    · exact exec_of_otherPort (exec_cmdqTailWrite k p v d s) hu hon (if_pos hport)
    · exact exec_of_otherPort (exec_cplqHeadWrite k p v s) hu hon (if_pos hport)
    · exact exec_of_otherPort (exec_queueCfgWrite k p w v s) hu hon (if_pos hport)
    · exact exec_of_otherPort (exec_inputDbWrite k p w v s) hu hon (if_pos (by simp [hport]))
  case head =>
    intro v
    simpa only [cplqHead, hport, ne_eq, not_true_eq_false, if_false] using head v
  case plain =>
    have plain (off v : Nat) : queueCfg s.pkg k p off v = _ := if_neg (not_not_intro hport)
    intro v
    have h0 := cfg 0 v
    have h10 := cfg 0x10 v
    have h2C := cfg 0x2C v
    have h30 := cfg 0x30 v
    rw [plain] at h0 h10 h2C h30
    exact ⟨h0, h10, h2C, h30⟩
  case enable =>
    intro l hlow hhigh hcmd hcpl
    have h8 := cfg 8 (2 ^ 31 + l)
    have h18 := cfg 0x18 (2 ^ 31 + l)
    rw [queueCfg_enableCmd hport (by omega) hcmd hcpl] at h8
    rw [queueCfg_enableCpl hport hlow hhigh hcmd hcpl] at h18
    refine ⟨fun htail => ?_, fun htail => ?_, h18⟩
    · rwa [if_pos ⟨hlow, hhigh, htail⟩] at h8
    · rwa [if_neg fun h => Nat.not_lt.2 htail h.2.2] at h8
  case badSize =>
    intro l hbad hl hcmd hcpl
    have h8 := cfg 8 (2 ^ 31 + l)
    rwa [queueCfg_enableCmd hport hl hcmd hcpl, if_neg (by omega)] at h8
  case disable =>
    intro l hl hcpl
    have h8 := cfg 8 l
    rwa [queueCfg_disableCmd hport hl hcpl] at h8
  case tail =>
    intro hen hstop
    refine ⟨fun v d hv hsize => ?_, fun hserved hup v hsize hv hnew => ⟨fun b => ?_, fun c => ?_⟩⟩
    · have h := tail v d
      rwa [cmdqTail_of_size_le hport d hen hstop hv hsize] at h
    · have h := tail v (.ok b)
      rwa [cmdqTail_of_lt_size hport _ hen hstop hserved hup hv hsize hnew] at h
    · have h := tail v (.error c)
      rw [cmdqTail_of_lt_size hport _ hen hstop hserved hup hv hsize hnew] at h
      obtain ⟨hq, hcount, hreport⟩ := (s.pkg.setQ p { q with tail := v, error := true, stopped := true }).dmaError_spec p c
      rw [show (s.pkg.setQ p _).hostPort p = k from hport] at hcount hreport
      exact ⟨_, h, hq.trans (by rw [Pkg.part_setQ]), hcount, hreport⟩
  case door =>
    intro i v hi
    refine ⟨_, door i v, ?_⟩
    have hgo : (decide (s.pkg.hostPort p ≠ k) || decide (8 ≤ i)) = false := by simp [hport, hi]
    simp only [inputDb, hgo, Bool.false_eq_true, if_false]
    by_cases hempty : (s.pkg.part p).st = .empty
    · simp [hempty, q]
    · simp [hempty, q, Pkg.queueInput_of_untargeted, Pkg.setMem]
  case post =>
    rw [completionPost_of_enabled hen hlow hhigh hup hwait] at post
    refine ⟨fun hroom => ?_, fun hfull => ?_⟩
    · rwa [if_neg hroom] at post
    · rwa [if_pos hfull] at post

end Sys2Proof.Machine
end

section
/-!
PROOF. What was shown to the outside stays shown; a nanosecond that passes with no command waiting (03:R75, 17:R522, 10:R308).
-/

namespace Sys2Proof

/-- What every step of a fold adds to, the fold adds to. -/
theorem Pkg.out_foldl {α : Type} {f : Pkg → α → Pkg} (hf : ∀ s x, s.out <:+ (f s x).out) (l : List α) (s : Pkg) : s.out <:+ (l.foldl f s).out :=
  List.foldlRecOn (motive := fun k => s.out <:+ k.out) l f (List.suffix_refl _) fun k hk x _ => hk.trans (hf k x)

theorem Pkg.out_emit (s : Pkg) (o : Out) : s.out <:+ (s.emit o).out := List.suffix_cons _ _

theorem Pkg.out_ite {c : Prop} [Decidable c] {s a b : Pkg} (ha : s.out <:+ a.out) (hb : s.out <:+ b.out) : s.out <:+ (if c then a else b).out := by
  split
  · exact ha
  · exact hb

/-- Showing more from a state that has shown the same. -/
theorem Pkg.out_of_eq {s k t : Pkg} (ht : k.out <:+ t.out) (h : k.out = s.out) : s.out <:+ t.out := h ▸ ht

theorem Pkg.out_putAlerts (s : Pkg) (v : Nat) : s.out <:+ (s.putAlerts v).out :=
  Pkg.out_ite (List.suffix_refl _) (Pkg.out_emit _ _)

theorem Pkg.out_setAlert (s : Pkg) (b : Option Nat) : s.out <:+ (s.setAlert b).out := by
  cases b with
  | none => exact List.suffix_refl _
  | some b => exact s.out_putAlerts _

theorem Pkg.out_sendEvent (s : Pkg) (x : Session) (m : List Byte) : s.out <:+ (s.sendEvent x m).out := by
  unfold Pkg.sendEvent
  split
  · exact s.out_emit _
  · exact Pkg.out_ite (Pkg.out_emit _ _) (List.suffix_refl _)
  · exact Pkg.out_ite (List.suffix_cons _ _) (List.suffix_refl _)

theorem Pkg.out_eventTo (s : Pkg) (rec_ : List Byte) (x : Session) : s.out <:+ (s.eventTo rec_ x).out := by
  unfold Pkg.eventTo
  dsimp only
  exact Pkg.out_of_eq (Pkg.out_sendEvent _ _ _) rfl

theorem Pkg.out_raise (s : Pkg) (code part : Nat) (items : List Nat) (raw : List Byte) : s.out <:+ (s.raise code part items raw).out := by
  unfold Pkg.raise
  refine (s.out_setAlert (s.alertOf code)).trans (List.IsSuffix.trans ?_ (Pkg.out_foldl (fun k x => ?_) _ _))
  · exact List.suffix_refl _
  · exact k.out_eventTo _ _

@[simp] theorem Pkg.bump_out (s : Pkg) (idx sub n : Nat) : (s.bump idx sub n).out = s.out := by
  unfold Pkg.bump
  split <;> rfl

@[simp] theorem Pkg.peak_out (s : Pkg) (idx sub n : Nat) : (s.peak idx sub n).out = s.out := by
  unfold Pkg.peak
  split <;> rfl

theorem Pkg.out_castlingRecord (s : Pkg) (r : CRec) : s.out <:+ (s.castlingRecord r).out := by
  unfold Pkg.castlingRecord
  refine Pkg.out_ite ?_ (List.IsSuffix.trans ?_ (Pkg.out_raise _ _ _ _ _)) <;>
    simp only [apply_ite Pkg.out, Pkg.bump_out, Pkg.peak_out, Pkg.setEnt_out, ite_self, List.suffix_refl]

theorem Pkg.out_lateRecord (s : Pkg) (r : CRec) : s.out <:+ (s.lateRecord r).out := by
  unfold Pkg.lateRecord
  refine Pkg.out_ite (s.out_castlingRecord r) ((s.out_castlingRecord _).trans (Pkg.out_foldl (fun k p => ?_) _ _))
  simp only [Pkg.addYield, Pkg.setPart_out, List.suffix_refl]

theorem Pkg.out_recoverTile (s : Pkg) (n : Nat) (whole : Bool) : s.out <:+ (s.recoverTile n whole).out := by
  unfold Pkg.recoverTile
  dsimp only
  refine Pkg.out_foldl (fun k r => Pkg.out_ite (Pkg.out_ite ?_ ?_) (List.suffix_refl _)) _ _
  · exact List.suffix_refl k.out
  · exact Pkg.out_of_eq (Pkg.out_lateRecord _ _) rfl

theorem Pkg.out_bootDone (s : Pkg) : s.out <:+ s.bootDone.out := by
  unfold Pkg.bootDone
  refine Pkg.out_ite (List.IsSuffix.trans ?_ (Pkg.out_raise _ _ _ _ _)) ?_
  · simp only [Pkg.setEnt_out, Pkg.onFw_out, List.suffix_refl]
  · simp only [Pkg.onFw_out, List.suffix_refl]

theorem Pkg.out_bootWait (s : Pkg) : s.out <:+ s.bootWait.out := by
  unfold Pkg.bootWait
  refine Pkg.out_ite (List.suffix_refl _) ?_
  split
  · exact Pkg.out_ite (List.suffix_refl _) (Pkg.out_ite s.out_bootDone (List.suffix_refl _))
  · exact Pkg.out_ite s.out_bootDone (List.suffix_refl _)

/-- A frame sent is shown. -/
theorem Pkg.frame_mem_lsend (s : Pkg) (q : Nat) (h : LHdr) (data : List Byte) : ∃ body, Out.frame q h.ftype body ∈ (s.lsend q h data).out := by
  unfold Pkg.lsend
  exact ⟨_, (Pkg.out_ite (List.suffix_refl _) (Pkg.out_emit _ _)).subset List.mem_cons_self⟩

theorem Pkg.out_lsend (s : Pkg) (q : Nat) (h : LHdr) (data : List Byte) : s.out <:+ (s.lsend q h data).out := by
  unfold Pkg.lsend
  refine List.IsSuffix.trans ?_ (Pkg.out_ite (List.suffix_refl _) (Pkg.out_emit _ _))
  exact List.IsSuffix.trans (by simp only [Pkg.setLport_out, List.suffix_refl]) (Pkg.out_emit _ _)

/-- What follows the frame itself shows more. -/
theorem Pkg.out_lemit (s : Pkg) (q : Nat) (h : LHdr) (data : List Byte) : (s.lsend q h data).out <:+ (s.lemit q h data).out := by
  unfold Pkg.lemit
  dsimp only
  exact Pkg.out_ite (Pkg.out_of_eq (Pkg.out_lsend _ _ _ _) rfl) (List.suffix_refl _)

theorem Pkg.frame_mem_lemit (s : Pkg) (q : Nat) (h : LHdr) (data : List Byte) : ∃ body, Out.frame q h.ftype body ∈ (s.lemit q h data).out := by
  obtain ⟨body, hbody⟩ := s.frame_mem_lsend q h data
  exact ⟨body, (s.out_lemit q h data).subset hbody⟩

theorem Pkg.out_lreport (s : Pkg) (q : Nat) : s.out <:+ (s.lreport q).out :=
  Pkg.out_ite ((s.out_lsend _ _ _).trans (s.out_lemit _ _ _)) (List.suffix_refl _)

theorem Pkg.out_sendBare (s : Pkg) (n ltype : Nat) : s.out <:+ (s.sendBare n ltype).out := by
  unfold Pkg.sendBare Pkg.sendEnvelope
  refine List.IsSuffix.trans ?_ (Pkg.out_ite (List.suffix_refl _) (Pkg.out_emit _ _))
  exact List.IsSuffix.trans (by simp only [Pkg.setPort_out, List.suffix_refl]) (Pkg.out_emit _ _)

theorem Pkg.lreport_of_inactive {s : Pkg} {q : Nat} (h : (s.lport q).st ≠ .active) : s.lreport q = s := by
  simp [Pkg.lreport, h]

/-- With no creation asked for in this nanosecond nothing is handled at its end (09:R277). -/
theorem Pkg.createAsked_of_nil {s : Pkg} (h : s.tier.asked = []) : s.createAsked = s := by
  unfold Pkg.createAsked
  rw [h]
  show { s with tier := { s.tier with asked := [] } } = s
  rw [← h]

/-- With no port ACTIVE nothing is sent. -/
theorem Pkg.sendIdles_of_inactive {s : Pkg} (hl : ∀ q < 48, (s.lport q).st ≠ .active) (hn : ∀ n < 24, (s.port n).st ≠ .active) :
    s.sendIdles = s := by
  unfold Pkg.sendIdles
  have hlports : (List.range lportMax).foldl (fun s q => s.lreport q) s = s :=
    foldl_eq_self fun q hq => Pkg.lreport_of_inactive (hl q (List.mem_range.1 hq))
  simp only [hlports]
  exact foldl_eq_self fun n hmem => by simp [hn n (List.mem_range.1 hmem)]

theorem Pkg.out_sendIdles (s : Pkg) : ((List.range lportMax).foldl (fun s q => s.lreport q) s).out <:+ s.sendIdles.out :=
  Pkg.out_foldl (fun k n => Pkg.out_ite (k.out_sendBare n 0) (List.suffix_refl _)) _ _

/-- The one ACTIVE Lenpel port sends IDLE. -/
theorem Pkg.lreports_of_one {s : Pkg} {q : Nat} (hq : q < 48) (h : ∀ j, (s.lport j).st = .active ↔ j = q) :
    ∃ body, Out.frame q 0 body ∈ ((List.range lportMax).foldl (fun s q => s.lreport q) s).out := by
  obtain ⟨l₁, l₂, hl⟩ := List.append_of_mem (List.mem_range.2 hq : q ∈ List.range lportMax)
  have hsorted : (l₁ ++ q :: l₂).Pairwise (· < ·) := hl ▸ List.pairwise_lt_range
  have hbefore : ∀ j ∈ l₁, s.lreport j = s := fun j hj =>
    Pkg.lreport_of_inactive fun hact => Nat.ne_of_lt ((List.pairwise_append.1 hsorted).2.2 j hj q List.mem_cons_self) ((h j).1 hact)
  obtain ⟨body, hbody⟩ := s.frame_mem_lemit q { ftype := 0 } []
  have hq : s.lreport q = s.lemit q { ftype := 0 } [] := by simp [Pkg.lreport, (h q).2 rfl]
  rw [hl, List.foldl_append, foldl_eq_self hbefore, List.foldl_cons, hq]
  exact ⟨body, (Pkg.out_foldl Pkg.out_lreport _ _).subset hbody⟩

/-- After the frames of a nanosecond, nothing that was shown is lost. -/
theorem Pkg.out_idle (s : Pkg) : s.createAsked.sendIdles.out <:+ (idle s).out := by
  unfold idle
  dsimp only
  refine (Pkg.out_bootWait _).trans ?_
  generalize s.createAsked.sendIdles.bootWait = k
  refine Pkg.out_ite ?_ ?_
  · simp only [Pkg.localTick_out, List.suffix_refl]
  · refine Pkg.out_of_eq (Pkg.out_foldl (fun k r => ?_) _ _) ?_
    · split
      · exact k.out_recoverTile _ _
      · exact List.suffix_refl _
    · rfl

end Sys2Proof

namespace Sys2Proof.Machine

open Sys2Proof

/-- Settles O2: with nothing to send and no start that waits, a nanosecond only moves the clocks; an ACTIVE Lenpel port's IDLE frame stays
among what was shown. -/
theorem idleStepPassesTime : Obligations.IdleStepPassesTime := by
  unfold Obligations.IdleStepPassesTime
  intro s hpending hasked hports
  have hstep : step s = .next { s with pkg := idle s.pkg } := by rw [step, hpending]
  have hquiet (h : ∀ q, (s.pkg.lport q).st ≠ .active) : s.pkg.createAsked.sendIdles = s.pkg := by
    rw [Pkg.createAsked_of_nil hasked, Pkg.sendIdles_of_inactive (fun q _ => h q) fun n _ => hports n]
  refine ⟨fun hl hepoch => ?_, fun hl hepoch hdict hopen hrate hacc => ?_, fun q hq hl => ?_⟩
  · have hwait : s.pkg.bootWait = s.pkg := by simp [Pkg.bootWait, hepoch]
    rw [hstep, idle, hquiet hl, hwait]
    simp [hepoch, Pkg.localTick]
  · have hwait : s.pkg.bootWait = s.pkg := by simp [Pkg.bootWait, hdict]
    rw [hstep, idle, hquiet hl, hwait]
    simp [hepoch, hopen, Tempo.tick, hrate, hacc, tempoFrac]
  · obtain ⟨body, hbody⟩ := Pkg.lreports_of_one hq hl
    have hout := s.pkg.out_idle
    rw [Pkg.createAsked_of_nil hasked] at hout
    exact ⟨_, hstep, body, ((s.pkg.out_sendIdles).trans hout).subset hbody⟩

end Sys2Proof.Machine
end

section
/-!
PROOF. What the management parts of the package leave alone: event reports, grants, delegations and the end of a session (16:R482, R487, R505,
R508).
-/

namespace Sys2Proof

/-- What does not look at the dictionary, the log, the sessions or what was shown, an event report keeps. -/
theorem Pkg.keeps_raise {α : Type} (g : Pkg → α) (hg : ∀ s, g s.bare = g s) (s : Pkg) (code part : Nat) (items : List Nat) (raw : List Byte) :
    g (s.raise code part items raw) = g s := by
  rw [← hg, Pkg.bare_raise, hg]

/-- The package without its dictionary, its log, its management state and what it showed. -/
def Pkg.core (s : Pkg) : Pkg := { s.bare with mgmt := {} }

@[simp] theorem Pkg.core_raise (s : Pkg) (code part : Nat) (items : List Nat) (raw : List Byte) : (s.raise code part items raw).core = s.core :=
  s.keeps_raise Pkg.core (fun _ => rfl) code part items raw

@[simp] theorem Pkg.core_setEnt (s : Pkg) (i j v : Nat) : (s.setEnt i j v).core = s.core := rfl

@[simp] theorem Pkg.core_emit (s : Pkg) (o : Out) : (s.emit o).core = s.core := rfl

@[simp] theorem Pkg.core_onMgmt (s : Pkg) (f : Mgmt → Mgmt) : (s.onMgmt f).core = s.core := rfl

@[simp] theorem Pkg.core_setSession (s : Pkg) (n : Nat) (f : Session → Session) : (s.setSession n f).core = s.core := rfl

@[simp] theorem Pkg.core_setMbox (s : Pkg) (k : Nat) (b : Mailbox) : (s.setMbox k b).core = s.core := rfl

@[simp] theorem Pkg.core_bump (s : Pkg) (i j n : Nat) : (s.bump i j n).core = s.core := by
  unfold Pkg.bump
  split <;> rfl

@[simp] theorem Pkg.core_setGrant (s : Pkg) (id : Nat) (on : Bool) : (s.setGrant id on).core = s.core := by
  unfold Pkg.setGrant
  split
  · rfl
  · split
    · rfl
    · rw [Pkg.core_raise, Pkg.core_setSession]

@[simp] theorem Pkg.core_setDelegate (s : Pkg) (p id : Nat) : (s.setDelegate p id).core = s.core := by
  simp only [Pkg.setDelegate, apply_ite Pkg.core, Pkg.core_raise, Pkg.core_setEnt, ite_self]

@[simp] theorem Pkg.core_endSession (s : Pkg) (id : Nat) : (s.endSession id).core = s.core := by
  rw [Pkg.endSession, Pkg.core_onMgmt]
  refine (Pkg.foldl_keeps Pkg.core (fun k p => ?_) _ _).trans (s.core_setGrant id false)
  simp only [apply_ite Pkg.core, Pkg.core_setDelegate, ite_self]

theorem Pkg.keeps_endSession {α : Type} (g : Pkg → α) (hg : ∀ s, g s.core = g s) (s : Pkg) (id : Nat) : g (s.endSession id) = g s := by
  rw [← hg, Pkg.core_endSession, hg]

/-- The numbers and paths of the sessions. -/
def Pkg.paths (s : Pkg) : List (Nat × Path) := s.mgmt.sessions.map fun y => (y.id, y.path)

/-- A change of sessions that keeps numbers and paths. -/
theorem map_paths_mapIf (p : Session → Bool) (f : Session → Session) (hf : ∀ y, (f y).id = y.id ∧ (f y).path = y.path) (l : List Session) :
    (mapIf p f l).map (fun y => (y.id, y.path)) = l.map fun y => (y.id, y.path) := by
  simp only [mapIf, List.map_map]
  refine List.map_congr_left fun y _ => ?_
  simp only [Function.comp_apply]
  split
  · rw [(hf y).1, (hf y).2]
  · rfl

@[simp] theorem Pkg.paths_sendEvent (s : Pkg) (x : Session) (m : List Byte) : (s.sendEvent x m).paths = s.paths := by
  unfold Pkg.sendEvent
  split
  · rfl
  · simp only [apply_ite Pkg.paths]
    exact ite_self _
  · simp only [apply_ite Pkg.paths]
    exact ite_self _

@[simp] theorem Pkg.paths_eventTo (s : Pkg) (rec_ : List Byte) (x : Session) : (s.eventTo rec_ x).paths = s.paths := by
  rw [Pkg.eventTo, Pkg.paths_sendEvent]
  refine map_paths_mapIf _ _ ?_ _
  exact fun _ => ⟨rfl, rfl⟩

@[simp] theorem Pkg.paths_setAlert (s : Pkg) (b : Option Nat) : (s.setAlert b).paths = s.paths := by
  cases b <;> rfl

@[simp] theorem Pkg.paths_raise (s : Pkg) (code part : Nat) (items : List Nat) (raw : List Byte) : (s.raise code part items raw).paths = s.paths := by
  unfold Pkg.raise
  refine (Pkg.foldl_keeps Pkg.paths (fun k x => k.paths_eventTo _ x) _ _).trans ?_
  exact s.paths_setAlert _

@[simp] theorem Pkg.paths_setGrant (s : Pkg) (id : Nat) (on : Bool) : (s.setGrant id on).paths = s.paths := by
  unfold Pkg.setGrant
  split
  · rfl
  · split
    · rfl
    · rw [Pkg.paths_raise]
      refine map_paths_mapIf _ _ ?_ _
      exact fun _ => ⟨rfl, rfl⟩

@[simp] theorem Pkg.paths_setDelegate (s : Pkg) (p id : Nat) : (s.setDelegate p id).paths = s.paths := by
  have hset : (s.setEnt (0x1110 + p) 1 id).paths = s.paths := rfl
  simp only [Pkg.setDelegate, apply_ite Pkg.paths, Pkg.paths_raise, hset, ite_self]

/-- The end of a session takes it from the list (16:R482). -/
theorem Pkg.paths_endSession (s : Pkg) (id : Nat) : (s.endSession id).paths = s.paths.filter fun y => y.1 ≠ id := by
  have hpaths : (((List.range partMax).foldl (fun s p => if s.ent (0x1110 + p) 1 = id then s.setDelegate p 0 else s) (s.setGrant id false))).paths
      = s.paths := by
    refine (Pkg.foldl_keeps Pkg.paths (fun k p => ?_) _ _).trans (s.paths_setGrant id false)
    simp only [apply_ite Pkg.paths, Pkg.paths_setDelegate, ite_self]
  rw [← hpaths]
  simp only [Pkg.endSession, Pkg.onMgmt, Pkg.paths, List.filter_map]
  rfl

/-- The end of some sessions leaves none of them. -/
theorem Pkg.mem_paths_endSessions {y : Nat × Path} {l : List Session} {s : Pkg} (h : y ∈ (l.foldl (fun s x => s.endSession x.id) s).paths) :
    y ∈ s.paths ∧ ∀ x ∈ l, x.id ≠ y.1 := by
  induction l generalizing s with
  | nil => exact ⟨h, fun x hx => absurd hx List.not_mem_nil⟩
  | cons x l ih =>
    rw [List.foldl_cons] at h
    obtain ⟨hy, hl⟩ := ih h
    rw [Pkg.paths_endSession, List.mem_filter] at hy
    refine ⟨hy.1, fun z hz => ?_⟩
    obtain rfl | hz := List.mem_cons.1 hz
    · exact fun hz => of_decide_eq_true hy.2 hz.symm
    · exact hl z hz

/-- An entry that no grant and no delegation touches stays at the end of a session. -/
theorem Pkg.ent_setGrant (s : Pkg) (id : Nat) (on : Bool) {i j : Nat} (h1 : dkey i j ≠ dkey 0x1130 6) (h2 : dkey i j ≠ dkey 0x1140 1) :
    (s.setGrant id on).ent i j = s.ent i j := by
  unfold Pkg.setGrant
  split
  · rfl
  · split
    · rfl
    · rw [Pkg.ent_raise _ _ _ _ _ h1 h2]
      rfl

theorem Pkg.ent_setDelegate (s : Pkg) (p id : Nat) {i j : Nat} (h1 : dkey i j ≠ dkey 0x1130 6) (h2 : dkey i j ≠ dkey 0x1140 1)
    (h3 : dkey i j ≠ dkey (0x1110 + p) 1) : (s.setDelegate p id).ent i j = s.ent i j := by
  unfold Pkg.setDelegate
  dsimp only
  split
  · rw [Pkg.ent_setEnt_other _ _ h3]
  · rw [Pkg.ent_raise _ _ _ _ _ h1 h2, Pkg.ent_setEnt_other _ _ h3]

theorem Pkg.ent_endSession (s : Pkg) (id : Nat) {i j : Nat} (h1 : dkey i j ≠ dkey 0x1130 6) (h2 : dkey i j ≠ dkey 0x1140 1)
    (h3 : ∀ p, p < 16 → dkey i j ≠ dkey (0x1110 + p) 1) : (s.endSession id).ent i j = s.ent i j := by
  have hend (k : Pkg) (f : Mgmt → Mgmt) : (k.onMgmt f).ent i j = k.ent i j := rfl
  rw [Pkg.endSession, hend, ← s.ent_setGrant id false h1 h2]
  refine List.foldlRecOn (motive := fun k : Pkg => k.ent i j = (s.setGrant id false).ent i j) (List.range partMax) _ rfl fun k hk p hp => ?_
  split
  · rw [Pkg.ent_setDelegate _ _ _ h1 h2 (h3 p (List.mem_range.1 hp)), hk]
  · exact hk

end Sys2Proof

namespace Sys2Proof.Machine

open Sys2Proof

/-- An event report changes the two entries it touches and no other. -/
theorem sameEnts_raise (s : Pkg) (code part : Nat) (items : List Nat) (raw : List Byte) : SameEnts s (s.raise code part items raw) reportEnts := by
  intro i j hij hj
  simp only [reportEnts, List.mem_cons, Prod.mk.injEq, List.not_mem_nil, or_false, not_or] at hij
  exact s.ent_raise code part items raw (fun h => hij.1 (dkey_inj hj (by omega) h)) fun h => hij.2 (dkey_inj hj (by omega) h)

end Sys2Proof.Machine
end

section
/-!
PROOF. The rows of a PCIe port (18:R547, R552, R553, R557).
-/

namespace Sys2Proof

@[simp] theorem Pkg.raise_pci (s : Pkg) (code part : Nat) (items : List Nat) (raw : List Byte) (j : Nat) :
    (s.raise code part items raw).pci j = s.pci j := s.keeps_raise (fun k => k.pci j) (fun _ => rfl) code part items raw

@[simp] theorem Pkg.bump_pci (s : Pkg) (i j n k : Nat) : (s.bump i j n).pci k = s.pci k := by
  unfold Pkg.bump
  split <;> rfl

section
variable (s : Pkg) (k : Nat)

/-- What the reset of a port's functions leaves alone, given that the reset of a queue does. -/
theorem Pkg.keeps_resetFunctions {α : Type} (g : Pkg → α) (hq : ∀ s p, g (Pkg.resetQueue s p) = g s) (he : ∀ s id, g (Pkg.endSession s id) = g s)
    (hm : ∀ s b, g (Pkg.setMbox s k b) = g s) : g (s.resetFunctions k) = g s := by
  unfold Pkg.resetFunctions
  dsimp only
  rw [hm, Pkg.foldl_keeps g (fun s (x : Session) => he s x.id), Pkg.foldl_keeps g hq]

@[simp] theorem Pkg.resetFunctions_pci (j : Nat) : (s.resetFunctions k).pci j = s.pci j := by
  exact s.keeps_resetFunctions k (fun t => t.pci j) (fun _ _ => rfl) (Pkg.keeps_endSession (fun t => t.pci j) fun _ => rfl) fun _ _ => rfl

/-- The counters of a port stay while its functions are reset. -/
theorem Pkg.resetFunctions_ent {i j : Nat} (h1 : dkey i j ≠ dkey 0x1130 6) (h2 : dkey i j ≠ dkey 0x1140 1)
    (h3 : ∀ p, p < 16 → dkey i j ≠ dkey (0x1110 + p) 1) : (s.resetFunctions k).ent i j = s.ent i j :=
  s.keeps_resetFunctions k (fun t => t.ent i j) (fun _ _ => rfl) (fun t id => t.ent_endSession id h1 h2 h3) fun _ _ => rfl

/-- No mailbox session of the port is left. -/
theorem Pkg.resetFunctions_paths {y : Nat × Path} (h : y ∈ (s.resetFunctions k).paths) : y.2 ≠ .mailbox k := by
  intro hpath
  have hq : ((s.bound k).foldl Pkg.resetQueue s).mgmt.sessions = s.mgmt.sessions := by
    exact Pkg.foldl_keeps (fun t => t.mgmt.sessions) (f := Pkg.resetQueue) (fun _ _ => rfl) _ s
  have hmbox (t : Pkg) : (t.setMbox k {}).paths = t.paths := rfl
  rw [Pkg.resetFunctions, hmbox] at h
  obtain ⟨hy, hnone⟩ := Pkg.mem_paths_endSessions h
  obtain ⟨x, hx, rfl⟩ := List.mem_map.1 hy
  exact hnone x (List.mem_filter.2 ⟨hx, decide_eq_true hpath⟩) rfl

end

/-- The sessions as their paths show them. -/
theorem Pkg.path_ne_of_paths {s t : Pkg} {q : Path} (h : ∀ y ∈ s.paths, y.2 ≠ q) (hpaths : t.paths = s.paths) : ∀ y ∈ t.mgmt.sessions, y.path ≠ q :=
  fun y hy => h (y.id, y.path) (hpaths ▸ List.mem_map.2 ⟨y, hy, rfl⟩)

/-- What the loss of a link leaves: the port down, its virtual functions gone, no session of its mailbox, one reset more, and the event. -/
theorem Pkg.linkDown_spec (s : Pkg) {k : Nat} (hk : k < 2) (cause : Nat) :
    ((s.linkDown k cause).pci k).up = false ∧ ((s.linkDown k cause).pci k).vfs = 0 ∧ ((s.linkDown k cause).pci k).perst = (s.pci k).perst
      ∧ (∀ y ∈ (s.linkDown k cause).mgmt.sessions, y.path ≠ .mailbox k)
      ∧ (s.linkDown k cause).ent (0x1011 + k) 6 = s.ent (0x1011 + k) 6 + 1 ∧ Machine.Reports (s.linkDown k cause) 0x0912 0xFF [k, cause] := by
  have hcounter : (s.resetFunctions k).ent (0x1011 + k) 6 = s.ent (0x1011 + k) 6 :=
    s.resetFunctions_ent k (by unfold dkey; omega) (by unfold dkey; omega) fun p hp => by unfold dkey; omega
  have hset (t : Pkg) (x : Pcie) : (t.setPci k x).ent (0x1011 + k) 6 = t.ent (0x1011 + k) 6 := rfl
  have hpaths (t : Pkg) (x : Pcie) (n : Nat) : ((t.setPci k x).bump (0x1011 + k) 6 n).paths = t.paths := by
    unfold Pkg.bump
    split <;> rfl
  unfold Pkg.linkDown
  dsimp only
  rw [Pkg.raise_pci, Pkg.bump_pci, Pkg.pci_setPci]
  refine ⟨?_, ?_, ?_, ?_, ?_, Pkg.reports_raise _ _ _ _ _⟩
  · split <;> rfl
  · split <;> rfl
  · split <;> simp
  · exact Pkg.path_ne_of_paths (fun y hy => s.resetFunctions_paths k hy) (by rw [Pkg.paths_raise, hpaths])
  · rw [Pkg.ent_raise _ _ _ _ _ (by unfold dkey; omega) (by unfold dkey; omega), Pkg.ent_bump_self, hset, hcounter]

end Sys2Proof

namespace Sys2Proof.Machine

open Sys2Proof

/-- Settles O11: each row by the lemma of what its change leaves. -/
theorem pciePortRows : Obligations.PciePortRows := by
  unfold Obligations.PciePortRows
  intro s k hk hon
  have hu : decide (k < 2) = true := decide_eq_true hk
  have hperst (low : Bool) : Gives (.perstN k low) s (perst s.pkg k low) := by
    rw [Gives, exec_perstN]
    simp only [actAny, hu, if_true, hon]
  refine ⟨fun rate width flit hdown hperst hlow hhigh hrate hwidth => ?up, fun hhigh => ?reset, hperst false, fun cause hlow hhigh hup => ?hot,
    fun hup => ⟨?pf, fun p hp hport => ?vf, fun hstart off v => ?retry, fun hstart off n => ?enable, fun hstart => ?identity⟩⟩
  case up =>
    refine ⟨_, gives_act (exec_pcieLinkUp k rate width flit s) hu hon, ?_⟩
    have hgo : ((s.pkg.pci k).perst || (s.pkg.pci k).up || !(inBounds 1 (s.pkg.pci k).maxRate rate)
        || !(([1, 2, 4, 8, 16] : List Nat).contains width) || (decide (rate = 6) && !flit)) = false := by
      have hne : rate ≠ 6 := by omega
      simp [hdown, hperst, inBounds, hlow, hhigh, hne, hwidth]
    simp only [linkUp, hgo, Bool.false_eq_true, if_false]
    refine ⟨by simp, fun j hj => ?_, sameEnts_raise _ _ _ _ _, Pkg.reports_raise _ _ _ _ _⟩
    rw [Pkg.raise_pci, Pkg.pci_setPci_other _ _ hj]
  case reset =>
    refine ⟨_, hperst true, ?_⟩
    obtain ⟨hup, -, hp, -, hcount, hreport⟩ := (s.pkg.setPci k { s.pkg.pci k with perst := true }).linkDown_spec hk 1
    simp only [perst, hhigh, Bool.not_true, Bool.false_eq_true, if_false]
    exact ⟨hup, hp.trans (by simp), hcount, hreport⟩
  case hot =>
    refine ⟨_, gives_act (exec_pcieHotReset k cause s) hu hon, ?_⟩
    obtain ⟨hdown, hvfs, -, hsessions, hcount, hreport⟩ := s.pkg.linkDown_spec hk cause
    simp only [hotReset, hup, inBounds, decide_eq_true hlow, decide_eq_true hhigh, Bool.and_true, if_true]
    exact ⟨hdown, hvfs, hsessions, hcount, hreport⟩
  case pf =>
    refine ⟨_, gives_act (exec_pcieFlr k 0 s) (by simp [hk]) hon, ?_⟩
    simp only [flr, hup, Bool.not_true, Bool.false_eq_true, if_false, if_true]
    refine ⟨by simp, ?_, by simp [hup], Pkg.reports_raise _ _ _ _ _⟩
    exact Pkg.path_ne_of_paths (fun y hy => s.pkg.resetFunctions_paths k hy) (by rw [Pkg.paths_raise]; rfl)
  case vf =>
    refine ⟨_, gives_act (exec_pcieFlr k (p + 1) s) (by simp [hk]; omega) hon, ?_⟩
    simp only [flr, hup, Bool.not_true, Bool.false_eq_true, if_false, Nat.add_sub_cancel, hport, if_true, Nat.succ_ne_zero]
    have hpart : (((s.pkg.resetQueue p).raise 0x0913 0xFF [k, p + 1]).part p).q = { gen := (s.pkg.part p).q.gen + 1, read := (s.pkg.part p).q.read } := by
      rw [Pkg.part_of_parts (Pkg.raise_parts _ _ _ _ _), Pkg.resetQueue, Pkg.part_setQ]
    rw [hpart]
    exact ⟨rfl, rfl, rfl, Pkg.reports_raise _ _ _ _ _⟩
  case retry =>
    have h := gives_act (exec_pcieConfigRequest k off v s) hu hon
    simpa only [configRequest, hup, hstart, Bool.not_true, Bool.not_false, Bool.false_eq_true, if_false, if_true] using h
  case enable =>
    have h := gives_act (exec_pcieConfigRequest k off (some n) s) hu hon
    simpa only [configRequest, hup, hstart, Bool.not_true, Bool.false_eq_true, if_false] using h
  case identity =>
    refine ⟨_, gives_act (exec_pcieConfigRequest k 8 none s) hu hon, ?_⟩
    simp only [configRequest, hup, hstart, Bool.not_true, Bool.false_eq_true, if_false]
    exact ⟨_, rfl⟩

end Sys2Proof.Machine
end

section
/-!
PROOF. Commits to N0: what may start, and what a finished one leaves (16:R480, 17:R512, R514).
-/

namespace Sys2Proof

/-- The energy a commit needs, as the statement writes it (17:R514). -/
theorem Holdup.allows_eq {h : Holdup} {e : Nat} (he : h.energy = some e) (b : Nat) : h.allows b = decide (3000000000 + 46875 * b ≤ 100 * e) := by
  simp only [Holdup.allows, he]
  rfl

theorem Holdup.allows_of_none {h : Holdup} (he : h.energy = none) (b : Nat) : h.allows b = false := by
  simp only [Holdup.allows, he]

/-- The oldest commit starts when the bank can finish it. -/
theorem commitStart_of_allowed {s : Pkg} {c : Commit} {rest : List Commit} (hq : s.fw.commits = c :: rest) (hstart : c.started = false)
    (hlost : s.fw.n0.lost = false) (hvaux : s.fw.vaux = true) (h : s.fw.holdup.allows c.bytes = true) :
    commitStart s = s.onFw (fun w => { w with
      commits := { c with started := true, vals := if c.kind = 2 then s.pendingVals else c.vals } :: rest
      epochCommit := w.epochCommit || decide (c.kind = 0), nextSince := if c.kind = 2 then none else w.nextSince }) := by
  simp only [commitStart, hq, hstart, hlost, hvaux, h, Bool.not_true, Bool.or_false, Bool.false_eq_true, if_false]

theorem commitStart_of_refused {s : Pkg} {c : Commit} {rest : List Commit} (hq : s.fw.commits = c :: rest) (h : s.fw.holdup.allows c.bytes = false) :
    commitStart s = s := by
  simp only [commitStart, hq, h, Bool.not_false, Bool.or_true, if_true]

/-- A started commit takes effect: it leaves the queue, and N0 holds what it wrote. -/
def Pkg.written (s : Pkg) (c : Commit) (rest : List Commit) (map : Tab Nat) : Pkg :=
  s.onFw (fun w => { w with commits := rest, n0 := w.n0.after c w.boots w.holdup map })

section
variable {s : Pkg} {c : Commit} {rest : List Commit} (hq : s.fw.commits = c :: rest) (hstart : c.started = true) (hlost : s.fw.n0.lost = false)
  (map : Tab Nat)
include hq hstart hlost

theorem commitDone_of_otherKind (h2 : c.kind ≠ 2) (h3 : c.kind ≠ 3) : commitDone s map = s.written c rest map := by
  simp only [commitDone, hq, hstart, hlost, Bool.not_true, Bool.false_eq_true, if_false]
  rfl

/-- A commit of saved entries also settles what was pending. -/
theorem commitDone_of_saved (h2 : c.kind = 2) :
    commitDone s map = ((s.written c rest map).onFw (fun w => { w with
      pending := s.fw.pending.filter (fun k => Tab.find c.vals k ≠ some (s.ent (k / 256) (k % 256)))
      pendingSince := s.fw.nextSince.getD s.tempo.local_, nextSince := none, failedTold := false
      byRequest := s.fw.byRequest.filter (s.fw.pending.filter (fun k => Tab.find c.vals k ≠ some (s.ent (k / 256) (k % 256)))).contains })).setEnt
      0x1200 3 s.tempo.now := by
  simp only [commitDone, hq, hstart, hlost, Bool.not_true, Bool.false_eq_true, if_false, h2]
  rfl

/-- Whatever its kind, what a finished commit leaves in N0. -/
theorem commitDone_n0 : (commitDone s map).fw.n0 = s.fw.n0.after c s.fw.boots s.fw.holdup map := by
  simp only [commitDone, hq, hstart, hlost, Bool.not_true, Bool.false_eq_true, if_false]
  split <;> rfl

end

/-- The copy that a commit writes checks. -/
theorem N0.copy_putArea (n : N0) (area len : Nat) (x : AreaCopy) :
    (n.putArea area len x).copy area (n.older area) =
      { x with count := max (n.copy area 0).count (n.copy area 1).count + 1, len := len, digest := Config.sha384 x.bytes, spoilt := false } :=
  Tab.get_set_self _ _ _ _

theorem N0.copy_putArea_other (n : N0) {area a k : Nat} (len : Nat) (x : AreaCopy) (h : 2 * a + k ≠ 2 * area + n.older area) :
    (n.putArea area len x).copy a k = n.copy a k :=
  Tab.get_set_other _ _ _ h

theorem N0.older_le (n : N0) (area : Nat) : n.older area = 0 ∨ n.older area = 1 := by
  unfold N0.older
  dsimp only
  split
  · exact .inl rfl
  · split
    · exact .inr rfl
    · exact .inl rfl

/-- Copy B is written where A checks. -/
theorem N0.sound_of_older {n : N0} {area : Nat} (h : n.older area = 1) : (n.copy area 0).sound = true := by
  refine Decidable.byContradiction fun hs => ?_
  rw [N0.older, Bool.not_eq_true _ |>.mp hs] at h
  cases h

/-- The copy that a commit has written is in force (17:R512). -/
theorem N0.area_putArea (n : N0) (area len : Nat) (x : AreaCopy) :
    (n.putArea area len x).area area = some { x with
      count := max (n.copy area 0).count (n.copy area 1).count + 1, len := len, digest := Config.sha384 x.bytes, spoilt := false } := by
  have hnew := n.copy_putArea area len x
  have hsound (c l : Nat) : ({ x with count := c, len := l, digest := Config.sha384 x.bytes, spoilt := false } : AreaCopy).sound = true := by
    simp [AreaCopy.sound, AreaCopy.bytes]
  obtain h | h := n.older_le area
  · rw [h] at hnew
    have hb := n.copy_putArea_other (area := area) (a := area) (k := 1) len x (by omega)
    simp only [N0.area, hnew, hb, hsound, Bool.true_and]
    rw [if_pos]
    simp only [Bool.or_eq_true, decide_eq_true_eq]
    omega
  · rw [h] at hnew
    have ha := n.copy_putArea_other (area := area) (a := area) (k := 0) len x (by omega)
    simp only [N0.area, hnew, ha, hsound, Bool.not_true, Bool.false_or, N0.sound_of_older h, Bool.true_and, decide_eq_true_eq]
    rw [if_neg (by omega)]
    rfl

/-- The other areas stay. -/
theorem N0.area_putArea_other (n : N0) {area a : Nat} (len : Nat) (x : AreaCopy) (h : a ≠ area) : (n.putArea area len x).area a = n.area a := by
  have hcopy (k : Nat) (hk : k < 2) : (n.putArea area len x).copy a k = n.copy a k :=
    n.copy_putArea_other len x (by obtain ho | ho := n.older_le area <;> omega)
  simp only [N0.area, hcopy 0 (by omega), hcopy 1 (by omega)]

/-- A commit of an area with two copies writes the older one. -/
theorem N0.after_of_area (n : N0) {c : Commit} {a : Nat} (h : c.area = some a) (boots : Nat) (hold : Holdup) (map : Tab Nat) :
    ∃ x, n.after c boots hold map = n.putArea a c.bytes x := by
  by_cases h4 : c.kind < 4
  · have ha : a = c.kind := by simpa [Commit.area, h4, eq_comm] using h
    obtain hk | hk | hk | hk : c.kind = 0 ∨ c.kind = 1 ∨ c.kind = 2 ∨ c.kind = 3 := by omega
    all_goals
      rw [hk] at ha
      simp only [N0.after, hk, ha]
      exact ⟨_, rfl⟩
  · have hk : c.kind = 7 := by
      refine Decidable.byContradiction fun hne => ?_
      simp [Commit.area, h4, hne] at h
    have ha : a = 2 := by simpa [Commit.area, hk, eq_comm] using h
    simp only [N0.after, hk, ha]
    exact ⟨_, rfl⟩

end Sys2Proof

namespace Sys2Proof.Machine

open Sys2Proof

/-- Outside a cold start the completion of a commit is what `commitDone` makes of it. -/
theorem gives_n0CommitComplete {s : State} (hoff : s.pkg.fw.off < 3) (hcold : s.pkg.fw.cold = none) :
    Gives .n0CommitComplete s (commitDone s.pkg s.faultMap) := by
  have hdone : s.pkg.epochDone = false := by simp [Pkg.epochDone, hcold]
  rw [Gives, exec_n0CommitComplete, if_pos hoff, if_neg (by simp [hdone])]

theorem gives_n0Commit {s : State} (hoff : s.pkg.fw.off < 3) : Gives .n0Commit s (commitStart s.pkg) := by
  rw [Gives, exec_n0Commit, actMgmt, if_pos rfl, if_pos hoff]

/-- Settles O14: a commit starts when the bank's energy allows it, and the copy it has written is in force. -/
theorem commitsToN0 : Obligations.CommitsToN0 := by
  unfold Obligations.CommitsToN0
  intro s c rest hoff hq
  refine ⟨fun hstart hlost hvaux => ⟨fun e he hneed => ?_, fun hneed => ?_⟩, fun hstart hlost hcold => ?_⟩
  · have hallows : s.pkg.fw.holdup.allows c.bytes = true := by rw [Holdup.allows_eq he]; exact decide_eq_true hneed
    have h := gives_n0Commit hoff
    rw [commitStart_of_allowed hq hstart hlost hvaux hallows] at h
    exact ⟨_, h, _, rfl, rfl, rfl, rfl, rfl, rfl, rfl⟩
  · have hrefused : s.pkg.fw.holdup.allows c.bytes = false := by
      cases he : s.pkg.fw.holdup.energy with
      | none => exact Holdup.allows_of_none he _
      | some e =>
        rw [Holdup.allows_eq he]
        exact decide_eq_false (Nat.not_le.2 (hneed e he))
    have h := gives_n0Commit hoff
    rw [commitStart_of_refused hq hrefused] at h
    exact h
  · have h := gives_n0CommitComplete hoff hcold
    refine ⟨fun hk => ⟨_, h, ?_⟩, fun hk => ⟨_, h, ?_⟩, fun hk => ⟨_, h, ?_⟩, fun a ha => ⟨_, h, ?_⟩⟩
    · rw [commitDone_of_otherKind hq hstart hlost _ (by omega) (by omega)]
      simp only [Pkg.written, N0.after, hk]
      rfl
    · rw [commitDone_of_otherKind hq hstart hlost _ (by omega) (by omega)]
      simp only [Pkg.written, Pkg.onFw, N0.after, hk, N0.epoch, N0.boots, N0.saved, N0.area_putArea, Option.getD_some,
        N0.area_putArea_other _ _ _ (show 2 ≠ 0 by decide)]
      exact ⟨trivial, rfl, rfl, trivial⟩
    · rw [commitDone_of_saved hq hstart hlost _ hk]
      simp only [Pkg.ent_setEnt_self, Pkg.setEnt_fw, Pkg.written, Pkg.onFw, N0.after, hk, N0.saved, N0.area_putArea, Option.getD_some]
      refine ⟨trivial, trivial, trivial, fun key => ?_⟩
      simp [List.mem_filter]
    · simp only [commitDone_n0 hq hstart hlost]
      obtain ⟨x, hx⟩ := N0.after_of_area s.pkg.fw.n0 ha s.pkg.fw.boots s.pkg.fw.holdup s.faultMap
      rw [hx, N0.area_putArea]
      exact ⟨_, rfl, rfl, rfl⟩

end Sys2Proof.Machine
end

section
/-!
PROOF. A low RESET_N, the stop of REFCLK_MAIN and the loss of VAUX (18:R539, R541, R544, 15:R469).
-/

namespace Sys2Proof

theorem AreaCopy.sound_spoilt (x : AreaCopy) : ({ x with spoilt := true } : AreaCopy).sound = false := rfl

theorem N0.copy_spoil_older (n : N0) (a : Nat) : ((n.spoil (2 * a + n.older a)).copy a (n.older a)).sound = false := by
  have h : (n.spoil (2 * a + n.older a)).copy a (n.older a) = { n.copy a (n.older a) with spoilt := true } := Tab.get_set_self _ _ _ _
  rw [h, AreaCopy.sound_spoilt]

theorem N0.copy_spoil_other (n : N0) (a : Nat) {k j : Nat} (h : k ≠ j) : (n.spoil (2 * a + j)).copy a k = n.copy a k :=
  Tab.get_set_other _ _ _ (by omega)

/-- Copy B is the older one exactly where A is in force. -/
theorem N0.older_eq (n : N0) (a : Nat) :
    n.older a = if (n.copy a 0).sound && (!(n.copy a 1).sound || decide ((n.copy a 1).count ≤ (n.copy a 0).count)) then 1 else 0 := by
  simp only [N0.older]
  cases (n.copy a 0).sound <;> simp

/-- A commit cut short spoils the copy that is not in force (17:R512). -/
theorem N0.area_spoil_older (n : N0) (a : Nat) : (n.spoil (2 * a + n.older a)).area a = n.area a := by
  have hspoilt := n.copy_spoil_older a
  have holder := n.older_eq a
  split at holder
  case isTrue hin =>
    rw [holder] at hspoilt ⊢
    have hsound : (n.copy a 0).sound = true := (Bool.and_eq_true _ _ ▸ hin).1
    have hold : n.area a = some (n.copy a 0) := if_pos hin
    rw [hold]
    simp only [N0.area, hspoilt, n.copy_spoil_other a (k := 0) (j := 1) (by omega), hsound, Bool.not_false, Bool.true_or, Bool.and_self, if_true]
  case isFalse hin =>
    rw [holder] at hspoilt ⊢
    simp only [N0.area, hspoilt, n.copy_spoil_other a (k := 1) (j := 0) (by omega), if_neg hin, Bool.false_and, Bool.false_eq_true, if_false]

/-- Without a started commit nothing is cut short. -/
theorem Fw.cutCommits_of_none {w : Fw} (h : ∀ c ∈ w.commits, c.started = false) : w.cutCommits = w.n0 := by
  have hnone : w.commits.filter (·.started) = [] := List.filter_eq_nil_iff.2 fun c hc => by simp [h c hc]
  simp [Fw.cutCommits, hnone]

/-- The one commit under way leaves the copy in force in force. -/
theorem Fw.area_cutCommits {w : Fw} {c : Commit} {a : Nat} (hq : w.commits = [c]) (hstart : c.started = true) (ha : c.area = some a) :
    w.cutCommits.area a = w.n0.area a := by
  unfold Fw.cutCommits
  split
  · rfl
  · simp only [hq, List.filter_cons, hstart, if_true, List.filter_nil, List.foldl_cons, List.foldl_nil, N0.cut, ha]
    exact w.n0.area_spoil_older a

/-- An entry whose default is 0, where the dictionary holds it alone. -/
theorem Pkg.ent_of_single {s : Pkg} {i j v : Nat} (h : s.dict = if v = 0 then [] else [(dkey i j, v)]) (hdflt : dictDefault i j = 0) :
    s.ent i j = v := by
  by_cases hv : v = 0
  · rw [if_pos hv] at h
    simp only [Pkg.ent, h, Tab.find, Option.getD_none, hdflt, hv]
  · rw [if_neg hv] at h
    simp only [Pkg.ent, h, Tab.find, if_true, Option.getD_some]

/-- What a reset leaves, apart from what it shows. -/
theorem Pkg.afterReset_eq (s : Pkg) : ∃ o, s.afterReset =
    { tempo := { local_ := s.tempo.local_ }
      dict := if s.ent 0x6000 0x13 = 0 then [] else [(dkey 0x6000 0x13, s.ent 0x6000 0x13)]
      pow := { energy := s.pow.energy, aux := s.pow.aux }
      fw := { n0 := s.fw.cutCommits, fuses := s.fw.fuses, holdup := s.fw.holdup, vaux := s.fw.vaux, draws := s.fw.draws, nonce := s.fw.nonce, off := 4 }
      tap := s.tap
      pcie := s.pcie.filterMap (fun e => if e.2.perst then none else some (e.1, { perst := false }))
      lports := s.lports.filterMap (fun e => if e.2.present then some (e.1, { present := true }) else none)
      pins := { resetLow := true, vin := s.pins.vin }
      stamp := s.stamp, out := o, free := s.free }
    ∧ (s.ent 0x1130 6 = 0 → (∀ q, (s.lport q).rst = false) → o = s.out)
    ∧ (s.ent 0x1130 6 ≠ 0 → s.fw.vaux = true → .pin "ALERT_N" 0 true ∈ o) := by
  have hfold (l : List Nat) (k : Pkg) : ∃ o, l.foldl (fun k q => if (s.lport q).rst then k.emit (.pin "LP_RST_N" q false) else k) k = { k with out := o }
      ∧ ((∀ q, (s.lport q).rst = false) → o = k.out) := by
    induction l generalizing k with
    | nil => exact ⟨k.out, rfl, fun _ => rfl⟩
    | cons q l ih =>
      obtain ⟨o, ho, hsame⟩ := ih (if (s.lport q).rst then k.emit (.pin "LP_RST_N" q false) else k)
      refine ⟨o, ?_, fun h => (hsame h).trans (by simp [h q])⟩
      rw [List.foldl_cons, ho]
      split <;> rfl
  unfold Pkg.afterReset
  dsimp only
  obtain ⟨o, ho, hsame⟩ := hfold (List.range lportMax) _
  rw [ho]
  split
  case isTrue h =>
    refine ⟨o, rfl, fun _ hrst => hsame hrst, fun hne hvaux => ?_⟩
    simp [hne, hvaux] at h
  case isFalse h =>
    refine ⟨_, rfl, fun hz => ?_, fun _ _ => List.mem_cons_self⟩
    simp [hz] at h

/-- A trip leaves the package off, for its cause. -/
theorem Pkg.tripNow_off (s : Pkg) (cause d : Nat) : (s.tripNow cause d).fw.off = cause := by
  simp only [Pkg.tripNow, Pkg.shutDown]

@[simp] theorem Pkg.bump_log (s : Pkg) (i j n : Nat) : (s.bump i j n).log = s.log := by
  unfold Pkg.bump
  split <;> rfl

/-- A trip is logged. -/
theorem Pkg.tripNow_log (s : Pkg) (cause d : Nat) :
    ∃ e ∈ (s.tripNow cause d).log, e.code = 0x0605 ∧ e.items = [d, ofSigned 64 ((s.dieTemp d).getD 0), cause] := by
  have hcommit (k : Pkg) : (faultMapCommit k).log = k.log := by
    unfold faultMapCommit
    split <;> rfl
  have hdown (k : Pkg) : (k.shutDown cause).log = k.log := by
    unfold Pkg.shutDown
    dsimp only
    refine Pkg.foldl_keeps Pkg.log (fun k q => ?_) _ k
    unfold Pkg.setRst
    split <;> rfl
  simp only [Pkg.tripNow, hdown, hcommit, Pkg.bump_log, Pkg.log_raise]
  exact ⟨_, List.mem_cons_self, rfl, rfl⟩

/-- The loss of VAUX in a package that is on (18:R539). -/
theorem vauxFail_spec {s : Pkg} (hon : s.fw.off = 0) :
    (vauxFail s).fw.off = 2 ∧ (vauxFail s).fw.vaux = false ∧ (∀ c ∈ (vauxFail s).fw.commits, c.started = true) ∧ (vauxFail s).tap.regs = false := by
  have hoff := s.tripNow_off 2 66
  have hfw : (vauxFail s).fw = { (s.tripNow 2 66).fw with
      vaux := false, off := 2, commits := (s.tripNow 2 66).fw.commits.filter (fun (c : Commit) => c.started) } := by
    simp only [vauxFail, if_pos hon, Pkg.onFw, apply_ite Pkg.fw, Pkg.emit_fw, ite_self, hoff]
  refine ⟨by rw [hfw], by rw [hfw], fun c hc => ?_, by simp only [vauxFail, Pkg.onFw_tap]⟩
  simp only [hfw, List.mem_filter] at hc
  exact hc.2

end Sys2Proof

namespace Sys2Proof.Machine

open Sys2Proof

theorem gives_resetNAssert (s : State) (ns : Nat) : Gives (.resetNAssert ns) s (resetAssert s.pkg ns) := rfl

/-- A stop of at most 1 µs, as a pulse of under 100 ns, changes nothing. -/
theorem exec_refclkLoss_of_le {s : State} {ns : Nat} (hon : s.pkg.fw.off = 0) (h : ns ≤ 1000) : exec (.refclkLoss ns) s = .next s := by
  have hgives := gives_act (exec_refclkLoss ns s) rfl hon
  simp only [refclkLoss, if_neg (Nat.not_lt.2 h)] at hgives
  exact hgives

/-- Settles O10: a reset keeps what `afterReset_eq` lists; the two losses end in the trip. -/
theorem resetPulse : Obligations.ResetPulse := by
  unfold Obligations.ResetPulse
  refine ⟨fun s ns => ⟨fun hlong => ?reset, fun hshort => ?ignored, fun hlow hhigh => ?between⟩,
    fun s hon => ⟨fun ns hns => ?refclk, fun ns hns => exec_refclkLoss_of_le hon hns, ?vaux⟩⟩
  case reset =>
    obtain ⟨o, ho, hsame, halert⟩ := s.pkg.afterReset_eq
    have hreset : resetAssert s.pkg ns = s.pkg.afterReset := by rw [resetAssert, if_neg (by omega), if_pos hlong]
    have h := gives_resetNAssert s ns
    rw [hreset, ho] at h
    refine ⟨_, h, rfl, rfl, rfl, ?_, rfl, rfl, rfl, rfl, rfl, rfl, rfl, rfl, rfl, rfl, hsame, halert, fun hnone => Fw.cutCommits_of_none hnone,
      fun c a hq hstart ha _ => Fw.area_cutCommits hq hstart ha⟩
    exact Pkg.ent_of_single rfl rfl
  case ignored =>
    have h := gives_resetNAssert s ns
    rw [resetAssert, if_pos hshort] at h
    exact h
  case between =>
    have h := gives_resetNAssert s ns
    by_cases heven : Config.freeValue s.pkg.free % 2 = 0
    · have hignored : resetAssert s.pkg ns = { s.pkg with free := s.pkg.free + 1 } := by
        rw [resetAssert, if_neg (Nat.not_lt.2 hlow), if_neg (Nat.not_le.2 hhigh)]
        exact if_pos heven
      rw [hignored] at h
      exact ⟨_, h, .inl rfl⟩
    · have hreset : resetAssert s.pkg ns = ({ s.pkg with free := s.pkg.free + 1 } : Pkg).afterReset := by
        rw [resetAssert, if_neg (Nat.not_lt.2 hlow), if_neg (Nat.not_le.2 hhigh)]
        exact if_neg heven
      obtain ⟨o, ho, -⟩ := ({ s.pkg with free := s.pkg.free + 1 } : Pkg).afterReset_eq
      rw [hreset, ho] at h
      exact ⟨_, h, .inr ⟨rfl, rfl, rfl, rfl⟩⟩
  case refclk =>
    refine ⟨_, gives_act (exec_refclkLoss ns s) rfl hon, ?_⟩
    simp only [refclkLoss, if_pos hns]
    exact ⟨s.pkg.tripNow_off 2 66, s.pkg.tripNow_log 2 66⟩
  case vaux =>
    obtain ⟨hoff, hvaux, hcommits, htap⟩ := vauxFail_spec hon
    have hdrive (runs : Bool) : (vauxFail s.pkg).drive runs = .highZ := by simp [Pkg.drive, hvaux]
    have hpowered : (vauxFail s.pkg).powered = false := by simp [Pkg.powered, hvaux]
    refine ⟨_, rfl, hoff, hvaux, hcommits, htap, by simp [Pkg.alertLow, hvaux], hdrive _, fun n => ⟨hdrive _, hdrive _, hdrive _, ?_⟩⟩
    simp only [Pkg.atnikTerm, Pkg.lenpelTerm, Pkg.pcieTerm, Pkg.lpRst, hpowered, Bool.false_and, and_self]

end Sys2Proof.Machine
end

section
/-!
PROOF. Firmware, power, pins, ports of the host and of the board, and Tempo stand apart from what stops a partition: discarding its work,
its requests and its collectives leaves them as they are (14:R431, 13:R416).
-/

namespace Sys2Proof

open Sys2Proof.Machine

/-- The package without what sending touches: what it counted, reported and showed, its ports and requests, and the time of its last
synchronisation request. -/
def Pkg.unsent (s : Pkg) : Pkg := { s.bare with net := {}, tempo := { s.tempo with sent := none } }

theorem Pkg.keeps_of_unsent {α : Type} (g : Pkg → α) (hg : ∀ s, g s.unsent = g s) {s t : Pkg} (h : s.unsent = t.unsent) : g s = g t := by
  rw [← hg s, h, hg]

@[simp] theorem Pkg.setPort_unsent (s : Pkg) (n : Nat) (x : APort) : (s.setPort n x).unsent = s.unsent := rfl
@[simp] theorem Pkg.setReq_unsent (s : Pkg) (r : Req) : (s.setReq r).unsent = s.unsent := rfl
@[simp] theorem Pkg.setCtx_unsent (s : Pkg) (n : Nat) (c : Ctx) : (s.setCtx n c).unsent = s.unsent := rfl
@[simp] theorem Pkg.dropReqs_unsent (s : Pkg) (p : Req → Bool) : (s.dropReqs p).unsent = s.unsent := rfl
@[simp] theorem Pkg.setEnt_unsent (s : Pkg) (i j v : Nat) : (s.setEnt i j v).unsent = s.unsent := rfl
@[simp] theorem Pkg.emit_unsent (s : Pkg) (o : Out) : (s.emit o).unsent = s.unsent := rfl
@[simp] theorem Pkg.newMsg_unsent (s : Pkg) : s.newMsg.2.unsent = s.unsent := rfl

theorem Pkg.withNet_unsent (s : Pkg) (x : Fabric) : Pkg.unsent { s with net := x } = s.unsent := rfl

@[simp] theorem Pkg.bump_unsent (s : Pkg) (i j n : Nat) : (s.bump i j n).unsent = s.unsent := by
  unfold Pkg.bump
  split <;> rfl

@[simp] theorem Pkg.peak_unsent (s : Pkg) (i j n : Nat) : (s.peak i j n).unsent = s.unsent := by
  unfold Pkg.peak
  split <;> rfl

@[simp] theorem Pkg.raise_unsent (s : Pkg) (code part : Nat) (items : List Nat) (raw : List Byte) : (s.raise code part items raw).unsent = s.unsent :=
  s.keeps_raise Pkg.unsent (fun _ => rfl) code part items raw

@[simp] theorem Pkg.cancelQueued_unsent (s : Pkg) (p : QPkt → Bool) : (s.cancelQueued p).2.unsent = s.unsent :=
  Pkg.foldl_keeps Pkg.unsent (fun k (e : Nat × APort) => k.setPort_unsent e.1 _) _ s

@[simp] theorem Pkg.sendEnvelope_unsent (s : Pkg) (n vc : Nat) (link body : List Byte) : (s.sendEnvelope n vc link body).unsent = s.unsent := by
  simp only [Pkg.sendEnvelope, apply_ite Pkg.unsent, Pkg.emit_unsent, Pkg.setPort_unsent, ite_self]

@[simp] theorem Pkg.sendBare_unsent (s : Pkg) (n ltype : Nat) : (s.sendBare n ltype).unsent = s.unsent := by
  simp only [Pkg.sendBare, Pkg.sendEnvelope_unsent, Pkg.setPort_unsent]

@[simp] theorem Pkg.sendData_unsent (s : Pkg) (n vc seq : Nat) (packet : List Byte) : (s.sendData n vc seq packet).unsent = s.unsent := by
  simp only [Pkg.sendData, apply_ite Pkg.unsent, Pkg.sendBare_unsent, ite_self]
  split <;> simp only [Pkg.sendEnvelope_unsent, Pkg.setPort_unsent]

/-- The departure of a synchronisation packet is noted at the package, and moves no clock. -/
@[simp] theorem Pkg.stampSync_unsent (s : Pkg) (packet : List Byte) : (s.stampSync packet).1.unsent = s.unsent := by
  have hsent (x : Nat × Nat) : Pkg.unsent { s with tempo := { s.tempo with sent := some x } } = s.unsent := rfl
  simp only [Pkg.stampSync, apply_ite Prod.fst, apply_ite Pkg.unsent, hsent, ite_self]

theorem Pkg.grantReq_unsent {s k : Pkg} {n : Nat} {q : QPkt} {packet : List Byte} (h : s.grantReq n q = some (k, packet)) : k.unsent = s.unsent := by
  have hgranted (k : Pkg) (l : Tab Nat) : Pkg.unsent { k with net := { k.net with granted := l } } = k.unsent := rfl
  unfold Pkg.grantReq at h
  split at h
  · rw [← s.stampSync_unsent q.packet, Option.some.inj h]
  · split at h
    · cases h
    · dsimp only at h
      split at h <;> cases h
      all_goals
        simp only [Pkg.setReq_unsent, Pkg.setCtx_unsent, hgranted]
        split <;> simp only [Pkg.bump_unsent]

@[simp] theorem Pkg.pumpN_unsent (n fuel : Nat) (s : Pkg) : (s.pumpN n fuel).unsent = s.unsent := by
  induction fuel generalizing s with
  | zero => rfl
  | succ fuel ih =>
    rw [Pkg.pumpN]
    dsimp only
    split
    · rfl
    split
    · rfl
    split
    · rfl
    split
    · exact ih _
    · rename_i hgrant
      rw [ih, Pkg.sendData_unsent, Pkg.setPort_unsent, Pkg.grantReq_unsent hgrant, Pkg.setPort_unsent]

@[simp] theorem Pkg.idleOut_unsent (n fuel : Nat) (s : Pkg) : (s.idleOut n fuel).unsent = s.unsent := by
  induction fuel generalizing s with
  | zero => rfl
  | succ fuel ih => simp only [Pkg.idleOut, apply_ite Pkg.unsent, ih, Pkg.sendBare_unsent, ite_self]

@[simp] theorem Pkg.pump_unsent (s : Pkg) (n : Nat) : (s.pump n).unsent = s.unsent := by
  simp only [Pkg.pump, Pkg.idleOut_unsent, Pkg.pumpN_unsent]

@[simp] theorem Pkg.post_unsent (s : Pkg) (n vc : Nat) (packet : List Byte) (msg req : Nat) : (s.post n vc packet msg req).unsent = s.unsent := by
  simp only [Pkg.post, Pkg.pump_unsent, Pkg.setPort_unsent]

@[simp] theorem Pkg.sendReq_unsent (s : Pkg) (part : Nat) (src : ReqSrc) (h : Hdr) (payload : List Byte) (msg : Nat) :
    (s.sendReq part src h payload msg).1.unsent = s.unsent := by
  unfold Pkg.sendReq
  dsimp only
  split
  · simp only [apply_ite Prod.snd, apply_ite Pkg.unsent, Pkg.raise_unsent, Pkg.bump_unsent, Pkg.newMsg_unsent, ite_self]
  · split <;>
      simp only [apply_ite Prod.fst, apply_ite Prod.snd, apply_ite Pkg.unsent, Pkg.post_unsent, Pkg.bump_unsent, Pkg.setCtx_unsent,
        Pkg.withNet_unsent, Pkg.newMsg_unsent, ite_self]

@[simp] theorem Pkg.collSend_unsent (s : Pkg) (p seq node kind idx : Nat) (payload : List Byte) :
    (s.collSend p seq node kind idx payload).1.unsent = s.unsent :=
  s.sendReq_unsent p _ _ payload _

@[simp] theorem Pkg.collSends_unsent (p seq kind idx : Nat) (payload : List Byte) (l : List Nat) (s : Pkg) :
    (l.foldl (fun s m => (s.collSend p seq m kind idx payload).1) s).unsent = s.unsent := by
  induction l generalizing s with
  | nil => rfl
  | cons m l ih => rw [List.foldl_cons, ih, Pkg.collSend_unsent]

/-- The package without what the end of a partition's work touches: what it counted, reported and sent, the bytes it wrote, units, and work
under way. -/
def Pkg.rest (s : Pkg) : Pkg :=
  { s with dict := [], log := [], out := [], mgmt := {}, net := {}, dstore := [], invals := [], harts := [], tiles := [], sdies := [], scache := []
           engines := [], solveWait := [], tier := {}, colls := [], collWait := [], collGone := [], fault := {}, tempo := { s.tempo with sent := none } }

theorem Pkg.keeps_of_rest {α : Type} (g : Pkg → α) (hg : ∀ s, g s.rest = g s) {s t : Pkg} (h : s.rest = t.rest) : g s = g t := by
  rw [← hg s, h, hg]

/-- Firmware, power, pins, the test port, the PCIe and Lenpel ports, the Tempo counter and local time. -/
def Pkg.firm (s : Pkg) : Fw × Power × Pins × Tap × Tab Pcie × Tab LPort × Nat × Nat :=
  (s.fw, s.pow, s.pins, s.tap, s.pcie, s.lports, s.tempo.now, s.tempo.local_)

theorem Pkg.firm_of_rest {s t : Pkg} (h : s.rest = t.rest) : s.firm = t.firm := Pkg.keeps_of_rest Pkg.firm (fun _ => rfl) h

theorem Pkg.parts_of_rest {s t : Pkg} (h : s.rest = t.rest) : s.parts = t.parts := Pkg.keeps_of_rest Pkg.parts (fun _ => rfl) h

theorem Pkg.rest_of_unsent {s t : Pkg} (h : s.unsent = t.unsent) : s.rest = t.rest := Pkg.keeps_of_unsent Pkg.rest (fun _ => rfl) h

@[simp] theorem Pkg.setEnt_rest (s : Pkg) (i j v : Nat) : (s.setEnt i j v).rest = s.rest := rfl
@[simp] theorem Pkg.dropReqs_rest (s : Pkg) (p : Req → Bool) : (s.dropReqs p).rest = s.rest := rfl
theorem Pkg.withNet_rest (s : Pkg) (x : Fabric) : Pkg.rest { s with net := x } = s.rest := rfl

@[simp] theorem Pkg.bump_rest (s : Pkg) (i j n : Nat) : (s.bump i j n).rest = s.rest := Pkg.rest_of_unsent (s.bump_unsent i j n)

@[simp] theorem Pkg.peak_rest (s : Pkg) (i j n : Nat) : (s.peak i j n).rest = s.rest := Pkg.rest_of_unsent (s.peak_unsent i j n)

@[simp] theorem Pkg.raise_rest (s : Pkg) (code part : Nat) (items : List Nat) (raw : List Byte) : (s.raise code part items raw).rest = s.rest :=
  Pkg.rest_of_unsent (s.raise_unsent code part items raw)

@[simp] theorem Pkg.cancelQueued_rest (s : Pkg) (p : QPkt → Bool) : (s.cancelQueued p).2.rest = s.rest := Pkg.rest_of_unsent (s.cancelQueued_unsent p)

@[simp] theorem Pkg.collSends_rest (p seq kind idx : Nat) (payload : List Byte) (l : List Nat) (s : Pkg) :
    (l.foldl (fun s m => (s.collSend p seq m kind idx payload).1) s).rest = s.rest := Pkg.rest_of_unsent (Pkg.collSends_unsent p seq kind idx payload l s)

@[simp] theorem Pkg.setTile_rest (s : Pkg) (t : Nat) (x : Tile) : (s.setTile t x).rest = s.rest := rfl
@[simp] theorem Pkg.setHart_rest (s : Pkg) (h : Nat) (x : Hart) : (s.setHart h x).rest = s.rest := rfl
@[simp] theorem Pkg.setSdie_rest (s : Pkg) (d : Nat) (x : SDie) : (s.setSdie d x).rest = s.rest := rfl
@[simp] theorem Pkg.dropColl_rest (s : Pkg) (p n : Nat) : (s.dropColl p n).rest = s.rest := rfl
@[simp] theorem Pkg.setEngine_rest (s : Pkg) (e : Nat) (x : Engine) : (s.setEngine e x).rest = s.rest := rfl
@[simp] theorem Pkg.dropResv_rest (s : Pkg) (l : List Nat) (own : Nat) : (s.dropResv l own).rest = s.rest := rfl
@[simp] theorem Pkg.dstorePut_rest (s : Pkg) (a : Nat) (d : List Byte) : (s.dstorePut a d).rest = s.rest := rfl

theorem Pkg.withTier_rest (s : Pkg) (x : Tier) : Pkg.rest { s with tier := x } = s.rest := rfl

@[simp] theorem Pkg.castlingRecord_rest (s : Pkg) (r : CRec) : (s.castlingRecord r).rest = s.rest := by
  have hrec (k : Pkg) (l : Tab (List Byte)) (b : Bool) : Pkg.rest { k with fault := { k.fault with pendingMap := b, records := l } } = k.rest := rfl
  simp only [Pkg.castlingRecord, apply_ite Pkg.rest, Pkg.raise_rest, Pkg.bump_rest, Pkg.peak_rest, Pkg.setEnt_rest, ite_self]
  exact hrec s _ _

@[simp] theorem Pkg.dstoreAcc_rest (s : Pkg) (p a : Nat) (d : List Byte) : (s.dstoreAcc p a d).rest = s.rest := by
  simp only [Pkg.dstoreAcc, Pkg.bump_rest, Pkg.dstorePut_rest]

@[simp] theorem Pkg.countWrite_rest (s : Pkg) (p home a n : Nat) : (s.countWrite p home a n).rest = s.rest := by
  simp only [Pkg.countWrite, apply_ite Pkg.rest, Pkg.bump_rest, ite_self]

@[simp] theorem Pkg.writeThrough_rest (s : Pkg) (h a : Nat) (d : List Byte) : (s.writeThrough h a d).rest = s.rest := by
  simp only [Pkg.writeThrough, Pkg.dropResv_rest, Pkg.bump_rest]
  rfl

@[simp] theorem Pkg.applyWrite_rest (s : Pkg) (w : DWrite) : (s.applyWrite w).rest = s.rest := by
  unfold Pkg.applyWrite
  split
  · simp only [Pkg.applyTile, apply_ite Pkg.rest, Pkg.dstoreAcc_rest, Pkg.dstorePut_rest, Pkg.countWrite_rest, Pkg.setTile_rest, ite_self]
  · simp only [Pkg.applyHart, apply_ite Pkg.rest, Pkg.writeThrough_rest, Pkg.countWrite_rest, Pkg.setHart_rest, ite_self]
  · simp only [Pkg.dwordInc, apply_ite Pkg.rest, Pkg.dstorePut_rest, ite_self]

@[simp] theorem Pkg.takeWrites_rest (s : Pkg) (p : DWrite → Bool) : (s.takeWrites p).2.rest = s.rest :=
  Pkg.foldl_keeps Pkg.rest (fun k (e : Nat × SDie) => k.setSdie_rest e.1 _) _ s

@[simp] theorem Pkg.collRecord_rest (s : Pkg) (c : Coll) (f : CRecF) : (s.collRecord c f).rest = s.rest := s.dstorePut_rest _ _

@[simp] theorem Pkg.collRemember_rest (s : Pkg) (p seq status origin : Nat) (remote : Bool) :
    (s.collRemember p seq status origin remote).rest = s.rest := by
  unfold Pkg.collRemember
  split <;> rfl

@[simp] theorem Pkg.collAbort_rest (s : Pkg) (p seq status origin : Nat) (remote : Bool) (offend : Nat) :
    (s.collAbort p seq status origin remote offend).rest = s.rest := by
  unfold Pkg.collAbort
  split
  · rfl
  · simp only [apply_ite Pkg.rest, Pkg.raise_rest, Pkg.bump_rest, Pkg.setEnt_rest, Pkg.collRemember_rest, Pkg.dstorePut_rest,
      Pkg.collRecord_rest, Pkg.collSends_rest, Pkg.dropColl_rest, Pkg.dropReqs_rest, Pkg.cancelQueued_rest, ite_self]

@[simp] theorem Pkg.stopUnits_rest (s : Pkg) (p : Nat) : (s.stopUnits p).rest = s.rest := by
  have hunits (k : Pkg) (ts : Tab Tile) (hs : Tab Hart) : Pkg.rest { k with tiles := ts, harts := hs } = k.rest := rfl
  simp only [Pkg.stopUnits, hunits, Pkg.foldl_keeps Pkg.rest Pkg.applyWrite_rest, Pkg.takeWrites_rest]

@[simp] theorem Pkg.cancelPart_rest (s : Pkg) (p : Nat) : (s.cancelPart p).rest = s.rest := by
  simp only [Pkg.cancelPart, Pkg.withNet_rest, Pkg.dropReqs_rest, Pkg.bump_rest, Pkg.cancelQueued_rest]

@[simp] theorem Pkg.abortColls_rest (s : Pkg) (p : Nat) : (s.abortColls p).rest = s.rest := by
  unfold Pkg.abortColls
  exact Pkg.foldl_keeps Pkg.rest (fun k (c : Coll) => k.collAbort_rest p c.seq 4 k.node false k.node) _ _

@[simp] theorem Pkg.remapDone_rest (s : Pkg) (e : Nat) : (s.remapDone e).rest = s.rest := by
  have hgroup (k : Pkg) : (k.repairGroup 3 e).rest = k.rest := rfl
  simp only [Pkg.remapDone, apply_ite Pkg.rest, Pkg.castlingRecord_rest, hgroup, Pkg.setEngine_rest, ite_self]

@[simp] theorem Pkg.discardWork_rest (s : Pkg) (p : Nat) : (s.discardWork p).rest = s.rest := by
  have hwork (k : Pkg) (l : List SolveReq) (es : Tab Engine) : Pkg.rest { k with solveWait := l, engines := es } = k.rest := rfl
  simp only [Pkg.discardWork, Pkg.withTier_rest, Pkg.bump_rest, Pkg.foldl_keeps Pkg.rest fun k (e : Nat × Engine) => k.remapDone_rest e.1]
  exact (hwork _ _ _).trans (s.bump_rest _ _ _)

@[simp] theorem Pkg.setPart_firm (s : Pkg) (p : Nat) (x : Part) : (s.setPart p x).firm = s.firm := rfl

@[simp] theorem Pkg.bump_firm (s : Pkg) (i j n : Nat) : (s.bump i j n).firm = s.firm := Pkg.firm_of_rest (s.bump_rest i j n)

@[simp] theorem Pkg.castlingRecord_firm (s : Pkg) (r : CRec) : (s.castlingRecord r).firm = s.firm := Pkg.firm_of_rest (s.castlingRecord_rest r)

/-- A partition that halts: its units stop, its traffic, collectives and work are given up, and what it had to record is forgotten. -/
theorem Pkg.haltPart_eq (s : Pkg) (p : Nat) : ∃ k : Pkg, s.haltPart p = k.setPart p { k.part p with
      recd := { (k.part p).recd with mode := 0, wait := [], entries := [] } } ∧ k.rest = s.rest := by
  refine ⟨_, rfl, ?_⟩
  rw [Pkg.discardWork_rest, Pkg.abortColls_rest, Pkg.cancelPart_rest, Pkg.stopUnits_rest]

@[simp] theorem Pkg.haltPart_firm (s : Pkg) (p : Nat) : (s.haltPart p).firm = s.firm := by
  obtain ⟨k, hk, hrest⟩ := s.haltPart_eq p
  rw [hk, Pkg.setPart_firm, Pkg.firm_of_rest hrest]

@[simp] theorem Pkg.faultPart_firm (s : Pkg) (p : Nat) : (s.faultPart p).firm = s.firm := by
  simp only [Pkg.faultPart, apply_ite Pkg.firm, Pkg.endYields, Pkg.setPart_firm, Pkg.haltPart_firm, ite_self]

@[simp] theorem Pkg.outOfScope_firm (s : Pkg) (r : CRec) (ps : List Nat) : (s.outOfScope r ps).firm = s.firm := by
  rw [Pkg.outOfScope, Pkg.castlingRecord_firm, Pkg.foldl_keeps Pkg.firm Pkg.faultPart_firm]

theorem Pkg.fw_of_firm {s t : Pkg} (h : s.firm = t.firm) : s.fw = t.fw := congrArg (·.1) h

end Sys2Proof
end

section
/-!
PROOF. A cold start up to the boot epoch (01:R37, 17:R519, R522, R523).
-/

namespace Sys2Proof

theorem keeps_ite {α : Type} (g : Pkg → α) {c : Prop} [Decidable c] {a b : Pkg} {x : α} (ha : g a = x) (hb : g b = x) : g (if c then a else b) = x := by
  split
  · exact ha
  · exact hb

/-- The start's own marks in firmware, and N0's contents. -/
def Fw.startMarks (w : Fw) : (Nat × Bool × Nat × Option ColdObs × Bool × Bool × List Commit) × Tab AreaCopy × Tab (List Byte) :=
  ((w.off, w.vaux, w.t0, w.cold, w.dict, w.loadable, w.commits), w.n0.copies, w.n0.slots)

@[simp] theorem Fw.extend_startMarks (w : Fw) (i : Nat) (d : List Byte) : (w.extend i d).startMarks = w.startMarks := rfl

theorem Fw.service_startMarks (w : Fw) (i : Nat) (img : List Byte) :
    Fw.startMarks { w with started := true, up := true, slot := i, service := img } = w.startMarks := rfl

/-- What the steps of a start up to the boot epoch do not touch: these marks, the network, the pins and the test port. -/
def Pkg.startMarks (s : Pkg) : ((Nat × Bool × Nat × Option ColdObs × Bool × Bool × List Commit) × Tab AreaCopy × Tab (List Byte)) × Fabric × Pins × Tap :=
  (s.fw.startMarks, s.net, s.pins, s.tap)

/-- The PCIe ports with the two settings they take at a start. -/
def Pkg.pcieMarks (s : Pkg) : Tab Pcie × Nat × Nat := (s.pcie, s.ent 0x1010 2, s.ent 0x1010 3)

@[simp] theorem Pkg.raise_startMarks (s : Pkg) (code part : Nat) (items : List Nat) (raw : List Byte) :
    (s.raise code part items raw).startMarks = s.startMarks :=
  s.keeps_raise Pkg.startMarks (fun _ => rfl) code part items raw

@[simp] theorem Pkg.raise_pcieMarks (s : Pkg) (code part : Nat) (items : List Nat) (raw : List Byte) :
    (s.raise code part items raw).pcieMarks = s.pcieMarks := by
  have hpcie : (s.raise code part items raw).pcie = s.pcie := s.keeps_raise Pkg.pcie (fun _ => rfl) code part items raw
  simp only [Pkg.pcieMarks, hpcie, s.ent_raise code part items raw (show dkey 0x1010 2 ≠ dkey 0x1130 6 by decide) (by decide),
    s.ent_raise code part items raw (show dkey 0x1010 3 ≠ dkey 0x1130 6 by decide) (by decide)]

@[simp] theorem Pkg.setEnt_startMarks (s : Pkg) (i j v : Nat) : (s.setEnt i j v).startMarks = s.startMarks := rfl

@[simp] theorem Pkg.setPci_startMarks (s : Pkg) (k : Nat) (x : Pcie) : (s.setPci k x).startMarks = s.startMarks := rfl

theorem Pkg.onFw_startMarks (s : Pkg) (f : Fw → Fw) : (s.onFw f).startMarks = ((f s.fw).startMarks, s.net, s.pins, s.tap) := rfl

@[simp] theorem Pkg.onFw_pcieMarks (s : Pkg) (f : Fw → Fw) : (s.onFw f).pcieMarks = s.pcieMarks := rfl

/-- The saved entries are loaded (16:R480). -/
theorem Pkg.loadSaved_startMarks (s : Pkg) : s.loadSaved.startMarks = s.startMarks := by
  unfold Pkg.loadSaved
  dsimp only
  split
  · exact Pkg.raise_startMarks _ _ _ _ _
  · exact Pkg.foldl_keeps Pkg.startMarks (fun k (e : Nat × Nat) => Pkg.setEnt_startMarks k _ _ _) _ s

/-- A version register is no setting of a PCIe port. -/
theorem Pkg.setEnt_pcieMarks (s : Pkg) {j : Nat} (v : Nat) (hj : j < 256) : (s.setEnt 0x1000 j v).pcieMarks = s.pcieMarks := by
  have hpcie : (s.setEnt 0x1000 j v).pcie = s.pcie := rfl
  simp only [Pkg.pcieMarks, hpcie, s.ent_setEnt_other v (show dkey 0x1010 2 ≠ dkey 0x1000 j by unfold dkey; omega),
    s.ent_setEnt_other v (show dkey 0x1010 3 ≠ dkey 0x1000 j by unfold dkey; omega)]

@[simp] theorem Pkg.serviceHarts_startMarks (s : Pkg) (run : Bool) : (s.serviceHarts run).startMarks = s.startMarks :=
  Pkg.foldl_keeps Pkg.startMarks (fun k h => by split <;> rfl) _ s

@[simp] theorem Pkg.serviceHarts_pcieMarks (s : Pkg) (run : Bool) : (s.serviceHarts run).pcieMarks = s.pcieMarks :=
  Pkg.foldl_keeps Pkg.pcieMarks (fun k h => by split <;> rfl) _ s

/-- The patch is verified (17:R518). -/
theorem Pkg.bootPatch_startMarks (s : Pkg) : s.bootPatch.startMarks = s.startMarks := by
  rw [Pkg.bootPatch, Pkg.setEnt_startMarks, Pkg.onFw_startMarks]
  simp only [Fw.extend_startMarks]
  rfl

theorem Pkg.bootPatch_pcieMarks (s : Pkg) : s.bootPatch.pcieMarks = s.pcieMarks := by
  rw [Pkg.bootPatch, Pkg.setEnt_pcieMarks _ _ (by decide), Pkg.onFw_pcieMarks]

/-- The service slot is chosen (17:R519). -/
theorem Pkg.bootService_startMarks (s : Pkg) : s.bootService.startMarks = s.startMarks := by
  unfold Pkg.bootService
  dsimp only
  rw [Pkg.onFw_startMarks]
  rw [Fw.extend_startMarks]
  refine Eq.trans (b := Pkg.startMarks _) rfl (keeps_ite Pkg.startMarks ?_ (keeps_ite Pkg.startMarks ?_ ?_))
  · rw [Pkg.serviceHarts_startMarks, Pkg.setEnt_startMarks, Pkg.onFw_startMarks, Fw.service_startMarks, Fw.extend_startMarks]
    rfl
  · rw [Pkg.serviceHarts_startMarks, Pkg.setEnt_startMarks, Pkg.onFw_startMarks, Fw.service_startMarks, Fw.extend_startMarks]
    exact Pkg.raise_startMarks s _ _ _ _
  · rw [Pkg.raise_startMarks, Pkg.onFw_startMarks]
    rfl

theorem Pkg.bootService_pcieMarks (s : Pkg) : s.bootService.pcieMarks = s.pcieMarks := by
  unfold Pkg.bootService
  dsimp only
  rw [Pkg.onFw_pcieMarks]
  refine keeps_ite Pkg.pcieMarks ?_ (keeps_ite Pkg.pcieMarks ?_ ?_)
  · rw [Pkg.serviceHarts_pcieMarks, Pkg.setEnt_pcieMarks _ _ (by decide), Pkg.onFw_pcieMarks]
  · rw [Pkg.serviceHarts_pcieMarks, Pkg.setEnt_pcieMarks _ _ (by decide), Pkg.onFw_pcieMarks, Pkg.raise_pcieMarks]
  · rw [Pkg.raise_pcieMarks, Pkg.onFw_pcieMarks]

/-- An empty slot holds no image that passes (17:R518). -/
theorem Pkg.slotCheck_nil (s : Pkg) {slot : Nat} (h : slot < 2) : s.slotCheck slot [] = 1 := by
  rw [Pkg.slotCheck, if_neg (by omega), Pkg.imageCheck]
  exact if_pos (by simp; left; decide)

/-- With both slots empty firmware enters recovery (17:R524). -/
theorem Pkg.bootService_of_empty {s : Pkg} (h : s.fw.n0.slots = []) :
    s.bootService.fw.st = 2 ∧ s.bootService.fw.started = s.fw.started ∧ Machine.Reports s.bootService 0x0703 0xFF [4, 1] := by
  have hc (slot : Nat) (hs : slot < 2) : s.slotCheck slot (Tab.get [] s.fw.n0.slots slot) = 1 := by
    rw [h]
    exact s.slotCheck_nil hs
  have hfirst : ¬(fld (Tab.get [] s.fw.n0.slots 0) 16 4 < fld (Tab.get [] s.fw.n0.slots 1) 16 4) := by
    rw [h]
    decide
  have hfw : ((s.onFw (fun w => { w with st := 2 })).raise 0x0703 0xFF [4, 1]).fw = { s.fw with st := 2 } :=
    Pkg.keeps_raise Pkg.fw (fun _ => rfl) _ _ _ _ _
  simp only [Pkg.bootService, if_neg hfirst, hc 0 (by omega), hc 1 (by omega), Nat.sub_zero, Nat.one_ne_zero, if_false]
  simp only [Pkg.onFw] at hfw ⊢
  rw [hfw]
  exact ⟨rfl, rfl, Pkg.reports_raise _ _ _ _ _⟩

/-- What a start makes of the reset package before it loads the saved entries. -/
def Pkg.startBegun (s : Pkg) (o : ColdObs) : Pkg :=
  let k := s.afterReset
  let k := if s.fw.vaux then k else { k with pow := {}, fw := { k.fw with holdup := {}, vaux := true } }
  let k := { k with tap := { k.tap with ir := 3, regs := false }, pins := { vin := o.vin }, net := { slot := o.slot % 4 } }
  let n := (o.badCopies.filter (fun c => decide (c < 8))).foldl N0.spoil k.fw.n0
  k.onFw (fun w => { w with off := 0, t0 := k.tempo.local_, nonce := w.draws + 1, draws := w.draws + 1, cold := some o, n0 := n })

/-- The PCIe ports take their settings. -/
def Pkg.pcieSettings (s : Pkg) : Pkg :=
  ([0, 1] : List Nat).foldl (fun k p => k.setPci p { k.pci p with refclk := k.ent 0x1010 2, maxRate := k.ent 0x1010 3 }) s

/-- The boot epoch is formed, and its commit waits. -/
def Pkg.epochAsked (s : Pkg) : Pkg :=
  let e := (s.fw.n0.epoch + 1) % 2 ^ 32
  ({ s with net := { s.net with epoch := e } }.onFw (fun w => { w with boots := (s.fw.n0.boots + 1) % 2 ^ 32 })).addCommit
    { kind := 0, bytes := 32768, value := e }

theorem coldStart_of_canStart {s : Pkg} {o : ColdObs} (h : s.canStart o = true) :
    coldStart s o = (s.startBegun o).loadSaved.pcieSettings.bootPatch.bootService.epochAsked := by
  rw [coldStart, if_neg (by simp [h])]
  unfold Pkg.epochAsked Pkg.pcieSettings Pkg.startBegun
  with_reducible rfl

theorem coldStart_of_not_canStart {s : Pkg} {o : ColdObs} (h : s.canStart o = false) : coldStart s o = s := by
  rw [coldStart, if_pos (by simp [h])]

/-- The marks with which a start begins, where no commit waits and no copy of N0 is spoilt. -/
theorem Pkg.startBegun_marks {s : Pkg} {o : ColdObs} (hc : s.fw.commits = []) (hb : o.badCopies = []) :
    (s.startBegun o).startMarks = (((0, true, s.tempo.local_, some o, false, false, []), s.fw.n0.copies, s.fw.n0.slots),
      { slot := o.slot % 4 }, { vin := o.vin }, { s.tap with ir := 3, regs := false })
    ∧ (s.startBegun o).fw.started = false := by
  obtain ⟨out, hreset, -⟩ := s.afterReset_eq
  have hn0 : s.fw.cutCommits = s.fw.n0 := Fw.cutCommits_of_none (by simp [hc])
  simp only [Pkg.startBegun, hreset, hn0, hb, List.filter_nil, List.foldl_nil]
  cases hv : s.fw.vaux
  · exact ⟨rfl, rfl⟩
  · exact ⟨rfl, rfl⟩

theorem Pkg.pcieSettings_pci (s : Pkg) {p : Nat} (hp : p < 2) :
    (s.pcieSettings.pci p).refclk = s.ent 0x1010 2 ∧ (s.pcieSettings.pci p).maxRate = s.ent 0x1010 3 := by
  have hent (k : Pkg) (q : Nat) (x : Pcie) (j : Nat) : (k.setPci q x).ent 0x1010 j = k.ent 0x1010 j := rfl
  simp only [Pkg.pcieSettings, List.foldl_cons, List.foldl_nil, hent]
  obtain rfl | rfl : p = 0 ∨ p = 1 := by omega
  · rw [Pkg.pci_setPci_other _ _ (by decide), Pkg.pci_setPci]
    exact ⟨rfl, rfl⟩
  · rw [Pkg.pci_setPci]
    exact ⟨rfl, rfl⟩

theorem Pkg.pcieSettings_startMarks (s : Pkg) : s.pcieSettings.startMarks = s.startMarks := rfl

theorem Pkg.loadSaved_started (s : Pkg) : s.loadSaved.fw.started = s.fw.started := by
  unfold Pkg.loadSaved
  dsimp only
  split
  · exact Pkg.keeps_raise (fun k => k.fw.started) (fun _ => rfl) _ _ _ _ _
  · exact Pkg.foldl_keeps (fun k => k.fw.started) (fun k (e : Nat × Nat) => congrArg Fw.started (Pkg.setEnt_fw k _ _ _)) _ s

theorem Pkg.bootPatch_started (s : Pkg) : s.bootPatch.fw.started = s.fw.started := rfl

theorem N0.epoch_of_copies {n m : N0} (h : n.copies = m.copies) : n.epoch = m.epoch ∧ n.boots = m.boots := by
  have hcopy (a k : Nat) : n.copy a k = m.copy a k := by rw [N0.copy, h]; rfl
  have harea : n.area 0 = m.area 0 := by
    simp only [N0.area]
    rw [hcopy 0 0, hcopy 0 1]
  exact ⟨by rw [N0.epoch, harea]; rfl, by rw [N0.boots, harea]; rfl⟩

/-- What a start leaves, up to the boot epoch's commit, where the reset package loads its entries and its image. -/
theorem startedPkg_spec {s : Pkg} {o : ColdObs} (hc : s.fw.commits = []) (hb : o.badCopies = []) :
    let k := (s.startBegun o).loadSaved.pcieSettings.bootPatch.bootService.epochAsked
    k.net.slot = o.slot % 4 ∧ k.net.epoch = (s.fw.n0.epoch + 1) % 2 ^ 32 ∧ k.fw.boots = (s.fw.n0.boots + 1) % 2 ^ 32
      ∧ (∀ p, p < 2 → (k.pci p).refclk = k.ent 0x1010 2 ∧ (k.pci p).maxRate = k.ent 0x1010 3)
      ∧ k.fw.t0 = s.tempo.local_ ∧ k.fw.off = 0 ∧ k.fw.vaux = true ∧ k.fw.cold = some o ∧ k.fw.dict = false ∧ k.fw.loadable = false
      ∧ k.pins = { vin := o.vin } ∧ k.tap.ir = 3
      ∧ (∃ c, k.fw.commits = [c] ∧ c.kind = 0 ∧ c.bytes = 32768 ∧ c.value = (s.fw.n0.epoch + 1) % 2 ^ 32 ∧ c.started = false)
      ∧ (s.fw.n0.slots = [] → k.fw.st = 2 ∧ k.fw.started = false ∧ Machine.Reports k 0x0703 0xFF [4, 1]) := by
  obtain ⟨hmarks, hstarted⟩ := Pkg.startBegun_marks (s := s) (o := o) hc hb
  have hset := fun p (hp : p < 2) => (s.startBegun o).loadSaved.pcieSettings_pci hp
  have hentries (j : Nat) : (s.startBegun o).loadSaved.ent 0x1010 j = (s.startBegun o).loadSaved.pcieSettings.ent 0x1010 j := rfl
  simp only [hentries] at hset
  rw [← Pkg.loadSaved_startMarks, ← Pkg.pcieSettings_startMarks] at hmarks
  rw [← Pkg.loadSaved_started] at hstarted
  replace hstarted : (s.startBegun o).loadSaved.pcieSettings.fw.started = false := hstarted
  generalize (s.startBegun o).loadSaved.pcieSettings = k at *
  clear hentries
  have hpcie := k.bootPatch.bootService_pcieMarks.trans k.bootPatch_pcieMarks
  have hempty := fun h => Pkg.bootService_of_empty (s := k.bootPatch) h
  have hslots : k.bootPatch.fw.n0.slots = k.fw.n0.slots := rfl
  rw [k.bootPatch_started, hstarted] at hempty
  have hsame := k.bootPatch.bootService_startMarks.trans k.bootPatch_startMarks
  generalize k.bootPatch.bootService = b at *
  have hb := hsame.trans hmarks
  simp only [Pkg.startMarks, Fw.startMarks, Prod.mk.injEq] at hb hmarks
  simp only [Pkg.pcieMarks, Prod.mk.injEq] at hpcie
  obtain ⟨⟨⟨hoff, hvaux, ht0, hcold, hdict, hload, hcommits⟩, hcopies, -⟩, hnet, hpins, htap⟩ := hb
  obtain ⟨⟨-, -, hkslots⟩, -⟩ := hmarks
  obtain ⟨hports, hclk, hrate⟩ := hpcie
  obtain ⟨hepoch, hboots⟩ := N0.epoch_of_copies hcopies
  have hpci (p : Nat) : b.epochAsked.pci p = k.pci p := by
    rw [Pkg.pci, Pkg.pci, ← hports]
    rfl
  have hent (j : Nat) : b.epochAsked.ent 0x1010 j = b.ent 0x1010 j := rfl
  have hfw : b.epochAsked.fw = { b.fw with
      boots := (b.fw.n0.boots + 1) % 2 ^ 32
      commits := b.fw.commits ++ [{ kind := 0, bytes := 32768, value := (b.fw.n0.epoch + 1) % 2 ^ 32, since := b.tempo.local_ }] } := rfl
  have hnetwork : b.epochAsked.net = { b.net with epoch := (b.fw.n0.epoch + 1) % 2 ^ 32 } := rfl
  refine ⟨?_, ?_, ?_, fun p hp => ?_, ht0, hoff, hvaux, hcold, hdict, hload, hpins, ?_, ?_, fun hs => ?_⟩
  · rw [hnetwork, hnet]
  · rw [hnetwork, hepoch]
  · rw [hfw, hboots]
  · rw [hpci, hent, hent, hclk, hrate]
    exact hset p hp
  · exact congrArg Tap.ir htap
  · rw [hfw, hcommits, hepoch]
    exact ⟨_, rfl, rfl, rfl, rfl, rfl⟩
  · obtain ⟨hst, hstart, hreport⟩ := hempty (hslots.trans (hkslots.trans hs))
    exact ⟨hst, hstart, hreport⟩

end Sys2Proof

namespace Sys2Proof.Machine

open Sys2Proof

/-- Settles O12: what a start keeps of the reset package and of its first marks, up to the boot epoch's commit. -/
theorem coldStartToEpoch : Obligations.ColdStartToEpoch := by
  unfold Obligations.ColdStartToEpoch
  intro s o
  have hgives : Gives (.coldStart o) s (coldStart s.pkg o) := rfl
  refine ⟨fun hvin => ?outside, fun hlow hhigh hoff hc hb => ?start⟩
  case outside =>
    have hno : s.pkg.canStart o = false := by
      have hin : inBounds 40000 60000 o.vin = false := by
        simp only [inBounds, Bool.and_eq_false_iff, decide_eq_false_iff_not]
        omega
      simp only [Pkg.canStart, hin, Bool.false_and]
    rw [coldStart_of_not_canStart hno] at hgives
    exact hgives
  case start =>
    have hcan : s.pkg.canStart o = true := by simp [Pkg.canStart, inBounds, hlow, hhigh, hoff]
    rw [coldStart_of_canStart hcan] at hgives
    refine ⟨_, hgives, ?_⟩
    exact startedPkg_spec hc hb

end Sys2Proof.Machine
end

section
/-!
PROOF. A start goes on once its boot epoch is formed: self-test, sites, ports, and the moment the dictionary comes online (17:R519, R522 to R524).
-/

namespace Sys2Proof

open Sys2Proof.Machine

@[simp] theorem Pkg.raise_fw (s : Pkg) (code part : Nat) (items : List Nat) (raw : List Byte) : (s.raise code part items raw).fw = s.fw :=
  s.keeps_raise Pkg.fw (fun _ => rfl) code part items raw

@[simp] theorem Pkg.castlingRecord_fw (s : Pkg) (r : CRec) : (s.castlingRecord r).fw = s.fw := Pkg.fw_of_firm (s.castlingRecord_firm r)

@[simp] theorem Pkg.outOfScope_fw (s : Pkg) (r : CRec) (ps : List Nat) : (s.outOfScope r ps).fw = s.fw := Pkg.fw_of_firm (s.outOfScope_firm r ps)

@[simp] theorem Pkg.sparesLow_fw (s : Pkg) (cls unit left : Nat) : (s.sparesLow cls unit left).fw = s.fw := s.raise_fw _ _ _ _

@[simp] theorem Pkg.dieLost_fw (s : Pkg) (d : Nat) : (s.dieLost d).fw = s.fw := rfl

@[simp] theorem Pkg.openGroup_fw (s : Pkg) (cls g : Nat) : (s.openGroup cls g).fw = s.fw := rfl

/-- Root firmware's marks stay while a start tests and castles. -/
@[simp] theorem sparesTaken_fw (s : Pkg) (free₀ : Nat) (reach₀ : Nat → Nat) (z : Sites) (die t : Nat) :
    (sparesTaken s free₀ reach₀ z die t).fw = s.fw := by
  refine (Pkg.foldl_keeps Pkg.fw (fun k _ => k.sparesLow_fw _ _ _) _ _).trans ?_
  simp only [apply_ite Pkg.fw, Pkg.sparesLow_fw, Pkg.setEnt_fw, ite_self]

@[simp] theorem Pkg.bump_fw (s : Pkg) (i j n : Nat) : (s.bump i j n).fw = s.fw := Pkg.fw_of_firm (s.bump_firm i j n)

theorem Pkg.problemAgain_fw (s : Pkg) (e : Nat) (p : Prob) : (s.problemAgain e p).fw = s.fw := by
  unfold Pkg.problemAgain
  dsimp only
  split
  · rfl
  · simp only [Pkg.bump_fw, Pkg.countInput, Pkg.addrError, apply_ite Pkg.fw, Pkg.setEngine_fw, ite_self]

@[simp] theorem Pkg.reload_fw (s : Pkg) (e : Nat) : (s.reload e).fw = s.fw := by
  refine Pkg.foldl_keeps Pkg.fw (fun k p => ?_) _ s
  exact keeps_ite Pkg.fw rfl (k.problemAgain_fw e p)

@[simp] theorem engineRemap_fw (s : Pkg) (e : Nat) : (engineRemap s e).fw = s.fw := by
  unfold engineRemap
  dsimp only
  refine keeps_ite Pkg.fw rfl (keeps_ite Pkg.fw (Pkg.outOfScope_fw _ _ _) ?_)
  rw [Pkg.sparesLow_fw, Pkg.foldl_keeps Pkg.fw Pkg.reload_fw]
  refine (Pkg.foldl_keeps Pkg.fw (fun k x => ?_) _ _).trans rfl
  exact keeps_ite Pkg.fw (Pkg.castlingRecord_fw _ _) rfl

/-- The loss of a die never brings the dictionary online (13:R415). -/
theorem dieFailure_dict {s : Pkg} (h : s.fw.dict = false) (d : Nat) : (dieFailure s d).fw.dict = false := by
  unfold dieFailure
  dsimp only
  refine keeps_ite (fun k => k.fw.dict) ?_ (keeps_ite (fun k => k.fw.dict) rfl ?_)
  · exact (congrArg Fw.dict ((Pkg.outOfScope_fw _ _ _).trans (Pkg.dieLost_fw _ _))).trans h
  · exact (congrArg Fw.dict ((Pkg.outOfScope_fw _ _ _).trans (Pkg.dieLost_fw _ _))).trans h

theorem Pkg.selfTest_dict {s : Pkg} (h : s.fw.dict = false) (o : ColdObs) (old lanesOf : Nat → Nat) :
    (s.selfTest o old lanesOf).fw.dict = false := by
  simp only [Pkg.selfTest, apply_ite Pkg.fw, ite_self]
  refine List.foldlRecOn (motive := fun k : Pkg => k.fw.dict = false) _ _ ?_ fun k hk d _ => dieFailure_dict hk d
  have hengines (l : Tab Nat) (k : Pkg) : (l.foldl (fun s (e : Nat × Nat) => s.setEngine e.1 { s.engine e.1 with lanes := e.2 }) k).fw = k.fw :=
    Pkg.foldl_keeps Pkg.fw (fun k (e : Nat × Nat) => k.setEngine_fw e.1 _) l k
  have hremap (l : Tab Nat) (k : Pkg) : (l.foldl (fun s (e : Nat × Nat) => engineRemap s e.1) k).fw = k.fw :=
    Pkg.foldl_keeps Pkg.fw (fun k (e : Nat × Nat) => engineRemap_fw k e.1) l k
  have hrecords (l : List Nat) (k : Pkg) (cls now : Nat) (unit : Nat → Nat) :
      (l.foldl (fun s n => s.castlingRecord { cls := cls, unit := unit n, detected := now }) k).fw = k.fw :=
    Pkg.foldl_keeps Pkg.fw (fun k n => k.castlingRecord_fw _) l k
  have hlanes (l : Tab Nat) (k : Pkg) : (l.foldl (fun s (e : Nat × Nat) =>
      if e.1 % 2 = 0 then s.setTile (e.1 / 2) { s.tile (e.1 / 2) with mx := { badCols := e.2 } } else s) k).fw = k.fw :=
    Pkg.foldl_keeps Pkg.fw (fun k (e : Nat × Nat) => keeps_ite Pkg.fw (k.setTile_fw _ _) rfl) l k
  have hcores (p : Nat → Prop) [DecidablePred p] (l : List Nat) (k : Pkg) : (l.foldl (fun s c =>
      if p c then { s with cores := Tab.set {} s.cores c { (Tab.get {} s.cores c : CoreSt) with failed := true } } else s) k).fw = k.fw := by
    refine Pkg.foldl_keeps Pkg.fw (fun k c => ?_) l k
    exact keeps_ite Pkg.fw rfl rfl
  have hbanks (l : List Nat) (k : Pkg) : (l.foldl (fun s b =>
      (if (s.sdie (b / 256)).spares = 0 then s.raise 0x0305 (s.partOfDie (b / 256)) [b / 256]
        else if (s.sdie (b / 256)).spares = 1 then s.sparesLow 4 (b / 256) 0 else s).setSdie (b / 256)
        { s.sdie (b / 256) with banks := Tab.insert (s.sdie (b / 256)).banks (b % 256) (if (s.sdie (b / 256)).spares = 0 then 3 else 2)
                                spares := (s.sdie (b / 256)).spares - 1 }) k).fw = k.fw :=
    Pkg.foldl_keeps Pkg.fw (fun k b => (Pkg.setSdie_fw _ _ _).trans
      (keeps_ite Pkg.fw (k.raise_fw _ _ _ _) (keeps_ite Pkg.fw (k.sparesLow_fw _ _ _) rfl))) l k
  simp only [hengines, hremap, hrecords, hlanes, hcores, hbanks, Pkg.onPow_fw]
  exact h

theorem faultMapCommit_dict (s : Pkg) : (faultMapCommit s).fw.dict = s.fw.dict := by
  unfold faultMapCommit
  exact keeps_ite (fun k => k.fw.dict) rfl rfl

@[simp] theorem servedAt_fw (s : Pkg) (z : Sites) (t : Nat) : (servedAt s z t).fw = s.fw := rfl

/-- The self-test of a start never brings the dictionary online (17:R522). -/
theorem testedPkg_dict {s : Pkg} (h : s.fw.dict = false) (z z₀ : Sites) (o : ColdObs) : (testedPkg s z z₀ o).fw.dict = false := by
  unfold testedPkg
  dsimp only
  rw [faultMapCommit_dict]
  refine Pkg.selfTest_dict ?_ _ _ _
  rw [Pkg.onPow_fw, Pkg.foldl_keeps Pkg.fw (fun k t => servedAt_fw k z t), Pkg.foldl_keeps Pkg.fw fun k d => sparesTaken_fw k _ _ _ _ _]
  rw [Pkg.foldl_keeps Pkg.fw fun k t => ?_]
  · simp only [apply_ite Pkg.fw, Pkg.raise_fw, ite_self]
    exact h
  · exact keeps_ite Pkg.fw (keeps_ite Pkg.fw (k.castlingRecord_fw _) rfl) (Pkg.outOfScope_fw _ _ _)

@[simp] theorem Pkg.setRst_fw (s : Pkg) (q : Nat) (high : Bool) : (s.setRst q high).fw = s.fw := by
  unfold Pkg.setRst
  split <;> rfl

@[simp] theorem Pkg.lenter_fw (s : Pkg) (q : Nat) (st : LPState) : (s.lenter q st).fw = s.fw := rfl

@[simp] theorem Pkg.formGroups_fw (s : Pkg) : s.formGroups.fw = s.fw := by
  unfold Pkg.formGroups
  dsimp only
  refine keeps_ite Pkg.fw rfl ?_
  refine (Pkg.foldl_keeps Pkg.fw (fun k g => keeps_ite Pkg.fw rfl ?_) _ _).trans rfl
  simp only [apply_ite Pkg.fw, Pkg.raise_fw, Pkg.openGroup_fw, Pkg.setGroup_fw, ite_self]

/-- What a map that lists some places by a rule holds at each. -/
theorem Tab.find_filterMap {α : Type} (p : Nat → Prop) [DecidablePred p] (f : Nat → α) (l : List Nat) (k : Nat) :
    Tab.find (l.filterMap (fun k => if p k then some (k, f k) else none)) k = if k ∈ l ∧ p k then some (f k) else none := by
  induction l with
  | nil => simp [Tab.find]
  | cons j l ih =>
    by_cases hj : p j
    · simp only [List.filterMap_cons, if_pos hj, Tab.find, List.mem_cons]
      by_cases hk : j = k
      · subst hk
        simp [hj]
      · simp [ih, hk, Ne.symm hk]
    · simp only [List.filterMap_cons, if_neg hj, ih, List.mem_cons]
      by_cases hk : k = j
      · subst hk
        simp [hj]
      · simp [hk]

/-- Functional clocks, ports and Tempo start: the boot epoch is formed (17:R522). -/
theorem Pkg.online_spec (s : Pkg) (o : ColdObs) (castled : Nat) :
    (s.online o castled).fw.cold = none ∧ (s.online o castled).fw.epochSet = true ∧ (s.online o castled).fw.castled = castled
      ∧ (s.online o castled).fw.dict = s.fw.dict := by
  have hports (l : List Nat) : (l.foldl (fun s q => (s.lenter q .detect).setRst q false) s).fw = s.fw :=
    Pkg.foldl_keeps Pkg.fw (fun k q => (Pkg.setRst_fw _ q false).trans (k.lenter_fw q .detect)) l s
  refine ⟨rfl, rfl, rfl, ?_⟩
  simp only [Pkg.online, Pkg.onFw, Pkg.onPow_fw, Pkg.formGroups_fw, hports]

end Sys2Proof

namespace Sys2Proof.Machine

open Sys2Proof

section
variable {s : State} {o : ColdObs}

/-- What the rest of a start leaves. -/
theorem coldFinish_spec (h : s.pkg.fw.cold = some o) :
    (coldFinish s).pending = s.pending ∧ (coldFinish s).pkg.fw.cold = none ∧ (coldFinish s).pkg.fw.epochSet = true
      ∧ (coldFinish s).pkg.fw.castled = (coldFinish s).sites.moved.length ∧ (s.pkg.fw.dict = false → (coldFinish s).pkg.fw.dict = false) := by
  simp only [coldFinish, h]
  obtain ⟨hcold, hepoch, hcastled, hdict⟩ := (testedPkg s.pkg (s.sites.cold (o.withMap s.pkg.fw.n0.map)) s.sites (o.withMap s.pkg.fw.n0.map)).online_spec
    (o.withMap s.pkg.fw.n0.map) (s.sites.cold (o.withMap s.pkg.fw.n0.map)).moved.length
  exact ⟨trivial, hcold, hepoch, hcastled, fun h => hdict.trans (testedPkg_dict h _ _ _)⟩

end

/-- Serving tiles from spares changes neither the failed sites nor the fused maxima. -/
theorem Sites.serveAll_keeps (ts : List Nat) (z : Sites) : (z.serveAll ts).failed = z.failed ∧ (z.serveAll ts).fmax = z.fmax := by
  refine List.foldlRecOn (motive := fun y : Sites => y.failed = z.failed ∧ y.fmax = z.fmax) ts _ ⟨rfl, rfl⟩ fun y hy t _ => ?_
  cases hs : y.serve t (lowRanks t) with
  | none => exact hy
  | some x =>
    obtain ⟨r, -, rfl⟩ := Option.map_eq_some_iff.1 hs
    exact hy

section
variable (z : Sites) (o : ColdObs) {k : Nat} (hk : k < 6912)
include hk

/-- The fused maximum that a start leaves (15:R462). -/
theorem Sites.cold_fmax : Tab.get 0 (z.cold o).fmax k = z.fmaxNow o k := by
  have hmem : k ∈ List.range siteMax := List.mem_range.2 hk
  have hfind := Tab.find_filterMap (fun k => z.fmaxNow o k ≠ 0) (fun k => z.fmaxNow o k) (List.range siteMax) k
  simp only [ite_not] at hfind
  rw [Tab.get_eq_find, Sites.cold, (Sites.serveAll_keeps _ _).2]
  simp only [Sites.tested, hfind]
  by_cases hz : z.fmaxNow o k = 0
  · simp [hz]
  · simp [hz, hmem]

/-- The sites that a start takes as failed (13:R413, 15:R462, 17:R522). -/
theorem Sites.cold_failed : Tab.get 0 (z.cold o).failed k = 1 ↔ z.failsTest o k = true := by
  have hmem : k ∈ List.range siteMax := List.mem_range.2 hk
  have hfind := Tab.find_filterMap (fun k => z.failsTest o k = true) (fun _ => 1) (List.range siteMax) k
  rw [Tab.get_eq_find, Sites.cold, (Sites.serveAll_keeps _ _).1]
  simp only [Sites.tested, hfind]
  by_cases hz : z.failsTest o k = true
  · simp [hz, hmem]
  · simp [hz]

end

/-- The self-test's rule as the statement writes it. -/
theorem Sites.failsTest_iff (z : Sites) (o : ColdObs) (k : Nat) :
    z.failsTest o k = true ↔ k ∈ o.failed ∨ z.fmaxNow o k < 1400 ∨ ∃ e, e < 2 ∧ 2 < (o.lanes.filter (fun l => l = 2 * k + e)).length := by
  have htwo (p : Nat → Prop) : (∃ e, e < 2 ∧ p e) ↔ p 0 ∨ p 1 := by
    constructor
    · rintro ⟨e, he, hp⟩
      obtain rfl | rfl : e = 0 ∨ e = 1 := by omega
      · exact .inl hp
      · exact .inr hp
    · rintro (hp | hp)
      · exact ⟨0, by decide, hp⟩
      · exact ⟨1, by decide, hp⟩
  rw [htwo]
  simp [Sites.failsTest, or_assoc]

/-- The random epoch of a start whose commit came too late (17:R523). -/
theorem randomEpoch_spec (s : Pkg) :
    s.randomEpoch.fw.cold = s.fw.cold ∧ s.randomEpoch.fw.n0 = s.fw.n0 ∧ (∀ c ∈ s.randomEpoch.fw.commits, c.kind ≠ 0)
      ∧ 2 ^ 31 ≤ s.randomEpoch.net.epoch ∧ s.randomEpoch.net.epoch < 2 ^ 32 ∧ Reports s.randomEpoch 0x070D 0xFF [s.randomEpoch.net.epoch] := by
  have hnet : s.randomEpoch.net = { s.net with epoch := Config.random (s.fw.draws + 1) % 2 ^ 31 + 2 ^ 31 } :=
    Pkg.keeps_raise Pkg.net (fun _ => rfl) _ _ _ _ _
  have hfw : s.randomEpoch.fw = { s.fw with draws := s.fw.draws + 1, commits := s.fw.commits.filter (fun c => decide (c.kind ≠ 0)) } :=
    Pkg.raise_fw _ _ _ _ _
  rw [hnet, hfw]
  refine ⟨rfl, rfl, fun c hc => of_decide_eq_true (List.mem_filter.1 hc).2, ?_, ?_, Pkg.reports_raise _ _ _ _ _⟩
  · show 2 ^ 31 ≤ Config.random (s.fw.draws + 1) % 2 ^ 31 + 2 ^ 31
    omega
  · show Config.random (s.fw.draws + 1) % 2 ^ 31 + 2 ^ 31 < 2 ^ 32
    omega

/-- The end of a start (17:R519, R522). -/
theorem bootDone_spec (s : Pkg) :
    s.bootDone.fw.dict = true ∧ (s.fw.st = 2 → s.bootDone.fw.loadable = false ∧ s.bootDone.fw.st = 2)
      ∧ (s.fw.st ≠ 2 → s.bootDone.fw.loadable = true ∧ s.bootDone.fw.st = 1 ∧ s.bootDone.ent 0x7000 2 = (s.tempo.local_ - s.fw.t0) / 1000000
          ∧ Reports s.bootDone 0x0701 0xFF [(s.tempo.local_ - s.fw.t0) / 1000000, s.fw.slot, s.fw.castled])
      ∧ s.bootDone.fault = s.fault ∧ s.bootDone.fw.epochSet = s.fw.epochSet := by
  by_cases hst : s.fw.st = 2
  · have hdone : s.bootDone = s.onFw (fun w => { w with st := 2, dict := true, loadable := false }) := by simp [Pkg.bootDone, hst]
    rw [hdone]
    exact ⟨rfl, fun _ => ⟨rfl, rfl⟩, fun h => absurd hst h, rfl, rfl⟩
  · have hdone : s.bootDone = ((s.onFw (fun w => { w with st := 1, dict := true, loadable := true })).setEnt 0x7000 2
        ((s.tempo.local_ - s.fw.t0) / 1000000)).raise 0x0701 0xFF [(s.tempo.local_ - s.fw.t0) / 1000000, s.fw.slot, s.fw.castled] := by
      have hne : (s.fw.st != 2) = true := by simp [hst]
      simp only [Pkg.bootDone, hne, if_true]
      rfl
    rw [hdone, Pkg.raise_fw, Pkg.raise_fault]
    refine ⟨rfl, fun h => absurd h hst, fun _ => ⟨rfl, rfl, ?_, Pkg.reports_raise _ _ _ _ _⟩, rfl, rfl⟩
    rw [Pkg.ent_raise _ _ _ _ _ (by decide) (by decide), Pkg.ent_setEnt_self]

/-- With the epoch formed and no replay open, a nanosecond in which nothing is sent is the wait of the start and a tick of Tempo. -/
theorem idle_of_quiet {s : Pkg} (hasked : s.tier.asked = []) (hn : ∀ n < 24, (s.port n).st ≠ .active) (hl : ∀ q < 48, (s.lport q).st ≠ .active)
    (hepoch : s.bootWait.fw.epochSet = true) (hopen : s.bootWait.fault.open_ = []) :
    idle s = { s.bootWait with tempo := s.bootWait.tempo.tick } := by
  rw [idle, Pkg.createAsked_of_nil hasked, Pkg.sendIdles_of_inactive hl hn]
  simp only [hepoch, Bool.not_true, Bool.false_eq_true, if_false, hopen, List.foldl_nil]

/-- Settles O13: the boot epoch's commit, or its timeout, lets the start go on; the nanosecond after the ports have trained ends it. -/
theorem coldStartGoesOn : Obligations.ColdStartGoesOn := by
  unfold Obligations.ColdStartGoesOn
  refine ⟨fun s o hcold hon => ⟨fun c rest hq hk hstart hlost => ?commit, fun hstart hlate => ?late, fun hearly => ?early, fun k hk => ?sites⟩,
    fun s hpending hasked hn hl hopen hepoch hdict hon htrain => ⟨fun hlock => ?locked, fun hlock hsettled => ?waits⟩⟩
  case commit =>
    have hdone : s.pkg.epochDone = true := by simp [Pkg.epochDone, hcold, hon, hq, hk, hstart]
    have hw : commitDone s.pkg s.faultMap = s.pkg.written c rest s.faultMap :=
      commitDone_of_otherKind hq hstart hlost _ (by omega) (by omega)
    have hexec : exec .n0CommitComplete s = .next (coldFinish { s with pkg := s.pkg.written c rest s.faultMap }) := by
      rw [exec_n0CommitComplete, if_pos (by omega), if_pos hdone, hw]
    have hmap : (s.pkg.written c rest s.faultMap).fw.n0.map = s.pkg.fw.n0.map := by
      simp only [Pkg.written, Pkg.onFw, N0.after, hk, N0.map, N0.area_putArea_other _ _ _ (show 3 ≠ 0 by decide)]
    obtain ⟨hpending, hnone, hset, hcastled, hdict⟩ := coldFinish_spec (s := { s with pkg := s.pkg.written c rest s.faultMap }) (o := o) hcold
    have hsites := coldFinish_sites (s := { s with pkg := s.pkg.written c rest s.faultMap }) (o := o) hcold
    exact ⟨_, hexec, hsites.trans (by rw [hmap]), hpending, hnone, hset, hcastled, hdict⟩
  case late =>
    obtain ⟨hc, hn0, hkinds, hlow, hhigh, hreport⟩ := randomEpoch_spec s.pkg
    have hlate : s.pkg.epochLate = true := by simp [Pkg.epochLate, hcold, hstart, hlate]
    have hcold' : ({ s with pkg := s.pkg.randomEpoch } : State).pkg.fw.cold = some o := hc.trans hcold
    obtain ⟨-, hnone, -⟩ := coldFinish_spec hcold'
    refine ⟨?_, hlow, hhigh, hkinds, hreport, (coldFinish_sites hcold').trans ?_, hnone⟩
    · rw [exec_bootEpochTimeout, if_pos (by simp [hon, hlate])]
    · simp only [hn0]
  case early =>
    have hlate : s.pkg.epochLate = false := by simp [Pkg.epochLate]; omega
    rw [exec_bootEpochTimeout, if_neg (by simp [hlate])]
  case sites =>
    rw [s.sites.cold_failed o hk, s.sites.cold_fmax o hk, Sites.failsTest_iff]
    exact ⟨Iff.rfl, rfl⟩
  case locked =>
    have hwait : s.pkg.bootWait = s.pkg.bootDone := by
      unfold Pkg.bootWait
      rw [if_neg (by simp [hepoch, hdict, hon])]
      split <;> simp [htrain, hlock]
    obtain ⟨hdone, hrecovery, hready, hfault, hset⟩ := bootDone_spec s.pkg
    have hidle := idle_of_quiet hasked hn hl (by rw [hwait, hset, hepoch]) (by rw [hwait, hfault, hopen])
    refine ⟨{ s with pkg := idle s.pkg }, by rw [step, hpending], ?_⟩
    rw [hidle, hwait]
    exact ⟨hdone, hrecovery, hready⟩
  case waits =>
    have hwait : s.pkg.bootWait = s.pkg.onFw (fun w => { w with settled := some (s.pkg.fw.settled.getD s.pkg.tempo.local_) }) := by
      unfold Pkg.bootWait
      rw [if_neg (by simp [hepoch, hdict, hon])]
      cases hs : s.pkg.fw.settled with
      | none => simp [htrain, hlock]
      | some u =>
        have hearly : ¬u + 30000000000 ≤ s.pkg.tempo.local_ := Nat.not_le.2 (hsettled u hs)
        simp only [hlock, hearly, beq_iff_eq, decide_false, Bool.or_false, if_false, Option.getD_some, Pkg.onFw]
        rw [← hs]
    have hidle := idle_of_quiet hasked hn hl (by rw [hwait]; exact hepoch) (by rw [hwait]; exact hopen)
    refine ⟨{ s with pkg := idle s.pkg }, by rw [step, hpending], ?_⟩
    rw [hidle, hwait]
    exact ⟨hdict, rfl⟩

end Sys2Proof.Machine
end

section
/-!
PROOF. The rows of the Tempo tree (03:R76, R77, 11:R366): the announcement that the model sends carries the count of those before it.
-/

namespace Sys2Proof.Machine

open Sys2Proof

/-- A command leaves one package. -/
theorem gives_unique {i : Instr} {s : State} {k₁ k₂ : Pkg} (h₁ : Gives i s k₁) (h₂ : Gives i s k₂) : k₁ = k₂ := by
  have h := h₁.symm.trans h₂
  injection h with h
  exact congrArg State.pkg h

/-- An acting root of rank 0, 1 ms after its fifth announcement, with one ACTIVE port of version 2. -/
def announcingRoot : State :=
  { pkg := { tempo := { role := .root 0, annAt := 0, local_ := 1000000, annCount := 5 }, net := { ports := [(0, { st := .active, version := 2 })] } } }

/-- Byte 8 of the payload of the announcement that waits on port 0: the low byte of its count (11:R366). -/
def announcedCount (k : Pkg) : List Nat := (k.port 0).queue.map fun q => byteAt q.packet 40

/-- What the statement gives for the announcement of that root. -/
def announcementAsStated : Pkg :=
  ((List.range 24).filter (fun m => (announcingRoot.pkg.port m).st == .active && decide (2 ≤ (announcingRoot.pkg.port m).version))).foldl
    (fun (x : Pkg) n => x.sendCtrl n 3 (padTo 32 (natLe 1 0 ++ natLe 1 0 ++ natLe 2 0 ++ natLe 4 announcingRoot.pkg.node ++ natLe 8 (5 + 1))))
    { announcingRoot.pkg with tempo := { announcingRoot.pkg.tempo with annAt := 1000000, annCount := 5 + 1 } }

theorem announcedCount_announceTimer : announcedCount (announceTimer announcingRoot.pkg) = [5] := by decide

theorem announcedCount_asStated : announcedCount announcementAsStated = [6] := by decide

/-- Refutes O15: the sixth announcement of the acting root carries count 5, that of before it, where the statement has 6. -/
theorem not_tempoFollowsItsRoot : ¬ Obligations.TempoFollowsItsRoot := by
  unfold Obligations.TempoFollowsItsRoot
  intro h
  obtain ⟨-, -, hannounce, -⟩ := h announcingRoot rfl
  have hstated : Gives .rootAnnounceTimer announcingRoot announcementAsStated := hannounce 0 rfl (by decide)
  have hmodel : Gives .rootAnnounceTimer announcingRoot (announceTimer announcingRoot.pkg) :=
    gives_act (exec_rootAnnounceTimer announcingRoot) rfl rfl
  have hsame : announceTimer announcingRoot.pkg = announcementAsStated := gives_unique hmodel hstated
  have hcount := announcedCount_announceTimer
  rw [hsame, announcedCount_asStated] at hcount
  cases hcount

end Sys2Proof.Machine
end

section
/-!
PROOF. The Tempo states, UTC and the release of the clock-domain crossings (03:R77 to R79, R81, R82, R109).
-/

namespace Sys2Proof

/-- A packet taken from a port leaves the package as it was but for the port. -/
theorem Pkg.takeRx_eq {s k : Pkg} {n : Nat} {p : Hdr → Bool} {r : RxPkt} (h : s.takeRx n p = some (r, k)) :
    ∃ x, k = s.setPort n x ∧ x.queue = (s.port n).queue := by
  unfold Pkg.takeRx at h
  dsimp only at h
  split at h
  · cases h
    exact ⟨_, rfl, rfl⟩
  · cases h

/-- An envelope that only acknowledges goes out of its port. -/
theorem Pkg.sendBare_keeps {α : Type} (g : Pkg → α) (hport : ∀ (s : Pkg) n x, g (s.setPort n x) = g s) (hemit : ∀ (s : Pkg) o, g (s.emit o) = g s)
    (s : Pkg) (n ltype : Nat) : g (s.sendBare n ltype) = g s := by
  simp only [Pkg.sendBare, Pkg.sendEnvelope, apply_ite g, hemit, hport, ite_self]

theorem Pkg.idleOut_keeps {α : Type} (g : Pkg → α) (hport : ∀ (s : Pkg) n x, g (s.setPort n x) = g s) (hemit : ∀ (s : Pkg) o, g (s.emit o) = g s)
    (n fuel : Nat) (s : Pkg) : g (s.idleOut n fuel) = g s := by
  induction fuel generalizing s with
  | zero => rfl
  | succ fuel ih =>
    unfold Pkg.idleOut
    dsimp only
    exact keeps_ite g rfl ((ih _).trans (Pkg.sendBare_keeps g hport hemit s n 0))

theorem Pkg.withTempo_ent (s : Pkg) (x : Tempo) (i j : Nat) : Pkg.ent { s with tempo := x } i j = s.ent i j := rfl

theorem APort.next_of_nil {x : APort} (h : x.queue = []) (weights : Nat) : (x.next weights).2 = none := by
  have hclass (t : Nat) : x.ofClass t = none := by simp [APort.ofClass, APort.head, h]
  simp [APort.next, hclass, APort.drr]

/-- A port with nothing queued sends its credits alone. -/
theorem Pkg.pump_of_nil {s : Pkg} {n : Nat} (h : (s.port n).queue = []) : s.pump n = s.idleOut n 8 := by
  have hnext := APort.next_of_nil h (s.ent 0x5000 7)
  have hpump : s.pumpN n 1 = s := by
    unfold Pkg.pumpN
    dsimp only
    split
    · rfl
    · split
      · rfl
      · rename_i heq
        rw [heq] at hnext
        cases hnext
  rw [Pkg.pump, h]
  exact congrArg (fun k => Pkg.idleOut k n 8) hpump

/-- So its clocks and the entries stay. -/
theorem Pkg.pump_of_nil_keeps {s : Pkg} {n : Nat} (h : (s.port n).queue = []) :
    (s.pump n).tempo = s.tempo ∧ (s.pump n).dict = s.dict := by
  rw [Pkg.pump_of_nil h]
  exact ⟨Pkg.idleOut_keeps Pkg.tempo (fun _ _ _ => rfl) (fun _ _ => rfl) n 8 s, Pkg.idleOut_keeps Pkg.dict (fun _ _ _ => rfl) (fun _ _ => rfl) n 8 s⟩

end Sys2Proof

namespace Sys2Proof.Machine

open Sys2Proof

/-- The release count is the multiple of 4,096 ns that lies within one period above the bound (03:R109). -/
theorem cdcCount_eq {t : Tempo} {k : Nat} (hlow : t.pllLock + 4096 ≤ 4096 * k) (hhigh : 4096 * k < t.pllLock + 8192) : t.cdcCount = 4096 * k := by
  unfold Tempo.cdcCount ceilDiv
  omega

/-- Settles O16: each row by its definition, where its guard holds. -/
theorem tempoStatesAndUtc : Obligations.TempoStatesAndUtc := by
  unfold Obligations.TempoStatesAndUtc
  intro s hon t
  have hcdc := gives_act (exec_cdcFifoRelease s) rfl hon
  have hdegraded := gives_act (exec_tempoDegraded s) rfl hon
  refine ⟨fun hrole hst hacc => ?holdover, fun hst hdeg hsince => ?degraded, fun hdeg => ?degradedTwice, fun hcdc0 k hlow hnow hhigh => ?release,
    fun hearly => ?early, fun hptp m => ⟨fun hdomain => ?otherDomain, fun hdomain => ?sync⟩, fun hsynced => ?unsynced,
    fun n r k xs id t1 fwd rev hn hrx hsent hrole hparent hid hgather hlen hqueue hfwd => ?sample⟩
  case holdover =>
    have hgo : tempoHoldover s.pkg = s.pkg.holdover :=
      if_pos (show (t.role == .follower && t.st == .locked && decide (t.lastAcc + 3000000 ≤ t.local_)) = true by simp [hrole, hst, hacc])
    have h := gives_act (exec_tempoHoldover s) rfl hon
    rw [hgo] at h
    exact ⟨_, h, Pkg.bare_raise _ _ _ _ _, Pkg.reports_raise _ _ _ _ _⟩
  case degraded =>
    have hgo : tempoDegraded s.pkg = ({ s.pkg with tempo := { t with degraded := true } } : Pkg).raise 0x0109 0xFF [t.local_ - t.holdSince] :=
      if_pos (show (t.st == .holdover && !t.degraded && decide (t.holdSince + 10000000 ≤ t.local_)) = true by simp [hst, hdeg, hsince])
    rw [hgo] at hdegraded
    exact ⟨_, hdegraded, Pkg.bare_raise _ _ _ _ _, Pkg.reports_raise _ _ _ _ _⟩
  case degradedTwice =>
    have hno : ¬(t.st == .holdover && !t.degraded && decide (t.holdSince + 10000000 ≤ t.local_)) = true := by simp [hdeg]
    rw [tempoDegraded, if_neg hno] at hdegraded
    exact hdegraded
  case release =>
    have hcount := cdcCount_eq hlow hhigh
    have hgo : (!t.cdc && decide (t.cdcCount ≤ t.now)) = true := by simp [hcdc0, hcount, hnow]
    rw [cdcRelease, if_pos hgo, hcount] at hcdc
    exact hcdc
  case early =>
    have hno : ¬(!t.cdc && decide (t.cdcCount ≤ t.now)) = true := by
      have hlate : ¬t.cdcCount ≤ t.now := by
        unfold Tempo.cdcCount ceilDiv
        omega
      simp [hlate]
    rw [cdcRelease, if_neg hno] at hcdc
    exact hcdc
  case otherDomain =>
    have h := gives_act (exec_ptpSync m s) rfl hon
    rw [ptpSync, if_neg (by simp [hdomain])] at h
    exact h
  case sync =>
    have hgo : ptpSync s.pkg m = _ := if_pos (by simp [hptp, hdomain])
    have h := gives_act (exec_ptpSync m s) rfl hon
    rw [hgo] at h
    have hent (i j : Nat) : Pkg.ent _ i j = (((s.pkg.emit (.delayReq m.domain (t.now - m.ago3))).setEnt 0x2204 4
        (ofSigned 64 (m.utcOffset t.now))).setEnt 0x2204 3 1).ent i j := Pkg.withTempo_ent _ { t with ptpAt := t.now } i j
    refine ⟨_, h, rfl, (hent _ _).trans ?_, List.mem_cons_self, (hent _ _).trans (Pkg.ent_setEnt_self _ _ _ _), fun i j hij hj => (hent i j).trans ?_⟩
    · rw [Pkg.ent_setEnt_other _ _ (by decide), Pkg.ent_setEnt_self]
    · simp only [List.mem_cons, Prod.mk.injEq, List.not_mem_nil, or_false, not_or] at hij
      rw [Pkg.ent_setEnt_other _ _ fun he => hij.1 (dkey_inj hj (by omega) he),
        Pkg.ent_setEnt_other _ _ fun he => hij.2 (dkey_inj hj (by omega) he)]
      rfl
  case unsynced =>
    have hgo : ptpUnsynced s.pkg = (s.pkg.setEnt 0x2204 3 0).raise 0x010E 0xFF [t.now - t.ptpAt] := if_pos hsynced
    have h := gives_act (exec_ptpUnsynced s) rfl hon
    rw [hgo] at h
    refine ⟨_, h, Pkg.bare_raise _ _ _ _ _, ?_, fun i j hij hj => ?_, Pkg.reports_raise _ _ _ _ _⟩
    · rw [Pkg.ent_raise _ _ _ _ _ (by decide) (by decide), Pkg.ent_setEnt_self]
    · rw [List.mem_cons, not_or] at hij
      refine (sameEnts_raise _ _ _ _ _ i j hij.2 hj).trans (Pkg.ent_setEnt_other _ _ fun he => ?_)
      exact hij.1 (Prod.ext_iff.2 (dkey_inj hj (by omega) he))
  case sample =>
    have h := gives_act (exec_syncRsp n rev s) (decide_eq_true hn) hon
    obtain ⟨x, rfl, hx⟩ := Pkg.takeRx_eq hrx
    have hport : ((s.pkg.setPort n x).port n).queue = [] := by
      rw [show (s.pkg.setPort n x).port n = x from Tab.get_set_self _ _ _ _, hx, hqueue]
    obtain ⟨htempo, hdict⟩ := Pkg.pump_of_nil_keeps hport
    replace htempo : ((s.pkg.setPort n x).pump n).tempo = t := htempo
    have hent : ((s.pkg.setPort n x).pump n).ent 0x2202 (n + 1) = (s.pkg.setPort n x).ent 0x2202 (n + 1) := by rw [Pkg.ent, hdict]; rfl
    have hgo : (t.role != .follower || decide (t.parent ≠ n + 1) || decide (id ≠ fld (r.packet.drop 32) 0 2)) = false := by
      simp [hrole, hparent, hid]
    have hshort : (xs.length + 1 < 8) := by omega
    have hrx' : s.pkg.takeRx n (fun h => decide (h.op = opCTRL) && decide (h.spec % 256 = 2)) = some (r, s.pkg.setPort n x) := hrx
    simp only [syncRsp, hrx', htempo, hsent, hgo, Bool.false_eq_true, if_false, hgather, List.length_append, List.length_singleton, hshort, if_true,
      hent, ← hfwd] at h
    exact h

end Sys2Proof.Machine
end

section
/-!
PROOF. STAGE and PREEMPT accept a change record or say why not (03:R104, R105, 14:R446, R447).
-/

namespace Sys2Proof

/-- A command taken in a state in which it may be issued. -/
theorem Pkg.withCmd_inState_of_takes {s : Pkg} {p op : Nat} {e : List Byte} {rest : List (List Byte)} {sts : List PState} (h : s.takes p op e rest)
    (hst : (s.part p).st ∈ sts) (f : Pkg → List Byte → Pkg) :
    (s.withCmd p op fun s e => s.inState p op e sts fun s => f s e) = (f (s.took p rest) e).settled p := by
  rw [Pkg.withCmd_of_takes h, Pkg.inState_of_mem (by rwa [Pkg.st_took])]

/-- The record has a form that STAGE may name (03:R104). -/
def changeForm (b : List Byte) : Prop :=
  byteAt b 0 ∈ changeKinds ∧ byteAt b 1 ≤ 3 ∧ zeroAt b 2 2 = true ∧ (byteAt b 0 = 0x10 → zeroAt b 18 2 = true)

/-- The partition may take it (03:R80, R105, 14:R446). -/
def Pkg.mayStage (s : Pkg) (p : Nat) (b : List Byte) : Prop :=
  (s.tempo.st = .locked ∨ s.tempo.st = .holdover) ∧ (s.part p).mem.n + 2 ≤ fld b 8 8 ∧ Tab.get none (s.part p).mem.slots (byteAt b 1) = none
    ∧ (∀ c ∈ (s.part p).mem.pendingChanges ++ (s.part p).mem.applying, c.kind ≠ byteAt b 0 ∨ c.frame ≠ fld b 8 8)
    ∧ (byteAt b 0 = 0x10 → ∀ r ∈ stopRegions b, r ∉ (s.part p).locked)

/-- The change that a record asks for (03:R104). -/
def Pkg.changeOf (s : Pkg) (b : List Byte) (origin cmd deadline : Nat) : Change :=
  { bytes := b, kind := byteAt b 0, id := fld b 4 4, frame := fld b 8 8, arrived := s.tempo.now, origin := origin, cmd := cmd, deadline := deadline }

section
variable (s : Pkg) (p : Nat) (b : List Byte) (origin cmd deadline : Nat)

theorem changeForm_iff : changeForm b ↔
    (!(changeKinds.contains (byteAt b 0)) || decide (3 < byteAt b 1) || !(zeroAt b 2 2) || (decide (byteAt b 0 = 0x10) && !(zeroAt b 18 2))) = false := by
  simp [changeForm, and_assoc]

theorem Pkg.stage_of_not_form (h : ¬changeForm b) : s.stage p b origin cmd deadline = (2, s) := by
  rw [changeForm_iff, Bool.not_eq_false] at h
  exact if_pos h

theorem Pkg.mayStage_iff : s.mayStage p b ↔
    (s.tempo.st != .locked && s.tempo.st != .holdover) = false
    ∧ (decide (fld b 8 8 < (s.part p).mem.n + 2) || (Tab.get none (s.part p).mem.slots (byteAt b 1)).isSome
        || ((s.part p).mem.pendingChanges ++ (s.part p).mem.applying).any (fun c => decide (c.kind = byteAt b 0) && decide (c.frame = fld b 8 8))) = false
    ∧ (decide (byteAt b 0 = 0x10) && (stopRegions b).any (s.part p).locked.contains) = false := by
  have hsync : (s.tempo.st != .locked && s.tempo.st != .holdover) = false ↔ s.tempo.st = .locked ∨ s.tempo.st = .holdover := by
    simp [bne, ← Bool.not_or]
  simp only [Pkg.mayStage, hsync, Bool.or_eq_false_iff, decide_eq_false_iff_not, Nat.not_lt, Option.isSome_eq_false_iff, Option.isNone_iff_eq_none,
    List.any_eq_false, Bool.and_eq_true, decide_eq_true_eq, Decidable.not_and_iff_not_or_not, and_assoc, Bool.and_eq_false_iff, List.contains_iff_mem, Decidable.imp_iff_not_or]

theorem Pkg.stage_of_form (h : changeForm b) (hmay : s.mayStage p b) :
    s.stage p b origin cmd deadline =
      (0, s.setMem p { (s.part p).mem with slots := Tab.set none (s.part p).mem.slots (byteAt b 1) (some (s.changeOf b origin cmd deadline)) }) := by
  rw [changeForm_iff] at h
  obtain ⟨hsync, hfree, hunlocked⟩ := (s.mayStage_iff p b).1 hmay
  unfold Pkg.stage
  dsimp only
  rw [if_neg (ne_true_of_eq_false h), if_neg (ne_true_of_eq_false hsync), if_neg (ne_true_of_eq_false hfree),
    if_neg (ne_true_of_eq_false hunlocked)]
  rfl

theorem Pkg.stage_of_not_mayStage (h : changeForm b) (hmay : ¬s.mayStage p b) : s.stage p b origin cmd deadline = (6, s) := by
  rw [changeForm_iff] at h
  rw [Pkg.mayStage_iff] at hmay
  unfold Pkg.stage
  dsimp only
  rw [if_neg (ne_true_of_eq_false h)]
  split
  · rfl
  · split
    · rfl
    · split
      · rfl
      · next hsync hfree hunlocked => exact absurd ⟨eq_false_of_ne_true hsync, eq_false_of_ne_true hfree,
          eq_false_of_ne_true hunlocked⟩ hmay

end

end Sys2Proof

namespace Sys2Proof.Machine

open Sys2Proof

/-- Settles O26: the two commands stage the record of their entry; what `stage` answers decides the completion. -/
theorem changesAreStaged : Obligations.ChangesAreStaged := by
  unfold Obligations.ChangesAreStaged
  intro s p e rest hst k b x form good change held
  have hform : form ↔ changeForm b := Iff.rfl
  have hgood : good ↔ k.mayStage p b := Iff.rfl
  refine ⟨fun h => ?stage, fun h => ?preempt⟩
  case stage =>
    obtain ⟨hp, hon, _⟩ := id h
    have hgives := gives_act (exec_stage p s) (decide_eq_true hp) hon
    rw [stageCmd, Pkg.withCmd_inState_of_takes h (by simp [hst])] at hgives
    refine ⟨fun hf hg hk => ?_, fun hf hg hk => ?_, fun hf => ?_, fun hf hg => ?_⟩
    · have hstage := k.stage_of_form p b 0 (cmdId e) 0 (hform.1 hf) (hgood.1 hg)
      simp only [b, k] at hstage hk
      simp only [hstage, stOK, hk, decide_true, decide_false, Bool.and_false, Bool.false_eq_true, if_false, Pkg.fail] at hgives
      exact hgives
    · have hstage := k.stage_of_form p b 0 (cmdId e) 0 (hform.1 hf) (hgood.1 hg)
      simp only [b, k] at hstage hk
      simp only [hstage, stOK, hk, decide_true, Bool.and_true, if_true] at hgives
      exact hgives
    · have hstage := k.stage_of_not_form p b 0 (cmdId e) 0 (mt hform.2 hf)
      simp only [b, k] at hstage
      simp only [hstage, stOK, decide_eq_false (by decide : (2 : Nat) ≠ 0), Bool.false_and, Bool.false_eq_true, if_false, Pkg.fail] at hgives
      exact hgives
    · have hstage := k.stage_of_not_mayStage p b 0 (cmdId e) 0 (hform.1 hf) (mt hgood.2 hg)
      simp only [b, k] at hstage
      simp only [hstage, stOK, decide_eq_false (by decide : (6 : Nat) ≠ 0), Bool.false_and, Bool.false_eq_true, if_false, Pkg.fail] at hgives
      exact hgives
  case preempt =>
    obtain ⟨hp, hon, _⟩ := id h
    have hgives := gives_act (exec_preempt p s) (decide_eq_true hp) hon
    rw [preempt, Pkg.withCmd_inState_of_takes h (by simp [hst])] at hgives
    have hent : (s.pkg.took p rest).ent (0x2000 + p) 6 = s.pkg.ent (0x2000 + p) 6 := rfl
    simp only [hent] at hgives
    refine ⟨fun hnone => ?_, fun hsome hk => ?_, fun hsome hk hf hg => ?_⟩
    · simp only [hnone, if_true] at hgives
      exact hgives
    · simp only [b] at hk
      simp only [hsome, if_false, hk, ne_eq, not_false_eq_true, if_true] at hgives
      exact hgives
    · have hstage := k.stage_of_form p b 2 (cmdId e) (fld e 48 8 + 1) (hform.1 hf) (hgood.1 hg)
      simp only [b, k] at hstage hk
      simp only [hsome, if_false, hk, ne_eq, not_true_eq_false, hstage, stOK, if_true] at hgives
      exact hgives

end Sys2Proof.Machine
end

section
/-!
PROOF. LOAD_BEGIN composes a partition, or says which check fails; the clear that its command waits for (14:R425 to R427, 09:R266).
-/

namespace Sys2Proof

open Sys2Proof.Machine

/-- A fold of which one element alone does anything. -/
theorem foldl_eq_one {α β : Type} {f : α → β → α} {s : α} {l₁ l₂ : List β} {x : β} (hbefore : ∀ y ∈ l₁, f s y = s)
    (hafter : ∀ y ∈ l₂, f (f s x) y = f s x) : (l₁ ++ x :: l₂).foldl f s = f s x := by
  rw [List.foldl_append, foldl_eq_self hbefore, List.foldl_cons, foldl_eq_self hafter]

/-- A partition stands once in the list of all. -/
theorem range_split {p n : Nat} (hp : p < n) : ∃ l₁ l₂, List.range n = l₁ ++ p :: l₂ ∧ (∀ q ∈ l₁, q < n ∧ q ≠ p) ∧ ∀ q ∈ l₂, q < n ∧ q ≠ p := by
  obtain ⟨l₁, l₂, hl⟩ := List.append_of_mem (List.mem_range.2 hp)
  have hnodup : (l₁ ++ p :: l₂).Nodup := hl ▸ List.nodup_range
  have hlt (q : Nat) (h : q ∈ l₁ ++ p :: l₂) : q < n := List.mem_range.1 (hl ▸ h)
  obtain ⟨-, hcons, hdisj⟩ := List.nodup_append.1 hnodup
  refine ⟨l₁, l₂, hl, fun q hq => ⟨hlt q (List.mem_append_left _ hq), hdisj q hq p List.mem_cons_self⟩, fun q hq => ⟨hlt q ?_, ?_⟩⟩
  · exact List.mem_append_right _ (List.mem_cons_of_mem _ hq)
  · rintro rfl
    exact (List.nodup_cons.1 hcons).1 hq

/-- The die store and the store die as a clear leaves them (09:R266). -/
def Pkg.cleared (s : Pkg) (d : Nat) : Pkg :=
  ({ s.setSdie d { s.sdie d with clearing := false, lost := [] } with dstore := s.dstore.clear (d * 0x80000000) 0x50000000 }).invalidate
    ((s.cached.filter (fun (e : Nat × Nat) => decide (e.1 * 64 / 0x80000000 = d))).map (fun (e : Nat × Nat) => e.1))

/-- A partition that waits for a die notes that it is clear; with its last its command completes. -/
def Pkg.noteClear (d : Nat) (s : Pkg) (p : Nat) : Pkg :=
  let y := s.part p
  if !(y.clearing.contains d) then s
  else
    let s := s.setPart p { y with clearing := y.clearing.filter (· ≠ d), clearCmd := if y.clearing = [d] then none else y.clearCmd }
    match y.clearCmd with
    | some (c, op) => if y.clearing = [d] then s.complete p c op stOK 0 else s
    | none => s

theorem clearDone_eq {s : Pkg} {d : Nat} (h : (s.sdie d).clearing = true) :
    clearDone s d = (List.range partMax).foldl (Pkg.noteClear d) (s.cleared d) := by
  rw [clearDone, h]
  rfl

theorem Pkg.noteClear_of_unawaited {s : Pkg} {d p : Nat} (h : d ∉ (s.part p).clearing) : s.noteClear d p = s :=
  if_pos (by simpa using h)

theorem Pkg.noteClear_of_last {s : Pkg} {d p c op : Nat} (h : (s.part p).clearing = [d]) (hcmd : (s.part p).clearCmd = some (c, op)) :
    Pkg.noteClear d s p = (s.setPart p { s.part p with clearing := [], clearCmd := none }).complete p c op stOK 0 := by
  simp [Pkg.noteClear, h, hcmd]

theorem Pkg.part_complete_other (s : Pkg) {p q : Nat} (id op status result : Nat) (h : q ≠ p) :
    (s.complete p id op status result).part q = s.part q := by
  unfold Pkg.complete
  dsimp only
  split
  · exact Pkg.part_setPart_other s _ h
  · rfl

/-- The last clear of a partition, for which it alone waits, completes its command. -/
theorem clearDone_of_last {s : Pkg} {d p c op : Nat} (h : (s.sdie d).clearing = true) (hp : p < 16) (hclear : (s.part p).clearing = [d])
    (hcmd : (s.part p).clearCmd = some (c, op)) (hothers : ∀ q, q < 16 → q ≠ p → d ∉ (s.part q).clearing) :
    clearDone s d = ((s.cleared d).setPart p { s.part p with clearing := [], clearCmd := none }).complete p c op stOK 0 := by
  have hlast : Pkg.noteClear d (s.cleared d) p = _ := Pkg.noteClear_of_last (s := s.cleared d) hclear hcmd
  obtain ⟨l₁, l₂, hl, hbefore, hafter⟩ := range_split (n := partMax) hp
  rw [clearDone_eq h, hl, foldl_eq_one, hlast]
  · rfl
  · intro q hq
    exact Pkg.noteClear_of_unawaited (hothers q (hbefore q hq).1 (hbefore q hq).2)
  · intro q hq
    rw [hlast]
    refine Pkg.noteClear_of_unawaited ?_
    rw [Pkg.part_complete_other _ _ _ _ _ (hafter q hq).2, Pkg.part_setPart_other _ _ (hafter q hq).2]
    exact hothers q (hafter q hq).1 (hafter q hq).2

/-- What completes a command is no store die's. -/
theorem Pkg.sdie_complete_cleared (s : Pkg) (d p c : Nat) (y : Part) :
    (((s.cleared d).setPart p y).complete p c 1 stOK 0).sdie d = { s.sdie d with clearing := false, lost := [] } := by
  refine Eq.trans ?_ (s.sdie_setSdie d _)
  unfold Pkg.complete
  dsimp only
  split <;> rfl

/-- A change of tiles, of harts or of store dies is none of a partition. -/
theorem Pkg.eachTile_parts (s : Pkg) (ts : List Nat) (f : Tile → Tile) : (s.eachTile ts f).parts = s.parts :=
  Pkg.foldl_keeps Pkg.parts (fun k t => k.setTile_parts t _) ts s

/-- Each of a list of store dies begins to clear, and one that cleared goes on (09:R266). -/
theorem Pkg.clearing_startClear {l : List Nat} {k : Pkg} {d : Nat} (h : d ∈ l ∨ (k.sdie d).clearing = true) :
    ((l.foldl (fun s d => s.setSdie d { s.sdie d with clearing := true }) k).sdie d).clearing = true := by
  induction l generalizing k with
  | nil => simpa using h
  | cons j l ih =>
    rw [List.foldl_cons]
    refine ih ?_
    by_cases hj : d = j
    · subst hj
      exact .inr (by rw [Pkg.sdie, Pkg.setSdie, Tab.get_set_self])
    · have hother : (k.setSdie j { k.sdie j with clearing := true }).sdie d = k.sdie d := Tab.get_set_other _ _ _ hj
      rw [hother]
      exact h.imp_left fun hd => (List.mem_cons.1 hd).resolve_left hj

/-- A composed partition as it stands before its clear is noted. -/
theorem Pkg.compose_eq (s : Pkg) (p : Nat) (cmd : Option (Nat × Nat)) : ∃ k : Pkg,
    s.compose p cmd = (k.setPart p { k.part p with clearing := s.namedDies p, clearCmd := cmd })
    ∧ k.parts = (s.setPart p { s.part p with st := .loading, dies := s.namedDies p, harts := s.freeHarts.take (s.ent (0x2000 + p) 3), holdCause := 0 }).parts
    ∧ ∀ d ∈ s.namedDies p, (k.sdie d).clearing = true := by
  refine ⟨_, rfl, ?_, fun d hd => ?_⟩
  · refine (Pkg.foldl_keeps Pkg.parts (fun k (d : Nat) => k.setSdie_parts d _) _ _).trans ?_
    refine (Pkg.foldl_keeps Pkg.parts (fun k (h : Nat) => k.setHart_parts h _) _ _).trans ?_
    exact Pkg.eachTile_parts _ _ _
  · exact Pkg.clearing_startClear (.inl hd)

/-- A composed partition (14:R426, R427). -/
theorem Pkg.part_compose (s : Pkg) (p : Nat) (cmd : Option (Nat × Nat)) :
    (s.compose p cmd).part p = { s.part p with st := .loading, dies := s.namedDies p, harts := s.freeHarts.take (s.ent (0x2000 + p) 3), holdCause := 0,
                                               clearing := s.namedDies p, clearCmd := cmd } := by
  obtain ⟨k, hk, hparts, -⟩ := s.compose_eq p cmd
  rw [hk, Pkg.part_setPart, Pkg.part_of_parts hparts, Pkg.part_setPart]

theorem Pkg.part_compose_other (s : Pkg) {p q : Nat} (cmd : Option (Nat × Nat)) (h : q ≠ p) : (s.compose p cmd).part q = s.part q := by
  obtain ⟨k, hk, hparts, -⟩ := s.compose_eq p cmd
  rw [hk, Pkg.part_setPart_other _ _ h, Pkg.part_of_parts hparts, Pkg.part_setPart_other _ _ h]

theorem ite_some_eq_none {α : Type} {c : Prop} [Decidable c] {a : α} {x : Option α} : (if c then some a else x) = none ↔ ¬c ∧ x = none := by
  split <;> simp_all

/-- The checks of LOAD_BEGIN, in their order (14:R426). -/
theorem Pkg.beginRefusal_eq_none (s : Pkg) (p : Nat) : s.beginRefusal p = none ↔
    (s.fault.noLoad = false ∧ ∀ d ∈ s.namedDies p, s.partsOfDie d = [] ∧ d ∉ s.fault.noAssign)
    ∧ s.ent (0x2000 + p) 3 ≤ s.freeHarts.length
    ∧ s.partsLive.foldl (fun n q => n + s.ent (0x2000 + q) 4) (s.ent (0x2000 + p) 4) ≤ 98304
    ∧ (∀ q ∈ s.partsLive, s.ent (0x2000 + q) 5 ≠ s.ent (0x2000 + p) 5)
    ∧ s.namedDies p ≠ [] ∧ 0 < s.ent (0x2000 + p) 5 ∧ s.ent (0x2000 + p) 5 < 2 ^ 24 := by
  have hjob (j : Nat) : ¬(decide (j = 0) || decide (0xFFFFFF < j)) = true ↔ 0 < j ∧ j < 2 ^ 24 := by
    simp only [Bool.or_eq_true, decide_eq_true_eq]
    omega
  have hdies : ¬(s.fault.noLoad || (s.namedDies p).any (fun d => !(s.partsOfDie d).isEmpty || s.fault.noAssign.contains d)) = true
      ↔ s.fault.noLoad = false ∧ ∀ d ∈ s.namedDies p, s.partsOfDie d = [] ∧ d ∉ s.fault.noAssign := by
    simp
  simp only [Pkg.beginRefusal, ite_some_eq_none, hdies, hjob, Nat.not_lt, and_true, List.any_eq_true, decide_eq_true_eq, not_exists, not_and,
    List.isEmpty_iff, ne_eq]

end Sys2Proof

namespace Sys2Proof.Machine

open Sys2Proof

/-- Settles O23: the command completes with the check that fails, or composes; the last clear completes it. -/
theorem loadBeginComposes : Obligations.LoadBeginComposes := by
  unfold Obligations.LoadBeginComposes
  intro s p e rest k
  refine ⟨fun h hst => ?_, k.beginRefusal_eq_none p, fun d c hp hd hon hclear hlast hcmd hothers => ?_⟩
  · obtain ⟨hp, hon, _⟩ := id h
    have hgives := gives_act (exec_loadBegin p s) (decide_eq_true hp) hon
    rw [loadBegin, Pkg.withCmd_inState_of_takes h (by simp [hst])] at hgives
    have hpart := k.part_compose p (some (cmdId e, 1))
    refine ⟨fun n hn => ?_, fun hnone => ⟨?_, by rw [hpart], by rw [hpart], by rw [hpart], by rw [hpart], by rw [hpart], fun d hd => ?_, fun q hq => ?_⟩⟩
    · simp only [k] at hn
      simp only [hn] at hgives
      exact hgives
    · simp only [k] at hnone
      simp only [hnone] at hgives
      exact hgives
    · obtain ⟨x, hx, -, hdies⟩ := k.compose_eq p (some (cmdId e, 1))
      rw [hx]
      exact hdies d hd
    · exact (k.part_compose_other _ hq).trans (s.pkg.part_setPart_other _ hq)
  · have hgives := gives_dstoreClearDone hd hon
    rw [clearDone_of_last hclear hp hlast hcmd hothers] at hgives
    refine ⟨_, hgives, ?_⟩
    simp only [Pkg.part_complete, Pkg.part_setPart]
    have hdie : (((s.pkg.cleared d).setPart p { s.pkg.part p with clearing := [], clearCmd := none }).complete p c 1 stOK 0).sdie d
        = { s.pkg.sdie d with clearing := false, lost := [] } := Pkg.sdie_complete_cleared s.pkg d p c _
    simp only [hdie, true_and]
    refine ⟨Pkg.ent_setEnt_self _ _ _ _, fun hgen => ?_⟩
    rw [if_pos hgen]
    rfl

end Sys2Proof.Machine
end

section
/-!
PROOF. LOAD_COMMIT checks the image and makes the partition ready (14:R426, R437 to R439).
-/

namespace Sys2Proof

/-- The schedule settings of a partition that becomes ready (14:R437). -/
theorem Part.settle_eq (x : Part) (N : Nat) :
    x.settle N = { x with st := .ready, startFrame := N, holdCause := 0
                          mem := { f := x.img.fUs * 1000, w := x.img.w, b := x.img.b, cap := x.img.cap, gambit := bit x.img.flags 0,
                                   digest := bit x.img.flags 1, n := N, inputs := x.mem.inputs } } := rfl

/-- A tile that is loaded waits for its ramp slot (04:R152). -/
theorem Pkg.tile_loadTile (s : Pkg) (t i : Nat) (row : List Byte) :
    ∃ x : Tile, (s.loadTile t i row).tile t = { x with mode := .rampWait, frameEnd := true } :=
  ⟨_, Pkg.tile_setTile _ t _⟩

end Sys2Proof

namespace Sys2Proof.Machine

open Sys2Proof

/-- Settles O24: the image's checks decide the completion; an image without fault is settled, bound and loaded. -/
theorem loadCommitMakesReady : Obligations.LoadCommitMakesReady := by
  unfold Obligations.LoadCommitMakesReady
  intro s p e rest h hst _ _ k a
  obtain ⟨hp, hon, _⟩ := id h
  have hgives := gives_act (exec_loadCommit p s) (decide_eq_true hp) hon
  rw [loadCommit, Pkg.withCmd_inState_of_takes h (by simp [hst])] at hgives
  have hpart : k.part p = { s.pkg.part p with q := { (s.pkg.part p).q with read := rest } } := s.pkg.part_took p rest
  refine ⟨fun hrange => ?_, fun hrange c hc => ?_, fun hrange hnone => ?_⟩
  · simp only [k, a] at hrange
    simp only [hrange, Bool.not_false, if_true, Pkg.fail] at hgives
    exact hgives
  · simp only [k, a] at hrange hc
    simp only [hrange, Bool.not_true, Bool.false_eq_true, if_false, hc] at hgives
    exact hgives
  · intro m x img y ts bound tiled whole
    refine ⟨?_, ?_, fun z t i row => ?_⟩
    · simp only [k, a] at hrange hnone
      simp only [hrange, Bool.not_true, Bool.false_eq_true, if_false, hnone, s.pkg.part_took p rest, Pkg.fail] at hgives
      simp only [whole, tiled, bound, y, img, m, ts, x, k, a, s.pkg.part_took p rest]
      exact hgives
    · simp only [y, hpart]
      exact ⟨rfl, rfl, rfl, rfl, rfl, rfl, rfl, rfl, rfl, rfl, rfl, rfl⟩
    · obtain ⟨x, hx⟩ := z.tile_loadTile t i row
      rw [hx]
      exact ⟨rfl, rfl⟩

end Sys2Proof.Machine
end

section
/-!
PROOF. The units of a partition that halts (14:R431): a state in which a write that is on its way outlives the discarding of its partition.
-/

namespace Sys2Proof.Machine

open Sys2Proof

/-- A package whose list of store dies names one die twice, the second time with a write of tile 0 for partition 0 on its way: taking the
writes of the partition filters the first entry alone. -/
def staleWrite : State :=
  { pkg := { sdies := [(1, { spares := 3 }), (1, { spares := 2, arriving := [{ src := 0, unit := 0, part := 0, seq := 1, addr := 0, data := [1] }] })] } }

/-- The write reaches its die while partition 0 stops, and is noted at its tile, which is none of the partition's. -/
theorem stopUnits_staleWrite : (staleWrite.pkg.tile 0).part ≠ 0 + 1 ∧ (staleWrite.pkg.stopUnits 0).tile 0 ≠ staleWrite.pkg.tile 0 := by
  decide

/-- Refutes O25: where the table of store dies lists a die twice, the units of partition 0 stop and a tile of no partition changes. -/
theorem not_launchAndRestore : ¬ Obligations.LaunchAndRestore := by
  unfold Obligations.LaunchAndRestore
  rintro ⟨-, hcmds, -⟩
  obtain ⟨-, -, -, hunits⟩ := hcmds staleWrite 0 [] []
  obtain ⟨hkept, -⟩ := hunits 0
  obtain ⟨hother, hchanged⟩ := stopUnits_staleWrite
  exact hchanged (hkept hother)

end Sys2Proof.Machine
end

section
/-!
PROOF. PACKET_WRITE notes a reference to its region before any of its packets (09:R274): with no packet the region's stamp moves all the same.
-/

namespace Sys2Proof.Machine

open Sys2Proof

/-- A PACKET_WRITE of no packet to region 0. -/
def emptyPacketWrite : List Byte := 0x0D :: List.replicate 63 0

/-- A package that serves partition 0, which is loading: the queue holds that command, region 0 is the partition's and loading, and the Tempo
counter stands at 5. -/
def referredRegion : State :=
  { pkg := { tempo := { now := 5 }, fw := { loadable := true, up := true }, parts := [(0, { st := .loading, q := { read := [emptyPacketWrite] } })],
             tier := { regions := [(0, { st := 1, part := 0 })] } } }

/-- The package as the statement has it: no packet is handed over and the command completes. -/
def emptyWriteAsStated : Pkg := ((referredRegion.pkg.took 0 []).complete 0 (cmdId emptyPacketWrite) 0x0D 0 0).settled 0

theorem referredRegion_takes : referredRegion.pkg.takes 0 0x0D emptyPacketWrite [] := by decide

theorem last_packetWrite : ((packetWrite referredRegion.pkg 0 (.ok [])).region 0).last = 5 := by decide

theorem last_emptyWriteAsStated : (emptyWriteAsStated.region 0).last = 0 := by decide

/-- Refutes O22: a PACKET_WRITE of no packet sets the last-reference stamp of its region, which the statement leaves. -/
theorem not_regionCommands : ¬ Obligations.RegionCommands := by
  unfold Obligations.RegionCommands
  rintro ⟨hcmds, -⟩
  obtain ⟨-, -, -, -, hwrite, -⟩ := hcmds referredRegion 0 emptyPacketWrite []
  have hstated : Gives (.packetWrite 0 (.ok [])) referredRegion emptyWriteAsStated :=
    hwrite [] referredRegion_takes (by decide) (by decide) (by decide) (by decide) (by decide) (by decide)
  have hmodel : Gives (.packetWrite 0 (.ok [])) referredRegion (packetWrite referredRegion.pkg 0 (.ok [])) :=
    gives_act (exec_packetWrite 0 (.ok []) referredRegion) rfl rfl
  have hlast := last_packetWrite
  rw [gives_unique hmodel hstated, last_emptyWriteAsStated] at hlast
  cases hlast

end Sys2Proof.Machine
end

section
/-!
PROOF. The capture of a stop (14:R447 to R449), its limit, late captures and yielded guarantees (13:R423).
-/

namespace Sys2Proof

open Sys2Proof.Machine

/-- Of two changes of a partition the later stands, where the first left one that is not as at reset. -/
theorem Pkg.setPart_setPart (s : Pkg) (p : Nat) {x : Part} (y : Part) (h : x ≠ {}) : (s.setPart p x).setPart p y = s.setPart p y := by
  simp only [Pkg.setPart, Tab.set_set _ _ _ h]

/-- The end of a capture forgets it, and may note it as late (14:R447). -/
theorem Pkg.part_endCapture (s : Pkg) (p : Nat) (c : Capture) : ∃ l e, (s.endCapture p c).part p = { s.part p with cap := none, lateCaps := l, preemptEnd := e } :=
  ⟨_, _, Pkg.part_setPart _ _ _⟩

/-- An abandoned capture reports CHECKPOINT_FAILED with its cause (14:R448, R453). -/
theorem Pkg.captureFailed_spec {s : Pkg} {p : Nat} {c : Capture} (h : (s.part p).cap = some c) (cause status : Nat) :
    ((s.captureFailed p cause status).part p).cap = none
    ∧ Reports (s.captureFailed p cause status) 0x0803 p [fld c.bytes 20 4, fld c.bytes 8 8, cause] := by
  have hgo : s.captureFailed p cause status = if c.origin = 1 then ((s.endCapture p c).endYields p 4).raise 0x0803 p [fld c.bytes 20 4, fld c.bytes 8 8, cause]
      else (((s.endCapture p c).endYields p 4).raise 0x0803 p [fld c.bytes 20 4, fld c.bytes 8 8, cause]).complete p c.cmd (if c.origin = 2 then 0x10 else 0x06) status 0 := by
    rw [Pkg.captureFailed, h]
  have hcap : ((((s.endCapture p c).endYields p 4).raise 0x0803 p [fld c.bytes 20 4, fld c.bytes 8 8, cause]).part p).cap = none := by
    rw [Pkg.part_of_parts (Pkg.raise_parts _ _ _ _ _), Pkg.endYields, Pkg.part_setPart]
    obtain ⟨l, e, hpart⟩ := s.part_endCapture p c
    rw [hpart]
  have hlog (k : Pkg) (id op st r : Nat) : (k.complete p id op st r).log = k.log := by
    unfold Pkg.complete
    dsimp only
    split <;> rfl
  rw [hgo]
  split
  · exact ⟨hcap, Pkg.reports_raise _ _ _ _ _⟩
  · refine ⟨?_, ?_⟩
    · rw [Pkg.part_complete]
      exact hcap
    · rw [Reports, hlog]
      exact Pkg.reports_raise _ _ _ _ _

@[simp] theorem Pkg.complete_log (s : Pkg) (p id op st r : Nat) : (s.complete p id op st r).log = s.log := by
  unfold Pkg.complete
  dsimp only
  split <;> rfl

@[simp] theorem Pkg.complete_tier (s : Pkg) (p id op st r : Nat) : (s.complete p id op st r).tier = s.tier := by
  unfold Pkg.complete
  dsimp only
  split <;> rfl

/-- Requests held through a capture are received, and nothing else happens. -/
theorem Pkg.keeps_freeHeld {α : Type} (g : Pkg → α) (hg : ∀ (s : Pkg) (x : Fabric), g { s with net := x } = g s) (s : Pkg) (p : Nat) :
    g (s.freeHeld p) = g s := by
  have hfold (l : List (Nat × List Byte)) (k : Pkg) : g (l.foldr (fun h s => let x := s.port h.1
      s.setPort h.1 { x with rx := { vc := 8, packet := h.2, at_ := s.tempo.fine } :: x.rx }) k) = g k := by
    induction l with
    | nil => rfl
    | cons h l ih => exact (hg _ _).trans ih
  exact (hfold _ _).trans (hg _ _)

/-- A completion writes the last status of its partition alone (14:R455). -/
theorem Pkg.ent_complete_other (s : Pkg) {p i j : Nat} (id op st r : Nat) (h : dkey i j ≠ dkey (0x2000 + p) 0x0A) :
    (s.complete p id op st r).ent i j = s.ent i j := by
  unfold Pkg.complete
  dsimp only
  rw [Pkg.ent_setEnt_other _ _ h]
  split <;> rfl

/-- Every region of a list is sealed (14:R448). -/
theorem Pkg.region_sealed {l : List Nat} {k : Pkg} {r now : Nat} (h : r ∈ l ∨ (k.region r).st = 2) :
    ((l.foldl (fun s r => s.setRegion r { s.region r with st := 2, last := now }) k).region r).st = 2 := by
  induction l generalizing k with
  | nil => simpa using h
  | cons j l ih =>
    rw [List.foldl_cons]
    refine ih ?_
    by_cases hj : r = j
    · subst hj
      exact .inr (by rw [Pkg.region_setRegion])
    · rw [Pkg.region_setRegion_other _ _ hj]
      exact h.imp_left fun hr => (List.mem_cons.1 hr).resolve_left hj

/-- What a package counts, reports and keeps in regions as a capture's member goes on or holds. -/
def Pkg.books (s : Pkg) : Tab Nat × List Event × Tier := (s.dict, s.log, s.tier)

@[simp] theorem Pkg.setPart_books (s : Pkg) (p : Nat) (x : Part) : (s.setPart p x).books = s.books := rfl

@[simp] theorem Pkg.freeHeld_books (s : Pkg) (p : Nat) : (s.freeHeld p).books = s.books := Pkg.keeps_freeHeld Pkg.books (fun _ _ => rfl) s p

theorem Pkg.eachTile_books (s : Pkg) (ts : List Nat) (f : Tile → Tile) : (s.eachTile ts f).books = s.books :=
  Pkg.foldl_keeps Pkg.books (fun k t => show (k.setTile t _).books = k.books from rfl) ts s

@[simp] theorem Pkg.leaveHold_books (s : Pkg) (p : Nat) : (s.leaveHold p).books = s.books := by
  have hcolls (k : Pkg) (l : List Coll) : Pkg.books { k with colls := l } = k.books := rfl
  rw [Pkg.leaveHold, Pkg.collUnpause, hcolls, Pkg.eachTile_books]

theorem Pkg.leaveHold_parts (s : Pkg) (p : Nat) : (s.leaveHold p).parts = s.parts := by
  have hcolls (k : Pkg) (l : List Coll) : Pkg.parts { k with colls := l } = k.parts := rfl
  rw [Pkg.leaveHold, Pkg.collUnpause, hcolls, Pkg.eachTile_parts]

/-- The regions of a stop are sealed. -/
def Pkg.sealAll (s : Pkg) (rs : List Nat) : Pkg := rs.foldl (fun k r => k.setRegion r { k.region r with st := 2, last := s.tempo.now }) s

theorem Pkg.sealAll_dict (s : Pkg) (rs : List Nat) : (s.sealAll rs).dict = s.dict :=
  Pkg.foldl_keeps Pkg.dict (fun k r => show (k.setRegion r _).dict = k.dict from rfl) rs s

theorem Pkg.region_sealAll (s : Pkg) {rs : List Nat} {r : Nat} (h : r ∈ rs) : ((s.sealAll rs).region r).st = 2 := Pkg.region_sealed (.inl h)

/-- The member after its capture (14:R448): it goes on from its stop, or holds. -/
def Pkg.afterCapture (s : Pkg) (p : Nat) (c : Capture) (now : Nat) : Pkg :=
  let s := s.setPart p { s.part p with ckptBase := c.since, ckptTried := false }
  let s := (s.freeHeld p).endYields p 4
  if byteAt c.bytes 17 = 1 then s.holdAfter p 0x0801
  else
    let s := s.leaveHold p
    let x := s.part p
    s.setPart p { x with st := .running, mem := { x.mem with cutEnd := now + 1 } }

theorem Pkg.afterCapture_spec (s : Pkg) (p : Nat) (c : Capture) (now : Nat) :
    (s.afterCapture p c now).books = s.books
    ∧ ((s.afterCapture p c now).part p).cap = (s.part p).cap ∧ ((s.afterCapture p c now).part p).ckptBase = c.since
    ∧ (byteAt c.bytes 17 = 1 → ((s.afterCapture p c now).part p).st = .holding ∧ ((s.afterCapture p c now).part p).holdCause = 0x0801)
    ∧ (byteAt c.bytes 17 ≠ 1 → ((s.afterCapture p c now).part p).st = .running) := by
  have hfree : ((s.setPart p { s.part p with ckptBase := c.since, ckptTried := false }).freeHeld p).part p = { s.part p with ckptBase := c.since, ckptTried := false } := by
    rw [Pkg.keeps_freeHeld (Pkg.part · p) (fun _ _ => rfl), Pkg.part_setPart]
  by_cases hhold : byteAt c.bytes 17 = 1
  · simp only [Pkg.afterCapture, hhold, if_true, Pkg.holdAfter, Pkg.endYields, Pkg.part_setPart, hfree, ne_eq, not_true_eq_false, false_implies,
      true_implies, and_self, Pkg.setPart_books, Pkg.freeHeld_books]
  · simp only [Pkg.afterCapture, hhold, if_false, Pkg.endYields, Pkg.part_of_parts (Pkg.leaveHold_parts _ _), Pkg.part_setPart, hfree, false_implies, ne_eq,
      not_false_eq_true, true_implies, and_self, Pkg.setPart_books, Pkg.leaveHold_books, Pkg.freeHeld_books]

end Sys2Proof

namespace Sys2Proof.Machine

open Sys2Proof

/-- Without a capture, the four commands of the cut do nothing. -/
theorem capture_of_none {s : Pkg} {p : Nat} (h : (s.part p).cap = none) :
    cutContribute s p = s ∧ (∀ n, cutReport s p n = s) ∧ checkpointDone s p = s ∧ captureLimit s p = s := by
  simp only [cutContribute, cutReport, checkpointDone, captureLimit, h, implies_true, and_self]

end Sys2Proof.Machine

namespace Sys2Proof

open Sys2Proof.Machine

/-- A capture that ended is reported and counted (14:R449). -/
def Pkg.noteCapture (s : Pkg) (p : Nat) (c : Capture) (now : Nat) : Pkg :=
  let s := (((s.endCapture p c).raise 0x0801 p [fld c.bytes 20 4, fld c.bytes 8 8, c.stream.length, now - c.since]).bump (0x8000 + p) 0x0A 1).setEnt
    (0x8000 + p) 0x0B (fld c.bytes 8 8)
  (s.setEnt (0x8000 + p) 0x0C c.stream.length).setEnt (0x8000 + p) 0x0D (now - c.since)

/-- The command of a capture completes, where one asked for it. -/
def Pkg.answerCapture (s : Pkg) (p : Nat) (c : Capture) : Pkg :=
  if c.origin = 1 then s else s.complete p c.cmd (if c.origin = 2 then 0x10 else 6) stOK (fld c.bytes 8 8)

theorem Pkg.noteCapture_spec (s : Pkg) (p : Nat) (c : Capture) (now : Nat) :
    ((s.noteCapture p c now).part p).cap = none ∧ (s.noteCapture p c now).tier = s.tier
    ∧ Reports (s.noteCapture p c now) 0x0801 p [fld c.bytes 20 4, fld c.bytes 8 8, c.stream.length, now - c.since]
    ∧ (s.noteCapture p c now).ent (0x8000 + p) 0x0A = s.ent (0x8000 + p) 0x0A + 1
    ∧ (s.noteCapture p c now).ent (0x8000 + p) 0x0B = fld c.bytes 8 8 ∧ (s.noteCapture p c now).ent (0x8000 + p) 0x0C = c.stream.length
    ∧ (s.noteCapture p c now).ent (0x8000 + p) 0x0D = now - c.since := by
  have hkey {a b : Nat} (h : a ≠ b) (ha : a < 256) (hb : b < 256) : dkey (0x8000 + p) a ≠ dkey (0x8000 + p) b := fun he => h (dkey_inj ha hb he).2
  unfold Pkg.noteCapture
  dsimp only
  refine ⟨?_, ?_, ?_, ?_, ?_, ?_, Pkg.ent_setEnt_self _ _ _ _⟩
  · obtain ⟨l, e, hend⟩ := s.part_endCapture p c
    rw [Pkg.part_of_parts (Pkg.setEnt_parts _ _ _ _), Pkg.part_of_parts (Pkg.setEnt_parts _ _ _ _), Pkg.part_of_parts (Pkg.setEnt_parts _ _ _ _),
      Pkg.part_of_parts (Pkg.bump_parts _ _ _ _), Pkg.part_of_parts (Pkg.raise_parts _ _ _ _ _), hend]
  · rw [Pkg.setEnt_tier, Pkg.setEnt_tier, Pkg.setEnt_tier]
    have hbare := (Pkg.bare_bump _ (0x8000 + p) 0x0A 1).trans
      ((s.endCapture p c).bare_raise 0x0801 p [fld c.bytes 20 4, fld c.bytes 8 8, c.stream.length, now - c.since] [])
    have htier := congrArg Pkg.tier hbare
    exact htier
  · simp only [Reports, Pkg.setEnt_log, Pkg.bump_log]
    exact Pkg.reports_raise _ _ _ _ _
  · rw [Pkg.ent_setEnt_other _ _ (hkey (by decide) (by decide) (by decide)), Pkg.ent_setEnt_other _ _ (hkey (by decide) (by decide) (by decide)),
      Pkg.ent_setEnt_other _ _ (hkey (by decide) (by decide) (by decide)), Pkg.ent_bump_self,
      Pkg.ent_raise _ _ _ _ _ (by simp only [dkey]; omega) (by simp only [dkey]; omega)]
    rfl
  · rw [Pkg.ent_setEnt_other _ _ (hkey (by decide) (by decide) (by decide)), Pkg.ent_setEnt_other _ _ (hkey (by decide) (by decide) (by decide)),
      Pkg.ent_setEnt_self]
  · rw [Pkg.ent_setEnt_other _ _ (hkey (by decide) (by decide) (by decide)), Pkg.ent_setEnt_self]

theorem Pkg.answerCapture_spec (s : Pkg) (p : Nat) (c : Capture) :
    ((s.answerCapture p c).part p).cap = (s.part p).cap ∧ (s.answerCapture p c).tier = s.tier ∧ (s.answerCapture p c).log = s.log
    ∧ ∀ j, j < 256 → (s.answerCapture p c).ent (0x8000 + p) j = s.ent (0x8000 + p) j := by
  unfold Pkg.answerCapture
  split
  · exact ⟨rfl, rfl, rfl, fun _ _ => rfl⟩
  · refine ⟨by rw [Pkg.part_complete], s.complete_tier _ _ _ _ _, s.complete_log _ _ _ _ _, fun j hj => ?_⟩
    exact Pkg.ent_complete_other _ _ _ _ _ fun he => by have := (dkey_inj hj (by decide) he).1; omega

end Sys2Proof

namespace Sys2Proof.Machine

open Sys2Proof

/-- The stream is in the bricks: the regions are sealed, the capture ends and is counted, its command completes, the member goes on or holds. -/
theorem checkpointDone_of_written {s : Pkg} {p : Nat} {c : Capture} (hcap : (s.part p).cap = some c) (hstep : c.step = 3)
    (hdone : ∀ r ∈ stopRegions c.bytes, s.writesDone r = true) :
    checkpointDone s p = (((s.sealAll (stopRegions c.bytes)).noteCapture p c s.tempo.now).answerCapture p c).afterCapture p c s.tempo.now := by
  have hno : (decide (c.step ≠ 3) || !((stopRegions c.bytes).all s.writesDone)) = false := by simpa [hstep] using hdone
  simp only [checkpointDone, hcap, hno, Bool.false_eq_true, if_false, Pkg.sealAll, Pkg.noteCapture, Pkg.answerCapture, Pkg.afterCapture]


/-- Once its limit has passed, a capture is abandoned and its member holds (14:R448). -/
theorem captureLimit_of_late {s : Pkg} {p : Nat} {c : Capture} (hcap : (s.part p).cap = some c) (hlate : c.begun + s.ent (0x8000 + p) 9 * 1000000 < s.tempo.now) :
    ∃ k : Pkg, captureLimit s p = k.holdAfter p 0x0803 ∧ (k.part p).cap = none ∧ Reports k 0x0803 p [fld c.bytes 20 4, fld c.bytes 8 8, 0] := by
  have hgo : captureLimit s p = ((s.draw.2.captureFailed p 0 (s.draw.1 % 65536)).freeHeld p).holdAfter p 0x0803 := by
    simp only [captureLimit, hcap, Nat.not_le.2 hlate, if_false]
  have hdraw : (s.draw.2.part p).cap = some c := hcap
  obtain ⟨hnone, hreports⟩ := Pkg.captureFailed_spec hdraw 0 (s.draw.1 % 65536)
  refine ⟨_, hgo, ?_, ?_⟩
  · rw [Pkg.keeps_freeHeld (Pkg.part · p) fun _ _ => rfl]
    exact hnone
  · rw [Reports, Pkg.keeps_freeHeld Pkg.log fun _ _ => rfl]
    exact hreports

/-- The first capture that ended after its deadline is reported; with a recovery as its cause level 4 yielded (13:R423, 14:R447). -/
theorem checkpointLate_of_late {s : Pkg} {p : Nat} {l : LateCap} {more : List LateCap} (h : (s.part p).lateCaps = l :: more) :
    let k := (s.setPart p { s.part p with lateCaps := more }).raise 0x0804 p [l.id, l.deadline, l.ended]
    checkpointLate s p = if l.recovery = 0 then k
      else k.addYield p { prevails := 3, level := 4, cause := 2 ^ 32 + (l.recovery - 1), start := l.deadline, stop := some l.ended } := by
  simp only [checkpointLate, h]
  cases l.recovery <;> rfl

/-- The one episode of a partition is due once it has ended or has lasted 1 s (13:R423). -/
theorem guaranteeYielded_of_due {s : Pkg} {p : Nat} {y : Yield} (h : (s.part p).yields = [y]) (hnew : y.told = false)
    (hdue : y.stop.isSome = true ∨ y.start + 1000000000 ≤ s.tempo.now) :
    guaranteeYielded s p = ((s.setPart p { s.part p with yields := if y.stop.isSome then [] else [{ y with told := true }] }).raise 0x0204 p
      [y.level, y.prevails, y.cause, y.start, y.stop.getD s.tempo.now - y.start]).bump 0x3003 y.level 1 := by
  have hfind : (s.part p).yields.find? (fun y : Yield => !y.told && (y.stop.isSome || decide (y.start + 1000000000 ≤ s.tempo.now))) = some y := by
    simp [h, hnew, hdue]
  have hrest : (mapIf (fun z => decide (z = y)) (fun (z : Yield) => { z with told := true }) (s.part p).yields).filter (fun z => !(z.told && z.stop.isSome))
      = if y.stop.isSome then [] else [{ y with told := true }] := by
    cases hstop : y.stop <;> simp [h, mapIf, hstop]
  simp only [guaranteeYielded, hfind, hrest]

theorem guaranteeYielded_of_early {s : Pkg} {p : Nat} {y : Yield} (h : (s.part p).yields = [y]) (hstop : y.stop = none)
    (hearly : s.tempo.now < y.start + 1000000000) : guaranteeYielded s p = s := by
  have hfind : (s.part p).yields.find? (fun y : Yield => !y.told && (y.stop.isSome || decide (y.start + 1000000000 ≤ s.tempo.now))) = none := by
    simp [h, hstop, Nat.not_le.2 hearly]
  simp only [guaranteeYielded, hfind]

/-- Settles O27: each command of the capture by its guard, and what its tail leaves of the capture, the counts and the log. -/
theorem checkpointCapture : Obligations.CheckpointCapture := by
  unfold Obligations.CheckpointCapture
  intro s p c hp hon x N
  have hu : decide (p < partMax) = true := decide_eq_true hp
  have hcontribute := gives_act (exec_cutReportContribute p s) hu hon
  have hreport := fun n => gives_act (exec_cutReport p n s) hu hon
  have hdone := gives_act (exec_checkpointDone p s) hu hon
  have hlimit := gives_act (exec_captureLimitTimeout p s) hu hon
  have hlate := gives_act (exec_checkpointLate p s) hu hon
  have hyielded := gives_act (exec_guaranteeYielded p s) hu hon
  refine ⟨fun hcap => ⟨fun hstep hdrained => ?contribute, fun hdrained => ?undrained, fun hstep hcombined hst hrec => ?report, fun n hn => ?noReport,
      fun hstep hwritten => ?done, fun hearly => ?inTime, fun hover => ?limit⟩,
    fun l more hl => ?late, fun hl hnone => ?notLate, fun hnone => ?noCapture, fun y hy hnew => ⟨fun z hz => ?ended, fun hstop hlong => ?long, fun hstop hshort => ?short⟩⟩
  case contribute =>
    have hx : ({ x with cap := some { c with step := 2, sent := s.pkg.tempo.now } } : Part) ≠ {} := fun he => by cases congrArg Part.cap he
    have hguard : (decide (c.step = 1) && s.pkg.cutDrained p) = true := by rw [hstep, hdrained]; rfl
    simp only [cutContribute, show (s.pkg.part p).cap = some c from hcap, hguard, if_true, Pkg.setCap, Pkg.setMem, Pkg.part_setPart] at hcontribute
    rw [Pkg.setPart_setPart _ _ _ hx] at hcontribute
    exact hcontribute
  case undrained =>
    have hguard : (decide (c.step = 1) && s.pkg.cutDrained p) = false := by rw [hdrained, Bool.and_false]
    simp only [cutContribute, show (s.pkg.part p).cap = some c from hcap, hguard, Bool.false_eq_true, if_false] at hcontribute
    exact hcontribute
  case report =>
    have hguard : (decide (c.step = 2) && decide (N = N) && x.st == .checkpointing && x.mem.combined.isSome && !(s.pkg.recoveryHolds p)) = true := by
      simp [hstep, hst, hrec, Option.isSome_iff_ne_none.2 hcombined]
    have h := hreport N
    simp only [cutReport, show (s.pkg.part p).cap = some c from hcap] at h
    rw [if_pos hguard] at h
    exact h
  case noReport =>
    have hguard : ¬(decide (c.step = 2) && decide (N = n) && x.st == .checkpointing && x.mem.combined.isSome && !(s.pkg.recoveryHolds p)) = true := by
      rcases hn with hnone | hframe | hrec
      · simp [hnone]
      · simp [Ne.symm hframe]
      · simp [hrec]
    have h := hreport n
    simp only [cutReport, show (s.pkg.part p).cap = some c from hcap] at h
    rw [if_neg hguard] at h
    exact h
  case done =>
    rw [checkpointDone_of_written hcap hstep hwritten] at hdone
    refine ⟨_, hdone, ?_⟩
    generalize hk₁ : s.pkg.sealAll (stopRegions c.bytes) = k₁
    obtain ⟨hcap₂, htier₂, hlog₂, hcount₂, hframe₂, hlen₂, htime₂⟩ := k₁.noteCapture_spec p c s.pkg.tempo.now
    generalize k₁.noteCapture p c s.pkg.tempo.now = k₂ at *
    obtain ⟨hcap₃, htier₃, hlog₃, hent₃⟩ := k₂.answerCapture_spec p c
    generalize k₂.answerCapture p c = k₃ at *
    obtain ⟨hbooks, hcap₄, hbase, hhold, hrun⟩ := k₃.afterCapture_spec p c s.pkg.tempo.now
    generalize k₃.afterCapture p c s.pkg.tempo.now = k₄ at *
    have hent (j : Nat) (hj : j < 256) : k₄.ent (0x8000 + p) j = k₂.ent (0x8000 + p) j := by
      rw [Pkg.ent, show k₄.dict = k₃.dict from congrArg (·.1) hbooks]
      exact hent₃ j hj
    have hlog : k₄.log = k₂.log := (congrArg (·.2.1) hbooks).trans hlog₃
    have htier : k₄.tier = k₁.tier := (congrArg (·.2.2) hbooks).trans (htier₃.trans htier₂)
    refine ⟨hcap₄.trans (hcap₃.trans hcap₂), fun r hr => ?_, hbase, (hent _ (by decide)).trans hframe₂, (hent _ (by decide)).trans hlen₂, ?_,
      (hent _ (by decide)).trans htime₂, ?_, hhold, hrun⟩
    · rw [Pkg.region, htier, ← hk₁]
      exact s.pkg.region_sealAll hr
    · rw [hent _ (by decide), hcount₂, Pkg.ent, ← hk₁, Pkg.sealAll_dict, Pkg.ent]
    · rw [Reports, hlog]
      exact hlog₂
  case inTime =>
    simp only [captureLimit, show (s.pkg.part p).cap = some c from hcap, if_pos hearly] at hlimit
    exact hlimit
  case limit =>
    obtain ⟨k, hk, hnone, hreports⟩ := captureLimit_of_late hcap hover
    rw [hk] at hlimit
    refine ⟨_, hlimit, ?_, ?_, ?_, hreports⟩ <;> simp only [Pkg.holdAfter, Pkg.part_setPart]
    exact hnone
  case late =>
    rw [checkpointLate_of_late hl] at hlate
    dsimp only at hlate
    have hpart := Pkg.part_of_parts (Pkg.raise_parts (s.pkg.setPart p { x with lateCaps := more }) 0x0804 p [l.id, l.deadline, l.ended] []) p
    rw [Pkg.part_setPart] at hpart
    have hreports := (s.pkg.setPart p { x with lateCaps := more }).reports_raise 0x0804 p [l.id, l.deadline, l.ended] []
    generalize (s.pkg.setPart p { x with lateCaps := more }).raise 0x0804 p [l.id, l.deadline, l.ended] [] = k at *
    refine ⟨_, hlate, ?_⟩
    by_cases hrec : l.recovery = 0
    · simp only [hrec, if_true, hpart, ne_eq, not_true_eq_false, false_implies, implies_true, and_true, true_and]
      exact hreports
    · simp only [hrec, if_false, Pkg.addYield, Pkg.part_setPart, hpart, ne_eq, not_false_eq_true, false_implies, implies_true, and_true, true_and]
      exact hreports
  case notLate =>
    simp only [checkpointLate, show (s.pkg.part p).lateCaps = [] from hl, Pkg.lateMark, show (s.pkg.part p).cap = none from hnone] at hlate
    exact hlate
  case noCapture =>
    obtain ⟨hc, hr, hd, hl⟩ := capture_of_none hnone
    rw [hc] at hcontribute
    rw [hd] at hdone
    rw [hl] at hlimit
    exact ⟨hcontribute, fun n => by have h := hreport n; rw [hr n] at h; exact h, hdone, hlimit⟩
  case ended =>
    rw [guaranteeYielded_of_due hy hnew (.inl (by rw [hz]; rfl)), hz] at hyielded
    refine ⟨_, hyielded, ?_, ?_, ?_⟩
    · rw [Pkg.part_of_parts (Pkg.bump_parts _ _ _ _), Pkg.part_of_parts (Pkg.raise_parts _ _ _ _ _), Pkg.part_setPart]
      rfl
    · rw [Pkg.ent_bump_self, Pkg.ent_raise _ _ _ _ _ (by simp only [dkey]; omega) (by simp only [dkey]; omega)]
      rfl
    · rw [Reports, Pkg.bump_log]
      exact Pkg.reports_raise _ _ _ _ _
  case long =>
    rw [guaranteeYielded_of_due hy hnew (.inr hlong), hstop] at hyielded
    refine ⟨_, hyielded, ?_, ?_⟩
    · rw [Pkg.part_of_parts (Pkg.bump_parts _ _ _ _), Pkg.part_of_parts (Pkg.raise_parts _ _ _ _ _), Pkg.part_setPart, hstop]
      rfl
    · rw [Reports, Pkg.bump_log]
      exact Pkg.reports_raise _ _ _ _ _
  case short =>
    rw [guaranteeYielded_of_early hy hstop hshort] at hyielded
    exact hyielded

end Sys2Proof.Machine
end

section
/-!
PROOF. What a tile core leaves alone (04:R121 to R125, R140): each of its operations changes its own tile, counters and the log, and of its
partition the hold of the member.
-/

namespace Sys2Proof

open Sys2Proof.Machine

/-- A tile's partition and its program: what its instructions leave. -/
def Tile.home (t : Tile) : Nat × Mem := (t.part, t.isram)

section
variable (t : Tile)

@[simp] theorem Tile.setX_home (i : Nat) (v : Word) : (t.setX i v).home = t.home := by
  simp only [Tile.setX, apply_ite Tile.home]
  exact ite_self _

@[simp] theorem Tile.adv_home (len cyc : Nat) : (t.adv len cyc).home = t.home := rfl

@[simp] theorem Tile.wr_home (a : Nat) (bs : List Byte) : (t.wr a bs).home = t.home := by
  simp only [Tile.wr, apply_ite Tile.home]
  exact ite_self _

@[simp] theorem Tile.wrEach_home (ws : List (Nat × Byte)) : (t.wrEach ws).home = t.home := by
  induction ws generalizing t with
  | nil => rfl
  | cons w ws ih => exact (ih _).trans (t.wr_home _ _)

@[simp] theorem Tile.addFlags_home (f : Flags) : (t.addFlags f).home = t.home := rfl

@[simp] theorem Tile.putSummary_home (slot tk : Nat) (m : Summ) : (t.putSummary slot tk m).home = t.home := rfl

@[simp] theorem Tile.keepSummary_home (slot tk : Nat) : (t.keepSummary slot tk).home = t.home := rfl

@[simp] theorem Tile.endTicket_home (k status detail : Nat) : (t.endTicket k status detail).home = t.home := by
  unfold Tile.endTicket
  dsimp only
  split <;> rfl

end

/-- A tile as the results of an operation take effect (04:R142). -/
def Tile.merged (t : Tile) (o : EngOp) (g : Staged) : Tile :=
  let t := (t.wrEach g.writes).addFlags g.fl
  match g.summ with
  | some (slot, m) => t.putSummary slot o.ticket m
  | none => if o.kind == .vop && bit o.r2 2 then t.keepSummary (o.r2 % 4) o.ticket else t

/-- What of them is counted (05:R188, 06:R208). -/
def Pkg.countMerged (s : Pkg) (p : Nat) (o : EngOp) (g : Staged) : Pkg :=
  let s := if o.kind == .vop then s.countVop p o g else s
  if o.kind == .mxrun && decide (g.status = 0) then (s.bump (0x3840 + p) 1 1).bump (0x3840 + p) 2 g.van else s

theorem Pkg.mergeOp_of_none (s : Pkg) (n : Nat) {o : EngOp} (h : o.staged = none) : s.mergeOp n o = s := by
  simp only [Pkg.mergeOp, h]

theorem Pkg.mergeOp_of_staged (s : Pkg) (n : Nat) {o : EngOp} {g : Staged} (h : o.staged = some g) :
    s.mergeOp n o =
      let t := (s.tile n).merged o g
      let k := ((s.countMerged (t.part - 1) o g).setTile n t).endOp n o.ticket g.status g.detail (o.kind == .move)
      if g.status = 1 then k.addrError (t.part - 1) o.r1 o.r2 else k := by
  unfold Pkg.mergeOp
  rw [h]
  rfl

@[simp] theorem Tile.merged_home (t : Tile) (o : EngOp) (g : Staged) : (t.merged o g).home = t.home := by
  unfold Tile.merged
  dsimp only
  split
  · simp only [Tile.putSummary_home, Tile.addFlags_home, Tile.wrEach_home]
  · simp only [apply_ite Tile.home, Tile.keepSummary_home, Tile.addFlags_home, Tile.wrEach_home, ite_self]

theorem Pkg.bare_countMerged (s : Pkg) (p : Nat) (o : EngOp) (g : Staged) : (s.countMerged p o g).bare = s.bare := by
  simp only [Pkg.countMerged, Pkg.countVop, apply_ite Pkg.bare, Pkg.bare_bump, ite_self]

/-- The package without its tiles and partitions, its dictionary, its log and what it showed. -/
def Pkg.aside (s : Pkg) : Pkg := { s.core with tiles := [], parts := [] }

theorem Pkg.keeps_of_bare {α : Type} (g : Pkg → α) (hg : ∀ s, g s.bare = g s) {s t : Pkg} (h : s.bare = t.bare) : g s = g t := by
  rw [← hg s, h, hg]

@[simp] theorem Pkg.tile_bump (s : Pkg) (i j m u : Nat) : (s.bump i j m).tile u = s.tile u :=
  Pkg.keeps_of_bare (Pkg.tile · u) (fun _ => rfl) (s.bare_bump i j m)

@[simp] theorem Pkg.tile_countMerged (s : Pkg) (p : Nat) (o : EngOp) (g : Staged) (u : Nat) : (s.countMerged p o g).tile u = s.tile u :=
  Pkg.keeps_of_bare (Pkg.tile · u) (fun _ => rfl) (s.bare_countMerged p o g)

@[simp] theorem Pkg.tile_cycles (s : Pkg) (n cyc u : Nat) : (s.cycles n cyc).tile u = s.tile u := s.tile_bump _ _ _ u

/-- Of a partition, at most the state, the hold's cause and time and the member's state differ. -/
def Part.HeldAs (x y : Part) : Prop :=
  y = { x with st := y.st, holdCause := y.holdCause, heldAt := y.heldAt, mem := { x.mem with state := y.mem.state } }

/-- Tile `n` alone has acted: beside counters and the log it changed itself, and of its partition the hold. -/
structure TileActed (n : Nat) (s k : Pkg) : Prop where
  aside : k.aside = s.aside
  others : ∀ u, u ≠ n → k.tile u = s.tile u
  home : (k.tile n).home = (s.tile n).home
  parts : ∀ q, q ≠ (s.tile n).part - 1 → k.part q = s.part q
  own : (s.part ((s.tile n).part - 1)).HeldAs (k.part ((s.tile n).part - 1))

namespace TileActed

theorem same_part {n : Nat} {s k : Pkg} (h : TileActed n s k) : (k.tile n).part = (s.tile n).part := congrArg (·.1) h.home

/-- What leaves the partitions alone leaves the own one as it was. -/
theorem of_parts {n : Nat} {s k : Pkg} (haside : k.aside = s.aside) (hothers : ∀ u, u ≠ n → k.tile u = s.tile u)
    (hhome : (k.tile n).home = (s.tile n).home) (hparts : k.parts = s.parts) : TileActed n s k := by
  refine ⟨haside, hothers, hhome, fun q _ => Pkg.part_of_parts hparts q, ?_⟩
  rw [Pkg.part_of_parts hparts]
  rfl

theorem refl (n : Nat) (s : Pkg) : TileActed n s s := of_parts rfl (fun _ _ => rfl) rfl rfl

theorem trans {n : Nat} {s k m : Pkg} (h : TileActed n s k) (h' : TileActed n k m) : TileActed n s m := by
  have hpart := h.same_part
  refine ⟨h'.aside.trans h.aside, fun u hu => (h'.others u hu).trans (h.others u hu), h'.home.trans h.home, fun q hq => ?_, ?_⟩
  · exact (h'.parts q (by rwa [hpart])).trans (h.parts q hq)
  · have hown := h'.own
    rw [hpart] at hown
    have hfirst := h.own
    unfold Part.HeldAs at *
    rw [hown, hfirst]

theorem ite {n : Nat} {s a b : Pkg} {c : Prop} [Decidable c] (ha : c → TileActed n s a) (hb : ¬c → TileActed n s b) :
    TileActed n s (if c then a else b) := by
  split
  · exact ha ‹_›
  · exact hb ‹_›

variable {n : Nat} {s k : Pkg}

/-- The tile is put back. -/
theorem setTile (h : TileActed n s k) {t : Tile} (ht : t.home = (k.tile n).home) : TileActed n s (k.setTile n t) := by
  refine h.trans (of_parts rfl (fun u hu => Pkg.tile_setTile_other _ _ hu) ?_ rfl)
  rw [Pkg.tile_setTile, ht]

/-- Counters, events and what is shown leave the tiles and partitions alone. -/
theorem of_bare (h : TileActed n s k) {m : Pkg} (hbare : m.bare = k.bare) : TileActed n s m := by
  have htile (u : Nat) : m.tile u = k.tile u := Pkg.keeps_of_bare (Pkg.tile · u) (fun _ => rfl) hbare
  refine h.trans (of_parts ?_ (fun u _ => htile u) (by rw [htile]) ?_)
  · exact Pkg.keeps_of_bare Pkg.aside (fun _ => rfl) hbare
  · exact Pkg.keeps_of_bare Pkg.parts (fun _ => rfl) hbare

theorem bump (h : TileActed n s k) (i j m : Nat) : TileActed n s (k.bump i j m) := h.of_bare (k.bare_bump i j m)

theorem cycles (h : TileActed n s k) (u cyc : Nat) : TileActed n s (k.cycles u cyc) := h.bump _ _ _

theorem raise (h : TileActed n s k) (code part : Nat) (items : List Nat) : TileActed n s (k.raise code part items) := h.of_bare (k.bare_raise code part items [])

/-- The member of the tile's partition holds (14:R429). -/
theorem hold (h : TileActed n s k) (code : Nat) {p : Nat} (hp : p = (s.tile n).part - 1) : TileActed n s (k.hold p code) := by
  subst hp
  refine h.trans ?_
  unfold Pkg.hold
  dsimp only
  split
  · refine ⟨rfl, fun _ _ => rfl, rfl, fun q hq => Pkg.part_setPart_other _ _ (by rwa [← h.same_part]), ?_⟩
    rw [h.same_part, Pkg.part_setPart]
    rfl
  · exact refl n k

theorem retire (h : TileActed n s k) {t : Tile} (ht : t.home = (k.tile n).home) (len cyc : Nat) : TileActed n s (k.retire n t len cyc) := by
  refine (h.cycles n cyc).setTile ((t.adv_home len cyc).trans (ht.trans ?_))
  rw [k.tile_cycles]

theorem killTile (h : TileActed n s k) (code : Nat) (more : List Nat) : TileActed n s (k.killTile n code more) := by
  refine TileActed.hold (.raise (h.setTile ?_) _ _ _) _ ?_
  · rfl
  · rw [h.same_part]

theorem stopTile (h : TileActed n s k) (cause : Nat) : TileActed n s (k.stopTile n cause) := (h.bump _ _ _).killTile _ _

theorem trap (h : TileActed n s k) (cause : Nat) (tval : Word) (twice : Bool) : TileActed n s (k.trap n cause tval twice) := by
  unfold Pkg.trap
  dsimp only
  refine .ite (fun _ => h.stopTile _) fun _ => .ite (fun _ => h.stopTile _) fun _ => ?_
  exact ((h.setTile (by rfl)).cycles _ _).bump _ _ _

theorem raiseExc (h : TileActed n s k) (cause : Nat) (tval : Word) (twice : Bool := false) : TileActed n s (k.raiseExc n cause tval twice) :=
  .ite (fun _ => h) fun _ => h.trap _ _ _

theorem refuseLocal (h : TileActed n s k) (cause : Nat) (tval : Word) : TileActed n s (k.refuseLocal n cause tval) :=
  .ite (fun _ => h) fun _ => (h.bump _ _ _).trap _ _ _

theorem endOp (h : TileActed n s k) (j status detail : Nat) (move : Bool) : TileActed n s (k.endOp n j status detail move) := by
  have hput := (h.setTile ((k.tile n).endTicket_home j status detail)).bump (0x3020 + ((k.tile n).part - 1)) 1 1
  exact .ite (fun _ => hput.bump _ _ _) fun _ => hput

theorem addrError (h : TileActed n s k) (p a m : Nat) : TileActed n s (k.addrError p a m) := .ite (fun _ => (h.bump _ _ _).bump _ _ _) fun _ => h.bump _ _ _

theorem countMerged (h : TileActed n s k) (p : Nat) (o : EngOp) (g : Staged) : TileActed n s (k.countMerged p o g) := h.of_bare (k.bare_countMerged p o g)

theorem mergeOp (h : TileActed n s k) (o : EngOp) : TileActed n s (k.mergeOp n o) := by
  cases hg : o.staged with
  | none =>
    rw [k.mergeOp_of_none n hg]
    exact h
  | some g =>
    rw [k.mergeOp_of_staged n hg]
    have hcount : TileActed n s (k.countMerged (((k.tile n).merged o g).part - 1) o g) := h.countMerged _ _ _
    have hput : TileActed n s ((k.countMerged (((k.tile n).merged o g).part - 1) o g).setTile n ((k.tile n).merged o g)) :=
      hcount.setTile (by rw [Tile.merged_home, Pkg.tile_countMerged])
    exact .ite (fun _ => (hput.endOp _ _ _ _).addrError _ _ _) fun _ => hput.endOp _ _ _ _

theorem finishOp (h : TileActed n s k) (o : EngOp) (g : Staged) : TileActed n s (k.finishOp n o g) := by
  unfold Pkg.finishOp
  dsimp only
  exact .ite (fun _ => .ite (fun _ => h.setTile rfl) fun _ => h) fun _ => h.mergeOp _

theorem issue (h : TileActed n s k) (rdst : Nat) (o : EngOp) : TileActed n s (k.issue n rdst o) :=
  h.retire (by rw [Tile.setX_home]; rfl) _ _

theorem issueBad (h : TileActed n s k) (rdst detail : Nat) (kind : OpKind) : TileActed n s (k.issueBad n rdst detail kind) :=
  (h.issue _ _).finishOp _ _

end TileActed

end Sys2Proof

namespace Sys2Proof

open Sys2Proof.Machine Rv

section
variable (s : Pkg) (n : Nat)

/-- What a tile does with a fetched instruction it does only where it executes. -/
theorem tileActed_withInstr {f : Nat → Nat → Nat → Pkg} (hf : ∀ w len raw, TileActed n s (f w len raw)) : TileActed n s (s.withInstr n f) := by
  unfold Pkg.withInstr
  split
  · split
    · exact hf _ _ _
    · exact .refl n s
  · exact .refl n s

theorem tileActed_alu (w len raw cyc : Nat) (rs : List Nat) (v : Option Word) : TileActed n s (tileAlu s n w len raw cyc rs v) := by
  unfold tileAlu
  cases v with
  | none => exact (TileActed.refl n s).raiseExc _ _
  | some v => exact .ite (fun _ => .refl n s) fun _ => (TileActed.refl n s).retire (Tile.setX_home _ _ _) _ _

theorem tileActed_jump (rdst len st : Nat) (target : Word) : TileActed n s (tileJump s n rdst len st target) :=
  ((TileActed.refl n s).cycles n _).setTile ((Tile.setX_home (s.tile n) _ _).trans (by rw [Pkg.tile_cycles]))

theorem tileActed_branch (w len : Nat) : TileActed n s (tileBranch s n w len) := by
  unfold tileBranch
  dsimp only
  split
  · exact (TileActed.refl n s).raiseExc _ _
  · exact .ite (fun _ => .refl n s) fun _ => ((TileActed.refl n s).cycles n 1).setTile (by rw [Pkg.tile_cycles]; rfl)

theorem tileActed_load (w len : Nat) : TileActed n s (tileLoad s n w len) := by
  have h := TileActed.refl n s
  unfold tileLoad
  dsimp only
  refine .ite (fun _ => h) fun _ => .ite (fun _ => h.raiseExc _ _) fun _ => .ite (fun _ => h.raiseExc _ _) fun _ =>
    .ite (fun _ => h.refuseLocal _ _) fun _ => .ite (fun _ => h) fun _ => h.retire ?_ _ _
  split
  · exact Tile.setX_home _ _ _
  · exact Tile.setX_home _ _ _

theorem tileActed_store (w len : Nat) : TileActed n s (tileStore s n w len) := by
  have h := TileActed.refl n s
  unfold tileStore
  dsimp only
  exact .ite (fun _ => h) fun _ => .ite (fun _ => h.raiseExc _ _) fun _ => .ite (fun _ => h.raiseExc _ _) fun _ =>
    .ite (fun _ => h.refuseLocal _ _) fun _ => .ite (fun _ => h) fun _ => h.retire (Tile.wr_home _ _ _) _ _

theorem tileActed_instr : TileActed n s (tileInstr s n) := by
  have h := TileActed.refl n s
  unfold tileInstr
  refine .ite (fun _ => h) fun _ => ?_
  dsimp only
  split
  · exact .ite (fun _ => h.refuseLocal _ _) fun _ => h.raiseExc _ _
  · exact h.raiseExc _ _
  · split
    · exact tileActed_alu s n _ _ _ _ _ _
    · exact tileActed_alu s n _ _ _ _ _ _
    · exact tileActed_jump s n _ _ _ _
    · exact .ite (fun _ => h.raiseExc _ _) fun _ => .ite (fun _ => h) fun _ => tileActed_jump s n _ _ _ _
    · exact .ite (fun _ => h.raiseExc _ _) fun _ => tileActed_branch s n _ _
    · exact tileActed_load s n _ _
    · exact tileActed_store s n _ _
    · exact tileActed_alu s n _ _ _ _ _ _
    · exact tileActed_alu s n _ _ _ _ _ _
    · exact tileActed_alu s n _ _ _ _ _ _
    · exact tileActed_alu s n _ _ _ _ _ _
    · exact .ite (fun _ => h) fun _ => h.raiseExc _ _
    · exact .ite (fun _ => h) fun _ => .ite (fun _ => h) fun _ => h.raiseExc _ _
    · exact .ite (fun _ => h.raiseExc _ _) fun _ => .ite (fun _ => .ite (fun _ => h) fun _ => h.issueBad _ _ _) fun _ => h

theorem tileActed_csr : TileActed n s (tileCsr s n) := by
  have h := TileActed.refl n s
  refine tileActed_withInstr s n fun w len raw => .ite (fun _ => ?_) fun _ => h
  dsimp only
  split
  · exact h.raiseExc _ _
  · refine .ite (fun _ => h.raiseExc _ _) fun _ => .ite (fun _ => h) fun _ => h.retire ?_ _ _
    exact (apply_ite Tile.home _ _ _).trans ((ite_self _).trans (Tile.setX_home _ _ _))

theorem tileActed_nop (p : Nat → Bool) : TileActed n s (tileNop s n p) :=
  tileActed_withInstr s n fun _ _ _ => .ite (fun _ => (TileActed.refl n s).retire rfl _ _) fun _ => .refl n s

theorem tileActed_raise (p : Nat → Bool) (cause : Nat) (tval : Nat → Word) : TileActed n s (tileRaise s n p cause tval) :=
  tileActed_withInstr s n fun _ _ _ => .ite (fun _ => (TileActed.refl n s).raiseExc _ _) fun _ => .refl n s

theorem tileActed_mret : TileActed n s (tileMret s n) :=
  tileActed_withInstr s n fun _ _ _ => .ite (fun _ => ((TileActed.refl n s).cycles n 1).setTile (by rw [Pkg.tile_cycles]; rfl)) fun _ => .refl n s

theorem tileActed_regionOpen : TileActed n s (regionOpen s n) :=
  tileActed_withInstr s n fun _ _ _ => .ite (fun _ => ((TileActed.refl n s).cycles n 1).setTile (by rw [Pkg.tile_cycles]; rfl)) fun _ => .refl n s

end

end Sys2Proof

namespace Sys2Proof.Machine

open Sys2Proof

/-- A command of a tile leaves what it makes of a package that is on, and the package as it is where it is off. -/
theorem leaves_act {i : Instr} {s : State} {u : Bool} {f : Pkg → Pkg} {P : Pkg → Prop} (hexec : exec i s = act u s f) (hu : u = true)
    (hf : P (f s.pkg)) (hself : P s.pkg) : Leaves i s P := by
  by_cases hon : s.pkg.fw.off = 0
  · exact ⟨_, gives_act hexec hu hon, hf⟩
  · refine ⟨s.pkg, hexec.trans ?_, hself⟩
    simp only [act, hu, if_true, if_neg hon]

/-- Settles O32: each of the nine commands is an action of its tile. -/
theorem tileCoreFrame : Obligations.TileCoreFrame := by
  unfold Obligations.TileCoreFrame
  intro s n hn
  have hu : decide (n < tileMax) = true := decide_eq_true hn
  have hleaves {i : Instr} {f : Pkg → Pkg} (hexec : exec i s = act (decide (n < tileMax)) s f) (hf : TileActed n s.pkg (f s.pkg)) :
      Leaves i s (TileActed n s.pkg) := leaves_act hexec hu hf (.refl n s.pkg)
  have hall : ∀ i ∈ [Instr.tileInstruction n, .tileCsrAccess n, .fence n, .wfi n, .fenceI n, .ecall n, .ebreak n, .mret n, .speculationRegionOpen n],
      Leaves i s (TileActed n s.pkg) := by
    simp only [List.forall_mem_cons, List.not_mem_nil, false_implies, implies_true, and_true]
    exact ⟨hleaves (exec_tileInstruction n s) (tileActed_instr _ n), hleaves (exec_tileCsrAccess n s) (tileActed_csr _ n),
      hleaves (exec_fence n s) (tileActed_nop _ n _), hleaves (exec_wfi n s) (tileActed_nop _ n _), hleaves (exec_fenceI n s) (tileActed_raise _ n _ _ _),
      hleaves (exec_ecall n s) (tileActed_raise _ n _ _ _), hleaves (exec_ebreak n s) (tileActed_raise _ n _ _ _),
      hleaves (exec_mret n s) (tileActed_mret _ n), hleaves (exec_speculationRegionOpen n s) (tileActed_regionOpen _ n)⟩
  intro i hi
  obtain ⟨k, hgives, hacted⟩ := hall i hi
  have haside {α : Type} (g : Pkg → α) (hg : ∀ s, g s.aside = g s) : g k = g s.pkg := by rw [← hg k, hacted.aside, hg]
  exact ⟨k, hgives, haside _ fun _ => rfl, haside _ fun _ => rfl, haside _ fun _ => rfl, haside _ fun _ => rfl, haside _ fun _ => rfl, haside _ fun _ => rfl,
     hacted.others, congrArg (·.2) hacted.home, hacted.parts, hacted.own⟩

end Sys2Proof.Machine
end

section
/-!
PROOF. Hart plies (08:R242 to R246): marks, their commit and the record it leaves, completed accesses and the switch of harts.
-/

namespace Sys2Proof

open Sys2Proof.Machine

/-- Bytes written are read back. -/
theorem Mem.readN_writeN_same (m : Mem) (a : Nat) (bs : List Byte) : (m.writeN a bs).readN a bs.length = bs := by
  induction bs generalizing m a with
  | nil => rfl
  | cons b bs ih =>
    have hfirst : (m.writeN a (b :: bs)).read a = b := Mem.read_writeN_inside m a (b :: bs) 0 (by simp)
    rw [List.length_cons, Mem.readN, hfirst, Mem.writeN, ih]

/-- Bytes apart from those written are read as before. -/
theorem Mem.readN_writeN_apart (m : Mem) {a c n : Nat} {bs : List Byte} (h : c + n ≤ a) : (m.writeN a bs).readN c n = m.readN c n := by
  induction n generalizing c with
  | zero => rfl
  | succ n ih => rw [Mem.readN, Mem.readN, Mem.read_writeN_outside _ _ _ _ (.inl (by omega)), ih (by omega)]

theorem length_padTo (n : Nat) (bs : List Byte) : (padTo n bs).length = n := by
  simp only [padTo, List.length_append, List.length_take, List.length_replicate]
  omega

/-- Bit field 10:9 holds what is put there. -/
theorem bits_putBits_vs (v : Nat) : bits (putBits v 10 9 2) 10 9 = 2 := by
  simp only [bits, putBits]
  omega

/-- The package without partitions, faults, counters and reports. -/
def Pkg.unrecorded (s : Pkg) : Pkg := { s.bare with fault := {}, parts := [] }

@[simp] theorem Pkg.castlingRecord_unrecorded (s : Pkg) (r : CRec) : (s.castlingRecord r).unrecorded = s.unrecorded := by
  have hbump (k : Pkg) (i j n : Nat) : (k.bump i j n).unrecorded = k.unrecorded := Pkg.keeps_of_bare Pkg.unrecorded (fun _ => rfl) (k.bare_bump i j n)
  have hpeak (k : Pkg) (i j n : Nat) : (k.peak i j n).unrecorded = k.unrecorded := Pkg.keeps_of_bare Pkg.unrecorded (fun _ => rfl) (k.bare_peak i j n)
  have hraise (k : Pkg) (c p : Nat) (l : List Nat) (b : List Byte) : (k.raise c p l b).unrecorded = k.unrecorded :=
    Pkg.keeps_of_bare Pkg.unrecorded (fun _ => rfl) (k.bare_raise c p l b)
  have hset (k : Pkg) (i j v : Nat) : (k.setEnt i j v).unrecorded = k.unrecorded := rfl
  have hrec (k : Pkg) (l : Tab (List Byte)) (b : Bool) : Pkg.unrecorded { k with fault := { k.fault with pendingMap := b, records := l } } = k.unrecorded := rfl
  simp only [Pkg.castlingRecord, apply_ite Pkg.unrecorded, hraise, hbump, hpeak, hset, ite_self]
  exact hrec s _ _

@[simp] theorem Pkg.lateRecord_unrecorded (s : Pkg) (r : CRec) : (s.lateRecord r).unrecorded = s.unrecorded := by
  have hyields (l : List Nat) (y : Yield) (k : Pkg) : (l.foldl (fun s p => s.addYield p y) k).unrecorded = k.unrecorded :=
    Pkg.foldl_keeps Pkg.unrecorded (fun k p => show (k.addYield p y).unrecorded = k.unrecorded from rfl) l k
  unfold Pkg.lateRecord
  dsimp only
  split
  · exact s.castlingRecord_unrecorded r
  · refine (Pkg.foldl_keeps Pkg.unrecorded (fun k p => ?_) _ _).trans (s.castlingRecord_unrecorded _)
    rfl

theorem Pkg.mapCore_unrecorded (s : Pkg) (c : Nat) (f : Recovery → Recovery) : (s.mapCore c f).unrecorded = s.unrecorded := rfl

@[simp] theorem Pkg.coreDone_unrecorded (s : Pkg) (c : Nat) : (s.coreDone c).unrecorded = s.unrecorded := by
  refine (Pkg.foldl_keeps Pkg.unrecorded (fun k r => ?_) _ _).trans rfl
  exact (k.repairGroup 5 (c / 48)).lateRecord_unrecorded _

theorem Pkg.keeps_of_unrecorded {α : Type} (g : Pkg → α) (hg : ∀ s, g s.unrecorded = g s) {s t : Pkg} (h : s.unrecorded = t.unrecorded) : g s = g t := by
  rw [← hg s, h, hg]

@[simp] theorem Pkg.onceRelease_unsent (s : Pkg) (h node key : Nat) : (s.onceRelease h node key).unsent = s.unsent := by
  unfold Pkg.onceRelease
  dsimp only
  split
  · exact s.post_unsent _ _ _ _ _
  · rfl

/-- A hart without what an applied write may end: its reservation, and the marks of applied stores. -/
def Hart.still (x : Hart) : Hart := { x with applied := [], resv := none }

theorem Hart.still_applied (x : Hart) (t : Tab Nat) : Hart.still { x with applied := t } = x.still := rfl

/-- Each hart, reservations and marks of applied stores apart. -/
def Pkg.stillHart (s : Pkg) (h : Nat) : Hart := (s.hart h).still

theorem Pkg.of_stillHart {α : Type} (f : Hart → α) (hf : ∀ x, f x.still = f x) {s k : Pkg} {h : Nat} (hstill : k.stillHart h = s.stillHart h) :
    f (k.hart h) = f (s.hart h) := by
  rw [← hf, ← hf (s.hart h)]
  exact congrArg f hstill

theorem Tab.get_map_still {f : Nat × Hart → Nat × Hart} (hf : ∀ e, (f e).1 = e.1 ∧ (f e).2.still = e.2.still) (t : Tab Hart) (h : Nat) :
    (Tab.get {} (t.map f) h).still = (Tab.get {} t h).still := by
  induction t with
  | nil => rfl
  | cons e t ih =>
    obtain ⟨hnumber, hstill⟩ := hf e
    rw [List.map_cons, Tab.get, Tab.get, hnumber]
    split
    · exact hstill
    · exact ih

@[simp] theorem Pkg.stillHart_dropResv (s : Pkg) (l : List Nat) (own h : Nat) : (s.dropResv l own).stillHart h = s.stillHart h := by
  refine Tab.get_map_still (fun e => ?_) s.harts h
  split
  · split <;> exact ⟨rfl, rfl⟩
  · exact ⟨rfl, rfl⟩

@[simp] theorem Pkg.stillHart_bump (s : Pkg) (i j n h : Nat) : (s.bump i j n).stillHart h = s.stillHart h :=
  Pkg.keeps_of_bare (Pkg.stillHart · h) (fun _ => rfl) (s.bare_bump i j n)

@[simp] theorem Pkg.stillHart_countWrite (s : Pkg) (p home a n h : Nat) : (s.countWrite p home a n).stillHart h = s.stillHart h := by
  simp only [Pkg.countWrite, apply_ite (Pkg.stillHart · h), Pkg.stillHart_bump, ite_self]

@[simp] theorem Pkg.stillHart_dstorePut (s : Pkg) (a : Nat) (d : List Byte) (h : Nat) : (s.dstorePut a d).stillHart h = s.stillHart h := by
  rw [Pkg.dstorePut, Pkg.stillHart_dropResv]
  rfl

@[simp] theorem Pkg.stillHart_writeThrough (s : Pkg) (j a : Nat) (d : List Byte) (h : Nat) : (s.writeThrough j a d).stillHart h = s.stillHart h := by
  simp only [Pkg.writeThrough, Pkg.stillHart_dropResv, Pkg.stillHart_bump]
  rfl

/-- What is written of a hart but its reservation and its marks leaves the rest of the harts. -/
theorem Pkg.stillHart_setHart (s : Pkg) (j : Nat) {x : Hart} (hx : x.still = s.stillHart j) (h : Nat) : (s.setHart j x).stillHart h = s.stillHart h := by
  by_cases hj : h = j
  · subst hj
    rw [Pkg.stillHart, Pkg.hart_setHart, hx]
  · rw [Pkg.stillHart, Pkg.hart_setHart_other _ _ hj, Pkg.stillHart]

@[simp] theorem Pkg.stillHart_setTile (s : Pkg) (n : Nat) (t : Tile) (h : Nat) : (s.setTile n t).stillHart h = s.stillHart h := rfl

@[simp] theorem Pkg.stillHart_applyTile (s : Pkg) (w : DWrite) (h : Nat) : (s.applyTile w).stillHart h = s.stillHart h := by
  simp only [Pkg.applyTile, Pkg.dstoreAcc, apply_ite (Pkg.stillHart · h), Pkg.stillHart_bump, Pkg.stillHart_dstorePut, Pkg.stillHart_countWrite,
    Pkg.stillHart_setTile, ite_self]

@[simp] theorem Pkg.stillHart_applyHart (s : Pkg) (w : DWrite) (h : Nat) : (s.applyHart w).stillHart h = s.stillHart h := by
  simp only [Pkg.applyHart, apply_ite (Pkg.stillHart · h), Pkg.stillHart_writeThrough, Pkg.stillHart_countWrite]
  rw [Pkg.stillHart_setHart s w.unit (Hart.still_applied _ _), ite_self]

/-- A write that reaches its S-die ends reservations and is noted at its hart; harts are else as they were. -/
@[simp] theorem Pkg.stillHart_applyWrite (s : Pkg) (w : DWrite) (h : Nat) : (s.applyWrite w).stillHart h = s.stillHart h := by
  unfold Pkg.applyWrite
  split
  · exact s.stillHart_applyTile w h
  · exact s.stillHart_applyHart w h
  · simp only [Pkg.dwordInc, apply_ite (Pkg.stillHart · h), Pkg.stillHart_dstorePut, ite_self]

@[simp] theorem Pkg.stillHart_takeWrites (s : Pkg) (p : DWrite → Bool) (h : Nat) : (s.takeWrites p).2.stillHart h = s.stillHart h :=
  Pkg.foldl_keeps (Pkg.stillHart · h) (fun k (e : Nat × SDie) => show (k.setSdie e.1 _).stillHart h = k.stillHart h from rfl) _ s

theorem Pkg.hmark_of_none (s : Pkg) {h : Nat} (hno : ((s.hart h).marked || s.svc h) = true) : s.hmark h = s := if_pos hno

/-- The stores of a hart's ply are on their way to their S-dies (08:R245). -/
def Pkg.sendPly (s : Pkg) (h : Nat) : Pkg :=
  let x := s.hart h
  let ws := x.buf.flatMap (fun e => cutLines e.1 e.2)
  ((List.range ws.length).zip ws).foldl
    (fun s w => s.sendWrite { src := 1, unit := h, part := x.part - 1, seq := x.seq, idx := w.1, addr := w.2.1, data := w.2.2 }) s

/-- They change what is on its way, nothing else. -/
theorem Pkg.keeps_sendPly {α : Type} (g : Pkg → α) (hg : ∀ (k : Pkg) (w : DWrite), g (k.sendWrite w) = g k) (s : Pkg) (h : Nat) : g (s.sendPly h) = g s :=
  Pkg.foldl_keeps g (fun k (_ : Nat × Nat × List Byte) => hg k _) _ s

/-- A mark sends the stores of the ply on their way, and the next ply's time runs (08:R244). -/
theorem Pkg.hmark_of_unmarked (s : Pkg) {h : Nat} (hno : ((s.hart h).marked || s.svc h) = false) :
    s.hmark h = (s.sendPly h).setHart h { s.hart h with marked := true, resv := none, since := s.tempo.now } := by
  have htempo : (s.sendPly h).tempo = s.tempo := s.keeps_sendPly Pkg.tempo (fun _ _ => rfl) h
  rw [← htempo]
  exact if_neg (ne_true_of_eq_false hno)

theorem Pkg.hmark_dstore (s : Pkg) (h : Nat) : (s.hmark h).dstore = s.dstore := by
  cases hno : (s.hart h).marked || s.svc h with
  | true => rw [s.hmark_of_none hno]
  | false =>
    rw [s.hmark_of_unmarked hno, Pkg.setHart_dstore, Pkg.keeps_sendPly Pkg.dstore fun _ _ => rfl]

theorem Pkg.hmark_other (s : Pkg) {h j : Nat} (hj : j ≠ h) : (s.hmark h).hart j = s.hart j := by
  cases hno : (s.hart h).marked || s.svc h with
  | true => rw [s.hmark_of_none hno]
  | false =>
    rw [s.hmark_of_unmarked hno, Pkg.hart_setHart_other _ _ hj, Pkg.keeps_sendPly (Pkg.hart · j) fun _ _ => rfl]

/-- The vector state is dirty (08:R246). -/
def Hart.dirty (x : Hart) : Bool := decide (x.a.csr.vs = 3)

/-- The architectural state and the half of the vector image that the next ply begins with. -/
def Hart.nextArch (x : Hart) : HArch := if x.dirty then { x.a with csr := { x.a.csr with sstatus := putBits x.a.csr.sstatus 10 9 2 } } else x.a

def Hart.nextHalf (x : Hart) : Nat := if x.dirty then 1 - x.vhalf else x.vhalf

/-- A hart whose ply is committed. -/
def Hart.committed (x : Hart) : Hart :=
  { x with a := x.nextArch, vhalf := x.nextHalf, seq := x.seq + 1, marked := false, n := 0, buf := [], lines := [], once := 0 }

theorem Hart.nextArch_pc (x : Hart) : x.nextArch.pc = x.a.pc := by
  unfold Hart.nextArch
  split <;> rfl

theorem Hart.nextArch_x (x : Hart) : x.nextArch.x = x.a.x := by
  unfold Hart.nextArch
  split <;> rfl

/-- It begins with vector state that is not dirty. -/
theorem Hart.nextArch_vs (x : Hart) : x.nextArch.csr.vs ≠ 3 := by
  unfold Hart.nextArch
  split
  · rw [HCsr.vs, bits_putBits_vs]
    decide
  · next hclean => simpa [Hart.dirty] using hclean

/-- The record area of a hart is told by what writes leave of it. -/
theorem Pkg.hartArea_of_still {s k : Pkg} {h : Nat} (hstill : k.stillHart h = s.stillHart h) (hparts : k.parts = s.parts) : k.hartArea h = s.hartArea h := by
  have hpart : (k.hart h).part = (s.hart h).part := Pkg.of_stillHart Hart.part (fun _ => rfl) hstill
  have hindex : (k.hart h).index = (s.hart h).index := Pkg.of_stillHart Hart.index (fun _ => rfl) hstill
  rw [Pkg.hartArea, Pkg.hartArea, hpart, hindex, Pkg.part_of_parts hparts]

theorem Pkg.hartRecAddr_of_still (k : Pkg) {s : Pkg} {h : Nat} (hstill : k.stillHart h = s.stillHart h) (hparts : k.parts = s.parts) (seq : Nat) :
    k.hartRecAddr h seq = s.hartRecAddr h seq := by
  rw [Pkg.hartRecAddr, Pkg.hartArea_of_still hstill hparts, Pkg.hartRecAddr]

/-- A recovery of a core without one of the harts that have still to commit (13:R404). -/
def Recovery.without (i : Nat) (r : Recovery) : Recovery := if r.step = 1 then { r with active := r.active - (if bit r.active i then 2 ^ i else 0) } else r

/-- The stores of a hart's ply that are on their way are applied (08:R245). -/
def Pkg.plyWritten (s : Pkg) (h : Nat) : Pkg :=
  let (ws, s) := s.takeWrites (fun w => decide (w.src = 1) && decide (w.unit = h))
  (sortBy (fun (a b : DWrite) => decide (a.idx ≤ b.idx)) ws).foldl Pkg.applyWrite s

/-- The record of the next ply is written, and a dirty vector image; a kept atomic is released (08:R246, 11:R358). -/
def Pkg.plyRecorded (s : Pkg) (h : Nat) : Pkg :=
  let x := s.hart h
  let s := s.dstorePut (s.hartRecAddr h (x.seq + 1)) (x.nextArch.record (x.seq + 1) x.nextHalf)
  let s := if x.dirty then s.dstorePut (s.hartVecAddr h x.nextHalf) (x.nextArch.v.readN 0 16384) else s
  if x.once = 0 then s else s.onceRelease h (x.once - 1) x.seq

theorem Pkg.stillHart_plyWritten (s : Pkg) (h j : Nat) : (s.plyWritten h).stillHart j = s.stillHart j :=
  (Pkg.foldl_keeps (Pkg.stillHart · j) (fun k w => k.stillHart_applyWrite w j) _ _).trans (s.stillHart_takeWrites _ j)

theorem Pkg.parts_plyWritten (s : Pkg) (h : Nat) : (s.plyWritten h).parts = s.parts :=
  Pkg.parts_of_rest ((Pkg.foldl_keeps Pkg.rest Pkg.applyWrite_rest _ _).trans (s.takeWrites_rest _))

/-- The record stands where the next ply finds it: the vector image lies beyond it. -/
theorem Pkg.dstore_plyRecorded (s : Pkg) (h : Nat) :
    (s.plyRecorded h).dstore.readN (s.hartRecAddr h ((s.hart h).seq + 1)) 1024
      = (s.hart h).nextArch.record ((s.hart h).seq + 1) (s.hart h).nextHalf := by
  have hlen : ((s.hart h).nextArch.record ((s.hart h).seq + 1) (s.hart h).nextHalf).length = 1024 := length_padTo _ _
  have hrelease (k : Pkg) (n j : Nat) : (k.onceRelease h n j).dstore = k.dstore := Pkg.keeps_of_unsent Pkg.dstore (fun _ => rfl) (k.onceRelease_unsent h n j)
  simp only [Pkg.plyRecorded, apply_ite Pkg.dstore, hrelease, ite_self, Pkg.dstorePut_dstore]
  have hfirst := Mem.readN_writeN_same s.dstore (s.hartRecAddr h ((s.hart h).seq + 1)) ((s.hart h).nextArch.record ((s.hart h).seq + 1) (s.hart h).nextHalf)
  rw [hlen] at hfirst
  split
  · rw [Mem.readN_writeN_apart, hfirst]
    rw [Pkg.hartVecAddr, Pkg.hartArea_of_still (s.stillHart_dstorePut _ _ h) rfl, Pkg.hartRecAddr]
    omega
  · exact hfirst

end Sys2Proof

namespace Sys2Proof.Machine

open Sys2Proof

/-- A hart fetches an instruction of the row. -/
theorem hartRow_of_fetches {s k : Pkg} {h w len raw : Nat} {mine : HArch → Nat → Bool} (hfetch : s.hFetches h w len raw k)
    (hmine : mine (s.hart h).a w = true) (f : Pkg → Nat → Nat → Pkg) : s.hartRow h mine f = (f k w len).endHint h w (s.hart h) := by
  obtain ⟨_, _, hruns, hsoft, hf⟩ := hfetch
  simp only [Pkg.hartRow, hruns, hsoft, hf, hmine, Bool.not_true, Bool.or_self, Bool.false_eq_true, if_false, if_true]

/-- The next of eight in ascending order, wrapping, that meets a condition, after the present one. -/
theorem find_next {ready : Nat → Bool} {cur i : Nat} (hcur : cur < 8) (hi : i < 8) (hne : i ≠ cur) (hready : ready i = true)
    (hfirst : ∀ j, j < 8 → (j + 8 - (cur + 1)) % 8 < (i + 8 - (cur + 1)) % 8 → ready j = false) :
    ((List.range 7).map (fun k => (cur + 1 + k) % 8)).find? ready = some i := by
  have hplace : (cur + 1 + (i + 8 - (cur + 1)) % 8) % 8 = i := by omega
  rw [List.find?_map]
  have hfind : (List.range 7).find? (ready ∘ fun k => (cur + 1 + k) % 8) = some ((i + 8 - (cur + 1)) % 8) := by
    rw [List.find?_range_eq_some]
    refine ⟨by rw [Function.comp_apply, hplace]; exact hready, List.mem_range.2 (by omega), fun j hj => ?_⟩
    have hback : ((cur + 1 + j) % 8 + 8 - (cur + 1)) % 8 = j := by omega
    simpa using hfirst ((cur + 1 + j) % 8) (by omega) (by rwa [hback])
  rw [hfind, Option.map_some, hplace]

/-- A marked hart that waits for nothing commits its ply. -/
theorem hartPlyCommit_of_marked {s : Pkg} {h : Nat} (hpart : (s.hart h).part ≠ 0) (hrun : (s.hart h).on = true) (hmarked : (s.hart h).marked = true)
    (hwait : (s.hart h).wait = .none) (hcore : (Tab.get {} s.cores (h / 8)).failed = false) :
    hartPlyCommit s h = (((((s.plyWritten h).plyRecorded h).setHart h ((s.plyWritten h).hart h).committed).bump
      (0x38A0 + (((s.plyWritten h).hart h).part - 1)) 4 1).mapCore (h / 8) (Recovery.without (h % 8))).coreDone (h / 8) := by
  have hgo : ((((decide ((s.hart h).part = 0) || !(s.hart h).on) || !(s.hart h).marked) || false) || (Tab.get {} s.cores (h / 8)).failed) = false := by
    simp [hpart, hrun, hmarked, hcore]
  simp only [hartPlyCommit, hwait, hgo, Bool.false_eq_true, if_false, Pkg.plyWritten, Pkg.plyRecorded, Hart.committed, Hart.nextArch, Hart.nextHalf, Hart.dirty]
  rfl

/-- Settles O46: the marks by their guards, the commit by the record it writes, the switch by the first ready hart after the present one. -/
theorem hartMarks : Obligations.HartMarks := by
  unfold Obligations.HartMarks
  refine ⟨fun s h len raw k hfetch => ?hply, fun s h hh hon hmode hunmarked hpart hwait => ?cap, fun k h => ?mark,
    fun s h hh hon hpart hrun hmarked hwait hcore => ?commit, fun s h hh hon hrun => ?access, fun s c i hc hon hcur hi hne hready hnot hfirst => ?switch⟩
  case hply =>
    obtain ⟨hh, hon, -⟩ := id hfetch
    have hgives := gives_act (exec_ykHply h s) (decide_eq_true hh) hon
    rw [ykHply, hartRow_of_fetches hfetch (by decide)] at hgives
    exact hgives
  case cap =>
    have hsvc : s.pkg.svc h = false := decide_eq_false hpart
    have hidle : ((s.pkg.hart h).wait == .none || (s.pkg.hart h).wait == .access || (s.pkg.hart h).wait == .wfi || (s.pkg.hart h).wait == .suspend) = true := by
      simpa [or_assoc] using hwait
    have hgives := gives_act (exec_hartPlyCap h s) (decide_eq_true hh) hon
    simp only [hartPlyCap, hsvc, hmode, hunmarked, hidle, Bool.not_false, Bool.and_true, Bool.true_and, decide_eq_true_eq, Pkg.hbump, Bool.false_eq_true,
      if_false] at hgives
    refine ⟨fun hlong => ?_, fun hshort => ?_⟩
    · rwa [if_pos hlong] at hgives
    · rw [if_neg (Nat.not_le.2 hshort)] at hgives
      exact hgives
  case mark =>
    refine ⟨fun hno => k.hmark_of_none ?_, k.hmark_dstore h, fun hunmarked hpart => ?_, fun j hj => k.hmark_other hj⟩
    · simpa [Pkg.svc] using hno
    · have hno : ((k.hart h).marked || k.svc h) = false := by simp [hunmarked, Pkg.svc, hpart]
      rw [k.hmark_of_unmarked hno, Pkg.hart_setHart]
  case commit =>
    have hgives := gives_act (exec_hartPlyCommit h s) (decide_eq_true hh) hon
    rw [hartPlyCommit_of_marked hpart hrun hmarked hwait hcore] at hgives
    refine ⟨_, hgives, ?_⟩
    have hstill := s.pkg.stillHart_plyWritten h h
    have hparts := s.pkg.parts_plyWritten h
    generalize s.pkg.plyWritten h = k at hstill hparts ⊢
    have hseq : (k.hart h).seq = (s.pkg.hart h).seq := Pkg.of_stillHart Hart.seq (fun _ => rfl) hstill
    have harch : (k.hart h).a = (s.pkg.hart h).a := Pkg.of_stillHart Hart.a (fun _ => rfl) hstill
    have haddr : s.pkg.hartRecAddr h ((k.hart h).seq + 1) = k.hartRecAddr h ((k.hart h).seq + 1) := (k.hartRecAddr_of_still hstill hparts _).symm
    have hrecord := k.dstore_plyRecorded h
    generalize k.plyRecorded h = m at hrecord ⊢
    have hunrec : ((((m.setHart h (k.hart h).committed).bump (0x38A0 + ((k.hart h).part - 1)) 4 1).mapCore (h / 8) (Recovery.without (h % 8))).coreDone (h / 8)).unrecorded
        = (m.setHart h (k.hart h).committed).unrecorded :=
      (Pkg.coreDone_unrecorded _ _).trans ((Pkg.mapCore_unrecorded _ _ _).trans (Pkg.keeps_of_bare Pkg.unrecorded (fun _ => rfl) (Pkg.bare_bump _ _ _ _)))
    generalize (((m.setHart h (k.hart h).committed).bump (0x38A0 + ((k.hart h).part - 1)) 4 1).mapCore (h / 8) (Recovery.without (h % 8))).coreDone (h / 8) = z at hunrec ⊢
    have hhart : z.hart h = (k.hart h).committed := (Pkg.keeps_of_unrecorded (Pkg.hart · h) (fun _ => rfl) hunrec).trans (m.hart_setHart h _)
    have hdstore : z.dstore = m.dstore := (Pkg.keeps_of_unrecorded Pkg.dstore (fun _ => rfl) hunrec).trans (m.setHart_dstore h _)
    simp only [hhart, hdstore, ← hseq, ← harch, haddr]
    exact ⟨rfl, rfl, rfl, rfl, rfl, (k.hart h).nextArch_pc, (k.hart h).nextArch_x, (k.hart h).nextArch_vs, hrecord⟩
  case access =>
    have hgives := gives_act (exec_hartAccessComplete h s) (decide_eq_true hh) hon
    have hon' : ¬(!(s.pkg.hart h).on) = true := by simp [hrun]
    unfold accessComplete at hgives
    dsimp only at hgives
    rw [if_neg hon'] at hgives
    refine ⟨fun hwait => ?_, fun a d node hwait hrest => ?_, fun a d c node hc hwait => ?_⟩
    · rcases hwait with hwait | hwait | hwait <;> simp only [hwait] at hgives <;> exact hgives
    · simp only [hwait, hrest, ne_eq, not_true_eq_false, if_false, List.isEmpty_nil, if_true] at hgives
      exact hgives
    · simp only [hwait, ne_eq, hc, not_false_eq_true, if_true] at hgives
      exact hgives
  case switch =>
    have hgives := gives_act (exec_threadSwitch c s) (decide_eq_true hc) hon
    have hnext : ((List.range 7).map (fun i => ((Tab.get {} s.pkg.cores c : CoreSt).cur + 1 + i) % 8)).find? (fun i => s.pkg.hartReady (c * 8 + i)) = some i :=
      find_next hcur hi hne hready fun j hj hlt => hfirst j hj hlt
    simp only [threadSwitch, hnext, hnot, Bool.false_and, Bool.false_eq_true, if_false] at hgives
    generalize hk : (if (s.pkg.hart (c * 8 + (Tab.get {} s.pkg.cores c : CoreSt).cur)).part = 0 then s.pkg
      else s.pkg.bump (0x38A0 + ((s.pkg.hart (c * 8 + (Tab.get {} s.pkg.cores c : CoreSt).cur)).part - 1)) 3 1) = k at hgives
    have hbare : k.bare = s.pkg.bare := by
      rw [← hk, apply_ite Pkg.bare, Pkg.bare_bump, ite_self]
    have hharts : k.harts = s.pkg.harts := Pkg.keeps_of_bare Pkg.harts (fun _ => rfl) hbare
    have hdstore : k.dstore = s.pkg.dstore := Pkg.keeps_of_bare Pkg.dstore (fun _ => rfl) hbare
    refine ⟨_, hgives, ?_, hharts, hdstore⟩
    rw [Pkg.keeps_of_bare Pkg.cores (fun _ => rfl) hbare, Pkg.keeps_of_bare Pkg.tempo (fun _ => rfl) hbare]

end Sys2Proof.Machine
end

section
/-!
PROOF. One rule for each step of a hart's instruction (08:R242 to R245, R255, R256): a result retires, a mark follows, the hart is switched
out, a hint ends; and the atomic at a home slice.
-/

namespace Sys2Proof

open Sys2Proof.Machine

/-- A value in `n` bytes reads back modulo its width. -/
theorem leNat_natLe (n v : Nat) : leNat (natLe n v) = v % 2 ^ (8 * n) := by
  induction n generalizing v with
  | zero => simp [natLe, leNat, Nat.mod_one]
  | succ n ih =>
    have hpow : 2 ^ (8 * (n + 1)) = 256 * 2 ^ (8 * n) := by rw [Nat.mul_succ, Nat.pow_add, Nat.mul_comm]
    rw [natLe, leNat, ih, hpow, Nat.mod_mul, BitVec.toNat_ofNat]

theorem length_natLe (n v : Nat) : (natLe n v).length = n := by
  induction n generalizing v with
  | zero => rfl
  | succ n ih => rw [natLe, List.length_cons, ih]

/-- A value written reads back. -/
theorem Mem.rd_writeN_natLe (m : Mem) (a n v : Nat) : (m.writeN a (natLe n v)).rd a n = v % 2 ^ (8 * n) := by
  have h := m.readN_writeN_same a (natLe n v)
  rw [length_natLe] at h
  rw [Mem.rd, h, leNat_natLe]

/-- Bytes outside those written are as before. -/
theorem Mem.rd_one_writeN_natLe (m : Mem) {a n v b : Nat} (h : b < a ∨ a + n ≤ b) : (m.writeN a (natLe n v)).rd b 1 = m.rd b 1 := by
  simp only [Mem.rd, Mem.readN]
  rw [Mem.read_writeN_outside _ _ _ _ (by rwa [length_natLe])]

section
variable (s : Pkg) (h : Nat)

/-- A result retires: the registers change, the pc goes on, the ply grows (08:R235). -/
theorem Pkg.hart_retireWith (len : Nat) (f : HArch → HArch) : (s.retireWith h len f).hart h =
    { s.hart h with a := { f (s.hart h).a with pc := (f (s.hart h).a).pc + BitVec.ofNat 64 len
                                               csr := { (f (s.hart h).a).csr with instret := ((f (s.hart h).a).csr.instret + 1) % 2 ^ 64 } }
                    n := (s.hart h).n + 1 } := by
  have hbump (k : Pkg) (a b n : Nat) : (k.hbump h a b n).hart h = k.hart h := by
    unfold Pkg.hbump
    split
    · rfl
    · exact Pkg.keeps_of_bare (Pkg.hart · h) (fun _ => rfl) (k.bare_bump _ _ _)
  simp only [Pkg.retireWith, Pkg.hretire, Pkg.onArch, hbump, Pkg.hart_setHart]

@[simp] theorem Pkg.hbump_dstore (a b n : Nat) : (s.hbump h a b n).dstore = s.dstore := by
  simp only [Pkg.hbump, apply_ite Pkg.dstore, Pkg.bump_dstore, ite_self]

@[simp] theorem Pkg.retireWith_dstore (len : Nat) (f : HArch → HArch) : (s.retireWith h len f).dstore = s.dstore := by
  simp only [Pkg.retireWith, Pkg.hretire, Pkg.hbump_dstore, Pkg.setHart_dstore, Pkg.onArch_dstore]

/-- A mark leaves the registers, the reservation only where it was none (08:R244). -/
theorem Pkg.hart_hmark : ((s.hmark h).hart h).a = (s.hart h).a ∧ ((s.hmark h).hart h).atoms = (s.hart h).atoms
    ∧ ((s.hart h).marked = false → ((s.hmark h).hart h).marked = !(s.svc h)) ∧ ((s.hart h).resv = none → ((s.hmark h).hart h).resv = none) := by
  cases hno : (s.hart h).marked || s.svc h with
  | true =>
    rw [s.hmark_of_none hno]
    refine ⟨rfl, rfl, fun hunmarked => ?_, id⟩
    rw [hunmarked, Bool.false_or] at hno
    rw [hunmarked, hno]
    rfl
  | false =>
    rw [s.hmark_of_unmarked hno, Pkg.hart_setHart]
    obtain ⟨-, hsvc⟩ := Bool.or_eq_false_iff.1 hno
    exact ⟨rfl, rfl, fun _ => by rw [hsvc]; rfl, fun _ => rfl⟩

theorem Pkg.hart_switchOut (long : Bool) : ∃ w, (s.switchOut h long).hart h = { s.hart h with wait := w } := by
  unfold Pkg.switchOut
  split
  · exact ⟨_, s.hart_setHart h _⟩
  · exact ⟨_, rfl⟩

@[simp] theorem Pkg.switchOut_dstore (long : Bool) : (s.switchOut h long).dstore = s.dstore := by
  simp only [Pkg.switchOut, apply_ite Pkg.dstore, Pkg.setHart_dstore, ite_self]

theorem Pkg.hart_endHint (w : Nat) (old : Hart) : ∃ b, (s.endHint h w old).hart h = { s.hart h with ntl := b } := by
  unfold Pkg.endHint
  dsimp only
  split
  · exact ⟨_, s.hart_setHart h _⟩
  · exact ⟨_, rfl⟩

@[simp] theorem Pkg.endHint_dstore (w : Nat) (old : Hart) : (s.endHint h w old).dstore = s.dstore := by
  simp only [Pkg.endHint, apply_ite Pkg.dstore, Pkg.setHart_dstore, ite_self]

/-- A ply of its own needs no mark before it where nothing has happened since the last (08:R244). -/
theorem Pkg.ownPly_of_fresh {s : Pkg} {h : Nat} (hfresh : (s.hart h).n = 0 ∨ s.svc h = true) (f : Pkg → Pkg) : s.ownPly h f = f s :=
  if_neg (by rcases hfresh with hn | hsvc <;> simp_all)

theorem Pkg.ownPlySc_of_fresh {s : Pkg} {h : Nat} (hfresh : (s.hart h).n = 0 ∨ s.svc h = true) (f : Pkg → Pkg) : s.ownPlySc h f = f s :=
  if_neg (by rcases hfresh with hn | hsvc <;> simp_all)

end

/-- A write by hart `h` leaves its own reservation. -/
theorem Pkg.hart_dropResv_own (s : Pkg) (l : List Nat) (h : Nat) : (s.dropResv l (h + 1)).hart h = s.hart h := by
  have hmap (f : Nat × Hart → Nat × Hart) (hf : ∀ e, (f e).1 = e.1) (hown : ∀ x, f (h, x) = (h, x)) (t : Tab Hart) : Tab.get {} (t.map f) h = Tab.get {} t h := by
    induction t with
    | nil => rfl
    | cons e t ih =>
      obtain ⟨j, x⟩ := e
      rw [List.map_cons, Tab.get, Tab.get, hf]
      split
      · next heq => rw [show j = h from heq, hown]
      · exact ih
  refine hmap _ (fun e => ?_) (fun x => ?_) s.harts
  · dsimp only
    split
    · split <;> rfl
    · rfl
  · dsimp only
    split
    · rw [if_neg (by simp)]
    · rfl

/-- The home slice before it executes an atomic: counted, and the line at hand (08:R250, R255). -/
def Pkg.atomicFetched (s : Pkg) (own p a : Nat) (hint : Bool) : Pkg :=
  let line := a / 64
  let hit := (Tab.find s.scache line).isSome
  let retry := s.invals.contains line
  let s := if p < partMax then (s.bump (0x38A0 + p) 8 1).bump (0x38A0 + p) 0x0A (b2n retry) else s
  if hit then { s with scache := mapIf (fun (e : Nat × CLine) => e.1 = line) (fun e => (e.1, { e.2 with age := 0, data := s.dstore.readN (line * 64) 64 })) s.scache }.bump 0x38C0 1 1
  else
    let (run, x) := if own < hartMax then (s.cslice (homeSlice line)).miss own line else (false, s.cslice (homeSlice line))
    let far := hint || run
    (((s.setSlice (homeSlice line) x).bump 0x38C0 2 1).bump 0x38C0 3 (b2n far)).fillLine line (if far then 3 else 0)

theorem Pkg.uncached_atomicFetched (s : Pkg) (own p a : Nat) (hint : Bool) : (s.atomicFetched own p a hint).uncached = s.uncached := by
  have hcount : (if p < partMax then (s.bump (0x38A0 + p) 8 1).bump (0x38A0 + p) 0x0A (b2n (s.invals.contains (a / 64))) else s).uncached = s.uncached := by
    simp only [apply_ite Pkg.uncached, Pkg.uncached_bump, ite_self]
  refine Eq.trans ?_ hcount
  unfold Pkg.atomicFetched
  dsimp only
  split
  · exact Pkg.uncached_bump _ _ _ _
  · simp only [Pkg.uncached_fillLine, Pkg.uncached_bump, Pkg.uncached_setSlice]

/-- The bytes of an atomic go to the die store and to the line (08:R255). -/
def Pkg.atomicWrite (s : Pkg) (own a size v : Nat) : Pkg :=
  let s := { s with dstore := s.dstore.writeN a (natLe size v) }
  let s := { s with scache := mapIf (fun (e : Nat × CLine) => e.1 = a / 64) (fun e => (e.1, e.2.put (a / 64) a (natLe size v))) s.scache }
  s.dropResv [a / 64] (own + 1)

/-- An atomic at the home slice of its line: the value there, and what is written. -/
theorem Pkg.atomicAt_eq (s : Pkg) (own p a size : Nat) (hint : Bool) (f : Nat → Option Nat) :
    s.atomicAt own p a size hint f =
      (s.dstore.rd a size, ((f (s.dstore.rd a size)).map ((s.atomicFetched own p a hint).atomicWrite own a size)).getD (s.atomicFetched own p a hint)) := by
  have hold : (s.atomicFetched own p a hint).dstore = s.dstore := Pkg.dstore_of_uncached (s.uncached_atomicFetched own p a hint)
  rw [← hold]
  generalize hv : f ((s.atomicFetched own p a hint).dstore.rd a size) = v
  have hmodel : s.atomicAt own p a size hint f = match f ((s.atomicFetched own p a hint).dstore.rd a size) with
      | none => ((s.atomicFetched own p a hint).dstore.rd a size, s.atomicFetched own p a hint)
      | some v => ((s.atomicFetched own p a hint).dstore.rd a size, (s.atomicFetched own p a hint).atomicWrite own a size v) := rfl
  rw [hmodel, hv]
  cases v <;> rfl

theorem Pkg.atomicWrite_dstore (s : Pkg) (own a size v : Nat) : (s.atomicWrite own a size v).dstore = s.dstore.writeN a (natLe size v) := rfl

theorem Pkg.hart_atomicWrite (s : Pkg) (own a size v : Nat) : (s.atomicWrite own a size v).hart own = s.hart own := Pkg.hart_dropResv_own _ _ own

/-- The hart of an atomic is as it was, and the die store has its value, where it writes one. -/
theorem Pkg.atomicAt_spec (s : Pkg) (own p a size : Nat) (hint : Bool) (f : Nat → Option Nat) :
    (s.atomicAt own p a size hint f).2.hart own = s.hart own
    ∧ (s.atomicAt own p a size hint f).2.dstore.rd a size = (f (s.dstore.rd a size)).elim (s.dstore.rd a size) (· % 2 ^ (8 * size))
    ∧ ∀ b, b < a ∨ a + size ≤ b → (s.atomicAt own p a size hint f).2.dstore.rd b 1 = s.dstore.rd b 1 := by
  have hu := s.uncached_atomicFetched own p a hint
  have hhart := Pkg.hart_of_uncached hu own
  have hdstore := Pkg.dstore_of_uncached hu
  rw [Pkg.atomicAt_eq]
  cases f (s.dstore.rd a size) with
  | none =>
    refine ⟨hhart, ?_, fun b _ => ?_⟩
    · rw [Option.map_none, Option.getD_none, hdstore, Option.elim_none]
    · rw [Option.map_none, Option.getD_none, hdstore]
  | some v =>
    refine ⟨(Pkg.hart_atomicWrite _ _ _ _ _).trans hhart, ?_, fun b hb => ?_⟩
    · rw [Option.map_some, Option.getD_some, Pkg.atomicWrite_dstore, Mem.rd_writeN_natLe, Option.elim_some]
    · rw [Option.map_some, Option.getD_some, Pkg.atomicWrite_dstore, Mem.rd_one_writeN_natLe _ hb, hdstore]

/-- A hart put back, its result retired, its mark placed: what the rest of its instruction leaves of it. -/
theorem Pkg.hart_retired (s : Pkg) (h len w : Nat) (x old : Hart) (f : HArch → HArch) (long : Bool) :
    let q := ((((s.setHart h x).retireWith h len f).hmark h).switchOut h long).endHint h w old
    q.dstore = s.dstore
    ∧ (q.hart h).a = { f x.a with pc := (f x.a).pc + BitVec.ofNat 64 len, csr := { (f x.a).csr with instret := ((f x.a).csr.instret + 1) % 2 ^ 64 } }
    ∧ (q.hart h).atoms = x.atoms ∧ (x.marked = false → (q.hart h).marked = !(decide (x.part = 0))) ∧ (x.resv = none → (q.hart h).resv = none) := by
  intro q
  have hretire := (s.setHart h x).hart_retireWith h len f
  rw [Pkg.hart_setHart] at hretire
  have hdstore : ((s.setHart h x).retireWith h len f).dstore = s.dstore := by rw [Pkg.retireWith_dstore, Pkg.setHart_dstore]
  generalize hk : (s.setHart h x).retireWith h len f = k at hretire hdstore
  obtain ⟨ha, hatoms, hmarked, hresv⟩ := k.hart_hmark h
  obtain ⟨wait, hswitch⟩ := (k.hmark h).hart_switchOut h long
  obtain ⟨hint, hend⟩ := ((k.hmark h).switchOut h long).hart_endHint h w old
  have hq : q = ((k.hmark h).switchOut h long).endHint h w old := by rw [← hk]
  have hhart : q.hart h = { (k.hmark h).hart h with wait := wait, ntl := hint } := by rw [hq, hend, hswitch]
  refine ⟨?_, ?_, ?_, fun hx => ?_, fun hx => ?_⟩
  · rw [hq, Pkg.endHint_dstore, Pkg.switchOut_dstore, Pkg.hmark_dstore, hdstore]
  · rw [hhart]
    exact ha.trans (by rw [hretire])
  · rw [hhart]
    exact hatoms.trans (by rw [hretire])
  · rw [hhart]
    exact (hmarked (by rw [hretire]; exact hx)).trans (by rw [Pkg.svc, hretire])
  · rw [hhart]
    exact hresv (by rw [hretire]; exact hx)

/-- A replay of the ply receives the value kept at the home slice (08:R255, R256). -/
theorem Pkg.localAtomic_of_kept {s : Pkg} {h a : Nat} (hkept : (Tab.get (0, 0) (s.hart h).atoms (homeSlice (a / 64))).1 = (s.hart h).seq + 1)
    (hsvc : s.svc h = false) (size : Nat) (f : Nat → Option Nat) (fin : Pkg → Nat → Pkg) :
    s.localAtomic h a size f fin =
      (fin (s.bump (0x38A0 + (if s.svc h then partMax else (s.hart h).part - 1)) 9 1) (Tab.get (0, 0) (s.hart h).atoms (homeSlice (a / 64))).2).hmark h := by
  have hgo : (decide ((Tab.get (0, 0) (s.hart h).atoms (homeSlice (a / 64))).1 = (s.hart h).seq + 1) && !(s.svc h)) = true := by rw [hsvc, decide_eq_true hkept]; rfl
  exact if_pos hgo

/-- Else it is executed there, and its value kept with the ply's number. -/
theorem Pkg.localAtomic_of_new {s : Pkg} {h a : Nat} (hnew : (Tab.get (0, 0) (s.hart h).atoms (homeSlice (a / 64))).1 ≠ (s.hart h).seq + 1 ∨ s.svc h = true)
    (size : Nat) (f : Nat → Option Nat) (fin : Pkg → Nat → Pkg) :
    s.localAtomic h a size f fin =
      let r := s.atomicAt h (if s.svc h then partMax else (s.hart h).part - 1) a size (s.hart h).ntl f
      let k := r.2.setHart h { r.2.hart h with atoms := Tab.insert (r.2.hart h).atoms (homeSlice (a / 64)) ((s.hart h).seq + 1, r.1) }
      ((fin k r.1).hmark h).switchOut h (k.svc h) := by
  have hno : ¬(decide ((Tab.get (0, 0) (s.hart h).atoms (homeSlice (a / 64))).1 = (s.hart h).seq + 1) && !(s.svc h)) = true := by
    rcases hnew with hne | hsvc
    · simp [hne]
    · simp [hsvc]
  exact if_neg hno

/-- An atomic that is executed: its word, its result, the mark after it, and what its home slice keeps (08:R255, R256). -/
theorem Pkg.localAtomic_spec {s : Pkg} {h a : Nat} (hnew : (Tab.get (0, 0) (s.hart h).atoms (homeSlice (a / 64))).1 ≠ (s.hart h).seq + 1 ∨ s.svc h = true)
    (hunmarked : (s.hart h).marked = false) (size len w : Nat) (f : Nat → Option Nat) (g : Nat → HArch → HArch) (old : Hart) :
    let q := (s.localAtomic h a size f (fun k v => k.retireWith h len (g v))).endHint h w old
    let b := g (s.dstore.rd a size) (s.hart h).a
    q.dstore.rd a size = (f (s.dstore.rd a size)).elim (s.dstore.rd a size) (· % 2 ^ (8 * size))
    ∧ (∀ b, b < a ∨ a + size ≤ b → q.dstore.rd b 1 = s.dstore.rd b 1)
    ∧ (q.hart h).a = { b with pc := b.pc + BitVec.ofNat 64 len, csr := { b.csr with instret := (b.csr.instret + 1) % 2 ^ 64 } }
    ∧ (q.hart h).marked = !(s.svc h)
    ∧ (q.hart h).atoms = Tab.insert (s.hart h).atoms (homeSlice (a / 64)) ((s.hart h).seq + 1, s.dstore.rd a size) := by
  have hold : (s.atomicAt h (if s.svc h then partMax else (s.hart h).part - 1) a size (s.hart h).ntl f).1 = s.dstore.rd a size := by rw [Pkg.atomicAt_eq]
  obtain ⟨hhart, hword, hothers⟩ := s.atomicAt_spec h (if s.svc h then partMax else (s.hart h).part - 1) a size (s.hart h).ntl f
  rw [Pkg.localAtomic_of_new hnew]
  generalize s.atomicAt h (if s.svc h then partMax else (s.hart h).part - 1) a size (s.hart h).ntl f = r at hold hhart hword hothers ⊢
  obtain ⟨v, k⟩ := r
  dsimp only at hold hhart hword hothers ⊢
  subst hold
  obtain ⟨hdstore, ha, hatoms, hmarked, -⟩ := k.hart_retired h len w
    { k.hart h with atoms := Tab.insert (k.hart h).atoms (homeSlice (a / 64)) ((s.hart h).seq + 1, s.dstore.rd a size) } old (g (s.dstore.rd a size))
    ((k.setHart h { k.hart h with atoms := Tab.insert (k.hart h).atoms (homeSlice (a / 64)) ((s.hart h).seq + 1, s.dstore.rd a size) }).svc h)
  refine ⟨?_, fun b hb => ?_, ?_, ?_, ?_⟩
  · rw [hdstore, hword]
  · rw [hdstore, hothers b hb]
  · rw [ha, hhart]
  · rw [hmarked (by rw [hhart]; exact hunmarked), hhart, Pkg.svc]
  · rw [hatoms, hhart]

theorem leNat_lt (bs : List Byte) : leNat bs < 2 ^ (8 * bs.length) := by
  induction bs with
  | nil => simp [leNat]
  | cons b bs ih =>
    have hpow : 2 ^ (8 * (bs.length + 1)) = 256 * 2 ^ (8 * bs.length) := by rw [Nat.mul_succ, Nat.pow_add, Nat.mul_comm]
    have hb : b.toNat < 256 := b.isLt
    rw [leNat, List.length_cons, hpow]
    omega

theorem Mem.length_readN (m : Mem) (a n : Nat) : (m.readN a n).length = n := by
  induction n generalizing a with
  | zero => rfl
  | succ n ih => rw [Mem.readN, List.length_cons, ih]

theorem Mem.rd_mod (m : Mem) (a n : Nat) : m.rd a n % 2 ^ (8 * n) = m.rd a n := by
  have h := leNat_lt (m.readN a n)
  rw [Mem.length_readN] at h
  exact Nat.mod_eq_of_lt h

/-- The hart holds a reservation on the line, and no other source's write is on its way to it (08:R256). -/
def Pkg.reserved (s : Pkg) (h line : Nat) : Bool :=
  match (s.hart h).resv with
  | some r => decide (r.1 = line) && !(s.invals.contains r.1)
  | none => false

/-- An SC to local memory (08:R256). -/
def Pkg.localSc (s : Pkg) (h a size data : Nat) (ret : Pkg → Nat → Pkg) : Pkg :=
  let x := s.hart h
  let k := homeSlice (a / 64)
  let p := if s.svc h then partMax else x.part - 1
  let has := s.reserved h (a / 64)
  match Tab.get (0, 0) x.atoms k with
  | (q, v) =>
    if q = x.seq + 1 && !(s.svc h) then (ret (s.bump (0x38A0 + p) 9 1) v).hmark h
    else
      let (_, s) := s.atomicAt h p a size x.ntl (fun _ => if has then some data else none)
      let s := s.setHart h { s.hart h with resv := none, atoms := Tab.insert (s.hart h).atoms k (x.seq + 1, b2n (!has)) }
      ((ret s (b2n (!has))).hmark h).switchOut h (s.svc h)

theorem Pkg.localSc_of_new {s : Pkg} {h a : Nat} (hnew : (Tab.get (0, 0) (s.hart h).atoms (homeSlice (a / 64))).1 ≠ (s.hart h).seq + 1 ∨ s.svc h = true)
    (size data : Nat) (ret : Pkg → Nat → Pkg) :
    s.localSc h a size data ret =
      let r := s.atomicAt h (if s.svc h then partMax else (s.hart h).part - 1) a size (s.hart h).ntl (fun _ => if s.reserved h (a / 64) then some data else none)
      let k := r.2.setHart h { r.2.hart h with resv := none, atoms := Tab.insert (r.2.hart h).atoms (homeSlice (a / 64)) ((s.hart h).seq + 1, b2n (!(s.reserved h (a / 64)))) }
      ((ret k (b2n (!(s.reserved h (a / 64))))).hmark h).switchOut h (k.svc h) := by
  have hno : ¬(decide ((Tab.get (0, 0) (s.hart h).atoms (homeSlice (a / 64))).1 = (s.hart h).seq + 1) && !(s.svc h)) = true := by
    rcases hnew with hne | hsvc
    · simp [hne]
    · simp [hsvc]
  exact if_neg hno

/-- An SC writes only with the reservation, and ends it (08:R256). -/
theorem Pkg.localSc_spec {s : Pkg} {h a : Nat} (hnew : (Tab.get (0, 0) (s.hart h).atoms (homeSlice (a / 64))).1 ≠ (s.hart h).seq + 1 ∨ s.svc h = true)
    (hunmarked : (s.hart h).marked = false) (size data len w rdst : Nat) (old : Hart) :
    let q := (s.localSc h a size data (fun k v => k.retireWith h len (fun c => c.setX rdst (BitVec.ofNat 64 v)))).endHint h w old
    (q.hart h).resv = none ∧ q.dstore.rd a size = (if s.reserved h (a / 64) then data % 2 ^ (8 * size) else s.dstore.rd a size)
    ∧ (∀ b, b < a ∨ a + size ≤ b → q.dstore.rd b 1 = s.dstore.rd b 1)
    ∧ (q.hart h).a.x = ((s.hart h).a.setX rdst (if s.reserved h (a / 64) then 0 else 1)).x ∧ (q.hart h).marked = !(s.svc h) := by
  obtain ⟨hhart, hword, hothers⟩ := s.atomicAt_spec h (if s.svc h then partMax else (s.hart h).part - 1) a size (s.hart h).ntl
    (fun _ => if s.reserved h (a / 64) then some data else none)
  rw [Pkg.localSc_of_new hnew]
  generalize s.atomicAt h (if s.svc h then partMax else (s.hart h).part - 1) a size (s.hart h).ntl
    (fun _ => if s.reserved h (a / 64) then some data else none) = r at hhart hword hothers ⊢
  obtain ⟨v, k⟩ := r
  dsimp only at hhart hword hothers ⊢
  obtain ⟨hdstore, ha, -, hmarked, hresv⟩ := k.hart_retired h len w
    { k.hart h with resv := none, atoms := Tab.insert (k.hart h).atoms (homeSlice (a / 64)) ((s.hart h).seq + 1, b2n (!(s.reserved h (a / 64)))) } old
    (fun c => c.setX rdst (BitVec.ofNat 64 (b2n (!(s.reserved h (a / 64))))))
    ((k.setHart h { k.hart h with resv := none, atoms := Tab.insert (k.hart h).atoms (homeSlice (a / 64)) ((s.hart h).seq + 1, b2n (!(s.reserved h (a / 64)))) }).svc h)
  refine ⟨hresv rfl, ?_, fun b hb => ?_, ?_, ?_⟩
  · rw [hdstore, hword]
    cases s.reserved h (a / 64) <;> rfl
  · rw [hdstore, hothers b hb]
  · rw [ha, hhart]
    cases s.reserved h (a / 64) <;> rfl
  · rw [hmarked (by rw [hhart]; exact hunmarked), hhart, Pkg.svc]

end Sys2Proof
end

section
/-!
PROOF. Atomics, reservations and their replay, timer interrupts and loads of the board tier (08:R235, R244, R254 to R256, 09:R294).
-/

namespace Sys2Proof

open Sys2Proof.Machine Rv

/-- A hart that fetches is between plies' marks, and the fetch leaves it as it was. -/
theorem Pkg.hart_of_hFetches {s k : Pkg} {h w len raw : Nat} (hfetch : s.hFetches h w len raw k) :
    k.hart h = s.hart h ∧ (s.hart h).marked = false := by
  obtain ⟨_, _, hruns, _, hf⟩ := hfetch
  refine ⟨Pkg.hart_of_hFetch hf h, ?_⟩
  simp only [Pkg.hartRuns, Pkg.hartReady, Bool.and_eq_true, Bool.not_eq_true'] at hruns
  exact hruns.1.1.1.2

/-- Resolving an access leaves the hart as it was. -/
theorem Pkg.hart_of_resolve {k t : Pkg} {h kind : Nat} {ps : List (Nat × Nat)} {r : HRes} (hres : k.resolve h kind ps = (r, t)) : t.hart h = k.hart h := by
  have hu := Pkg.uncached_resolve h kind ps k
  rw [hres] at hu
  exact Pkg.hart_of_uncached hu h

/-- Loads by the home slices leave the hart and the die store as they were. -/
theorem Pkg.uncached_loadLocal (s : Pkg) (h : Nat) (ps : List (Nat × Nat)) (stream : Bool) : (s.loadLocal h ps stream).2.uncached = s.uncached := by
  have hfold (r : List Byte × Pkg) : (ps.foldl (fun (r : List Byte × Pkg) p => let (d, s) := r.2.loadBytes h p.1 p.2 stream
      (r.1 ++ forward (s.hart h).buf p.1 d, s)) r).2.uncached = r.2.uncached := by
    induction ps generalizing r with
    | nil => rfl
    | cons p ps ih => simp only [List.foldl_cons, ih, Pkg.uncached_loadBytes]
  exact hfold _

theorem HArch.pc_setX (a : HArch) (i : Nat) (v : Word) : (a.setX i v).pc = a.pc := by
  unfold HArch.setX
  split <;> rfl

theorem Pkg.keeps_of_uncached {α : Type} (g : Pkg → α) (hg : ∀ s, g s.uncached = g s) {s t : Pkg} (h : s.uncached = t.uncached) : g s = g t := by
  rw [← hg s, h, hg]

/-- An LR to local memory: the word, and the reservation on its line (08:R256). -/
def Pkg.localLr (s : Pkg) (h m n len rdst : Nat) : Pkg :=
  let r := s.loadLocal h [(m, n)] (s.hart h).ntl
  let k := (r.2.hbump h 0x38A0 8 1).retireWith h len (fun a => a.deliver (.x rdst true) r.1)
  k.setHart h { k.hart h with resv := some (m / 64, k.tempo.local_), wait := .access }

theorem Pkg.localLr_spec (s : Pkg) (h m n len rdst w : Nat) (old : Hart) :
    let q := (s.localLr h m n len rdst).endHint h w old
    (q.hart h).resv = some (m / 64, s.tempo.local_) ∧ q.dstore = s.dstore ∧ (q.hart h).a.pc = (s.hart h).a.pc + BitVec.ofNat 64 len
    ∧ (q.hart h).a.x = ((s.hart h).a.deliver (.x rdst true) (s.loadLocal h [(m, n)] (s.hart h).ntl).1).x := by
  have hu := s.uncached_loadLocal h [(m, n)] (s.hart h).ntl
  intro q
  obtain ⟨hint, hend⟩ := (s.localLr h m n len rdst).hart_endHint h w old
  have hdstore : q.dstore = (s.localLr h m n len rdst).dstore := Pkg.endHint_dstore _ _ _ _
  have hq : q.hart h = { (s.localLr h m n len rdst).hart h with ntl := hint } := hend
  simp only [hq, hdstore]
  unfold Pkg.localLr
  generalize s.loadLocal h [(m, n)] (s.hart h).ntl = r at hu ⊢
  have hbump : (r.2.hbump h 0x38A0 8 1).uncached = r.2.uncached := by
    simp only [Pkg.hbump, apply_ite Pkg.uncached, Pkg.uncached_bump, ite_self]
  have hhart := (Pkg.hart_of_uncached hbump h).trans (Pkg.hart_of_uncached hu h)
  have htempo : (r.2.hbump h 0x38A0 8 1).tempo = s.tempo := Pkg.keeps_of_uncached Pkg.tempo (fun _ => rfl) (hbump.trans hu)
  have hretire := (r.2.hbump h 0x38A0 8 1).hart_retireWith h len (fun a => a.deliver (.x rdst true) r.1)
  have hclock (k : Pkg) (f : HArch → HArch) : (k.retireWith h len f).tempo = k.tempo := by
    have hbumped (z : Pkg) : (z.hbump h 0x38A0 2 1).tempo = z.tempo := by
      unfold Pkg.hbump
      split
      · rfl
      · exact Pkg.keeps_of_bare Pkg.tempo (fun _ => rfl) (z.bare_bump _ _ _)
    rw [Pkg.retireWith, Pkg.hretire, hbumped]
    rfl
  simp only [Pkg.hart_setHart, Pkg.setHart_dstore, Pkg.retireWith_dstore, Pkg.hbump_dstore, hretire, hclock, htempo, hhart,
    Pkg.dstore_of_uncached hu, true_and, and_true]
  exact congrArg (· + BitVec.ofNat 64 len) (HArch.pc_setX _ _ _)

/-- An integer load (08:R235). -/
theorem Pkg.hInt_load (s : Pkg) (h len : Nat) {w : Nat} (tier : Bool) (hopc : opc w = 0x03) (hf3 : f3 w < 7) :
    s.hInt h w len tier = some (s.hLoad h len ((s.hart h).a.xr (rs1 w) + immI w) (accSize (f3 w)) (.x (rd w) (decide (f3 w < 4))) tier) := by
  have hne : f3 w ≠ 7 := by omega
  simp only [Pkg.hInt, hopc, if_neg hne]

/-- Of the parts of an access to the board tier alone (09:R294). -/
theorem touchesTier_single (m z : Nat) : touchesTier [(.tier m, z)] = true := rfl

theorem Pkg.farParts_tier_ok {k : Pkg} {h m z : Nat} (hok : k.tierOk h m z = true)
    (hfits : m % 0x800000000 % (k.region (regionOf m)).P + z ≤ (k.region (regionOf m)).P) :
    k.farParts h false [(.tier m, z)] [] = some [(0, 2, m, [], z)] := by
  have hle : z ≤ (k.region (regionOf m)).P - m % 0x800000000 % (k.region (regionOf m)).P := by omega
  simp only [Pkg.farParts, hok, Bool.not_true, Bool.or_self, Bool.false_eq_true, if_false, hle, if_true, List.append_nil]

theorem Pkg.farParts_tier_bad {k : Pkg} {h m z : Nat} (hbad : k.tierOk h m z = false) : k.farParts h false [(.tier m, z)] [] = none := by
  simp only [Pkg.farParts, hbad, Bool.not_false, Bool.or_true, if_true]

end Sys2Proof

namespace Sys2Proof.Machine

open Sys2Proof

/-- The twelve atomics of the table are rows of one function (08:R254). -/
theorem exec_amo_of_mem {s : State} {h fn f3 : Nat} {i : Instr}
    (hmem : (fn, f3, i) ∈ ([(0, 0, .amoadd h), (1, 0, .amoand h), (2, 0, .amoor h), (3, 0, .amoxor h), (4, 0, .amomin h), (5, 0, .amomax h), (6, 0, .amominu h),
        (7, 0, .amomaxu h), (8, 0, .amoswap h), (9, 2, .amocasW h), (9, 3, .amocasD h), (9, 4, .amocasQ h)] : List (Nat × Nat × Instr))) :
    exec i s = act (decide (h < hartMax)) s (fun k => amo k h fn f3) := by
  simp only [List.mem_cons, Prod.mk.injEq, List.not_mem_nil, or_false] at hmem
  rcases hmem with ⟨rfl, rfl, rfl⟩ | ⟨rfl, rfl, rfl⟩ | ⟨rfl, rfl, rfl⟩ | ⟨rfl, rfl, rfl⟩ | ⟨rfl, rfl, rfl⟩ | ⟨rfl, rfl, rfl⟩ | ⟨rfl, rfl, rfl⟩ | ⟨rfl, rfl, rfl⟩
    | ⟨rfl, rfl, rfl⟩ | ⟨rfl, rfl, rfl⟩ | ⟨rfl, rfl, rfl⟩ | ⟨rfl, rfl, rfl⟩
  · exact exec_amoadd h s
  · exact exec_amoand h s
  · exact exec_amoor h s
  · exact exec_amoxor h s
  · exact exec_amomin h s
  · exact exec_amomax h s
  · exact exec_amominu h s
  · exact exec_amomaxu h s
  · exact exec_amoswap h s
  · exact exec_amocasW h s
  · exact exec_amocasD h s
  · exact exec_amocasQ h s

/-- Settles O48: each row reads as its hart row at the fetched instruction, whose accesses the home slices serve; the atomics and SC by what one home-slice exchange leaves. -/
theorem hartAtomics : Obligations.HartAtomics := by
  unfold Obligations.HartAtomics
  refine ⟨fun s h w raw k t hfetch => ?atomics, fun s h l t hh hon hresv => ?timeout, fun s h hh hon hmode hwait hunmarked => ?timer,
    fun s h w len raw k hfetch hopc hf3 => ?tier⟩
  case atomics =>
    obtain ⟨hh, hon, -⟩ := id hfetch
    have hu : decide (h < hartMax) = true := decide_eq_true hh
    obtain ⟨hsame, hunmarked⟩ := Pkg.hart_of_hFetches hfetch
    intro x va n two v dst p fresh
    refine ⟨fun fn f3 i hmem hfn hf3 => ?amo, fun m hfn hin hres => ?lr, fun m hfn hin hres hfresh hnew => ?sc⟩
    case amo =>
      have hgives := gives_act (exec_amo_of_mem (s := s) hmem) hu hon
      have hmine : (decide (amoFn w = some fn) && (decide (f3 = 0) || decide (Rv.f3 w = f3))) = true := by
        rw [decide_eq_true hfn, Bool.true_and]
        simpa using hf3
      rw [amo, hartRow_of_fetches hfetch hmine] at hgives
      refine ⟨fun hwide => ?_, fun m hin hres hfresh => ⟨fun hkept hsvc => ?_, fun hnew => ?_⟩⟩
      · simp only [x, va, n] at hwide
        simp only [hwide, if_true] at hgives
        exact hgives
      · simp only [x, va, n] at hin hres
        simp only [if_neg (Nat.not_lt.2 hin), hres, Pkg.ownPly_of_fresh hfresh, Pkg.localAtomic_of_kept hkept hsvc] at hgives
        exact hgives
      · simp only [x, va, n] at hin hres
        simp only [if_neg (Nat.not_lt.2 hin), hres, Pkg.ownPly_of_fresh hfresh] at hgives
        refine ⟨_, hgives, ?_⟩
        have ht : (t.hart h).marked = false := by rw [Pkg.hart_of_resolve hres, hsame, hunmarked]
        obtain ⟨hword, hothers, ha, hmarked, hatoms⟩ := Pkg.localAtomic_spec hnew ht n 4 w
          (fun old => if fn = 9 then (if old = two (Rv.rd w) then some v else none) else some (amoOp fn (8 * n) old v))
          (fun old a => a.deliver dst (natLe n old)) (s.pkg.hart h)
        refine ⟨hword.trans ?_, hothers, ha, hmarked, hatoms⟩
        by_cases hcas : fn = 9
        · simp only [hcas, if_true]
          split
          · rfl
          · exact (Mem.rd_mod _ _ _).symm
        · simp only [hcas, if_false]
          rfl
    case lr =>
      have hgives := gives_act (exec_lr h s) hu hon
      rw [lrRow, hartRow_of_fetches hfetch (decide_eq_true hfn)] at hgives
      simp only [x, va, n] at hin hres
      simp only [if_neg (Nat.not_lt.2 hin), hres] at hgives
      have hlocal : Gives (.lr h) s ((t.localLr h m (2 ^ Rv.f3 w) 4 (Rv.rd w)).endHint h w (s.pkg.hart h)) := by
        simp only [Pkg.localLr]
        exact hgives
      obtain ⟨hresv, hdstore, hpc, hx⟩ := t.localLr_spec h m n 4 (Rv.rd w) w (s.pkg.hart h)
      exact ⟨_, hlocal, hresv, hdstore, hpc, hx⟩
    case sc =>
      have hgives := gives_act (exec_sc h s) hu hon
      rw [scRow, hartRow_of_fetches hfetch (decide_eq_true hfn)] at hgives
      simp only [x, va, n] at hin hres
      simp only [if_neg (Nat.not_lt.2 hin), hres, Pkg.ownPlySc_of_fresh hfresh] at hgives
      have ht : (t.hart h).marked = false := by rw [Pkg.hart_of_resolve hres, hsame, hunmarked]
      have hlocal : Gives (.sc h) s ((t.localSc h m n ((x.xr (Rv.rs2 w)).toNat % 2 ^ (8 * n)) (fun k v => k.retireWith h 4 (fun c => c.setX (Rv.rd w) (BitVec.ofNat 64 v)))).endHint h w (s.pkg.hart h)) := hgives
      refine ⟨_, hlocal, ?_⟩
      have hspec := Pkg.localSc_spec hnew ht n ((x.xr (Rv.rs2 w)).toNat % 2 ^ (8 * n)) 4 w (Rv.rd w) (s.pkg.hart h)
      rw [Nat.mod_mod] at hspec
      exact hspec
  case timeout =>
    have hgives := gives_act (exec_lrReservationTimeout h s) (decide_eq_true hh) hon
    simp only [lrTimeout, hresv] at hgives
    refine ⟨fun hlong => ?_, fun hshort => ?_⟩
    · rwa [if_pos hlong] at hgives
    · rw [if_neg (Nat.not_le.2 hshort)] at hgives
      exact hgives
  case timer =>
    have hgives := gives_act (exec_hartTimerInterrupt h s) (decide_eq_true hh) hon
    refine ⟨fun hdue => ?_, fun hsvc hn => ?_⟩
    · rw [hartTimer, if_pos (by simp [hmode, hwait, hunmarked, hdue])] at hgives
      exact hgives
    · have hdue : s.pkg.timerDue h = false := by simp [Pkg.timerDue, hsvc, hn]
      rw [hartTimer, if_neg (by simp [hdue])] at hgives
      exact hgives
  case tier =>
    obtain ⟨hh, hon, -⟩ := id hfetch
    have hgives := gives_act (exec_hartTierLoad h s) (decide_eq_true hh) hon
    rw [hartTierLoad, hartRow_of_fetches hfetch (by simp [hopc]; omega)] at hgives
    simp only [k.hInt_load h len true hopc hf3, Pkg.hLoad, Pkg.access] at hgives
    intro x z va m hres r
    simp only [x, z, va] at hres
    have hload : decide (1 = 2) = false := rfl
    have hone : (true ≠ (true && decide (1 ≠ 2))) = False := by simp
    refine ⟨fun hok hfits hfresh => ?_, fun hbad hpart => ?_⟩
    · simp only [z] at hok hfits
      simp only [hres, localParts, touchesTier_single, hload, hone, Pkg.farParts_tier_ok hok hfits, Pkg.ownPly_of_fresh (.inl hfresh), Pkg.askPart,
        if_false, if_true] at hgives
      exact hgives
    · simp only [z] at hbad
      simp only [hres, localParts, touchesTier_single, hload, hone, Pkg.farParts_tier_bad hbad, if_false, if_true] at hgives
      exact hgives

end Sys2Proof.Machine
end

section
/-!
PROOF. Power and heat: supply samples, the fast loop, the power-cap loop, clock steps, the brake, droop, temperatures and lost phases
(15:R460 to R471).
-/

namespace Sys2Proof

open Sys2Proof.Machine

/-- The power state without what the reasons of 15:R471 note. -/
def Power.unheld (w : Power) : Power := { w with active := [], lastEnd := [], startAt := [], endAt := [] }

/-- The package without what these reasons note and report. -/
def Pkg.unheld (s : Pkg) : Pkg := { s.bare with pow := s.pow.unheld }

theorem Pkg.keeps_of_unheld {α : Type} (g : Pkg → α) (hg : ∀ s, g s.unheld = g s) {s t : Pkg} (h : s.unheld = t.unheld) : g s = g t := by
  rw [← hg s, h, hg]

theorem Pkg.unheld_of_bare {s t : Pkg} (h : s.bare = t.bare) : s.unheld = t.unheld := Pkg.keeps_of_bare Pkg.unheld (fun _ => rfl) h

@[simp] theorem Pkg.unheld_raise (s : Pkg) (code part : Nat) (items : List Nat) (raw : List Byte) : (s.raise code part items raw).unheld = s.unheld :=
  Pkg.unheld_of_bare (s.bare_raise code part items raw)

@[simp] theorem Pkg.unheld_bump (s : Pkg) (i j n : Nat) : (s.bump i j n).unheld = s.unheld := Pkg.unheld_of_bare (s.bare_bump i j n)

theorem Pkg.unheld_onPow {f : Power → Power} (hf : ∀ w, (f w).unheld = w.unheld) (s : Pkg) : (s.onPow f).unheld = s.unheld := by
  simp only [Pkg.onPow, Pkg.unheld, hf]
  rfl

/-- One reason of 15:R471 begins or ends, or neither. -/
def Pkg.throttle (s : Pkg) (now r : Nat) : Pkg :=
  let held := s.heldBy r
  let since := Tab.get 0 s.pow.active r
  let once (t : Tab Nat) : Bool := Tab.get 0 t r = 0 || decide (Tab.get 0 t r + 1000000000 ≤ now + 1)
  if since = 0 && !held.isEmpty then
    let s := (s.onPow (fun w => { w with active := Tab.insert w.active r (now + 1) })).bump 0x6011 r 1
    if once s.pow.startAt then (s.onPow (fun w => { w with startAt := Tab.insert w.startAt r (now + 1) })).raise 0x0601 0xFF [r, held.length] else s
  else if since ≠ 0 && held.isEmpty then
    let len := now + 1 - since
    let s := (s.onPow (fun w => { w with active := Tab.erase w.active r, lastEnd := Tab.insert w.lastEnd r (now + 1) })).bump 0x6010 r len
    if once s.pow.endAt then (s.onPow (fun w => { w with endAt := Tab.insert w.endAt r (now + 1) })).raise 0x0602 0xFF [r, len] else s
  else s

theorem Pkg.throttles_eq (s : Pkg) : s.throttles = [1, 2, 3, 4, 5].foldl (fun k r => k.throttle s.tempo.now r) s := rfl

@[simp] theorem Pkg.throttle_unheld (s : Pkg) (now r : Nat) : (s.throttle now r).unheld = s.unheld := by
  unfold Pkg.throttle
  dsimp only
  split
  · split
    · rw [Pkg.unheld_raise, Pkg.unheld_onPow (fun _ => by rfl), Pkg.unheld_bump, Pkg.unheld_onPow (fun _ => by rfl)]
    · rw [Pkg.unheld_bump, Pkg.unheld_onPow (fun _ => by rfl)]
  · split
    · split
      · rw [Pkg.unheld_raise, Pkg.unheld_onPow (fun _ => by rfl), Pkg.unheld_bump, Pkg.unheld_onPow (fun _ => by rfl)]
      · rw [Pkg.unheld_bump, Pkg.unheld_onPow (fun _ => by rfl)]
    · rfl

@[simp] theorem Pkg.throttles_unheld (s : Pkg) : s.throttles.unheld = s.unheld :=
  Pkg.foldl_keeps Pkg.unheld (fun k r => k.throttle_unheld _ r) _ s

theorem Pkg.keeps_throttles {α : Type} (g : Pkg → α) (hg : ∀ s, g s.unheld = g s) (s : Pkg) : g s.throttles = g s :=
  Pkg.keeps_of_unheld g hg s.throttles_unheld

/-- What the reasons count is theirs alone. -/
theorem Pkg.ent_throttles (s : Pkg) {i j : Nat} (h0 : ∀ r, r < 6 → dkey i j ≠ dkey 0x6010 r) (h1 : ∀ r, r < 6 → dkey i j ≠ dkey 0x6011 r)
    (h2 : dkey i j ≠ dkey 0x1130 6) (h3 : dkey i j ≠ dkey 0x1140 1) : s.throttles.ent i j = s.ent i j := by
  have hone (k : Pkg) (r now : Nat) (hr : r < 6) : (k.throttle now r).ent i j = k.ent i j := by
    have hon (k : Pkg) (f : Power → Power) : (k.onPow f).ent i j = k.ent i j := rfl
    unfold Pkg.throttle
    dsimp only
    split
    · split
      · rw [Pkg.ent_raise _ _ _ _ _ h2 h3, hon, Pkg.ent_bump_other _ _ (h1 r hr), hon]
      · rw [Pkg.ent_bump_other _ _ (h1 r hr), hon]
    · split
      · split
        · rw [Pkg.ent_raise _ _ _ _ _ h2 h3, hon, Pkg.ent_bump_other _ _ (h0 r hr), hon]
        · rw [Pkg.ent_bump_other _ _ (h0 r hr), hon]
      · rfl
  rw [Pkg.throttles_eq]
  refine List.foldlRecOn (motive := fun k => k.ent i j = s.ent i j) _ _ rfl fun k hk r hr => (hone k r _ ?_).trans hk
  simp only [List.mem_cons, List.not_mem_nil, or_false] at hr
  omega

/-- A reason adds at most one event to the log. -/
theorem Pkg.log_throttle (s : Pkg) (now r : Nat) : (s.throttle now r).log = s.log ∨ ∃ e, (s.throttle now r).log = (e :: s.log).take 1024 := by
  have hon (k : Pkg) (f : Power → Power) : (k.onPow f).log = k.log := rfl
  unfold Pkg.throttle
  dsimp only
  split
  · split
    · rw [Pkg.log_raise, hon, Pkg.bump_log, hon]
      exact .inr ⟨_, rfl⟩
    · rw [Pkg.bump_log, hon]
      exact .inl rfl
  · split
    · split
      · rw [Pkg.log_raise, hon, Pkg.bump_log, hon]
        exact .inr ⟨_, rfl⟩
      · rw [Pkg.bump_log, hon]
        exact .inl rfl
    · exact .inl rfl

theorem Pkg.recent_throttle {s : Pkg} {n : Nat} {e : Event} (h : e ∈ s.log.take n) (hn : n < 1024) (now r : Nat) :
    e ∈ (s.throttle now r).log.take (n + 1) := by
  obtain hsame | ⟨e', hmore⟩ := s.log_throttle now r
  · rw [hsame]
    exact List.take_subset_take_left _ (Nat.le_succ n) h
  · rw [hmore, List.take_take, Nat.min_eq_left (by omega), List.take_succ_cons]
    exact List.mem_cons_of_mem _ h

/-- The newest event is still in the log behind those of the reasons. -/
theorem Pkg.mem_log_throttles {s : Pkg} {e : Event} (h : s.log.head? = some e) : e ∈ s.throttles.log := by
  have hnew : e ∈ s.log.take 1 := by
    rw [List.take_one, h]
    exact List.mem_singleton_self e
  have htwo := Pkg.recent_throttle (Pkg.recent_throttle hnew (by omega) s.tempo.now 1) (by omega) s.tempo.now 2
  have hfive := Pkg.recent_throttle (Pkg.recent_throttle (Pkg.recent_throttle htwo (by omega) s.tempo.now 3) (by omega) s.tempo.now 4) (by omega) s.tempo.now 5
  simp only [Pkg.throttles_eq, List.foldl_cons, List.foldl_nil]
  exact List.mem_of_mem_take hfive

/-- Of a fold in which one element alone touches what is looked at. -/
theorem foldl_view_one {α β γ : Type} (view : α → γ) {f : α → β → α} {s : α} {l₁ l₂ : List β} {x : β} (hbefore : ∀ k, ∀ y ∈ l₁, view (f k y) = view k)
    (hafter : ∀ k, ∀ y ∈ l₂, view (f k y) = view k) : ∃ k, view k = view s ∧ view ((l₁ ++ x :: l₂).foldl f s) = view (f k x) := by
  have hkeep (l : List β) (h : ∀ k, ∀ y ∈ l, view (f k y) = view k) (k : α) : view (l.foldl f k) = view k :=
    List.foldlRecOn (motive := fun z => view z = view k) l f rfl fun z hz y hy => (h z y hy).trans hz
  refine ⟨l₁.foldl f s, hkeep l₁ hbefore s, ?_⟩
  rw [List.foldl_append, List.foldl_cons, hkeep l₂ hafter]

/-! The fast loop (15:R465). -/

/-- The reasons for which the fast loop lowers a die's duty, one bit for each. -/
def regWhy (overOut overGuard : Bool) (gr : Nat) : Nat := (if overOut then 2 ^ rCurrent else 0) ||| (if overGuard then 2 ^ gr else 0)

/-- What the fast loop does to one regulator's die. -/
def Power.regStep (mas : List Nat) (overIn overGuard calmPkg : Bool) (gr : Nat) (w : Power) (d : Nat) : Power :=
  let a := mas.getD d 0
  let why := regWhy (overIn || decide (w.regLimit d < a)) overGuard gr
  let duty := Tab.get 16 w.duty d
  if why ≠ 0 then { w with duty := Tab.set 16 w.duty d (duty / 2), calm := Tab.erase w.calm d, gate := Tab.insert w.gate d (Tab.get 0 w.gate d ||| why) }
  else if calmPkg && decide (100 * a < 95 * w.regLimit d) then
    let k := Tab.get 0 w.calm d + 1
    if 10 ≤ k then
      let up := min 16 (duty + 1)
      { w with duty := Tab.set 16 w.duty d up, calm := Tab.erase w.calm d, gate := if up = 16 then Tab.erase w.gate d else w.gate }
    else { w with calm := if duty = 16 then Tab.erase w.calm d else Tab.insert w.calm d k }
  else { w with calm := Tab.erase w.calm d }

/-- The duties of the dies after a sample of the fast loop. -/
def Pkg.regSteps (s : Pkg) (mas : List Nat) : Power :=
  (List.range regMax).foldl (Power.regStep mas (decide (1000 * s.ent 0x6000 4 < s.pow.ma)) (decide (1000000 * s.guard10 < 10 * s.pins.vin * s.pow.ma))
    (decide (100 * s.pow.ma < 95 * (1000 * s.ent 0x6000 4)) && decide (100 * (10 * s.pins.vin * s.pow.ma) < 95 * (1000000 * s.guard10)))
    (if s.pow.brake then rSupply else rCap)) { s.pow with fastAt := s.tempo.local_ }

theorem fastLoop_eq {s : Pkg} {mas : List Nat} (h : s.pow.fastAt + 1000 ≤ s.tempo.local_) :
    fastLoop s mas = ({ s with pow := { s.regSteps mas with
      full := (s.regSteps mas).full && (s.regSteps mas).duty.isEmpty
      zero := (s.regSteps mas).zero && (decide ((s.regSteps mas).duty.length = regMax) && (s.regSteps mas).duty.all (fun e => decide (e.2 = 0))) } } : Pkg).throttles :=
  if_neg (Nat.not_lt.2 h)

/-- Below 95 % of a limit is not above it. -/
theorem not_over_of_calm {a b : Nat} (h : 100 * a < 95 * b) : decide (b < a) = false := decide_eq_false (by omega)

section
variable (mas : List Nat) (overIn overGuard calmPkg : Bool) (gr : Nat) (w : Power) (d : Nat)

/-- What a regulator's step looks at of its die. -/
def Power.reg (w : Power) (d : Nat) : Nat × Nat × Tab Nat × Nat := (Tab.get 16 w.duty d, Tab.get 0 w.calm d, w.phases, w.target)

theorem Tab.get_erase_other {α : Type} (dflt : α) (t : Tab α) {k j : Nat} (h : j ≠ k) : Tab.get dflt (Tab.erase t k) j = Tab.get dflt t j := by
  rw [Tab.get_eq_find, Tab.find_erase_other t h, Tab.get_eq_find]

theorem Power.reg_regStep_other {e : Nat} (h : d ≠ e) : (w.regStep mas overIn overGuard calmPkg gr e).reg d = w.reg d := by
  unfold Power.regStep
  dsimp only
  split
  · simp only [Power.reg, Tab.get_set_other _ _ _ h, Tab.get_erase_other _ _ h]
  · split
    · split
      · simp only [Power.reg, Tab.get_set_other _ _ _ h, Tab.get_erase_other _ _ h]
      · simp only [Power.reg]
        split
        · rw [Tab.get_erase_other _ _ h]
        · rw [Tab.get_insert_other _ _ _ h]
    · simp only [Power.reg, Tab.get_erase_other _ _ h]

theorem Power.target_regStep : (w.regStep mas overIn overGuard calmPkg gr d).target = w.target := by
  simp only [Power.regStep, apply_ite Power.target, ite_self]

theorem Power.regStep_over (h : overIn = true ∨ w.regLimit d < mas.getD d 0) :
    Tab.get 16 (w.regStep mas overIn overGuard calmPkg gr d).duty d = Tab.get 16 w.duty d / 2 := by
  have hover : (overIn || decide (w.regLimit d < mas.getD d 0)) = true := by simpa using h
  have hwhy : regWhy true overGuard gr ≠ 0 := fun hzero => absurd (Nat.or_eq_zero_iff.1 hzero).1 (by decide)
  simp only [Power.regStep, hover, if_pos hwhy, Tab.get_set_self]

theorem Power.regStep_calm (hlow : 100 * mas.getD d 0 < 95 * w.regLimit d) :
    Tab.get 16 (w.regStep mas false false true gr d).duty d = if 9 ≤ Tab.get 0 w.calm d then min 16 (Tab.get 16 w.duty d + 1) else Tab.get 16 w.duty d := by
  have hover : decide (w.regLimit d < mas.getD d 0) = false := decide_eq_false (by omega)
  have hwhy : ¬(regWhy false false gr ≠ 0) := by simp [regWhy]
  have hten : 10 ≤ Tab.get 0 w.calm d + 1 ↔ 9 ≤ Tab.get 0 w.calm d := by omega
  simp only [Power.regStep, hover, Bool.or_self, if_neg hwhy, Bool.true_and, decide_eq_true hlow, if_true, hten]
  split
  · rw [Tab.get_set_self]
  · rfl

/-- Of one die the fast loop makes what its regulator's step makes. -/
theorem Power.reg_regSteps {d : Nat} (hd : d < 66) : ∃ k : Power, k.reg d = w.reg d
    ∧ Power.reg ((List.range regMax).foldl (Power.regStep mas overIn overGuard calmPkg gr) w) d = (k.regStep mas overIn overGuard calmPkg gr d).reg d := by
  obtain ⟨l₁, l₂, hl, h₁, h₂⟩ := range_split (n := regMax) hd
  rw [hl]
  exact foldl_view_one (fun (w : Power) => w.reg d) (fun w e he => Power.reg_regStep_other _ _ _ _ _ w _ (h₁ e he).2.symm)
    (fun w e he => Power.reg_regStep_other _ _ _ _ _ w _ (h₂ e he).2.symm)

end

theorem fastLoop_spec {s : Pkg} (h : s.pow.fastAt + 1000 ≤ s.tempo.local_) (mas : List Nat) {d : Nat} (hd : d < 66) :
    (fastLoop s mas).tiles = s.tiles ∧ (fastLoop s mas).dstore = s.dstore ∧ (fastLoop s mas).pow.target = s.pow.target
    ∧ (s.pow.regLimit d < mas.getD d 0 ∨ 1000 * s.ent 0x6000 4 < s.pow.ma → Tab.get 16 (fastLoop s mas).pow.duty d = Tab.get 16 s.pow.duty d / 2)
    ∧ (100 * s.pow.ma < 95 * (1000 * s.ent 0x6000 4) → 100 * (10 * s.pins.vin * s.pow.ma) < 95 * (1000000 * s.guard10) →
        100 * mas.getD d 0 < 95 * s.pow.regLimit d →
        Tab.get 16 (fastLoop s mas).pow.duty d = if 9 ≤ Tab.get 0 s.pow.calm d then min 16 (Tab.get 16 s.pow.duty d + 1) else Tab.get 16 s.pow.duty d) := by
  obtain ⟨w, hw, hreg⟩ : ∃ w : Power, w.reg d = s.pow.reg d ∧ (s.regSteps mas).reg d = _ := Power.reg_regSteps mas _ _ _ _ { s.pow with fastAt := s.tempo.local_ } hd
  simp only [Power.reg, Prod.mk.injEq] at hw hreg
  obtain ⟨hduty, hcalm, hphases, htarget⟩ := hw
  obtain ⟨hduty', -, -, htarget'⟩ := hreg
  have hlimit : w.regLimit d = s.pow.regLimit d := by simp only [Power.regLimit, Power.good, hphases]
  rw [fastLoop_eq h]
  refine ⟨Pkg.keeps_throttles Pkg.tiles (fun _ => rfl) _, Pkg.keeps_throttles Pkg.dstore (fun _ => rfl) _, ?_, fun hover => ?_, fun hma hw hreg => ?_⟩
  · rw [Pkg.keeps_throttles (fun k => k.pow.target) (fun _ => rfl)]
    exact htarget'.trans ((Power.target_regStep _ _ _ _ _ _ _).trans htarget)
  · rw [Pkg.keeps_throttles (fun k => Tab.get 16 k.pow.duty d) (fun _ => rfl)]
    refine hduty'.trans ((Power.regStep_over _ _ _ _ _ _ _ ?_).trans (by rw [hduty]))
    rw [hlimit, decide_eq_true_eq]
    exact hover.symm
  · rw [Pkg.keeps_throttles (fun k => Tab.get 16 k.pow.duty d) (fun _ => rfl)]
    refine hduty'.trans ?_
    rw [← hlimit] at hreg
    rw [not_over_of_calm hma, not_over_of_calm hw, decide_eq_true hma, decide_eq_true hw, Bool.and_self, Power.regStep_calm _ _ _ _ hreg, hcalm, hduty]

/-! The power-cap loop (15:R463 to R466). -/

/-- A period of the power-cap loop begins: the cap in force and the brake's release. -/
def Pkg.capPeriod (s : Pkg) : Pkg :=
  let ended := s.pow.release
  let k := if ended then s.coreMark.raise 0x0604 0xFF [s.tempo.now - s.pow.brakeAt] else s.coreMark
  let gates (t : Tab Nat) : Tab Nat := if ended then t.map (fun (e : Nat × Nat) => (e.1, e.2 - b2n (bit e.2 rSupply) * 2 ^ rSupply ||| b2n (bit e.2 rSupply) * 2 ^ rCap)) else t
  k.onPow (fun w => { w with cap := k.ent 0x6000 1, brake := w.brake && !ended, release := false, gate := gates w.gate })

/-- The budget of a period and the power of the one before, in µW. -/
def Pkg.capBudget (s : Pkg) (debt : Nat) : Int := (s.effCap * 1000000 : Nat) - (debt * 1000 : Nat)
def Power.meanUw (w : Power) : Int := (w.periodPj / max 1 w.periodN : Nat)

/-- The target of the next period. -/
def Pkg.capTarget (s : Pkg) (debt : Nat) : Nat :=
  let w := s.pow
  let budget := s.capBudget debt
  let P := w.meanUw
  let sl : Int := (w.slope * 1000000 : Nat)
  let above := ((P - budget + sl - 1) / sl).toNat
  let under := ((budget - P) / sl).toNat - 1
  let t0 := min w.target s.topMhz
  if !w.duty.isEmpty then max 600 (t0 - 8 * 25)
  else if budget < P then max 600 (t0 - min 8 above * 25)
  else if P < budget - 2 * sl then min s.topMhz (t0 + min 4 under * 25)
  else t0

/-- The slope of the next period. -/
def Power.capSlope (w : Power) : Nat :=
  if w.full && w.fullBefore && decide (w.moved ≠ 0) then max 50 (min 1000 ((w.meanUw - (w.lastP : Int)).natAbs / w.moved.natAbs / 1000000)) else w.slope

theorem Power.capSlope_bounds {w : Power} (h : 50 ≤ w.slope) : 50 ≤ w.capSlope ∧ (w.slope ≤ 1000 → w.capSlope ≤ 1000) := by
  unfold Power.capSlope
  split
  · omega
  · exact ⟨h, fun hle => hle⟩

theorem Pkg.capTarget_bounds {s : Pkg} (hlow : 600 ≤ s.pow.target) (hhigh : s.pow.target ≤ s.topMhz) (debt : Nat) :
    600 ≤ s.capTarget debt ∧ s.capTarget debt ≤ s.topMhz ∧ s.capTarget debt ≤ s.pow.target + 100
    ∧ s.pow.target ≤ s.capTarget debt + 200 ∧ (s.pow.duty ≠ [] → s.capTarget debt = max 600 (s.pow.target - 200)) := by
  have htop : min s.pow.target s.topMhz = s.pow.target := Nat.min_eq_left hhigh
  have hduty : s.pow.duty ≠ [] ↔ (!s.pow.duty.isEmpty) = true := by simp
  simp only [Pkg.capTarget, htop, hduty]
  generalize ((s.pow.meanUw - s.capBudget debt + ((s.pow.slope * 1000000 : Nat) : Int) - 1) / ((s.pow.slope * 1000000 : Nat) : Int)).toNat = above
  generalize ((s.capBudget debt - s.pow.meanUw) / ((s.pow.slope * 1000000 : Nat) : Int)).toNat - 1 = under
  split
  case isTrue => omega
  case isFalse hempty =>
    split
    · exact ⟨by omega, by omega, by omega, by omega, fun hne => absurd hne hempty⟩
    · split
      · exact ⟨by omega, by omega, by omega, by omega, fun hne => absurd hne hempty⟩
      · exact ⟨by omega, by omega, by omega, by omega, fun hne => absurd hne hempty⟩

/-- The power of a period that no throttling could bring under the cap. -/
def Pkg.capUnreachable (s : Pkg) : Bool :=
  s.pow.zero && decide (s.pow.duty.length = regMax) && decide (((s.effCap * 1000000 : Nat) : Int) < s.pow.meanUw)

/-- The power-cap loop moves the target and begins the next period's account. -/
def Pkg.capMove (s : Pkg) (debt : Nat) : Pkg :=
  s.onPow (fun w =>
    { w with target := s.capTarget debt, slope := s.pow.capSlope, moved := ((s.capTarget debt : Int) - (w.target : Int)) / 25, lastP := s.pow.meanUw.toNat
             periodPj := 0, periodN := 0, loopAt := s.tempo.now, fullBefore := w.full, full := s.pow.duty.isEmpty
             zero := decide (w.duty.length = regMax) && w.duty.all (fun e => decide (e.2 = 0)) })

theorem capLoop_eq {s : Pkg} (debt : Nat) (h : s.pow.loopAt + 1000000 ≤ s.tempo.now) :
    capLoop s debt = (if s.capPeriod.capUnreachable then (s.capPeriod.capMove debt).raise 0x0609 0xFF [s.capPeriod.effCap, (s.capPeriod.pow.meanUw / 1000000).toNat]
      else s.capPeriod.capMove debt).droopPeriod.throttles :=
  if_neg (Nat.not_lt.2 h)

/-- The package without what a period of the power-cap loop may change. -/
def Pkg.uncapped (s : Pkg) : Pkg := { s.bare with pow := {} }

theorem Pkg.keeps_of_uncapped {α : Type} (g : Pkg → α) (hg : ∀ s, g s.uncapped = g s) {s t : Pkg} (h : s.uncapped = t.uncapped) : g s = g t := by
  rw [← hg s, h, hg]

theorem Pkg.uncapped_of_bare {s t : Pkg} (h : s.bare = t.bare) : s.uncapped = t.uncapped := Pkg.keeps_of_bare Pkg.uncapped (fun _ => rfl) h

theorem Pkg.uncapped_raise (s : Pkg) (code part : Nat) (items : List Nat) (raw : List Byte) : (s.raise code part items raw).uncapped = s.uncapped :=
  Pkg.uncapped_of_bare (s.bare_raise code part items raw)

theorem Pkg.uncapped_onPow (s : Pkg) (f : Power → Power) : (s.onPow f).uncapped = s.uncapped := rfl

/-- What the begin of a period leaves. -/
theorem Pkg.capPeriod_spec (s : Pkg) : s.capPeriod.uncapped = s.uncapped ∧ s.capPeriod.pow.target = s.pow.target ∧ s.capPeriod.pow.duty = s.pow.duty
    ∧ s.capPeriod.pow.slope = s.pow.slope ∧ s.capPeriod.pow.cap = s.ent 0x6000 1 ∧ s.capPeriod.pow.release = false
    ∧ s.capPeriod.pow.brake = (s.pow.brake && !s.pow.release) ∧ s.capPeriod.topMhz = s.topMhz := by
  have hent (i j : Nat) : s.coreMark.ent i j = s.ent i j := rfl
  have hpow : s.coreMark.pow.target = s.pow.target ∧ s.coreMark.pow.duty = s.pow.duty ∧ s.coreMark.pow.slope = s.pow.slope ∧ s.coreMark.pow.brake = s.pow.brake :=
    ⟨rfl, rfl, rfl, rfl⟩
  obtain ⟨htarget, hduty, hslope, hbrake⟩ := hpow
  unfold Pkg.capPeriod
  dsimp only
  split
  case isTrue hended =>
    have hraise := Pkg.keeps_raise Pkg.pow (fun _ => rfl) s.coreMark 0x0604 0xFF [s.tempo.now - s.pow.brakeAt] []
    have hvalue (j : Nat) (hj : j < 256) := (s.coreMark.ent_raise 0x0604 0xFF [s.tempo.now - s.pow.brakeAt] [] (i := 0x6000) (j := j)
      (by simp only [dkey]; omega) (by simp only [dkey]; omega)).trans (hent _ _)
    refine ⟨(Pkg.uncapped_onPow _ _).trans ((Pkg.uncapped_raise _ _ _ _ _).trans (Pkg.uncapped_onPow _ _)), ?_, ?_, ?_, hvalue 1 (by omega), rfl, ?_, ?_⟩
    · exact (congrArg Power.target hraise).trans htarget
    · exact (congrArg Power.duty hraise).trans hduty
    · exact (congrArg Power.slope hraise).trans hslope
    · simp only [Pkg.onPow, hraise, hbrake, hended]
    · exact congrArg (fun v => max 600 (min 1700 (v / 25 * 25))) (hvalue 3 (by omega))
  case isFalse hended =>
    refine ⟨(Pkg.uncapped_onPow _ _).trans (Pkg.uncapped_onPow _ _), htarget, hduty, hslope, hent 0x6000 1, rfl, ?_, rfl⟩
    simp only [Pkg.onPow, hbrake, hended]

/-- What a period of the power-cap loop leaves. -/
theorem capLoop_spec {s : Pkg} (debt : Nat) (h : s.pow.loopAt + 1000000 ≤ s.tempo.now) (hslope : 50 ≤ s.pow.slope) (hlow : 600 ≤ s.pow.target)
    (hhigh : s.pow.target ≤ s.topMhz) :
    let k := capLoop s debt
    k.pow.loopAt = s.tempo.now ∧ k.pow.cap = s.ent 0x6000 1 ∧ k.pow.periodPj = 0 ∧ k.pow.periodN = 0 ∧ k.pow.release = false
    ∧ k.pow.brake = (s.pow.brake && !s.pow.release) ∧ 600 ≤ k.pow.target ∧ k.pow.target ≤ s.topMhz ∧ k.pow.target ≤ s.pow.target + 100
    ∧ s.pow.target ≤ k.pow.target + 200 ∧ 50 ≤ k.pow.slope ∧ (s.pow.slope ≤ 1000 → k.pow.slope ≤ 1000)
    ∧ (s.pow.duty ≠ [] → k.pow.target = max 600 (s.pow.target - 200)) ∧ k.tiles = s.tiles ∧ k.dstore = s.dstore := by
  intro k
  obtain ⟨hsame, htarget, hduty, hslope', hcap, hrelease, hbrake, htop⟩ := s.capPeriod_spec
  obtain ⟨h600, hceil, hup, hdown, hbelow⟩ := Pkg.capTarget_bounds (s := s.capPeriod) (by omega) (by omega) debt
  obtain ⟨h50, h1000⟩ := Power.capSlope_bounds (w := s.capPeriod.pow) (by omega)
  rw [htop] at hceil
  rw [htarget] at hup hdown hbelow
  rw [hduty] at hbelow
  rw [hslope'] at h1000
  have hpow {α : Type} (g : Power → α) (hg : ∀ w : Power, g w.unheld = g w) (hdroop : ∀ (w : Power) a b c, g { w with droop := a, stretched := b, stretch := c } = g w) :
      g k.pow = g (s.capPeriod.capMove debt).pow := by
    have hloop : k = _ := capLoop_eq debt h
    rw [hloop, Pkg.keeps_throttles (fun z => g z.pow) (fun z => hg z.pow)]
    refine (hdroop _ _ _ _).trans ?_
    split
    · exact congrArg g (Pkg.keeps_raise Pkg.pow (fun _ => rfl) _ _ _ _ _)
    · rfl
  have hall : k.uncapped = s.uncapped := by
    have hloop : k = _ := capLoop_eq debt h
    rw [hloop, Pkg.keeps_throttles Pkg.uncapped (fun _ => rfl)]
    refine (Pkg.uncapped_onPow _ _).trans ?_
    split
    · exact (Pkg.uncapped_raise _ _ _ _ _).trans ((Pkg.uncapped_onPow _ _).trans hsame)
    · exact (Pkg.uncapped_onPow _ _).trans hsame
  have htgt : k.pow.target = s.capPeriod.capTarget debt := hpow Power.target (fun _ => rfl) (fun _ _ _ _ => rfl)
  have hslp : k.pow.slope = s.capPeriod.pow.capSlope := hpow Power.slope (fun _ => rfl) (fun _ _ _ _ => rfl)
  have hnow : s.capPeriod.tempo = s.tempo := Pkg.keeps_of_uncapped Pkg.tempo (fun _ => rfl) hsame
  rw [htgt, hslp]
  refine ⟨(hpow Power.loopAt (fun _ => rfl) (fun _ _ _ _ => rfl)).trans (congrArg Tempo.now hnow), (hpow Power.cap (fun _ => rfl) (fun _ _ _ _ => rfl)).trans hcap,
    hpow Power.periodPj (fun _ => rfl) (fun _ _ _ _ => rfl), hpow Power.periodN (fun _ => rfl) (fun _ _ _ _ => rfl),
    (hpow Power.release (fun _ => rfl) (fun _ _ _ _ => rfl)).trans hrelease, (hpow Power.brake (fun _ => rfl) (fun _ _ _ _ => rfl)).trans hbrake,
    h600, hceil, hup, hdown, h50, h1000, hbelow, Pkg.keeps_of_uncapped Pkg.tiles (fun _ => rfl) hall, Pkg.keeps_of_uncapped Pkg.dstore (fun _ => rfl) hall⟩

/-! Clock steps, the brake and droop (15:R461, R466, R468). -/

theorem freqStep_of_same {s : Pkg} {fmax t : Nat} (h : Tab.get 1500 s.pow.clocks t = s.tileGoal t fmax ∨ s.tempo.local_ < Tab.get 0 s.pow.clockAt t + 1000) :
    freqStep s fmax t = s := by
  refine if_pos ?_
  simp only [Bool.or_eq_true, decide_eq_true_eq]
  exact h.elim .inr fun hsoon => .inl (.inr hsoon)

theorem freqStep_spec {s : Pkg} {fmax t : Nat} (hfmax : fmax ≠ 0) (hne : Tab.get 1500 s.pow.clocks t ≠ s.tileGoal t fmax)
    (hdue : Tab.get 0 s.pow.clockAt t + 1000 ≤ s.tempo.local_) :
    let c := Tab.get 1500 s.pow.clocks t
    let k := freqStep s fmax t
    Tab.get 1500 k.pow.clocks t = (if c < s.tileGoal t fmax then min (s.tileGoal t fmax) (c + 25) else max (s.tileGoal t fmax) (c - 25))
    ∧ Tab.get 0 k.pow.clockAt t = s.tempo.local_ ∧ (∀ u, u ≠ t → Tab.get 1500 k.pow.clocks u = Tab.get 1500 s.pow.clocks u)
    ∧ k.tiles = (s.spanMark t).tiles ∧ ∀ u, u ≠ t → k.tile u = s.tile u := by
  intro c k
  have hno : ¬(decide (fmax = 0) || decide (s.tempo.local_ < Tab.get 0 s.pow.clockAt t + 1000) || decide (c = s.tileGoal t fmax)) = true := by
    simp only [Bool.or_eq_true, decide_eq_true_eq, not_or]
    exact ⟨⟨hfmax, Nat.not_lt.2 hdue⟩, hne⟩
  have hk : k = _ := if_neg hno
  rw [hk]
  refine ⟨Tab.get_set_self _ _ _ _, Tab.get_set_self _ _ _ _, fun u hu => Tab.get_set_other _ _ _ hu, rfl, fun u hu => ?_⟩
  exact Pkg.tile_setTile_other s _ hu

theorem brakeOn_spec {s : Pkg} (h : s.pow.brake = false) : (brakeOn s).pow.brake = true ∧ (brakeOn s).pow.brakeAt = s.tempo.now
    ∧ ∃ e ∈ (brakeOn s).log, e.code = 0x0603 ∧ e.items = [s.ent 0x6000 2] := by
  have hk : brakeOn s = ((s.onPow (fun w => { w with brake := true, brakeAt := s.tempo.now })).raise 0x0603 0xFF [s.ent 0x6000 2]).throttles :=
    if_neg (by simp [h])
  have hraise := Pkg.keeps_raise Pkg.pow (fun _ => rfl) (s.onPow (fun w => { w with brake := true, brakeAt := s.tempo.now })) 0x0603 0xFF [s.ent 0x6000 2] []
  obtain ⟨e, hhead, hcode, -, hitems⟩ := Pkg.reports_raise (s.onPow (fun w => { w with brake := true, brakeAt := s.tempo.now })) 0x0603 0xFF [s.ent 0x6000 2] []
  rw [hk]
  refine ⟨?_, ?_, e, Pkg.mem_log_throttles hhead, hcode, hitems⟩
  · rw [Pkg.keeps_throttles (fun k => k.pow.brake) (fun _ => rfl), hraise]
    rfl
  · rw [Pkg.keeps_throttles (fun k => k.pow.brakeAt) (fun _ => rfl), hraise]
    rfl

/-- Spans are counted in the tiles alone. -/
theorem Pkg.keeps_droopMark {α : Type} (g : Pkg → α) (hg : ∀ (s : Pkg) t x, g (s.setTile t x) = g s) (s : Pkg) (d i : Nat) : g (s.droopMark d i) = g s :=
  Pkg.foldl_keeps g (fun _ _ => hg _ _ _) _ s

theorem droopDetect_spec {s : Pkg} {d i : Nat} (hd : d < 48) (h : Tab.get 0 s.pow.stretch (d * 8 + i) = 0) :
    Tab.get 0 (droopDetect s d i).pow.stretch (d * 8 + i) = s.tempo.local_ + 1 ∧ (droopDetect s d i).ent 0x6020 (d + 1) = s.ent 0x6020 (d + 1) + 1
    ∧ (droopDetect s d i).pow.clocks = s.pow.clocks := by
  have hk : droopDetect s d i = (((s.droopMark d i).onPow (fun w => { w with stretch := Tab.insert w.stretch (d * 8 + i) (s.tempo.local_ + 1) })).bump 0x6020 (d + 1) 1).throttles :=
    if_neg (not_not_intro h)
  have hbump := Pkg.keeps_of_bare Pkg.pow (fun _ => rfl) (((s.droopMark d i).onPow (fun w => { w with stretch := Tab.insert w.stretch (d * 8 + i) (s.tempo.local_ + 1) })).bare_bump 0x6020 (d + 1) 1)
  have hpow : (s.droopMark d i).pow = s.pow := Pkg.keeps_droopMark Pkg.pow (fun _ _ _ => rfl) s d i
  have hdict (k : Pkg) (f : Power → Power) : (k.onPow f).dict = k.dict := rfl
  have hent : ((s.droopMark d i).onPow (fun w => { w with stretch := Tab.insert w.stretch (d * 8 + i) (s.tempo.local_ + 1) })).ent 0x6020 (d + 1) = s.ent 0x6020 (d + 1) :=
    Pkg.keeps_droopMark (fun k => k.ent 0x6020 (d + 1)) (fun _ _ _ => rfl) s d i
  rw [hk]
  refine ⟨?_, ?_, ?_⟩
  · rw [Pkg.keeps_throttles (fun k => Tab.get 0 k.pow.stretch (d * 8 + i)) (fun _ => rfl), hbump]
    exact Tab.get_insert_self _ _ _ _
  · rw [Pkg.ent_throttles _ (fun r hr => by simp only [dkey]; omega) (fun r hr => by simp only [dkey]; omega) (by simp only [dkey]; omega) (by simp only [dkey]; omega),
      Pkg.ent_bump_self, hent]
  · rw [Pkg.keeps_throttles (fun k => k.pow.clocks) (fun _ => rfl), hbump]
    exact (congrArg Power.clocks hpow :)

theorem droopRelease_spec {s : Pkg} {d i : Nat} (h : Tab.get 0 s.pow.stretch (d * 8 + i) ≠ 0) :
    Tab.find (droopRelease s d i).pow.stretch (d * 8 + i) = none
    ∧ Tab.get 0 (droopRelease s d i).pow.stretched d = Tab.get 0 s.pow.stretched d + (s.tempo.local_ + 1 - Tab.get 0 s.pow.stretch (d * 8 + i)) := by
  have hpow : (s.droopMark d i).pow = s.pow := Pkg.keeps_droopMark Pkg.pow (fun _ _ _ => rfl) s d i
  have hk : droopRelease s d i = ((s.droopMark d i).onPow (fun w =>
      { w with stretch := Tab.erase w.stretch (d * 8 + i)
               stretched := Tab.modify 0 w.stretched d (· + (s.tempo.local_ + 1 - Tab.get 0 s.pow.stretch (d * 8 + i))) })).throttles := if_neg h
  rw [hk]
  refine ⟨?_, ?_⟩
  · rw [Pkg.keeps_throttles (fun k => Tab.find k.pow.stretch (d * 8 + i)) (fun _ => rfl)]
    exact Tab.find_erase_self _ _
  · rw [Pkg.keeps_throttles (fun k => Tab.get 0 k.pow.stretched d) (fun _ => rfl)]
    refine (Tab.get_set_self _ _ _ _).trans ?_
    rw [hpow]

/-! Temperatures (15:R469). -/

theorem thermalStep_go {s : Pkg} (d v : Nat) (k : Pkg) (hk : k = (s.coreMark.onPow (fun w => { w with heat := Tab.set 0 w.heat d v, stepAt := Tab.set 0 w.stepAt d s.tempo.local_ })).throttles) :
    Tab.get 0 k.pow.heat d = v ∧ Tab.get 0 k.pow.stepAt d = s.tempo.local_ ∧ k.tiles = s.tiles := by
  rw [hk]
  refine ⟨?_, ?_, Pkg.keeps_throttles Pkg.tiles (fun _ => rfl) _⟩
  · rw [Pkg.keeps_throttles (fun k => Tab.get 0 k.pow.heat d) (fun _ => rfl)]
    exact Tab.get_set_self _ _ _ _
  · rw [Pkg.keeps_throttles (fun k => Tab.get 0 k.pow.stepAt d) (fun _ => rfl)]
    exact Tab.get_set_self _ _ _ _

/-- What a step of a die's heat ceiling is, at a temperature. -/
theorem thermalStep_eq {s : Pkg} {d : Nat} {t : Int} (h : s.dieTemp d = some t) : thermalStep s d =
    let go (v : Nat) : Pkg := (s.coreMark.onPow (fun w => { w with heat := Tab.set 0 w.heat d v, stepAt := Tab.set 0 w.stepAt d s.tempo.local_ })).throttles
    if s.throttleTemp ≤ t then
      (if Tab.get 0 s.pow.stepAt d + 100000 ≤ s.tempo.local_ then go (min (if dutyDie d then 16 else if d < 48 then 44 else 72) (Tab.get 0 s.pow.heat d + 1)) else s)
    else if decide (t < s.throttleTemp - 200) && decide (Tab.get 0 s.pow.heat d ≠ 0) && decide (Tab.get 0 s.pow.stepAt d + 1000000 ≤ s.tempo.local_) then go (Tab.get 0 s.pow.heat d - 1)
    else s := by
  simp only [thermalStep, h]
  rfl

/-- A shut-down leaves the regulators, the log and what waits for its commit. -/
theorem Pkg.shutDown_spec (s : Pkg) (cause : Nat) :
    (s.shutDown cause).pow = s.pow ∧ (s.shutDown cause).fw = { s.fw with off := cause, up := false, dict := false, loadable := false } := by
  have hset (k : Pkg) (q : Nat) : (k.setRst q false).pow = k.pow ∧ (k.setRst q false).fw = k.fw := by
    unfold Pkg.setRst
    split <;> exact ⟨rfl, rfl⟩
  have hpow := Pkg.foldl_keeps Pkg.pow (fun k q => (hset k q).1) (List.range lportMax) s
  have hfw := Pkg.foldl_keeps Pkg.fw (fun k q => (hset k q).2) (List.range lportMax) s
  simp only [Pkg.shutDown, hpow, hfw, and_self]

theorem faultMapCommit_spec (s : Pkg) : (faultMapCommit s).pow = s.pow ∧ ∀ c ∈ s.fw.commits, c ∈ (faultMapCommit s).fw.commits := by
  unfold faultMapCommit
  split
  · exact ⟨rfl, fun c hc => List.mem_append_left _ hc⟩
  · exact ⟨rfl, fun c hc => hc⟩

/-- A trip ends in the shut-down of its cause, every duty 0, its record waiting for a commit (15:R469). -/
theorem Pkg.tripNow_spec (s : Pkg) (cause d : Nat) : let k := s.tripNow cause d
    k.fw.off = cause ∧ k.fw.up = false ∧ (∀ j, j < 66 → Tab.get 16 k.pow.duty j = 0) ∧ (∃ c ∈ k.fw.commits, c.kind = 4)
    ∧ ∃ e ∈ k.log, e.code = 0x0605 ∧ e.items = [d, ofSigned 64 ((k.dieTemp d).getD 0), cause] := by
  intro k
  have hpow : k.pow = { s.pow with duty := (List.range regMax).map (fun d => (d, 0)) } := by
    refine ((Pkg.shutDown_spec _ _).1.trans (faultMapCommit_spec _).1).trans ?_
    have hstop := Pkg.foldl_keeps Pkg.pow (fun z p => Pkg.keeps_of_rest Pkg.pow (fun _ => rfl) (z.stopUnits_rest p)) s.partsLive
      (s.onPow (fun w => { w with duty := (List.range regMax).map (fun d => (d, 0)) }))
    refine Eq.trans ?_ hstop
    have hbump (z : Pkg) (i j n : Nat) : (z.bump i j n).pow = z.pow := Pkg.keeps_of_bare Pkg.pow (fun _ => rfl) (z.bare_bump i j n)
    have hraise (z : Pkg) (items : List Nat) : (z.raise 0x0605 0xFF items).pow = z.pow := Pkg.keeps_raise Pkg.pow (fun _ => rfl) z _ _ _ _
    have hput (z : Pkg) (w : Fw) : ({ z with fw := w } : Pkg).pow = z.pow := rfl
    rw [hput, hbump, hraise, hbump]
  have hcommit : ∃ c ∈ k.fw.commits, c.kind = 4 := by
    have hfw : k.fw.commits = _ := congrArg Fw.commits (Pkg.shutDown_spec _ _).2
    rw [hfw]
    exact ⟨_, (faultMapCommit_spec _).2 _ (List.mem_append_right _ List.mem_cons_self), rfl⟩
  have hup : k.fw.up = false := congrArg Fw.up (Pkg.shutDown_spec _ _).2
  have htemp : k.dieTemp d = s.dieTemp d := by
    have hview (z : Pkg) : z.dieTemp d = ({ pow := { temps := z.pow.temps, badSensor := z.pow.badSensor } } : Pkg).dieTemp d := rfl
    rw [hview, hpow, ← hview]
  refine ⟨s.tripNow_off cause d, hup, fun j hj => ?_, hcommit, ?_⟩
  · rw [hpow]
    have hzero (l : List Nat) (hmem : j ∈ l) : Tab.get 16 (l.map (fun d => (d, 0))) j = 0 := by
      induction l with
      | nil => exact absurd hmem List.not_mem_nil
      | cons i l ih =>
        simp only [List.map_cons, Tab.get]
        split
        · rfl
        · next hne => exact ih ((List.mem_cons.1 hmem).resolve_left (Ne.symm hne))
    exact hzero _ (List.mem_range.2 hj)
  · rw [htemp]
    exact s.tripNow_log cause d

/-! Supply samples (15:R460). -/

/-- A good sample that is due, within the slope of 15:R459. -/
theorem vinSample_eq {s : Pkg} (mv ma aux : Nat) (hvaux : s.fw.vaux = true) (hon : s.fw.off = 0) (hdue : s.pow.sampleAt + 1000 ≤ s.tempo.local_)
    (hslope : (if ma < s.pow.ma then s.pow.ma - ma else ma - s.pow.ma) ≤ 150 * (s.tempo.local_ - s.pow.sampleAt)) : vinSample s mv ma aux =
      let bad := decide (mv < 38000) || decide (62000 < mv)
      let s := { s with pins := { s.pins with vin := mv } }
      let s := s.onPow (fun w =>
        { w with sampleAt := s.tempo.local_, sampleNow := s.tempo.now, ma := ma, inputW := mv * ma / 1000000, energy := w.energy + mv * ma, aux := w.aux + 1000 * aux
                 periodPj := w.periodPj + mv * ma, periodN := w.periodN + 1, badVin := if bad then w.badVin + 1 else 0 })
      if s.pow.badVin = 10 then (s.raise 0x0607 0xFF [mv]).tripNow 2 66 else s := by
  have h₁ : ¬(!s.fw.vaux || decide (s.fw.off = 3)) = true := by simp [hvaux, hon]
  rw [vinSample, if_neg h₁, if_neg (Nat.not_lt.2 hdue), if_neg (not_not_intro hon), if_neg (Nat.not_lt.2 hslope)]

theorem vinSample_of_early {s : Pkg} (mv ma aux : Nat) (hvaux : s.fw.vaux = true) (hon : s.fw.off = 0) (h : s.tempo.local_ < s.pow.sampleAt + 1000
    ∨ 150 * (s.tempo.local_ - s.pow.sampleAt) < (if ma < s.pow.ma then s.pow.ma - ma else ma - s.pow.ma)) : vinSample s mv ma aux = s := by
  have h₁ : ¬(!s.fw.vaux || decide (s.fw.off = 3)) = true := by simp [hvaux, hon]
  rw [vinSample, if_neg h₁, if_neg (not_not_intro hon)]
  split
  · rfl
  · next hlate => rw [if_pos (h.resolve_left hlate)]

/-- The highest of a list of values, from a first one. -/
theorem foldl_max_spec (f : Nat → Int) (l : List Nat) (t : Int) :
    t ≤ l.foldl (fun t j => max t (f j)) t ∧ (∀ j ∈ l, f j ≤ l.foldl (fun t j => max t (f j)) t)
    ∧ (l.foldl (fun t j => max t (f j)) t = t ∨ ∃ j ∈ l, l.foldl (fun t j => max t (f j)) t = f j) := by
  induction l generalizing t with
  | nil => exact ⟨Int.le_refl t, fun j hj => absurd hj List.not_mem_nil, .inl rfl⟩
  | cons i l ih =>
    obtain ⟨hle, hall, hfrom⟩ := ih (max t (f i))
    simp only [List.foldl_cons]
    refine ⟨Int.le_trans (Int.le_max_left _ _) hle, List.forall_mem_cons.2 ⟨Int.le_trans (Int.le_max_right _ _) hle, hall⟩, ?_⟩
    rcases hfrom with heq | ⟨j, hj, heq⟩
    · rw [heq]
      obtain hm | hm : max t (f i) = t ∨ max t (f i) = f i := by omega
      · exact .inl hm
      · exact .inr ⟨i, List.mem_cons_self, hm⟩
    · exact .inr ⟨j, List.mem_cons_of_mem _ hj, heq⟩

/-- With no sensor excluded a die's temperature is the highest of its sensors (15:R469). -/
theorem Pkg.dieTemp_spec {s : Pkg} {d : Nat} (h : ∀ i, i < sensorsOf d → Tab.get 0 s.pow.badSensor (d * 64 + i) = 0) :
    ∃ t, s.dieTemp d = some t ∧ (∀ i, i < sensorsOf d → s.sensor d i ≤ t) ∧ ∃ i, i < sensorsOf d ∧ t = s.sensor d i := by
  have hgood : s.goodSensors d = List.range (sensorsOf d) := List.filter_eq_self.2 fun i hi => decide_eq_true (h i (List.mem_range.1 hi))
  obtain ⟨n, hn⟩ : ∃ n, sensorsOf d = n + 1 := by
    unfold sensorsOf
    split
    · exact ⟨3, rfl⟩
    · exact ⟨1, rfl⟩
  obtain ⟨hle, hall, hfrom⟩ := foldl_max_spec (s.sensor d) (List.range (sensorsOf d)) (s.sensor d 0)
  have hrange : List.range (sensorsOf d) = 0 :: (List.range n).map Nat.succ := by rw [hn, List.range_succ_eq_map]
  refine ⟨(List.range (sensorsOf d)).foldl (fun t j => max t (s.sensor d j)) (s.sensor d 0), ?_, fun i hi => hall i (List.mem_range.2 hi), ?_⟩
  · have hfull : ¬(List.range (sensorsOf d)).length < sensorsOf d := by simp
    have hval : s.dieTemp d = some ((List.range (sensorsOf d)).foldl (fun t j => max t (s.sensor d j)) (s.sensor d 0)
        + (if (List.range (sensorsOf d)).length < sensorsOf d then 500 else 0)) := by
      simp only [Pkg.dieTemp, hgood]
      rw [hrange]
    rw [hval, if_neg hfull, Int.add_zero]
  · rcases hfrom with heq | ⟨j, hj, heq⟩
    · exact ⟨0, by omega, heq⟩
    · exact ⟨j, List.mem_range.1 hj, heq⟩

theorem toSigned_of_lt {v : Nat} (h : v < 2 ^ 31) : toSigned 32 v = v := by
  have : v % 2 ^ 32 = v := Nat.mod_eq_of_lt (by omega)
  simp only [toSigned, this, if_pos h]

theorem ofSigned_toSigned (v : Nat) : ofSigned 32 (toSigned 32 (v % 2 ^ 32)) = v % 2 ^ 32 := by
  simp only [ofSigned, toSigned]
  split <;> omega

theorem toSigned_lt {v : Nat} (h : 2 ^ 31 ≤ v % 2 ^ 32 ∨ v % 2 ^ 32 < 11500) : toSigned 32 (v % 2 ^ 32) < 11500 := by
  simp only [toSigned]
  split <;> omega

/-- The readings of a die's sensors are held, one by one. -/
theorem get_readings (b a : Nat) (codes : List Nat) (t : Tab Nat) :
    let r := ((List.range' a codes.length).zip codes).foldl (fun t e => Tab.set 0 t (b + e.1) (e.2 % 2 ^ 32)) t
    (∀ j, j < a → Tab.get 0 r (b + j) = Tab.get 0 t (b + j)) ∧ ∀ i, i < codes.length → Tab.get 0 r (b + (a + i)) = codes.getD i 0 % 2 ^ 32 := by
  induction codes generalizing a t with
  | nil => exact ⟨fun j _ => rfl, fun i hi => absurd hi (Nat.not_lt_zero i)⟩
  | cons c codes ih =>
    obtain ⟨hbefore, hat⟩ := ih (a + 1) (Tab.set 0 t (b + a) (c % 2 ^ 32))
    simp only [List.length_cons, List.range'_succ, List.zip_cons_cons, List.foldl_cons]
    refine ⟨fun j hj => (hbefore j (by omega)).trans (Tab.get_set_other _ _ _ (by omega)), fun i hi => ?_⟩
    cases i with
    | zero => exact (hbefore a (by omega)).trans (Tab.get_set_self _ _ _ _)
    | succ i =>
      have h := hat i (by omega)
      rwa [Nat.add_right_comm, Nat.add_assoc a] at h

/-- A sample's readings, apart from what they lead to. -/
def Pkg.readings (s : Pkg) (d : Nat) (codes : List Nat) : Pkg :=
  s.onPow (fun w => { w with temps := ((List.range (sensorsOf d)).zip codes).foldl (fun t e => Tab.set 0 t (d * 64 + e.1) (e.2 % 2 ^ 32)) s.pow.temps })

theorem Pkg.get_temps_readings (s : Pkg) {d : Nat} {codes : List Nat} (h : codes.length = sensorsOf d) {i : Nat} (hi : i < sensorsOf d) :
    Tab.get 0 (s.readings d codes).pow.temps (d * 64 + i) = codes.getD i 0 % 2 ^ 32 := by
  have hread := (get_readings (d * 64) 0 codes s.pow.temps).2 i (by omega)
  rw [Nat.zero_add, ← List.range_eq_range', h] at hread
  exact hread

/-- The temperature is held for the dictionary, with the highest of the package, and ALERT_N follows it. -/
def Pkg.showTemp (s : Pkg) (d : Nat) (t : Int) : Pkg :=
  let k := s.setEnt 0x6200 (d + 1) (ofSigned 32 t)
  (k.setEnt 0x6000 0x12 (ofSigned 32 ((List.range 68).foldl (fun m j => max m (toSigned 32 (k.ent 0x6200 (j + 1)))) t))).heatAlert

theorem thermalSample_eq {s : Pkg} {d : Nat} {codes : List Nat} {t : Int} (h : (s.readings d codes).dieTemp d = some t) :
    thermalSample s d codes = if 11500 ≤ t then ((s.readings d codes).showTemp d t).tripNow 1 d else (s.readings d codes).showTemp d t := by
  unfold Pkg.readings at h
  simp only [thermalSample, h]
  rfl

theorem Pkg.showTemp_spec (s : Pkg) {d : Nat} (hd : d < 66) (t : Int) : (s.showTemp d t).fw = s.fw ∧ (s.showTemp d t).pow = s.pow
    ∧ (s.showTemp d t).ent 0x6200 (d + 1) = ofSigned 32 t := by
  have hput (k : Pkg) (v : Nat) : (k.putAlerts v).bare = k.bare := by
    simp only [Pkg.putAlerts, apply_ite Pkg.bare]
    exact ite_self _
  have hbare : (s.showTemp d t).bare = s.bare := hput _ _
  refine ⟨Pkg.keeps_of_bare Pkg.fw (fun _ => rfl) hbare, Pkg.keeps_of_bare Pkg.pow (fun _ => rfl) hbare, ?_⟩
  have hent (k : Pkg) (v : Nat) : (k.putAlerts v).ent 0x6200 (d + 1) = (k.setEnt 0x1130 6 v).ent 0x6200 (d + 1) := by
    simp only [Pkg.ent, Pkg.dict_putAlerts]
  unfold Pkg.showTemp Pkg.heatAlert
  rw [hent, Pkg.ent_setEnt_other _ _ (by simp only [dkey]; omega), Pkg.ent_setEnt_other _ _ (by simp only [dkey]; omega), Pkg.ent_setEnt_self]

/-- What the sensors of a die show, none of them excluded, and the highest of them. -/
theorem Pkg.dieTemp_readings {s : Pkg} {d : Nat} {codes : List Nat} (hlen : codes.length = sensorsOf d)
    (hgood : ∀ i, i < sensorsOf d → Tab.get 0 s.pow.badSensor (d * 64 + i) = 0) :
    ∃ t, (s.readings d codes).dieTemp d = some t ∧ (∀ c ∈ codes, toSigned 32 (c % 2 ^ 32) ≤ t) ∧ ∃ c ∈ codes, t = toSigned 32 (c % 2 ^ 32) := by
  obtain ⟨t, ht, hall, i, hi, hfrom⟩ := Pkg.dieTemp_spec (s := s.readings d codes) (d := d) hgood
  have hsensor (j : Nat) (hj : j < sensorsOf d) : (s.readings d codes).sensor d j = toSigned 32 (codes.getD j 0 % 2 ^ 32) :=
    congrArg (toSigned 32) (s.get_temps_readings hlen hj)
  refine ⟨t, ht, fun c hc => ?_, codes.getD i 0, ?_, hfrom.trans (hsensor i hi)⟩
  · obtain ⟨j, hj, rfl⟩ := List.mem_iff_getElem.1 hc
    have h := hall j (by omega)
    rwa [hsensor j (by omega), List.getD_eq_getElem?_getD, List.getElem?_eq_getElem hj, Option.getD_some] at h
  · rw [List.getD_eq_getElem?_getD, List.getElem?_eq_getElem (by omega), Option.getD_some]
    exact List.getElem_mem _

/-! Castling records and lost phases (13:R418 to R421, 15:R460). -/

/-- The package without its reports and its castling records. -/
def Pkg.unfiled (s : Pkg) : Pkg := { s.bare with fault := { s.fault with pendingMap := false, records := [] } }

theorem Pkg.keeps_of_unfiled {α : Type} (g : Pkg → α) (hg : ∀ s, g s.unfiled = g s) {s t : Pkg} (h : s.unfiled = t.unfiled) : g s = g t := by
  rw [← hg s, h, hg]

theorem Pkg.unfiled_of_bare {s t : Pkg} (h : s.bare = t.bare) : s.unfiled = t.unfiled := Pkg.keeps_of_bare Pkg.unfiled (fun _ => rfl) h

@[simp] theorem Pkg.raise_unfiled (s : Pkg) (code part : Nat) (items : List Nat) (raw : List Byte) : (s.raise code part items raw).unfiled = s.unfiled :=
  Pkg.unfiled_of_bare (s.bare_raise code part items raw)

@[simp] theorem Pkg.castlingRecord_unfiled (s : Pkg) (r : CRec) : (s.castlingRecord r).unfiled = s.unfiled := by
  have hbump (k : Pkg) (i j n : Nat) : (k.bump i j n).unfiled = k.unfiled := Pkg.unfiled_of_bare (k.bare_bump i j n)
  have hpeak (k : Pkg) (i j n : Nat) : (k.peak i j n).unfiled = k.unfiled := Pkg.unfiled_of_bare (k.bare_peak i j n)
  have hset (k : Pkg) (i j v : Nat) : (k.setEnt i j v).unfiled = k.unfiled := rfl
  have hrec (k : Pkg) (l : Tab (List Byte)) (b : Bool) : Pkg.unfiled { k with fault := { k.fault with pendingMap := b, records := l } } = k.unfiled := rfl
  simp only [Pkg.castlingRecord, apply_ite Pkg.unfiled, Pkg.raise_unfiled, hbump, hpeak, hset, ite_self]
  exact hrec s _ _

/-- A record counts for its class (13:R418). -/
theorem Pkg.ent_castlingRecord_cls (s : Pkg) {r : CRec} (hlow : 1 ≤ r.cls) (hhigh : r.cls ≤ 12) :
    (s.castlingRecord r).ent 0x3001 r.cls = s.ent 0x3001 r.cls + 1 := by
  have hraise (k : Pkg) (c p : Nat) (l : List Nat) (b : List Byte) : (k.raise c p l b).ent 0x3001 r.cls = k.ent 0x3001 r.cls :=
    k.ent_raise c p l b (by simp only [dkey]; omega) (by simp only [dkey]; omega)
  have hbump (k : Pkg) {j : Nat} (n : Nat) (hj : j < 8) : (k.bump 0x3000 j n).ent 0x3001 r.cls = k.ent 0x3001 r.cls :=
    k.ent_bump_other n (by simp only [dkey]; omega)
  have hpeak (k : Pkg) (v : Nat) : (k.peak 0x3000 5 v).ent 0x3001 r.cls = k.ent 0x3001 r.cls := by
    unfold Pkg.peak
    split
    · exact k.ent_setEnt_other v (by simp only [dkey]; omega)
    · rfl
  have hset (k : Pkg) (v : Nat) : (k.setEnt 0x3000 4 v).ent 0x3001 r.cls = k.ent 0x3001 r.cls := k.ent_setEnt_other v (by simp only [dkey]; omega)
  have hone : b2n (decide (1 ≤ r.cls) && decide (r.cls ≤ 12)) = 1 := by simp [hlow, hhigh, b2n]
  have hrec (k : Pkg) (x : FaultSt) : Pkg.ent { k with fault := x } 0x3001 r.cls = k.ent 0x3001 r.cls := rfl
  have hite (c : Prop) [Decidable c] (a b : Pkg) : (if c then a else b).ent 0x3001 r.cls = if c then a.ent 0x3001 r.cls else b.ent 0x3001 r.cls := by
    split <;> rfl
  simp only [Pkg.castlingRecord, hite, hraise, hbump _ _ (show 2 < 8 by omega), hbump _ _ (show 3 < 8 by omega), ite_self, hpeak, hset, hone, Pkg.ent_bump_self,
    hbump _ _ (show 1 < 8 by omega), hbump _ _ (show 7 < 8 by omega)]
  rfl

/-- A lost phase, reported (15:R460). -/
def Pkg.shedPhase (s : Pkg) (r : Nat) : Pkg :=
  let k := s.onPow (fun w => { w with phases := Tab.set 0 w.phases r (Tab.get 0 w.phases r + 1) })
  k.raise 0x0606 0xFF [r, k.pow.good r, k.pow.good r * 40]

theorem phaseLost_eq {s : Pkg} {r : Nat} (h : s.pow.good r ≠ 0) : phaseLost s r =
    let x : CRec := { cls := 11, unit := r, detected := s.tempo.now, bound := 1000, more := [0] }
    if s.groupOpen 11 r then (s.shedPhase r).castlingRecord { x with outcome := 2 }
    else (((s.shedPhase r).openGroup 11 r).castlingRecord x).sparesLow 11 r 0 := by
  have htempo : (s.shedPhase r).tempo = s.tempo := Pkg.keeps_raise Pkg.tempo (fun _ => rfl) _ _ _ _ _
  have hgroup : (s.shedPhase r).groupOpen 11 r = s.groupOpen 11 r := Pkg.keeps_raise (fun k => k.groupOpen 11 r) (fun _ => rfl) _ _ _ _ _
  have hgo : phaseLost s r = if (s.shedPhase r).groupOpen 11 r
      then (s.shedPhase r).castlingRecord { cls := 11, unit := r, detected := (s.shedPhase r).tempo.now, bound := 1000, more := [0], outcome := 2 }
      else (((s.shedPhase r).openGroup 11 r).castlingRecord { cls := 11, unit := r, detected := (s.shedPhase r).tempo.now, bound := 1000, more := [0] }).sparesLow 11 r 0 :=
    if_neg h
  rw [hgo, htempo, hgroup]

theorem Pkg.shedPhase_spec {s : Pkg} {r : Nat} (h : s.pow.good r ≠ 0) :
    (s.shedPhase r).pow.regLimit r + 40000 = s.pow.regLimit r ∧ (s.shedPhase r).fault = s.fault ∧ (s.shedPhase r).parts = s.parts
    ∧ (s.shedPhase r).ent 0x3001 11 = s.ent 0x3001 11 := by
  refine ⟨?_, Pkg.keeps_raise Pkg.fault (fun _ => rfl) _ _ _ _ _, Pkg.keeps_raise Pkg.parts (fun _ => rfl) _ _ _ _ _,
    Pkg.ent_raise _ _ _ _ _ (by simp only [dkey]; omega) (by simp only [dkey]; omega)⟩
  have hpow : (s.shedPhase r).pow = { s.pow with phases := Tab.set 0 s.pow.phases r (Tab.get 0 s.pow.phases r + 1) } :=
    Pkg.keeps_raise Pkg.pow (fun _ => rfl) _ _ _ _ _
  have hgood : regPhases r - Tab.get 0 s.pow.phases r ≠ 0 := h
  rw [hpow]
  simp only [Power.regLimit, Power.good, Tab.get_set_self]
  omega

theorem phaseLost_spec {s : Pkg} {r : Nat} (h : s.pow.good r ≠ 0) :
    ((phaseLost s r).pow.regLimit r + 40000 = s.pow.regLimit r ∧ (11, r) ∈ (phaseLost s r).fault.groups ∧ (phaseLost s r).parts = s.parts)
    ∧ ((11, r) ∉ s.fault.groups → Reports (phaseLost s r) 0x0205 0xFF [11, r, 0] ∧ (phaseLost s r).ent 0x3001 11 = s.ent 0x3001 11 + 1)
    ∧ ((11, r) ∈ s.fault.groups → Reports (phaseLost s r) 0x0203 0xFF [0]) := by
  obtain ⟨hlimit, hfault, hparts, hent⟩ := Pkg.shedPhase_spec h
  have hopen : s.groupOpen 11 r = true ↔ (11, r) ∈ s.fault.groups := List.contains_iff_mem
  have hview (k : Pkg) (x : CRec) : (k.castlingRecord x).pow = k.pow ∧ (k.castlingRecord x).fault.groups = k.fault.groups ∧ (k.castlingRecord x).parts = k.parts :=
    ⟨Pkg.keeps_of_unfiled Pkg.pow (fun _ => rfl) (k.castlingRecord_unfiled x), Pkg.keeps_of_unfiled (fun k => k.fault.groups) (fun _ => rfl) (k.castlingRecord_unfiled x),
      Pkg.keeps_of_unfiled Pkg.parts (fun _ => rfl) (k.castlingRecord_unfiled x)⟩
  by_cases hmem : (11, r) ∈ s.fault.groups
  · have hk : phaseLost s r = (s.shedPhase r).castlingRecord { cls := 11, unit := r, detected := s.tempo.now, bound := 1000, more := [0], outcome := 2 } :=
      (phaseLost_eq h).trans (if_pos (hopen.2 hmem))
    obtain ⟨hpow, hgroups, hparts'⟩ := hview (s.shedPhase r) { cls := 11, unit := r, detected := s.tempo.now, bound := 1000, more := [0], outcome := 2 }
    rw [hk, hpow, hgroups, hparts', hfault]
    exact ⟨⟨hlimit, hmem, hparts⟩, fun hno => absurd hmem hno, fun _ => Pkg.reports_castlingRecord (s.shedPhase r) rfl⟩
  · have hk : phaseLost s r = (((s.shedPhase r).openGroup 11 r).castlingRecord { cls := 11, unit := r, detected := s.tempo.now, bound := 1000, more := [0] }).raise 0x0205 0xFF [11, r, 0] :=
      (phaseLost_eq h).trans (if_neg fun hyes => hmem (hopen.1 hyes))
    obtain ⟨hpow, hgroups, hparts'⟩ := hview ((s.shedPhase r).openGroup 11 r) { cls := 11, unit := r, detected := s.tempo.now, bound := 1000, more := [0] }
    have hin : (11, r) ∈ ((s.shedPhase r).openGroup 11 r).fault.groups := by
      unfold Pkg.openGroup
      dsimp only
      split
      · next hyes => exact List.contains_iff_mem.1 hyes
      · exact List.mem_cons_self
    rw [hk, Pkg.keeps_raise Pkg.pow (fun _ => rfl), Pkg.keeps_raise Pkg.fault (fun _ => rfl), Pkg.keeps_raise Pkg.parts (fun _ => rfl), hpow, hgroups, hparts']
    refine ⟨⟨hlimit, hin, hparts⟩, fun _ => ⟨Pkg.reports_raise _ _ _ _ _, ?_⟩, fun hyes => absurd hyes hmem⟩
    rw [Pkg.ent_raise _ _ _ _ _ (by simp only [dkey]; omega) (by simp only [dkey]; omega)]
    refine (Pkg.ent_castlingRecord_cls _ (r := { cls := 11, unit := r, detected := s.tempo.now, bound := 1000, more := [0] }) (by simp) (by simp)).trans ?_
    exact congrArg (· + 1) hent

end Sys2Proof

namespace Sys2Proof.Machine

open Sys2Proof

/-- Settles O58: each row by what its function leaves; the reasons of throttling note and report beside it. -/
theorem powerAndHeat : Obligations.PowerAndHeat := by
  unfold Obligations.PowerAndHeat
  intro s hon w now tripped steep
  have htripped (k : Pkg) (cause d : Nat) : tripped (k.tripNow cause d) cause d := k.tripNow_spec cause d
  have hvin (mv ma aux : Nat) : Gives (.vinSample mv ma aux) s (vinSample s.pkg mv ma aux) := rfl
  refine ⟨fun mv ma aux hvaux => ?noVaux, fun mv ma aux hvaux hearly => ?early, fun mv ma aux hvaux hdue hslope hlow hhigh => ?good,
    fun mv ma aux hvaux hdue hslope hbad => ?bad, fun mas hearly => ?fastEarly, fun mas d hdue hd => ?fast, fun debt hearly => ?capEarly,
    fun debt hdue hslope hlow hhigh => ?cap, fun t ht => ?freq, fun hoff => ?brakeOn, fun hbrake => ?again, fun hbrake => ?release, fun hoff => ?noRelease,
    fun d i hd hi => ?droop, fun d codes hd hlen hgood hcool => ?cool, fun d codes hd hlen hgood hhot => ?trip, fun d t hd htemp => ?heat, fun r hr => ?phase⟩
  case noVaux =>
    have h := hvin mv ma aux
    rw [vinSample, if_pos (by simp [hvaux])] at h
    exact h
  case early =>
    have h := hvin mv ma aux
    rw [vinSample_of_early mv ma aux hvaux hon hearly] at h
    exact h
  case good =>
    have h := hvin mv ma aux
    have hfine : (decide (mv < 38000) || decide (62000 < mv)) = false := by simp; omega
    simp only [vinSample_eq mv ma aux hvaux hon hdue hslope, hfine, Bool.false_eq_true, if_false] at h
    exact h
  case bad =>
    have hbad' : (decide (mv < 38000) || decide (62000 < mv)) = true := by simpa using hbad
    have h := hvin mv ma aux
    simp only [vinSample_eq mv ma aux hvaux hon hdue hslope, hbad', if_true, Pkg.onPow] at h
    refine ⟨fun hnine => ?_, fun hfew => ?_⟩
    · have hten : s.pkg.pow.badVin + 1 = 10 := by
        have : s.pkg.pow.badVin = 9 := hnine
        omega
      rw [if_pos hten] at h
      exact ⟨_, h, htripped _ _ _⟩
    · have hten : ¬(s.pkg.pow.badVin + 1 = 10) := by
        have : s.pkg.pow.badVin ≠ 9 := hfew
        omega
      rw [if_neg hten] at h
      exact ⟨_, h, rfl, rfl, rfl⟩
  case fastEarly =>
    have h := gives_act (exec_fastLoopSample mas s) rfl hon
    rw [fastLoop, if_pos hearly] at h
    exact h
  case fast => exact ⟨_, gives_act (exec_fastLoopSample mas s) rfl hon, fastLoop_spec hdue mas hd⟩
  case capEarly =>
    have h := gives_act (exec_powerCapLoop debt s) rfl hon
    rw [capLoop, if_pos hearly] at h
    exact h
  case cap => exact ⟨_, gives_act (exec_powerCapLoop debt s) rfl hon, capLoop_spec debt hdue hslope hlow hhigh⟩
  case freq =>
    have h := gives_act (exec_frequencyStep t s) (decide_eq_true ht) hon
    intro fmax c goal
    refine ⟨fun hsame => ?_, fun hfmax hne hdue => ⟨_, h, freqStep_spec hfmax hne hdue⟩⟩
    rw [freqStep_of_same hsame] at h
    exact h
  case brakeOn => exact ⟨_, gives_act (exec_brakeAsserted s) rfl hon, brakeOn_spec hoff⟩
  case again =>
    have h := gives_act (exec_brakeAsserted s) rfl hon
    rw [Sys2Proof.brakeOn, if_pos hbrake] at h
    exact h
  case release =>
    have h := gives_act (exec_brakeReleased s) rfl hon
    rw [brakeOff, if_pos hbrake] at h
    exact h
  case noRelease =>
    have hno : ¬s.pkg.pow.brake = true := by
      have : s.pkg.pow.brake = false := hoff
      simp [this]
    have h := gives_act (exec_brakeReleased s) rfl hon
    rw [brakeOff, if_neg hno] at h
    exact h
  case droop =>
    have hu : (decide (d < dieMax) && decide (i < 8)) = true := by
      rw [decide_eq_true (show d < dieMax from hd), decide_eq_true hi, Bool.and_self]
    have hdetect := gives_act (exec_droopDetect d i s) hu hon
    have hrelease := gives_act (exec_droopRelease d i s) hu hon
    intro since
    refine ⟨fun hz => ?_, fun hz => ⟨_, hdetect, droopDetect_spec hd hz⟩, fun hnz => ?_, fun hnz => ⟨_, hrelease, droopRelease_spec hnz⟩⟩
    · rw [droopRelease] at hrelease
      simp only [since, w] at hz
      simp only [hz, if_true] at hrelease
      exact hrelease
    · rw [droopDetect] at hdetect
      simp only [since, w] at hnz
      simp only [hnz, ne_eq, not_false_eq_true, if_true] at hdetect
      exact hdetect
  case cool =>
    obtain ⟨t, ht, hall, c, hc, hfrom⟩ := Pkg.dieTemp_readings hlen hgood
    have hlow : ¬(11500 ≤ t) := Int.not_le.2 (hfrom ▸ toSigned_lt (hcool c hc))
    have h := gives_act (exec_thermalSample d codes s) (decide_eq_true (by omega)) hon
    rw [thermalSample_eq ht, if_neg hlow] at h
    obtain ⟨hfw, hpow, hent⟩ := (s.pkg.readings d codes).showTemp_spec hd t
    have hshown : ((s.pkg.readings d codes).showTemp d t).ent 0x6200 (d + 1) = c % 2 ^ 32 := by rw [hent, hfrom, ofSigned_toSigned]
    refine ⟨_, h, hfw, fun i hi => by rw [hpow]; exact s.pkg.get_temps_readings hlen hi, ⟨c, hc, hshown⟩, fun e he => ?_⟩
    rw [hshown, ← hfrom]
    exact hall e he
  case trip =>
    obtain ⟨t, ht, hall, -⟩ := Pkg.dieTemp_readings hlen hgood
    obtain ⟨c, hc, hlow, hhigh⟩ := hhot
    have hhot : 11500 ≤ t := by
      have h := hall c hc
      rw [toSigned_of_lt hhigh] at h
      omega
    have h := gives_act (exec_thermalSample d codes s) (decide_eq_true (by omega)) hon
    rw [thermalSample_eq ht, if_pos hhot] at h
    exact ⟨_, h, htripped _ _ _⟩
  case heat =>
    have h := gives_act (exec_thermalStep d s) (decide_eq_true hd) hon
    rw [thermalStep_eq htemp] at h
    intro heat at_
    refine ⟨fun hhot hdue => ?_, fun hhot hearly => ?_, fun hcool hnz hdue => ?_, fun hbelow hnear => ?_⟩
    · simp only [if_pos hhot, if_pos (show Tab.get 0 s.pkg.pow.stepAt d + 100000 ≤ s.pkg.tempo.local_ from hdue)] at h
      exact ⟨_, h, thermalStep_go d _ _ rfl⟩
    · simp only [if_pos hhot, if_neg (show ¬Tab.get 0 s.pkg.pow.stepAt d + 100000 ≤ s.pkg.tempo.local_ from Nat.not_le.2 hearly)] at h
      exact h
    · have hgo : (decide (t < s.pkg.throttleTemp - 200) && decide (Tab.get 0 s.pkg.pow.heat d ≠ 0) && decide (Tab.get 0 s.pkg.pow.stepAt d + 1000000 ≤ s.pkg.tempo.local_)) = true := by
        rw [decide_eq_true hcool, decide_eq_true (show Tab.get 0 s.pkg.pow.heat d ≠ 0 from hnz),
          decide_eq_true (show Tab.get 0 s.pkg.pow.stepAt d + 1000000 ≤ s.pkg.tempo.local_ from hdue), Bool.and_self, Bool.and_self]
      simp only [if_neg (show ¬s.pkg.throttleTemp ≤ t by omega), if_pos hgo] at h
      exact ⟨_, h, (thermalStep_go d _ _ rfl).1⟩
    · have hno : ¬(decide (t < s.pkg.throttleTemp - 200) && decide (Tab.get 0 s.pkg.pow.heat d ≠ 0) && decide (Tab.get 0 s.pkg.pow.stepAt d + 1000000 ≤ s.pkg.tempo.local_)) = true := by
        rw [decide_eq_false (Int.not_lt.2 hnear)]
        simp
      simp only [if_neg (show ¬s.pkg.throttleTemp ≤ t by omega), if_neg hno] at h
      exact h
  case phase =>
    have h := gives_act (exec_regulatorPhaseLost r s) (decide_eq_true hr) hon
    refine ⟨fun hz => ?_, fun hnz => ⟨_, h, (phaseLost_spec hnz).1⟩, fun hnz hnot => ⟨_, h, (phaseLost_spec hnz).2.1 hnot⟩,
      fun hnz hin => ⟨_, h, (phaseLost_spec hnz).2.2 hin⟩⟩
    rw [phaseLost, if_pos hz] at h
    exact h

end Sys2Proof.Machine
end

section
/-!
PROOF. Declared faults (13:R407, R409): a state in which a write of the faulted tile's ply outlives its declaration.
-/

namespace Sys2Proof.Machine

open Sys2Proof

/-- Tile 0 runs, and the list of store dies names one die twice, the second time with a write of tile 0 on its way: taking the tile's writes
filters the first entry alone. -/
def runningStaleWrite : State := { pkg := { staleWrite.pkg with tiles := [(0, { mode := .running })] } }

/-- The write of the faulted tile is still on its way. -/
theorem siteFail_runningStaleWrite : ∃ e ∈ (runningStaleWrite.pkg.siteFail 0 2).sdies, ∃ w ∈ e.2.arriving, w.src = 0 ∧ w.unit = 0 := by
  decide

/-- Refutes O50: where the table of store dies lists a die twice, a checker declares the site of tile 0 failed and a write of its ply stays on
its way. -/
theorem not_faultDeclared : ¬ Obligations.FaultDeclared := by
  unfold Obligations.FaultDeclared
  intro h
  obtain ⟨hsites, -⟩ := h runningStaleWrite 0 (by decide) rfl
  obtain ⟨hdeclared, -⟩ := hsites (.tileCoreChecker 0) 2 (by decide)
  obtain ⟨k, hk, -, -, -, hrunning, -⟩ := hdeclared (fun r hr => absurd hr List.not_mem_nil)
  obtain ⟨-, -, -, -, -, hgone⟩ := hrunning rfl
  have hchecker := gives_act (exec_tileCoreChecker 0 runningStaleWrite) rfl rfl
  rw [gives_unique hk hchecker] at hgone
  obtain ⟨e, he, w, hw, hmine⟩ := siteFail_runningStaleWrite
  exact hgone e he w hw hmine

end Sys2Proof.Machine
end

section
/-!
PROOF. The failure of a core (08:R247, 13:R413): a state in which a write-through of one of its harts outlives it.
-/

namespace Sys2Proof.Machine

open Sys2Proof

/-- Core 0 has failed, and the list of store dies names one die twice, the second time with a write-through of hart 0 on its way: taking the
core's writes filters the first entry alone. -/
def failedCoreStaleWrite : State :=
  { pkg := { cores := [(0, { failed := true })]
             sdies := [(1, { spares := 3 }), (1, { spares := 2, arriving := [{ src := 1, unit := 0, seq := 1, addr := 0, data := [1] }] })] } }

/-- The write-through of the failed core is still on its way. -/
theorem coreFailure_failedCoreStaleWrite : ∃ e ∈ (coreFailure failedCoreStaleWrite.pkg 0).sdies, ∃ w ∈ e.2.arriving, w.src = 1 ∧ w.unit / 8 = 0 := by
  decide

/-- Refutes O52: where the table of store dies lists a die twice, a spare core takes the place of core 0 and a write-through of its harts stays
on its way. -/
theorem not_otherFaults : ¬ Obligations.OtherFaults := by
  unfold Obligations.OtherFaults
  rintro ⟨h, -⟩
  obtain ⟨hcores, -⟩ := h failedCoreStaleWrite rfl
  obtain ⟨-, -, -, hspare, -⟩ := hcores 0 (by decide)
  obtain ⟨k, hk, -, -, -, hgone, -⟩ := hspare rfl (by decide)
  have hfailure := gives_act (exec_coreFailure 0 failedCoreStaleWrite) rfl rfl
  rw [gives_unique hk hfailure] at hgone
  obtain ⟨e, he, w, hw, hmine⟩ := coreFailure_failedCoreStaleWrite
  exact hgone e he w hw hmine

end Sys2Proof.Machine
end

section
/-!
PROOF. Alignment of a Lenpel port (10:R313, R314): the bytes that waited for their codewords before the port trained are dropped.
-/

namespace Sys2Proof.Machine

open Sys2Proof

/-- Port 0 aligns, with a byte that still waits for its codeword. -/
def aligningPort : State := { pkg := { lports := [(0, { st := .align, line := [1] })] } }

/-- Alignment begins the outbound lanes anew. -/
theorem line_alignDone_aligningPort : ((alignDone aligningPort.pkg 0 7).lport 0).line = [] := by decide

/-- Refutes O53: where a byte waits for its codeword as port 0 aligns, LENPEL_ALIGN_DONE drops it, and the stated package keeps it. -/
theorem not_lenpelPorts : ¬ Obligations.LenpelPorts := by
  unfold Obligations.LenpelPorts
  rintro ⟨h, -⟩
  obtain ⟨-, -, -, -, -, -, haligned, -⟩ := h aligningPort 0 (by decide) rfl
  have hstated := haligned 7 rfl
  have hdone := gives_act (exec_lenpelAlignDone 0 7 aligningPort) rfl rfl
  have hline := line_alignDone_aligningPort
  rw [← gives_unique hstated hdone, Pkg.lport_setLport] at hline
  exact absurd hline (by decide)

end Sys2Proof.Machine
end

section
/-!
PROOF. Bulk writes of the fabric (11:R352): a state in which a number that was applied stands beyond the window.
-/

namespace Sys2Proof.Machine

open Sys2Proof

/-- A WR_BULK of node 1 for job 1, of 64 zero bytes, as it comes in on port 0 under number 0. -/
def zeroBulk : RxPkt := { vc := 2, packet := Hdr.enc { op := opWRB, tc := 1, src := 1, job := 1 } ++ List.replicate 64 0 }

/-- The oldest number not applied, of node 1, is past 16 bits and stands among those applied. -/
def wideWindow : State :=
  { pkg := { parts := [(0, { st := .loading, dies := [0] })]
             dict := [(dkey 0x2000 5, 1)]
             net := { ports := [(0, { version := 2, rx := [zeroBulk] })], ctxs := [(1, { rx1 := 120000, rx1set := [120000] })] } } }

theorem header_zeroBulk : (Hdr.dec zeroBulk.packet).here = { op := opWRB, tc := 1, src := 1, job := 1 } := by decide

theorem jobCheck_zeroBulk : (wideWindow.pkg.received 0 zeroBulk []).jobCheck { op := opWRB, tc := 1, src := 1, job := 1 } 64 64 = (0, 0) := by decide

/-- The window slides to 54,465, and number 0, applied, lies beyond it. -/
theorem winCheck_bulkReq_wideWindow :
    winCheck ((bulkReq wideWindow.pkg 0).ctx 1).rx1 ((bulkReq wideWindow.pkg 0).ctx 1).rx1set 0 = 2 := by decide +kernel

/-- Refutes O55: from a window whose low end is past 16 bits, a bulk write is applied and its number then stands beyond the window. -/
theorem not_atnikTargets : ¬ Obligations.AtnikTargets := by
  unfold Obligations.AtnikTargets
  intro h
  have harrives : wideWindow.pkg.arrives 0 zeroBulk [] := ⟨by decide, rfl, by decide, by decide⟩
  obtain ⟨-, -, -, hbulk, -⟩ := h wideWindow 0 zeroBulk [] harrives
  obtain ⟨hnew, -⟩ := hbulk (by decide) (by decide) (by decide)
  obtain ⟨k, hk, -, happlied, -⟩ := hnew 0 (by decide) (by decide) (by decide) (by decide)
  have hrow := gives_act (exec_wrBulk 0 wideWindow) rfl rfl
  rw [gives_unique hk hrow, header_zeroBulk] at happlied
  exact absurd (happlied.symm.trans winCheck_bulkReq_wideWindow) (by decide)

end Sys2Proof.Machine
end

section
/-!
PROOF. Packets of collectives (11:R333, 12:R395): a state in which a packet of another kind stands first in a channel of its own.
-/

namespace Sys2Proof.Machine

open Sys2Proof

/-- A GRANT and a HDR_UP of node 1, each the first packet of its channel. -/
def grantPacket : RxPkt := { vc := 4, packet := Hdr.enc { op := opCOLL, tc := 2, src := 1, job := 1 } }
def hdrUpPacket : RxPkt := { vc := 5, packet := Hdr.enc { op := opCOLL, tc := 2, src := 1, job := 1, spec := 2 ^ 32 } }

def grantBesideHdrUp : State := { pkg := { net := { ports := [(0, { version := 2, rx := [grantPacket, hdrUpPacket] })] } } }

/-- HDR_UP takes the packet of its kind, though a GRANT came before it on another channel. -/
theorem rx_hdrUp_grantBesideHdrUp : ((hdrUp grantBesideHdrUp.pkg 0).port 0).rx = [grantPacket] := by decide +kernel

/-- Refutes O57: with a GRANT first among the packets of port 0 and a HDR_UP first in another channel, HDR_UP takes its packet. -/
theorem not_collectives : ¬ Obligations.Collectives := by
  unfold Obligations.Collectives
  rintro ⟨-, h, -⟩
  have harrives : grantBesideHdrUp.pkg.arrives 0 grantPacket [hdrUpPacket] := ⟨by decide, rfl, by decide, by decide⟩
  obtain ⟨-, hother, -⟩ := h grantBesideHdrUp 0 grantPacket [hdrUpPacket] harrives (by decide)
  have hsame : Gives (.hdrUp 0) grantBesideHdrUp grantBesideHdrUp.pkg := hother 1 (.hdrUp 0) (by decide) (by decide)
  have hrow := gives_act (exec_hdrUp 0 grantBesideHdrUp) rfl rfl
  have hrx := rx_hdrUp_grantBesideHdrUp
  rw [← gives_unique hsame hrow] at hrx
  exact absurd hrx (by decide)

end Sys2Proof.Machine
end

section
/-!
PROOF. A dictionary cycle (16:R483, R485): a state in which a renewal brings the end of the lease nearer.
-/

namespace Sys2Proof.Machine

open Sys2Proof

/-- Session 1 owns the package and asks to renew its lease; own.lease_ms holds 0, and the last renewal is noted in the future. -/
def zeroLease : State :=
  { pkg := { tempo := { local_ := 100000 }, dict := [(dkey 0x1100 3, 0)], fw := { dict := true, up := true }
             mgmt := { sessions := [{ id := 1 }], reqs := [{ session := 1, type := 4 }], owner := some ([], 0), renewed := 200000 } } }

/-- The renewed lease of no length has ended within the cycle. -/
theorem owner_dictionaryCycle_zeroLease : (dictionaryCycle zeroLease.pkg zeroLease.fmaxOf).mgmt.owner = none := by decide +kernel

/-- Refutes O59: where own.lease_ms holds 0, a RENEW of the owner in force ends its lease. -/
theorem not_parametersAndOwnership : ¬ Obligations.ParametersAndOwnership := by
  unfold Obligations.ParametersAndOwnership
  rintro ⟨⟨-, h, -⟩, -⟩
  obtain ⟨-, hdue⟩ := h zeroLease rfl rfl
  obtain ⟨-, hone⟩ := hdue (by decide) rfl rfl (.inr (by decide)) (by decide)
  obtain ⟨k, hk, -, -, -, -, -, -, hrenew, -⟩ := hone { session := 1, type := 4 } { id := 1 } rfl rfl rfl rfl
  have howner := (hrenew rfl (by decide)).1
  rw [gives_unique hk (gives_act (exec_dictionaryCycle zeroLease) rfl rfl), owner_dictionaryCycle_zeroLease] at howner
  exact absurd howner (by decide)

end Sys2Proof.Machine
end

section
/-!
PROOF. The cancel of a message (11:R361): a state in which it aborts a collective, whose record is written.
-/

namespace Sys2Proof.Machine

open Sys2Proof

/-- Message 1 holds a packet of collective 5 of partition 0 that no port has granted. -/
def cancelledCollective : State :=
  { pkg := { net := { nextMsg := 2, reqs := [{ id := 1, src := .coll 0 5, op := opCOLL, msg := 1 }] }
             colls := [{ part := 0, seq := 5, admitted := true }] } }

/-- The abort leaves its status, MEMBER_LOST, in the record. -/
theorem status_cancelledCollective : (cancelMsg cancelledCollective.pkg 1).dstore.read 8 = 4 := by decide +kernel

/-- Refutes O56: the cancel of a collective's packet aborts the collective and writes its record into the die store. -/
theorem not_atnikSources : ¬ Obligations.AtnikSources := by
  unfold Obligations.AtnikSources
  rintro ⟨-, h, -⟩
  obtain ⟨-, -, -, hcancel, -⟩ := h cancelledCollective rfl
  obtain ⟨k, hk, -, hsame, -⟩ := hcancel 1 (by decide) (by decide)
  have hstatus := status_cancelledCollective
  rw [← gives_unique hk (gives_act (exec_cancel 1 cancelledCollective) rfl rfl), hsame] at hstatus
  exact absurd hstatus (by decide)

end Sys2Proof.Machine
end

section
/-!
PROOF. The return window of an Atnik port (11:R364): a state in which its end is not the newest event.
-/

namespace Sys2Proof.Machine

open Sys2Proof

/-- Port 0 has been ABSENT beyond its return window, in a package that acts as root and is no candidate. -/
def expiredRoot : State :=
  { pkg := { net := { ports := [(0, { st := .absent, partner := some {} })] }
             tempo := { local_ := 10 ^ 12, role := .root 0 } } }

/-- As the port enters TRAIN the package gives up its role, and enters HOLDOVER (03:R76, R79). -/
theorem newest_expiredRoot : ((windowExpiry expiredRoot.pkg 0).log.head?.map Event.code) = some 0x0108 := by decide +kernel

/-- Refutes O54: the newest event at the end of a return window is TEMPO_HOLDOVER, where an acting root gives its role up. -/
theorem not_atnikLinks : ¬ Obligations.AtnikLinks := by
  unfold Obligations.AtnikLinks
  rintro ⟨h, -⟩
  obtain ⟨-, -, -, -, -, -, -, -, -, hexpiry, -⟩ := h expiredRoot 0 (by decide) rfl
  obtain ⟨k, hk, -, -, -, -, -, -, e, hhead, hcode, -⟩ := hexpiry {} rfl rfl (by decide +kernel) rfl rfl
  have hnewest := newest_expiredRoot
  rw [← gives_unique hk (gives_act (exec_returnWindowExpiry 0 expiredRoot) rfl rfl), hhead, Option.map_some, hcode] at hnewest
  exact absurd hnewest (by decide)

end Sys2Proof.Machine
end

section
/-!
PROOF. The restart of service firmware (17:R511): a state in which it takes another image.
-/

namespace Sys2Proof.Machine

open Sys2Proof

/-- Service firmware runs from an image that its slot does not hold any more. -/
def replacedService : State := { pkg := { fw := { up := true, service := [1] } } }

/-- Its restart takes the image of the slot. -/
theorem service_replacedService : (serviceDown replacedService.pkg).fw.service = [] := by decide +kernel

/-- Refutes O60: at a missed heartbeat service firmware is taken anew from its slot, which the stated package leaves out. -/
theorem not_firmwareAndSecurity : ¬ Obligations.FirmwareAndSecurity := by
  unfold Obligations.FirmwareAndSecurity
  rintro ⟨h, -⟩
  obtain ⟨-, -, hbeat, -⟩ := h replacedService rfl
  have hservice := service_replacedService
  rw [gives_unique (gives_act (exec_serviceHeartbeatTimeout replacedService) rfl rfl) (hbeat rfl)] at hservice
  exact absurd hservice (by decide)

end Sys2Proof.Machine
end

section
/-!
PROOF. Acknowledged invalidations (08:R252): a state in which the acknowledgement of a line that is not outstanding lets a collective go on.
-/

namespace Sys2Proof.Machine

open Sys2Proof

/-- Chunk 0 of a collective is done and stands to be flagged. -/
def doneChunk : State := { pkg := { colls := [{ admitted := true, chunks := [(0, { done := true })] }] } }

/-- The collective looks again, and adds 1 to its chunk word. -/
theorem chunkWord_doneChunk : ((doneChunk.pkg.invalidated 0).collFlagAll).dstore.read 0 = 1 := by decide +kernel

/-- Refutes O44: the acknowledgement of a line with no invalidation outstanding has every collective look again, and one of them flags a chunk. -/
theorem not_storeDies : ¬ Obligations.StoreDies := by
  unfold Obligations.StoreDies
  rintro ⟨-, -, h⟩
  obtain ⟨hsame, -⟩ := h doneChunk rfl
  have hword := chunkWord_doneChunk
  rw [gives_unique (gives_act (exec_scacheInvalidation 0 doneChunk) rfl rfl) (hsame 0 List.not_mem_nil)] at hword
  exact absurd hword (by decide)

end Sys2Proof.Machine
end

section
/-!
PROOF. Solver engines (07:R210 to R217, R227 to R229): batches, problems, repeated steps and the remap.
-/

namespace Sys2Proof

open Sys2Proof.Machine

/-! Batches and problems (07:R214 to R217). -/

theorem batchStart_of_none {s : Pkg} {e : Nat} (h : s.nextBatch e = none) : batchStart s e = s := by
  simp only [batchStart, h]

/-- The engine has taken a batch from its queue. -/
def Pkg.tookBatch (s : Pkg) (e : Nat) : Pkg := s.setEngine e { s.engine e with queue := (s.engine e).queue.drop 1 }

theorem batchStart_of_next {s : Pkg} {e : Nat} {r : SolveReq} (h : s.nextBatch e = some r) : batchStart s e =
    let k := s.tookBatch e
    let raw := s.dstore.readN r.hdr 128
    let x := solverHdr raw
    if !(x.doneOk (winOf r.tile)) then (k.bump (0x3800 + r.part) 4 1).fillQueues
    else if x.check r.count (winOf r.tile) ≠ 0 then
      (((k.bump (0x3800 + r.part) 4 1).batchResult e r (x.check r.count (winOf r.tile)) 0).batchDone e r x.done).fillQueues
    else (k.setEngine e { k.engine e with batches := (k.engine e).batches ++ [{ req := r, hdr := raw }] }).fillQueues := by
  unfold batchStart
  rw [h]
  rfl

theorem Pkg.engine_tookBatch (s : Pkg) (e : Nat) : (s.tookBatch e).engine e = { s.engine e with queue := (s.engine e).queue.drop 1 } := Pkg.engine_setEngine _ _ _

section
variable {s : Pkg} {e : Nat} {r : SolveReq} (h : s.nextBatch e = some r)
include h

theorem batchStart_unfinishable (hdone : (solverHdr (s.dstore.readN r.hdr 128)).doneOk (winOf r.tile) = false) :
    batchStart s e = ((s.tookBatch e).bump (0x3800 + r.part) 4 1).fillQueues := by
  rw [batchStart_of_next h]
  exact if_pos (by rw [hdone]; rfl)

theorem batchStart_refused (hdone : (solverHdr (s.dstore.readN r.hdr 128)).doneOk (winOf r.tile) = true)
    (hcheck : (solverHdr (s.dstore.readN r.hdr 128)).check r.count (winOf r.tile) ≠ 0) :
    batchStart s e = ((((s.tookBatch e).bump (0x3800 + r.part) 4 1).batchResult e r ((solverHdr (s.dstore.readN r.hdr 128)).check r.count (winOf r.tile)) 0).batchDone e r
      (solverHdr (s.dstore.readN r.hdr 128)).done).fillQueues := by
  rw [batchStart_of_next h]
  exact (if_neg (by rw [hdone]; exact Bool.false_ne_true)).trans (if_pos hcheck)

theorem batchStart_sound (hdone : (solverHdr (s.dstore.readN r.hdr 128)).doneOk (winOf r.tile) = true)
    (hcheck : (solverHdr (s.dstore.readN r.hdr 128)).check r.count (winOf r.tile) = 0) :
    batchStart s e = ((s.tookBatch e).setEngine e { s.engine e with
      queue := (s.engine e).queue.drop 1, batches := (s.engine e).batches ++ [{ req := r, hdr := s.dstore.readN r.hdr 128 }] }).fillQueues := by
  rw [batchStart_of_next h]
  refine (if_neg (by rw [hdone]; exact Bool.false_ne_true)).trans ((if_neg (not_not_intro hcheck)).trans ?_)
  rw [Pkg.engine_tookBatch]

end

/-- A problem takes its slots. -/
def Pkg.takeSlots (s : Pkg) (e : Nat) (b : Batch) : Pkg :=
  (s.setEngine e { s.engine e with
    probs := (s.engine e).probs ++ [{ stamp := b.req.stamp, idx := b.next, slots := (solverHdr b.hdr).slots, input := s.problemInput (solverHdr b.hdr) b.next }]
    batches := mapIf (fun (y : Batch) => y.req.stamp = b.req.stamp) (fun y => { y with next := y.next + 1 }) (s.engine e).batches }).countInput
    b.req.part (solverHdr b.hdr) b.next

theorem any_unloaded_of_all {l : List Prob} (h : l.all (·.loaded) = true) : l.any (fun p => !p.loaded) = false := by
  rw [List.any_eq_false]
  intro p hp
  simp [List.all_eq_true.1 h p hp]

theorem problemStart_of_batch {s : Pkg} {e : Nat} {b : Batch} (hloaded : (s.engine e).probs.all (·.loaded) = true)
    (hb : (s.engine e).batches.find? (fun b => decide (b.next < b.req.count)) = some b) :
    problemStart s e = if 32 < s.slotsUsed e + (solverHdr b.hdr).slots || !(s.engineUp e) then s else s.takeSlots e b := by
  unfold problemStart
  dsimp only
  rw [any_unloaded_of_all hloaded, if_neg Bool.false_ne_true, hb]
  rfl

/-- A problem that a remap has moved waits, or reads its input anew (07:R227, R229). -/
theorem problemStart_of_moved {s : Pkg} {e : Nat} {p : Prob} (hprobs : (s.engine e).probs = [p]) (hmoved : p.loaded = false) :
    problemStart s e = if decide (32 < s.slotsUsed e + p.slots) || !(s.engineUp e) then s else s.problemAgain e p := by
  have hreload : problemStart s e = s.reload e := by
    unfold problemStart
    dsimp only
    rw [if_pos (by simp [hprobs, hmoved])]
  rw [hreload, Pkg.reload, hprobs, List.foldl_cons, List.foldl_nil, hmoved, Bool.false_or]

theorem Pkg.problemAgain_of_unbatched {s : Pkg} {e : Nat} (h : (s.engine e).batches = []) (p : Prob) : s.problemAgain e p = s := by
  simp only [Pkg.problemAgain, h, List.find?_nil]

theorem problemStart_of_unbatched {s : Pkg} {e : Nat} (h : (s.engine e).batches = []) : problemStart s e = s := by
  have hkeep (l : List Prob) :
      l.foldl (fun k p => if p.loaded || decide (32 < k.slotsUsed e + p.slots) || !(k.engineUp e) then k else k.problemAgain e p) s = s := by
    induction l with
    | nil => rfl
    | cons p l ih => rw [List.foldl_cons, s.problemAgain_of_unbatched h, ite_self, ih]
  unfold problemStart
  dsimp only
  split
  · exact hkeep _
  · rw [h]
    rfl

theorem problemComplete_of_resident {s : Pkg} {e c place : Nat} {p : Prob} {b : Batch} (hup : s.engineUp e = true) (hp : (s.engine e).resident place = some p)
    (hb : (s.engine e).batches.find? (fun b => decide (b.req.stamp = p.stamp)) = some b) : problemComplete s e place c =
      let x := s.engine e
      let h := solverHdr b.hdr
      let out := h.base + p.idx * h.stride + h.outOff
      let r := match p.input with
        | some d => solverRun h d
        | none => (statusRec 1 {} 0 0 0 false false, {})
      let k := ((((((s.setEngine e { x with
          probs := x.probs.filter (fun q => !(p.same q)), batches := mapIf (fun (y : Batch) => y.req.stamp = b.req.stamp) (fun y => { y with completed := y.completed + 1 }) x.batches }).solverPut
          e b.req { addr := out, data := r.1 }).countWrite b.req.part (b.req.tile / 128) out r.1.length).bump (0x3800 + b.req.part) 2 1).bump
          (0x3800 + b.req.part) 3 h.cycles).bump (0x3800 + b.req.part) 7 r.2.tiny).bump (0x3800 + b.req.part) 0x0A c
      (if p.input.isNone then k.bump (0x3800 + b.req.part) 6 1 else k).remapDone e := by
  unfold problemComplete
  dsimp only
  rw [hup, if_pos rfl, hp]
  dsimp only
  rw [hb] <;> rfl

theorem Engine.resident_of_none {x : Engine} (h : x.probs = []) (place : Nat) : x.resident place = none := by
  rw [Engine.resident, h]
  rfl

theorem problemComplete_of_none {s : Pkg} {e place : Nat} (c : Nat) (h : (s.engine e).resident place = none) : problemComplete s e place c = s := by
  unfold problemComplete
  dsimp only
  rw [h, ite_self]

theorem batchComplete_of_some {s : Pkg} {e : Nat} {b : Batch} (h : (s.engine e).batches.find? (fun b => decide (b.completed = b.req.count)) = some b) :
    batchComplete s e = (((((s.setEngine e { s.engine e with batches := (s.engine e).batches.filter (fun y => y.req.stamp ≠ b.req.stamp) }).batchResult
      e b.req 0 b.completed).batchDone e b.req (solverHdr b.hdr).done).bump (0x3800 + b.req.part) 1 1).fillQueues) := by
  unfold batchComplete
  dsimp only
  rw [h]

theorem batchComplete_of_unbatched {s : Pkg} {e : Nat} (h : (s.engine e).batches = []) : batchComplete s e = s := by
  unfold batchComplete
  dsimp only
  rw [h]
  rfl

/-! Repeated steps and restarts (07:R228). -/

/-- The error of a repeated step, counted and noted. -/
def Pkg.stepNoted (s : Pkg) (e lane : Nat) (b : Batch) : Nat × Pkg := (s.bump (0x3800 + b.req.part) 8 1).noteError (0x3000000 + s.servedBy e * 64 + lane)

/-- A spare lane takes the place of one that erred twice. -/
def Pkg.laneSpared (s : Pkg) (e lane : Nat) (b : Batch) : Pkg :=
  let d := s.servedBy e
  let k := ((s.stepNoted e lane b).2.clearErrors (0x3000000 + d * 64 + lane)).setEngine d { s.engine d with lanes := (s.engine d).lanes + 1 }
  (k.castlingRecord { cls := 1, unit := b.req.tile, detected := k.tempo.now, parts := 2 ^ b.req.part, spares := 1 - (s.engine d).lanes, bound := 3120 }).tileEvent
    b.req.tile false

theorem stepRepeat_of_none {s : Pkg} {e place : Nat} (lane : Nat) (h : (s.engine e).resident place = none) : stepRepeat s e place lane = s := by
  unfold stepRepeat
  dsimp only
  rw [h]

section
variable {s : Pkg} {e place lane : Nat} {p : Prob} {b : Batch} (hp : (s.engine e).resident place = some p)
  (hb : (s.engine e).batches.find? (fun b => decide (b.req.stamp = p.stamp)) = some b)
include hp hb

theorem stepRepeat_of_first (hfirst : (s.stepNoted e lane b).1 < 2) : stepRepeat s e place lane = (s.stepNoted e lane b).2 := by
  unfold stepRepeat
  dsimp only
  rw [hp]
  dsimp only
  rw [hb]
  exact if_pos hfirst

theorem stepRepeat_of_second (hsecond : 2 ≤ (s.stepNoted e lane b).1) (hlanes : (s.engine (s.servedBy e)).lanes < 2) : stepRepeat s e place lane =
    if 1 - (s.engine (s.servedBy e)).lanes = 0 then (s.laneSpared e lane b).sparesLow 1 b.req.tile 0 else s.laneSpared e lane b := by
  unfold stepRepeat
  dsimp only
  rw [hp]
  dsimp only
  rw [hb]
  exact (if_neg (Nat.not_lt.2 hsecond)).trans (if_neg (Nat.not_le.2 hlanes))

theorem problemRestart_of_resident : problemRestart s e place = ((((s.setEngine e { s.engine e with
    probs := mapIf (Prob.same p) (fun q => { q with input := s.problemInput (solverHdr b.hdr) p.idx, loaded := true }) (s.engine e).probs }).countInput b.req.part
    (solverHdr b.hdr) p.idx).bump (0x3800 + b.req.part) 3 (solverHdr b.hdr).cycles).bump (0x3800 + b.req.part) 9 1) := by
  unfold problemRestart Pkg.problemAgain
  dsimp only
  rw [hp]
  dsimp only
  rw [hb]

end

theorem problemRestart_of_none {s : Pkg} {e place : Nat} (h : (s.engine e).resident place = none) : problemRestart s e place = s := by
  unfold problemRestart
  dsimp only
  rw [h]

/-- Every castling record counts (13:R418). -/
theorem Pkg.ent_castlingRecord_all (s : Pkg) (r : CRec) : (s.castlingRecord r).ent 0x3000 1 = s.ent 0x3000 1 + 1 := by
  have hraise (k : Pkg) (c p : Nat) (l : List Nat) (b : List Byte) : (k.raise c p l b).ent 0x3000 1 = k.ent 0x3000 1 :=
    k.ent_raise c p l b (by decide) (by decide)
  have hbump (k : Pkg) {j : Nat} (n : Nat) (hj : 1 < j) : (k.bump 0x3000 j n).ent 0x3000 1 = k.ent 0x3000 1 :=
    k.ent_bump_other n (by simp only [dkey]; omega)
  have hclass (k : Pkg) (n : Nat) : (k.bump 0x3001 r.cls n).ent 0x3000 1 = k.ent 0x3000 1 := k.ent_bump_other n (by simp only [dkey]; omega)
  have hset (k : Pkg) {j : Nat} (v : Nat) (hj : 1 < j) : (k.setEnt 0x3000 j v).ent 0x3000 1 = k.ent 0x3000 1 := k.ent_setEnt_other v (by simp only [dkey]; omega)
  have hpeak (k : Pkg) (v : Nat) : (k.peak 0x3000 5 v).ent 0x3000 1 = k.ent 0x3000 1 := by
    unfold Pkg.peak
    split
    · exact hset k v (by omega)
    · rfl
  have hite (c : Prop) [Decidable c] (a b : Pkg) : (if c then a else b).ent 0x3000 1 = if c then a.ent 0x3000 1 else b.ent 0x3000 1 := by
    split <;> rfl
  simp only [Pkg.castlingRecord, hite, hraise, hbump _ _ (show 1 < 2 by omega), hbump _ _ (show 1 < 3 by omega), ite_self, hpeak, hset _ _ (show 1 < 4 by omega), hclass,
    Pkg.ent_bump_self, hbump _ _ (show 1 < 7 by omega)]
  rfl

theorem Pkg.engine_castlingRecord (s : Pkg) (r : CRec) (d : Nat) : (s.castlingRecord r).engine d = s.engine d :=
  Pkg.keeps_of_unfiled (Pkg.engine · d) (fun _ => rfl) (s.castlingRecord_unfiled r)

theorem Pkg.engine_raise (s : Pkg) (code part : Nat) (items : List Nat) (d : Nat) : (s.raise code part items).engine d = s.engine d :=
  Pkg.keeps_raise (Pkg.engine · d) (fun _ => rfl) _ _ _ _ _

theorem Pkg.laneSpared_spec (s : Pkg) (e lane : Nat) (b : Batch) :
    (s.laneSpared e lane b).engine (s.servedBy e) = { s.engine (s.servedBy e) with lanes := (s.engine (s.servedBy e)).lanes + 1 }
    ∧ (s.laneSpared e lane b).ent 0x3000 1 = s.ent 0x3000 1 + 1 ∧ (s.laneSpared e lane b).ent 0x3001 1 = s.ent 0x3001 1 + 1 := by
  have htile (k : Pkg) {i j : Nat} (hi : i < 0x3100) (hj : j < 256) : (k.tileEvent b.req.tile false).ent i j = k.ent i j :=
    k.ent_setEnt_other _ (by simp only [dkey]; omega)
  have hcounted {i j : Nat} (hi : i < 0x3100) (hj : j < 256) : (s.stepNoted e lane b).2.ent i j = s.ent i j :=
    Pkg.ent_bump_other s _ (by simp only [dkey]; omega)
  refine ⟨?_, ?_, ?_⟩
  · exact (Pkg.engine_castlingRecord _ _ _).trans (Pkg.engine_setEngine _ _ _)
  · refine (htile _ (by omega) (by omega)).trans ((Pkg.ent_castlingRecord_all _ _).trans ?_)
    exact congrArg (· + 1) (hcounted (by omega) (by omega))
  · refine (htile (i := 0x3001) (j := 1) _ (by omega) (by omega)).trans ((Pkg.ent_castlingRecord_cls _ (r := ⟨1, _, _, _, _, _, _, _, _, _, _, _⟩) (show 1 ≤ 1 by decide) (show 1 ≤ 12 by decide)).trans ?_)
    exact congrArg (· + 1) (hcounted (i := 0x3001) (j := 1) (by omega) (by omega))

theorem Pkg.laneSpared_reported {s : Pkg} {e lane : Nat} {b : Batch} {k : Pkg} (hk : k = if 1 - (s.engine (s.servedBy e)).lanes = 0
      then (s.laneSpared e lane b).sparesLow 1 b.req.tile 0 else s.laneSpared e lane b) :
    k.engine (s.servedBy e) = { s.engine (s.servedBy e) with lanes := (s.engine (s.servedBy e)).lanes + 1 } ∧ k.ent 0x3000 1 = s.ent 0x3000 1 + 1
    ∧ k.ent 0x3001 1 = s.ent 0x3001 1 + 1 ∧ ((s.engine (s.servedBy e)).lanes = 1 → Reports k 0x0205 0xFF [1, b.req.tile, 0]) := by
  obtain ⟨hengine, hall, hclass⟩ := s.laneSpared_spec e lane b
  by_cases hlast : 1 - (s.engine (s.servedBy e)).lanes = 0
  · rw [if_pos hlast] at hk
    rw [hk, Pkg.sparesLow, Pkg.engine_raise, Pkg.ent_raise _ _ _ _ _ (by decide) (by decide), Pkg.ent_raise _ _ _ _ _ (by decide) (by decide)]
    exact ⟨hengine, hall, hclass, fun _ => Pkg.reports_raise _ _ _ _ _⟩
  · rw [if_neg hlast] at hk
    rw [hk]
    exact ⟨hengine, hall, hclass, fun h => absurd h (by omega)⟩

/-! The remap of a failed engine (07:R229). -/

theorem engineRemap_of_up {s : Pkg} {e : Nat} (h : s.engineUp e = true) : engineRemap s e = s := if_pos h

/-- Number `k` of a failed engine goes to datapath `sv`. -/
def Pkg.remapTo (sv die now : Nat) (s : Pkg) (k : Nat) : Pkg :=
  let y := s.setEngine k { s.engine k with
    mapped := sv + 1, probs := (s.engine k).probs.map (fun q => { q with loaded := false, again := true }), redo := !(s.engine k).probs.isEmpty, redoAt := now }
  if (s.engine k).probs.isEmpty then y.castlingRecord { cls := 3, unit := k, detected := now, bound := 3120, parts := maskOf (y.partsOfDie die) } else y.openGroup 3 k

/-- The fault map's change waits for its commit. -/
def Pkg.mapPending (s : Pkg) : Pkg := { s with fault := { s.fault with pendingMap := true } }

theorem engineRemap_of_down {s : Pkg} {e sv : Nat} (hdown : s.engineUp e = false) (hsv : sv = if s.servedBy e % 16 = 15 then s.servedBy e - 1 else s.servedBy e + 1)
    (hup : (s.engine sv).lanes ≤ 2) :
    engineRemap s e = ((s.sharers e).foldl Pkg.reload ((s.sharers e).foldl (Pkg.remapTo sv (e / 16) s.tempo.now) s.mapPending)).sparesLow 3 e 0 := by
  subst hsv
  exact (if_neg (by rw [hdown]; exact Bool.false_ne_true)).trans (if_neg (Nat.not_lt.2 hup))

/-- The number of an idle failed engine has gone to another's. -/
def Pkg.remapped (s : Pkg) (e sv : Nat) : Pkg := Pkg.remapTo sv (e / 16) s.tempo.now s.mapPending e

/-- An idle number's engine after it goes to datapath `sv`. -/
def Pkg.movedIdle (s : Pkg) (sv now k : Nat) : Pkg := s.setEngine k { s.engine k with mapped := sv + 1, probs := [], redo := false, redoAt := now }

theorem Pkg.remapTo_of_idle {s : Pkg} {k : Nat} (sv die now : Nat) (h : (s.engine k).probs = []) : Pkg.remapTo sv die now s k =
    (s.movedIdle sv now k).castlingRecord { cls := 3, unit := k, detected := now, bound := 3120, parts := maskOf ((s.movedIdle sv now k).partsOfDie die) } := by
  unfold Pkg.remapTo
  dsimp only
  rw [h, List.isEmpty_nil, if_pos rfl]
  rfl

theorem Pkg.remapped_spec {s : Pkg} {e : Nat} (sv : Nat) (hidle : (s.engine e).probs = []) :
    (s.remapped e sv).engine e = { s.engine e with mapped := sv + 1, probs := [], redo := false, redoAt := s.tempo.now }
    ∧ (∀ d, d ≠ e → (s.remapped e sv).engine d = s.engine d) ∧ (s.remapped e sv).ent 0x3001 3 = s.ent 0x3001 3 + 1 := by
  rw [Pkg.remapped, Pkg.remapTo_of_idle (s := s.mapPending) (k := e) sv (e / 16) s.tempo.now hidle]
  refine ⟨(Pkg.engine_castlingRecord _ _ _).trans (Pkg.engine_setEngine _ _ _), fun d hd => ?_, ?_⟩
  · exact (Pkg.engine_castlingRecord _ _ _).trans (Pkg.engine_setEngine_other _ _ hd)
  · exact Pkg.ent_castlingRecord_cls _ (r := ⟨3, _, _, _, _, _, _, _, _, _, _, _⟩) (show 1 ≤ 3 by decide) (show 3 ≤ 12 by decide)

theorem engineRemap_of_idle {s : Pkg} {e : Nat} (hfailed : 2 < (s.engine e).lanes) (hown : (s.engine e).mapped = 0) (halone : s.sharers e = [e])
    (hidle : (s.engine e).probs = []) (hsv : (s.engine (if e % 16 = 15 then e - 1 else e + 1)).lanes ≤ 2) :
    engineRemap s e = (s.remapped e (if e % 16 = 15 then e - 1 else e + 1)).sparesLow 3 e 0 := by
  have hserved : s.servedBy e = e := if_pos hown
  have hdown : s.engineUp e = false := by simp [Pkg.engineUp, hserved, hfailed]
  have hprobs : ((s.remapped e (if e % 16 = 15 then e - 1 else e + 1)).engine e).probs = [] := by
    rw [(Pkg.remapped_spec _ hidle).1]
  rw [engineRemap_of_down hdown (by rw [hserved]) hsv, halone, List.foldl_cons, List.foldl_nil, List.foldl_cons, List.foldl_nil, ← Pkg.remapped, Pkg.reload, hprobs,
    List.foldl_nil]

theorem engineRemap_spec {s : Pkg} {e : Nat} (hfailed : 2 < (s.engine e).lanes) (hown : (s.engine e).mapped = 0) (halone : s.sharers e = [e])
    (hidle : (s.engine e).probs = []) (hsv : (s.engine (if e % 16 = 15 then e - 1 else e + 1)).lanes ≤ 2) :
    let k := engineRemap s e
    k.engine e = { s.engine e with mapped := (if e % 16 = 15 then e - 1 else e + 1) + 1, probs := [], redo := false, redoAt := s.tempo.now }
    ∧ (∀ d, d ≠ e → k.engine d = s.engine d) ∧ k.ent 0x3001 3 = s.ent 0x3001 3 + 1 := by
  obtain ⟨hself, hothers, hclass⟩ := s.remapped_spec (if e % 16 = 15 then e - 1 else e + 1) hidle
  intro k
  have hk : k = (s.remapped e (if e % 16 = 15 then e - 1 else e + 1)).raise 0x0205 0xFF [3, e, 0] := engineRemap_of_idle hfailed hown halone hidle hsv
  refine ⟨?_, fun d hd => ?_, ?_⟩
  · rw [hk, Pkg.engine_raise, hself]
  · rw [hk, Pkg.engine_raise, hothers d hd]
  · rw [hk, Pkg.ent_raise _ _ _ _ _ (by decide) (by decide), hclass]

end Sys2Proof

namespace Sys2Proof.Machine

open Sys2Proof

/-- Settles O42: each command of an engine, by what it finds at its batches and problems. -/
theorem solverBatches : Obligations.SolverBatches := by
  unfold Obligations.SolverBatches
  intro s e he hon x
  have hu : decide (e < engineMax) = true := decide_eq_true he
  have hstart := gives_act (exec_solverBatchStart e s) hu hon
  have hproblem := gives_act (exec_solverProblemStart e s) hu hon
  have hcomplete (c place : Nat) := gives_act (exec_solverProblemComplete ⟨e, c, place⟩ s) hu hon
  have hbatch := gives_act (exec_solverBatchComplete e s) hu hon
  have hstep (place lane : Nat) := gives_act (exec_solverStepRepeat ⟨e, place⟩ lane s) hu hon
  have hrestart (place : Nat) := gives_act (exec_solverProblemRestart ⟨e, place⟩ s) hu hon
  have hremap := gives_act (exec_solverEngineRemap e s) hu hon
  refine ⟨fun hnone => ?_, fun r hr => ?_, fun b hb hroom hloaded hup => ?_, fun b hb hroom hloaded => ?_, fun p b c place hup hp hb => ?_, fun b hb => ?_,
    fun p b lane place hp hb => ?_, fun p hprobs hmoved => ⟨fun hroom => ?_, fun hroom hup => ?_⟩, fun hnone place => ?_, fun hnone => ⟨?_, ?_⟩, fun hup => ?_,
    fun hfailed hown halone hidle hsv => ⟨_, hremap, engineRemap_spec hfailed hown halone hidle hsv⟩⟩
  · rw [batchStart_of_none hnone] at hstart
    exact hstart
  · refine ⟨fun hdone => ?_, fun hdone hcheck => ?_, fun hdone hcheck => ?_⟩
    · rw [batchStart_unfinishable hr hdone] at hstart
      exact hstart
    · rw [batchStart_refused hr hdone hcheck] at hstart
      exact hstart
    · rw [batchStart_sound hr hdone hcheck] at hstart
      exact hstart
  · rw [problemStart_of_batch hloaded hb, if_neg (by simp [hup, Nat.not_lt.2 hroom])] at hproblem
    exact hproblem
  · rw [problemStart_of_batch hloaded hb, if_pos (by simp [hroom])] at hproblem
    exact hproblem
  · have h := hcomplete c place
    rw [problemComplete_of_resident hup hp hb] at h
    exact h
  · rw [batchComplete_of_some hb] at hbatch
    exact hbatch
  · refine ⟨fun hfirst => ?_, fun hsecond hlanes => ⟨_, hstep place lane, Pkg.laneSpared_reported (stepRepeat_of_second hp hb hsecond hlanes)⟩, ?_⟩
    · have h := hstep place lane
      rw [stepRepeat_of_first hp hb hfirst] at h
      exact h
    · have h := hrestart place
      rw [problemRestart_of_resident hp hb] at h
      exact h
  · rw [problemStart_of_moved hprobs hmoved, if_pos (by simp [hroom])] at hproblem
    exact hproblem
  · rw [problemStart_of_moved hprobs hmoved, if_neg (by simp [hup, Nat.not_lt.2 hroom])] at hproblem
    exact hproblem
  · have hresident := Engine.resident_of_none hnone place
    refine ⟨fun c => ?_, fun lane => ?_, ?_⟩
    · have h := hcomplete c place
      rw [problemComplete_of_none c hresident] at h
      exact h
    · have h := hstep place lane
      rw [stepRepeat_of_none lane hresident] at h
      exact h
    · have h := hrestart place
      rw [problemRestart_of_none hresident] at h
      exact h
  · rw [problemStart_of_unbatched hnone] at hproblem
    exact hproblem
  · rw [batchComplete_of_unbatched hnone] at hbatch
    exact hbatch
  · rw [engineRemap_of_up hup] at hremap
    exact hremap

end Sys2Proof.Machine
end

section
/-!
PROOF. The SBI services of a partition hart (17:R531).
-/

namespace Sys2Proof

open Sys2Proof.Machine

/-- A call of a listed function is its row's: the row's error and value end it, and the hint (08:R234, R235). -/
theorem Pkg.sbiRow_of_calls {s k : Pkg} {h eid fid : Nat} {fids : List Nat} (hcall : s.hCalls h eid fid k) (hfid : fid ∈ fids)
    (f : Pkg → HArch → Int × Nat × Pkg) :
    s.sbiRow h eid fids f = Pkg.endHint (Pkg.sbiEnds (f k (k.hart h).a).2.2 h (f k (k.hart h).a).1 (f k (k.hart h).a).2.1) h 0x73 (s.hart h) := by
  obtain ⟨hfetch, hpart, _, hpriv, heid, hf, hfresh⟩ := hcall
  have hsvc : s.svc h = false := decide_eq_false hpart
  have hmine : (isCall (s.hart h).a 0x73 && decide ((s.hart h).a.eid = eid) && fids.contains (s.hart h).a.fid) = true := by
    simp [isCall, hpriv, heid, hf, hfid]
  rw [Pkg.sbiRow, hsvc, if_neg Bool.false_ne_true, hartRow_of_fetches hfetch hmine, Pkg.sbi, Pkg.ownPly_of_fresh (.inl hfresh)]
  rfl

/-- The value of a function of the Base extension. -/
def baseValue (fid : Nat) (a : HArch) : Nat :=
  match fid with
  | 0 => Config.sbiSpecVersion
  | 1 => 0x5359
  | 2 => Config.sbiImplVersion
  | 3 => b2n (sbiRows.any (fun r => decide (r.1 = (a.xr 10).toNat % 2 ^ 32)))
  | 4 => 0
  | 5 => 0x64
  | _ => 1

/-- A call that no row lists is not supported. -/
theorem hartInstruction_of_unlisted {s k : Pkg} {h eid fid : Nat} (hcall : s.hCalls h eid fid k) (hunlisted : listedCall (s.hart h).a 0x73 = false) :
    hartInstruction s h = k.sbiEnds h (-2) 0 := by
  obtain ⟨⟨_, _, hruns, hsoft, hf⟩, hpart, _, hpriv, _, _, hfresh⟩ := hcall
  have hsvc : s.svc h = false := decide_eq_false hpart
  have hnone : s.irqDue h = none := Option.not_isSome_iff_eq_none.1 (by rw [← Pkg.softDue, hsoft]; exact Bool.false_ne_true)
  have hcalls : (isCall (s.hart h).a 0x73 && !(s.svc h)) = true := by simp [isCall, hpriv, hsvc]
  have hrow : (vendorOk 0x73 || (amoFn 0x73).isSome || (listedCall (s.hart h).a 0x73 && !(s.svc h))) = false := by
    rw [hunlisted, Bool.false_and]
    decide
  unfold hartInstruction
  rw [hruns, hnone, hf]
  dsimp only
  rw [if_neg (by decide), hrow, if_neg Bool.false_ne_true, hcalls, if_pos rfl, Pkg.sbi, Pkg.ownPly_of_fresh (.inl hfresh)]
  rfl

section
variable {s : Pkg} {h : Nat} {a : HArch}

/-- Every hart of the partition is named by the base −1. -/
theorem Pkg.sbiHarts_all (ha : a.xr 11 = BitVec.allOnes 64) : s.sbiHarts h a = some (s.hartsOfPart ((s.hart h).part - 1)) := by
  simp only [Pkg.sbiHarts, ha, BitVec.toNat_allOnes, if_true]

/-- A mask that names a hart of another partition names none. -/
theorem Pkg.sbiHarts_other {j : Nat} (hj : j < 64) (hbit : bit (a.xr 10).toNat j = true) (hbase : (a.xr 11).toNat < 2 ^ 32)
    (hother : (a.xr 11).toNat + j ∉ s.hartsOfPart ((s.hart h).part - 1)) : s.sbiHarts h a = none := by
  have hsome : (a.xr 11).toNat ≠ 2 ^ 64 - 1 := by omega
  simp only [Pkg.sbiHarts, if_neg hsome]
  refine if_neg fun hall => hother ?_
  exact List.contains_iff_mem.1 (List.all_eq_true.1 hall _ (List.mem_map.2 ⟨j, List.mem_filter.2 ⟨List.mem_range.2 hj, hbit⟩, rfl⟩))

end

end Sys2Proof

namespace Sys2Proof.Machine

open Sys2Proof

/-- Settles O49: each call is its row's, by the error and the value that the row gives. -/
theorem sbiServices : Obligations.SbiServices := by
  unfold Obligations.SbiServices
  intro s h fid k fin a own
  have hends {i : Instr} {g : Pkg → Pkg} {e n : Nat} {r : Pkg} (hexec : exec i s = act (decide (h < hartMax)) s g) (hcall : s.pkg.hCalls h e n k)
      (hr : g s.pkg = r) : Gives i s r := hr ▸ gives_act hexec (decide_eq_true hcall.1.1) hcall.1.2.1
  have hhart {e n : Nat} (hcall : s.pkg.hCalls h e n k) : (k.hart h).a.fid = n := by
    rw [(Pkg.hart_of_hFetches hcall.1).1]
    exact hcall.2.2.2.2.2.1
  refine ⟨fun hcall => ?base, fun hcall => ?timer, fun hcall => ⟨fun hall => ?ipi, fun j hj hbit hbase hother => ?ipiOther⟩, fun hfid hcall hall => ?fence,
    fun hcall => ⟨fun hown => ?status, fun hother => ?statusOther⟩, fun hcall hretain => ?suspend, fun hfid hcall => ?startStop, fun hcall => ?reset, fun hcall => ?fabric,
    fun hcall => ?rank, fun hcall => ?index, fun e hunlisted hcall => ?unlisted⟩
  case base =>
    have hbase {v : Nat} (hlow : fid ∈ [0, 1, 2, 3, 4, 5, 6]) (hv : baseValue fid (k.hart h).a = v) : Gives (.sbiBase h) s (fin (k.sbiEnds h 0 v)) := by
      refine hends (exec_sbiBase h s) hcall ((Pkg.sbiRow_of_calls hcall hlow _).trans ?_)
      rw [← hv, ← hhart hcall]
      rfl
    refine ⟨?_, ?_, ?_, ?_, ?_, ?_⟩ <;> intro hfid <;> subst hfid <;> exact hbase (by decide) rfl
  case timer => exact hends (exec_sbiSetTimer h s) hcall (Pkg.sbiRow_of_calls hcall (by decide) _)
  case ipi =>
    refine hends (exec_sbiSendIpi h s) hcall ((Pkg.sbiRow_of_calls hcall (by decide) _).trans ?_)
    rw [Pkg.sbiHarts_all hall]
  case ipiOther =>
    refine hends (exec_sbiSendIpi h s) hcall ((Pkg.sbiRow_of_calls hcall (by decide) _).trans ?_)
    rw [Pkg.sbiHarts_other hj hbit hbase hother]
    rfl
  case fence =>
    refine hends (exec_sbiRemoteFence h s) hcall ((Pkg.sbiRow_of_calls hcall (by simp; omega) _).trans ?_)
    rw [Pkg.sbiHarts_all hall]
    rfl
  case status =>
    refine hends (exec_sbiHartGetStatus h s) hcall ((Pkg.sbiRow_of_calls hcall (by decide) _).trans ?_)
    rw [if_pos (List.contains_iff_mem.2 hown)]
  case statusOther =>
    refine hends (exec_sbiHartGetStatus h s) hcall ((Pkg.sbiRow_of_calls hcall (by decide) _).trans ?_)
    rw [if_neg (fun hc => hother (List.contains_iff_mem.1 hc))]
    rfl
  case suspend =>
    refine hends (exec_sbiHartSuspend h s) hcall ((Pkg.sbiRow_of_calls hcall (by decide) _).trans ?_)
    have hzero : ((k.hart h).a.xr 10).toNat % 2 ^ 32 = 0 := hretain
    rw [if_pos (by rw [hzero]; rfl)]
  case startStop => exact hends (exec_sbiHartStartStop h s) hcall (Pkg.sbiRow_of_calls hcall (by simp; omega) _)
  case reset => exact hends (exec_sbiSystemReset h s) hcall (Pkg.sbiRow_of_calls hcall (by decide) _)
  case fabric => exact hends (exec_sbiFabricError h s) hcall (Pkg.sbiRow_of_calls hcall (by decide) _)
  case rank => exact hends (exec_sbiMemberRank h s) hcall (Pkg.sbiRow_of_calls hcall (by decide) _)
  case index => exact hends (exec_sbiHartIndex h s) hcall (Pkg.sbiRow_of_calls hcall (by decide) _)
  case unlisted => exact hends (exec_hartInstruction h s) hcall (hartInstruction_of_unlisted hcall hunlisted)

end Sys2Proof.Machine
end

section
/-!
PROOF. Vendor instructions (08:R239 to R241): sums of absolute differences, summaries and their handoff.
-/

namespace Sys2Proof

open Sys2Proof.Machine Sys2Proof.Rv

/-! Sums and summaries. -/

/-- A sum over a list, as the model folds it. -/
theorem foldl_add_eq_sum (f : Nat → Nat) (l : List Nat) (n : Nat) : l.foldl (fun t i => t + f i) n = n + (l.map f).sum := by
  induction l generalizing n with
  | nil => rfl
  | cons i l ih => rw [List.foldl_cons, ih, List.map_cons, List.sum_cons, Nat.add_assoc]

/-- An absolute difference of R239: element `j` of the group of rs2 and what stands against it. -/
def HArch.absDiff (a : HArch) (w : Nat) (sc : Bool) (j : Nat) : Nat :=
  let n := a.csr.sew
  let y : Nat := if sc then (a.xr (rs1 w)).toNat % 2 ^ n else a.ve n (rs1 w) j
  if bits w 31 26 = 0 then (((a.ve n (rs2 w) j : Nat) : Int) - (y : Nat)).natAbs else (toSigned n (a.ve n (rs2 w) j) - toSigned n y).natAbs

/-- The difference as integers of the signedness asked for. -/
theorem absDiff_eq {a : HArch} {w f6 : Nat} {sc : Bool} (hf6 : bits w 31 26 = f6) :
    let n := a.csr.sew
    let e (r j : Nat) : Int := if f6 = 0 then (a.ve n r j : Int) else toSigned n (a.ve n r j)
    let y (j : Nat) : Int := if sc then (if f6 = 0 then ((a.xr (rs1 w)).toNat % 2 ^ n : Nat) else toSigned n ((a.xr (rs1 w)).toNat % 2 ^ n)) else e (rs1 w) j
    a.absDiff w sc = fun j => (e (rs2 w) j - y j).natAbs := by
  intro n e y
  funext j
  subst hf6
  by_cases hunsigned : bits w 31 26 = 0
  · cases sc <;> simp [HArch.absDiff, e, y, n, hunsigned]
  · cases sc <;> simp [HArch.absDiff, e, y, n, hunsigned]

theorem sadOf_eq {a : HArch} {w : Nat} {sc : Bool} (hvs : a.csr.vs ≠ 0) (hvill : a.csr.vill = false) (hsew : a.csr.sew ≠ 64)
    (hgrp : grpOk (rs2 w) a.csr.lmul8 = true) (hother : sc = true ∨ grpOk (rs1 w) a.csr.lmul8 = true) :
    sadOf a w sc = some ({ a with csr := { a.csr with vstart := 0 } }.setX (rd w) (BitVec.ofNat 64 ((a.velems w).map (a.absDiff w sc)).sum)) := by
  have hgo : (decide (a.csr.vs = 0) || a.csr.vill || decide (a.csr.sew = 64) || !(grpOk (rs2 w) a.csr.lmul8) || !(sc || grpOk (rs1 w) a.csr.lmul8)) = false := by
    rcases hother with hsc | h1 <;> simp [*]
  have hsum := foldl_add_eq_sum (a.absDiff w sc) (a.velems w) 0
  rw [Nat.zero_add] at hsum
  rw [← hsum]
  exact if_neg (ne_true_of_eq_false hgo)

theorem sadOf_wide {a : HArch} (w : Nat) (sc : Bool) (hsew : a.csr.sew = 64) : sadOf a w sc = none := if_pos (by simp [hsew])

/-- With no element below vl nothing is summed. -/
theorem HArch.velems_of_vl_zero {a : HArch} (w : Nat) (h : a.csr.vl = 0) : a.velems w = [] := by
  simp [HArch.velems, h]

/-- The registers after YKV.SUMM (08:R240). -/
def HArch.summed (a : HArch) (w c : Nat) : HArch :=
  let is := a.velems w
  let m := summaryOf (is.map (fun i => decodeFmt c (a.ve a.csr.sew (rs2 w) i))) 0
  let arg := if bit m.arg 63 then is.getD (m.arg % 2 ^ 63) 0 + 2 ^ 63 else m.arg
  let b := a.setV (512 * rd w) ([m.maxabs, m.sum, m.cnta, m.cntb, arg].flatMap (natLe 8))
  { b with csr := { b.csr with vstart := 0 } }

theorem summOf_eq {a : HArch} {w c : Nat} (hfmt : vfmt a.csr.sew = some c) (hvs : a.csr.vs ≠ 0) (hvill : a.csr.vill = false)
    (hgrp : grpOk (rs2 w) a.csr.lmul8 = true) (hapart : overlap (rd w) 1 (rs2 w) (ceilDiv a.csr.lmul8 8) = false) (hmask : bit w 25 = true ∨ rd w ≠ 0) :
    summOf a w = some (a.summed w c) := by
  have hgo : (decide (a.csr.vs = 0) || a.csr.vill || !(grpOk (rs2 w) a.csr.lmul8) || overlap (rd w) 1 (rs2 w) (ceilDiv a.csr.lmul8 8) || (!(bit w 25) && decide (rd w = 0))) = false := by
    rcases hmask with hbit | hrd <;> simp [*]
  unfold summOf
  dsimp only
  rw [hfmt]
  exact if_neg (ne_true_of_eq_false hgo)

section
variable {s k : Pkg} {h w raw : Nat} (hfetch : s.hFetches h w 4 raw k) (hvendor : vendorOk w = true)
include hfetch hvendor

theorem sad_of_fetches {f6 : Nat} {sc : Bool} (hf3 : f3 w = if sc then 4 else 0) (hf6 : bits w 31 26 = f6) : sad s h f6 sc =
    Pkg.endHint (match sadOf (k.hart h).a w sc with
      | some b => k.retireWith h 4 (fun _ => b)
      | none => k.hartTrap h 2 w) h w (s.hart h) := by
  rw [sad, hartRow_of_fetches hfetch (by simp [hvendor, hf3, hf6])]
  rfl

theorem ykvSumm_of_fetches (hf3 : f3 w = 1) : ykvSumm s h =
    Pkg.endHint (match summOf (k.hart h).a w with
      | some b => k.retireWith h 4 (fun _ => b)
      | none => k.hartTrap h 2 w) h w (s.hart h) := by
  rw [ykvSumm, hartRow_of_fetches hfetch (by simp [hvendor, hf3])]
  rfl

end

/-! The handoff (08:R241). -/

/-- A sum in which one place has grown. -/
theorem sum_map_grown {f g : Nat → Nat} {a d : Nat} (hother : ∀ j, j ≠ a → g j = f j) (hself : g a = f a + d) (l : List Nat) :
    (l.map g).sum = (l.map f).sum + d * l.count a := by
  induction l with
  | nil => simp
  | cons i l ih =>
    rw [List.map_cons, List.map_cons, List.sum_cons, List.sum_cons, ih, List.count_cons]
    by_cases hi : i = a
    · subst hi
      simp only [hself, BEq.rfl, if_true, Nat.mul_succ]
      omega
    · rw [hother i hi, if_neg (by simpa using hi), Nat.add_zero]
      omega

/-- The units that a hart's lines take in its core's store buffer. -/
theorem Pkg.bufUnits_setHart (s : Pkg) (h : Nat) {x : Hart} {d : Nat} (hlines : x.lines.length = (s.hart h).lines.length + d) :
    (s.setHart h x).bufUnits (h / 8) = s.bufUnits (h / 8) + d := by
  have hcore : h / 8 * 8 + h % 8 = h := Nat.div_add_mod' h 8
  have hother (j : Nat) (hj : j ≠ h % 8) : ((s.setHart h x).hart (h / 8 * 8 + j)).lines.length = (s.hart (h / 8 * 8 + j)).lines.length := by
    rw [Pkg.hart_setHart_other _ _ (by omega)]
  have hself : ((s.setHart h x).hart (h / 8 * 8 + h % 8)).lines.length = (s.hart (h / 8 * 8 + h % 8)).lines.length + d := by
    rw [hcore, Pkg.hart_setHart, hlines]
  have hone : (List.range 8).count (h % 8) = 1 := (by decide : ∀ i < 8, (List.range 8).count i = 1) _ (Nat.mod_lt _ (by omega))
  rw [Pkg.bufUnits, Pkg.bufUnits, foldl_add_eq_sum, foldl_add_eq_sum, sum_map_grown hother hself, hone]
  omega

/-- Bytes put into the store buffer of a hart, and the line they lie in. -/
def Hart.held (x : Hart) (a : Nat) (d : List Byte) : Hart :=
  { x with buf := x.buf ++ [(a, d)], lines := x.lines ++ if x.lines.contains (a / 64) then [] else [a / 64] }

/-- A store within one line enters the buffer where a unit is free (08:R243). -/
theorem Pkg.storeLocal_one {s : Pkg} {h a n : Nat} {d : List Byte} (hpart : (s.hart h).part ≠ 0) (hn : 0 < n) (hline : a % 64 + n ≤ 64) (hd : d.length = n)
    (hroom : s.bufUnits (h / 8) + (if (s.hart h).lines.contains (a / 64) then 0 else 1) ≤ 1024) (done : Pkg → Pkg) :
    s.storeLocal h [(a, n)] d done = done (s.setHart h ((s.hart h).held a d)) := by
  have hsvc : s.svc h = false := decide_eq_false hpart
  have hlines : linesOf a n = [a / 64] := by
    have hlast : (a + n - 1) / 64 - a / 64 = 0 := by omega
    rw [linesOf, if_neg (by omega), hlast]
    simp [List.range_succ]
  have hwant : (([(a, n)].flatMap (fun p => linesOf p.1 p.2)).filter (fun l => !((s.hart h).lines.contains l))).eraseDups =
      if (s.hart h).lines.contains (a / 64) then [] else [a / 64] := by
    rw [List.flatMap_cons, List.flatMap_nil, List.append_nil, hlines, List.filter_cons]
    cases (s.hart h).lines.contains (a / 64) <;> rfl
  have hfits : ¬ 1024 < s.bufUnits (h / 8) + (if (s.hart h).lines.contains (a / 64) then ([] : List Nat) else [a / 64]).length := by
    rw [apply_ite List.length]
    exact Nat.not_lt.2 hroom
  unfold Pkg.storeLocal
  dsimp only
  rw [hsvc, if_neg Bool.false_ne_true, hwant, if_neg hfits, List.foldl_cons, List.foldl_nil, List.nil_append, List.take_of_length_le (Nat.le_of_eq hd)]
  rfl

theorem Hart.lines_held (x : Hart) (a : Nat) (d : List Byte) : (x.held a d).lines.length = x.lines.length + if x.lines.contains (a / 64) then 0 else 1 := by
  rw [Hart.held, List.length_append, apply_ite List.length]
  rfl

theorem Hart.line_mem_held (x : Hart) (a : Nat) (d : List Byte) : (x.held a d).lines.contains (a / 64) = true := by
  unfold Hart.held
  dsimp only
  split
  · rwa [List.append_nil]
  · simp

/-- The hart with the handoff record in its buffer, its word last. -/
def Hart.handoff (x : Hart) (m : Nat) (d e : List Byte) : Hart := ((x.held m d).held (m + 56) (List.replicate 8 0)).held (m + 48) e

theorem Hart.held_again {x : Hart} {a : Nat} (h : x.lines.contains (a / 64) = true) (d : List Byte) : x.held a d = { x with buf := x.buf ++ [(a, d)] } := by
  rw [Hart.held, h, if_pos rfl, List.append_nil]

/-- The three stores of the handoff take one unit at most. -/
theorem Pkg.storeLocal_handoff {s : Pkg} {h m : Nat} {d e : List Byte} (hpart : (s.hart h).part ≠ 0) (hm : m % 64 = 0) (hd : d.length = 48) (he : e.length = 8)
    (hroom : s.bufUnits (h / 8) + 1 ≤ 1024) (done : Pkg → Pkg) :
    s.storeLocal h [(m, 48)] d (fun s => s.storeLocal h [(m + 56, 8)] (List.replicate 8 0) (fun s => s.storeLocal h [(m + 48, 8)] e done)) =
      done (((s.setHart h ((s.hart h).held m d)).setHart h (((s.hart h).held m d).held (m + 56) (List.replicate 8 0))).setHart h ((s.hart h).handoff m d e)) := by
  have hline1 : (m + 56) / 64 = m / 64 := by omega
  have hline2 : (m + 48) / 64 = m / 64 := by omega
  have hmem : ((s.hart h).held m d).lines.contains (m / 64) = true := Hart.line_mem_held _ _ _
  have hmem' : (((s.hart h).held m d).held (m + 56) (List.replicate 8 0)).lines.contains (m / 64) = true := by
    rw [Hart.held_again (by rwa [hline1])]
    exact hmem
  have hunits : (s.setHart h ((s.hart h).held m d)).bufUnits (h / 8) ≤ 1024 := by
    rw [s.bufUnits_setHart h (Hart.lines_held _ _ _)]
    split <;> omega
  have hunits' : ((s.setHart h ((s.hart h).held m d)).setHart h (((s.hart h).held m d).held (m + 56) (List.replicate 8 0))).bufUnits (h / 8) ≤ 1024 := by
    rw [Pkg.bufUnits_setHart (d := 0) _ h (by rw [Pkg.hart_setHart, Hart.held_again (by rwa [hline1])]; rfl)]
    exact hunits
  rw [Pkg.storeLocal_one hpart (by omega) (by omega) hd (by split <;> omega)]
  rw [Pkg.storeLocal_one (by rw [Pkg.hart_setHart]; exact hpart) (by omega) (by omega) (by rfl) (by rw [Pkg.hart_setHart, hline1, hmem]; exact hunits)]
  rw [Pkg.storeLocal_one (by rw [Pkg.hart_setHart, Pkg.hart_setHart]; exact hpart) (by omega) (by omega) he
    (by rw [Pkg.hart_setHart, Pkg.hart_setHart, hline2, hmem']; exact hunits')]
  rw [Pkg.hart_setHart, Pkg.hart_setHart]
  rfl

theorem Pkg.hart_hretire (s : Pkg) (h len : Nat) : (s.hretire h len).hart h =
    { s.hart h with a := { (s.hart h).a with pc := (s.hart h).a.pc + BitVec.ofNat 64 len, csr := { (s.hart h).a.csr with instret := ((s.hart h).a.csr.instret + 1) % 2 ^ 64 } }
                    n := (s.hart h).n + 1 } := by
  have hbump (k : Pkg) (a b n : Nat) : (k.hbump h a b n).hart h = k.hart h := by
    unfold Pkg.hbump
    split
    · rfl
    · exact Pkg.keeps_of_bare (Pkg.hart · h) (fun _ => rfl) (k.bare_bump _ _ _)
  rw [Pkg.hretire, hbump, Pkg.hart_setHart]

theorem Pkg.hretire_dstore (s : Pkg) (h len : Nat) : (s.hretire h len).dstore = s.dstore := by
  rw [Pkg.hretire, Pkg.hbump_dstore, Pkg.setHart_dstore]

/-- A store of a partition hart that retires with a mark leaves its buffer, and no byte yet in the die store. -/
theorem Pkg.retired_marked {s : Pkg} {h : Nat} (hpart : (s.hart h).part ≠ 0) (hunmarked : (s.hart h).marked = false) (len w : Nat) (old : Hart) :
    let q := ((s.hretire h len).hmark h).endHint h w old
    (q.hart h).buf = (s.hart h).buf ∧ (q.hart h).marked = true ∧ (q.hart h).a.pc = (s.hart h).a.pc + BitVec.ofNat 64 len ∧ q.dstore = s.dstore := by
  have hno : (((s.hretire h len).hart h).marked || (s.hretire h len).svc h) = false := by
    simp [Pkg.svc, s.hart_hretire, hunmarked, hpart]
  obtain ⟨b, hhint⟩ := ((s.hretire h len).hmark h).hart_endHint h w old
  intro q
  have hq : q.hart h = { ((s.hretire h len).hmark h).hart h with ntl := b } := hhint
  rw [Pkg.hmark_of_unmarked _ hno, Pkg.hart_setHart, s.hart_hretire] at hq
  rw [hq]
  refine ⟨rfl, rfl, rfl, ?_⟩
  rw [Pkg.endHint_dstore, Pkg.hmark_dstore, Pkg.hretire_dstore]

section
variable {s k : Pkg} {h w raw : Nat} (hfetch : s.hFetches h w 4 raw k) (hvendor : vendorOk w = true) (hf3 : f3 w = 2) (hvs : (k.hart h).a.csr.vs ≠ 0)
include hfetch hvendor hf3 hvs

theorem ykvSumh_misaligned (hva : (k.hart h).a.maskPtr ((k.hart h).a.xr (rs1 w)).toNat % 64 ≠ 0) :
    ykvSumh s h = (k.hartTrap h 7 ((k.hart h).a.maskPtr ((k.hart h).a.xr (rs1 w)).toNat)).endHint h w (s.hart h) := by
  rw [ykvSumh, hartRow_of_fetches hfetch (by simp [hvendor, hf3])]
  dsimp only
  rw [if_neg hvs, if_pos hva]
  rfl

theorem ykvSumh_aligned {m : Nat} {t : Pkg} (hva : (k.hart h).a.maskPtr ((k.hart h).a.xr (rs1 w)).toNat % 64 = 0)
    (hres : k.resolve h 2 [((k.hart h).a.maskPtr ((k.hart h).a.xr (rs1 w)).toNat, 64)] = (.parts [(.mem m, 64)], t)) (hm : m % 64 = 0) (hfresh : (t.hart h).n = 0)
    (hpart : (t.hart h).part ≠ 0) (hroom : t.bufUnits (h / 8) + 1 ≤ 1024) : ∃ q : Pkg,
      q.hart h = (t.hart h).handoff m ((t.hart h).a.v.readN (512 * rd w) 40 ++ List.replicate 8 0) (natLe 8 ((t.hart h).a.xr (rs2 w)).toNat) ∧ q.dstore = t.dstore
      ∧ ykvSumh s h = ((q.hretire h 4).hmark h).endHint h w (s.hart h) := by
  have hhart : t.hart h = k.hart h := Pkg.hart_of_resolve hres
  have hread : ((k.hart h).a.v.readN (512 * rd w) 40 ++ List.replicate 8 0).length = 48 := by
    rw [List.length_append, Mem.length_readN, List.length_replicate]
  refine ⟨((t.setHart h ((t.hart h).held m ((k.hart h).a.v.readN (512 * rd w) 40 ++ List.replicate 8 0))).setHart h
    (((t.hart h).held m ((k.hart h).a.v.readN (512 * rd w) 40 ++ List.replicate 8 0)).held (m + 56) (List.replicate 8 0))).setHart h
      ((t.hart h).handoff m ((k.hart h).a.v.readN (512 * rd w) 40 ++ List.replicate 8 0) (natLe 8 ((k.hart h).a.xr (rs2 w)).toNat)), ?_, rfl, ?_⟩
  · rw [Pkg.hart_setHart, hhart]
  · have hsvc (q : Pkg) (hq : (q.hart h).part = (t.hart h).part) : q.svc h = false := decide_eq_false (by rwa [hq])
    rw [ykvSumh, hartRow_of_fetches hfetch (by simp [hvendor, hf3])]
    dsimp only
    rw [if_neg hvs, if_neg (not_not_intro hva), hres]
    dsimp only
    rw [Pkg.ownPly_of_fresh (.inl hfresh), Pkg.storeLocal_handoff hpart hm hread (length_natLe _ _) hroom, hsvc _ (by rw [Pkg.hart_setHart]; rfl), Bool.false_and]
    rfl

end

end Sys2Proof

namespace Sys2Proof.Machine

open Sys2Proof

/-- Settles O47: each vendor instruction, by the sums that its row folds and the record that it puts into the buffer. -/
theorem vendorInstructions : Obligations.VendorInstructions := by
  unfold Obligations.VendorInstructions
  intro s h w raw k hfetch hvendor x n va
  have hu : decide (h < hartMax) = true := decide_eq_true hfetch.1
  have hon : s.pkg.fw.off = 0 := hfetch.2.1
  refine ⟨fun f6 sc i hmem hf3 hf6 hvs hvill => ?_, fun c hf3 hfmt hvs hvill hgrp hapart hmask => ?_, fun hf3 hvs hva => ?_, fun m t hf3 hvs hva hres hm hfresh hunmarked hpart hroom => ?_⟩
  · have hgives : Gives i s (sad s.pkg h f6 sc) := by
      simp only [List.mem_cons, Prod.mk.injEq, List.not_mem_nil, or_false] at hmem
      obtain ⟨rfl, rfl, rfl⟩ | ⟨rfl, rfl, rfl⟩ | ⟨rfl, rfl, rfl⟩ | ⟨rfl, rfl, rfl⟩ := hmem
      · exact gives_act (exec_ykvSaduVv h s) hu hon
      · exact gives_act (exec_ykvSadsVv h s) hu hon
      · exact gives_act (exec_ykvSaduVx h s) hu hon
      · exact gives_act (exec_ykvSadsVx h s) hu hon
    rw [sad_of_fetches hfetch hvendor hf3 hf6] at hgives
    refine ⟨fun hwide => ?_, fun hsew hgrp hother => ⟨?_, fun hvl => ?_⟩⟩
    · rw [sadOf_wide w sc hwide] at hgives
      exact hgives
    · rw [sadOf_eq hvs hvill hsew hgrp hother, absDiff_eq hf6] at hgives
      exact hgives
    · rw [HArch.velems_of_vl_zero w hvl]
      rfl
  · have hgives := gives_act (exec_ykvSumm h s) hu hon
    rw [ykvSumm_of_fetches hfetch hvendor hf3, summOf_eq hfmt hvs hvill hgrp hapart hmask] at hgives
    exact hgives
  · have hgives := gives_act (exec_ykvSumh h s) hu hon
    rw [ykvSumh_misaligned hfetch hvendor hf3 hvs hva] at hgives
    exact hgives
  · have hgives := gives_act (exec_ykvSumh h s) hu hon
    obtain ⟨q, hq, hdstore, hrow⟩ := ykvSumh_aligned hfetch hvendor hf3 hvs hva hres hm hfresh hpart hroom
    rw [hrow] at hgives
    obtain ⟨hbuf, hmarked, hpc, hbytes⟩ := Pkg.retired_marked (s := q) (h := h) (by rw [hq]; exact hpart) (by rw [hq]; exact hunmarked) 4 w (s.pkg.hart h)
    refine ⟨_, hgives, ?_, hmarked, ?_, hbytes.trans hdstore⟩
    · rw [hbuf, hq]
      simp only [Hart.handoff, Hart.held, List.append_assoc, List.cons_append, List.nil_append]
    · rw [hpc, hq]
      rfl

end Sys2Proof.Machine
end

section
/-!
PROOF. Instructions of the partition harts (08:R233): a state in which SFENCE.VMA is illegal in S mode.
-/

namespace Sys2Proof.Machine

open Sys2Proof

/-- Hart 0 of a running partition stands in S mode at an SFENCE.VMA, which mstatus.TVM takes from S mode. -/
def trappedFence : State :=
  { pkg := { parts := [(0, { st := .running, dies := [0], harts := [0] })]
             harts := [(0, { part := 1, on := true, a := { csr := { mstatus := 2 ^ 20 } } })]
             dstore := [(0, 0x73), (3, 0x12)] } }

theorem fetches_trappedFence : trappedFence.pkg.hFetches 0 0x12000073 4 0x12000073 (trappedFence.pkg.hFetch 0).2 :=
  ⟨by decide, rfl, by decide +kernel, by decide +kernel, Prod.ext (by decide +kernel) rfl⟩

/-- It traps, and the pc does not go on. -/
theorem pc_trappedFence : ((hartInstruction trappedFence.pkg 0).hart 0).a.pc = 0 := by decide +kernel

theorem priv_trappedFence : (((trappedFence.pkg.hFetch 0).2.hart 0).a.pc, ((trappedFence.pkg.hFetch 0).2.hart 0).a.priv) = (0, 1) := by decide +kernel

/-- Refutes O45: in S mode with mstatus.TVM set SFENCE.VMA is an illegal instruction, and no mark follows. -/
theorem not_hartInstructions : ¬ Obligations.HartInstructions := by
  unfold Obligations.HartInstructions
  rintro ⟨⟨h, -⟩, -⟩
  obtain ⟨-, -, -, -, -, -, -, -, -, -, -, -, -, -, hsfence, -⟩ := h trappedFence 0 0x12000073 4 0x12000073 _ fetches_trappedFence
  obtain ⟨hpc, hpriv⟩ := Prod.mk.inj priv_trappedFence
  have hrow := hsfence (by decide) (by decide) (by decide) (by decide) hpriv
  have htrap := pc_trappedFence
  rw [gives_unique (gives_act (exec_hartInstruction 0 trappedFence) rfl rfl) hrow] at htrap
  obtain ⟨b, hhint⟩ := (((trappedFence.pkg.hFetch 0).2.hretire 0 4).hmark 0).hart_endHint 0 0x12000073 (trappedFence.pkg.hart 0)
  rw [hhint, (Pkg.hart_hmark _ _).1, Pkg.hart_hretire, hpc] at htrap
  exact absurd htrap (by decide)

end Sys2Proof.Machine
end

section
/-!
PROOF. Integer instructions of a tile core (04:R122, R131): a branch on a register whose load is in flight.
-/

namespace Sys2Proof.Machine

open Sys2Proof

/-- Tile 0 of a running partition stands at BEQ x1, x1, 0, a load of x1 still in flight. -/
def branchOnLoad : State :=
  { pkg := { parts := [(0, { st := .running, dies := [0], mem := { cap := 1 } })]
             tiles := [(0, { mode := .running, part := 1, isram := [(0, 0x63), (1, 0x80), (2, 0x10)]
                             core := { pc := 0x100000, ready := [(1, 4)] } })] } }

theorem fetches_branchOnLoad : branchOnLoad.pkg.fetches 0 0x108063 4 0x108063 :=
  ⟨by decide, rfl, by decide +kernel, by decide +kernel⟩

/-- The branch waits: no cycle of the tile passes. -/
theorem active_branchOnLoad : ((tileInstr branchOnLoad.pkg 0).tile 0).active = 0 := by decide +kernel

/-- Refutes O28: a branch on a register whose load is in flight waits for a region to open (04:R140), though no register waits for a
summary slot and no region is open. -/
theorem not_tileIntegerResults : ¬ Obligations.TileIntegerResults := by
  unfold Obligations.TileIntegerResults
  rintro ⟨h, -⟩
  obtain ⟨-, -, -, -, -, -, -, -, hbranch, -⟩ := h branchOnLoad 0 0x108063 4 0x108063 fetches_branchOnLoad ⟨rfl, rfl⟩
  have hrow := hbranch true (by decide) (by decide)
  have hwait := active_branchOnLoad
  rw [gives_unique (gives_act (exec_tileInstruction 0 branchOnLoad) rfl rfl) hrow, Pkg.tile_setTile] at hwait
  exact absurd hwait (Nat.succ_ne_zero _)

end Sys2Proof.Machine
end

section
/-!
PROOF. Speculation regions (04:R140, R142, R143): a region opens at a branch that must wait, and merges or is squashed as it resolves.
-/

namespace Sys2Proof

open Sys2Proof.Machine Rv

section
variable {s : Pkg} {n : Nat}

theorem regionOpen_of_lacks {w len raw : Nat} (h : s.fetches n w len raw) (hop : opc w = 0x63) (hf3 : (branchTaken (f3 w) 0 0).isSome = true)
    (hregion : (s.tile n).core.region = none) (hlacks : (s.tile n).lacks (rs1 w) = true ∨ (s.tile n).lacks (rs2 w) = true) :
    regionOpen s n = (s.cycles n 1).setTile n
      { s.tile n with
        core := { (s.tile n).core with
          region := some { x := (s.tile n).core.x, pend := (s.tile n).core.pend, ready := (s.tile n).core.ready, active := (s.tile n).active + 1
                           pc := (s.tile n).core.pc, instr := w, len := len, taken := (s.tile n).core.predict (s.tile n).core.pc
                           ticket := (s.tile n).ticket, slotTkt := (s.tile n).slotTkt }
          pc := (s.tile n).core.pc + (if (s.tile n).core.predict (s.tile n).core.pc then immB w else BitVec.ofNat 64 len) }
        active := (s.tile n).active + 1 } := by
  unfold regionOpen
  rw [Pkg.withInstr_of_fetches h]
  have hgo : (decide (opc w = 0x63) && (branchTaken (f3 w) 0 0).isSome && (s.tile n).core.region.isNone
      && ((s.tile n).lacks (rs1 w) || (s.tile n).lacks (rs2 w))) = true := by
    rw [hf3, hregion, decide_eq_true hop]
    simpa using hlacks
  dsimp only
  rw [if_pos hgo, apply_ite ((s.tile n).core.pc + ·)]

end

/-- What a region's matrix run has held back from the operand cache (04:R142). -/
def Tile.heldBack (t : Tile) : List (Nat × Byte) :=
  match t.mx.run with
  | some run => run.out
  | none => []

/-- The matrix engine once the region closes: its run belongs to the ply. -/
def Tile.mxConfirmed (t : Tile) : Matrix :=
  match t.mx.run with
  | some run => { t.mx with run := some { run with spec := false, out := [] } }
  | none => t.mx

/-- Whether the region has begun a matrix run. -/
def Tile.mxAhead (t : Tile) : Bool :=
  match t.mx.run with
  | some run => run.spec
  | none => false

/-- The value of a branch's register at its region's entry, and whether it is still to come (04:R140). -/
def Region.val (r : Region) (i : Nat) : Word := if i = 0 then 0 else Tab.get 0 r.x i

def Region.awaits (r : Region) (i : Nat) : Bool := i ≠ 0 && (Tab.find r.pend i).isSome

/-- The tile once its region closes as predicted. -/
def Tile.confirmed (t : Tile) (c : Core) : Tile :=
  { t.wrEach t.heldBack with core := { c with region := none }, mx := t.mxConfirmed, ops := t.ops.map (fun (o : EngOp) => { o with spec := false }) }

/-- The tile once its region is squashed: what was saved at the entry, the branch taken or not. -/
def Tile.squashed (t : Tile) (r : Region) (tk : Bool) : Tile :=
  { t with
    core := { t.core.train r.pc tk with
      region := none, x := r.x, pend := r.pend, ready := r.ready, pc := if tk then r.pc + immB r.instr else r.pc + BitVec.ofNat 64 r.len }
    active := r.active
    ops := t.ops.filter (fun o => !o.spec), ticket := r.ticket
    mx := if t.mxAhead then { t.mx with run := none, set0 := {}, set1 := {} } else t.mx
    slotTkt := r.slotTkt.filter (fun e => t.ops.any (fun o => decide (o.ticket + 1 = e.2))) }

/-- The matrix runs that a region has completed. -/
def Tile.runsDone (t : Tile) : Nat := (t.ops.filter (fun o => o.spec && o.kind == .mxrun && (o.staged.map (·.status)) == some 0)).length

/-- The region closes and what was staged merges in issue order (04:R142). -/
def Pkg.mergeRegion (s : Pkg) (n : Nat) (t : Tile) : Pkg :=
  (t.ops.filter (fun o => o.staged.isSome)).foldl (fun (k : Pkg) o => k.mergeOp n o) (s.setTile n t)

/-- The region is squashed (04:R143). -/
def Pkg.squashRegion (s : Pkg) (n : Nat) (r : Region) (tk : Bool) : Pkg :=
  let t := s.tile n
  (((s.uncycle n (t.active - r.active)).setTile n (t.squashed r tk)).bump (0x3020 + (t.part - 1)) 2 1).bump (0x3840 + (t.part - 1)) 6
    (b2n t.mxAhead + t.runsDone)

section
variable {s : Pkg} {n : Nat} {r : Region}

theorem branchResolve_of_none (h : (s.tile n).core.region = none) : branchResolve s n = s := by
  unfold branchResolve
  dsimp only
  rw [h]

theorem branchResolve_of_region (h : (s.tile n).core.region = some r) :
    branchResolve s n =
      if (s.tile n).mode != .running || r.awaits (rs1 r.instr) || r.awaits (rs2 r.instr) then s
      else
        let tk := (branchTaken (f3 r.instr) (r.val (rs1 r.instr)) (r.val (rs2 r.instr))).getD false
        if tk = r.taken then s.mergeRegion n ((s.tile n).confirmed ((s.tile n).core.train r.pc tk)) else s.squashRegion n r tk := by
  unfold branchResolve
  dsimp only
  rw [h]
  rfl

theorem branchResolve_of_awaits (h : (s.tile n).core.region = some r) (hwait : r.awaits (rs1 r.instr) = true ∨ r.awaits (rs2 r.instr) = true) :
    branchResolve s n = s := by
  rw [branchResolve_of_region h, if_pos]
  rcases hwait with hwait | hwait <;> simp [hwait]

variable (h : (s.tile n).core.region = some r) (hmode : (s.tile n).mode = .running) (h1 : r.awaits (rs1 r.instr) = false)
  (h2 : r.awaits (rs2 r.instr) = false) {tk : Bool}
  (htk : branchTaken (f3 r.instr) (r.val (rs1 r.instr)) (r.val (rs2 r.instr)) = some tk)
include h hmode h1 h2 htk

/-- Both registers have come and the branch goes as predicted. -/
theorem branchResolve_as_predicted (htaken : tk = r.taken) :
    branchResolve s n = s.mergeRegion n ((s.tile n).confirmed ((s.tile n).core.train r.pc tk)) := by
  rw [branchResolve_of_region h, h1, h2, htk, hmode]
  exact if_pos htaken

/-- Both registers have come and the branch goes the other way. -/
theorem branchResolve_against (htaken : tk ≠ r.taken) : branchResolve s n = s.squashRegion n r tk := by
  rw [branchResolve_of_region h, h1, h2, htk, hmode]
  exact if_neg htaken

end

section
variable {t : Tile} {run : MxRun}

theorem Tile.confirmed_of_idle (h : t.mx.run = none) (c : Core) :
    t.confirmed c = { t with core := { c with region := none }, ops := t.ops.map (fun (o : EngOp) => { o with spec := false }) } := by
  unfold Tile.confirmed Tile.heldBack Tile.mxConfirmed
  rw [h]
  rfl

theorem Tile.confirmed_of_run (h : t.mx.run = some run) (c : Core) :
    t.confirmed c = { t.wrEach run.out with
      core := { c with region := none }, mx := { t.mx with run := some { run with spec := false, out := [] } }
      ops := t.ops.map (fun (o : EngOp) => { o with spec := false }) } := by
  unfold Tile.confirmed Tile.heldBack Tile.mxConfirmed
  rw [h]

theorem Tile.mxAhead_of_run (h : t.mx.run = some run) : t.mxAhead = run.spec := by
  unfold Tile.mxAhead
  rw [h]

theorem Tile.not_mxAhead (h : ∀ run ∈ t.mx.run, run.spec = false) : t.mxAhead = false := by
  unfold Tile.mxAhead
  split
  · exact h _ ‹_›
  · rfl

theorem Region.awaits_iff (r : Region) (i : Nat) : r.awaits i = true ↔ i ≠ 0 ∧ (Tab.find r.pend i).isSome = true := by
  simp [Region.awaits]

end

/-- What a squash counts (04:R157, 05:R188). -/
theorem Pkg.ent_squashRegion (s : Pkg) (n : Nat) (r : Region) (tk : Bool) :
    (s.squashRegion n r tk).ent (0x3840 + ((s.tile n).part - 1)) 6
      = s.ent (0x3840 + ((s.tile n).part - 1)) 6 + (b2n (s.tile n).mxAhead + (s.tile n).runsDone) := by
  unfold Pkg.squashRegion
  dsimp only
  have hkey (j : Nat) (hj : j < 256) : dkey (0x3840 + ((s.tile n).part - 1)) 6 ≠ dkey (0x3020 + ((s.tile n).part - 1)) j := by
    unfold dkey
    omega
  rw [Pkg.ent_bump_self, Pkg.ent_bump_other _ _ (hkey 2 (by decide))]
  show (s.uncycle n _).ent _ _ + _ = _
  unfold Pkg.uncycle
  dsimp only
  split
  · rfl
  · rw [Pkg.ent_setEnt_other _ _ (hkey 6 (by decide))]

theorem Pkg.tile_squashRegion (s : Pkg) (n : Nat) (r : Region) (tk : Bool) : (s.squashRegion n r tk).tile n = (s.tile n).squashed r tk := by
  unfold Pkg.squashRegion
  dsimp only
  rw [Pkg.tile_bump, Pkg.tile_bump, Pkg.tile_setTile]

end Sys2Proof

namespace Sys2Proof.Machine

open Sys2Proof Rv

/-- Settles O31: a region opens at a branch that must wait; once its registers have come it merges or is squashed. -/
theorem speculation : Obligations.Speculation := by
  unfold Obligations.Speculation
  intro s n hn hon t c
  have hu : decide (n < tileMax) = true := decide_eq_true hn
  have hopen := gives_act (exec_speculationRegionOpen n s) hu hon
  have hresolve := gives_act (exec_branchResolve n s) hu hon
  have hstay (h : branchResolve s.pkg n = s.pkg) : exec (.branchResolve n) s = .next s := by
    rw [h] at hresolve
    exact hresolve
  refine ⟨fun w len raw hfetch hop hf3 hregion hlacks => ?_, fun hregion => hstay (branchResolve_of_none hregion), fun r tk hregion hmode => ?_⟩
  · rw [regionOpen_of_lacks hfetch hop hf3 hregion hlacks] at hopen
    exact hopen
  intro val squashed wait
  refine ⟨fun hwait => hstay (branchResolve_of_awaits hregion ?_), fun h1 h2 htk => ?_⟩
  · exact hwait.imp (r.awaits_iff _).2 (r.awaits_iff _).2
  have hcome {i : Nat} (hi : ¬ wait i) : r.awaits i = false := Bool.eq_false_iff.2 (mt (r.awaits_iff i).1 hi)
  refine ⟨fun htaken hidle => ?_, fun htaken run hrun => ?_, fun htaken hrun => ?_, fun htaken run hrun hspec => ?_⟩
  · rw [branchResolve_as_predicted hregion hmode (hcome h1) (hcome h2) htk htaken, Tile.confirmed_of_idle hidle] at hresolve
    exact hresolve
  · rw [branchResolve_as_predicted hregion hmode (hcome h1) (hcome h2) htk htaken, Tile.confirmed_of_run hrun] at hresolve
    exact hresolve
  · rw [branchResolve_against hregion hmode (hcome h1) (hcome h2) htk htaken] at hresolve
    unfold Pkg.squashRegion Tile.squashed at hresolve
    dsimp only at hresolve
    rw [Tile.not_mxAhead hrun, ← apply_ite (r.pc + ·)] at hresolve
    simp only [Bool.false_eq_true, if_false, b2n, Nat.zero_add] at hresolve
    exact hresolve
  · rw [branchResolve_against hregion hmode (hcome h1) (hcome h2) htk htaken] at hresolve
    have hahead : t.mxAhead = true := (Tile.mxAhead_of_run hrun).trans hspec
    refine ⟨_, hresolve, ?_⟩
    dsimp only
    rw [Pkg.tile_squashRegion, Pkg.ent_squashRegion]
    unfold Tile.squashed
    rw [hahead]
    exact ⟨rfl, rfl, rfl, rfl, rfl, rfl, (Nat.add_assoc _ _ _).symm⟩

end Sys2Proof.Machine
end

section
/-!
PROOF. CSRs and exceptions of the tile core (04:R122 to R128, R140): what a write changes, what an exception saves, and how a tile stops.
-/

namespace Sys2Proof

open Sys2Proof.Machine Rv

/-- A tile as it stops: its buffer and its operations discarded (04:R125, R144). -/
def Tile.killed (t : Tile) : Tile := { t with mode := .stopped, buf := [], units := 0, ops := [], waitw := none, core := { t.core with region := none } }

section
variable (s : Pkg) (n : Nat)

@[simp] theorem Pkg.tile_hold (p code u : Nat) : (s.hold p code).tile u = s.tile u := by
  unfold Pkg.hold
  dsimp only
  split <;> rfl

@[simp] theorem Pkg.ent_hold (p code i j : Nat) : (s.hold p code).ent i j = s.ent i j := by
  unfold Pkg.hold
  dsimp only
  split <;> rfl

theorem Pkg.log_hold (p code : Nat) : (s.hold p code).log = s.log := by
  unfold Pkg.hold
  dsimp only
  split <;> rfl

/-- A running member holds with the cause it is given (14:R429). -/
theorem Pkg.part_hold_of_running (code : Nat) {p : Nat} (h : (s.part p).st = .running) :
    ((s.hold p code).part p).st = .holding ∧ ((s.hold p code).part p).holdCause = code := by
  unfold Pkg.hold
  dsimp only
  rw [if_pos h, Pkg.part_setPart]
  exact ⟨rfl, rfl⟩

@[simp] theorem Pkg.part_bump (i j m p : Nat) : (s.bump i j m).part p = s.part p :=
  Pkg.keeps_of_bare (Pkg.part · p) (fun _ => rfl) (s.bare_bump i j m)

@[simp] theorem Pkg.tile_raise (code part : Nat) (items : List Nat) (u : Nat) : (s.raise code part items).tile u = s.tile u :=
  Pkg.keeps_of_bare (Pkg.tile · u) (fun _ => rfl) (s.bare_raise code part items [])

@[simp] theorem Pkg.part_raise (code part : Nat) (items : List Nat) (p : Nat) : (s.raise code part items).part p = s.part p :=
  Pkg.keeps_of_bare (Pkg.part · p) (fun _ => rfl) (s.bare_raise code part items [])

@[simp] theorem Pkg.tile_killTile (code : Nat) (more : List Nat) : (s.killTile n code more).tile n = (s.tile n).killed := by
  unfold Pkg.killTile
  dsimp only
  rw [Pkg.tile_hold, Pkg.tile_raise, Pkg.tile_setTile]
  rfl

theorem Pkg.reports_killTile (code : Nat) (more : List Nat) :
    Reports (s.killTile n code more) code ((s.tile n).part - 1) ([n, (s.tile n).seq] ++ more) := by
  unfold Pkg.killTile Reports
  dsimp only
  rw [Pkg.log_hold]
  exact Pkg.reports_raise _ _ _ _ _

theorem Pkg.part_killTile_of_running (code : Nat) (more : List Nat) (h : (s.part ((s.tile n).part - 1)).st = .running) :
    ((s.killTile n code more).part ((s.tile n).part - 1)).st = .holding
      ∧ ((s.killTile n code more).part ((s.tile n).part - 1)).holdCause = code := by
  refine Pkg.part_hold_of_running _ _ ?_
  rw [Pkg.part_raise]
  exact h

theorem Pkg.ent_killTile (code : Nat) (more : List Nat) {i j : Nat} (h1 : dkey i j ≠ dkey 0x1130 6) (h2 : dkey i j ≠ dkey 0x1140 1) :
    (s.killTile n code more).ent i j = s.ent i j := by
  unfold Pkg.killTile
  dsimp only
  rw [Pkg.ent_hold, Pkg.ent_raise _ _ _ _ _ h1 h2]
  rfl

end

section
variable {s : Pkg} {n : Nat}

theorem Pkg.trap_of_active (h : (s.tile n).core.trapActive = true) (c : Nat) (v : Word) (tw : Bool) :
    s.trap n c v tw = s.stopTile n (if tw then 4 else 1) := by
  unfold Pkg.trap
  exact if_pos h

theorem Pkg.trap_of_no_handler (h : (s.tile n).core.trapActive = false) (hm : (s.tile n).core.mtvec = 0) (c : Nat) (v : Word) (tw : Bool) :
    s.trap n c v tw = s.stopTile n 2 := by
  unfold Pkg.trap
  exact (if_neg (Bool.eq_false_iff.1 h)).trans (if_pos hm)

theorem Pkg.trap_of_handler (h : (s.tile n).core.trapActive = false) (hm : (s.tile n).core.mtvec ≠ 0) (c : Nat) (v : Word) (tw : Bool) :
    s.trap n c v tw =
      ((s.setTile n { s.tile n with
          active := (s.tile n).active + ((s.tile n).trapStall c + 1)
          core := { (s.tile n).core with mepc := (s.tile n).core.pc, mcause := BitVec.ofNat 64 c, mtval := v, trapActive := true
                                         pc := (s.tile n).core.mtvec } }).cycles n ((s.tile n).trapStall c + 1)).bump
        (0x3020 + ((s.tile n).part - 1)) 4 1 := by
  unfold Pkg.trap
  exact (if_neg (Bool.eq_false_iff.1 h)).trans (if_neg hm)

/-- With no region open an exception is taken at once (04:R140). -/
theorem Pkg.raiseExc_of_closed (h : (s.tile n).core.region = none) (c : Nat) (v : Word) (tw : Bool := false) :
    s.raiseExc n c v tw = s.trap n c v tw := by
  unfold Pkg.raiseExc
  rw [h]
  rfl

theorem Pkg.raiseExc_of_open (h : (s.tile n).core.region ≠ none) (c : Nat) (v : Word) (tw : Bool := false) : s.raiseExc n c v tw = s :=
  if_pos (Option.isSome_iff_ne_none.2 h)

/-- A refused access is counted and raises its exception (01:R44). -/
theorem Pkg.refuseLocal_of_closed (h : (s.tile n).core.region = none) (c : Nat) (v : Word) :
    s.refuseLocal n c v = (s.bump (0x3040 + ((s.tile n).part - 1)) 1 1).trap n c v := by
  unfold Pkg.refuseLocal
  rw [h]
  rfl

end

theorem Pkg.dstore_aside (s : Pkg) : s.aside.dstore = s.dstore := rfl

/-- A stopped tile with what it counts, reports and holds (04:R126). -/
theorem Pkg.stopTile_facts (s : Pkg) (n cause : Nat) :
    let t := s.tile n
    let k := s.stopTile n cause
    k.tile n = t.killed ∧ (∀ u, u ≠ n → k.tile u = s.tile u) ∧ k.dstore = s.dstore
      ∧ k.ent (0x3020 + (t.part - 1)) 5 = s.ent (0x3020 + (t.part - 1)) 5 + 1 ∧ Reports k 0x010F (t.part - 1) [n, t.seq, cause]
      ∧ ((s.part (t.part - 1)).st = .running → (k.part (t.part - 1)).st = .holding ∧ (k.part (t.part - 1)).holdCause = 0x010F) := by
  intro t k
  have hacted : TileActed n s k := (TileActed.refl n s).stopTile cause
  have htile (u : Nat) : (s.bump (0x3020 + (t.part - 1)) 5 1).tile u = s.tile u := s.tile_bump _ _ _ u
  refine ⟨?_, hacted.others, ?_, ?_, ?_, fun hrun => ?_⟩
  · exact (Pkg.tile_killTile _ _ _ _).trans (congrArg Tile.killed (htile n))
  · rw [← Pkg.dstore_aside k, hacted.aside, Pkg.dstore_aside]
  · refine (Pkg.ent_killTile _ _ _ _ ?_ ?_).trans (Pkg.ent_bump_self _ _ _ _) <;> unfold dkey <;> omega
  · have h := (s.bump (0x3020 + (t.part - 1)) 5 1).reports_killTile n 0x010F [cause]
    rw [htile] at h
    exact h
  · have h := (s.bump (0x3020 + (t.part - 1)) 5 1).part_killTile_of_running n 0x010F [cause]
    rw [htile, Pkg.part_bump] at h
    exact h hrun

theorem bit_toNat (v : Word) (i : Nat) : bit v.toNat i = v.getLsbD i := by
  unfold bit BitVec.getLsbD
  rw [Nat.testBit_eq_decide_div_mod_eq, Nat.shiftRight_eq_div_pow]

/-- The low bits of a word cut off: its multiple of 2 ^ k below. -/
theorem clear_low_bits (v : Word) (k : Nat) : BitVec.ofNat 64 (v.toNat / 2 ^ k * 2 ^ k) = v &&& ~~~(BitVec.ofNat 64 (2 ^ k - 1)) := by
  apply BitVec.eq_of_getLsbD_eq
  intro i hi
  rw [BitVec.getLsbD_and, BitVec.getLsbD_not, BitVec.getLsbD_ofNat, BitVec.getLsbD_ofNat, Nat.testBit_mul_two_pow, Nat.testBit_two_pow_sub_one,
    ← Nat.shiftRight_eq_div_pow, Nat.testBit_shiftRight]
  by_cases hik : i < k
  · simp [hik, hi, Nat.not_le.2 hik]
  · have hsum : k + (i - k) = i := by omega
    simp [hik, hi, hsum, BitVec.getLsbD, Nat.le_of_not_lt hik]

/-- A CSR write changes the fields that take one, and only them (04:R123, R146 to R148). -/
theorem Core.csrWrite_rows (c : Core) (v : Word) :
    c.csrWrite 0x300 v = c ∧ c.csrWrite 0x305 v = { c with mtvec := v &&& ~~~3#64 } ∧ c.csrWrite 0x340 v = { c with mscratch := v }
      ∧ c.csrWrite 0x341 v = { c with mepc := v &&& ~~~1#64 } ∧ c.csrWrite 0x342 v = { c with mcause := v } ∧ c.csrWrite 0x343 v = { c with mtval := v }
      ∧ c.csrWrite 0x7C1 v = { c with sibase := v }
      ∧ c.csrWrite 0x7C0 v = { c with flags := { inv := c.flags.inv && !v.getLsbD 0, ovf := c.flags.ovf && !v.getLsbD 1, unf := c.flags.unf && !v.getLsbD 2 } }
      ∧ c.csrWrite 0x7C6 v = { c with pbReject := c.pbReject && !v.getLsbD 8, moveErr := c.moveErr && !v.getLsbD 9 }
      ∧ ∀ a ∈ [0x7C2, 0x7C3, 0x7C4, 0x7C5, 0x7C7, 0x7C8], c.csrWrite a v = c := by
  have h4 : BitVec.ofNat 64 (v.toNat / 4 * 4) = v &&& ~~~3#64 := clear_low_bits v 2
  have h2 : BitVec.ofNat 64 (v.toNat / 2 * 2) = v &&& ~~~1#64 := clear_low_bits v 1
  simp only [← h4, ← h2, ← bit_toNat, List.forall_mem_cons, List.not_mem_nil, false_implies, implies_true, and_true]
  exact ⟨rfl, rfl, rfl, rfl, rfl, rfl, rfl, rfl, rfl, rfl, rfl, rfl, rfl, rfl, rfl⟩

section
variable {s : Pkg} {n w len raw old : Nat} (hf : s.fetches n w len raw) (hq : (s.tile n).quiet) (hopc : opc w = 0x73) (hf3 : f3 w % 4 ≠ 0)
include hf hq hopc hf3

theorem tileCsr_unimplemented (hread : (s.tile n).csrRead n (bits w 31 20) = none) : tileCsr s n = s.trap n 2 (BitVec.ofNat 64 raw) := by
  rw [tileCsr, Pkg.withInstr_of_fetches hf, if_pos (by simp [hopc, hf3])]
  dsimp only
  rw [hread]
  exact Pkg.raiseExc_of_closed hq.2 _ _

variable (hread : (s.tile n).csrRead n (bits w 31 20) = some old) (hwrites : csrWrites w = true)
include hread hwrites

theorem tileCsr_of_readOnlyAddress (hro : bits (bits w 31 20) 11 10 = 3) : tileCsr s n = s.trap n 2 (BitVec.ofNat 64 raw) := by
  rw [tileCsr, Pkg.withInstr_of_fetches hf, if_pos (by simp [hopc, hf3])]
  dsimp only
  rw [hread]
  dsimp only
  rw [if_pos (by simp [hwrites, hro])]
  exact Pkg.raiseExc_of_closed hq.2 _ _

theorem tileCsr_of_writes (hro : bits (bits w 31 20) 11 10 ≠ 3) (hslot : bits w 31 20 < 0xBC0 ∨ 0xBDF < bits w 31 20) :
    tileCsr s n = s.retire n
      ({ s.tile n with core := (s.tile n).core.csrWrite (bits w 31 20) (csrNew w (BitVec.ofNat 64 old) (csrSrc w ((s.tile n).xr (rs1 w)))) }.setX (rd w)
        (BitVec.ofNat 64 old)) len ((if f3 w < 4 then (s.tile n).useStall [rs1 w] else 0) + 1) := by
  have hnoSlot : (decide (0xBC0 ≤ bits w 31 20) && decide (bits w 31 20 ≤ 0xBDF)) = false := by
    simp only [Bool.and_eq_false_iff, decide_eq_false_iff_not]
    omega
  have hwaits := hq.waits_eq_false (rs1 w)
  rw [tileCsr, Pkg.withInstr_of_fetches hf]
  simp [hopc, hf3, hread, hwrites, hro, hwaits, hnoSlot, hq.2]

end

section
variable {s : Pkg} {n w len raw : Nat} (hf : s.fetches n w len raw)
include hf

theorem tileNop_of_fetches {p : Nat → Bool} (hp : p w = true) : tileNop s n p = s.retire n (s.tile n) len 1 := by
  rw [tileNop, Pkg.withInstr_of_fetches hf, if_pos hp]

theorem tileRaise_of_fetches {p : Nat → Bool} (hp : p w = true) (c : Nat) (tval : Nat → Word) : tileRaise s n p c tval = s.raiseExc n c (tval raw) := by
  rw [tileRaise, Pkg.withInstr_of_fetches hf, if_pos hp]

theorem tileMret_of_fetches (hw : w = 0x30200073) (hregion : (s.tile n).core.region = none) :
    tileMret s n = (s.cycles n 1).setTile n
      { s.tile n with core := { (s.tile n).core with pc := (s.tile n).core.mepc, trapActive := false }, active := (s.tile n).active + 1 } := by
  rw [tileMret, Pkg.withInstr_of_fetches hf, if_pos (by rw [hregion, decide_eq_true hw]; rfl)]

/-- The meaning of a fetched instruction that has no command of its own is a match on its opcode. -/
theorem tileInstr_load (hop : opc w = 0x03) : tileInstr s n = tileLoad s n w len := by
  obtain ⟨-, -, hruns, hfetch⟩ := hf
  simp [tileInstr, hruns, hfetch, hop]

theorem tileInstr_store (hop : opc w = 0x23) : tileInstr s n = tileStore s n w len := by
  obtain ⟨-, -, hruns, hfetch⟩ := hf
  simp [tileInstr, hruns, hfetch, hop]

theorem tileInstr_unknown (hop : opc w ∉ [0x37, 0x17, 0x6F, 0x67, 0x63, 0x03, 0x23, 0x13, 0x1B, 0x33, 0x3B, 0x0F, 0x73])
    (hissue : isEngineIssue w = false) : tileInstr s n = s.raiseExc n 2 (BitVec.ofNat 64 raw) := by
  obtain ⟨-, -, hruns, hfetch⟩ := hf
  simp only [List.mem_cons, List.not_mem_nil, or_false, not_or] at hop
  unfold tileInstr
  rw [hruns]
  dsimp only
  rw [hfetch]
  simp [hop, hissue]

end

theorem tileInstr_fault {s : Pkg} {n c : Nat} (hruns : s.runs n = true) (hfetch : (s.tile n).fetch = .fault c) (hregion : (s.tile n).core.region = none) :
    tileInstr s n = (if c = 1 then s.bump (0x3040 + ((s.tile n).part - 1)) 1 1 else s).trap n c
      ((s.tile n).core.pc + BitVec.ofNat 64 (s.tile n).faultAt) := by
  unfold tileInstr
  rw [hruns]
  dsimp only
  rw [hfetch]
  dsimp only
  rw [Bool.not_true, if_neg Bool.false_ne_true, Pkg.refuseLocal_of_closed hregion, Pkg.raiseExc_of_closed hregion]
  split <;> rfl

section
variable {s : Pkg} {n w len : Nat}

theorem Tile.waits_of_no_pend {t : Tile} (h : t.core.pend = []) (i : Nat) : t.waits i = false := by
  simp [Tile.waits, h, Tab.find]

variable (hpend : (s.tile n).core.pend = []) (hregion : (s.tile n).core.region = none)
include hpend hregion

/-- A load that is misaligned or outside what R40 permits (01:R44, 04:R122). -/
theorem tileLoad_faults (hf3 : f3 w ≠ 7) {x : Nat} (hx : x = ((s.tile n).xr (rs1 w) + immI w).toNat) :
    (x % accSize (f3 w) ≠ 0 → tileLoad s n w len = s.trap n 4 (BitVec.ofNat 64 x))
    ∧ (x % accSize (f3 w) = 0 → inLocal x (accSize (f3 w)) = false →
        tileLoad s n w len = (s.bump (0x3040 + ((s.tile n).part - 1)) 1 1).trap n 5 (BitVec.ofNat 64 x)) := by
  subst hx
  have hwaits := Tile.waits_of_no_pend hpend (rs1 w)
  unfold tileLoad
  dsimp only
  rw [hwaits, if_neg Bool.false_ne_true, if_neg hf3]
  refine ⟨fun hal => ?_, fun hal hloc => ?_⟩
  · rw [if_pos hal]
    exact Pkg.raiseExc_of_closed hregion _ _
  · rw [if_neg (not_not_intro hal), hloc]
    exact Pkg.refuseLocal_of_closed hregion _ _

/-- A store that is misaligned or outside what R40 permits. -/
theorem tileStore_faults (hf3 : f3 w < 4) {x : Nat} (hx : x = ((s.tile n).xr (rs1 w) + immS w).toNat) :
    (x % accSize (f3 w) ≠ 0 → tileStore s n w len = s.trap n 6 (BitVec.ofNat 64 x))
    ∧ (x % accSize (f3 w) = 0 → inLocal x (accSize (f3 w)) = false →
        tileStore s n w len = (s.bump (0x3040 + ((s.tile n).part - 1)) 1 1).trap n 7 (BitVec.ofNat 64 x)) := by
  subst hx
  have hwaits := Tile.waits_of_no_pend hpend
  unfold tileStore
  dsimp only
  rw [hwaits, hwaits, Bool.or_self, if_neg Bool.false_ne_true, if_neg (Nat.not_le.2 hf3)]
  refine ⟨fun hal => ?_, fun hal hloc => ?_⟩
  · rw [if_pos hal]
    exact Pkg.raiseExc_of_closed hregion _ _
  · rw [if_neg (not_not_intro hal), hloc]
    exact Pkg.refuseLocal_of_closed hregion _ _

end

end Sys2Proof

namespace Sys2Proof.Machine

open Sys2Proof Rv

/-- The commands of a tile on a package that is on. -/
theorem gives_onTile {i : Instr} {s : State} {n : Nat} {f : Pkg → Pkg} {k : Pkg} (hexec : exec i s = act (decide (n < tileMax)) s f) (hn : n < 6144)
    (hon : s.pkg.fw.off = 0) (hk : f s.pkg = k) : Gives i s k := by
  rw [← hk]
  exact gives_act hexec (decide_eq_true hn) hon

/-- CSR reads and writes of a quiet tile (04:R123). -/
theorem tileCsrs_access {s : State} {n w len raw : Nat} (hf : s.pkg.fetches n w len raw) (hq : (s.pkg.tile n).quiet) (hop : opc w = 0x73)
    (hf3 : f3 w % 4 ≠ 0) :
    let t := s.pkg.tile n
    let a := bits w 31 20
    let st := if f3 w < 4 then t.useStall [rs1 w] else 0
    (∀ old, t.csrRead n a = some old → (a < 0xBC0 ∨ 0xBDF < a) →
      (csrWrites w = false → Gives (.tileCsrAccess n) s (s.pkg.retire n (t.setX (rd w) (BitVec.ofNat 64 old)) len (st + 1)))
      ∧ (csrWrites w = true → bits a 11 10 ≠ 3 → Gives (.tileCsrAccess n) s
          (s.pkg.retire n ({ t with core := t.core.csrWrite a (csrNew w (BitVec.ofNat 64 old) (csrSrc w (t.xr (rs1 w)))) }.setX (rd w)
            (BitVec.ofNat 64 old)) len (st + 1)))
      ∧ (csrWrites w = true → bits a 11 10 = 3 → Gives (.tileCsrAccess n) s (s.pkg.trap n 2 (BitVec.ofNat 64 raw))))
    ∧ (t.csrRead n a = none → Gives (.tileCsrAccess n) s (s.pkg.trap n 2 (BitVec.ofNat 64 raw))) := by
  have hgives {k : Pkg} (hk : tileCsr s.pkg n = k) : Gives (.tileCsrAccess n) s k := gives_onTile (exec_tileCsrAccess n s) hf.1 hf.2.1 hk
  intro t a st
  refine ⟨fun old hread hslot => ⟨fun hw => ?_, fun hw hro => ?_, fun hw hro => ?_⟩, fun hread => ?_⟩
  · exact hgives (tileCsr_of_readOnly hf hq hop hf3 hread hslot hw)
  · exact hgives (tileCsr_of_writes hf hq hop hf3 hread hw hro hslot)
  · exact hgives (tileCsr_of_readOnlyAddress hf hq hop hf3 hread hw hro)
  · exact hgives (tileCsr_unimplemented hf hq hop hf3 hread)

/-- Settles O30: the CSR rows, the instructions that only advance or raise, and an exception taken or stopping the tile. -/
theorem tileCsrs : Obligations.TileCsrs := by
  unfold Obligations.TileCsrs
  refine ⟨⟨fun s n w len raw hf hq hop hf3 => tileCsrs_access hf hq hop hf3, Core.csrWrite_rows⟩, fun s n => ?_⟩
  intro t refused
  refine ⟨fun w len raw hf => ⟨fun hop hf3 => ?_, fun hw => ?_, fun hregion => ⟨fun hop hf3 => ?_, fun hw => ?_, fun hw => ?_, fun hw => ?_,
    fun hpend hop hf3 => ?_, fun hpend hop hf3 => ?_, fun hop hissue => ?_⟩, fun hregion hw => ?_⟩,
    fun c hn hon hruns hregion hfetch => ?_, fun c v tw hact hm => Pkg.trap_of_handler hact hm c v tw, fun c v hstop => ?_⟩
  · exact gives_onTile (exec_fence n s) hf.1 hf.2.1 (tileNop_of_fetches hf (by simp [hop, hf3]))
  · exact gives_onTile (exec_wfi n s) hf.1 hf.2.1 (tileNop_of_fetches hf (decide_eq_true hw))
  · exact gives_onTile (exec_fenceI n s) hf.1 hf.2.1 ((tileRaise_of_fetches hf (by simp [hop, hf3]) _ _).trans (Pkg.raiseExc_of_closed hregion _ _))
  · exact gives_onTile (exec_ecall n s) hf.1 hf.2.1 ((tileRaise_of_fetches hf (decide_eq_true hw) _ _).trans (Pkg.raiseExc_of_closed hregion _ _))
  · exact gives_onTile (exec_ebreak n s) hf.1 hf.2.1 ((tileRaise_of_fetches hf (decide_eq_true hw) _ _).trans (Pkg.raiseExc_of_closed hregion _ _))
  · exact gives_onTile (exec_mret n s) hf.1 hf.2.1 (tileMret_of_fetches hf hw hregion)
  · have hfault := tileLoad_faults hpend hregion (len := len) hf3 rfl
    have hgives {k : Pkg} (hk : tileLoad s.pkg n w len = k) : Gives (.tileInstruction n) s k :=
      gives_onTile (exec_tileInstruction n s) hf.1 hf.2.1 ((tileInstr_load hf hop).trans hk)
    exact ⟨fun hal => hgives (hfault.1 hal), fun hal hloc => hgives (hfault.2 hal hloc)⟩
  · have hfault := tileStore_faults hpend hregion (len := len) hf3 rfl
    have hgives {k : Pkg} (hk : tileStore s.pkg n w len = k) : Gives (.tileInstruction n) s k :=
      gives_onTile (exec_tileInstruction n s) hf.1 hf.2.1 ((tileInstr_store hf hop).trans hk)
    exact ⟨fun hal => hgives (hfault.1 hal), fun hal hloc => hgives (hfault.2 hal hloc)⟩
  · exact gives_onTile (exec_tileInstruction n s) hf.1 hf.2.1 ((tileInstr_unknown hf hop hissue).trans (Pkg.raiseExc_of_closed hregion _ _))
  · exact gives_onTile (exec_ecall n s) hf.1 hf.2.1 ((tileRaise_of_fetches hf (decide_eq_true hw) _ _).trans (Pkg.raiseExc_of_open hregion _ _))
  · exact gives_onTile (exec_tileInstruction n s) hn hon (tileInstr_fault hruns hfetch hregion)
  · intro k
    have hk : k = s.pkg.stopTile n (if t.core.trapActive then 1 else 2) := by
      rcases Bool.eq_false_or_eq_true t.core.trapActive with hact | hact
      · rw [hact]
        exact Pkg.trap_of_active hact c v false
      · rw [hact]
        exact Pkg.trap_of_no_handler hact (hstop.resolve_left (by rw [hact]; exact Bool.false_ne_true)) c v false
    rw [hk]
    exact s.pkg.stopTile_facts n _

end Sys2Proof.Machine
end

section
/-!
PROOF. Engine moves (04:R133 to R137): a move into the operand cache of a line that gives no data.
-/

namespace Sys2Proof

open Sys2Proof.Machine

/-- Bytes written one by one from an address of the operand cache upward. -/
theorem Tile.wrEach_ascending (t : Tile) (a : Nat) (bs : List Byte) (h : a + bs.length ≤ 0x80000) :
    t.wrEach (((List.range bs.length).zip bs).map (fun x => (a + x.1, x.2))) = { t with ocache := t.ocache.writeN a bs } := by
  induction bs generalizing t a with
  | nil => rfl
  | cons b bs ih =>
    rw [List.length_cons] at h
    have hfirst : t.wr a [b] = { t with ocache := t.ocache.write a b } := if_pos (by omega)
    have hshift : (fun x : Nat × Byte => (a + x.1, x.2)) ∘ Prod.map Nat.succ id = fun x => (a + 1 + x.1, x.2) :=
      funext fun x => Prod.ext (by simp only [Function.comp, Prod.map]; omega) rfl
    rw [List.length_cons, List.range_succ_eq_map, List.zip_cons_cons, List.zip_map_left, List.map_cons, List.map_map, hshift]
    show (t.wr a [b]).wrEach _ = _
    rw [hfirst, ih _ _ (by omega)]
    rfl

@[simp] theorem Tile.endTicket_ocache (t : Tile) (k status detail : Nat) : (t.endTicket k status detail).ocache = t.ocache := by
  unfold Tile.endTicket
  dsimp only
  split <;> rfl

/-- The results of an operation outside a region: its tile, once its ticket has ended (04:R142). -/
theorem Pkg.tile_mergeOp (s : Pkg) (n : Nat) {o : EngOp} {g : Staged} (h : o.staged = some g) :
    (s.mergeOp n o).tile n = ((s.tile n).merged o g).endTicket o.ticket g.status g.detail := by
  have hend (k : Pkg) (j status detail : Nat) (move : Bool) : (k.endOp n j status detail move).tile n = (k.tile n).endTicket j status detail := by
    unfold Pkg.endOp
    dsimp only
    split
    · rw [Pkg.tile_bump, Pkg.tile_bump, Pkg.tile_setTile]
    · rw [Pkg.tile_bump, Pkg.tile_setTile]
  have herror (k : Pkg) (p a m : Nat) : (k.addrError p a m).tile n = k.tile n := by
    unfold Pkg.addrError
    dsimp only
    split
    · rw [Pkg.tile_bump, Pkg.tile_bump]
    · rw [Pkg.tile_bump]
  rw [s.mergeOp_of_staged n h]
  dsimp only
  split
  · rw [herror, hend, Pkg.tile_setTile]
  · rw [hend, Pkg.tile_setTile]

theorem Pkg.finishOp_of_plain (s : Pkg) (n : Nat) {o : EngOp} (h : o.spec = false) (g : Staged) :
    s.finishOp n o g = s.mergeOp n { o with staged := some g } := by
  unfold Pkg.finishOp
  dsimp only
  rw [h]
  rfl

/-- A plain move from the die store that no held write meets: what a read gives goes to local memory (04:R135). -/
theorem completeMove_of_load (s : Pkg) (n : Nat) {o : EngOp} (hkind : (moveDesc o.desc).kind = 1) (hplain : (moveDesc o.desc).conv = false)
    (hheld : (s.tile n).heldBefore o.ticket = false)
    (hpend : (s.tile n).ownPending o.ticket (moveDesc o.desc).far (moveDesc o.desc).length = false) :
    completeMove s n o =
      let r := s.dsRead ((s.tile n).part - 1) n (moveDesc o.desc).far (moveDesc o.desc).length
      r.2.finishOp n o { writes := ((List.range r.1.length).zip r.1).map (fun x => ((moveDesc o.desc).loc + x.1, x.2)), fl := {} } := by
  unfold completeMove
  dsimp only
  rw [hheld, hkind]
  show (if _ then _ else _) = _
  rw [hpend, hplain]
  rfl

/-- The operand cache after a move into it. -/
theorem Pkg.ocache_finishOp_move (s : Pkg) (n : Nat) {o : EngOp} (hspec : o.spec = false) (hkind : o.kind = .move) (a : Nat) (bs : List Byte) (fl : Flags)
    (h : a + bs.length ≤ 0x80000) :
    ((s.finishOp n o { writes := ((List.range bs.length).zip bs).map (fun x => (a + x.1, x.2)), fl := fl }).tile n).ocache
      = (s.tile n).ocache.writeN a bs := by
  rw [s.finishOp_of_plain n hspec, s.tile_mergeOp n rfl, Tile.endTicket_ocache]
  unfold Tile.merged
  dsimp only
  rw [hkind, if_neg (by simp), Tile.wrEach_ascending _ _ _ h]
  rfl

end Sys2Proof

namespace Sys2Proof.Machine

open Sys2Proof

/-- The move of 64 bytes from the die store's address 0 to the operand cache's address 0. -/
def lostMove : EngOp := { code := 1, desc := [1, 0, 0, 0, 64] }

/-- Tile 0 has the move outstanding; the line it reads gives no data, and what stands there is not what a read gives. -/
def lostLine : State :=
  { pkg := { parts := [(0, { st := .running, dies := [0] })]
             tiles := [(0, { mode := .running, part := 1, ops := [lostMove], ticket := 1 })]
             dstore := [(0, Config.lostByte 0 + 1)]
             sdies := [(0, { lost := [0] })] } }

theorem unreadable_lostLine : (lostLine.pkg.bump 0x4010 1 64).unreadable 0 64 = true := by decide +kernel

theorem unreadable_lostLine_first : (lostLine.pkg.bump 0x4010 1 64).unreadable (0 + 0) 1 = true := by decide +kernel

/-- A read of the line gives the free value. -/
theorem dsBytes_lostLine : ∃ bs, (lostLine.pkg.bump 0x4010 1 64).dsBytes 0 64 = Config.lostByte 0 :: bs := by
  unfold Pkg.dsBytes
  dsimp only
  rw [if_pos unreadable_lostLine]
  refine ⟨_, congrArg (· :: _) ?_⟩
  exact if_pos unreadable_lostLine_first

theorem length_dsBytes_lostLine : ((lostLine.pkg.bump 0x4010 1 64).dsBytes 0 64).length = 64 := by
  unfold Pkg.dsBytes
  dsimp only
  rw [if_pos unreadable_lostLine]
  simp [Mem.length_readN]

/-- Two moves of 64 bytes to the operand cache's address 0 that leave the same tile have moved the same bytes. -/
theorem bytes_of_finishOp_eq {k : Pkg} {o : EngOp} (hspec : o.spec = false) (hkind : o.kind = .move) {bs cs : List Byte} (hbs : bs.length = 64)
    (hcs : cs.length = 64)
    (h : k.finishOp 0 o { writes := ((List.range bs.length).zip bs).map (fun x => (0 + x.1, x.2)), fl := {} }
      = k.finishOp 0 o { writes := ((List.range cs.length).zip cs).map (fun x => (0 + x.1, x.2)), fl := {} }) : bs = cs := by
  have hsame := congrArg (fun k : Pkg => (k.tile 0).ocache.readN 0 64) h
  rw [k.ocache_finishOp_move 0 hspec hkind 0 bs _ (by omega), k.ocache_finishOp_move 0 hspec hkind 0 cs _ (by omega)] at hsame
  have hb := Mem.readN_writeN_same (k.tile 0).ocache 0 bs
  have hc := Mem.readN_writeN_same (k.tile 0).ocache 0 cs
  rw [hbs] at hb
  rw [hcs] at hc
  exact hb.symm.trans (hsame.trans hc)

/-- The operation that the package completes. -/
theorem gives_lostMove : Gives (.engineOpComplete 0 0) lostLine ((lostLine.pkg.dsRead 0 0 0 64).2.finishOp 0 lostMove
    { writes := ((List.range ((lostLine.pkg.bump 0x4010 1 64).dsBytes 0 64).length).zip ((lostLine.pkg.bump 0x4010 1 64).dsBytes 0 64)).map
        (fun x => (0 + x.1, x.2)), fl := {} }) := by
  have hfind : (lostLine.pkg.tile 0).ops.find? (fun o => o.ticket = 0 && o.staged.isNone) = some lostMove := by decide +kernel
  have hgo : ((lostLine.pkg.tile 0).mode != .running || !((lostLine.pkg.tile 0).free lostMove) || !((lostLine.pkg.tile 0).room lostMove)) = false := by
    decide +kernel
  have hload := completeMove_of_load lostLine.pkg 0 (o := lostMove) (by decide) (by decide) (by decide +kernel) (by decide +kernel)
  have hact := gives_act (exec_engineOpComplete 0 0 lostLine) rfl rfl
  unfold engineComplete at hact
  dsimp only at hact
  rw [hfind] at hact
  change Gives _ _ (if _ then _ else _) at hact
  rw [hgo, if_neg Bool.false_ne_true] at hact
  change Gives _ _ (completeMove lostLine.pkg 0 lostMove) at hact
  rw [hload] at hact
  exact hact

/-- Refutes O33: a kind 1 move of a line that gives no data delivers the free values of its bytes (09:R263, log entry 69), not the die
store's. -/
theorem not_movesAreIssued : ¬ Obligations.MovesAreIssued := by
  unfold Obligations.MovesAreIssued
  rintro ⟨-, h⟩
  obtain ⟨-, hfound⟩ := h lostLine 0 0 lostMove (by decide) rfl
  obtain ⟨-, hcomplete⟩ := hfound (by decide +kernel)
  obtain ⟨-, -, hmove⟩ := hcomplete (by decide +kernel) (by decide +kernel) (by decide +kernel) rfl
  obtain ⟨-, hrow, -⟩ := hmove (by decide +kernel)
  have hstated : Gives (.engineOpComplete 0 0) lostLine ((lostLine.pkg.dsRead 0 0 0 64).2.finishOp 0 lostMove
      { writes := ((List.range (lostLine.pkg.dstore.readN 0 64).length).zip (lostLine.pkg.dstore.readN 0 64)).map (fun x => (0 + x.1, x.2)), fl := {} }) :=
    hrow (by decide +kernel) (by decide +kernel)
  have hsame := bytes_of_finishOp_eq rfl rfl length_dsBytes_lostLine (Mem.length_readN _ _ _) (gives_unique gives_lostMove hstated)
  obtain ⟨bs, hbs⟩ := dsBytes_lostLine
  rw [hbs] at hsame
  have hfirst : Config.lostByte 0 = Config.lostByte 0 + 1 := (List.cons.inj hsame).1
  bv_omega

end Sys2Proof.Machine
end

section
/-!
PROOF. Vector operations (06:R190 to R199, R207): their issue, their completion in issue order, and what one gives of an element.
-/

namespace Sys2Proof

open Sys2Proof.Machine Rv

/-- A vector operation as it is issued, without its descriptor (04:R127). -/
def Tile.vopOf (t : Tile) (op w : Nat) : EngOp :=
  { kind := .vop, code := op, r2 := (t.xr (rs2 w)).toNat, sibase := t.core.sibase.toNat, frame := t.frame }

/-- The summary slot of an operation waits for its ticket (06:R199). -/
def Pkg.awaitSummary (s : Pkg) (n r2 k : Nat) : Pkg :=
  if bit r2 2 then s.setTile n { s.tile n with slotTkt := Tab.insert (s.tile n).slotTkt (r2 % 4) (k + 1) } else s

section
variable {s : Pkg} {n op w len raw : Nat} (hf : s.fetches n w len raw) (hop : opc w = 0x0B) (hf3 : f3 w = 1) (hf7 : f7 w = op)
  (h1 : (s.tile n).waits (rs1 w) = false) (h2 : (s.tile n).waits (rs2 w) = false)
  (hbusy : (s.tile n).descBusy ((s.tile n).xr (rs1 w)).toNat 32 = false) (hmay : (s.tile n).mayIssue true = true)
include hf hop hf3 hf7 h1 h2 hbusy hmay

theorem vopIssue_of_no_desc (h : (s.tile n).descAt ((s.tile n).xr (rs1 w)).toNat 32 = none) : vopIssue s n op = s.issueBad n (rd w) 2 .vop := by
  unfold vopIssue
  rw [Pkg.withInstr_of_fetches hf]
  dsimp only
  rw [if_neg (by simp [hop, hf3, hf7]), if_neg (by simp [h1, h2, hbusy, hmay]), h]

theorem vopIssue_of_desc {d : List Byte} (h : (s.tile n).descAt ((s.tile n).xr (rs1 w)).toNat 32 = some d) :
    vopIssue s n op = (s.issue n (rd w)
      (if (vopDesc op d).cause = 0 then
        { (s.tile n).vopOf op w with desc := d, reads := (vopDesc op d).srcs.map (fun r => r.2), writes := (vopDesc op d).dsts }
      else { (s.tile n).vopOf op w with desc := d, r1 := (vopDesc op d).cause })).awaitSummary n ((s.tile n).xr (rs2 w)).toNat (s.tile n).ticket := by
  unfold vopIssue
  rw [Pkg.withInstr_of_fetches hf]
  dsimp only
  rw [if_neg (by simp [hop, hf3, hf7]), if_neg (by simp [h1, h2, hbusy, hmay]), h]
  rfl

end

section
variable {s : Pkg} {n : Nat}

/-- The operation that completes next: the oldest vector operation that has not (06:R190). -/
def Tile.nextVop (t : Tile) : Option EngOp := t.ops.find? (fun o => o.kind == .vop && o.staged.isNone)

/-- What a vector operation gives (06:R193 to R199). -/
def Pkg.vopResult (s : Pkg) (n : Nat) (o : EngOp) : Staged :=
  let p := (s.tile n).part - 1
  let v := vopRun (s.num p) (vopDesc o.code o.desc) (fun a l => (s.tile n).ocache.readN a l) (s.part p).img.seed o.frame o.sibase
  { writes := ((List.range v.bytes.length).zip v.bytes).map (fun x => ((vopDesc o.code o.desc).dst + x.1, x.2)), fl := v.fl, van := v.van
    summ := if bit o.r2 2 then some (o.r2 % 4, summaryOf v.vals v.van) else none }

theorem vectorComplete_of_none (h : (s.tile n).nextVop = none) : vectorComplete s n = s := by
  unfold vectorComplete
  dsimp only
  rw [show (s.tile n).ops.find? (fun o => o.kind == .vop && o.staged.isNone) = none from h]

theorem vectorComplete_of_some {o : EngOp} (h : (s.tile n).nextVop = some o) (hmode : (s.tile n).mode = .running) (hfree : (s.tile n).free o = true)
    (hroom : (s.tile n).room o = true) :
    vectorComplete s n = s.finishOp n o (if o.r1 ≠ 0 then { status := 5, detail := o.r1 } else s.vopResult n o) := by
  unfold vectorComplete
  dsimp only
  rw [show (s.tile n).ops.find? (fun o => o.kind == .vop && o.staged.isNone) = some o from h]
  dsimp only
  rw [hmode, hfree, hroom]
  show (if _ then _ else _) = _
  rw [apply_ite (s.finishOp n o)]
  rfl

/-- With no region open and no summary asked for, a result takes effect at once (04:R142, 06:R208). -/
theorem Pkg.finishOp_of_vop {o : EngOp} (hkind : o.kind = .vop) (hregion : (s.tile n).core.region = none) {g : Staged} (hsumm : g.summ = none)
    (hbit : bit o.r2 2 = false) (hstatus : g.status = 0) (hdetail : g.detail = 0) :
    s.finishOp n o g = ((s.countVop ((s.tile n).part - 1) o g).setTile n (((s.tile n).wrEach g.writes).addFlags g.fl)).endOp n o.ticket 0 0 false := by
  have hplain : (o.spec && (s.tile n).core.region.isSome) = false := by rw [hregion, Option.isSome_none, Bool.and_false]
  have hmerge : s.finishOp n o g = s.mergeOp n { o with staged := some g } := by
    unfold Pkg.finishOp
    dsimp only
    rw [hplain, if_neg Bool.false_ne_true]
  have htile : (s.tile n).merged { o with staged := some g } g = ((s.tile n).wrEach g.writes).addFlags g.fl := by
    unfold Tile.merged
    rw [hsumm]
    exact if_neg (by simp [hbit])
  have hcount : s.countMerged ((s.tile n).part - 1) { o with staged := some g } g = s.countVop ((s.tile n).part - 1) o g := by
    unfold Pkg.countMerged
    dsimp only
    rw [hkind]
    rfl
  have hpart : ((s.tile n).merged { o with staged := some g } g).part = (s.tile n).part := congrArg (·.1) ((s.tile n).merged_home _ _)
  rw [hmerge, s.mergeOp_of_staged n rfl]
  dsimp only
  rw [hstatus, if_neg (by decide), hdetail, hpart, htile, hcount, hkind]
  rfl

end

end Sys2Proof

namespace Sys2Proof.Machine

open Sys2Proof Rv

/-- The nineteen commands issue their operations (06:R193). -/
theorem exec_vops (s : State) (n : Nat) :
    ∀ e ∈ ([(0x01, Instr.vadd n), (0x02, .vsub n), (0x03, .vmul n), (0x04, .vfma n), (0x05, .vfnma n), (0x06, .vmin n), (0x07, .vmax n), (0x08, .vabs n),
        (0x09, .vneg n), (0x0A, .vsqrt n), (0x0B, .vrecip n), (0x0C, .vrsqrt n), (0x0D, .vexp n), (0x0E, .vtanh n), (0x10, .vsegsum n), (0x11, .vsegmax n),
        (0x18, .vcvt n), (0x19, .vfill n), (0x1A, .vscan n)] : List (Nat × Instr)),
      exec e.2 s = act (decide (n < tileMax)) s (fun k => vopIssue k n e.1) := by
  simp only [List.forall_mem_cons, List.not_mem_nil, false_implies, implies_true, and_true]
  exact ⟨exec_vadd n s, exec_vsub n s, exec_vmul n s, exec_vfma n s, exec_vfnma n s, exec_vmin n s, exec_vmax n s, exec_vabs n s, exec_vneg n s,
    exec_vsqrt n s, exec_vrecip n s, exec_vrsqrt n s, exec_vexp n s, exec_vtanh n s, exec_vsegsum n s, exec_vsegmax n s, exec_vcvt n s, exec_vfill n s,
    exec_vscan n s⟩

/-- Settles O34: the issue of each vector operation, and the completion of the oldest one. -/
theorem vectorOperationsIssue : Obligations.VectorOperationsIssue := by
  unfold Obligations.VectorOperationsIssue
  refine ⟨fun s n w len raw hf hop hf3 e he => ?_, fun s n o hn hon => ?_⟩
  · intro t a r2 o sum hf7 h1 h2 hbusy hmay
    have hgives {k : Pkg} (hk : vopIssue s.pkg n e.1 = k) : Gives e.2 s k := gives_onTile (exec_vops s n e he) hf.1 hf.2.1 hk
    refine ⟨fun d hd hcause => hgives ?_, fun d hd hcause => hgives ?_, fun hd => hgives ?_⟩
    · rw [vopIssue_of_desc hf hop hf3 hf7 h1 h2 hbusy hmay hd, if_pos hcause]
      rfl
    · rw [vopIssue_of_desc hf hop hf3 hf7 h1 h2 hbusy hmay hd, if_neg hcause]
      rfl
    · exact vopIssue_of_no_desc hf hop hf3 hf7 h1 h2 hbusy hmay hd
  · intro t p d v g
    have hact := gives_act (exec_vectorOpComplete n s) (decide_eq_true hn) hon
    refine ⟨fun hnone => ?_, fun hsome hmode hfree hroom => ?_, fun hkind hregion hbit => ?_⟩
    · rw [vectorComplete_of_none hnone] at hact
      exact hact
    · rw [vectorComplete_of_some hsome hmode hfree hroom] at hact
      refine ⟨fun hbad => ?_, fun hgood => ?_⟩
      · rw [if_pos hbad] at hact
        exact hact
      · rw [if_neg (not_not_intro hgood)] at hact
        exact hact
    · exact Pkg.finishOp_of_vop hkind hregion (if_neg (Bool.eq_false_iff.1 hbit)) hbit rfl rfl

end Sys2Proof.Machine
end

section
/-!
PROOF. The result of one element of each elementwise vector operation (06:R193 to R195).
-/

namespace Sys2Proof.Machine

open Sys2Proof

variable (cfg : NumCfg) (df : Nat) (a b c : FVal)

/-- Of a negative number, square root and reciprocal root are NaN with invalid (06:R194, R195). -/
theorem vopElem_root_of_negative {m : Nat} (hm : m ≠ 0) (e : Int) :
    ∀ op ∈ [0x0A, 0x0C], vopElem cfg op df (.fin true m e) b c = { raw := fmtNan df, fl := { inv := true } } := by
  have hsqrt : vopElem cfg 0x0A df (.fin true m e) b c = { raw := fmtNan df, fl := { inv := true } } := if_neg hm
  have hrsqrt : vopElem cfg 0x0C df (.fin true m e) b c = { raw := fmtNan df, fl := { inv := true } } := if_neg hm
  simp only [List.forall_mem_cons, List.not_mem_nil, false_implies, implies_true, and_true]
  exact ⟨hsqrt, hrsqrt⟩

/-- The operations of one operand on a NaN (02:R68). -/
theorem vopElem_nan (g : Bool) :
    ∀ op ∈ [0x0A, 0x0B, 0x0C, 0x0D, 0x0E], vopElem cfg op df (.nan g) b c = { raw := fmtNan df, fl := { inv := g } } := by
  simp only [List.forall_mem_cons, List.not_mem_nil, false_implies, implies_true, and_true]
  exact ⟨rfl, rfl, rfl, rfl, rfl⟩

/-- Settles O35: each operation's row of R193 to R195 is its branch of the model's table. -/
theorem vectorElementResults : Obligations.VectorElementResults := by
  unfold Obligations.VectorElementResults
  intro cfg df a b c
  exact ⟨rfl, rfl, rfl, rfl, rfl, rfl, rfl, rfl, rfl, fun m e hm => vopElem_root_of_negative cfg df b c hm e, fun g e => ⟨rfl, rfl⟩, fun g => rfl, rfl, rfl,
    fun g => rfl, fun g => vopElem_nan cfg df b c g⟩

end Sys2Proof.Machine
end

section
/-!
PROOF. The matrix engine's operations (05:R171 to R176, R179): program-buffer copies, runs and swaps are issued, started and completed.
-/

namespace Sys2Proof

open Sys2Proof.Machine Rv

section
variable {s : Pkg} {n w len raw : Nat} (hf : s.fetches n w len raw) (hop : opc w = 0x0B) (hf3 : f3 w = 2) (hissue : isEngineIssue w = true)
include hf hop hf3 hissue

theorem mxpbIssue_of_ready (hf7 : f7 w = 0) (h1 : (s.tile n).waits (rs1 w) = false) (h2 : (s.tile n).waits (rs2 w) = false)
    (hmay : (s.tile n).mayIssue false = true) {a r2 : Nat} (ha : a = ((s.tile n).xr (rs1 w)).toNat) (hr2 : r2 = ((s.tile n).xr (rs2 w)).toNat) :
    mxpbIssue s n = s.issue n (rd w)
      { kind := .mxpb, r1 := a, r2 := r2, reads := if inData a (16 * (bits r2 16 8 + 1)) then [(a, 16 * (bits r2 16 8 + 1))] else [] } := by
  subst ha hr2
  unfold mxpbIssue
  rw [Pkg.withInstr_of_fetches hf]
  dsimp only
  rw [if_neg (by simp [hop, hf3, hf7, hissue]), if_neg (by simp [h1, h2, hmay])]
  congr 1
  split <;> rfl

theorem mxswapIssue_of_ready (hf7 : f7 w = 2) (hmay : (s.tile n).mayIssue false = true) : mxswapIssue s n = s.issue n (rd w) { kind := .mxswap } := by
  unfold mxswapIssue
  rw [Pkg.withInstr_of_fetches hf]
  exact if_pos (by simp [hop, hf3, hf7, hissue, hmay])

variable (hf7 : f7 w = 1) (h1 : (s.tile n).waits (rs1 w) = false) (hbusy : (s.tile n).descBusy ((s.tile n).xr (rs1 w)).toNat 64 = false)
include hf7 h1 hbusy

theorem mxrunIssue_of_desc {d : List Byte} (hd : (s.tile n).descAt ((s.tile n).xr (rs1 w)).toNat 64 = some d)
    (hmay : (s.tile n).mayIssue (bit (byteAt d 0) 0) = true) :
    mxrunIssue s n = s.issue n (rd w)
      (if runBad d then { kind := .mxrun, r1 := 8, r2 := byteAt d 1 } else { kind := .mxrun, desc := d, reads := runReads d, writes := runWrites d }) := by
  unfold mxrunIssue
  rw [Pkg.withInstr_of_fetches hf]
  dsimp only
  rw [if_neg (by simp [hop, hf3, hf7, hissue]), if_neg (by simp [h1, hbusy]), hd]
  dsimp only
  rw [if_neg (by simp [hmay]), apply_ite (s.issue n (rd w))]

theorem mxrunIssue_of_no_desc (hd : (s.tile n).descAt ((s.tile n).xr (rs1 w)).toNat 64 = none) (hmay : (s.tile n).mayIssue false = true) :
    mxrunIssue s n = (s.issueBad n (rd w) 8 .mxrun).bump (0x3840 + ((s.tile n).part - 1)) 4 1 := by
  unfold mxrunIssue
  rw [Pkg.withInstr_of_fetches hf]
  dsimp only
  rw [if_neg (by simp [hop, hf3, hf7, hissue]), if_neg (by simp [h1, hbusy]), hd]
  exact if_pos hmay

end

section
variable {s : Pkg} {n : Nat} {o : EngOp}

/-- A copy that R130 lets complete does (04:R133). -/
theorem engineComplete_of_mxpb {k : Nat} (pb : EngOp → Pkg) (hfind : (s.tile n).ops.find? (fun o => o.ticket = k && o.staged.isNone) = some o)
    (hkind : o.kind = .mxpb) (hmode : (s.tile n).mode = .running) (hfree : (s.tile n).free o = true) (hroom : (s.tile n).room o = true) :
    engineComplete s n k pb = pb o := by
  unfold engineComplete
  dsimp only
  rw [hfind]
  show (if _ then _ else _) = _
  rw [hmode, hfree, hroom, if_neg (by decide), hkind]

theorem any_kind_eq_false {xs : List EngOp} {k : OpKind} (h : ∀ x ∈ xs, x.kind ≠ k) : xs.any (fun x => x.kind == k) = false := by
  simpa using h

/-- What a copy with no swap before it does (05:R171). -/
theorem mxpbComplete_of_first (h : ∀ x ∈ opsBefore (s.tile n).ops o.ticket, x.kind ≠ .mxswap) :
    mxpbComplete s n o =
      let t := s.tile n
      let first := bits o.r2 7 0
      let count := bits o.r2 16 8 + 1
      let bank := bits o.r2 17 17
      if o.r1 % 16 ≠ 0 || !(inData o.r1 (16 * count)) || 256 < first + count then s.finishOp n o { status := 5, detail := 9 + first * 256 }
      else if bank = t.mx.active then (s.bump (0x3840 + (t.part - 1)) 5 1).finishOp n o { status := 6 }
      else (s.setTile n { t with mx := { t.mx with
        pbuf := (List.range count).foldl (fun pb i => Tab.insert pb (bank * 256 + first + i) (leNat (t.rd (o.r1 + 16 * i) 16))) t.mx.pbuf } }).finishOp n o {} := by
  unfold mxpbComplete
  exact if_neg (Bool.eq_false_iff.1 (any_kind_eq_false h))

/-- The run that starts next: the oldest that has not completed. -/
def Tile.nextRun (t : Tile) : Option EngOp := t.ops.find? (fun o => o.kind == .mxrun && o.staged.isNone)

/-- The walk of a run begins with the registers of its descriptor (05:R175, R176). -/
def Tile.walkOf (t : Tile) (d : List Byte) : Walk :=
  let self := bit (byteAt d 0) 0
  let live (x : AccSet) : Option Nat := if x.live && !self then some x.kind else none
  { a := (runRegs d).1, c := (runRegs d).2, live0 := live t.mx.set0, live1 := live t.mx.set1, entry := byteAt d 1 }

/-- The engine as a run outside a region starts (05:R175, R177). -/
def Tile.mxStarted (t : Tile) (o : EngOp) : Matrix :=
  let self := bit (byteAt o.desc 0) 0
  let m : Matrix := { t.mx with
    run := some { ticket := o.ticket, bank := t.mx.active, entry := byteAt o.desc 1, self := self }, a := (runRegs o.desc).1, c := (runRegs o.desc).2 }
  if self then { m with set0 := { t.mx.set0 with live := false }, set1 := { t.mx.set1 with live := false } } else m

/-- What the end of a run's walk brings: a failure's cause and entry, or the run's start (05:R176, R187). -/
def Pkg.runWalked (s : Pkg) (n : Nat) (o : EngOp) : Option (Nat × Nat) → Pkg
  | some (cause, entry) => (s.bump (0x3840 + ((s.tile n).part - 1)) 4 1).finishOp n o { status := 5, detail := cause + entry * 256 }
  | none =>
    let t := s.tile n
    (s.bump (0x3840 + (t.part - 1)) 3 (runCycles t.mx.pbuf t.mx.active 65538 (t.walkOf o.desc) {})).setTile n { t with mx := t.mxStarted o }

/-- A run with nothing before it, outside a region: what its start does. -/
theorem runStart_of_first (hfind : (s.tile n).nextRun = some o) (hmode : (s.tile n).mode = .running) (hidle : (s.tile n).mx.run = none)
    (hfree : (s.tile n).free o = true) (hroom : (s.tile n).room o = true) (hspec : o.spec = false)
    (hbefore : ∀ x ∈ opsBefore (s.tile n).ops o.ticket, x.kind ≠ .mxrun ∧ x.kind ≠ .mxswap) :
    runStart s n =
      if o.r1 ≠ 0 then (s.bump (0x3840 + ((s.tile n).part - 1)) 4 1).finishOp n o { status := 5, detail := 8 + o.r2 * 256 }
      else s.runWalked n o (walkRun (s.tile n).mx.pbuf (s.tile n).mx.active (runReads o.desc) (runWrites o.desc) 65538 ((s.tile n).walkOf o.desc)) := by
  have hblocked : (opsBefore (s.tile n).ops o.ticket).any (fun x => (x.kind == .mxrun && x.staged.isNone) || x.kind == .mxswap) = false := by
    simp only [List.any_eq_false, Bool.or_eq_true, Bool.and_eq_true, beq_iff_eq, not_or, not_and]
    exact fun x hx => ⟨fun hrun => absurd hrun (hbefore x hx).1, (hbefore x hx).2⟩
  unfold runStart
  dsimp only
  rw [show (s.tile n).ops.find? (fun o => o.kind == .mxrun && o.staged.isNone) = some o from hfind]
  dsimp only
  rw [hspec]
  refine (if_neg ?_).trans rfl
  rw [hblocked, hfree, hroom, hidle, hmode]
  simp

/-- The swap that comes next. -/
def Tile.nextSwap (t : Tile) : Option EngOp := t.ops.find? (fun o => o.kind == .mxswap)

theorem bankSwap_of_first (hfind : (s.tile n).nextSwap = some o) (hmode : (s.tile n).mode = .running)
    (hbefore : ∀ x ∈ opsBefore (s.tile n).ops o.ticket, x.kind ≠ .mxpb ∧ x.kind ≠ .mxrun) :
    bankSwap s n = (s.setTile n { s.tile n with mx := { (s.tile n).mx with active := 1 - (s.tile n).mx.active } }).finishOp n o {} := by
  unfold bankSwap
  dsimp only
  rw [show (s.tile n).ops.find? (fun o => o.kind == .mxswap) = some o from hfind]
  dsimp only
  rw [hmode]
  refine if_neg ?_
  simp only [bne_self_eq_false, Bool.false_or, List.any_eq_true, Bool.or_eq_true, Bool.and_eq_true, beq_iff_eq, not_exists, not_and, not_or]
  exact fun x hx => ⟨(hbefore x hx).1, fun hrun => absurd hrun (hbefore x hx).2⟩

theorem bankSwap_behind_copy (hfind : (s.tile n).nextSwap = some o) (hbefore : ∃ x ∈ opsBefore (s.tile n).ops o.ticket, x.kind = .mxpb) :
    bankSwap s n = s := by
  unfold bankSwap
  dsimp only
  rw [show (s.tile n).ops.find? (fun o => o.kind == .mxswap) = some o from hfind]
  refine if_pos ?_
  obtain ⟨x, hx, hkind⟩ := hbefore
  simp only [Bool.or_eq_true, List.any_eq_true]
  exact .inr ⟨x, hx, .inl (by rw [hkind]; rfl)⟩

end

end Sys2Proof

namespace Sys2Proof.Machine

open Sys2Proof Rv

section
variable {s : State} {n : Nat} (hn : n < 6144) (hon : s.pkg.fw.off = 0)
include hn hon

/-- The issue of copies, swaps and runs. -/
theorem matrix_issues {w len raw : Nat} (hf : s.pkg.fetches n w len raw) (hop : opc w = 0x0B) (hf3 : f3 w = 2) (hissue : isEngineIssue w = true)
    (h1 : (s.pkg.tile n).waits (rs1 w) = false) (h2 : (s.pkg.tile n).waits (rs2 w) = false) :
    let t := s.pkg.tile n
    let a := (t.xr (rs1 w)).toNat
    let r2 := (t.xr (rs2 w)).toNat
    (f7 w = 0 → t.mayIssue false = true → Gives (.ykMxpb n) s (s.pkg.issue n (rd w)
        { kind := .mxpb, r1 := a, r2 := r2, reads := if inData a (16 * (bits r2 16 8 + 1)) then [(a, 16 * (bits r2 16 8 + 1))] else [] }))
    ∧ (f7 w = 2 → t.mayIssue false = true → Gives (.ykMxswap n) s (s.pkg.issue n (rd w) { kind := .mxswap }))
    ∧ (f7 w = 1 → t.descBusy a 64 = false → ∀ d, t.descAt a 64 = some d → t.mayIssue (bit (byteAt d 0) 0) = true →
        Gives (.ykMxrun n) s (s.pkg.issue n (rd w)
          (if runBad d then { kind := .mxrun, r1 := 8, r2 := byteAt d 1 } else { kind := .mxrun, desc := d, reads := runReads d, writes := runWrites d })))
    ∧ (f7 w = 1 → t.descBusy a 64 = false → t.descAt a 64 = none → t.mayIssue false = true →
        Gives (.ykMxrun n) s ((s.pkg.issueBad n (rd w) 8 .mxrun).bump (0x3840 + (t.part - 1)) 4 1)) := by
  intro t a r2
  refine ⟨fun hf7 hmay => ?_, fun hf7 hmay => ?_, fun hf7 hbusy d hd hmay => ?_, fun hf7 hbusy hd hmay => ?_⟩
  · exact gives_onTile (exec_ykMxpb n s) hn hon (mxpbIssue_of_ready hf hop hf3 hissue hf7 h1 h2 hmay rfl rfl)
  · exact gives_onTile (exec_ykMxswap n s) hn hon (mxswapIssue_of_ready hf hop hf3 hissue hf7 hmay)
  · exact gives_onTile (exec_ykMxrun n s) hn hon (mxrunIssue_of_desc hf hop hf3 hissue hf7 h1 hbusy hd hmay)
  · exact gives_onTile (exec_ykMxrun n s) hn hon (mxrunIssue_of_no_desc hf hop hf3 hissue hf7 h1 hbusy hd hmay)

/-- The completion of a copy. -/
theorem matrix_copy {o : EngOp} {k : Nat} (hfind : (s.pkg.tile n).ops.find? (fun o => o.ticket = k && o.staged.isNone) = some o) (hkind : o.kind = .mxpb)
    (hmode : (s.pkg.tile n).mode = .running) (hfree : (s.pkg.tile n).free o = true) (hroom : (s.pkg.tile n).room o = true) :
    Gives (.engineOpComplete n k) s (mxpbComplete s.pkg n o) :=
  gives_onTile (exec_engineOpComplete n k s) hn hon (engineComplete_of_mxpb (mxpbComplete s.pkg n) hfind hkind hmode hfree hroom)

end

/-- Settles O37: copies, runs and swaps are issued, started, checked and swapped as their rows say. -/
theorem matrixIssueAndStart : Obligations.MatrixIssueAndStart := by
  unfold Obligations.MatrixIssueAndStart
  intro s n hn hon t p
  refine ⟨fun w len raw hf hop hf3 hissue h1 h2 => matrix_issues hn hon hf hop hf3 hissue h1 h2, fun o k hfind hkind hmode hfree hroom hbefore => ?_,
    fun o hfind hmode hidle hfree hroom hspec hbefore => ?_, fun o hfind hmode => ⟨fun hbefore => ?_, fun hbefore => ?_⟩⟩
  · have hact := matrix_copy hn hon hfind hkind hmode hfree hroom
    rw [mxpbComplete_of_first hbefore] at hact
    dsimp only at hact
    intro first count bank
    have hsound (hal : o.r1 % 16 = 0) (hin : inData o.r1 (16 * count) = true) (hcount : first + count ≤ 256) :
        ¬(decide (o.r1 % 16 ≠ 0) || !(inData o.r1 (16 * count)) || decide (256 < first + count)) = true := by
      rw [hin, decide_eq_false (not_not_intro hal), decide_eq_false (Nat.not_lt.2 hcount)]
      decide
    refine ⟨fun hbad => ?_, fun hal hin hcount => ⟨fun hbank => ?_, fun hbank => ?_⟩⟩
    · rw [if_pos (by simpa [or_assoc] using hbad)] at hact
      exact hact
    · rw [if_neg (hsound hal hin hcount), if_pos hbank] at hact
      exact hact
    · rw [if_neg (hsound hal hin hcount), if_neg hbank] at hact
      exact hact
  · have hstart := runStart_of_first hfind hmode hidle hfree hroom hspec hbefore
    have hgives {k : Pkg} (hk : runStart s.pkg n = k) : Gives (.matrixRunStart n) s k := gives_onTile (exec_matrixRunStart n s) hn hon hk
    refine ⟨fun hbad => hgives (hstart.trans (if_pos hbad)), fun hgood => ?_⟩
    have hwalked := hstart.trans (if_neg (not_not_intro hgood))
    exact ⟨fun c e hwalk => hgives (hwalked.trans (congrArg (s.pkg.runWalked n o) hwalk)),
      fun hwalk => hgives (hwalked.trans (congrArg (s.pkg.runWalked n o) hwalk))⟩
  · exact gives_onTile (exec_bankSwap n s) hn hon (bankSwap_of_first hfind hmode hbefore)
  · have hact := gives_act (exec_bankSwap n s) (decide_eq_true hn) hon
    rw [bankSwap_behind_copy hfind hbefore] at hact
    exact hact

end Sys2Proof.Machine
end

section
/-!
PROOF. Micro-operations of a run (05:R160, R165, R167, R168, R177, R178, R181): what each makes of the engine, and how a run ends.
-/

namespace Sys2Proof

open Sys2Proof.Machine Rv

section
variable {s : Pkg} {n w : Nat} {run : MxRun} (hrun : (s.tile n).mx.run = some run) (hmode : (s.tile n).mode = .running)
include hrun hmode

/-- The oldest MMA in flight completes (05:R181). -/
theorem mmaComplete_of_run : mmaComplete s n = s.putRun n (s.tile n).mx { run with inflight := run.inflight.drop 1 } := by
  unfold mmaComplete
  dsimp only
  rw [hrun]
  exact if_neg (by simp [hmode])

/-- A run that has ended with nothing in flight ends its ticket (05:R178). -/
theorem runComplete_of_ended (hended : run.ended = true) (hempty : run.inflight = []) {o : EngOp}
    (hfind : (s.tile n).ops.find? (fun o => o.ticket = run.ticket) = some o) :
    runComplete s n = (s.setTile n { s.tile n with mx := { (s.tile n).mx with run := none } }).finishOp n o
      { writes := run.out, fl := run.fl, van := run.macs } := by
  unfold runComplete
  dsimp only
  rw [hrun]
  show (if _ then _ else _) = _
  rw [if_neg (by simp [hmode, hended, hempty]), hfind]

omit hmode in
theorem runComplete_of_busy (h : run.ended = false ∨ run.inflight ≠ []) : runComplete s n = s := by
  unfold runComplete
  dsimp only
  rw [hrun]
  refine if_pos ?_
  rcases h with h | h
  · simp [h]
  · simp [h]

variable (hgoes : run.ended = false) (hentry : Tab.find (s.tile n).mx.pbuf (run.bank * 256 + run.entry) = some w)
include hgoes hentry

/-- The micro-operation at the next entry runs where its opcode is the command's (05:R167). -/
theorem Pkg.withMicro_of_entry (op : Nat) (f : MxRun → Nat → Pkg) : s.withMicro n op f = if moOp w = op then f run w else s := by
  unfold Pkg.withMicro
  dsimp only
  rw [hrun]
  show (if _ then _ else _) = _
  rw [if_neg (by simp [hgoes, hmode]), hentry]

/-- Where the opcode is another one nothing changes. -/
theorem Pkg.withMicro_of_other {op : Nat} (h : moOp w ≠ op) (f : MxRun → Nat → Pkg) : s.withMicro n op f = s := by
  rw [Pkg.withMicro_of_entry hrun hmode hgoes hentry]
  exact if_neg h

theorem Pkg.withMicro_of_same {op : Nat} (h : moOp w = op) (f : MxRun → Nat → Pkg) : s.withMicro n op f = f run w := by
  rw [Pkg.withMicro_of_entry hrun hmode hgoes hentry]
  exact if_pos h

end

section
variable (k : Walk) {w : Nat}

/-- NOP changes the next entry alone; SETR, ADDR and LOOP registers too (05:R167). -/
theorem walkStep_nop (h : moOp w = 0) : walkStep k w = { k with entry := k.entry + 1 } := by simp only [walkStep, h]

theorem walkStep_setr (h : moOp w = 1) :
    walkStep k w =
      if bits w 11 8 < 8 then
        { k with a := Tab.set 0 k.a (bits w 11 8) (bits w 63 32), defd := if bits w 11 8 < 4 then k.defd else bits w 11 8 :: k.defd, entry := k.entry + 1 }
      else { k with c := Tab.set 0 k.c (bits w 11 8 - 8) (bits w 63 32 % 65536), entry := k.entry + 1 } := by simp only [walkStep, h]

theorem walkStep_addr (h : moOp w = 2) :
    walkStep k w = { k with a := Tab.set 0 k.a (bits w 10 8) ((areg k.a (bits w 10 8) + bits w 63 32) % 2 ^ 32), entry := k.entry + 1 } := by
  simp only [walkStep, h]

theorem walkStep_loop (h : moOp w = 7) :
    walkStep k w =
      if 2 ≤ Tab.get 0 k.c (bits w 9 8) then { k with c := Tab.set 0 k.c (bits w 9 8) (Tab.get 0 k.c (bits w 9 8) - 1), entry := bits w 23 16 }
      else { k with c := Tab.set 0 k.c (bits w 9 8) 0, entry := k.entry + 1 } := by simp only [walkStep, h]

end

end Sys2Proof

namespace Sys2Proof.Machine

open Sys2Proof Rv

/-- Each micro-operation's command runs it where the next entry holds it. -/
theorem exec_micros (s : State) (n : Nat) :
    ∀ e ∈ ([(0, Instr.mNop n), (1, .mSetr n), (2, .mAddr n), (3, .mZacc n), (4, .mLdacc n), (5, .mMma n), (6, .mStacc n), (7, .mLoop n), (8, .mEnd n)]
        : List (Nat × Instr)), ∃ f : Pkg → MxRun → Nat → Pkg, exec e.2 s = act (decide (n < tileMax)) s (fun k => k.withMicro n e.1 (f k)) := by
  simp only [List.forall_mem_cons, List.not_mem_nil, false_implies, implies_true, and_true]
  exact ⟨⟨_, exec_mNop n s⟩, ⟨_, exec_mSetr n s⟩, ⟨_, exec_mAddr n s⟩, ⟨_, exec_mZacc n s⟩, ⟨_, exec_mLdacc n s⟩, ⟨_, exec_mMma n s⟩,
    ⟨_, exec_mStacc n s⟩, ⟨_, exec_mLoop n s⟩, ⟨_, exec_mEnd n s⟩⟩

section
variable {s : State} {n w : Nat} {run : MxRun} (hn : n < 6144) (hon : s.pkg.fw.off = 0) (hrun : (s.pkg.tile n).mx.run = some run)
  (hmode : (s.pkg.tile n).mode = .running) (hgoes : run.ended = false)
  (hentry : Tab.find (s.pkg.tile n).mx.pbuf (run.bank * 256 + run.entry) = some w)
include hn hon hrun hmode hgoes hentry

/-- A command of another micro-operation leaves the state as it is. -/
theorem micro_other : ∀ e ∈ ([(0, Instr.mNop n), (1, .mSetr n), (2, .mAddr n), (3, .mZacc n), (4, .mLdacc n), (5, .mMma n), (6, .mStacc n), (7, .mLoop n),
    (8, .mEnd n)] : List (Nat × Instr)), moOp w ≠ e.1 → exec e.2 s = .next s := by
  intro e he hop
  obtain ⟨f, hexec⟩ := exec_micros s n e he
  have hact := gives_act hexec (decide_eq_true hn) hon
  rw [Pkg.withMicro_of_other hrun hmode hgoes hentry hop] at hact
  exact hact

/-- A micro-operation that changes registers and control flow alone, where its walk is known. -/
theorem gives_micro_flow {i : Instr} {op : Nat} (hexec : exec i s = act (decide (n < tileMax)) s (fun k => microFlow k n op)) (hop : moOp w = op)
    {k : Walk} (hk : walkStep { a := (s.pkg.tile n).mx.a, c := (s.pkg.tile n).mx.c, entry := run.entry } w = k) :
    Gives i s (s.pkg.putRun n { (s.pkg.tile n).mx with a := k.a, c := k.c } { run with entry := k.entry }) := by
  subst hk
  exact gives_onTile hexec hn hon (Pkg.withMicro_of_same hrun hmode hgoes hentry hop _)

theorem gives_micro_zacc (hop : moOp w = 3) :
    Gives (.mZacc n) s (s.pkg.putRun n ((s.pkg.tile n).mx.putSet (moSet w) { live := true, kind := moKind w, el := [] }) { run with entry := run.entry + 1 }) :=
  gives_onTile (exec_mZacc n s) hn hon (Pkg.withMicro_of_same hrun hmode hgoes hentry hop _)

theorem gives_micro_end (hop : moOp w = 8) :
    Gives (.mEnd n) s (s.pkg.putRun n (if run.self then { (s.pkg.tile n).mx with set0 := {}, set1 := {} } else (s.pkg.tile n).mx) { run with ended := true }) :=
  gives_onTile (exec_mEnd n s) hn hon (Pkg.withMicro_of_same hrun hmode hgoes hentry hop _)

theorem gives_micro_ldacc (hop : moOp w = 4) (hquiet : run.quiet (moSet w) = true) :
    let t := s.pkg.tile n
    let v := fmtWidth (kindFmt (moKind w)) / 8
    let el := (tileIx (moKind w)).foldl (fun e rc => Tab.set 0 e (rc.1 * kindCols (moKind w) + rc.2)
      (t.ocache.rd (accAddr w (areg t.mx.a (moRa w) + moOff w) (moKind w) v rc.1 rc.2) v)) []
    Gives (.mLdacc n) s (s.pkg.putRun n (t.mx.putSet (moSet w) { live := true, kind := moKind w, el := el }) { run with entry := run.entry + 1 }) := by
  refine gives_onTile (exec_mLdacc n s) hn hon ((Pkg.withMicro_of_same hrun hmode hgoes hentry hop _).trans ?_)
  exact if_neg (by simp [hquiet])

theorem gives_micro_mma (hop : moOp w = 5) (hkind : ∀ x ∈ run.inflight, x.2 = fmtKind (moFmt w)) :
    let t := s.pkg.tile n
    let m := t.mx
    let r := mmaInto (fun a l => t.ocache.readN a l) (m.set (moSet w)) (moFmt w) (moScaled w) (areg m.a (moRa w) + moOff w) (areg m.a (moRb w) + moBoff w) (moK w)
    let k := walkStep { a := m.a, c := m.c, entry := run.entry } w
    Gives (.mMma n) s (s.pkg.putRun n { m.putSet (moSet w) r.1 with a := k.a }
      { run with entry := k.entry, fl := run.fl.or r.2, inflight := run.inflight ++ [(moSet w, fmtKind (moFmt w))]
                 macs := run.macs + kindRows (fmtKind (moFmt w)) * kindCols (fmtKind (moFmt w)) * moK w }) := by
  refine gives_onTile (exec_mMma n s) hn hon ((Pkg.withMicro_of_same hrun hmode hgoes hentry hop _).trans ?_)
  exact if_neg (by simpa using hkind)

theorem gives_micro_stacc (hop : moOp w = 6) (hquiet : run.quiet (moSet w) = true) (hspec : run.spec = false) (hinc : moInc w = false) :
    let t := s.pkg.tile n
    let m := t.mx
    let x := m.set (moSet w)
    let v := fmtWidth (moFmt w) / 8
    let res := (tileIx x.kind).map (fun rc => (accAddr w (areg m.a (moRa w) + moOff w) x.kind v rc.1 rc.2,
      deliver {} (moFmt w) .rne (decodeFmt (kindFmt x.kind) (Tab.get 0 x.el (rc.1 * kindCols x.kind + rc.2)))))
    Gives (.mStacc n) s (s.pkg.setTile n
      { t.wrEach (res.flatMap (fun r => ((List.range v).zip (natLe v r.2.raw)).map (fun b => (r.1 + b.1, b.2)))) with
        mx := { m with run := some { run with entry := run.entry + 1, fl := res.foldl (fun f r => f.or r.2.fl) run.fl } } }) := by
  refine gives_onTile (exec_mStacc n s) hn hon ((Pkg.withMicro_of_same hrun hmode hgoes hentry hop _).trans ?_)
  dsimp only
  rw [if_neg (by simp [hquiet]), hspec, hinc]
  rfl

end

/-- Settles O38: each micro-operation at the next entry, the completion of an MMA, and the end of a run. -/
theorem matrixMicroOperations : Obligations.MatrixMicroOperations := by
  unfold Obligations.MatrixMicroOperations
  intro s n w run hn hon t m hrun hmode
  refine ⟨fun hgoes hentry => ?_, ?_, fun hended hempty o hfind => ?_, fun hbusy => ?_⟩
  · intro put
    have hflow {i : Instr} {op : Nat} (hexec : exec i s = act (decide (n < tileMax)) s (fun k => microFlow k n op)) (hop : moOp w = op) {k : Walk}
        (hk : walkStep { a := m.a, c := m.c, entry := run.entry } w = k) :
        Gives i s (put { m with a := k.a, c := k.c } { run with entry := k.entry }) := gives_micro_flow hn hon hrun hmode hgoes hentry hexec hop hk
    refine ⟨micro_other hn hon hrun hmode hgoes hentry, fun hop => ?_, fun hop hreg => ?_, fun hop hreg => ?_, fun hop => ?_, fun hop => ?_, fun hop => ?_,
      fun hop hquiet => ?_, fun hop hkind => ?_, fun hop hquiet hspec hinc => ?_, fun hop => ?_⟩
    · exact hflow (exec_mNop n s) hop (walkStep_nop _ hop)
    · exact hflow (exec_mSetr n s) hop ((walkStep_setr _ hop).trans (if_pos hreg))
    · exact hflow (exec_mSetr n s) hop ((walkStep_setr _ hop).trans (if_neg (Nat.not_lt.2 hreg)))
    · exact hflow (exec_mAddr n s) hop (walkStep_addr _ hop)
    · exact ⟨fun hmore => hflow (exec_mLoop n s) hop ((walkStep_loop _ hop).trans (if_pos hmore)),
        fun hlast => hflow (exec_mLoop n s) hop ((walkStep_loop _ hop).trans (if_neg (Nat.not_le.2 hlast)))⟩
    · exact gives_micro_zacc hn hon hrun hmode hgoes hentry hop
    · exact gives_micro_ldacc hn hon hrun hmode hgoes hentry hop hquiet
    · exact gives_micro_mma hn hon hrun hmode hgoes hentry hop hkind
    · exact gives_micro_stacc hn hon hrun hmode hgoes hentry hop hquiet hspec hinc
    · exact gives_micro_end hn hon hrun hmode hgoes hentry hop
  · exact gives_onTile (exec_mMmaComplete n s) hn hon (mmaComplete_of_run hrun hmode)
  · exact gives_onTile (exec_matrixRunComplete n s) hn hon (runComplete_of_ended hrun hmode hended hempty hfind)
  · exact gives_onTile (exec_matrixRunComplete n s) hn hon (runComplete_of_busy hrun hbusy)

end Sys2Proof.Machine
end

section
/-!
PROOF. Engine-issue instructions that hold, wait and mark (04:R127, R129, R138, R139, R153 to R155, 07:R210, 12:R377).
-/

namespace Sys2Proof

open Sys2Proof.Machine Rv

section
variable {s : Pkg} {n w len raw : Nat} (hf : s.fetches n w len raw) (hq : (s.tile n).quiet)
include hf hq

/-- YK.SOLVE (07:R210). -/
theorem solveIssue_of_fetches (hyk : isYk w 0x0B 3 0 = true) (hmay : (s.tile n).mayIssue false = true) {a b : Nat} (ha : a = ((s.tile n).xr (rs1 w)).toNat)
    (hb : b = ((s.tile n).xr (rs2 w)).toNat) :
    solveIssue s n =
      if a % 64 ≠ 0 || !(dsOk a 128) || dieOf a ≠ n / 128 then s.issueBad n (rd w) 1 .held
      else if b = 0 || 4096 < b then s.issueBad n (rd w) 2 .held
      else s.issueHeld n (rd w) (.solve a b) := by
  subst ha hb
  unfold solveIssue
  rw [Pkg.withInstr_of_fetches hf]
  exact if_neg (by simp [hyk, hmay, hq.waits_eq_false])

/-- YK.COLL (12:R377). -/
theorem collIssue_of_no_desc (hyk : isYk w 0x0B 4 0 = true) (hmay : (s.tile n).mayIssue false = true)
    (hbusy : (s.tile n).descBusy ((s.tile n).xr (rs1 w)).toNat 64 = false) (hd : (s.tile n).descAt ((s.tile n).xr (rs1 w)).toNat 64 = none) :
    collIssue s n = s.issueBad n (rd w) 4 .held := by
  unfold collIssue
  rw [Pkg.withInstr_of_fetches hf]
  dsimp only
  rw [if_neg (by simp [hyk, hmay, hq.waits_eq_false, hbusy]), hd]

theorem collIssue_of_desc (hyk : isYk w 0x0B 4 0 = true) (hmay : (s.tile n).mayIssue false = true)
    (hbusy : (s.tile n).descBusy ((s.tile n).xr (rs1 w)).toNat 64 = false) {d : List Byte}
    (hd : (s.tile n).descAt ((s.tile n).xr (rs1 w)).toNat 64 = some d) :
    collIssue s n = ((s.collCause ((s.tile n).part - 1) (collDesc d)).map (fun c => s.issueBad n (rd w) c .held)).getD (s.issueHeld n (rd w) (.coll d)) := by
  unfold collIssue
  rw [Pkg.withInstr_of_fetches hf]
  dsimp only
  rw [if_neg (by simp [hyk, hmay, hq.waits_eq_false, hbusy]), hd]
  dsimp only
  cases s.collCause ((s.tile n).part - 1) (collDesc d) <;> rfl

/-- YK.ELOAD (04:R153). -/
theorem eloadIssue_of_fetches (hyk : isYk w 0x0B 5 0 = true) {a b : Nat} (ha : a = ((s.tile n).xr (rs1 w)).toNat)
    (hb : b = ((s.tile n).xr (rs2 w)).toNat) :
    eloadIssue s n =
      if 32 ≤ (s.tile n).elist.length then s.trap n 2 (BitVec.ofNat 64 raw) true
      else if a % 64 ≠ 0 || !(dsOk a (b % 2 ^ 32)) || b % 2 ^ 32 < 64 || 0x80000 < b % 2 ^ 32 || b % 2 ^ 32 % 64 ≠ 0 || b / 2 ^ 32 % 64 ≠ 0
          || !(inLocal (b / 2 ^ 32) (b % 2 ^ 32)) then s.trap n 2 (BitVec.ofNat 64 raw)
      else s.retire n { s.tile n with elist := (s.tile n).elist ++ [(a, b % 2 ^ 32, b / 2 ^ 32)] } len ((s.tile n).useStall [rs1 w, rs2 w] + 1) := by
  subst ha hb
  unfold eloadIssue
  rw [Pkg.withInstr_of_fetches hf]
  dsimp only
  rw [if_neg (by simp [hyk, hq.waits_eq_false, hq.2]), Pkg.raiseExc_of_closed hq.2 _ _ true, Pkg.raiseExc_of_closed hq.2]

/-- YK.WAIT (04:R129). -/
theorem waitIssue_of_fetches (hyk : isYk w 0x0B 6 0 = true) :
    waitIssue s n = (((s.tile n).status (((s.tile n).xr (rs1 w)).toNat % 65536)).map (fun v =>
      s.retire n ((s.tile n).setX (rd w) (BitVec.ofNat 64 v)) len ((s.tile n).useStall [rs1 w] + 1))).getD s := by
  unfold waitIssue
  rw [Pkg.withInstr_of_fetches hf]
  dsimp only
  rw [if_neg (by simp [hyk, hq.waits_eq_false, hq.2])]
  cases (s.tile n).status (((s.tile n).xr (rs1 w)).toNat % 65536) <;> rfl

/-- YK.WAITALL (04:R129). -/
theorem waitallIssue_of_idle (hyk : isYk w 0x0B 6 1 = true) (hops : (s.tile n).ops = []) :
    waitallIssue s n = s.retire n ((s.tile n).setX (rd w) (BitVec.ofNat 64 (((s.tile n).lowBad.map (fun x => x.2)).getD 0))) len 1 := by
  unfold waitallIssue
  rw [Pkg.withInstr_of_fetches hf]
  dsimp only
  rw [if_neg (by simp [hyk, hops, hq.2])]
  cases (s.tile n).lowBad <;> rfl

omit hq in
theorem waitallIssue_of_busy (hops : (s.tile n).ops ≠ []) : waitallIssue s n = s := by
  unfold waitallIssue
  rw [Pkg.withInstr_of_fetches hf]
  exact if_pos (by simp [hops])

theorem plyMark_of_idle (hyk : isYk w 0x2B 0 0 = true) (hops : (s.tile n).ops = []) : plyMark s n = s.mark n len none := by
  unfold plyMark
  rw [Pkg.withInstr_of_fetches hf]
  exact if_pos (by simp [hyk, hops, hq.2])

theorem frameEnd_of_idle (hyk : isYk w 0x2B 1 0 = true ∨ isYk w 0x2B 1 1 = true) (hops : (s.tile n).ops = []) :
    frameEnd s n = s.mark n len (some (decide (f7 w = 1))) := by
  unfold frameEnd
  rw [Pkg.withInstr_of_fetches hf]
  exact if_pos (by simp [hyk, hops, hq.2])

/-- YK.RELW (04:R138). -/
theorem relwIssue_of_fetches (hyk : isYk w 0x2B 2 0 = true) {a b : Nat} (ha : a = ((s.tile n).xr (rs1 w)).toNat) (hb : b = ((s.tile n).xr (rs2 w)).toNat) :
    relwIssue s n =
      if a % 8 ≠ 0 then s.trap n 7 (BitVec.ofNat 64 a)
      else if !(s.ownRange ((s.tile n).part - 1) a 8) then (s.addrError ((s.tile n).part - 1) a 8).raiseExc n 7 (BitVec.ofNat 64 a)
      else if !((s.tile n).mayIssue false) then s
      else s.issueHeld n 0 (.rel a b) := by
  subst ha hb
  unfold relwIssue
  rw [Pkg.withInstr_of_fetches hf]
  dsimp only
  rw [if_neg (by simp [hyk, hq.waits_eq_false, hq.2]), Pkg.raiseExc_of_closed hq.2]

/-- YK.WAITW (04:R139). -/
theorem waitwIssue_of_fetches (hyk : isYk w 0x2B 3 0 = true) {a b : Nat} (ha : a = ((s.tile n).xr (rs1 w)).toNat) (hb : b = ((s.tile n).xr (rs2 w)).toNat) :
    waitwIssue s n =
      if a % 8 ≠ 0 then s.trap n 5 (BitVec.ofNat 64 a)
      else if !(s.ownRange ((s.tile n).part - 1) a 8) then (s.addrError ((s.tile n).part - 1) a 8).raiseExc n 5 (BitVec.ofNat 64 a)
      else if b ≤ s.dword a then s.waitwDone n (rd w) len (s.dword a)
      else (s.spanMark n).setTile n { (s.spanMark n).tile n with waitw := some (rd w, a, b, (s.spanMark n).tempo.now) } := by
  subst ha hb
  unfold waitwIssue
  rw [Pkg.withInstr_of_fetches hf]
  dsimp only
  rw [if_neg (by simp [hyk, hq.waits_eq_false, hq.2]), Pkg.raiseExc_of_closed hq.2]

end

@[simp] theorem Pkg.tile_addrError (s : Pkg) (p a m u : Nat) : (s.addrError p a m).tile u = s.tile u := by
  unfold Pkg.addrError
  dsimp only
  split
  · rw [Pkg.tile_bump, Pkg.tile_bump]
  · rw [Pkg.tile_bump]

@[simp] theorem Pkg.tile_peak (s : Pkg) (i j m u : Nat) : (s.peak i j m).tile u = s.tile u := by
  unfold Pkg.peak
  split <;> rfl

/-- A mark that closes no gambit ply: the ply's buffer drains, or its last cycle brings the count to the cap (03:R96, 04:R154). -/
theorem Pkg.mark_of_committed {s : Pkg} {n : Nat} (hgambit : (s.tile n).gambit = false) (len : Nat) (fend : Option Bool) :
    s.mark n len fend =
      let k := (s.cycles n 1).setTile n { (s.tile n).adv len 1 with fend := fend }
      if (s.part ((s.tile n).part - 1)).mem.cap * 1500 ≤ (s.tile n).active + 1 then k.killTile n 0x0106 [] else k.drain n := by
  have hcap : ((s.cycles n 1).setTile n { (s.tile n).adv len 1 with fend := fend }).atCap n
      = decide ((s.part ((s.tile n).part - 1)).mem.cap * 1500 ≤ (s.tile n).active + 1) := by
    unfold Pkg.atCap
    dsimp only
    rw [Pkg.tile_setTile]
    show decide ((((s.cycles n 1).part _).mem.cap) * 1500 ≤ _) = _
    unfold Pkg.cycles
    rw [Pkg.part_bump]
    rfl
  unfold Pkg.mark
  dsimp only
  rw [hcap, hgambit]
  by_cases h : (s.part ((s.tile n).part - 1)).mem.cap * 1500 ≤ (s.tile n).active + 1
  · rw [if_pos (decide_eq_true h), if_pos h]
  · rw [if_neg (by simpa using h), if_neg h]
    rfl

section
variable {s : Pkg} {n : Nat} (r : Nat) (h : Held) (hheld : (s.tile n).heldBefore (s.tile n).ticket = false)
include hheld

/-- A held operation that finds the buffer full stops the tile (06:R205). -/
theorem Pkg.issueHeld_of_full (hfull : 2032 < (s.tile n).units + 1) :
    s.issueHeld n r h = (s.bump (0x3860 + ((s.tile n).part - 1)) 0x0A 1).killTile n 0x0107 [] := by
  unfold Pkg.issueHeld
  dsimp only
  rw [if_neg (Bool.eq_false_iff.1 hheld)]
  unfold Pkg.holdOp
  exact if_pos hfull

/-- The tile as a held operation takes its unit. -/
def Tile.withHeld (t : Tile) (h : Held) : Tile := { t with buf := t.buf ++ [(t.ticket, h)], units := t.units + 1 }

theorem Pkg.issueHeld_of_room (hroom : (s.tile n).units + 1 ≤ 2032) :
    s.issueHeld n r h = (((s.peak (0x3860 + ((s.tile n).part - 1)) 9 ((s.tile n).units + 1)).setTile n ((s.tile n).withHeld h)).issue n r
      { kind := .held }).finishOp n { kind := .held, ticket := (s.tile n).ticket } {} := by
  unfold Pkg.issueHeld
  dsimp only
  rw [if_neg (Bool.eq_false_iff.1 hheld)]
  unfold Pkg.holdOp
  exact if_neg (Nat.not_lt.2 hroom)

end

section
variable (t : Tile)

/-- The buffer, its units and the next ticket: what a register write leaves. -/
theorem Tile.setX_keeps_ply (i : Nat) (v : Word) : (t.setX i v).buf = t.buf ∧ (t.setX i v).units = t.units ∧ (t.setX i v).ticket = t.ticket := by
  unfold Tile.setX
  split <;> exact ⟨rfl, rfl, rfl⟩

theorem Tile.setX_keeps_wait (i : Nat) (v : Word) :
    (t.setX i v).waitw = t.waitw ∧ (t.setX i v).spanCyc = t.spanCyc ∧ (t.setX i v).spanFrom = t.spanFrom ∧ (t.setX i v).core.pc = t.core.pc := by
  unfold Tile.setX
  split <;> exact ⟨rfl, rfl, rfl, rfl⟩

theorem Tile.xr_setX_same {i : Nat} (hi : i ≠ 0) (v : Word) : (t.setX i v).xr i = v := by
  unfold Tile.setX Tile.xr
  rw [if_neg hi, if_neg hi]
  exact Tab.get_set_self _ _ _ _

end

/-- Of two writes of a tile the later stands, where the first left an entry. -/
theorem Pkg.setTile_setTile (s : Pkg) (n : Nat) {x : Tile} (y : Tile) (h : x ≠ {}) : (s.setTile n x).setTile n y = s.setTile n y := by
  simp only [Pkg.setTile, Tab.set_set _ _ _ h]

/-- A tile that executes is no unloaded one. -/
theorem Tile.ne_of_running {t : Tile} (h : t.mode = .running) : t ≠ {} := by
  rintro rfl
  exact absurd h (by decide)

theorem Pkg.running_of_runs {s : Pkg} {n : Nat} (h : s.runs n = true) : (s.tile n).mode = .running := by
  simp only [Pkg.runs, Bool.and_eq_true, beq_iff_eq] at h
  obtain ⟨⟨⟨hmode, -⟩, -⟩, -⟩ := h
  exact hmode

theorem Pkg.tile_retire (s : Pkg) (n : Nat) (t : Tile) (len cyc : Nat) : (s.retire n t len cyc).tile n = t.adv len cyc := Pkg.tile_setTile _ _ _

/-- A held operation in the buffer: its place there, its units, and its ticket, which has ended DONE (04:R132, 06:R205). -/
theorem Pkg.tile_issueHeld {s : Pkg} {n : Nat} (r : Nat) (h : Held) (hheld : (s.tile n).heldBefore (s.tile n).ticket = false)
    (hroom : (s.tile n).units + 1 ≤ 2032) :
    let t := s.tile n
    let u := (s.issueHeld n r h).tile n
    u.buf = t.buf ++ [(t.ticket, h)] ∧ u.units = t.units + 1 ∧ u.ticket = t.ticket + 1 ∧ Tab.find u.done t.ticket = some 0 := by
  intro t u
  have hu : u = (((((s.peak (0x3860 + ((s.tile n).part - 1)) 9 ((s.tile n).units + 1)).setTile n (t.withHeld h)).issue n r
      { kind := .held }).tile n).merged { kind := .held, ticket := t.ticket, staged := some {} } {}).endTicket t.ticket 0 0 := by
    show (s.issueHeld n r h).tile n = _
    rw [s.issueHeld_of_room r h hheld hroom, Pkg.finishOp_of_plain _ n rfl, Pkg.tile_mergeOp _ n rfl]
  have hissue (k : Pkg) (o : EngOp) : ((k.issue n r o).tile n).buf = (k.tile n).buf ∧ ((k.issue n r o).tile n).units = (k.tile n).units
      ∧ ((k.issue n r o).tile n).ticket = (k.tile n).ticket + 1 := by
    unfold Pkg.issue
    dsimp only
    rw [Pkg.tile_retire]
    exact Tile.setX_keeps_ply _ r _
  obtain ⟨hbuf, hunits, hticket⟩ := hissue ((s.peak (0x3860 + ((s.tile n).part - 1)) 9 ((s.tile n).units + 1)).setTile n (t.withHeld h)) { kind := .held }
  rw [Pkg.tile_setTile] at hbuf hunits hticket
  rw [hu]
  exact ⟨hbuf, hunits, hticket, if_pos rfl⟩

section
variable {s : Pkg} {n r a v since : Nat} (hw : (s.tile n).waitw = some (r, a, v, since))
include hw

theorem waitwWake_of_below (hbelow : s.dword a < v) : waitwWake s n = s := by
  unfold waitwWake
  dsimp only
  rw [hw]
  exact if_pos hbelow

theorem waitwWake_of_reached (hreached : v ≤ s.dword a) :
    waitwWake s n = (s.setTile n { s.tile n with spanFrom := s.tempo.now }).waitwDone n r 4 (s.dword a) := by
  unfold waitwWake
  dsimp only
  rw [hw]
  exact if_neg (Nat.not_lt.2 hreached)

theorem waitwTimeout_of_late (hlate : since + 50000000 ≤ s.tempo.now) (hbelow : s.dword a < v) : waitwTimeout s n = s.stopTile n 3 := by
  unfold waitwTimeout
  rw [hw]
  exact if_pos (by simp [hlate, hbelow])

theorem waitwTimeout_of_early (hearly : s.tempo.now < since + 50000000) : waitwTimeout s n = s := by
  unfold waitwTimeout
  rw [hw]
  exact if_neg (by simp [Nat.not_le.2 hearly])

end

/-- The tile as its awaited word comes (04:R139). -/
theorem Pkg.waitwDone_facts (s : Pkg) (n r len v : Nat) :
    let k := s.waitwDone n r len v
    (k.tile n).waitw = none ∧ (r ≠ 0 → (k.tile n).xr r = BitVec.ofNat 64 v) ∧ (k.tile n).core.pc = (s.tile n).core.pc + BitVec.ofNat 64 len
      ∧ (k.tile n).spanCyc = (s.tile n).spanCyc ∧ (k.tile n).spanFrom = (s.tile n).spanFrom ∧ k.dstore = s.dstore := by
  intro k
  have hk : k.tile n = ({ s.tile n with waitw := none }.setX r (BitVec.ofNat 64 v)).adv len ((s.tile n).issueStall + 1) := Pkg.tile_retire _ _ _ _ _
  obtain ⟨hwait, hcyc, hfrom, hpc⟩ := Tile.setX_keeps_wait { s.tile n with waitw := none } r (BitVec.ofNat 64 v)
  rw [hk]
  refine ⟨hwait, fun hr => ?_, congrArg (· + BitVec.ofNat 64 len) hpc, hcyc, hfrom, ?_⟩
  · exact Tile.xr_setX_same _ hr _
  · exact Pkg.keeps_of_bare (s := s.cycles n ((s.tile n).issueStall + 1)) Pkg.dstore (fun _ => rfl) (s.bare_bump _ _ _)

end Sys2Proof

namespace Sys2Proof.Machine

open Sys2Proof Rv

section
variable {s : State} {n w len raw : Nat} (hf : s.pkg.fetches n w len raw) (hq : (s.pkg.tile n).quiet)
include hf hq

/-- YK.SOLVE: a sound header is held; a bad operand ends DESC_INVALID with its cause. -/
theorem solve_rows (hyk : isYk w 0x0B 3 0 = true) (hmay : (s.pkg.tile n).mayIssue false = true) :
    let t := s.pkg.tile n
    let a := (t.xr (rs1 w)).toNat
    let b := (t.xr (rs2 w)).toNat
    (a % 64 ≠ 0 ∨ dsOk a 128 = false ∨ dieOf a ≠ n / 128 → Gives (.ykSolve n) s (s.pkg.issueBad n (rd w) 1 .held))
    ∧ (a % 64 = 0 → dsOk a 128 = true → dieOf a = n / 128 → b = 0 ∨ 4096 < b → Gives (.ykSolve n) s (s.pkg.issueBad n (rd w) 2 .held))
    ∧ (a % 64 = 0 → dsOk a 128 = true → dieOf a = n / 128 → 0 < b → b ≤ 4096 → Gives (.ykSolve n) s (s.pkg.issueHeld n (rd w) (.solve a b))) := by
  intro t a b
  have hsolve := solveIssue_of_fetches hf hq hyk hmay (a := a) (b := b) rfl rfl
  have hgives {k : Pkg} (hk : solveIssue s.pkg n = k) : Gives (.ykSolve n) s k := gives_onTile (exec_ykSolve n s) hf.1 hf.2.1 hk
  have hgood (hal : a % 64 = 0) (hok : dsOk a 128 = true) (hdie : dieOf a = n / 128) :
      ¬(decide (a % 64 ≠ 0) || !(dsOk a 128) || decide (dieOf a ≠ n / 128)) = true := by
    rw [hok, decide_eq_false (not_not_intro hal), decide_eq_false (not_not_intro hdie)]
    decide
  refine ⟨fun hbad => hgives (hsolve.trans (if_pos ?_)), fun hal hok hdie hb => hgives (hsolve.trans ((if_neg (hgood hal hok hdie)).trans (if_pos ?_))),
    fun hal hok hdie hb0 hb => hgives (hsolve.trans ((if_neg (hgood hal hok hdie)).trans (if_neg ?_)))⟩
  · simpa [or_assoc] using hbad
  · simpa using hb
  · simp only [Bool.or_eq_true, decide_eq_true_eq]
    omega

/-- YK.COLL. -/
theorem coll_rows (hyk : isYk w 0x0B 4 0 = true) (hmay : (s.pkg.tile n).mayIssue false = true)
    (hbusy : (s.pkg.tile n).descBusy ((s.pkg.tile n).xr (rs1 w)).toNat 64 = false) :
    let t := s.pkg.tile n
    let a := (t.xr (rs1 w)).toNat
    (t.descAt a 64 = none → Gives (.ykColl n) s (s.pkg.issueBad n (rd w) 4 .held))
    ∧ (∀ d c, t.descAt a 64 = some d → s.pkg.collCause (t.part - 1) (collDesc d) = some c → Gives (.ykColl n) s (s.pkg.issueBad n (rd w) c .held))
    ∧ (∀ d, t.descAt a 64 = some d → s.pkg.collCause (t.part - 1) (collDesc d) = none → Gives (.ykColl n) s (s.pkg.issueHeld n (rd w) (.coll d))) := by
  intro t a
  have hgives {k : Pkg} (hk : collIssue s.pkg n = k) : Gives (.ykColl n) s k := gives_onTile (exec_ykColl n s) hf.1 hf.2.1 hk
  refine ⟨fun hd => hgives (collIssue_of_no_desc hf hq hyk hmay hbusy hd), fun d c hd hc => hgives ?_, fun d hd hc => hgives ?_⟩
  · rw [collIssue_of_desc hf hq hyk hmay hbusy hd, show s.pkg.collCause ((s.pkg.tile n).part - 1) (collDesc d) = some c from hc]
    rfl
  · rw [collIssue_of_desc hf hq hyk hmay hbusy hd, show s.pkg.collCause ((s.pkg.tile n).part - 1) (collDesc d) = none from hc]
    rfl

/-- YK.ELOAD. -/
theorem eload_rows (hyk : isYk w 0x0B 5 0 = true) :
    let t := s.pkg.tile n
    let a := (t.xr (rs1 w)).toNat
    let b := (t.xr (rs2 w)).toNat
    (32 ≤ t.elist.length → Gives (.ykEload n) s (s.pkg.trap n 2 (BitVec.ofNat 64 raw) true))
    ∧ (t.elist.length < 32 → a % 64 = 0 → dsOk a (b % 2 ^ 32) = true → 64 ≤ b % 2 ^ 32 → b % 2 ^ 32 ≤ 0x80000 → b % 2 ^ 32 % 64 = 0 →
        b / 2 ^ 32 % 64 = 0 → inLocal (b / 2 ^ 32) (b % 2 ^ 32) = true → Gives (.ykEload n) s
          (s.pkg.retire n { t with elist := t.elist ++ [(a, b % 2 ^ 32, b / 2 ^ 32)] } len (t.useStall [rs1 w, rs2 w] + 1)))
    ∧ (t.elist.length < 32 → a % 64 ≠ 0 → Gives (.ykEload n) s (s.pkg.trap n 2 (BitVec.ofNat 64 raw))) := by
  intro t a b
  have heload := eloadIssue_of_fetches hf hq hyk (a := a) (b := b) rfl rfl
  have hgives {k : Pkg} (hk : eloadIssue s.pkg n = k) : Gives (.ykEload n) s k := gives_onTile (exec_ykEload n s) hf.1 hf.2.1 hk
  refine ⟨fun hlen => hgives (heload.trans (if_pos hlen)), fun hlen hal hok hmin hmax hk hl hloc => hgives ?_, fun hlen hal => hgives ?_⟩
  · refine heload.trans ((if_neg (Nat.not_le.2 hlen)).trans (if_neg ?_))
    rw [hok, hloc, decide_eq_false (not_not_intro hal), decide_eq_false (Nat.not_lt.2 hmin), decide_eq_false (Nat.not_lt.2 hmax),
      decide_eq_false (not_not_intro hk), decide_eq_false (not_not_intro hl)]
    decide
  · refine heload.trans ((if_neg (Nat.not_le.2 hlen)).trans (if_pos ?_))
    rw [decide_eq_true hal]
    rfl

/-- YK.WAIT and YK.WAITALL. -/
theorem wait_rows (hyk : isYk w 0x0B 6 0 = true) :
    let t := s.pkg.tile n
    let a := (t.xr (rs1 w)).toNat
    (∀ v, t.status (a % 65536) = some v → Gives (.ykWait n) s (s.pkg.retire n (t.setX (rd w) (BitVec.ofNat 64 v)) len (t.useStall [rs1 w] + 1)))
    ∧ (t.status (a % 65536) = none → exec (.ykWait n) s = .next s) := by
  intro t a
  have hwait := gives_onTile (exec_ykWait n s) hf.1 hf.2.1 (waitIssue_of_fetches hf hq hyk)
  refine ⟨fun v hv => ?_, fun hv => ?_⟩
  · rw [show (s.pkg.tile n).status _ = some v from hv] at hwait
    exact hwait
  · rw [show (s.pkg.tile n).status _ = none from hv] at hwait
    exact hwait

theorem waitall_rows (hyk : isYk w 0x0B 6 1 = true) :
    let t := s.pkg.tile n
    (t.ops = [] → Gives (.ykWaitall n) s (s.pkg.retire n (t.setX (rd w) (BitVec.ofNat 64 ((t.lowBad.map (fun x => x.2)).getD 0))) len 1))
    ∧ (t.ops ≠ [] → exec (.ykWaitall n) s = .next s) :=
  ⟨fun hops => gives_onTile (exec_ykWaitall n s) hf.1 hf.2.1 (waitallIssue_of_idle hf hq hyk hops),
    fun hops => gives_onTile (exec_ykWaitall n s) hf.1 hf.2.1 (waitallIssue_of_busy hf hops)⟩

/-- YK.PLY and YK.FEND with nothing outstanding: what the mark makes of the package. -/
theorem mark_rows (hops : (s.pkg.tile n).ops = []) {k : Option Bool → Pkg} (hk : ∀ f, s.pkg.mark n len f = k f) :
    (isYk w 0x2B 0 0 = true → Gives (.ykPly n) s (k none)) ∧ (isYk w 0x2B 1 0 = true → Gives (.ykFend n) s (k (some false)))
    ∧ (isYk w 0x2B 1 1 = true → Gives (.ykFend n) s (k (some true))) := by
  have hf7 {g : Nat} (hyk : isYk w 0x2B 1 g = true) : f7 w = g := by
    unfold isYk at hyk
    exact of_decide_eq_true (Bool.and_eq_true_iff.1 hyk).2
  refine ⟨fun hyk => gives_onTile (exec_ykPly n s) hf.1 hf.2.1 ((plyMark_of_idle hf hq hyk hops).trans (hk _)), fun hyk => ?_, fun hyk => ?_⟩
  · have hmark := frameEnd_of_idle hf hq (.inl hyk) hops
    rw [hf7 hyk] at hmark
    exact gives_onTile (exec_ykFend n s) hf.1 hf.2.1 (hmark.trans (hk _))
  · have hmark := frameEnd_of_idle hf hq (.inr hyk) hops
    rw [hf7 hyk] at hmark
    exact gives_onTile (exec_ykFend n s) hf.1 hf.2.1 (hmark.trans (hk _))

/-- YK.RELW. -/
theorem relw_rows (hyk : isYk w 0x2B 2 0 = true) :
    let t := s.pkg.tile n
    let p := t.part - 1
    let a := (t.xr (rs1 w)).toNat
    let b := (t.xr (rs2 w)).toNat
    (a % 8 ≠ 0 → Gives (.ykRelw n) s (s.pkg.trap n 7 (BitVec.ofNat 64 a)))
    ∧ (a % 8 = 0 → s.pkg.ownRange p a 8 = false → Gives (.ykRelw n) s ((s.pkg.addrError p a 8).trap n 7 (BitVec.ofNat 64 a)))
    ∧ (a % 8 = 0 → s.pkg.ownRange p a 8 = true → t.mayIssue false = true → Gives (.ykRelw n) s (s.pkg.issueHeld n 0 (.rel a b))) := by
  intro t p a b
  have hrelw := relwIssue_of_fetches hf hq hyk (a := a) (b := b) rfl rfl
  have hgives {k : Pkg} (hk : relwIssue s.pkg n = k) : Gives (.ykRelw n) s k := gives_onTile (exec_ykRelw n s) hf.1 hf.2.1 hk
  refine ⟨fun hal => hgives (hrelw.trans (if_pos hal)), fun hal hown => hgives ?_, fun hal hown hmay => hgives ?_⟩
  · refine hrelw.trans ((if_neg (not_not_intro hal)).trans ((if_pos (by rw [hown]; rfl)).trans (Pkg.raiseExc_of_closed ?_ _ _)))
    rw [Pkg.tile_addrError]
    exact hq.2
  · exact hrelw.trans ((if_neg (not_not_intro hal)).trans ((if_neg (by rw [hown]; decide)).trans (if_neg (by rw [hmay]; decide))))

/-- YK.WAITW. -/
theorem waitw_rows (hyk : isYk w 0x2B 3 0 = true) :
    let t := s.pkg.tile n
    let p := t.part - 1
    let a := (t.xr (rs1 w)).toNat
    let b := (t.xr (rs2 w)).toNat
    (a % 8 ≠ 0 → Gives (.ykWaitw n) s (s.pkg.trap n 5 (BitVec.ofNat 64 a)))
    ∧ (a % 8 = 0 → s.pkg.ownRange p a 8 = true → b ≤ s.pkg.dword a → Gives (.ykWaitw n) s
        (s.pkg.retire n ({ t with waitw := none }.setX (rd w) (BitVec.ofNat 64 (s.pkg.dword a))) len (t.issueStall + 1)))
    ∧ (a % 8 = 0 → s.pkg.ownRange p a 8 = true → s.pkg.dword a < b → Gives (.ykWaitw n) s
        (s.pkg.setTile n { t with waitw := some (rd w, a, b, s.pkg.tempo.now), spanCyc := s.pkg.span n, spanFrom := s.pkg.tempo.now })) := by
  intro t p a b
  have hwaitw := waitwIssue_of_fetches hf hq hyk (a := a) (b := b) rfl rfl
  have hgives {k : Pkg} (hk : waitwIssue s.pkg n = k) : Gives (.ykWaitw n) s k := gives_onTile (exec_ykWaitw n s) hf.1 hf.2.1 hk
  have hgoes (hal : a % 8 = 0) (hown : s.pkg.ownRange p a 8 = true) := hwaitw.trans ((if_neg (not_not_intro hal)).trans (if_neg (by rw [hown]; decide)))
  refine ⟨fun hal => hgives (hwaitw.trans (if_pos hal)), fun hal hown hb => hgives ((hgoes hal hown).trans (if_pos hb)),
    fun hal hown hb => hgives ((hgoes hal hown).trans ((if_neg (Nat.not_le.2 hb)).trans ?_))⟩
  unfold Pkg.spanMark
  rw [Pkg.tile_setTile]
  refine Pkg.setTile_setTile _ _ _ (Tile.ne_of_running ?_)
  exact Pkg.running_of_runs hf.2.2.1

end

/-- Settles O39: the engine-issue instructions of a quiet tile, the place of a held operation, and the wakes of a wait. -/
theorem plyInstructions : Obligations.PlyInstructions := by
  unfold Obligations.PlyInstructions
  intro s n t p
  refine ⟨fun w len raw hf hq => ?_, fun r h hheld hfull => Pkg.issueHeld_of_full r h hheld hfull, fun r h hheld hroom _ => Pkg.tile_issueHeld r h hheld hroom,
    fun r a v since hn hon hw => ⟨fun hbelow => ?_, fun hreached => ?_, fun hlate hbelow => ?_, fun hearly => ?_⟩⟩
  · intro a b st
    refine ⟨solve_rows hf hq, coll_rows hf hq, eload_rows hf hq, wait_rows hf hq, waitall_rows hf hq, fun hops hgambit => ?_, relw_rows hf hq, waitw_rows hf hq⟩
    intro marked
    refine ⟨fun hcap => mark_rows hf hq hops (k := fun f => (marked f).drain n) fun f => ?_, fun hcap => ?_⟩
    · exact (Pkg.mark_of_committed hgambit len f).trans (if_neg (Nat.not_le.2 hcap))
    · obtain ⟨hply, hfend, -⟩ := mark_rows hf hq hops fun f => (Pkg.mark_of_committed hgambit len f).trans (if_pos hcap)
      exact ⟨hply, hfend⟩
  · exact gives_onTile (exec_waitwWake n s) hn hon (waitwWake_of_below hw hbelow)
  · refine ⟨_, gives_onTile (exec_waitwWake n s) hn hon (waitwWake_of_reached hw hreached), ?_⟩
    have hfacts := (s.pkg.setTile n { t with spanFrom := s.pkg.tempo.now }).waitwDone_facts n r 4 (s.pkg.dword a)
    rw [Pkg.tile_setTile] at hfacts
    exact hfacts
  · exact gives_onTile (exec_waitwTimeout n s) hn hon (waitwTimeout_of_late hw hlate hbelow)
  · exact gives_onTile (exec_waitwTimeout n s) hn hon (waitwTimeout_of_early hw hearly)

end Sys2Proof.Machine
end

section
/-!
PROOF. What a committed ply releases moves no clock: sends, submissions, contributions and packet reads leave the Tempo counter as it is (03:R94).
-/

namespace Sys2Proof

open Sys2Proof.Machine

/-- The Tempo counter. -/
def Pkg.now (s : Pkg) : Nat := s.tempo.now

theorem Pkg.now_of_rest {s t : Pkg} (h : s.rest = t.rest) : s.now = t.now := Pkg.keeps_of_rest Pkg.now (fun _ => rfl) h

section
variable (s : Pkg)

@[simp] theorem Pkg.bump_now (i j n : Nat) : (s.bump i j n).now = s.now := Pkg.now_of_rest (s.bump_rest i j n)
@[simp] theorem Pkg.peak_now (i j n : Nat) : (s.peak i j n).now = s.now := Pkg.now_of_rest (s.peak_rest i j n)
@[simp] theorem Pkg.raise_now (code part : Nat) (items : List Nat) (raw : List Byte) : (s.raise code part items raw).now = s.now :=
  Pkg.now_of_rest (s.raise_rest code part items raw)
@[simp] theorem Pkg.outOfScope_now (r : CRec) (ps : List Nat) : (s.outOfScope r ps).now = s.now :=
  congrArg (fun f : Fw × Power × Pins × Tap × Tab Pcie × Tab LPort × Nat × Nat => f.2.2.2.2.2.2.1) (s.outOfScope_firm r ps)

theorem Pkg.withTier_now (x : Tier) : Pkg.now { s with tier := x } = s.now := rfl
theorem Pkg.withNet_now (x : Fabric) : Pkg.now { s with net := x } = s.now := rfl
@[simp] theorem Pkg.setJob_now (j : TJob) : (s.setJob j).now = s.now := rfl
@[simp] theorem Pkg.endJob_now (id : Nat) : (s.endJob id).now = s.now := rfl

/-- Frames of a Lenpel port (10:R302, R309). -/
@[simp] theorem Pkg.setLport_now (q : Nat) (x : LPort) : (s.setLport q x).now = s.now := rfl
@[simp] theorem Pkg.emit_now (o : Out) : (s.emit o).now = s.now := rfl

@[simp] theorem Pkg.lsend_now (q : Nat) (h : LHdr) (data : List Byte) : (s.lsend q h data).now = s.now := by
  simp only [Pkg.lsend, apply_ite Pkg.now, Pkg.emit_now, Pkg.setLport_now, ite_self]

@[simp] theorem Pkg.lput_now (q : Nat) (f : LFrame) : (s.lput q f).now = s.now := by
  simp only [Pkg.lput, Pkg.lemit, apply_ite Pkg.now, Pkg.lsend_now, Pkg.setLport_now, ite_self]

@[simp] theorem Pkg.lseq_now (q : Nat) (f : LFrame) : (s.lseq q f).now = s.now := by
  simp only [Pkg.lseq, Pkg.lput_now, Pkg.setLport_now]

end

@[simp] theorem Pkg.lpump_now (q fuel : Nat) (s : Pkg) : (s.lpump q fuel).now = s.now := by
  induction fuel generalizing s with
  | zero => rfl
  | succ fuel ih =>
    rw [Pkg.lpump]
    dsimp only
    split
    · rfl
    · split
      · rfl
      · rw [ih, Pkg.foldl_keeps Pkg.now fun k (f : LFrame) => k.lseq_now q f, Pkg.setLport_now]

section
variable (s : Pkg)

@[simp] theorem Pkg.lcmd_now (q : Nat) (c : LCmd) (data : List Byte) : (s.lcmd q c data).now = s.now := by
  simp only [Pkg.lcmd, Pkg.lpump_now, Pkg.setLport_now]

/-- Jobs of the board tier (09:R289, R290). -/
@[simp] theorem Pkg.askSlot_now (j : TJob) (slot : Nat) : (s.askSlot j slot).now = s.now := s.lcmd_now _ _ _

@[simp] theorem Pkg.tierLost_now (g q : Nat) : (s.tierLost g q).now = s.now := by
  simp only [Pkg.tierLost, Pkg.outOfScope_now, Pkg.raise_now]

@[simp] theorem Pkg.writeSlot_now (j : TJob) (slot : Nat) (st : List Byte) : (s.writeSlot j slot st).1.now = s.now := by
  simp only [Pkg.writeSlot, apply_ite Prod.fst, apply_ite Pkg.now, Pkg.lcmd_now, ite_self]

end

/-- What each step of a fold over a package and a value keeps of the package, the fold keeps. -/
theorem Pkg.foldl_fst_now {α β : Type} {f : Pkg × β → α → Pkg × β} (hf : ∀ x a, (f x a).1.now = x.1.now) (l : List α) (x : Pkg × β) :
    (l.foldl f x).1.now = x.1.now :=
  List.foldlRecOn (motive := fun y => y.1.now = x.1.now) l f rfl fun y hy a _ => (hf y a).trans hy

/-- One slot given to its port, with the acknowledgements to come. -/
def Pkg.giveSlot (j : TJob) (acc : Pkg × Nat) (w : Nat × List Byte) : Pkg × Nat :=
  let (s, k) := acc.1.writeSlot j w.1 w.2
  (s, acc.2 + k)

theorem Pkg.giveSlot_now (j : TJob) (acc : Pkg × Nat) (w : Nat × List Byte) : (Pkg.giveSlot j acc w).1.now = acc.1.now := by
  unfold Pkg.giveSlot
  dsimp only
  rw [Pkg.writeSlot_now]

theorem Pkg.writeSlots_eq (s : Pkg) (j : TJob) (ws : List (Nat × List Byte)) :
    s.writeSlots j ws =
      let r := ws.foldl (Pkg.giveSlot j) (s, 0)
      if r.2 = 0 then r.1.endJob j.id else r.1.setJob { j with acks := r.2, writing := true } := rfl

section
variable (s : Pkg)

@[simp] theorem Pkg.writeSlots_now (j : TJob) (ws : List (Nat × List Byte)) : (s.writeSlots j ws).now = s.now := by
  have hws : (ws.foldl (Pkg.giveSlot j) (s, 0)).1.now = s.now := Pkg.foldl_fst_now (Pkg.giveSlot_now j) ws _
  rw [Pkg.writeSlots_eq]
  dsimp only
  rw [apply_ite Pkg.now, Pkg.endJob_now, Pkg.setJob_now, ite_self, hws]

@[simp] theorem Pkg.jobStep_now (id : Nat) : (s.jobStep id).now = s.now := by
  unfold Pkg.jobStep
  split
  · rfl
  dsimp only
  split
  · rfl
  split
  · rw [Pkg.tierLost_now, Pkg.endJob_now]
  split
  · rw [Pkg.foldl_keeps Pkg.now fun k (slot : Nat) => k.askSlot_now _ slot, Pkg.setJob_now]
  split
  · rw [Pkg.writeSlots_now, Pkg.setJob_now]
  · split
    · rw [Pkg.writeSlots_now, Pkg.setJob_now]
    · rw [Pkg.writeSlots_now, Pkg.setJob_now]
  · rw [Pkg.foldl_keeps Pkg.now fun k (w : Nat × List Byte) => k.writeSlot_now _ w.1 w.2, Pkg.setJob_now, Pkg.setJob_now]

@[simp] theorem Pkg.startJob_now (j : TJob) : (s.startJob j).now = s.now := by
  simp only [Pkg.startJob, apply_ite Pkg.now, Pkg.jobStep_now, Pkg.withTier_now, ite_self]

@[simp] theorem Pkg.readPacket_now (use : TierUse) (r i : Nat) : (s.readPacket use r i).now = s.now := s.startJob_now _

@[simp] theorem Pkg.tierMove_now (n : Nat) (d : List Byte) : (s.tierMove n d).now = s.now := by
  unfold Pkg.tierMove
  dsimp only
  rw [Pkg.foldl_keeps Pkg.now fun k (i : Nat) => k.readPacket_now _ _ _, Pkg.bump_now]
  rfl

/-- Writes on their way and applied (03:R94, 09:R265). -/
@[simp] theorem Pkg.sendWrite_now (w : DWrite) : (s.sendWrite w).now = s.now := rfl

@[simp] theorem Pkg.sendNext_now (w : DWrite) : (s.sendNext w).now = s.now := by
  unfold Pkg.sendNext
  dsimp only
  split <;> rfl

@[simp] theorem Pkg.dstorePut_now (a : Nat) (d : List Byte) : (s.dstorePut a d).now = s.now := Pkg.now_of_rest (s.dstorePut_rest a d)

@[simp] theorem Pkg.applyWrite_now (w : DWrite) : (s.applyWrite w).now = s.now := Pkg.now_of_rest (s.applyWrite_rest w)

@[simp] theorem Pkg.applyOne_now (die tile : Nat) (w : DWrite) : (s.applyOne die tile w).now = s.now := by
  unfold Pkg.applyOne
  dsimp only
  split
  · rfl
  · exact Pkg.applyWrite_now _ _

@[simp] theorem Pkg.applyTileWrites_now (n : Nat) : (s.applyTileWrites n).now = s.now := by
  unfold Pkg.applyTileWrites
  exact Pkg.foldl_keeps Pkg.now (fun k (e : Nat × SDie) => Pkg.foldl_keeps Pkg.now (fun m (w : DWrite) => m.applyOne_now e.1 (n + 1) w) _ k) _ _

@[simp] theorem Pkg.release_now (w : DWrite) (lines : List Nat) : (s.release w lines).now = s.now := by
  unfold Pkg.release
  dsimp only
  split
  · exact Pkg.applyWrite_now _ _
  · rfl

/-- The commit queues of a C-die (07:R211, 11:R354). -/
@[simp] theorem Pkg.queueSend_now (n node addr : Nat) (d : List Byte) : (s.queueSend n node addr d).now = s.now := rfl

@[simp] theorem Pkg.solveSubmit_now (r : SolveReq) : (s.solveSubmit r).now = s.now := by
  have hput (k : Pkg) (l : List SolveReq) : Pkg.now { k with solveWait := l } = k.now := rfl
  simp only [Pkg.solveSubmit, hput, apply_ite Pkg.now, Pkg.peak_now, ite_self]
  rfl

@[simp] theorem Pkg.hold_now (p code : Nat) : (s.hold p code).now = s.now := by
  unfold Pkg.hold
  dsimp only
  split <;> rfl

@[simp] theorem Pkg.deliveryFailed_now (part tile seq node code : Nat) : (s.deliveryFailed part tile seq node code).now = s.now := by
  rw [Pkg.deliveryFailed, Pkg.hold_now, Pkg.raise_now]

@[simp] theorem Pkg.addrError_now (p a n : Nat) : (s.addrError p a n).now = s.now := by
  simp only [Pkg.addrError, apply_ite Pkg.now, Pkg.bump_now, ite_self]

@[simp] theorem Pkg.sendLocal_now (m : Send) : (s.sendLocal m).now = s.now := by
  unfold Pkg.sendLocal Pkg.sendFabric
  dsimp only
  split
  · rw [Pkg.sendNext_now]
    exact Pkg.now_of_rest (Pkg.countWrite_rest _ _ _ _ _)
  · rw [Pkg.deliveryFailed_now, Pkg.bump_now, Pkg.addrError_now]

@[simp] theorem Pkg.sendReq_now (part : Nat) (src : ReqSrc) (h : Hdr) (payload : List Byte) (msg : Nat) : (s.sendReq part src h payload msg).1.now = s.now :=
  Pkg.now_of_rest (Pkg.rest_of_unsent (s.sendReq_unsent part src h payload msg))

end

/-- One committed send, with those that wait before it (11:R354). -/
def Pkg.pumpOne (acc : Pkg × List Send) (m : Send) : Pkg × List Send :=
  let s := acc.1
  if s.sendBlocked acc.2 m then (s, acc.2 ++ [m])
  else if m.node = s.node then (s.sendLocal m, acc.2)
  else
    let (s, c) := s.sendReq m.part (.send m.tile m.seq) (Hdr.dec m.packet) (m.packet.drop 32) m.msg
    (if c = 0 then s else s.deliveryFailed m.part m.tile m.seq m.node c, acc.2)

theorem Pkg.pumpSends_eq (s : Pkg) :
    s.pumpSends =
      let r := s.net.sends.foldl Pkg.pumpOne ({ s with net := { s.net with sends := [] } }, [])
      { r.1 with net := { r.1.net with sends := r.2 } } := rfl

theorem Pkg.pumpOne_now (acc : Pkg × List Send) (m : Send) : (Pkg.pumpOne acc m).1.now = acc.1.now := by
  unfold Pkg.pumpOne
  simp only [apply_ite Prod.fst, apply_ite Pkg.now, Pkg.sendLocal_now, Pkg.deliveryFailed_now, Pkg.sendReq_now, ite_self]

@[simp] theorem Pkg.pumpSends_now (s : Pkg) : s.pumpSends.now = s.now := by
  rw [Pkg.pumpSends_eq]
  exact Pkg.foldl_fst_now Pkg.pumpOne_now s.net.sends _

end Sys2Proof
end

section
/-!
PROOF. A contribution advances its collective, and moves no clock (12:R378 to R397).
-/

namespace Sys2Proof

open Sys2Proof.Machine

section
variable (s : Pkg)

@[simp] theorem Pkg.setColl_rest (c : Coll) : (s.setColl c).rest = s.rest := rfl

@[simp] theorem Pkg.modColl_rest (p seq : Nat) (f : Coll → Coll) : (s.modColl p seq f).rest = s.rest := by
  unfold Pkg.modColl
  split <;> rfl

@[simp] theorem Pkg.modChunk_rest (p seq k : Nat) (f : CChunk → CChunk) : (s.modChunk p seq k f).rest = s.rest := by
  simp only [Pkg.modChunk, Pkg.keepChunk, Pkg.modColl_rest]

end

@[simp] theorem Pkg.collStream_rest (s : Pkg) (p seq node kind idx : Nat) (bs : List Byte) : (s.collStream p seq node kind idx bs).1.rest = s.rest := by
  unfold Pkg.collStream
  dsimp only
  refine List.foldlRecOn (motive := fun (x : Pkg × Nat) => x.1.rest = s.rest) _ _ rfl fun x hx i _ => ?_
  split
  · exact hx
  · exact (Pkg.rest_of_unsent (Pkg.collSend_unsent _ _ _ _ _ _ _)).trans hx

section
variable (s : Pkg)

@[simp] theorem Pkg.collOut_rest (p seq node kind idx : Nat) (bs : List Byte) : (s.collOut p seq node kind idx bs).rest = s.rest := by
  unfold Pkg.collOut
  simp only [apply_ite Pkg.rest, Pkg.collAbort_rest, Pkg.collStream_rest, ite_self]

@[simp] theorem Pkg.collOutKids_rest (c : Coll) (kind idx : Nat) (bs : List Byte) : (s.collOutKids c kind idx bs).rest = s.rest :=
  Pkg.foldl_keeps Pkg.rest (fun k (n : Nat) => k.collOut_rest c.part c.seq n kind idx bs) _ s

/-- Each look at a chunk (12:R382 to R396). -/
@[simp] theorem Pkg.collGrant_rest (c : Coll) (k : Nat) : (s.collGrant c k).rest = s.rest := by
  simp only [Pkg.collGrant, apply_ite Pkg.rest, Pkg.collOutKids_rest, Pkg.modColl_rest, Pkg.modChunk_rest, ite_self]

@[simp] theorem Pkg.collPass1_rest (c : Coll) (k : Nat) : (s.collPass1 c k).rest = s.rest := by
  unfold Pkg.collPass1
  dsimp only
  split
  · rfl
  split
  · rfl
  split
  · exact s.collAbort_rest _ _ _ _ _ _
  split
  · rw [Pkg.collOut_rest, Pkg.modChunk_rest]
  · rw [Pkg.collOutKids_rest, Pkg.modColl_rest, Pkg.modChunk_rest]

@[simp] theorem Pkg.collForm_rest (c : Coll) (k g : Nat) (t : Seg) : (s.collForm c k g t).rest = s.rest := by
  simp only [Pkg.collForm, Pkg.collOutKids_rest, Pkg.modChunk_rest, Pkg.dstorePut_rest]

@[simp] theorem Pkg.collSegment_rest (c : Coll) (k : Nat) : (s.collSegment c k).rest = s.rest := by
  unfold Pkg.collSegment
  dsimp only
  generalize (if (c.parent s.node).isSome = true then min (c.chunk k).grant (c.allowed k) else c.allowed k) = limit
  split
  · rfl
  split
  · exact s.collAbort_rest _ _ _ _ _ _
  split
  · split
    · exact s.collForm_rest _ _ _ _
    · rw [Pkg.collOut_rest, Pkg.modChunk_rest]
  · rfl

@[simp] theorem Pkg.collHdr_rest (c : Coll) (k : Nat) : (s.collHdr c k).rest = s.rest := by
  unfold Pkg.collHdr
  dsimp only
  split
  · rfl
  split
  · rw [Pkg.collOut_rest, Pkg.modChunk_rest]
  · rw [Pkg.collOutKids_rest, Pkg.modChunk_rest]

@[simp] theorem Pkg.collDone_rest (c : Coll) (k : Nat) : (s.collDone c k).rest = s.rest := by
  simp only [Pkg.collDone, apply_ite Pkg.rest, Pkg.setColl_rest, ite_self]

@[simp] theorem Pkg.collFinish_rest (c : Coll) : (s.collFinish c).rest = s.rest := by
  simp only [Pkg.collFinish, Pkg.foldl_keeps Pkg.rest fun k (i : Nat) => k.bump_rest _ (0x0D + i) _, Pkg.setEnt_rest, Pkg.bump_rest,
    apply_ite Pkg.rest, Pkg.collRecord_rest, ite_self]

end

/-- A look at what a chunk of an admitted collective can do next. -/
def Pkg.look (p seq k : Nat) (s : Pkg) (f : Pkg → Coll → Nat → Pkg) : Pkg :=
  match s.coll p seq with
  | some c => if c.admitted then f s c k else s
  | none => s

theorem Pkg.look_rest (p seq k : Nat) (s : Pkg) {f : Pkg → Coll → Nat → Pkg} (hf : ∀ s c k, (f s c k).rest = s.rest) : (Pkg.look p seq k s f).rest = s.rest := by
  unfold Pkg.look
  split
  · rw [apply_ite Pkg.rest, hf, ite_self]
  · rfl

@[simp] theorem Pkg.collChunk_rest (s : Pkg) (p seq k : Nat) : (s.collChunk p seq k).rest = s.rest := by
  have hlooks : s.collChunk p seq k = Pkg.look p seq k (Pkg.look p seq k (Pkg.look p seq k (Pkg.look p seq k (Pkg.look p seq k s Pkg.collGrant)
      Pkg.collPass1) Pkg.collSegment) Pkg.collHdr) Pkg.collDone := rfl
  rw [hlooks, Pkg.look_rest _ _ _ _ Pkg.collDone_rest, Pkg.look_rest _ _ _ _ Pkg.collHdr_rest, Pkg.look_rest _ _ _ _ Pkg.collSegment_rest,
    Pkg.look_rest _ _ _ _ Pkg.collPass1_rest, Pkg.look_rest _ _ _ _ Pkg.collGrant_rest]

@[simp] theorem Pkg.collFlag_rest (p seq fuel : Nat) (s : Pkg) : (s.collFlag p seq fuel).rest = s.rest := by
  induction fuel generalizing s with
  | zero => rfl
  | succ fuel ih =>
    rw [Pkg.collFlag]
    split
    · rfl
    · simp only [apply_ite Pkg.rest, ih, Pkg.setEnt_rest, Pkg.dropColl_rest, Pkg.dwordInc, Pkg.dstorePut_rest, Pkg.setColl_rest, Pkg.collFinish_rest, ite_self]

@[simp] theorem Pkg.collAdvance_rest (p seq fuel : Nat) (s : Pkg) : (s.collAdvance p seq fuel).rest = s.rest := by
  induction fuel generalizing s with
  | zero => rfl
  | succ fuel ih =>
    rw [Pkg.collAdvance]
    split
    · rfl
    · simp only [apply_ite Pkg.rest, ih, Pkg.collFlag_rest, Pkg.foldl_keeps Pkg.rest fun m (k : Nat) => m.collChunk_rest p seq k, ite_self]

section
variable (s : Pkg)

@[simp] theorem Pkg.collGo_rest (p seq : Nat) : (s.collGo p seq).rest = s.rest := by
  unfold Pkg.collGo
  split
  · exact Pkg.collAdvance_rest _ _ _ _
  · rfl

@[simp] theorem Pkg.collJoin_rest (c : Coll) (tile : Nat) (desc : List Byte) (at_ : Nat) : (s.collJoin c tile desc at_).rest = s.rest := by
  simp only [Pkg.collJoin, apply_ite Pkg.rest, Pkg.collAbort_rest, Pkg.setColl_rest, ite_self]

@[simp] theorem Pkg.contribute_rest (p tile : Nat) (desc : List Byte) : (s.contribute p tile desc).rest = s.rest := by
  have hwait (k : Pkg) (l : List (Nat × Nat × List Byte × Nat)) : Pkg.rest { k with collWait := l } = k.rest := rfl
  unfold Pkg.contribute
  dsimp only
  split
  · rw [Pkg.collGo_rest, Pkg.collJoin_rest]
  · rw [hwait, apply_ite Pkg.rest, Pkg.bump_rest, ite_self]

end

/-- One held operation of a committed ply goes to its engine or its commit queue (03:R94). -/
def Pkg.releaseOne (n p : Nat) (s : Pkg) (h : Nat × Held) : Pkg :=
  match h.2 with
  | .tier d => s.tierMove n d
  | .send node a d => s.queueSend n node a d
  | .solve hdr k =>
    let s := { s with stamp := s.stamp + 1 }
    s.solveSubmit { tile := n, part := p, hdr := hdr, count := k, stamp := s.stamp, at_ := s.tempo.now }
  | .coll d => s.contribute p n d
  | _ => s

theorem Pkg.releaseHeld_eq (s : Pkg) (n : Nat) (buf : List (Nat × Held)) :
    s.releaseHeld n buf = (buf.foldl (Pkg.releaseOne n ((s.tile n).part - 1)) s).pumpSends := rfl

theorem Pkg.releaseOne_now (n p : Nat) (s : Pkg) (h : Nat × Held) : (Pkg.releaseOne n p s h).now = s.now := by
  unfold Pkg.releaseOne
  split
  · exact s.tierMove_now _ _
  · exact s.queueSend_now _ _ _ _
  · exact Pkg.solveSubmit_now _ _
  · exact Pkg.now_of_rest (s.contribute_rest _ _ _)
  · rfl

@[simp] theorem Pkg.releaseHeld_now (s : Pkg) (n : Nat) (buf : List (Nat × Held)) : (s.releaseHeld n buf).now = s.now := by
  rw [Pkg.releaseHeld_eq, Pkg.pumpSends_now, Pkg.foldl_keeps Pkg.now (Pkg.releaseOne_now _ _)]

end Sys2Proof
end

section
/-!
PROOF. The commit of a ply (03:R94): the writes before it reach their S-dies, its record is written, what it holds is released, and the
tile enters its next ply.
-/

namespace Sys2Proof

open Sys2Proof.Machine

/-- A tile but for what each S-die has applied of its writes. -/
def Tile.unapplied (t : Tile) : Tile := { t with applied := [] }

section
variable (s : Pkg)

@[simp] theorem Pkg.dstorePut_tiles (a : Nat) (d : List Byte) : (s.dstorePut a d).tiles = s.tiles := rfl

@[simp] theorem Pkg.countWrite_tiles (p home a n : Nat) : (s.countWrite p home a n).tiles = s.tiles := by
  simp only [Pkg.countWrite, apply_ite Pkg.tiles, Pkg.bump_tiles, ite_self]

@[simp] theorem Pkg.dstoreAcc_tiles (p a : Nat) (d : List Byte) : (s.dstoreAcc p a d).tiles = s.tiles := by
  simp only [Pkg.dstoreAcc, Pkg.bump_tiles, Pkg.dstorePut_tiles]

@[simp] theorem Pkg.writeThrough_tiles (h a : Nat) (d : List Byte) : (s.writeThrough h a d).tiles = s.tiles := by
  simp only [Pkg.writeThrough, Pkg.dropResv_tiles, Pkg.bump_tiles]

theorem Pkg.applyHart_tiles (w : DWrite) : (s.applyHart w).tiles = s.tiles := by
  simp only [Pkg.applyHart, apply_ite Pkg.tiles, Pkg.writeThrough_tiles, Pkg.countWrite_tiles, Pkg.setHart_tiles, ite_self]

/-- A write that an S-die applies leaves of each tile all but what is noted as applied. -/
theorem Pkg.tile_applyTile (w : DWrite) (u : Nat) : ((s.applyTile w).tile u).unapplied = (s.tile u).unapplied := by
  have happlied (x : Tab Nat) : ((s.setTile w.unit { s.tile w.unit with applied := x }).tile u).unapplied = (s.tile u).unapplied := by
    by_cases hu : u = w.unit
    · subst hu
      rw [Pkg.tile_setTile]
      rfl
    · rw [Pkg.tile_setTile_other _ _ hu]
  unfold Pkg.applyTile
  dsimp only
  split
  · rfl
  split
  · rw [Pkg.tile_of_tiles (Pkg.dstoreAcc_tiles _ _ _ _), Pkg.tile_of_tiles (Pkg.countWrite_tiles _ _ _ _ _), happlied]
  · rw [Pkg.tile_of_tiles (Pkg.dstorePut_tiles _ _ _), Pkg.tile_of_tiles (Pkg.countWrite_tiles _ _ _ _ _), happlied]

theorem Pkg.tile_applyWrite (w : DWrite) (u : Nat) : ((s.applyWrite w).tile u).unapplied = (s.tile u).unapplied := by
  unfold Pkg.applyWrite
  split
  · exact s.tile_applyTile w u
  · rw [Pkg.tile_of_tiles (s.applyHart_tiles w)]
  · split <;> rfl

theorem Pkg.tile_applyOne (die tile : Nat) (w : DWrite) (u : Nat) : ((s.applyOne die tile w).tile u).unapplied = (s.tile u).unapplied := by
  unfold Pkg.applyOne
  dsimp only
  split
  · rfl
  · exact Pkg.tile_applyWrite _ w u

theorem Pkg.tile_applyTileWrites (n u : Nat) : ((s.applyTileWrites n).tile u).unapplied = (s.tile u).unapplied := by
  unfold Pkg.applyTileWrites
  exact Pkg.foldl_keeps (fun k : Pkg => (k.tile u).unapplied)
    (fun k (e : Nat × SDie) => Pkg.foldl_keeps (fun k : Pkg => (k.tile u).unapplied) (fun m (w : DWrite) => m.tile_applyOne e.1 (n + 1) w u) _ k) _ _

/-- With nothing on its way nothing reaches an S-die. -/
theorem Pkg.applyTileWrites_of_empty {s : Pkg} (h : ∀ d ∈ s.sdies, d.2.arriving = []) (n : Nat) : s.applyTileWrites n = s := by
  unfold Pkg.applyTileWrites
  refine List.foldlRecOn (motive := fun k : Pkg => k = s) _ _ rfl fun k hk d hd => ?_
  dsimp only
  rw [h d hd]
  exact hk

/-- The ply that follows a committed one is a gambit ply (03:R99, R100). -/
def Pkg.nextGambit (s : Pkg) (n : Nat) : Bool :=
  let t := s.tile n
  t.fend = some true && (s.part (t.part - 1)).mem.gambit && !(s.tickPassed (t.part - 1) (if t.fend.isSome then t.frame + 1 else t.frame))

/-- The record of the next ply is written and the release writes of this one go out (03:R94, 08:R252). -/
def Pkg.plyBegun (s : Pkg) (n : Nat) : Pkg :=
  let t := s.tile n
  let lines := t.stores.flatMap (fun w => linesOf w.1 w.2.1.length)
  ((List.range t.releases.length).zip t.releases).foldl
    (fun k r => k.release { src := 0, unit := n, part := t.part - 1, seq := t.seq, idx := t.stores.length + r.1, addr := r.2.1, data := natLe 8 r.2.2 } lines)
    (s.dstorePut (s.recAddr n (t.seq + 1))
      (t.record (t.seq + 1) (if t.fend.isSome then t.frame + 1 else t.frame) t.core.pc (s.nextGambit n)))

/-- What the ply holds is released and the commit is counted (03:R94, R117). -/
def Pkg.plyReleased (s : Pkg) (n : Nat) : Pkg :=
  let t := s.tile n
  let p := t.part - 1
  let k := (s.plyBegun n).releaseHeld n t.buf
  let k := (k.bump (0x2210 + p) 0x0C 1).peak (0x2210 + p) 0x12 (k.span n / 4500)
  if t.gambit then k.bump (0x2210 + p) 0x0E 1 else k

/-- The tile as it enters its next ply, with the digest of its frame. -/
def Pkg.plyEntered (s : Pkg) (n D : Nat) : Tile :=
  let t := s.tile n
  let k := s.plyReleased n
  { (k.tile n).enter k.tempo.now with
    seq := t.seq + 1, frame := if t.fend.isSome then t.frame + 1 else t.frame, digest := D, gambit := s.nextGambit n
    frameEnd := (k.tile n).frameEnd || t.fend.isSome
    mode := if t.fend.isSome && !(s.nextGambit n) then .frameDone else .running }

theorem Pkg.commitPly_stages (s : Pkg) (n : Nat) : ∃ D, s.commitPly n =
    let k := s.applyTileWrites n
    let m := ((k.plyReleased n).setTile n (k.plyEntered n D)).recoverCommit n
    if (k.tile n).fend.isSome then m.tileEnded n else m :=
  ⟨_, rfl⟩

theorem Pkg.plyReleased_now (n : Nat) : (s.plyReleased n).now = s.now := by
  simp only [Pkg.plyReleased, apply_ite Pkg.now, Pkg.bump_now, Pkg.peak_now, Pkg.releaseHeld_now, ite_self, Pkg.plyBegun,
    Pkg.foldl_keeps Pkg.now fun k (r : Nat × Nat × Nat) => k.release_now _ _, Pkg.dstorePut_now]

/-- The tile after a commit. -/
theorem Pkg.tile_commitPly (n : Nat) : ∃ D, (s.commitPly n).tile n = (s.applyTileWrites n).plyEntered n D := by
  obtain ⟨D, hcommit⟩ := s.commitPly_stages n
  refine ⟨D, ?_⟩
  rw [hcommit]
  dsimp only
  rw [apply_ite (Pkg.tile · n), Pkg.tile_of_tiles (Pkg.tileEnded_tiles _ n), ite_self, Pkg.tile_of_tiles (Pkg.recoverCommit_tiles _ n), Pkg.tile_setTile]

end

end Sys2Proof
end

section
/-!
PROOF. Events of plies (03:R94 to R96, 06:R203, 13:R406): commit, watchdog, replay, and the operand cache's errors.
-/

namespace Sys2Proof

open Sys2Proof.Machine

section
variable {α : Type} [DecidableEq α] {d : α} {k : Nat} {v : α}

/-- In a canonical table the number of an entry lies above those before it, and its value is no default. -/
theorem Tab.find_of_wfFrom {t : Tab α} {lo : Nat} (h : Tab.wfFrom d (some lo) t = true) (hfind : Tab.find t k = some v) : lo < k ∧ v ≠ d := by
  induction t generalizing lo with
  | nil => cases hfind
  | cons e t ih =>
    obtain ⟨i, w⟩ := e
    simp only [Tab.wfFrom, Bool.and_eq_true, decide_eq_true_eq] at h
    obtain ⟨⟨hlo, hw⟩, ht⟩ := h
    rw [Tab.find] at hfind
    split at hfind
    · rename_i hik
      subst hik
      exact ⟨hlo, Option.some.inj hfind ▸ hw⟩
    · obtain ⟨hik, hv⟩ := ih ht hfind
      exact ⟨Nat.lt_trans hlo hik, hv⟩

theorem Tab.insert_of_find {t : Tab α} {lo : Option Nat} (h : Tab.wfFrom d lo t = true) (hfind : Tab.find t k = some v) : Tab.insert t k v = t ∧ v ≠ d := by
  induction t generalizing lo with
  | nil => cases hfind
  | cons e t ih =>
    obtain ⟨i, w⟩ := e
    simp only [Tab.wfFrom, Bool.and_eq_true, decide_eq_true_eq] at h
    obtain ⟨⟨-, hw⟩, ht⟩ := h
    rw [Tab.find] at hfind
    rw [Tab.insert]
    split at hfind
    · rename_i hik
      subst hik
      obtain rfl := Option.some.inj hfind
      rw [if_neg (Nat.lt_irrefl _), if_pos rfl]
      exact ⟨rfl, hw⟩
    · rename_i hik
      have hlt := (Tab.find_of_wfFrom ht hfind).1
      obtain ⟨hins, hv⟩ := ih ht hfind
      rw [if_neg (by omega), if_neg hik, hins]
      exact ⟨rfl, hv⟩

omit [DecidableEq α] in
theorem Tab.erase_of_find_none {t : Tab α} (hfind : Tab.find t k = none) : Tab.erase t k = t := by
  induction t with
  | nil => rfl
  | cons e t ih =>
    obtain ⟨i, w⟩ := e
    rw [Tab.find] at hfind
    split at hfind
    · cases hfind
    · rename_i hik
      rw [Tab.erase, if_neg hik, ih hfind]

/-- Writing what a canonical table holds leaves it as it is. -/
theorem Tab.set_get_of_wf {t : Tab α} (h : Tab.wf d t = true) (k : Nat) : Tab.set d t k (Tab.get d t k) = t := by
  rw [Tab.get_eq_find]
  unfold Tab.set
  cases hfind : Tab.find t k with
  | none => exact (if_pos rfl).trans (Tab.erase_of_find_none hfind)
  | some v =>
    obtain ⟨hins, hv⟩ := Tab.insert_of_find h hfind
    exact (if_neg hv).trans hins

end

/-- Bytes read and written back. -/
theorem Mem.writeN_readN {m : Mem} (h : Memory.wf m = true) (a n : Nat) : m.writeN a (m.readN a n) = m := by
  induction n generalizing a with
  | zero => rfl
  | succ n ih =>
    rw [Mem.readN, Mem.writeN, show m.write a (m.read a) = m from Tab.set_get_of_wf h a]
    exact ih _

section
variable (s : Pkg) (n : Nat)

/-- With no open recovery a commit repairs nothing (13:R404). -/
theorem Pkg.recoverCommit_of_none {s : Pkg} (h : s.fault.open_ = []) : s.recoverCommit n = s := by
  have hsame : { s with fault := { s.fault with open_ := s.fault.open_ } } = s := rfl
  rw [h] at hsame
  simp only [Pkg.recoverCommit, Pkg.recoverTile, h, List.partition_eq_filter_filter, List.filter_nil, List.foldl_nil]
  exact hsame

/-- With nothing in the commit queues nothing is sent (11:R354). -/
theorem Pkg.pumpSends_of_empty {s : Pkg} (h : s.net.sends = []) : s.pumpSends = s := by
  have hsame : { s with net := { s.net with sends := s.net.sends } } = s := rfl
  rw [h] at hsame
  rw [Pkg.pumpSends_eq, h]
  exact hsame

theorem Pkg.ent_dstorePut (a : Nat) (d : List Byte) (i j : Nat) : (s.dstorePut a d).ent i j = s.ent i j := rfl

theorem Pkg.ent_peak_other {i j a b : Nat} (m : Nat) (h : dkey a b ≠ dkey i j) : (s.peak i j m).ent a b = s.ent a b := by
  unfold Pkg.peak
  split
  · exact s.ent_setEnt_other _ h
  · rfl

/-- A ply with an empty buffer releases nothing: its record is written and it is counted. -/
theorem Pkg.plyReleased_of_empty {s : Pkg} {n : Nat} (hbuf : (s.tile n).buf = []) (hsends : s.net.sends = []) :
    s.plyReleased n =
      let t := s.tile n
      let p := t.part - 1
      let k := s.dstorePut (s.recAddr n (t.seq + 1)) (t.record (t.seq + 1) (if t.fend.isSome then t.frame + 1 else t.frame) t.core.pc (s.nextGambit n))
      let m := (k.bump (0x2210 + p) 0x0C 1).peak (0x2210 + p) 0x12 (k.span n / 4500)
      if t.gambit then m.bump (0x2210 + p) 0x0E 1 else m := by
  have hrel : (s.tile n).releases = [] := by
    unfold Tile.releases
    rw [hbuf]
    rfl
  have hbegun : s.plyBegun n = s.dstorePut (s.recAddr n ((s.tile n).seq + 1)) ((s.tile n).record ((s.tile n).seq + 1)
      (if (s.tile n).fend.isSome then (s.tile n).frame + 1 else (s.tile n).frame) (s.tile n).core.pc (s.nextGambit n)) := by
    unfold Pkg.plyBegun
    dsimp only
    rw [hrel]
    rfl
  have hheld : (s.plyBegun n).releaseHeld n [] = s.plyBegun n := by
    rw [Pkg.releaseHeld_eq, List.foldl_nil]
    refine Pkg.pumpSends_of_empty ?_
    rw [hbegun]
    exact hsends
  unfold Pkg.plyReleased
  dsimp only
  rw [hbuf, hheld, hbegun]

/-- What a commit leaves of a tile (03:R94, R97). -/
theorem Pkg.tile_commitPly_facts :
    let t := s.tile n
    let u := (s.commitPly n).tile n
    u.seq = t.seq + 1 ∧ u.frame = (if t.fend.isSome then t.frame + 1 else t.frame) ∧ u.buf = [] ∧ u.ops = [] ∧ u.ticket = 0 ∧ u.elist = []
      ∧ u.active = 0 ∧ u.entered = s.tempo.now ∧ (u.mode = .running ∨ (t.fend.isSome = true ∧ u.mode = .frameDone)) := by
  intro t u
  obtain ⟨D, hu⟩ := s.tile_commitPly n
  have happlied := s.tile_applyTileWrites n n
  have hseq : ((s.applyTileWrites n).tile n).seq = t.seq :=
    (congrArg Tile.seq happlied : ((s.applyTileWrites n).tile n).unapplied.seq = (s.tile n).unapplied.seq)
  have hframe : ((s.applyTileWrites n).tile n).frame = t.frame :=
    (congrArg Tile.frame happlied : ((s.applyTileWrites n).tile n).unapplied.frame = (s.tile n).unapplied.frame)
  have hfend : ((s.applyTileWrites n).tile n).fend = t.fend :=
    (congrArg Tile.fend happlied : ((s.applyTileWrites n).tile n).unapplied.fend = (s.tile n).unapplied.fend)
  have hnow : ((s.applyTileWrites n).plyReleased n).tempo.now = s.tempo.now := ((s.applyTileWrites n).plyReleased_now n).trans (s.applyTileWrites_now n)
  have hu' : u = (s.applyTileWrites n).plyEntered n D := hu
  rw [hu']
  unfold Pkg.plyEntered
  dsimp only [Tile.enter]
  rw [hseq, hframe, hfend, hnow]
  refine ⟨rfl, rfl, rfl, rfl, rfl, rfl, rfl, rfl, ?_⟩
  by_cases hend : (t.fend.isSome && !((s.applyTileWrites n).nextGambit n)) = true
  · rw [if_pos hend]
    exact .inr ⟨(Bool.and_eq_true_iff.1 hend).1, rfl⟩
  · rw [if_neg hend]
    exact .inl rfl

/-- A ply whose mark is no frame's end is followed by no gambit ply. -/
theorem Pkg.nextGambit_of_no_end {s : Pkg} {n : Nat} (h : (s.tile n).fend = none) : s.nextGambit n = false := by
  unfold Pkg.nextGambit
  dsimp only
  rw [h]
  rfl

theorem Pkg.plyReleased_fault {s : Pkg} {n : Nat} (hbuf : (s.tile n).buf = []) (hsends : s.net.sends = []) : (s.plyReleased n).fault = s.fault := by
  rw [Pkg.plyReleased_of_empty hbuf hsends]
  simp only [apply_ite Pkg.fault, bump_fault, peak_fault, dstorePut_fault, ite_self]

theorem Pkg.plyReleased_tiles {s : Pkg} {n : Nat} (hbuf : (s.tile n).buf = []) (hsends : s.net.sends = []) : (s.plyReleased n).tiles = s.tiles := by
  rw [Pkg.plyReleased_of_empty hbuf hsends]
  simp only [apply_ite Pkg.tiles, Pkg.bump_tiles, Pkg.peak_tiles, Pkg.dstorePut_tiles, ite_self]

theorem Pkg.plyReleased_dstore {s : Pkg} {n : Nat} (hbuf : (s.tile n).buf = []) (hsends : s.net.sends = []) (hfend : (s.tile n).fend = none) :
    (s.plyReleased n).dstore
      = (s.dstorePut (s.recAddr n ((s.tile n).seq + 1)) ((s.tile n).record ((s.tile n).seq + 1) (s.tile n).frame (s.tile n).core.pc false)).dstore := by
  rw [Pkg.plyReleased_of_empty hbuf hsends]
  dsimp only
  rw [Pkg.nextGambit_of_no_end hfend, hfend]
  simp only [apply_ite Pkg.dstore, Pkg.bump_dstore, Pkg.peak_dstore, ite_self]
  rfl

theorem Pkg.commits_plyReleased {s : Pkg} {n : Nat} (hbuf : (s.tile n).buf = []) (hsends : s.net.sends = []) :
    (s.plyReleased n).ent (0x2210 + ((s.tile n).part - 1)) 0x0C = s.ent (0x2210 + ((s.tile n).part - 1)) 0x0C + 1 := by
  have hgambits (k : Pkg) (i : Nat) : (k.bump i 0x0E 1).ent i 0x0C = k.ent i 0x0C := k.ent_bump_other 1 (by unfold dkey; omega)
  have hpeak (k : Pkg) (i m : Nat) : (k.peak i 0x12 m).ent i 0x0C = k.ent i 0x0C := k.ent_peak_other m (by unfold dkey; omega)
  rw [Pkg.plyReleased_of_empty hbuf hsends]
  dsimp only
  rw [apply_ite (Pkg.ent · _ 0x0C), hgambits, ite_self, hpeak, Pkg.ent_bump_self, Pkg.ent_dstorePut]

/-- The commit of a ply with nothing in its buffer and nothing on its way, where no fault is open (03:R94). -/
theorem Pkg.commitPly_of_empty {s : Pkg} {n : Nat} (hbuf : (s.tile n).buf = []) (harr : ∀ d ∈ s.sdies, d.2.arriving = []) (hfend : (s.tile n).fend = none)
    (hopen : s.fault.open_ = []) (hsends : s.net.sends = []) :
    let t := s.tile n
    let k := s.commitPly n
    k.dstore = (s.dstorePut (s.recAddr n (t.seq + 1)) (t.record (t.seq + 1) t.frame t.core.pc false)).dstore
      ∧ k.ent (0x2210 + (t.part - 1)) 0x0C = s.ent (0x2210 + (t.part - 1)) 0x0C + 1 ∧ ∀ u, u ≠ n → k.tile u = s.tile u := by
  intro t k
  obtain ⟨D, hstages⟩ := s.commitPly_stages n
  have hk : k = (s.plyReleased n).setTile n (s.plyEntered n D) := by
    refine hstages.trans ?_
    rw [Pkg.applyTileWrites_of_empty harr]
    dsimp only
    rw [if_neg (by simp [hfend])]
    refine Pkg.recoverCommit_of_none n ?_
    rw [← hopen]
    exact congrArg FaultSt.open_ (Pkg.plyReleased_fault hbuf hsends)
  rw [hk]
  refine ⟨Pkg.plyReleased_dstore hbuf hsends hfend, Pkg.commits_plyReleased hbuf hsends, fun u hu => ?_⟩
  rw [Pkg.tile_setTile_other _ _ hu, Pkg.tile_of_tiles (Pkg.plyReleased_tiles hbuf hsends)]

/-- A tile that runs and has used its cap stops (03:R96). -/
theorem plyWatchdog_of_cap {s : Pkg} {n : Nat} (hrun : (s.tile n).mode = .running)
    (hcap : (s.part ((s.tile n).part - 1)).mem.cap * 1500 ≤ (s.tile n).active) : plyWatchdog s n = s.killTile n 0x0106 [] := by
  unfold plyWatchdog
  dsimp only
  refine if_pos (Bool.and_eq_true_iff.2 ⟨?_, decide_eq_true hcap⟩)
  rw [hrun]
  rfl

theorem plyWatchdog_of_below {s : Pkg} {n : Nat} (hcap : (s.tile n).active < (s.part ((s.tile n).part - 1)).mem.cap * 1500) : plyWatchdog s n = s := by
  unfold plyWatchdog
  dsimp only
  refine if_neg fun h => ?_
  have hat : (s.part ((s.tile n).part - 1)).mem.cap * 1500 ≤ (s.tile n).active := of_decide_eq_true (Bool.and_eq_true_iff.1 h).2
  omega

theorem plyCommit_of_not_draining {s : Pkg} {n : Nat} (h : (s.tile n).mode ≠ .draining) : plyCommit s n = s := by
  unfold plyCommit
  simp [h]

theorem Pkg.seq_setTile {s : Pkg} {n m : Nat} (h : (s.tile n).seq = m) (k : Pkg) (f : Tile → Tile) (hf : ∀ t, (f t).seq = t.seq) :
    ((k.setTile n (f (s.tile n))).tile n).seq = m := by
  rw [Pkg.tile_setTile, hf]
  exact h

theorem Tile.seq_wr (t : Tile) (a : Nat) (d : List Byte) : (t.wr a d).seq = t.seq := by
  unfold Tile.wr
  rw [apply_ite Tile.seq, ite_self]

theorem Tile.seq_enter (t : Tile) (now : Nat) : (t.enter now).seq = t.seq := rfl

theorem Pkg.seq_recordTile : ((s.recordTile n).tile n).seq = (s.tile n).seq := by
  rw [Pkg.recordTile, Pkg.tile_setTile]
  exact Tile.seq_enter _ _

/-- Restoring a tile keeps the number of its ply (03:R95). -/
theorem Pkg.seq_restoreTile : ((s.restoreTile n).tile n).seq = (s.tile n).seq := by
  refine List.foldlRecOn (motive := fun k : Pkg => (k.tile n).seq = (s.tile n).seq) _ _ (s.seq_recordTile n) fun k hk e _ => ?_
  rw [← Pkg.tile_of_tiles (k.dsRead_tiles ((s.tile n).part - 1) n e.1 e.2.1)] at hk
  exact Pkg.seq_setTile hk _ (fun t => t.wr e.2.2 _) fun t => t.seq_wr _ _

/-- A restored tile as it goes on: its ply is no gambit ply, and runs at once or when its ramp slot comes (03:R95). -/
def Tile.replayed (ramped : Bool) (t : Tile) : Tile :=
  let u : Tile := { t with gambit := false }
  { u with mode := if ramped then .running else .rampWait }

theorem Pkg.tile_replayTile : ∃ ramped, (s.replayTile n).tile n = ((s.restoreTile n).tile n).replayed ramped := by
  have hset (k m : Pkg) (b : Bool) (h : k.tile n = (s.restoreTile n).tile n) :
      (m.setTile n (Tile.replayed b (k.tile n))).tile n = ((s.restoreTile n).tile n).replayed b := by
    rw [Pkg.tile_setTile, h]
  refine ⟨_, hset ((Pkg.bump _ _ _ _).mapRecovery n _) _ _ ?_⟩
  rw [Pkg.tile_of_tiles (Pkg.mapRecovery_tiles _ _ _), Pkg.tile_of_tiles (Pkg.bump_tiles _ _ _ _)]

theorem Tile.mode_replayed (b : Bool) (t : Tile) : (t.replayed b).mode = .running ∨ (t.replayed b).mode = .rampWait := by
  cases b
  · exact .inr rfl
  · exact .inl rfl

theorem Pkg.tile_replayTile_facts :
    ((s.replayTile n).tile n).gambit = false ∧ ((s.replayTile n).tile n).seq = (s.tile n).seq
      ∧ (((s.replayTile n).tile n).mode = .running ∨ ((s.replayTile n).tile n).mode = .rampWait) := by
  obtain ⟨b, hreplayed⟩ := s.tile_replayTile n
  have hseq (t : Tile) : (t.replayed b).seq = t.seq := rfl
  have hgambit (t : Tile) : (t.replayed b).gambit = false := rfl
  rw [hreplayed, hseq, hgambit]
  exact ⟨rfl, s.seq_restoreTile n, Tile.mode_replayed b _⟩

theorem Tile.wr_rd {t : Tile} (hwf : Memory.wf t.ocache = true) {a : Nat} (ha : a < 0x80000) (m : Nat) : t.wr a (t.rd a m) = t := by
  unfold Tile.wr Tile.rd
  rw [if_pos ha, if_pos ha, Mem.writeN_readN hwf]

theorem ocacheScrub_of_cache {s : Pkg} {n l : Nat} (m : Bool) (hpart : (s.tile n).part ≠ 0) (hl : l < 8192) (hwf : Memory.wf (s.tile n).ocache = true) :
    let p := (s.tile n).part - 1
    let k := ocacheScrub s n l m
    k.tile n = s.tile n ∧ k.ent (0x3860 + p) 6 = s.ent (0x3860 + p) 6 + 1 ∧ k.dstore = s.dstore := by
  intro p k
  have hk : k = if m then s.bump (0x3860 + p) 6 1 else (s.bump (0x3860 + p) 6 1).setTile n (s.tile n) := by
    show ocacheScrub s n l m = _
    unfold ocacheScrub
    dsimp only
    rw [if_neg (by simp [hpart]; omega), if_neg (by omega), Tile.wr_rd hwf (by omega)]
  rw [hk]
  cases m
  · rw [if_neg Bool.false_ne_true]
    exact ⟨Pkg.tile_setTile _ _ _, Pkg.ent_bump_self _ _ _ _, Pkg.bump_dstore _ _ _ _⟩
  · rw [if_pos rfl]
    exact ⟨Pkg.tile_bump _ _ _ _ _, Pkg.ent_bump_self _ _ _ _, Pkg.bump_dstore _ _ _ _⟩

theorem ocacheScrub_of_buffer {s : Pkg} {n l : Nat} (m : Bool) (hpart : (s.tile n).part ≠ 0) (hl : 8192 ≤ l) (hl' : l < 11264) :
    ocacheScrub s n l m = s.bump (0x3860 + ((s.tile n).part - 1)) 8 1 := by
  unfold ocacheScrub
  dsimp only
  rw [if_neg (by simp [hpart]; omega), if_pos hl]

theorem Tile.mode_of_busy {t : Tile} (h : t.busy = true) : t.mode = .running ∨ t.mode = .draining ∨ t.mode = .gambitHeld := by
  unfold Tile.busy at h
  simpa [or_assoc] using (Bool.and_eq_true_iff.1 h).2

/-- A busy tile that is faulted loses its ply (03:R95). -/
theorem Pkg.tile_faultTile_of_busy {s : Pkg} {n : Nat} (h : (s.tile n).busy = true) :
    ((s.faultTile n).tile n).mode = .faulted ∧ ((s.faultTile n).tile n).buf = [] := by
  unfold Pkg.faultTile
  dsimp only
  obtain hmode | hmode | hmode := Tile.mode_of_busy h <;> (rw [hmode]; dsimp only; rw [Pkg.tile_setTile]; exact ⟨rfl, rfl⟩)

theorem Pkg.tile_replayInPlace_of_busy {s : Pkg} {n : Nat} (h : (s.tile n).busy = true) :
    ((s.replayInPlace n).tile n).mode = .faulted ∧ ((s.replayInPlace n).tile n).buf = [] := Pkg.tile_faultTile_of_busy h

/-- An error on a busy tile is counted and noted; the third within 1 s fails the site, one before ends the ply (06:R203, 13:R406). -/
theorem ocacheUncorrectable_of_busy {s : Pkg} {n : Nat} (h : (s.tile n).busy = true) :
    let e := (s.bump (0x3860 + ((s.tile n).part - 1)) 7 1).noteError (0x1000000 + n)
    ocacheUncorrectable s n = if 3 ≤ e.1 then (e.2.clearErrors (0x1000000 + n)).siteFail n 0 else e.2.replayInPlace n := by
  unfold ocacheUncorrectable siteKey
  dsimp only
  rw [if_neg (by simp [h])]

theorem ocacheUncorrectable_of_idle {s : Pkg} {n : Nat} (h : (s.tile n).busy = false) : ocacheUncorrectable s n = s := by
  unfold ocacheUncorrectable
  dsimp only
  rw [if_pos (by simp [h])]

end

/-- Settles O41: each event acts on the tile it names as its row says. -/
theorem plyEvents : Obligations.PlyEvents := by
  intro s n hn hon t p
  refine ⟨fun h => ?_, fun h => ?_, fun h hbuf harr hfend hopen hsends => ?_, fun h hcap => ?_, fun hcap => ?_, fun h hset => ?_, fun l m hpart hl hwf => ?_,
    fun l m hpart hl hl' => ?_, fun h => ?_, fun h => ?_⟩
  · exact gives_onTile (exec_plyCommit n s) hn hon (plyCommit_of_not_draining h)
  · exact ⟨_, gives_onTile (exec_plyCommit n s) hn hon (plyCommit_of_draining h), s.pkg.tile_commitPly_facts n⟩
  · exact ⟨_, gives_onTile (exec_plyCommit n s) hn hon (plyCommit_of_draining h), Pkg.commitPly_of_empty hbuf harr hfend hopen hsends⟩
  · have hacted : TileActed n s.pkg (s.pkg.killTile n 0x0106 []) := (TileActed.refl n s.pkg).killTile _ _
    refine ⟨_, gives_onTile (exec_plyWatchdog n s) hn hon (plyWatchdog_of_cap h hcap), s.pkg.tile_killTile n _ _, hacted.others, ?_, s.pkg.reports_killTile n _ _,
      s.pkg.part_killTile_of_running n _ _⟩
    rw [← Pkg.dstore_aside, hacted.aside, Pkg.dstore_aside]
  · exact gives_onTile (exec_plyWatchdog n s) hn hon (plyWatchdog_of_below hcap)
  · exact ⟨gives_replay hn hon h hset, s.pkg.tile_replayTile_facts n⟩
  · exact ⟨_, gives_onTile (exec_ocacheScrub n l m s) hn hon rfl, ocacheScrub_of_cache m hpart hl hwf⟩
  · exact gives_onTile (exec_ocacheScrub n l m s) hn hon (ocacheScrub_of_buffer m hpart hl hl')
  · exact gives_onTile (exec_ocacheUncorrectable n s) hn hon (ocacheUncorrectable_of_idle h)
  · have hnoted : (((s.pkg.bump (0x3860 + p) 7 1).noteError (0x1000000 + n)).2.tile n).busy = true :=
      (congrArg Tile.busy (Pkg.tile_bump s.pkg (0x3860 + p) 7 1 n)).trans h
    refine ⟨fun hfew => ?_, fun hthird => ?_, Pkg.tile_replayInPlace_of_busy hnoted⟩
    · exact gives_onTile (exec_ocacheUncorrectable n s) hn hon ((ocacheUncorrectable_of_busy h).trans (if_neg (Nat.not_le.2 hfew)))
    · exact gives_onTile (exec_ocacheUncorrectable n s) hn hon ((ocacheUncorrectable_of_busy h).trans (if_pos hthird))

end Sys2Proof
end
